-- ==== Sys2Proof/Word.lean ====
section
/-! DEFINITION. The word types of the model and their plainest arithmetic. -/
namespace Sys2Proof

/-- One byte of memory. -/
abbrev Byte := BitVec 8
/-- A register word (R3). -/
abbrev Word := BitVec 32
/-- An instruction word of Calibre (R79) and a 64-bit memory word (R28). -/
abbrev Word64 := BitVec 64
/-- An address of the 40-bit address space (R3). -/
abbrev Addr := BitVec 40
/-- A master identifier (R17). -/
abbrev Master := BitVec 8
/-- The number of a laser, head, escapement or regulator, 00 to 23. -/
abbrev Unit24 := Fin 24
/-- A servo axis: head * 3 + axis. -/
abbrev Axis72 := Fin 72

/-- `w`-bit two's complement reading of a natural number. -/
def sgn (w n : Nat) : Int :=
  let m := n % 2 ^ w
  if m < 2 ^ (w - 1) then (m : Int) else (m : Int) - (2 ^ w : Nat)

/-- `w`-bit two's complement encoding of an integer. -/
def enc (w : Nat) (z : Int) : Nat := (z % ((2 ^ w : Nat) : Int)).toNat

/-- Bits `hi` down to `lo` of a number. -/
def bits (n hi lo : Nat) : Nat := (n >>> lo) % 2 ^ (hi + 1 - lo)

/-- Bit `i` of a number. -/
def bit (n i : Nat) : Bool := n.testBit i

/-- 1 for true, 0 for false. -/
def b2n (b : Bool) : Nat := if b then 1 else 0

/-- The nearer end of an interval for a value outside it. -/
def clampI (lo hi z : Int) : Int := if z < lo then lo else if hi < z then hi else z

end Sys2Proof
end

