-- ==== Sys2Proof/Syntax.lean ====
section
/-! DEFINITION. The commands of the block: one constructor per row of spec/opcode_table.json, with its operands. -/
namespace Sys2Proof

/-- A bus access: a read of `n` bytes or a write of the bytes given, lowest address first (R3, R4). -/
inductive Access where
  | read (n : Nat)
  | write (data : List Byte)
  deriving DecidableEq, Repr

/-- What the check bits of the word accessed say (R28, R600). -/
inductive Ecc where
  | clean
  | corrected
  | uncorrectable
  /-- One bit wrong on the wire between controller and DRAM, none in memory (R600). -/
  | link
  deriving DecidableEq, Repr

/-- How a write into the NV array went (R575): verified, or a row that still fails after the retries. -/
inductive NvResult where
  | verified
  | rowFailed
  deriving DecidableEq, Repr

/-- A block reset bit of R554: register SYS_BRST_r and bit. -/
structure BlockId where
  r : Fin 5
  bit : Fin 24
  deriving DecidableEq, Repr

/-- Wake sources of R550 and R556. -/
inductive WakeSrc where
  | wakeN | pcie | skeuz | headLink | interrupt | resetN
  deriving DecidableEq, Repr

/-- A plate origin read from a peer (R270): DIAL_ORG_X, DIAL_ORG_Y and DIAL_TAU of the peer. -/
structure Origin where
  x : Word
  y : Word
  tau : Word
  deriving DecidableEq, Repr

/-- A TRN slot of a head as received (R365): its fields, reserved bits and CRC-16; `stuf`: a stuffing error stands before
its end in the cell (R361). -/
structure TrnSlot where
  crc : BitVec 16
  stuf : Bool
  state : Fin 16
  vmin : Fin 16
  vmax : Fin 16
  rates : BitVec 4
  chv : Fin 16
  chr : Fin 4
  ack : Bool
  eqok : Bool
  cd : Fin 8
  rsv : BitVec 5
  model : Word
  deriving DecidableEq, Repr

/-- A TLM slot of a head as received (R365); `stuf` as for `TrnSlot`; `overflow`: the HLINK queue had no place for it
(R39); `onTime`: its superframe's sync word arrived on the beat U + δ, within 2 beats (R384). -/
structure TlmSlot where
  crc : BitVec 16
  stuf : Bool
  overflow : Bool
  onTime : Bool
  seq : Byte
  hfault : Bool
  miss : Bool
  camdrop : Bool
  hot : Bool
  rsv : BitVec 4
  posX : BitVec 24
  posY : BitVec 24
  posZ : BitVec 24
  ix : BitVec 16
  iy : BitVec 16
  iz : BitVec 16
  cfgack : Byte
  deriving DecidableEq, Repr

/-- A PD slot of a head as received (R365); `stuf` and `overflow` as for `TlmSlot`. -/
structure PdSlot where
  crc : BitVec 16
  stuf : Bool
  overflow : Bool
  pd0 : BitVec 16
  pd1 : BitVec 16
  pd2 : BitVec 16
  deriving DecidableEq, Repr

/-- A packet of the camera stream as received, with its CRC-32 (R368); `overflow`: the PIX-from-HLINK queue had no place
for it (R39). -/
structure CamPacket where
  crc : Word
  overflow : Bool
  typ : Byte
  flags : Byte
  frame : BitVec 16
  line : BitVec 16
  count : BitVec 16
  pixels : List (BitVec 10)
  deriving DecidableEq, Repr

/-- An SVC slot of a head as received, its TYPE aside, which is the command's (R366); `stuf` as for `TrnSlot`. -/
structure SvcSlot where
  crc : BitVec 16
  stuf : Bool
  tag : Byte
  len : BitVec 4
  rsv : BitVec 4
  status : Byte
  addr : Word
  d0 : Word
  d1 : Word
  d2 : Word
  d3 : Word
  tail : Word
  deriving DecidableEq, Repr

/-- A TRESP message of a head (R366, R373): its slot, with t2 in D0 and D1 and t3 in D2 and D3, and t4, the beat the T24
recorded. -/
structure TrespSlot where
  svc : SvcSlot
  t4 : Word64
  deriving DecidableEq, Repr

/-- The head of a flit (R405); its TYPE is the command's, and so is its CLASS (R406). `fine` is the fine part of its
arrival timestamp (R420). With FEC on, `corr` and `lost` are the symbols corrected and the codewords not correctable
since the flit before (R403; log entry 42). -/
structure LinkHead where
  dst : Fin 16
  src : Fin 16
  hops : Fin 16
  lseq : Byte
  lack : Byte
  tag : Byte
  arg : BitVec 16
  crcOk : Bool
  fine : BitVec 6
  corr : Fin 16
  lost : BitVec 4
  deriving DecidableEq, Repr

/-- HELLO (R406): UID, ROOT, DIST, the sending port, and whether the sender is in Join. -/
structure HelloFlit where
  uid : Word64
  root : Word64
  dist : Byte
  port : Fin 4
  inJoin : Bool
  deriving DecidableEq, Repr

/-- TOPO (R406): UID, PREF, PREFEN and the UIDs of the peers on ports 0 to 3. -/
structure TopoFlit where
  uid : Word64
  pref : Fin 16
  prefEn : Bool
  peers : Word64 × Word64 × Word64 × Word64
  deriving DecidableEq, Repr

/-- ASSIGN (R406): UID, ADDR, VALID, NDEV, peer addresses and their valid bits. -/
structure AssignFlit where
  uid : Word64
  addr : Fin 16
  valid : Bool
  ndev : Byte
  peers : BitVec 16
  peerValid : BitVec 4
  deriving DecidableEq, Repr

/-- RREQ and WREQ (R406): the remote address, and the 32 bytes of data of a write; LEN is ARG. -/
structure ReqFlit where
  addr : Addr
  data : List Byte
  deriving DecidableEq, Repr

/-- RRSP and WRSP (R406). -/
structure RspFlit where
  status : Byte
  data : List Byte
  deriving DecidableEq, Repr

/-- TSYNC (R406: T1 in `ta`) and TRESP (T2 in `ta`, T3 in `tb`, SYNCED). -/
structure TimeFlit where
  ta : BitVec 54
  tb : BitVec 54
  synced : Bool
  deriving DecidableEq, Repr

/-- BCAST (R406). -/
structure BcastFlit where
  stamp : BitVec 48
  cmd : Byte
  carg : BitVec 16
  deriving DecidableEq, Repr

/-- REPORT (R406): GROUP and BEAT; its KIND is the command's. -/
structure ReportFlit where
  group : Byte
  beat : BitVec 48
  deriving DecidableEq, Repr

/-- A dial deposit record (R268): its two coordinate words, amplitude and beat words as the flit carries them. -/
structure DepRec where
  w0 : Word
  w1 : Word
  w2 : Word
  w3 : Word
  deriving DecidableEq, Repr

/-- DDEP (R406): up to three records; ARG is their count. -/
structure DdepFlit where
  recs : List DepRec
  deriving DecidableEq, Repr

/-- A CSI-2 long packet at a camera port (R436, R437): whether its header stood or was corrected, virtual channel, data
type, payload CRC, whether the CSI-to-PIX queue overflowed (R442), and the pixels. -/
structure LinePacket where
  headOk : Bool
  vc : Fin 4
  dt : BitVec 6
  crcOk : Bool
  overflow : Bool
  pixels : List (BitVec 14)
  deriving DecidableEq, Repr

/-- What the quad-SPI flash answers when the ROM reads an image copy (R603, R604): whether it answers, the flash offset
of the copy, its 64 header bytes, and the bytes after them. -/
structure FlashResult where
  responds : Bool
  offset : Word
  header : List Byte
  payload : List Byte
  deriving DecidableEq, Repr


/-- The commands. Each constructor is a row of spec/opcode_table.json; its docstring gives the row's rule. -/
inductive Instr where
  /-- R6: A master writes a register that has no row of its own, with the effect its access codes give. -/
  | registerWrite (m : Master) (a : Addr) (v : Word)
  /-- R7: A read of a register with RC fields returns the state and then clears those fields. -/
  | rcRead (m : Master) (a : Addr)
  /-- R5: A read of a _LO register latches the paired _HI value for that master. -/
  | loReadLatch (m : Master) (a : Addr)
  /-- R28: A master reads or writes on-die SRAM under SECDED; a single-bit error is corrected and written back. -/
  | memoryAccess (m : Master) (a : Addr) (acc : Access) (ecc : Ecc)
  /-- R417: An access to a fabric window slot is translated and sent as requests to the remote device. -/
  | fabricWindowAccess (m : Master) (a : Addr) (acc : Access)
  /-- R418: A remote request with no response within 10 µs completes with an error response and frees its tag. -/
  | remoteTimeout (tag : Fin 256)
  /-- R37: REFA is absent or off frequency for 1 µs, which is a laser-safety fault. -/
  | refaFault
  /-- R37: REFB is absent or off frequency for 1 µs, which takes down the Skeuz ports and the PCIe link. -/
  | refbFault
  /-- R34: The barrier link loses lock; the drive die runs on its oscillator and stops moving axes. -/
  | barrierLinkLoss
  /-- R498: The barrier link relocks; the axes stay at rest and LINKLOST stays set. -/
  | barrierLinkRelock
  /-- R45: A write of SYS_MODE_REQ with GO submits a mode request, which is checked against the transition table. -/
  | modeRequest (m : Master) (v : Word)
  /-- R47: The completion condition of a transition holds, and the new mode takes effect on that beat. -/
  | modeTransitionComplete
  /-- R47: A pending request is checked again and starts on the beat after the current transition ends. -/
  | pendingRequestStart
  /-- R48: A transition exceeds TRANS_TO; TIMEOUT is set and the device enters Halted. -/
  | transitionTimeout
  /-- R55: On the arming beat, escapements start prefetch and axes start their approach. -/
  | armingBeat
  /-- R58: Every enabled escapement has executed its final HALT; the device enters Recoat, or reports to the timekeeper. -/
  | layerComplete
  /-- R83: MARK enqueues a straight laser-on segment. -/
  | mark (nn : Unit24) (b : BitVec 58) (w1 : BitVec 64)
  /-- R83: JUMP enqueues a straight laser-off segment. -/
  | jump (nn : Unit24) (b : BitVec 58) (w1 : BitVec 64)
  /-- R88: ARC enqueues a circular laser-on segment. -/
  | arc (nn : Unit24) (b : BitVec 58) (w1 : BitVec 64)
  /-- R90: SPLN enqueues a cubic Bézier laser-on segment. -/
  | spln (nn : Unit24) (b : BitVec 58) (w1 : BitVec 64)
  /-- R93: DWELL enqueues a hold of N beats, with the laser on or off. -/
  | dwell (nn : Unit24) (b : BitVec 58) (w1 : BitVec 64)
  /-- R94: SKY sets the queued skywriting state. -/
  | sky (nn : Unit24) (b : BitVec 58)
  /-- R96: POWER sets the queued programmed power, ramp and loop request. -/
  | power (nn : Unit24) (b : BitVec 58)
  /-- R99: SPEED sets the mark and jump speeds, clamped to the head limits. -/
  | speed (nn : Unit24) (b : BitVec 58)
  /-- R100: WOBBLE sets the queued wobble shape, amplitude and frequency. -/
  | wobble (nn : Unit24) (b : BitVec 58)
  /-- R101: DELAYS sets LON, LOFF and SETTLE. -/
  | delays (nn : Unit24) (b : BitVec 58)
  /-- R102: WAITT drains the queue and then waits a relative or absolute time. -/
  | waitt (nn : Unit24) (b : BitVec 58) (w1 : BitVec 64)
  /-- R102: The WAITT time expires; issue resumes, or LATE is set for a passed absolute target. -/
  | waittEnd (nn : Unit24)
  /-- R103: SYNC drains the queue and arrives at a device-scope or fabric-scope barrier. -/
  | sync (nn : Unit24) (b : BitVec 58)
  /-- R104: AWAIT drains the queue and waits for ESC_EVENT bits. -/
  | await (nn : Unit24) (b : BitVec 58) (w1 : BitVec 64)
  /-- R104: The AWAIT timeout passes; the wait ends with TO set. -/
  | awaitTimeout (nn : Unit24)
  /-- R105: CLAIM drains the queue and requests ownership of a zone. -/
  | claim (nn : Unit24) (b : BitVec 58)
  /-- R289: A waiting CLAIM's timeout expires; it leaves the waiting list with TO set. -/
  | claimTimeout (nn : Unit24)
  /-- R106: YIELD queues the release of one zone or of all zones. -/
  | yield (nn : Unit24) (b : BitVec 58)
  /-- R107: FLOAT drains the queue and draws vectors from a floating pool. -/
  | float (nn : Unit24) (b : BitVec 58)
  /-- R108: DIALQ stalls 48 beats and writes a dial cell's excess temperature to an f register. -/
  | dialq (nn : Unit24) (b : BitVec 58) (ecc : Ecc)
  /-- R109: TAG sets the tag value and the tag increment. -/
  | tag (nn : Unit24) (b : BitVec 58)
  /-- R110: LAYER sets the layer number. -/
  | layer (nn : Unit24) (b : BitVec 58)
  /-- R111: BR branches on a condition, direct or indirect. -/
  | br (nn : Unit24) (b : BitVec 58)
  /-- R111: CALL pushes the return address and branches. -/
  | call (nn : Unit24) (b : BitVec 58)
  /-- R113: RET pops the return stack into the PC. -/
  | ret (nn : Unit24) (b : BitVec 58)
  /-- R114: LOOP decrements a register and branches while the result is not 0. -/
  | loop (nn : Unit24) (b : BitVec 58)
  /-- R115: HALT drains the queue and then stops the escapement with a code. -/
  | halt (nn : Unit24) (b : BitVec 58)
  /-- R162: The drain and all posted stores complete; the escapement enters HALTED and releases its zones. -/
  | haltComplete (nn : Unit24)
  /-- R116: TRAP stops the escapement after a drain, or with CONT set raises the trap interrupt and continues. -/
  | trap (nn : Unit24) (b : BitVec 58)
  /-- R118: LDI writes an immediate to a g or f register. -/
  | ldi (nn : Unit24) (b : BitVec 58)
  /-- R119: LD issues an aligned 32-bit load and stalls issue. -/
  | ld (nn : Unit24) (b : BitVec 58) (w1 : BitVec 64)
  /-- R120: The data of an LD returns and is written, or LOAD is raised on an error response. -/
  | loadComplete (nn : Unit24) (ecc : Ecc)
  /-- R119: ST posts an aligned 32-bit store. -/
  | st (nn : Unit24) (b : BitVec 58) (w1 : BitVec 64)
  /-- R120: A posted store completes and frees its store-buffer entry. -/
  | storeComplete (nn : Unit24) (ecc : Ecc)
  /-- R122: MOV copies a selected source to a selected destination. -/
  | mov (nn : Unit24) (b : BitVec 58)
  /-- R123: ALU ADD. -/
  | add (nn : Unit24) (b : BitVec 58)
  /-- R123: ALU SUB. -/
  | sub (nn : Unit24) (b : BitVec 58)
  /-- R123: ALU AND. -/
  | and (nn : Unit24) (b : BitVec 58)
  /-- R123: ALU OR. -/
  | or (nn : Unit24) (b : BitVec 58)
  /-- R123: ALU XOR. -/
  | xor (nn : Unit24) (b : BitVec 58)
  /-- R123: ALU shift left. -/
  | shl (nn : Unit24) (b : BitVec 58)
  /-- R123: ALU logical shift right. -/
  | shr (nn : Unit24) (b : BitVec 58)
  /-- R123: ALU arithmetic shift right. -/
  | sra (nn : Unit24) (b : BitVec 58)
  /-- R123: ALU low 32 bits of the product. -/
  | mul (nn : Unit24) (b : BitVec 58)
  /-- R123: ALU high 32 bits of the signed product. -/
  | mulh (nn : Unit24) (b : BitVec 58)
  /-- R123: ALU signed minimum. -/
  | min (nn : Unit24) (b : BitVec 58)
  /-- R123: ALU signed maximum. -/
  | max (nn : Unit24) (b : BitVec 58)
  /-- R123: ALU compare: sets the flags as SUB does. -/
  | cmp (nn : Unit24) (b : BitVec 58)
  /-- R123: ALU test: sets the flags as AND does. -/
  | tst (nn : Unit24) (b : BitVec 58)
  /-- R124: FP32 addition. -/
  | fadd (nn : Unit24) (b : BitVec 58)
  /-- R124: FP32 subtraction. -/
  | faddSub (nn : Unit24) (b : BitVec 58)
  /-- R124: FP32 minimum. -/
  | faddMin (nn : Unit24) (b : BitVec 58)
  /-- R124: FP32 maximum. -/
  | faddMax (nn : Unit24) (b : BitVec 58)
  /-- R124: FP32 multiplication. -/
  | fmul (nn : Unit24) (b : BitVec 58)
  /-- R124: FP32 fused multiply-add. -/
  | fma (nn : Unit24) (b : BitVec 58)
  /-- R124: FP32 fused f[RC] minus a × b. -/
  | fmaSub (nn : Unit24) (b : BitVec 58)
  /-- R125: CVT integer to float. -/
  | i2f (nn : Unit24) (b : BitVec 58)
  /-- R125: CVT float to integer, truncated. -/
  | f2i (nn : Unit24) (b : BitVec 58)
  /-- R125: CVT float to integer, rounded to even. -/
  | f2ir (nn : Unit24) (b : BitVec 58)
  /-- R125: CVT PC24 to micrometres. -/
  | p2f (nn : Unit24) (b : BitVec 58)
  /-- R125: CVT micrometres to PC24. -/
  | f2p (nn : Unit24) (b : BitVec 58)
  /-- R136: A fetch line arrives in the fetch buffer, or is marked poisoned on an error. -/
  | fetchLineReturn (nn : Unit24) (a : Addr) (ecc : Ecc)
  /-- R134: Prefetch has PFDEPTH lines or has stopped at a poisoned line; the escapement reports READY. -/
  | prefetchComplete (nn : Unit24)
  /-- R189: A segment starts on the timeline and its plan is fixed. -/
  | segmentCommit (nn : Unit24)
  /-- R140: A segment ends on the timeline and frees a queue entry. -/
  | segmentEnd (nn : Unit24)
  /-- R76: Every segment before a wait instruction has ended, and the wait proper begins. -/
  | drainEnd (nn : Unit24)
  /-- R196: The retarget stop brings the spot to rest, and the return starts. -/
  | retargetStopEnd (nn : Unit24)
  /-- R197: The return reaches the commanded end point, and the next segment or drain may proceed. -/
  | returnEnd (nn : Unit24)
  /-- R141: The trajectory timeline restarts 64 beats after issue resumes. -/
  | timelineRestart (nn : Unit24)
  /-- R144: A write of ESC_GO.GO issues a start command stamped for a release beat. -/
  | startCommand
  /-- R146: On the stamped beat, READY escapements start, the layer beat counter zeroes and the device enters Expose. -/
  | startBarrierRelease
  /-- R150: Every member has arrived and the lead has passed; the members resume issue. -/
  | deviceBarrierRelease (g : Fin 16)
  /-- R152: DEV_TO passes without a release; every arrived member raises SYNC. -/
  | deviceBarrierTimeout (g : Fin 16)
  /-- R151: The timekeeper has every listed report and broadcasts a stamped release. -/
  | fabricBarrierDecision (g : Fin 16)
  /-- R153: FAB_TO passes at the timekeeper, which broadcasts an abort. -/
  | fabricBarrierTimeout (g : Fin 16)
  /-- R153: No release or abort arrives within FAB_TO plus 10 µs; the local members raise SYNC. -/
  | fabricBarrierLocalTimeout (g : Fin 16)
  /-- R155: A write of ESC_EVSET sets event bits. -/
  | evset (nn : Unit24) (v : Word)
  /-- R156: A write of ESC_EVFIRE sets event bits in every masked escapement on one beat. -/
  | evfire (v : Word)
  /-- R155: The layer beat counter equals ESC_ALARM and sets event bit 12. -/
  | alarmMatch (nn : Unit24)
  /-- R157: ESC_CMD START makes a program start at ESC_PCSTART. -/
  | start (nn : Unit24)
  /-- R159: ESC_CMD STOP stops issue, discards the queue, brings the spot to rest and enters IDLE. -/
  | stop (nn : Unit24)
  /-- R161: ESC_CMD RESUME restarts issue from HALTED or TRAPPED. -/
  | resume (nn : Unit24)
  /-- R164: ESC_CMD STEP issues one instruction, and the escapement then enters TRAPPED. -/
  | step (nn : Unit24)
  /-- R157: ESC_CMD FLUSH invalidates the fetch buffer. -/
  | flush (nn : Unit24)
  /-- R158: ESC_GCMD START applies START to every masked escapement on one beat. -/
  | gcmdStart (mask : BitVec 24)
  /-- R158: ESC_GCMD STOP applies STOP to every masked escapement on one beat. -/
  | gcmdStop (mask : BitVec 24)
  /-- R158: ESC_GCMD RESUME applies RESUME to every masked escapement on one beat. -/
  | gcmdResume (mask : BitVec 24)
  /-- R165: A write that changes ESC_CTL.ENABLE takes effect only in a stopped state, and otherwise sets CMDERR. -/
  | enableWrite (nn : Unit24) (v : Word)
  /-- R182: At each tick the generator samples the path, and the head transform maps the setpoint. -/
  | setpointTick (nn : Unit24) (ecc : Ecc)
  /-- R227: Hold ticks exceed HOLDMAX; the regulator falls back to open loop and emits a fallback record. -/
  | regulatorFallback (nn : Unit24)
  /-- R227: Four valid ticks in a row after a fallback hand back to closed loop. -/
  | autoretHandback (nn : Unit24)
  /-- R233: An open event reaches 0xFFFF ticks and produces its record. -/
  | eventMaxDuration (nn : Unit24) (ty : Fin 3)
  /-- R234: A write of REG_EVQ_POP.POP removes the oldest event record. -/
  | evqPop (nn : Unit24)
  /-- R214: Every 40 beats the DAC latches the next interpolated power code. -/
  | dacUpdate (nn : Unit24)
  /-- R235: A gate edge of a laser-on stretch reaches the port, shifted by LON or LOFF. -/
  | gateEdge (nn : Unit24)
  /-- R238: LALM is asserted for 1 µs and raises the laser-safety alarm source. -/
  | laserAlarm (nn : Unit24)
  /-- R238: LRDY is deasserted for 1 µs in Expose and raises the not-ready source. -/
  | laserNotReady (nn : Unit24)
  /-- R239: The filtered level of LASER_EN_A or LASER_EN_B changes; FIRST latches, and an interlock source may become active. -/
  | interlockChange (ch : Bool) (level : Bool)
  /-- R238: A and B differ for longer than DISC, which raises the discrepancy source. -/
  | interlockDiscrepancy
  /-- R239: A write of LP_ILK.CLR clears FIRST while both inputs are asserted. -/
  | ilkClr
  /-- R253: Deposits commit into the cells at b + 120 beats, scaled by decay. -/
  | depositCommit (ecc : Ecc)
  /-- R257: A tile's sweep slot arrives, and the tile is rebased if it is old enough. -/
  | sweepSlot (tile : Fin 4096) (ecc : Ecc)
  /-- R262: DIAL_CMD CLEAR starts clearing every cell and stamp. -/
  | clear
  /-- R264: The clear finishes; BUSY clears and the stamps are set. -/
  | clearComplete
  /-- R262: DIAL_CMD REBASE starts rebasing every tile to t_c. -/
  | rebase
  /-- R262: The rebase completes on beat t_c. -/
  | rebaseComplete (ecc : Ecc := .clean)
  /-- R260: A read of DIAL_PEEK_VAL returns θ of the peek cell on the read's beat. -/
  | dialPeek (m : Master) (ecc : Ecc)
  /-- R270: The peer origin reads made on entry into Armed return; mismatching peers are left out. -/
  | peerCheckResult (k : Fin 8) (answer : Option Origin)
  /-- R283: Once per beat the bridge releases, grants, draws and evaluates hold points. -/
  | bridgeBeat
  /-- R301: A pool record arrives and becomes a JUMP and a MARK. -/
  | poolRecordArrive (nn : Unit24) (ecc : Ecc)
  /-- R286: A hold lasts BRG_HOLDTO and raises the hold-timeout source once. -/
  | holdTimeout (nn : Unit24)
  /-- R308: A plume reservation ends BRG_LINGER beats after its stretch. -/
  | reservationExpire (nn : Unit24)
  /-- R323: The balance engine dispatches the axis jobs of a head at b_s + D_up. -/
  | jobDispatch (head : Unit24)
  /-- R323: The engine releases the axis commands to the head link at b_s + D_up + C. -/
  | commandRelease (head : Unit24)
  /-- R327: Servo NOP. -/
  | balNop (ax : Axis72) (pc : BitVec 12)
  /-- R327: Servo FMA with a coefficient. -/
  | balFma (ax : Axis72) (pc : BitVec 12)
  /-- R327: Servo FMS with a coefficient. -/
  | balFms (ax : Axis72) (pc : BitVec 12)
  /-- R327: Servo register multiply. -/
  | balMulr (ax : Axis72) (pc : BitVec 12)
  /-- R327: Servo add. -/
  | balAdd (ax : Axis72) (pc : BitVec 12)
  /-- R327: Servo subtract. -/
  | balSub (ax : Axis72) (pc : BitVec 12)
  /-- R327: Servo minimum. -/
  | balMin (ax : Axis72) (pc : BitVec 12)
  /-- R327: Servo maximum. -/
  | balMax (ax : Axis72) (pc : BitVec 12)
  /-- R327: Servo symmetric clamp. -/
  | balClmp (ax : Axis72) (pc : BitVec 12)
  /-- R327: Servo select on a flag. -/
  | balSel (ax : Axis72) (pc : BitVec 12)
  /-- R337: Servo friction or cogging table lookup. -/
  | balTbl (ax : Axis72) (pc : BitVec 12)
  /-- R327: Servo sign multiply. -/
  | balSgn (ax : Axis72) (pc : BitVec 12)
  /-- R324: Three consecutive missing samples raise servo telemetry loss. -/
  | telemetryLoss (head : Unit24)
  /-- R340: The tracking error exceeds TRKLIM on TRKN samples; TRK is set and the source is raised. -/
  | servoTracking (ax : Axis72)
  /-- R332: An approach or park move ends 400 µs after it started. -/
  | approachEnd (ax : Axis72)
  /-- R333: BAL_AXCMD CLOSE requests closing an axis. -/
  | axisClose (ax : Axis72)
  /-- R333: BAL_AXCMD OPEN opens an axis from the next sample. -/
  | axisOpen (ax : Axis72)
  /-- R334: A write to BAL_SWAP requests a bank swap. -/
  | swapRequest (w : Fin 3) (v : Word)
  /-- R321: A write of BAL_CTL.RATE sets the servo rate and moves the links back to TIME. -/
  | rateWrite (v : Word)
  /-- R342: BAL_INJCTL RUN starts an injection generator. -/
  | injectionRun (g : Fin 4) (v : Word)
  /-- R342: BAL_INJCTL STOP ends a generator. -/
  | injectionStop (g : Fin 4)
  /-- R345: BAL_CAPCTL START arms a capture channel. -/
  | captureStart (c : Fin 4) (v : Word)
  /-- R345: BAL_CAPCTL STOP ends capture at once. -/
  | captureStop (c : Fin 4)
  /-- R345: A capture record write completes; an error sets WERR and stops the channel. -/
  | captureWriteComplete (c : Fin 4) (ecc : Ecc)
  /-- R365: A TRN slot arrives and advances detection, negotiation, countdown or equalisation. -/
  | trnSlot (nn : Unit24) (slot : TrnSlot)
  /-- R381: After the idle superframe that follows CD = 0, the link starts at the chosen rate. -/
  | rateSwitch (nn : Unit24)
  /-- R382: EQOK sent and received; the link moves to TIME. -/
  | equaliseDone (nn : Unit24)
  /-- R385: NEGOTIATE, EQUALISE or TIME times out, returning to DETECT or NEGOTIATE, or entering FAILED. -/
  | linkStateTimeout (nn : Unit24)
  /-- R365: An uplink TLM slot arrives with positions, currents, status and CFGACK. -/
  | tlmSlot (nn : Unit24) (slot : TlmSlot)
  /-- R365: A photodiode triple arrives for the regulator window. -/
  | pdSlot (nn : Unit24) (slot : PdSlot)
  /-- R368: A camera stream packet arrives for the loupe. -/
  | cameraPacket (nn : Unit24) (pkt : CamPacket)
  /-- R366: A service response arrives and completes the mailbox transaction. -/
  | resp (nn : Unit24) (slot : SvcSlot)
  /-- R373: A head TRESP arrives; the T24 computes θ and δ and sends TADJ. -/
  | hlTresp (nn : Unit24) (slot : TrespSlot)
  /-- R394: A PM message arrives: L0s entry, or L1 accept or refuse. -/
  | pm (nn : Unit24) (slot : SvcSlot)
  /-- R387: Four superframes pass without a sync word; LOF, DOWN and the link-down source follow. -/
  | lossOfFrame (nn : Unit24)
  /-- R374: Every 4,096 superframes in version 3, the time exchange repeats. -/
  | timeTrackExchange (nn : Unit24)
  /-- R383: The equaliser may change PEAK by one code per 4,096 superframes. -/
  | eqTrackStep (nn : Unit24) (peak : BitVec 4)
  /-- R391: CFGACK stalls for 8 superframes, and the T24 resends the oldest entry. -/
  | cfgResend (nn : Unit24)
  /-- R391: No RESP within 8 superframes; the request is resent, or it ends with ERR after three retries. -/
  | svcRetry (nn : Unit24)
  /-- R393: The downlink goes idle after 16 quiet superframes when allowed. -/
  | l0sEntry (nn : Unit24)
  /-- R394: A wake preamble is detected on a sleeping link. -/
  | linkWakeDetect (nn : Unit24)
  /-- R377: A write of HL_CTL.EN from clear to set starts training from DETECT. -/
  | linkEnable (nn : Unit24)
  /-- R385: HL_CTL RETRAIN restarts training from DETECT. -/
  | retrain (nn : Unit24)
  /-- R394: HL_CTL L1REQ sends PM code 2. -/
  | l1req (nn : Unit24)
  /-- R394: HL_CTL WAKE wakes a link from L1. -/
  | wake (nn : Unit24)
  /-- R401: HL_SVCCMD GO starts a service read or write. -/
  | svcGo (nn : Unit24) (v : Word)
  /-- R404: Block lock is held and 64 good flits have arrived; the port becomes UP. -/
  | portUp (p : Fin 4)
  /-- R404: Training has not reached UP in 50 ms; it restarts, or the port is FAILED after four restarts. -/
  | portTrainTimeout (p : Fin 4)
  /-- R404: An UP port loses block lock and goes DOWN. -/
  | portDown (p : Fin 4)
  /-- R407: LACK does not advance for 256 FAB cycles; the sender replays. -/
  | replay (p : Fin 4)
  /-- R404: SKZ_PCTL RETRAIN restarts port training. -/
  | portRetrain (p : Fin 4)
  /-- R406: An IDLE flit arrives and returns credits. -/
  | idle (p : Fin 4) (h : LinkHead)
  /-- R411: A HELLO flit arrives in Join and updates ROOT, DIST and the parent. -/
  | hello (p : Fin 4) (h : LinkHead) (f : HelloFlit)
  /-- R411: Every 1 µs in Join, a device sends HELLO on every UP port. -/
  | helloSend
  /-- R412: A TOPO flit arrives and is forwarded or collected by the timekeeper. -/
  | topo (p : Fin 4) (h : LinkHead) (f : TopoFlit)
  /-- R412: ROOT, DIST and parent are stable for 100 µs, and the device sends TOPO. -/
  | topoSend
  /-- R412: The timekeeper assigns addresses after 100 µs without a new TOPO and broadcasts ASSIGN. -/
  | addressAssign
  /-- R413: An ASSIGN flit arrives, and the device builds its routes. -/
  | assign (p : Fin 4) (h : LinkHead) (f : AssignFlit)
  /-- R414: Join has not completed in JOINTO; the device completes unjoined with JOINERR. -/
  | joinTimeout
  /-- R417: A remote read request arrives and is served as master 0x05 or forwarded. -/
  | rreq (p : Fin 4) (h : LinkHead) (f : ReqFlit) (ecc : Ecc := .clean)
  /-- R417: A remote write request arrives and is served and acknowledged. -/
  | wreq (p : Fin 4) (h : LinkHead) (f : ReqFlit) (ecc : Ecc := .clean)
  /-- R417: A read response arrives and completes the requester's access. -/
  | rrsp (p : Fin 4) (h : LinkHead) (f : RspFlit)
  /-- R417: A write response arrives and completes the requester's access. -/
  | wrsp (p : Fin 4) (h : LinkHead) (f : RspFlit)
  /-- R421: A child's TSYNC arrives at the parent, which replies with TRESP. -/
  | tsync (p : Fin 4) (h : LinkHead) (f : TimeFlit)
  /-- R421: A TRESP arrives at the child, which computes θ and corrects its time. -/
  | tresp (p : Fin 4) (h : LinkHead) (f : TimeFlit)
  /-- R423: Every PERIOD, or 10 µs after a failure, the child sends TSYNC. -/
  | timeSyncExchange
  /-- R425: A BCAST flit arrives, is forwarded along the tree and is scheduled for its stamp. -/
  | bcast (p : Fin 4) (h : LinkHead) (f : BcastFlit)
  /-- R426: A START broadcast acts as a start command on its stamp. -/
  | bcastStart
  /-- R51: A MODE broadcast acts as a mode request on its stamp. -/
  | bcastMode
  /-- R426: A SPLIT broadcast triggers a split on its stamp. -/
  | bcastSplit
  /-- R426: A RESET broadcast asserts the Skeuz reset source on the named devices. -/
  | bcastReset
  /-- R151: A RELEASE broadcast releases a fabric barrier on its stamp. -/
  | bcastRelease
  /-- R153: An ABORT broadcast makes the arrived members raise SYNC. -/
  | bcastAbort
  /-- R414: A JOINED broadcast completes Join on its stamp. -/
  | bcastJoined
  /-- R433: SKZ_BCMD START sends a START broadcast. -/
  | bcmdStart (v : Word)
  /-- R433: SKZ_BCMD MODE sends a MODE broadcast. -/
  | bcmdMode (v : Word)
  /-- R433: SKZ_BCMD SPLIT sends a SPLIT broadcast. -/
  | bcmdSplit (v : Word)
  /-- R433: SKZ_BCMD RESET sends a RESET broadcast. -/
  | bcmdReset (v : Word)
  /-- R428: A barrier-ready report reaches the timekeeper. -/
  | reportBarrierReady (p : Fin 4) (h : LinkHead) (f : ReportFlit)
  /-- R428: A layer-joined report adds a device to the layer set. -/
  | reportLayerJoined (p : Fin 4) (h : LinkHead) (f : ReportFlit)
  /-- R428: A layer-done report marks a device done, and when all are done the timekeeper broadcasts Recoat. -/
  | reportLayerDone (p : Fin 4) (h : LinkHead) (f : ReportFlit)
  /-- R414: A join-ready report reaches the timekeeper, which broadcasts JOINED once all have reported. -/
  | reportJoinReady (p : Fin 4) (h : LinkHead) (f : ReportFlit)
  /-- R269: A DDEP flit arrives, and its deposit records enter the receive queue. -/
  | ddep (p : Fin 4) (h : LinkHead) (f : DdepFlit)
  /-- R429: A DDEP flit leaves with three records or 20 beats after its first. -/
  | ddepFlush (peer : Fin 8)
  /-- R441: A CSI Frame Start arrives; the frame is admitted, dropped or causes aborts. -/
  | frameStart (c : Fin 4)
  /-- R437: A CSI long packet arrives as a line and enters the pipeline. -/
  | linePacket (c : Fin 4) (line : LinePacket)
  /-- R437: A CSI Frame End arrives; a short frame is completed by repetition. -/
  | frameEnd (c : Fin 4)
  /-- R448: The frame's outputs and header are written, LASTSLOT is set and the frame interrupt is raised. -/
  | frameComplete (c : Fin 4) (ecc : Ecc)
  /-- R450: A scheduled camera trigger drives CAMTRIG active for TRIG_WIDTH. -/
  | cameraTrigger (c : Fin 4)
  /-- R450: A write of SOFT starts one trigger on the next beat. -/
  | soft (c : Fin 4)
  /-- R439: A write of IMG_CTX_REL returns slots to FREE. -/
  | slotRelease (c : Fin 4) (v : Word)
  /-- R462: Setting context EN frees slots 0 to NBUF − 1 and opens the context at the next Frame Start. -/
  | contextEnable (c : Fin 4) (v : Word)
  /-- R458: A melt-pool record write completes and WPTR advances, or an error sets MPRERR. -/
  | mprWriteComplete (ecc : Ecc)
  /-- R468: A PWM period starts, and the channel turns on. -/
  | pwmPeriodStart (ch : Fin 32)
  /-- R468: The duty time of a PWM period ends, and the channel turns off. -/
  | pwmDutyEnd (ch : Fin 32)
  /-- R469: SDELAY after a trigger, a strobe channel turns on. -/
  | strobeStart (ch : Fin 32)
  /-- R469: SWIDTH after its start, a strobe turns off. -/
  | strobeEnd (ch : Fin 32)
  /-- R471: Every 1 ms each NTC is converted to a temperature. -/
  | ntcConversion (c : Fin 4) (ohms : BitVec 32)
  /-- R473: A sink junction above 150 °C turns the sink off until it falls below 130 °C. -/
  | sinkOvertemp (ch : Fin 32) (hot : Bool)
  /-- R474: 800 qualifying beats give a valid open or good verdict. -/
  | lampMeasurement (ch : Fin 32) (mv : BitVec 16)
  /-- R474: An off channel's ball stays below 50 mV for 2 µs; SHORT is set and the channel is disabled. -/
  | lampShort (ch : Fin 32)
  /-- R475: A strobe channel without measurement for 100 ms receives a diagnostic pulse. -/
  | diagPulse (ch : Fin 32)
  /-- R475: There is no valid measurement for 1 s; UNVER is set and the source is raised. -/
  | lampUnverified (ch : Fin 32)
  /-- R476: ILL_CMD NTEST starts the neighbour test. -/
  | ntest
  /-- R476: After 620 µs the test ends with NDONE and any shorts flagged. -/
  | neighbourTestDone (shorts : BitVec 31)
  /-- R486: MOT_AX_CMD MOVE moves the axis to a target in position mode. -/
  | move (ax : Fin 6)
  /-- R487: MOT_AX_CMD VEL runs the axis at a signed speed. -/
  | vel (ax : Fin 6)
  /-- R485: MOT_AX_CMD STOP stops the axis and holds it. -/
  | axisStop (ax : Fin 6)
  /-- R495: MOT_AX_CMD HOME starts the homing sequence. -/
  | home (ax : Fin 6)
  /-- R483: MOT_AX_CMD SETPOS sets the position at rest and sets POSVALID. -/
  | setpos (ax : Fin 6)
  /-- R484: A stamped axis command acts on its stamped beat. -/
  | stampedStart (ax : Fin 6)
  /-- R482: Every 1 µs the profile generator updates position, speed and acceleration. -/
  | profileUpdate (ax : Fin 6)
  /-- R489: At each 25 µs period boundary the coil current regulation may change mode, with a hand-over. -/
  | coilPwmPeriod (ax : Fin 6)
  /-- R491: Once per full step the load angle is measured and the current amplitude adapted. -/
  | loadAngleMeasurement (ax : Fin 6) (lam : BitVec 8)
  /-- R492: NSTALL measurements at IMAX below LASTALL put the axis into STALLED. -/
  | stall (ax : Fin 6)
  /-- R493: A debounced limit input changes state. -/
  | limitInput (ax : Fin 6) (side : Bool) (level : Bool)
  /-- R493: A CHWIN window ends with more than CHMAX transitions and sets CHATTER. -/
  | chatterWindow (ax : Fin 6) (side : Bool)
  /-- R496: HOME runs past HTO and aborts with HOMEFAIL. -/
  | homingTimeout (ax : Fin 6)
  /-- R497: A bridge over-current or over-temperature turns the axis drivers off. -/
  | driverFault (ax : Fin 6)
  /-- R497: VM falls below VMUV and turns every driver off. -/
  | motorBusUv (vm : BitVec 16)
  /-- R499: A filtered quadrature line change counts the position up or down. -/
  | encoderCount (e : Fin 6) (a : Bool) (b : Bool)
  /-- R500: A 1 ms window with more than ILLTHR illegal transitions sets ILLEGAL. -/
  | illegalWindow (e : Fin 6)
  /-- R501: A Z rising edge sets the reference or checks the delta and acts per IDXMODE. -/
  | indexEdge (e : Fin 6)
  /-- R503: At the end of each SPDWIN window both speed estimates update, and the method may change over. -/
  | speedWindow (e : Fin 6)
  /-- R501: A write of ENC_POS sets the count and restarts the index reference. -/
  | encPosWrite (e : Fin 6) (v : Word)
  /-- R513: Every 1 ms the REXT current is checked, and three bad results raise the REXT fault. -/
  | rextMeasurement (bad : Bool)
  /-- R516: A calibration step starts in a gap that allows it. -/
  | calStepStart
  /-- R520: A step completes and commits its codes on one beat, or fails on range. -/
  | calStepComplete (codes : List Int)
  /-- R519: A step runs past TOMUL times nominal and stays pending. -/
  | calStepTimeout
  /-- R522: CAL_CMD SAVE writes trim copy A, reads it back, then writes copy B. -/
  | trimSave
  /-- R523: The save ends; refused copies set COPYERR. -/
  | trimSaveComplete (verifyA : Bool) (verifyB : Bool)
  /-- R527: CAL_CMD RESTART restarts the pass at its first step. -/
  | calRestart
  /-- R528: VANA or VIO is below its power-on level and asserts a reach-P source. -/
  | powerOnReset (level : Bool)
  /-- R528: A rail falls below its reset level. -/
  | supplyReset (rr : Fin 8) (level : Bool) (mv : BitVec 12 := 0)
  /-- R530: RESET_N is low while not driven, after a 1 µs filter. -/
  | resetNInput (level : Bool)
  /-- R540: The watchdog expires and asserts a reach-C reset. -/
  | watchdogExpiry
  /-- R540: A write of SYS_WDT_KICK restarts the watchdog. -/
  | kick
  /-- R528: SYS_RST_CMD WARM asserts the software warm reset. -/
  | warm
  /-- R553: SYS_RST_CMD CNTCLR zeroes every reset counter. -/
  | cntclr
  /-- R528: A PCIe hot reset resets the chip or the host port, per HOTRST. -/
  | pcieHotReset (level : Bool)
  /-- R528: A PCIe function-level reset resets the host port. -/
  | functionLevelReset
  /-- R528: The backup domain supply falls below 1.8 V, which is a reach-B reset. -/
  | backupDomainLoss (level : Bool)
  /-- R530: All sources have released and the minimum length has passed; the T24 releases RESET_N. -/
  | resetDriveRelease
  /-- R531: The internal reset ends, and the release sequence of the latched reach runs. -/
  | resetRelease
  /-- R531: The PLLs lock and Load starts. -/
  | pllLocked
  /-- R524: Load commits fuses and trims on one edge and enters Boot. -/
  | loadCommit
  /-- R534: A block reset bit holds one block in reset for 64 of its cycles. -/
  | blockReset (r : Fin 5) (v : Word)
  /-- R534: The 64-cycle block reset ends. -/
  | blockResetEnd (blk : BlockId)
  /-- R572: 16 cycles after a block reset ends, the block's sources are unmasked. -/
  | faultMaskLift (blk : BlockId)
  /-- R542: A supervised rail falls below its warning level. -/
  | railBelowWarning (rr : Fin 8) (mv : BitVec 12)
  /-- R542: A rail is still below warning after 2 µs; DIP is set and the supply-warning source is raised. -/
  | supplyDip (rr : Fin 8)
  /-- R542: A rail returns above warning, counted as a glitch within 2 µs. -/
  | railAboveWarning (rr : Fin 8) (mv : BitVec 12 := 0xFFF)
  /-- R542: The rail is above warning plus HYST for 50 µs, and RECOV is set. -/
  | supplyRecovered (rr : Fin 8) (mv : BitVec 12 := 0xFFF)
  /-- R543: SUP_CMD RESUME clears the supply-warning source when every dipped rail has recovered. -/
  | resumeSupply
  /-- R546: Every 10 µs the worst slack may raise or lower VSET. -/
  | avsSlackReport (slack : BitVec 16)
  /-- R545: The regulator confirms a voltage write, and the warning level follows. -/
  | avsResponse (ok : Bool)
  /-- R547: There is no response within 10 µs, or an error status; AVSERR is set and the loop stops. -/
  | avsTimeout
  /-- R549: The Low power entry sequence completes. -/
  | lpEntryComplete
  /-- R550: A filtered wake source wakes the device, or aborts entry. -/
  | wakeEvent (src : WakeSrc)
  /-- R550: SYS_LP_TIMER AON cycles pass and wake the device. -/
  | wakeTimer
  /-- R551: The wake from Poise, Rest or Wound returns to Idle. -/
  | wakeComplete
  /-- R632: 100 µs after the previous group reaches warning, the next PWR_EN rises. -/
  | pwrEnRaise
  /-- R634: A group misses its warning levels in 10 ms, and every PWR_EN drops. -/
  | powerSequenceTimeout
  /-- R634: 100 ms after the drop, sequencing restarts from PWR_EN_3. -/
  | powerSequenceRestart
  /-- R557: A fault source changes to active; its pending bit sets and its reactions fire. -/
  | faultSourceAssert (src : Fin 512)
  /-- R557: A source's rails hold an invalid pair for 3 cycles, and it is treated as active. -/
  | railFault (src : Fin 512)
  /-- R562: Records are written, or 20 µs pass, and the held chip reset proceeds. -/
  | chipResetHoldEnd
  /-- R573: ESCWIN passes after a block reset without a failure, which zeroes the count. -/
  | escalationWindow (blk : BlockId)
  /-- R564: FLT_HACK ASSERT asserts the hack line. -/
  | assert
  /-- R566: FLT_HACK RELEASE releases the hack line if the conditions hold. -/
  | release
  /-- R568: FLT_CAP_CLR clears the capture, OVF and the count. -/
  | captureClear
  /-- R569: FLT_INJ ARM arms a check-bit injection. -/
  | injectionArm (v : Word)
  /-- R571: FLT_INJ DISARM ends an injection. -/
  | injectionDisarm
  /-- R571: After a disarm, the re-check finds the source persisted or clear. -/
  | injectionRecheck (active : Bool)
  /-- R575: A word is written and verified in the NV store. -/
  | nvWrite (m : Master) (a : Addr) (v : Word64) (result : NvResult)
  /-- R575: A failed row's copy to a spare row completes, and the write finishes. -/
  | rowRemapComplete
  /-- R583: A queued record is written to the next usable ring slot. -/
  | chronographRecordWrite (result : NvResult)
  /-- R579: CHR_SWREC GO queues a software record. -/
  | swrec (v : Word)
  /-- R584: A filtered rising edge on SPLIT_IN triggers a split. -/
  | splitInEdge
  /-- R584: SPL_CMD FIRE triggers a split, or broadcasts one with FAB set. -/
  | fire
  /-- R585: On the split beat every block copies its snapshot set. -/
  | split
  /-- R586: SPL_DATA is filled, and DONE sets. -/
  | splitCollectionDone
  /-- R592: SPL_CMD DONECLR clears DONE. -/
  | doneclr
  /-- R594: A PCIe memory request through BAR0 or BAR2 is served as master 0x04. -/
  | hostRequest (bar : Bool) (off : BitVec 32) (acc : Access) (ecc : Ecc)
  /-- R595: A PCIe configuration request is answered, with CRS until Load ends. -/
  | configRequest
  /-- R610: The PCIe link goes up or down. -/
  | pcieLinkChange (up : Bool) (speed : BitVec 3) (width : BitVec 5)
  /-- R596: An unmasked vector with its line active sends its message. -/
  | msixUnmask (vec : Fin 64)
  /-- R597: HP_DMA_CTL GO starts a DMA transfer. -/
  | dmaGo (ch : Fin 4) (v : Word)
  /-- R598: HP_DMA_CTL STOP ends a transfer at a TLP boundary with ABORT. -/
  | dmaStop (ch : Fin 4)
  /-- R597: The last write of a transfer completes; DONE sets and the line goes active. -/
  | dmaDone (ch : Fin 4) (data : List Byte) (ecc : Ecc)
  /-- R598: An error completion or timeout stops the channel with ERR. -/
  | dmaError (ch : Fin 4) (hostSide : Bool) (a : Word64)
  /-- R601: DRAM initialisation completes, full or leaving self-refresh with KEPT. -/
  | dramInitComplete (d0 : Fin 3) (ok : Bool) (d1 : Fin 3 := 2)
  /-- R603: The boot ROM reads and checks an image copy from quad-SPI. -/
  | flashBoot (flash : FlashResult)
  /-- R605: SYS_BOOT_CTL GO makes the ROM check and load a host image. -/
  | bootGo
  /-- R606: The payload CRC matches; core 0 jumps to the entry and RUNNING sets. -/
  | imageLoaded
  /-- R608: SYS_CORE_CTL RUN releases a core at SYS_CORE_ENTRY. -/
  | coreRun (v : Word)
  /-- R631: Every 1 ms the die temperature readings update. -/
  | tempUpdate (d : Fin 3) (t : BitVec 16)
  /-- R37: REFA returns to within 500 ppm, and the REFA fault source becomes inactive. -/
  | refaRestored
  /-- R37: REFB returns to within frequency; the REFB fault source becomes inactive, and the Skeuz ports and the PCIe link can train again. -/
  | refbRestored
  /-- R404: A write of SKZ_PCTL_pp.EN from clear to set starts port training, including from FAILED. -/
  | portEnable (p : Fin 4) (v : Word)
  /-- R632: The backup domain starts from nothing, when VBAK or VANA is applied, and raises PWR_EN_3. -/
  | backupDomainStart
  /-- R238: LALM_nn deasserts after its filter, and the laser-alarm source becomes inactive. -/
  | laserAlarmCleared (nn : Unit24)
  /-- R238: LRDY_nn asserts again after its filter; LP_STAT.RDY sets and the not-ready source becomes inactive. -/
  | laserReadyRegained (nn : Unit24)
  /-- R497: VM rises back above VMUV; VMOK sets and the under-voltage condition clears, so that a command with EN set can turn the drivers on again. -/
  | motorBusRestored (vm : BitVec 16)
  /-- R556: Each AON second advances SYS_HSEC, and at 3,600 it wraps and increments SYS_HOURS. -/
  | hoursCounterTick
  deriving DecidableEq, Repr

end Sys2Proof
end

