-- ==== Sys2Proof/Machine/Num.lean ====
section
/-! DEFINITION. Numbers: rounding of rationals, binary floating point (R71, R303, R644), and roots, circular functions,
logarithm and exponential as rationals exact to far below every tolerance the rules state (2^-60 relative). -/
namespace Sys2Proof.Machine

/-- Nearest integer, ties to even. -/
def roundEven (q : Rat) : Int :=
  let f := q.floor
  let r := q - f
  if r < 1 / 2 then f else if 1 / 2 < r then f + 1 else if f % 2 = 0 then f else f + 1

/-- Nearest integer, ties away from zero. -/
def roundAway (q : Rat) : Int := if 0 ≤ q then (q + 1 / 2).floor else -((-q + 1 / 2).floor)

/-- Nearest integer, ties upwards. -/
def roundUp (q : Rat) : Int := (q + 1 / 2).floor

/-- The least integer not below `q`. -/
def ceilQ (q : Rat) : Int := -((-q).floor)

/-- Absolute value. -/
def absQ (q : Rat) : Rat := if q < 0 then -q else q

/-- The lesser and the greater of two rationals. -/
def minQ (a b : Rat) : Rat := if b < a then b else a
/-- See `minQ`. -/
def maxQ (a b : Rat) : Rat := if a < b then b else a

/-- `q` cut to a multiple of 2^-64. -/
def fixQ (q : Rat) : Rat := mkRat (q * (2 ^ 64 : Nat)).floor (2 ^ 64)

/-! ### Binary floating point -/

/-- A value rounded to `p` bits with the exponent unbounded: zero, or `m * 2^e` with `2^(p-1) ≤ m < 2^p`. -/
structure Rounded where
  neg : Bool
  m : Nat
  e : Int
  deriving DecidableEq, Repr

/-- 2^e as a rational. -/
def pow2 (e : Int) : Rat := if 0 ≤ e then ((2 ^ e.toNat : Nat) : Rat) else 1 / ((2 ^ (-e).toNat : Nat) : Rat)

/-- The magnitude `a > 0` to `p` bits, nearest with ties to even. -/
def roundMag (p : Nat) (a : Rat) : Nat × Int :=
  let e0 : Int := (Nat.log2 a.num.natAbs : Int) - (Nat.log2 a.den : Int) - (p : Int)
  let s0 := a * pow2 (-e0)
  let e := if ((2 ^ p : Nat) : Rat) ≤ s0 then e0 + 1 else e0
  let m := (roundEven (a * pow2 (-e))).toNat
  if m = 2 ^ p then (2 ^ (p - 1), e + 1) else (m, e)

/-- The value of `m * 2^e` with a sign. -/
def magVal (neg : Bool) (m : Nat) (e : Int) : Rat := (if neg then -1 else 1) * (m : Rat) * pow2 e

/-- The sign bit of an FP32 word. -/
def f32Neg (w : Nat) : Bool := bit w 31

/-- The value of an FP32 word: none for a NaN or an infinity; a subnormal reads as zero (R71). -/
def f32Val (w : Nat) : Option Rat :=
  let ex := bits w 30 23
  let mn := bits w 22 0
  if ex = 255 then none
  else if ex = 0 then some 0
  else some (magVal (f32Neg w) (2 ^ 23 + mn) ((ex : Int) - 150))

/-- Zero of a sign. -/
def f32Zero (neg : Bool) : Nat := if neg then 2 ^ 31 else 0

/-- The FP32 word nearest to a value: ties to even, zero of the sign where the result is subnormal after rounding
(tininess after rounding, R71), none where it overflows to infinity. `zneg` is the sign of an exact zero. -/
def f32Round (q : Rat) (zneg : Bool := false) : Option Nat :=
  if q = 0 then some (f32Zero zneg)
  else
    let neg := decide (q < 0)
    let (m, e) := roundMag 24 (absQ q)
    let ex := e + 150
    if ex < 1 then some (f32Zero neg)
    else if 255 ≤ ex then none
    else some ((if neg then 2 ^ 31 else 0) + ex.toNat * 2 ^ 23 + (m - 2 ^ 23))

/-- FP32 a + b (R124): the zero sum of opposite signs is +0. -/
def f32Add (a b : Nat) : Option Nat :=
  match f32Val a, f32Val b with
  | some x, some y => f32Round (x + y) (x == 0 && y == 0 && f32Neg a && f32Neg b)
  | _, _ => none

/-- The FP32 word with its sign turned. -/
def f32Flip (a : Nat) : Nat := if f32Neg a then a - 2 ^ 31 else a + 2 ^ 31

/-- FP32 a - b (R124). -/
def f32Sub (a b : Nat) : Option Nat := f32Add a (f32Flip b)

/-- FP32 a * b (R124). -/
def f32Mul (a b : Nat) : Option Nat :=
  match f32Val a, f32Val b with
  | some x, some y => f32Round (x * y) (xor (f32Neg a) (f32Neg b))
  | _, _ => none

/-- FP32 a * b + c, rounded once (R124). -/
def f32Fma (a b c : Nat) : Option Nat :=
  match f32Val a, f32Val b, f32Val c with
  | some x, some y, some z =>
    f32Round (x * y + z) (x * y == 0 && z == 0 && (xor (f32Neg a) (f32Neg b)) && f32Neg c)
  | _, _, _ => none

/-- FP32 a / b; a zero divisor gives no finite result. -/
def f32Div (a b : Nat) : Option Nat :=
  match f32Val a, f32Val b with
  | some x, some y => if y = 0 then none else f32Round (x / y) (xor (f32Neg a) (f32Neg b))
  | _, _ => none

/-- FP32 minimum, -0 below +0 (R124). A subnormal operand is read as zero of its sign. -/
def f32Min (a b : Nat) : Option Nat :=
  match f32Val a, f32Val b with
  | some x, some y =>
    if x < y then f32Round x (f32Neg a)
    else if y < x then f32Round y (f32Neg b)
    else f32Round x (f32Neg a || f32Neg b)
  | _, _ => none

/-- FP32 maximum, -0 below +0 (R124). -/
def f32Max (a b : Nat) : Option Nat :=
  match f32Val a, f32Val b with
  | some x, some y =>
    if x < y then f32Round y (f32Neg b)
    else if y < x then f32Round x (f32Neg a)
    else f32Round x (f32Neg a && f32Neg b)
  | _, _ => none

/-- A value for a block's FP32 input: an unusable word (NaN, infinity, subnormal) acts as 0.0 where a rule says so
(R207). -/
def f32Or0 (w : Nat) : Nat :=
  match f32Val w with
  | some _ => if bits w 30 23 = 0 then 0 else w
  | none => 0

/-- An integer or fixed-point value as FP32 (R644). -/
def f32Of (q : Rat) : Nat := (f32Round q).getD 0

/-- Total FP32 operations for the expressions of R644 on finite values: `none` (overflow, NaN) propagates. -/
def f32AddO (a b : Option Nat) : Option Nat := a.bind (fun x => b.bind (fun y => f32Add x y))
/-- See `f32AddO`. -/
def f32SubO (a b : Option Nat) : Option Nat := a.bind (fun x => b.bind (fun y => f32Sub x y))
/-- See `f32AddO`. -/
def f32MulO (a b : Option Nat) : Option Nat := a.bind (fun x => b.bind (fun y => f32Mul x y))
/-- See `f32AddO`. -/
def f32DivO (a b : Option Nat) : Option Nat := a.bind (fun x => b.bind (fun y => f32Div x y))

/-- An FP32 result that may leave the finite range: a finite word, an infinity of a sign, a NaN. -/
inductive F32x where
  | num (w : Nat)
  | inf (neg : Bool)
  | nan
  deriving DecidableEq, Repr

/-- A rational rounded once; past the greatest finite value it is an infinity of its sign. -/
def F32x.round (q : Rat) (zneg : Bool := false) : F32x :=
  match f32Round q zneg with
  | some w => .num w
  | none => .inf (decide (q < 0))

/-- The sign of a result that is no NaN. -/
def F32x.neg : F32x → Bool
  | .num w => f32Neg w
  | .inf n => n
  | .nan => false

/-- A finite result equal to zero. -/
def F32x.isZero : F32x → Bool
  | .num w => f32Val w == some 0
  | _ => false

/-- The FP32 word of a result; any NaN is the default quiet one. -/
def F32x.word : F32x → Nat
  | .num w => w
  | .inf n => if n then 0xFF800000 else 0x7F800000
  | .nan => 0x7FC00000

/-- Sum under IEEE 754 (R644): the zero sum of opposite signs is +0. -/
def F32x.add : F32x → F32x → F32x
  | .num a, .num b =>
    F32x.round ((f32Val a).getD 0 + (f32Val b).getD 0) ((F32x.num a).isZero && (F32x.num b).isZero && f32Neg a && f32Neg b)
  | .inf a, .inf b => if a = b then .inf a else .nan
  | .inf a, .num _ => .inf a
  | .num _, .inf b => .inf b
  | .nan, _ => .nan
  | _, .nan => .nan

/-- Product under IEEE 754 (R644). -/
def F32x.mul : F32x → F32x → F32x
  | .num a, .num b => F32x.round ((f32Val a).getD 0 * (f32Val b).getD 0) (xor (f32Neg a) (f32Neg b))
  | .nan, _ => .nan
  | _, .nan => .nan
  | a, b => if a.isZero || b.isZero then .nan else .inf (xor a.neg b.neg)

/-- A rational rounded to binary64's 53 bits (R303), as a rational. -/
def round53 (q : Rat) : Rat :=
  if q = 0 then 0
  else
    let (m, e) := roundMag 53 (absQ q)
    magVal (decide (q < 0)) m e

/-! ### Roots and functions -/

/-- Integer square root by halving the interval, one bit a step. -/
def isqrtAux (n : Nat) : Nat → Nat → Nat
  | 0, r => r
  | k + 1, r =>
    let c := r + 2 ^ k
    isqrtAux n k (if c * c ≤ n then c else r)

/-- The greatest integer whose square is not above `n`. -/
def isqrt (n : Nat) : Nat := isqrtAux n (Nat.log2 n / 2 + 1) 0

/-- The square root of a non-negative rational, cut to a multiple of 2^-64. -/
def sqrtQ (q : Rat) : Rat :=
  if q ≤ 0 then 0 else mkRat (isqrt ((q * (2 ^ 128 : Nat)).floor.toNat)) (2 ^ 64)

/-- π to 60 decimal places. -/
def piQ : Rat := mkRat 3141592653589793238462643383279502884197169399375105820974944 (10 ^ 60)

/-- Σ of a power series: `term` holds the present term, each next term is the last times `f k`. -/
def seriesQ (f : Nat → Rat) : Nat → Nat → Rat → Rat → Rat
  | 0, _, _, acc => acc
  | n + 1, k, term, acc => seriesQ f n (k + 1) (fixQ (term * f k)) (acc + term)

/-- sin of an angle in [-π/4, π/4] by its series. -/
def sinSmall (x : Rat) : Rat := seriesQ (fun k => -(x * x) / (((2 * k + 2) * (2 * k + 3) : Nat) : Rat)) 14 0 (fixQ x) 0
/-- cos of an angle in [-π/4, π/4] by its series. -/
def cosSmall (x : Rat) : Rat := seriesQ (fun k => -(x * x) / (((2 * k + 1) * (2 * k + 2) : Nat) : Rat)) 14 0 1 0

/-- The quarter turn and the rest of an angle. -/
def quarter (x : Rat) : Int × Rat :=
  let k := roundUp (x / (piQ / 2))
  (k, fixQ (x - (k : Rat) * (piQ / 2)))

/-- sin of an angle in radians. -/
def sinQ (x : Rat) : Rat :=
  let (k, r) := quarter x
  match k % 4 with
  | 0 => sinSmall r
  | 1 => cosSmall r
  | 2 => -(sinSmall r)
  | _ => -(cosSmall r)

/-- cos of an angle in radians. -/
def cosQ (x : Rat) : Rat := sinQ (x + piQ / 2)

/-- e^x by its series on x / 2^k, squared back. -/
def expQ (x : Rat) : Rat :=
  let n := (ceilQ (absQ x)).toNat
  let k := Nat.log2 n + 4
  let y := fixQ (x / ((2 ^ k : Nat) : Rat))
  let e := seriesQ (fun i => y / ((i + 1 : Nat) : Rat)) 18 0 1 0
  (List.range k).foldl (fun a _ => mkRat (a * a * (2 ^ 96 : Nat)).floor (2 ^ 96)) e

/-- atanh series sum for ln: 2 (z + z^3/3 + ...), |z| ≤ 1/3. -/
def lnSeries (z : Rat) : Rat :=
  2 * ((List.range 24).foldl (fun (acc : Rat × Rat) i =>
    (acc.1 + acc.2 / ((2 * i + 1 : Nat) : Rat), fixQ (acc.2 * z * z))) ((0 : Rat), fixQ z)).1

/-- ln 2. -/
def ln2Q : Rat := 2 * ((List.range 40).foldl (fun (acc : Rat × Rat) i =>
    (acc.1 + acc.2 / ((2 * i + 1 : Nat) : Rat), fixQ (acc.2 / 9))) ((0 : Rat), (1 / 3 : Rat))).1

/-- The natural logarithm of a positive rational. -/
def lnQ (q : Rat) : Rat :=
  let (m, e) := roundMag 64 q
  let y := (m : Rat) / ((2 ^ 63 : Nat) : Rat)
  let z := (y - 1) / (y + 1)
  lnSeries z + ((e + 63 : Int) : Rat) * ln2Q

/-- The angle of a vector in (-π, π], by halving the interval on the sine of the difference. -/
def angleAux (x y : Rat) : Nat → Rat → Rat → Rat
  | 0, lo, _ => lo
  | n + 1, lo, hi =>
    let mid := (lo + hi) / 2
    if 0 ≤ cosQ mid * y - sinQ mid * x then angleAux x y n mid hi else angleAux x y n lo mid

/-- The angle of the vector (x, y), 0 for the zero vector. -/
def angleQ (x y : Rat) : Rat :=
  if x = 0 ∧ y = 0 then 0
  else if 0 ≤ y then angleAux x y 60 0 piQ
  else -(angleAux x (-y) 60 0 piQ)

/-- A tolerance: the exact value moved by a free error of at most `tol` of it (log entry 8). -/
def perturbRel (q tol : Rat) (free : Nat) : Rat :=
  let u : Rat := mkRat ((free % 2 ^ 33 : Nat) : Int) (2 ^ 32) - 1
  q * (1 + tol * u)

end Sys2Proof.Machine
end

