-- ==== Sys2Proof/Machine/Map.lean ====
section
/-! DEFINITION. The shape of the register map: access codes (R6), reset reaches (R10), register rows and fields. -/
namespace Sys2Proof.Machine

/-- Access codes of R6. -/
inductive AccessCode where
  | rw | ro | w1c | w1p | rc | rws
  deriving DecidableEq, Repr

/-- Reset-reach codes of R10, narrowest first; `n` is never reset. -/
inductive Reach where
  | k | c | p | b | n
  deriving DecidableEq, Repr

/-- R11: the reaches nest in the order K, C, P, B; N lies outside. -/
def Reach.rank : Reach → Nat
  | .k => 0 | .c => 1 | .p => 2 | .b => 3 | .n => 4

/-- A field of a register row: lowest bit, width, access code, reset value, reach. -/
structure FieldRow where
  lo : Nat
  width : Nat
  acc : AccessCode
  reset : Nat
  reach : Reach
  deriving DecidableEq, Repr

/-- A row of a register table: offset in the block, two levels of repetition (count and stride), fields. -/
structure RegRow where
  off : Nat
  n1 : Nat
  s1 : Nat
  n2 : Nat
  s2 : Nat
  fields : List FieldRow
  deriving DecidableEq, Repr

/-- A block's register window: base address, number of units, bytes per unit, offset of the copies in force of
its RWS registers (0: none), rows. -/
structure BlockMap where
  base : Nat
  units : Nat
  stride : Nat
  copyOfs : Nat
  rows : List RegRow
  deriving DecidableEq, Repr

/-- One field of one register: the register's address, the field's lowest bit and width, its reset value, and the
distance to the copy in force of an RWS field (0: none). -/
structure Fld where
  addr : Nat
  lo : Nat
  width : Nat
  rst : Nat
  cofs : Nat
  deriving DecidableEq, Repr

/-- The key of a field in the register file: address and lowest bit. -/
def Fld.key (f : Fld) : Nat := f.addr * 32 + f.lo

/-- The copy in force of an RWS field (R8). -/
def Fld.copy (f : Fld) : Fld := { f with addr := f.addr + f.cofs }

end Sys2Proof.Machine
end

