-- ==== Sys2Proof/Machine/MapLaser.lean ====
section
/-! DEFINITION. Register map of the escapement, escapement common, trajectory, regulator, laser port blocks, row by row from the register tables of
spec/03_calibre_isa.md, spec/04_escapement_execution.md, spec/05_trajectory_field.md, spec/06_melt_pool_regulator.md.
A row gives a register's offset in its block, its repetition, and its fields: lowest bit, width, access code (R6),
reset value and reset reach (R10). Below each table, one accessor per field; the docstring of an accessor names the
rule of the table it comes from. -/

namespace Sys2Proof.Machine

/-- Rows 0 to 19 of the escapement register table. -/
def escRows0 : List RegRow := [
  ⟨0, 1, 0, 1, 0, [⟨8, 8, .rw, 0x20, .k⟩, ⟨0, 1, .rw, 0, .k⟩]⟩,
  ⟨4, 1, 0, 1, 0, [⟨4, 1, .w1p, 0, .k⟩, ⟨3, 1, .w1p, 0, .k⟩, ⟨2, 1, .w1p, 0, .k⟩, ⟨1, 1, .w1p, 0, .k⟩, ⟨0, 1, .w1p, 0, .k⟩]⟩,
  ⟨8, 1, 0, 1, 0, [⟨16, 7, .ro, 0, .k⟩, ⟨10, 1, .w1c, 0, .k⟩, ⟨9, 1, .w1c, 0, .k⟩, ⟨8, 1, .w1c, 0, .k⟩, ⟨5, 1, .ro, 1, .k⟩, ⟨4, 1, .ro, 0, .k⟩, ⟨3, 1, .ro, 0, .k⟩, ⟨0, 3, .ro, 0, .k⟩]⟩,
  ⟨0xc, 1, 0, 1, 0, [⟨16, 5, .ro, 0, .k⟩, ⟨10, 1, .rw, 0, .k⟩, ⟨9, 1, .rw, 0, .k⟩, ⟨8, 1, .rw, 0, .k⟩, ⟨7, 1, .ro, 0, .k⟩, ⟨6, 1, .rw, 0, .k⟩, ⟨5, 1, .rw, 0, .k⟩, ⟨4, 1, .rw, 0, .k⟩, ⟨3, 1, .rw, 0, .k⟩, ⟨2, 1, .rw, 0, .k⟩, ⟨1, 1, .rw, 0, .k⟩, ⟨0, 1, .rw, 0, .k⟩]⟩,
  ⟨0x10, 1, 0, 1, 0, [⟨3, 29, .rw, 0, .k⟩]⟩,
  ⟨0x14, 1, 0, 1, 0, [⟨0, 8, .rw, 0, .k⟩]⟩,
  ⟨0x18, 1, 0, 1, 0, [⟨2, 30, .rw, 0, .k⟩]⟩,
  ⟨0x1c, 1, 0, 1, 0, [⟨0, 8, .rw, 0, .k⟩]⟩,
  ⟨0x20, 1, 0, 1, 0, [⟨3, 29, .rw, 0, .k⟩]⟩,
  ⟨0x24, 1, 0, 1, 0, [⟨0, 8, .rw, 0, .k⟩]⟩,
  ⟨0x28, 1, 0, 1, 0, [⟨3, 29, .ro, 0, .k⟩]⟩,
  ⟨0x2c, 1, 0, 1, 0, [⟨0, 8, .ro, 0, .k⟩]⟩,
  ⟨0x30, 1, 0, 1, 0, [⟨16, 16, .ro, 0, .k⟩, ⟨0, 8, .ro, 0, .k⟩]⟩,
  ⟨0x34, 1, 0, 1, 0, [⟨0, 32, .ro, 0, .k⟩]⟩,
  ⟨0x38, 1, 0, 1, 0, [⟨0, 8, .ro, 0, .k⟩]⟩,
  ⟨0x3c, 1, 0, 1, 0, [⟨0, 32, .ro, 0, .k⟩]⟩,
  ⟨0x40, 1, 0, 1, 0, [⟨0, 8, .ro, 0, .k⟩]⟩,
  ⟨0x44, 1, 0, 1, 0, [⟨0, 32, .ro, 0, .k⟩]⟩,
  ⟨0x48, 1, 0, 1, 0, [⟨0, 32, .ro, 0, .k⟩]⟩,
  ⟨0x4c, 1, 0, 1, 0, [⟨16, 1, .w1c, 0, .k⟩, ⟨0, 16, .ro, 0, .k⟩]⟩]

/-- Rows 20 to 34 of the escapement register table. -/
def escRows1 : List RegRow := [
  ⟨0x50, 1, 0, 1, 0, [⟨0, 16, .w1c, 0, .k⟩]⟩,
  ⟨0x54, 1, 0, 1, 0, [⟨0, 16, .w1p, 0, .k⟩]⟩,
  ⟨0x58, 1, 0, 1, 0, [⟨3, 1, .w1c, 0, .k⟩, ⟨2, 1, .w1c, 0, .k⟩, ⟨1, 1, .w1c, 0, .k⟩, ⟨0, 1, .w1c, 0, .k⟩]⟩,
  ⟨0x5c, 1, 0, 1, 0, [⟨3, 1, .rw, 0, .k⟩, ⟨2, 1, .rw, 0, .k⟩, ⟨1, 1, .rw, 0, .k⟩, ⟨0, 1, .rw, 0, .k⟩]⟩,
  ⟨0x60, 1, 0, 1, 0, [⟨0, 16, .ro, 0, .k⟩]⟩,
  ⟨0x68, 1, 0, 1, 0, [⟨0, 32, .rw, 0, .k⟩]⟩,
  ⟨0x6c, 1, 0, 1, 0, [⟨0, 16, .rw, 0, .k⟩]⟩,
  ⟨0x100, 1, 0, 1, 0, [⟨0, 32, .ro, 0, .k⟩]⟩,
  ⟨0x104, 31, 4, 1, 0, [⟨0, 32, .rw, 0, .k⟩]⟩,
  ⟨0x180, 8, 4, 1, 0, [⟨0, 32, .rw, 0, .k⟩]⟩,
  ⟨0x1a0, 1, 0, 1, 0, [⟨0, 32, .ro, 0, .k⟩]⟩,
  ⟨0x1a4, 1, 0, 1, 0, [⟨0, 32, .ro, 0, .k⟩]⟩,
  ⟨0x1a8, 1, 0, 1, 0, [⟨0, 32, .ro, 0, .k⟩]⟩,
  ⟨0x200, 16, 8, 1, 0, [⟨0, 32, .ro, 0, .k⟩]⟩,
  ⟨0x204, 16, 8, 1, 0, [⟨0, 8, .ro, 0, .k⟩]⟩]

/-- The escapement block's window (R25): base, units, bytes per unit, offset of the in-force copies (0: none), rows. -/
def escMap : BlockMap := ⟨0x2000100000, 24, 0x10000, 0, escRows0 ++ escRows1⟩

/-- ESC_CTL.PFDEPTH, RW, reset 0x20 (R167). -/
def ESC_CTL_PFDEPTH (u : Nat) : Fld := ⟨0x2000100000 + 0x10000 * u, 8, 8, 0x20, 0⟩
/-- ESC_CTL.ENABLE, RW, reset 0 (R167). -/
def ESC_CTL_ENABLE (u : Nat) : Fld := ⟨0x2000100000 + 0x10000 * u, 0, 1, 0, 0⟩
/-- ESC_CMD.FLUSH, W1P, reset 0 (R168). -/
def ESC_CMD_FLUSH (u : Nat) : Fld := ⟨0x2000100004 + 0x10000 * u, 4, 1, 0, 0⟩
/-- ESC_CMD.RESUME, W1P, reset 0 (R168). -/
def ESC_CMD_RESUME (u : Nat) : Fld := ⟨0x2000100004 + 0x10000 * u, 3, 1, 0, 0⟩
/-- ESC_CMD.STEP, W1P, reset 0 (R168). -/
def ESC_CMD_STEP (u : Nat) : Fld := ⟨0x2000100004 + 0x10000 * u, 2, 1, 0, 0⟩
/-- ESC_CMD.STOP, W1P, reset 0 (R168). -/
def ESC_CMD_STOP (u : Nat) : Fld := ⟨0x2000100004 + 0x10000 * u, 1, 1, 0, 0⟩
/-- ESC_CMD.START, W1P, reset 0 (R168). -/
def ESC_CMD_START (u : Nat) : Fld := ⟨0x2000100004 + 0x10000 * u, 0, 1, 0, 0⟩
/-- ESC_STAT.SEGQ, RO, reset 0 (R169). -/
def ESC_STAT_SEGQ (u : Nat) : Fld := ⟨0x2000100008 + 0x10000 * u, 16, 7, 0, 0⟩
/-- ESC_STAT.TRAPOVF, W1C, reset 0 (R169). -/
def ESC_STAT_TRAPOVF (u : Nat) : Fld := ⟨0x2000100008 + 0x10000 * u, 10, 1, 0, 0⟩
/-- ESC_STAT.UNDERRUN, W1C, reset 0 (R169). -/
def ESC_STAT_UNDERRUN (u : Nat) : Fld := ⟨0x2000100008 + 0x10000 * u, 9, 1, 0, 0⟩
/-- ESC_STAT.CMDERR, W1C, reset 0 (R169). -/
def ESC_STAT_CMDERR (u : Nat) : Fld := ⟨0x2000100008 + 0x10000 * u, 8, 1, 0, 0⟩
/-- ESC_STAT.DRYRUN, RO, reset 1 (R169). -/
def ESC_STAT_DRYRUN (u : Nat) : Fld := ⟨0x2000100008 + 0x10000 * u, 5, 1, 1, 0⟩
/-- ESC_STAT.BUFVALID, RO, reset 0 (R169). -/
def ESC_STAT_BUFVALID (u : Nat) : Fld := ⟨0x2000100008 + 0x10000 * u, 4, 1, 0, 0⟩
/-- ESC_STAT.READY, RO, reset 0 (R169). -/
def ESC_STAT_READY (u : Nat) : Fld := ⟨0x2000100008 + 0x10000 * u, 3, 1, 0, 0⟩
/-- ESC_STAT.STATE, RO, reset 0 (R169). -/
def ESC_STAT_STATE (u : Nat) : Fld := ⟨0x2000100008 + 0x10000 * u, 0, 3, 0, 0⟩
/-- ESC_SW.DEPTH, RO, reset 0 (R72). -/
def ESC_SW_DEPTH (u : Nat) : Fld := ⟨0x200010000c + 0x10000 * u, 16, 5, 0, 0⟩
/-- ESC_SW.RANGE, RW, reset 0 (R72). -/
def ESC_SW_RANGE (u : Nat) : Fld := ⟨0x200010000c + 0x10000 * u, 10, 1, 0, 0⟩
/-- ESC_SW.CLAMP, RW, reset 0 (R72). -/
def ESC_SW_CLAMP (u : Nat) : Fld := ⟨0x200010000c + 0x10000 * u, 9, 1, 0, 0⟩
/-- ESC_SW.LATE, RW, reset 0 (R72). -/
def ESC_SW_LATE (u : Nat) : Fld := ⟨0x200010000c + 0x10000 * u, 8, 1, 0, 0⟩
/-- ESC_SW.PV, RO, reset 0 (R72). -/
def ESC_SW_PV (u : Nat) : Fld := ⟨0x200010000c + 0x10000 * u, 7, 1, 0, 0⟩
/-- ESC_SW.EMP, RW, reset 0 (R72). -/
def ESC_SW_EMP (u : Nat) : Fld := ⟨0x200010000c + 0x10000 * u, 6, 1, 0, 0⟩
/-- ESC_SW.GR, RW, reset 0 (R72). -/
def ESC_SW_GR (u : Nat) : Fld := ⟨0x200010000c + 0x10000 * u, 5, 1, 0, 0⟩
/-- ESC_SW.TO, RW, reset 0 (R72). -/
def ESC_SW_TO (u : Nat) : Fld := ⟨0x200010000c + 0x10000 * u, 4, 1, 0, 0⟩
/-- ESC_SW.V, RW, reset 0 (R72). -/
def ESC_SW_V (u : Nat) : Fld := ⟨0x200010000c + 0x10000 * u, 3, 1, 0, 0⟩
/-- ESC_SW.C, RW, reset 0 (R72). -/
def ESC_SW_C (u : Nat) : Fld := ⟨0x200010000c + 0x10000 * u, 2, 1, 0, 0⟩
/-- ESC_SW.N, RW, reset 0 (R72). -/
def ESC_SW_N (u : Nat) : Fld := ⟨0x200010000c + 0x10000 * u, 1, 1, 0, 0⟩
/-- ESC_SW.Z, RW, reset 0 (R72). -/
def ESC_SW_Z (u : Nat) : Fld := ⟨0x200010000c + 0x10000 * u, 0, 1, 0, 0⟩
/-- ESC_PBASE_LO.ADDR, RW, reset 0 (R170). -/
def ESC_PBASE_LO_ADDR (u : Nat) : Fld := ⟨0x2000100010 + 0x10000 * u, 3, 29, 0, 0⟩
/-- ESC_PBASE_HI.ADDR, RW, reset 0 (R170). -/
def ESC_PBASE_HI_ADDR (u : Nat) : Fld := ⟨0x2000100014 + 0x10000 * u, 0, 8, 0, 0⟩
/-- ESC_DBASE_LO.ADDR, RW, reset 0 (R170). -/
def ESC_DBASE_LO_ADDR (u : Nat) : Fld := ⟨0x2000100018 + 0x10000 * u, 2, 30, 0, 0⟩
/-- ESC_DBASE_HI.ADDR, RW, reset 0 (R170). -/
def ESC_DBASE_HI_ADDR (u : Nat) : Fld := ⟨0x200010001c + 0x10000 * u, 0, 8, 0, 0⟩
/-- ESC_PCSTART_LO.ADDR, RW, reset 0 (R170). -/
def ESC_PCSTART_LO_ADDR (u : Nat) : Fld := ⟨0x2000100020 + 0x10000 * u, 3, 29, 0, 0⟩
/-- ESC_PCSTART_HI.ADDR, RW, reset 0 (R170). -/
def ESC_PCSTART_HI_ADDR (u : Nat) : Fld := ⟨0x2000100024 + 0x10000 * u, 0, 8, 0, 0⟩
/-- ESC_PC_LO.ADDR, RO, reset 0 (R170). -/
def ESC_PC_LO_ADDR (u : Nat) : Fld := ⟨0x2000100028 + 0x10000 * u, 3, 29, 0, 0⟩
/-- ESC_PC_HI.ADDR, RO, reset 0 (R170). -/
def ESC_PC_HI_ADDR (u : Nat) : Fld := ⟨0x200010002c + 0x10000 * u, 0, 8, 0, 0⟩
/-- ESC_TRAP.CODE, RO, reset 0 (R171). -/
def ESC_TRAP_CODE (u : Nat) : Fld := ⟨0x2000100030 + 0x10000 * u, 16, 16, 0, 0⟩
/-- ESC_TRAP.CAUSE, RO, reset 0 (R171). -/
def ESC_TRAP_CAUSE (u : Nat) : Fld := ⟨0x2000100030 + 0x10000 * u, 0, 8, 0, 0⟩
/-- ESC_TRAP_PC_LO.VALUE, RO, reset 0 (R172). -/
def ESC_TRAP_PC_LO_VALUE (u : Nat) : Fld := ⟨0x2000100034 + 0x10000 * u, 0, 32, 0, 0⟩
/-- ESC_TRAP_PC_HI.VALUE, RO, reset 0 (R172). -/
def ESC_TRAP_PC_HI_VALUE (u : Nat) : Fld := ⟨0x2000100038 + 0x10000 * u, 0, 8, 0, 0⟩
/-- ESC_TRAP_ADDR_LO.VALUE, RO, reset 0 (R172). -/
def ESC_TRAP_ADDR_LO_VALUE (u : Nat) : Fld := ⟨0x200010003c + 0x10000 * u, 0, 32, 0, 0⟩
/-- ESC_TRAP_ADDR_HI.VALUE, RO, reset 0 (R172). -/
def ESC_TRAP_ADDR_HI_VALUE (u : Nat) : Fld := ⟨0x2000100040 + 0x10000 * u, 0, 8, 0, 0⟩
/-- ESC_TRAP_WORD_LO.VALUE, RO, reset 0 (R172). -/
def ESC_TRAP_WORD_LO_VALUE (u : Nat) : Fld := ⟨0x2000100044 + 0x10000 * u, 0, 32, 0, 0⟩
/-- ESC_TRAP_WORD_HI.VALUE, RO, reset 0 (R172). -/
def ESC_TRAP_WORD_HI_VALUE (u : Nat) : Fld := ⟨0x2000100048 + 0x10000 * u, 0, 32, 0, 0⟩
/-- ESC_TCODE.OVF, W1C, reset 0 (R173). -/
def ESC_TCODE_OVF (u : Nat) : Fld := ⟨0x200010004c + 0x10000 * u, 16, 1, 0, 0⟩
/-- ESC_TCODE.CODE, RO, reset 0 (R173). -/
def ESC_TCODE_CODE (u : Nat) : Fld := ⟨0x200010004c + 0x10000 * u, 0, 16, 0, 0⟩
/-- ESC_EVENT.EVENT, W1C, reset 0 (R174). -/
def ESC_EVENT_EVENT (u : Nat) : Fld := ⟨0x2000100050 + 0x10000 * u, 0, 16, 0, 0⟩
/-- ESC_EVSET.SET, W1P, reset 0 (R174). -/
def ESC_EVSET_SET (u : Nat) : Fld := ⟨0x2000100054 + 0x10000 * u, 0, 16, 0, 0⟩
/-- ESC_INT.UNDER, W1C, reset 0 (R175). -/
def ESC_INT_UNDER (u : Nat) : Fld := ⟨0x2000100058 + 0x10000 * u, 3, 1, 0, 0⟩
/-- ESC_INT.CONT, W1C, reset 0 (R175). -/
def ESC_INT_CONT (u : Nat) : Fld := ⟨0x2000100058 + 0x10000 * u, 2, 1, 0, 0⟩
/-- ESC_INT.TRAP, W1C, reset 0 (R175). -/
def ESC_INT_TRAP (u : Nat) : Fld := ⟨0x2000100058 + 0x10000 * u, 1, 1, 0, 0⟩
/-- ESC_INT.HALT, W1C, reset 0 (R175). -/
def ESC_INT_HALT (u : Nat) : Fld := ⟨0x2000100058 + 0x10000 * u, 0, 1, 0, 0⟩
/-- ESC_INTEN.UNDER, RW, reset 0 (R175). -/
def ESC_INTEN_UNDER (u : Nat) : Fld := ⟨0x200010005c + 0x10000 * u, 3, 1, 0, 0⟩
/-- ESC_INTEN.CONT, RW, reset 0 (R175). -/
def ESC_INTEN_CONT (u : Nat) : Fld := ⟨0x200010005c + 0x10000 * u, 2, 1, 0, 0⟩
/-- ESC_INTEN.TRAP, RW, reset 0 (R175). -/
def ESC_INTEN_TRAP (u : Nat) : Fld := ⟨0x200010005c + 0x10000 * u, 1, 1, 0, 0⟩
/-- ESC_INTEN.HALT, RW, reset 0 (R175). -/
def ESC_INTEN_HALT (u : Nat) : Fld := ⟨0x200010005c + 0x10000 * u, 0, 1, 0, 0⟩
/-- ESC_UNDER_CNT.COUNT, RO, reset 0 (R174). -/
def ESC_UNDER_CNT_COUNT (u : Nat) : Fld := ⟨0x2000100060 + 0x10000 * u, 0, 16, 0, 0⟩
/-- ESC_ALARM_LO.VALUE, RW, reset 0 (R176). -/
def ESC_ALARM_LO_VALUE (u : Nat) : Fld := ⟨0x2000100068 + 0x10000 * u, 0, 32, 0, 0⟩
/-- ESC_ALARM_HI.VALUE, RW, reset 0 (R176). -/
def ESC_ALARM_HI_VALUE (u : Nat) : Fld := ⟨0x200010006c + 0x10000 * u, 0, 16, 0, 0⟩
/-- ESC_G0.VALUE, RO, reset 0 (R176). -/
def ESC_G0_VALUE (u : Nat) : Fld := ⟨0x2000100100 + 0x10000 * u, 0, 32, 0, 0⟩
/-- ESC_G.VALUE, RW, reset 0 (R176). -/
def ESC_G_VALUE (u i : Nat) : Fld := ⟨0x2000100104 + 0x10000 * u + 4 * i, 0, 32, 0, 0⟩
/-- ESC_F.VALUE, RW, reset 0 (R176). -/
def ESC_F_VALUE (u i : Nat) : Fld := ⟨0x2000100180 + 0x10000 * u + 4 * i, 0, 32, 0, 0⟩
/-- ESC_PX.VALUE, RO, reset 0 (R176). -/
def ESC_PX_VALUE (u : Nat) : Fld := ⟨0x20001001a0 + 0x10000 * u, 0, 32, 0, 0⟩
/-- ESC_PY.VALUE, RO, reset 0 (R176). -/
def ESC_PY_VALUE (u : Nat) : Fld := ⟨0x20001001a4 + 0x10000 * u, 0, 32, 0, 0⟩
/-- ESC_PZ.VALUE, RO, reset 0 (R176). -/
def ESC_PZ_VALUE (u : Nat) : Fld := ⟨0x20001001a8 + 0x10000 * u, 0, 32, 0, 0⟩
/-- ESC_RSTK_LO.VALUE, RO, reset 0 (R176). -/
def ESC_RSTK_LO_VALUE (u i : Nat) : Fld := ⟨0x2000100200 + 0x10000 * u + 8 * i, 0, 32, 0, 0⟩
/-- ESC_RSTK_HI.VALUE, RO, reset 0 (R176). -/
def ESC_RSTK_HI_VALUE (u i : Nat) : Fld := ⟨0x2000100204 + 0x10000 * u + 8 * i, 0, 8, 0, 0⟩

/-- Rows 0 to 13 of the escapement common register table. -/
def esccRows0 : List RegRow := [
  ⟨0, 1, 0, 1, 0, [⟨0, 1, .w1p, 0, .c⟩]⟩,
  ⟨4, 1, 0, 1, 0, [⟨0, 32, .rw, 0, .c⟩]⟩,
  ⟨8, 1, 0, 1, 0, [⟨0, 16, .rw, 0, .c⟩]⟩,
  ⟨0xc, 1, 0, 1, 0, [⟨26, 1, .w1c, 0, .c⟩, ⟨25, 1, .w1c, 0, .c⟩, ⟨24, 1, .w1c, 0, .c⟩, ⟨0, 24, .ro, 0, .c⟩]⟩,
  ⟨0x10, 1, 0, 1, 0, [⟨0, 32, .ro, 0, .c⟩]⟩,
  ⟨0x14, 1, 0, 1, 0, [⟨0, 16, .ro, 0, .c⟩]⟩,
  ⟨0x18, 1, 0, 1, 0, [⟨16, 16, .rw, 0x64, .c⟩, ⟨0, 16, .rw, 0xa, .c⟩]⟩,
  ⟨0x1c, 1, 0, 1, 0, [⟨0, 24, .rw, 0x640, .c⟩]⟩,
  ⟨0x20, 1, 0, 1, 0, [⟨0, 24, .rw, 0, .c⟩]⟩,
  ⟨0x24, 1, 0, 1, 0, [⟨0, 16, .w1p, 0, .c⟩]⟩,
  ⟨0x28, 1, 0, 1, 0, [⟨31, 1, .w1p, 0, .c⟩, ⟨24, 3, .rw, 0, .c⟩, ⟨0, 24, .rw, 0, .c⟩]⟩,
  ⟨0x40, 16, 4, 1, 0, [⟨0, 24, .rw, 0, .c⟩]⟩,
  ⟨0x80, 16, 4, 1, 0, [⟨0, 24, .rw, 0, .c⟩]⟩,
  ⟨0xc0, 16, 4, 1, 0, [⟨0, 16, .rw, 0, .c⟩]⟩]

/-- The escapement common block's window (R25): base, units, bytes per unit, offset of the in-force copies (0: none), rows. -/
def esccMap : BlockMap := ⟨0x2000280000, 1, 0x80000, 0, esccRows0⟩

/-- ESC_GO.GO, W1P, reset 0 (R177). -/
def ESC_GO_GO : Fld := ⟨0x2000280000, 0, 1, 0, 0⟩
/-- ESC_GOSTAMP_LO.STAMP, RW, reset 0 (R177). -/
def ESC_GOSTAMP_LO_STAMP : Fld := ⟨0x2000280004, 0, 32, 0, 0⟩
/-- ESC_GOSTAMP_HI.STAMP, RW, reset 0 (R177). -/
def ESC_GOSTAMP_HI_STAMP : Fld := ⟨0x2000280008, 0, 16, 0, 0⟩
/-- ESC_GSTAT.GOERR, W1C, reset 0 (R177). -/
def ESC_GSTAT_GOERR : Fld := ⟨0x200028000c, 26, 1, 0, 0⟩
/-- ESC_GSTAT.LATEGO, W1C, reset 0 (R177). -/
def ESC_GSTAT_LATEGO : Fld := ⟨0x200028000c, 25, 1, 0, 0⟩
/-- ESC_GSTAT.MISSED, W1C, reset 0 (R177). -/
def ESC_GSTAT_MISSED : Fld := ⟨0x200028000c, 24, 1, 0, 0⟩
/-- ESC_GSTAT.READY, RO, reset 0 (R177). -/
def ESC_GSTAT_READY : Fld := ⟨0x200028000c, 0, 24, 0, 0⟩
/-- ESC_LBEAT_LO.BEAT, RO, reset 0 (R178). -/
def ESC_LBEAT_LO_BEAT : Fld := ⟨0x2000280010, 0, 32, 0, 0⟩
/-- ESC_LBEAT_HI.BEAT, RO, reset 0 (R178). -/
def ESC_LBEAT_HI_BEAT : Fld := ⟨0x2000280014, 0, 16, 0, 0⟩
/-- ESC_SYNCTO.FAB_TO, RW, reset 0x64 (R178). -/
def ESC_SYNCTO_FAB_TO : Fld := ⟨0x2000280018, 16, 16, 0x64, 0⟩
/-- ESC_SYNCTO.DEV_TO, RW, reset 0xa (R178). -/
def ESC_SYNCTO_DEV_TO : Fld := ⟨0x2000280018, 0, 16, 0xa, 0⟩
/-- ESC_FLEAD.LEAD, RW, reset 0x640 (R178). -/
def ESC_FLEAD_LEAD : Fld := ⟨0x200028001c, 0, 24, 0x640, 0⟩
/-- ESC_EVMASK.MASK, RW, reset 0 (R179). -/
def ESC_EVMASK_MASK : Fld := ⟨0x2000280020, 0, 24, 0, 0⟩
/-- ESC_EVFIRE.FIRE, W1P, reset 0 (R179). -/
def ESC_EVFIRE_FIRE : Fld := ⟨0x2000280024, 0, 16, 0, 0⟩
/-- ESC_GCMD.GO, W1P, reset 0 (R179). -/
def ESC_GCMD_GO : Fld := ⟨0x2000280028, 31, 1, 0, 0⟩
/-- ESC_GCMD.CMD, RW, reset 0 (R179). -/
def ESC_GCMD_CMD : Fld := ⟨0x2000280028, 24, 3, 0, 0⟩
/-- ESC_GCMD.MASK, RW, reset 0 (R179). -/
def ESC_GCMD_MASK : Fld := ⟨0x2000280028, 0, 24, 0, 0⟩
/-- ESC_DGRP.MEMBERS, RW, reset 0 (R180). -/
def ESC_DGRP_MEMBERS (i : Nat) : Fld := ⟨0x2000280040 + 4 * i, 0, 24, 0, 0⟩
/-- ESC_FGRP.MEMBERS, RW, reset 0 (R180). -/
def ESC_FGRP_MEMBERS (i : Nat) : Fld := ⟨0x2000280080 + 4 * i, 0, 24, 0, 0⟩
/-- ESC_FDEV.DEVICES, RW, reset 0 (R180). -/
def ESC_FDEV_DEVICES (i : Nat) : Fld := ⟨0x20002800c0 + 4 * i, 0, 16, 0, 0⟩

/-- Rows 0 to 19 of the trajectory register table. -/
def trjRows0 : List RegRow := [
  ⟨0x400, 1, 0, 1, 0, [⟨0, 24, .rws, 0x3d0900, .k⟩]⟩,
  ⟨0x404, 1, 0, 1, 0, [⟨0, 24, .rws, 0xe4e1c0, .k⟩]⟩,
  ⟨0x408, 1, 0, 1, 0, [⟨0, 20, .rws, 0x9c40, .k⟩]⟩,
  ⟨0x40c, 1, 0, 1, 0, [⟨0, 16, .rws, 0x320, .k⟩]⟩,
  ⟨0x410, 1, 0, 1, 0, [⟨0, 24, .rws, 0x7a120, .k⟩]⟩,
  ⟨0x414, 1, 0, 1, 0, [⟨0, 20, .rws, 0x7d0, .k⟩]⟩,
  ⟨0x418, 1, 0, 1, 0, [⟨0, 16, .rws, 0x28, .k⟩]⟩,
  ⟨0x420, 1, 0, 1, 0, [⟨0, 24, .rws, 0, .k⟩]⟩,
  ⟨0x424, 1, 0, 1, 0, [⟨0, 24, .rws, 0, .k⟩]⟩,
  ⟨0x428, 1, 0, 1, 0, [⟨0, 24, .rws, 0x3d0900, .k⟩]⟩,
  ⟨0x430, 1, 0, 1, 0, [⟨0, 32, .rws, 0x3f800000, .k⟩]⟩,
  ⟨0x434, 1, 0, 1, 0, [⟨0, 32, .rws, 0, .k⟩]⟩,
  ⟨0x438, 1, 0, 1, 0, [⟨0, 32, .rws, 0, .k⟩]⟩,
  ⟨0x43c, 1, 0, 1, 0, [⟨0, 32, .rws, 0x3f800000, .k⟩]⟩,
  ⟨0x440, 1, 0, 1, 0, [⟨0, 32, .rws, 0x3f800000, .k⟩]⟩,
  ⟨0x444, 1, 0, 1, 0, [⟨0, 32, .rws, 0x3f800000, .k⟩]⟩,
  ⟨0x450, 3, 4, 1, 0, [⟨0, 32, .rws, 0, .k⟩]⟩,
  ⟨0x45c, 1, 0, 1, 0, [⟨2, 30, .rws, 0, .k⟩, ⟨1, 1, .rws, 0, .k⟩, ⟨0, 1, .rws, 0, .k⟩]⟩,
  ⟨0x560, 1, 0, 1, 0, [⟨5, 1, .ro, 0, .k⟩, ⟨4, 1, .w1c, 0, .k⟩, ⟨3, 1, .w1c, 0, .k⟩, ⟨2, 1, .w1c, 0, .k⟩, ⟨1, 1, .w1c, 0, .k⟩, ⟨0, 1, .w1c, 0, .k⟩]⟩,
  ⟨0x564, 1, 0, 1, 0, [⟨16, 16, .ro, 0, .k⟩, ⟨0, 16, .ro, 0, .k⟩]⟩]

/-- Rows 20 to 21 of the trajectory register table. -/
def trjRows1 : List RegRow := [
  ⟨0x4000, 4225, 8, 1, 0, [⟨0, 16, .rw, 0, .c⟩, ⟨16, 16, .rw, 0, .c⟩]⟩,
  ⟨0x4004, 4225, 8, 1, 0, [⟨0, 16, .rw, 0, .c⟩]⟩]

/-- The trajectory block's window (R25): base, units, bytes per unit, offset of the in-force copies (0: none), rows. -/
def trjMap : BlockMap := ⟨0x2000100000, 24, 0x10000, 0x100, trjRows0 ++ trjRows1⟩

/-- TRJ_VMARK.VMAX, RWS, reset 0x3d0900 (R206). -/
def TRJ_VMARK_VMAX (u : Nat) : Fld := ⟨0x2000100400 + 0x10000 * u, 0, 24, 0x3d0900, 0x100⟩
/-- TRJ_VJUMP.VMAX, RWS, reset 0xe4e1c0 (R206). -/
def TRJ_VJUMP_VMAX (u : Nat) : Fld := ⟨0x2000100404 + 0x10000 * u, 0, 24, 0xe4e1c0, 0x100⟩
/-- TRJ_AMAX.AMAX, RWS, reset 0x9c40 (R206). -/
def TRJ_AMAX_AMAX (u : Nat) : Fld := ⟨0x2000100408 + 0x10000 * u, 0, 20, 0x9c40, 0x100⟩
/-- TRJ_JMAX.JMAX, RWS, reset 0x320 (R206). -/
def TRJ_JMAX_JMAX (u : Nat) : Fld := ⟨0x200010040c + 0x10000 * u, 0, 16, 0x320, 0x100⟩
/-- TRJ_ZVMAX.VMAX, RWS, reset 0x7a120 (R206). -/
def TRJ_ZVMAX_VMAX (u : Nat) : Fld := ⟨0x2000100410 + 0x10000 * u, 0, 24, 0x7a120, 0x100⟩
/-- TRJ_ZAMAX.AMAX, RWS, reset 0x7d0 (R206). -/
def TRJ_ZAMAX_AMAX (u : Nat) : Fld := ⟨0x2000100414 + 0x10000 * u, 0, 20, 0x7d0, 0x100⟩
/-- TRJ_ZJMAX.JMAX, RWS, reset 0x28 (R206). -/
def TRJ_ZJMAX_JMAX (u : Nat) : Fld := ⟨0x2000100418 + 0x10000 * u, 0, 16, 0x28, 0x100⟩
/-- TRJ_HORG_X.ORG, RWS, reset 0 (R207). -/
def TRJ_HORG_X_ORG (u : Nat) : Fld := ⟨0x2000100420 + 0x10000 * u, 0, 24, 0, 0x100⟩
/-- TRJ_HORG_Y.ORG, RWS, reset 0 (R207). -/
def TRJ_HORG_Y_ORG (u : Nat) : Fld := ⟨0x2000100424 + 0x10000 * u, 0, 24, 0, 0x100⟩
/-- TRJ_FIELD.H, RWS, reset 0x3d0900 (R207). -/
def TRJ_FIELD_H (u : Nat) : Fld := ⟨0x2000100428 + 0x10000 * u, 0, 24, 0x3d0900, 0x100⟩
/-- TRJ_M00.VALUE, RWS, reset 0x3f800000 (R207). -/
def TRJ_M00_VALUE (u : Nat) : Fld := ⟨0x2000100430 + 0x10000 * u, 0, 32, 0x3f800000, 0x100⟩
/-- TRJ_M01.VALUE, RWS, reset 0 (R207). -/
def TRJ_M01_VALUE (u : Nat) : Fld := ⟨0x2000100434 + 0x10000 * u, 0, 32, 0, 0x100⟩
/-- TRJ_M10.VALUE, RWS, reset 0 (R207). -/
def TRJ_M10_VALUE (u : Nat) : Fld := ⟨0x2000100438 + 0x10000 * u, 0, 32, 0, 0x100⟩
/-- TRJ_M11.VALUE, RWS, reset 0x3f800000 (R207). -/
def TRJ_M11_VALUE (u : Nat) : Fld := ⟨0x200010043c + 0x10000 * u, 0, 32, 0x3f800000, 0x100⟩
/-- TRJ_MSCALE_X.VALUE, RWS, reset 0x3f800000 (R207). -/
def TRJ_MSCALE_X_VALUE (u : Nat) : Fld := ⟨0x2000100440 + 0x10000 * u, 0, 32, 0x3f800000, 0x100⟩
/-- TRJ_MSCALE_Y.VALUE, RWS, reset 0x3f800000 (R207). -/
def TRJ_MSCALE_Y_VALUE (u : Nat) : Fld := ⟨0x2000100444 + 0x10000 * u, 0, 32, 0x3f800000, 0x100⟩
/-- TRJ_FQ.VALUE, RWS, reset 0 (R207). -/
def TRJ_FQ_VALUE (u i : Nat) : Fld := ⟨0x2000100450 + 0x10000 * u + 4 * i, 0, 32, 0, 0x100⟩
/-- Bits [31:2] of the word that TRJ_FQ3 and TRJ_CTL share, RWS, reset 0 (R207, R208; log entry 10). -/
def TRJ_CTL_FQ3H (u : Nat) : Fld := ⟨0x200010045c + 0x10000 * u, 2, 30, 0, 0x100⟩
/-- TRJ_CTL.FOCEN, RWS, reset 0 (R208). -/
def TRJ_CTL_FOCEN (u : Nat) : Fld := ⟨0x200010045c + 0x10000 * u, 1, 1, 0, 0x100⟩
/-- TRJ_CTL.FCEN, RWS, reset 0 (R208). -/
def TRJ_CTL_FCEN (u : Nat) : Fld := ⟨0x200010045c + 0x10000 * u, 0, 1, 0, 0x100⟩
/-- TRJ_STAT.SHPEND, RO, reset 0 (R209). -/
def TRJ_STAT_SHPEND (u : Nat) : Fld := ⟨0x2000100560 + 0x10000 * u, 5, 1, 0, 0⟩
/-- TRJ_STAT.TBLERR, W1C, reset 0 (R209). -/
def TRJ_STAT_TBLERR (u : Nat) : Fld := ⟨0x2000100560 + 0x10000 * u, 4, 1, 0, 0⟩
/-- TRJ_STAT.RETGT, W1C, reset 0 (R209). -/
def TRJ_STAT_RETGT (u : Nat) : Fld := ⟨0x2000100560 + 0x10000 * u, 3, 1, 0, 0⟩
/-- TRJ_STAT.ZSAT, W1C, reset 0 (R209). -/
def TRJ_STAT_ZSAT (u : Nat) : Fld := ⟨0x2000100560 + 0x10000 * u, 2, 1, 0, 0⟩
/-- TRJ_STAT.MSAT, W1C, reset 0 (R209). -/
def TRJ_STAT_MSAT (u : Nat) : Fld := ⟨0x2000100560 + 0x10000 * u, 1, 1, 0, 0⟩
/-- TRJ_STAT.FIELD, W1C, reset 0 (R209). -/
def TRJ_STAT_FIELD (u : Nat) : Fld := ⟨0x2000100560 + 0x10000 * u, 0, 1, 0, 0⟩
/-- TRJ_RTG_CNT.FIELDCNT, RO, reset 0 (R210). -/
def TRJ_RTG_CNT_FIELDCNT (u : Nat) : Fld := ⟨0x2000100564 + 0x10000 * u, 16, 16, 0, 0⟩
/-- TRJ_RTG_CNT.RETGT, RO, reset 0 (R210). -/
def TRJ_RTG_CNT_RETGT (u : Nat) : Fld := ⟨0x2000100564 + 0x10000 * u, 0, 16, 0, 0⟩
/-- TRJ_TBL_LO.DX, RW, reset 0 (R211). -/
def TRJ_TBL_LO_DX (u i : Nat) : Fld := ⟨0x2000104000 + 0x10000 * u + 8 * i, 0, 16, 0, 0⟩
/-- TRJ_TBL_LO.DY, RW, reset 0 (R211). -/
def TRJ_TBL_LO_DY (u i : Nat) : Fld := ⟨0x2000104000 + 0x10000 * u + 8 * i, 16, 16, 0, 0⟩
/-- TRJ_TBL_HI.DZ, RW, reset 0 (R211). -/
def TRJ_TBL_HI_DZ (u i : Nat) : Fld := ⟨0x2000104004 + 0x10000 * u + 8 * i, 0, 16, 0, 0⟩

/-- Rows 0 to 19 of the regulator register table. -/
def regRows0 : List RegRow := [
  ⟨0, 1, 0, 1, 0, [⟨20, 8, .rws, 0x20, .k⟩, ⟨12, 8, .rws, 0x10, .k⟩, ⟨8, 4, .rws, 4, .k⟩, ⟨6, 1, .rws, 1, .k⟩, ⟨5, 1, .rws, 0, .k⟩, ⟨4, 1, .rws, 0, .k⟩, ⟨3, 1, .rws, 1, .k⟩, ⟨2, 1, .rws, 1, .k⟩, ⟨1, 1, .rws, 0, .k⟩, ⟨0, 1, .rws, 0, .k⟩]⟩,
  ⟨4, 1, 0, 1, 0, [⟨18, 1, .w1c, 0, .k⟩, ⟨17, 1, .w1c, 0, .k⟩, ⟨16, 1, .w1c, 0, .k⟩, ⟨15, 1, .w1c, 0, .k⟩, ⟨14, 1, .w1c, 0, .k⟩, ⟨13, 1, .w1c, 0, .k⟩, ⟨12, 1, .w1c, 0, .k⟩, ⟨11, 1, .w1c, 0, .k⟩, ⟨10, 1, .w1c, 0, .k⟩, ⟨9, 1, .w1c, 0, .k⟩, ⟨8, 1, .w1c, 0, .k⟩, ⟨3, 1, .ro, 0, .k⟩, ⟨2, 1, .ro, 0, .k⟩, ⟨0, 2, .ro, 0, .k⟩]⟩,
  ⟨8, 1, 0, 1, 0, [⟨0, 32, .rws, 0, .k⟩]⟩,
  ⟨0xc, 1, 0, 1, 0, [⟨0, 32, .rws, 0, .k⟩]⟩,
  ⟨0x10, 1, 0, 1, 0, [⟨0, 32, .rws, 0, .k⟩]⟩,
  ⟨0x14, 1, 0, 1, 0, [⟨0, 32, .rws, 0, .k⟩]⟩,
  ⟨0x18, 1, 0, 1, 0, [⟨0, 16, .rws, 0, .k⟩]⟩,
  ⟨0x1c, 1, 0, 1, 0, [⟨0, 16, .rws, 0x8000, .k⟩]⟩,
  ⟨0x20, 1, 0, 1, 0, [⟨0, 9, .rws, 0x28, .k⟩]⟩,
  ⟨0x24, 1, 0, 1, 0, [⟨16, 16, .rws, 0x1999, .k⟩, ⟨0, 16, .rws, 0x4000, .k⟩]⟩,
  ⟨0x28, 1, 0, 1, 0, [⟨16, 16, .rws, 0xffff, .k⟩, ⟨0, 16, .rws, 0, .k⟩]⟩,
  ⟨0x2c, 1, 0, 1, 0, [⟨0, 16, .rws, 0x100, .k⟩]⟩,
  ⟨0x30, 1, 0, 1, 0, [⟨0, 32, .rws, 0, .k⟩]⟩,
  ⟨0x34, 1, 0, 1, 0, [⟨0, 32, .rws, 0, .k⟩]⟩,
  ⟨0x38, 1, 0, 1, 0, [⟨0, 32, .rws, 0, .k⟩]⟩,
  ⟨0x3c, 1, 0, 1, 0, [⟨0, 16, .rws, 0x100, .k⟩]⟩,
  ⟨0x40, 3, 4, 1, 0, [⟨0, 16, .rws, 0, .k⟩]⟩,
  ⟨0x50, 3, 4, 1, 0, [⟨0, 32, .rws, 0x3f800000, .k⟩]⟩,
  ⟨0x60, 1, 0, 1, 0, [⟨16, 16, .rws, 0x400, .k⟩, ⟨8, 8, .rws, 4, .k⟩, ⟨4, 2, .rws, 2, .k⟩, ⟨0, 4, .rws, 8, .k⟩]⟩,
  ⟨0x64, 1, 0, 1, 0, [⟨16, 16, .rws, 0x40, .k⟩, ⟨8, 8, .rws, 0x40, .k⟩, ⟨0, 8, .rws, 0x60, .k⟩]⟩]

/-- Rows 20 to 32 of the regulator register table. -/
def regRows1 : List RegRow := [
  ⟨0x68, 1, 0, 1, 0, [⟨0, 16, .rws, 0xc8, .k⟩]⟩,
  ⟨0x6c, 1, 0, 1, 0, [⟨4, 3, .rws, 0, .k⟩, ⟨0, 3, .rws, 0, .k⟩]⟩,
  ⟨0x80, 3, 4, 1, 0, [⟨16, 16, .ro, 0, .k⟩, ⟨0, 16, .ro, 0, .k⟩]⟩,
  ⟨0x8c, 1, 0, 1, 0, [⟨0, 32, .ro, 0, .k⟩]⟩,
  ⟨0x90, 1, 0, 1, 0, [⟨0, 32, .ro, 0, .k⟩]⟩,
  ⟨0x94, 1, 0, 1, 0, [⟨16, 16, .ro, 0, .k⟩, ⟨0, 16, .ro, 0, .k⟩]⟩,
  ⟨0x98, 1, 0, 1, 0, [⟨0, 16, .ro, 0, .k⟩]⟩,
  ⟨0x9c, 1, 0, 1, 0, [⟨8, 8, .ro, 0, .k⟩, ⟨0, 5, .ro, 0, .k⟩]⟩,
  ⟨0xa0, 1, 0, 1, 0, [⟨16, 16, .rc, 0, .k⟩, ⟨0, 16, .rc, 0, .k⟩]⟩,
  ⟨0xa4, 1, 0, 1, 0, [⟨0, 16, .rc, 0, .k⟩]⟩,
  ⟨0xa8, 1, 0, 1, 0, [⟨0, 7, .ro, 0, .k⟩]⟩,
  ⟨0xac, 1, 0, 1, 0, [⟨0, 1, .w1p, 0, .k⟩]⟩,
  ⟨0xc0, 8, 4, 1, 0, [⟨0, 32, .ro, 0, .k⟩]⟩]

/-- The regulator block's window (R25): base, units, bytes per unit, offset of the in-force copies (0: none), rows. -/
def regMap : BlockMap := ⟨0x2000500000, 24, 0x1000, 0x100, regRows0 ++ regRows1⟩

/-- REG_CTL.HOLDMAX, RWS, reset 0x20 (R241). -/
def REG_CTL_HOLDMAX (u : Nat) : Fld := ⟨0x2000500000 + 0x1000 * u, 20, 8, 0x20, 0x100⟩
/-- REG_CTL.BLEND, RWS, reset 0x10 (R241). -/
def REG_CTL_BLEND (u : Nat) : Fld := ⟨0x2000500000 + 0x1000 * u, 12, 8, 0x10, 0x100⟩
/-- REG_CTL.BLANK, RWS, reset 4 (R241). -/
def REG_CTL_BLANK (u : Nat) : Fld := ⟨0x2000500000 + 0x1000 * u, 8, 4, 4, 0x100⟩
/-- REG_CTL.PREDRV, RWS, reset 1 (R241). -/
def REG_CTL_PREDRV (u : Nat) : Fld := ⟨0x2000500000 + 0x1000 * u, 6, 1, 1, 0x100⟩
/-- REG_CTL.EVSTREAM, RWS, reset 0 (R241). -/
def REG_CTL_EVSTREAM (u : Nat) : Fld := ⟨0x2000500000 + 0x1000 * u, 5, 1, 0, 0x100⟩
/-- REG_CTL.AUTORET, RWS, reset 0 (R241). -/
def REG_CTL_AUTORET (u : Nat) : Fld := ⟨0x2000500000 + 0x1000 * u, 4, 1, 0, 0x100⟩
/-- REG_CTL.CARRY, RWS, reset 1 (R241). -/
def REG_CTL_CARRY (u : Nat) : Fld := ⟨0x2000500000 + 0x1000 * u, 3, 1, 1, 0x100⟩
/-- REG_CTL.INTERP, RWS, reset 1 (R241). -/
def REG_CTL_INTERP (u : Nat) : Fld := ⟨0x2000500000 + 0x1000 * u, 2, 1, 1, 0x100⟩
/-- REG_CTL.FFEN, RWS, reset 0 (R241). -/
def REG_CTL_FFEN (u : Nat) : Fld := ⟨0x2000500000 + 0x1000 * u, 1, 1, 0, 0x100⟩
/-- REG_CTL.CLEN, RWS, reset 0 (R241). -/
def REG_CTL_CLEN (u : Nat) : Fld := ⟨0x2000500000 + 0x1000 * u, 0, 1, 0, 0x100⟩
/-- REG_STAT.NUMERR, W1C, reset 0 (R242). -/
def REG_STAT_NUMERR (u : Nat) : Fld := ⟨0x2000500004 + 0x1000 * u, 18, 1, 0, 0⟩
/-- REG_STAT.MERGEG, W1C, reset 0 (R242). -/
def REG_STAT_MERGEG (u : Nat) : Fld := ⟨0x2000500004 + 0x1000 * u, 17, 1, 0, 0⟩
/-- REG_STAT.SHORTG, W1C, reset 0 (R242). -/
def REG_STAT_SHORTG (u : Nat) : Fld := ⟨0x2000500004 + 0x1000 * u, 16, 1, 0, 0⟩
/-- REG_STAT.EVOVF, W1C, reset 0 (R242). -/
def REG_STAT_EVOVF (u : Nat) : Fld := ⟨0x2000500004 + 0x1000 * u, 15, 1, 0, 0⟩
/-- REG_STAT.PDSAT, W1C, reset 0 (R242). -/
def REG_STAT_PDSAT (u : Nat) : Fld := ⟨0x2000500004 + 0x1000 * u, 14, 1, 0, 0⟩
/-- REG_STAT.DIALRNG, W1C, reset 0 (R242). -/
def REG_STAT_DIALRNG (u : Nat) : Fld := ⟨0x2000500004 + 0x1000 * u, 13, 1, 0, 0⟩
/-- REG_STAT.SLEWLIM, W1C, reset 0 (R242). -/
def REG_STAT_SLEWLIM (u : Nat) : Fld := ⟨0x2000500004 + 0x1000 * u, 12, 1, 0, 0⟩
/-- REG_STAT.CLAMPLO, W1C, reset 0 (R242). -/
def REG_STAT_CLAMPLO (u : Nat) : Fld := ⟨0x2000500004 + 0x1000 * u, 11, 1, 0, 0⟩
/-- REG_STAT.CLAMPHI, W1C, reset 0 (R242). -/
def REG_STAT_CLAMPHI (u : Nat) : Fld := ⟨0x2000500004 + 0x1000 * u, 10, 1, 0, 0⟩
/-- REG_STAT.FALLBACK, W1C, reset 0 (R242). -/
def REG_STAT_FALLBACK (u : Nat) : Fld := ⟨0x2000500004 + 0x1000 * u, 9, 1, 0, 0⟩
/-- REG_STAT.CLDENY, W1C, reset 0 (R242). -/
def REG_STAT_CLDENY (u : Nat) : Fld := ⟨0x2000500004 + 0x1000 * u, 8, 1, 0, 0⟩
/-- REG_STAT.SHPEND, RO, reset 0 (R242). -/
def REG_STAT_SHPEND (u : Nat) : Fld := ⟨0x2000500004 + 0x1000 * u, 3, 1, 0, 0⟩
/-- REG_STAT.PENDCL, RO, reset 0 (R242). -/
def REG_STAT_PENDCL (u : Nat) : Fld := ⟨0x2000500004 + 0x1000 * u, 2, 1, 0, 0⟩
/-- REG_STAT.LOOPST, RO, reset 0 (R242). -/
def REG_STAT_LOOPST (u : Nat) : Fld := ⟨0x2000500004 + 0x1000 * u, 0, 2, 0, 0⟩
/-- REG_TREF.TREF, RWS, reset 0 (R243). -/
def REG_TREF_TREF (u : Nat) : Fld := ⟨0x2000500008 + 0x1000 * u, 0, 32, 0, 0x100⟩
/-- REG_KP.KP, RWS, reset 0 (R243). -/
def REG_KP_KP (u : Nat) : Fld := ⟨0x200050000c + 0x1000 * u, 0, 32, 0, 0x100⟩
/-- REG_KI.KI, RWS, reset 0 (R243). -/
def REG_KI_KI (u : Nat) : Fld := ⟨0x2000500010 + 0x1000 * u, 0, 32, 0, 0x100⟩
/-- REG_KFF.KFF, RWS, reset 0 (R243). -/
def REG_KFF_KFF (u : Nat) : Fld := ⟨0x2000500014 + 0x1000 * u, 0, 32, 0, 0x100⟩
/-- REG_THETA0.THETA0, RWS, reset 0 (R243). -/
def REG_THETA0_THETA0 (u : Nat) : Fld := ⟨0x2000500018 + 0x1000 * u, 0, 16, 0, 0x100⟩
/-- REG_FFMIN.FFMIN, RWS, reset 0x8000 (R243). -/
def REG_FFMIN_FFMIN (u : Nat) : Fld := ⟨0x200050001c + 0x1000 * u, 0, 16, 0x8000, 0x100⟩
/-- REG_LA.LA, RWS, reset 0x28 (R243). -/
def REG_LA_LA (u : Nat) : Fld := ⟨0x2000500020 + 0x1000 * u, 0, 9, 0x28, 0x100⟩
/-- REG_CLAMP.CLUP, RWS, reset 0x1999 (R243). -/
def REG_CLAMP_CLUP (u : Nat) : Fld := ⟨0x2000500024 + 0x1000 * u, 16, 16, 0x1999, 0x100⟩
/-- REG_CLAMP.CLDN, RWS, reset 0x4000 (R243). -/
def REG_CLAMP_CLDN (u : Nat) : Fld := ⟨0x2000500024 + 0x1000 * u, 0, 16, 0x4000, 0x100⟩
/-- REG_PLIM.PMAX, RWS, reset 0xffff (R243). -/
def REG_PLIM_PMAX (u : Nat) : Fld := ⟨0x2000500028 + 0x1000 * u, 16, 16, 0xffff, 0x100⟩
/-- REG_PLIM.PMIN, RWS, reset 0 (R243). -/
def REG_PLIM_PMIN (u : Nat) : Fld := ⟨0x2000500028 + 0x1000 * u, 0, 16, 0, 0x100⟩
/-- REG_SLEW.SLEW, RWS, reset 0x100 (R243). -/
def REG_SLEW_SLEW (u : Nat) : Fld := ⟨0x200050002c + 0x1000 * u, 0, 16, 0x100, 0x100⟩
/-- REG_TC_A.TC_A, RWS, reset 0 (R243). -/
def REG_TC_A_TC_A (u : Nat) : Fld := ⟨0x2000500030 + 0x1000 * u, 0, 32, 0, 0x100⟩
/-- REG_TC_B.TC_B, RWS, reset 0 (R243). -/
def REG_TC_B_TC_B (u : Nat) : Fld := ⟨0x2000500034 + 0x1000 * u, 0, 32, 0, 0x100⟩
/-- REG_TC_C.TC_C, RWS, reset 0 (R243). -/
def REG_TC_C_TC_C (u : Nat) : Fld := ⟨0x2000500038 + 0x1000 * u, 0, 32, 0, 0x100⟩
/-- REG_SMIN.SMIN, RWS, reset 0x100 (R243). -/
def REG_SMIN_SMIN (u : Nat) : Fld := ⟨0x200050003c + 0x1000 * u, 0, 16, 0x100, 0x100⟩
/-- REG_PDOFS.OFS, RWS, reset 0 (R243). -/
def REG_PDOFS_OFS (u i : Nat) : Fld := ⟨0x2000500040 + 0x1000 * u + 4 * i, 0, 16, 0, 0x100⟩
/-- REG_PDGAIN.GAIN, RWS, reset 0x3f800000 (R243). -/
def REG_PDGAIN_GAIN (u i : Nat) : Fld := ⟨0x2000500050 + 0x1000 * u + 4 * i, 0, 32, 0x3f800000, 0x100⟩
/-- REG_EVCFG.WARM, RWS, reset 0x400 (R244). -/
def REG_EVCFG_WARM (u : Nat) : Fld := ⟨0x2000500060 + 0x1000 * u, 16, 16, 0x400, 0x100⟩
/-- REG_EVCFG.LOFN, RWS, reset 4 (R244). -/
def REG_EVCFG_LOFN (u : Nat) : Fld := ⟨0x2000500060 + 0x1000 * u, 8, 8, 4, 0x100⟩
/-- REG_EVCFG.SPCH, RWS, reset 2 (R244). -/
def REG_EVCFG_SPCH (u : Nat) : Fld := ⟨0x2000500060 + 0x1000 * u, 4, 2, 2, 0x100⟩
/-- REG_EVCFG.ALPHA, RWS, reset 8 (R244). -/
def REG_EVCFG_ALPHA (u : Nat) : Fld := ⟨0x2000500060 + 0x1000 * u, 0, 4, 8, 0x100⟩
/-- REG_EVTHR.FLOOR, RWS, reset 0x40 (R244). -/
def REG_EVTHR_FLOOR (u : Nat) : Fld := ⟨0x2000500064 + 0x1000 * u, 16, 16, 0x40, 0x100⟩
/-- REG_EVTHR.NLO, RWS, reset 0x40 (R244). -/
def REG_EVTHR_NLO (u : Nat) : Fld := ⟨0x2000500064 + 0x1000 * u, 8, 8, 0x40, 0x100⟩
/-- REG_EVTHR.NHI, RWS, reset 0x60 (R244). -/
def REG_EVTHR_NHI (u : Nat) : Fld := ⟨0x2000500064 + 0x1000 * u, 0, 8, 0x60, 0x100⟩
/-- REG_OHT.OHT, RWS, reset 0xc8 (R244). -/
def REG_OHT_OHT (u : Nat) : Fld := ⟨0x2000500068 + 0x1000 * u, 0, 16, 0xc8, 0x100⟩
/-- REG_EVMASK.ESCEV, RWS, reset 0 (R244). -/
def REG_EVMASK_ESCEV (u : Nat) : Fld := ⟨0x200050006c + 0x1000 * u, 4, 3, 0, 0x100⟩
/-- REG_EVMASK.EN, RWS, reset 0 (R244). -/
def REG_EVMASK_EN (u : Nat) : Fld := ⟨0x200050006c + 0x1000 * u, 0, 3, 0, 0x100⟩
/-- REG_BKG.D, RO, reset 0 (R245). -/
def REG_BKG_D (u i : Nat) : Fld := ⟨0x2000500080 + 0x1000 * u + 4 * i, 16, 16, 0, 0⟩
/-- REG_BKG.B, RO, reset 0 (R245). -/
def REG_BKG_B (u i : Nat) : Fld := ⟨0x2000500080 + 0x1000 * u + 4 * i, 0, 16, 0, 0⟩
/-- REG_TM.TM, RO, reset 0 (R245). -/
def REG_TM_TM (u : Nat) : Fld := ⟨0x200050008c + 0x1000 * u, 0, 32, 0, 0⟩
/-- REG_U.U, RO, reset 0 (R245). -/
def REG_U_U (u : Nat) : Fld := ⟨0x2000500090 + 0x1000 * u, 0, 32, 0, 0⟩
/-- REG_POUT.PPROG, RO, reset 0 (R245). -/
def REG_POUT_PPROG (u : Nat) : Fld := ⟨0x2000500094 + 0x1000 * u, 16, 16, 0, 0⟩
/-- REG_POUT.CODE, RO, reset 0 (R245). -/
def REG_POUT_CODE (u : Nat) : Fld := ⟨0x2000500094 + 0x1000 * u, 0, 16, 0, 0⟩
/-- REG_THETA.THETA, RO, reset 0 (R245). -/
def REG_THETA_THETA (u : Nat) : Fld := ⟨0x2000500098 + 0x1000 * u, 0, 16, 0, 0⟩
/-- REG_PDLAT.VALID, RO, reset 0 (R245). -/
def REG_PDLAT_VALID (u : Nat) : Fld := ⟨0x200050009c + 0x1000 * u, 8, 8, 0, 0⟩
/-- REG_PDLAT.AGE, RO, reset 0 (R245). -/
def REG_PDLAT_AGE (u : Nat) : Fld := ⟨0x200050009c + 0x1000 * u, 0, 5, 0, 0⟩
/-- REG_CNT.HOLDCNT, RC, reset 0 (R245). -/
def REG_CNT_HOLDCNT (u : Nat) : Fld := ⟨0x20005000a0 + 0x1000 * u, 16, 16, 0, 0⟩
/-- REG_CNT.CLAMPCNT, RC, reset 0 (R245). -/
def REG_CNT_CLAMPCNT (u : Nat) : Fld := ⟨0x20005000a0 + 0x1000 * u, 0, 16, 0, 0⟩
/-- REG_EVDROP.DROP, RC, reset 0 (R245). -/
def REG_EVDROP_DROP (u : Nat) : Fld := ⟨0x20005000a4 + 0x1000 * u, 0, 16, 0, 0⟩
/-- REG_EVQ_STAT.LEVEL, RO, reset 0 (R245). -/
def REG_EVQ_STAT_LEVEL (u : Nat) : Fld := ⟨0x20005000a8 + 0x1000 * u, 0, 7, 0, 0⟩
/-- REG_EVQ_POP.POP, W1P, reset 0 (R245). -/
def REG_EVQ_POP_POP (u : Nat) : Fld := ⟨0x20005000ac + 0x1000 * u, 0, 1, 0, 0⟩
/-- REG_EVREC.WORD, RO, reset 0 (R245). -/
def REG_EVREC_WORD (u i : Nat) : Fld := ⟨0x20005000c0 + 0x1000 * u + 4 * i, 0, 32, 0, 0⟩

/-- Rows 0 to 4 of the laser port register table. -/
def lpRows0 : List RegRow := [
  ⟨0, 24, 0x10, 1, 0, [⟨2, 1, .rw, 0, .c⟩, ⟨1, 1, .rw, 0, .c⟩, ⟨0, 1, .rw, 0, .c⟩]⟩,
  ⟨4, 24, 0x10, 1, 0, [⟨10, 1, .w1c, 0, .c⟩, ⟨9, 1, .w1c, 0, .c⟩, ⟨8, 1, .w1c, 0, .c⟩, ⟨3, 1, .ro, 1, .c⟩, ⟨2, 1, .ro, 0, .c⟩, ⟨1, 1, .ro, 0, .c⟩, ⟨0, 1, .ro, 0, .c⟩]⟩,
  ⟨8, 24, 0x10, 1, 0, [⟨0, 32, .ro, 0, .c⟩]⟩,
  ⟨0x200, 1, 0, 1, 0, [⟨8, 1, .w1c, 0, .c⟩, ⟨7, 1, .w1p, 0, .c⟩, ⟨4, 2, .ro, 0, .c⟩, ⟨2, 1, .ro, 0, .c⟩, ⟨1, 1, .ro, 0, .c⟩, ⟨0, 1, .ro, 0, .c⟩]⟩,
  ⟨0x204, 1, 0, 1, 0, [⟨0, 16, .rw, 0xa, .c⟩]⟩]

/-- The laser port block's window (R25): base, units, bytes per unit, offset of the in-force copies (0: none), rows. -/
def lpMap : BlockMap := ⟨0x2001300000, 1, 0x100000, 0, lpRows0⟩

/-- LP_CTL.ALMPOL, RW, reset 0 (R246). -/
def LP_CTL_ALMPOL (i : Nat) : Fld := ⟨0x2001300000 + 0x10 * i, 2, 1, 0, 0⟩
/-- LP_CTL.RDYPOL, RW, reset 0 (R246). -/
def LP_CTL_RDYPOL (i : Nat) : Fld := ⟨0x2001300000 + 0x10 * i, 1, 1, 0, 0⟩
/-- LP_CTL.EN, RW, reset 0 (R246). -/
def LP_CTL_EN (i : Nat) : Fld := ⟨0x2001300000 + 0x10 * i, 0, 1, 0, 0⟩
/-- LP_STAT.WERR, W1C, reset 0 (R246). -/
def LP_STAT_WERR (i : Nat) : Fld := ⟨0x2001300004 + 0x10 * i, 10, 1, 0, 0⟩
/-- LP_STAT.ALMSEEN, W1C, reset 0 (R246). -/
def LP_STAT_ALMSEEN (i : Nat) : Fld := ⟨0x2001300004 + 0x10 * i, 9, 1, 0, 0⟩
/-- LP_STAT.RDYLOST, W1C, reset 0 (R246). -/
def LP_STAT_RDYLOST (i : Nat) : Fld := ⟨0x2001300004 + 0x10 * i, 8, 1, 0, 0⟩
/-- LP_STAT.DACZ, RO, reset 1 (R246). -/
def LP_STAT_DACZ (i : Nat) : Fld := ⟨0x2001300004 + 0x10 * i, 3, 1, 1, 0⟩
/-- LP_STAT.GATE, RO, reset 0 (R246). -/
def LP_STAT_GATE (i : Nat) : Fld := ⟨0x2001300004 + 0x10 * i, 2, 1, 0, 0⟩
/-- LP_STAT.ALM, RO, reset 0 (R246). -/
def LP_STAT_ALM (i : Nat) : Fld := ⟨0x2001300004 + 0x10 * i, 1, 1, 0, 0⟩
/-- LP_STAT.RDY, RO, reset 0 (R246). -/
def LP_STAT_RDY (i : Nat) : Fld := ⟨0x2001300004 + 0x10 * i, 0, 1, 0, 0⟩
/-- LP_GCNT.PULSES, RO, reset 0 (R246). -/
def LP_GCNT_PULSES (i : Nat) : Fld := ⟨0x2001300008 + 0x10 * i, 0, 32, 0, 0⟩
/-- LP_ILK.DISC, W1C, reset 0 (R246). -/
def LP_ILK_DISC : Fld := ⟨0x2001300200, 8, 1, 0, 0⟩
/-- LP_ILK.CLR, W1P, reset 0 (R246). -/
def LP_ILK_CLR : Fld := ⟨0x2001300200, 7, 1, 0, 0⟩
/-- LP_ILK.FIRST, RO, reset 0 (R246). -/
def LP_ILK_FIRST : Fld := ⟨0x2001300200, 4, 2, 0, 0⟩
/-- LP_ILK.HACK, RO, reset 0 (R246). -/
def LP_ILK_HACK : Fld := ⟨0x2001300200, 2, 1, 0, 0⟩
/-- LP_ILK.LEVB, RO, reset 0 (R246). -/
def LP_ILK_LEVB : Fld := ⟨0x2001300200, 1, 1, 0, 0⟩
/-- LP_ILK.LEVA, RO, reset 0 (R246). -/
def LP_ILK_LEVA : Fld := ⟨0x2001300200, 0, 1, 0, 0⟩
/-- LP_ILKCFG.DISC, RW, reset 0xa (R246). -/
def LP_ILKCFG_DISC : Fld := ⟨0x2001300204, 0, 16, 0xa, 0⟩

end Sys2Proof.Machine
end

