-- ==== Sys2Proof/Machine/MapPeriphery.lean ====
section
/-! DEFINITION. Register map of the imaging, illumination, motion, encoder blocks, row by row from the register tables of
spec/12_imaging.md, spec/13_illumination.md, spec/14_motion_feedback.md.
A row gives a register's offset in its block, its repetition, and its fields: lowest bit, width, access code (R6),
reset value and reset reach (R10). Below each table, one accessor per field; the docstring of an accessor names the
rule of the table it comes from. -/

namespace Sys2Proof.Machine

/-- Rows 0 to 19 of the imaging register table. -/
def imgRows0 : List RegRow := [
  ⟨0, 1, 0, 1, 0, [⟨0, 1, .rw, 0, .k⟩]⟩,
  ⟨4, 1, 0, 1, 0, [⟨2, 1, .w1c, 0, .k⟩, ⟨1, 1, .w1c, 0, .k⟩, ⟨0, 1, .w1c, 0, .k⟩]⟩,
  ⟨8, 1, 0, 1, 0, [⟨6, 26, .rw, 0, .k⟩]⟩,
  ⟨0xc, 1, 0, 1, 0, [⟨0, 8, .rw, 0, .k⟩]⟩,
  ⟨0x10, 1, 0, 1, 0, [⟨0, 5, .rw, 0xa, .k⟩]⟩,
  ⟨0x14, 1, 0, 1, 0, [⟨0, 24, .ro, 0, .k⟩]⟩,
  ⟨0x18, 1, 0, 1, 0, [⟨0, 24, .rw, 0, .k⟩]⟩,
  ⟨0x1c, 1, 0, 1, 0, [⟨0, 16, .rc, 0, .k⟩]⟩,
  ⟨0x20, 1, 0, 1, 0, [⟨0, 21, .ro, 0x100000, .k⟩]⟩,
  ⟨0x1000, 4, 0x100, 1, 0, [⟨31, 1, .rw, 0, .k⟩, ⟨24, 4, .rw, 4, .k⟩, ⟨22, 2, .rw, 2, .k⟩, ⟨20, 2, .rw, 0, .k⟩, ⟨16, 2, .rw, 0, .k⟩, ⟨8, 6, .rw, 0x2b, .k⟩, ⟨4, 2, .rws, 0, .k⟩, ⟨0, 4, .rws, 0, .k⟩]⟩,
  ⟨0x1004, 4, 0x100, 1, 0, [⟨16, 16, .rws, 0x400, .k⟩, ⟨0, 16, .rws, 0x400, .k⟩]⟩,
  ⟨0x1008, 4, 0x100, 1, 0, [⟨8, 1, .rws, 0, .k⟩, ⟨6, 2, .rws, 0, .k⟩, ⟨3, 1, .rws, 0, .k⟩, ⟨2, 1, .rws, 0, .k⟩, ⟨1, 1, .rws, 0, .k⟩, ⟨0, 1, .rws, 0, .k⟩]⟩,
  ⟨0x100c, 4, 0x100, 1, 0, [⟨0, 16, .rw, 0x10, .k⟩]⟩,
  ⟨0x1010, 4, 0x100, 1, 0, [⟨6, 26, .rw, 0, .k⟩]⟩,
  ⟨0x1014, 4, 0x100, 1, 0, [⟨0, 8, .rw, 0, .k⟩]⟩,
  ⟨0x1018, 4, 0x100, 1, 0, [⟨6, 26, .rw, 0, .k⟩]⟩,
  ⟨0x101c, 4, 0x100, 1, 0, [⟨6, 26, .rw, 0, .k⟩]⟩,
  ⟨0x1020, 4, 0x100, 1, 0, [⟨6, 26, .rw, 0, .k⟩]⟩,
  ⟨0x1024, 4, 0x100, 1, 0, [⟨6, 26, .rw, 0, .k⟩]⟩,
  ⟨0x1028, 4, 0x100, 1, 0, [⟨6, 26, .rw, 0, .k⟩]⟩]

/-- Rows 20 to 39 of the imaging register table. -/
def imgRows1 : List RegRow := [
  ⟨0x102c, 4, 0x100, 1, 0, [⟨0, 12, .rws, 0x40, .k⟩]⟩,
  ⟨0x1030, 4, 0x100, 1, 0, [⟨16, 16, .rws, 0x1000, .k⟩, ⟨0, 16, .rws, 0x1000, .k⟩]⟩,
  ⟨0x1034, 4, 0x100, 1, 0, [⟨0, 16, .rws, 0x1000, .k⟩]⟩,
  ⟨0x1038, 4, 0x100, 1, 0, [⟨16, 16, .rws, 0, .k⟩, ⟨0, 16, .rws, 0x1000, .k⟩]⟩,
  ⟨0x103c, 4, 0x100, 1, 0, [⟨16, 16, .rws, 0, .k⟩, ⟨0, 16, .rws, 0, .k⟩]⟩,
  ⟨0x1040, 4, 0x100, 1, 0, [⟨16, 16, .rws, 0, .k⟩, ⟨0, 16, .rws, 0x1000, .k⟩]⟩,
  ⟨0x1044, 4, 0x100, 1, 0, [⟨16, 16, .rws, 0, .k⟩, ⟨0, 16, .rws, 0, .k⟩]⟩,
  ⟨0x1048, 4, 0x100, 1, 0, [⟨0, 16, .rws, 0x1000, .k⟩]⟩,
  ⟨0x104c, 4, 0x100, 1, 0, [⟨16, 16, .rws, 0, .k⟩, ⟨0, 16, .rws, 0, .k⟩]⟩,
  ⟨0x1050, 4, 0x100, 1, 0, [⟨0, 16, .rws, 0, .k⟩]⟩,
  ⟨0x1054, 4, 0x100, 1, 0, [⟨16, 16, .rws, 0, .k⟩, ⟨0, 16, .rws, 0, .k⟩]⟩,
  ⟨0x1058, 4, 0x100, 1, 0, [⟨16, 16, .rws, 0x1fff, .k⟩, ⟨0, 16, .rws, 0x1fff, .k⟩]⟩,
  ⟨0x105c, 4, 0x100, 1, 0, [⟨31, 1, .rws, 0, .k⟩, ⟨28, 2, .rws, 0, .k⟩, ⟨16, 8, .rws, 0x10, .k⟩, ⟨0, 12, .rws, 0x20, .k⟩]⟩,
  ⟨0x1060, 4, 0x100, 1, 0, [⟨31, 1, .rw, 0, .k⟩, ⟨30, 1, .rw, 0, .k⟩, ⟨29, 1, .w1p, 0, .k⟩]⟩,
  ⟨0x1064, 4, 0x100, 1, 0, [⟨0, 32, .rws, 0, .k⟩]⟩,
  ⟨0x1068, 4, 0x100, 1, 0, [⟨0, 32, .rws, 0, .k⟩]⟩,
  ⟨0x106c, 4, 0x100, 1, 0, [⟨0, 24, .rws, 0xfa0, .k⟩]⟩,
  ⟨0x1070, 4, 0x100, 1, 0, [⟨0, 12, .rw, 0x4b0, .k⟩]⟩,
  ⟨0x1074, 4, 0x100, 1, 0, [⟨16, 4, .ro, 0, .k⟩, ⟨0, 16, .ro, 0, .k⟩]⟩,
  ⟨0x1078, 4, 0x100, 1, 0, [⟨0, 16, .w1p, 0, .k⟩]⟩]

/-- Rows 40 to 59 of the imaging register table. -/
def imgRows2 : List RegRow := [
  ⟨0x107c, 4, 0x100, 1, 0, [⟨16, 16, .ro, 0, .k⟩, ⟨8, 1, .w1c, 0, .k⟩, ⟨7, 1, .w1c, 0, .k⟩, ⟨6, 1, .w1c, 0, .k⟩, ⟨5, 1, .w1c, 0, .k⟩, ⟨4, 1, .w1c, 0, .k⟩, ⟨2, 1, .ro, 0, .k⟩, ⟨1, 1, .ro, 0, .k⟩]⟩,
  ⟨0x1080, 4, 0x100, 1, 0, [⟨0, 32, .ro, 0, .k⟩]⟩,
  ⟨0x1084, 4, 0x100, 1, 0, [⟨16, 16, .rc, 0, .k⟩, ⟨0, 16, .rc, 0, .k⟩]⟩,
  ⟨0x1088, 4, 0x100, 1, 0, [⟨0, 12, .ro, 0, .k⟩]⟩,
  ⟨0x2000, 24, 0x80, 1, 0, [⟨8, 2, .rw, 0, .k⟩, ⟨4, 4, .rws, 4, .k⟩, ⟨0, 1, .rw, 0, .k⟩]⟩,
  ⟨0x2004, 24, 0x80, 1, 0, [⟨16, 9, .rws, 0x100, .k⟩, ⟨0, 9, .rws, 0x100, .k⟩]⟩,
  ⟨0x2008, 24, 0x80, 1, 0, [⟨0, 10, .rws, 0x10, .k⟩]⟩,
  ⟨0x200c, 24, 0x80, 1, 0, [⟨16, 10, .rws, 0x200, .k⟩, ⟨0, 10, .rws, 0x80, .k⟩]⟩,
  ⟨0x2010, 24, 0x80, 1, 0, [⟨0, 8, .rws, 4, .k⟩]⟩,
  ⟨0x2014, 24, 0x80, 1, 0, [⟨0, 16, .rws, 0, .k⟩]⟩,
  ⟨0x2018, 24, 0x80, 1, 0, [⟨0, 16, .rws, 0, .k⟩]⟩,
  ⟨0x201c, 24, 0x80, 1, 0, [⟨6, 26, .rw, 0, .k⟩]⟩,
  ⟨0x2020, 24, 0x80, 1, 0, [⟨0, 8, .rw, 0, .k⟩]⟩,
  ⟨0x2024, 24, 0x80, 1, 0, [⟨6, 26, .rw, 0, .k⟩]⟩,
  ⟨0x2028, 24, 0x80, 1, 0, [⟨0, 8, .rw, 1, .k⟩]⟩,
  ⟨0x2030, 24, 0x80, 1, 0, [⟨5, 1, .w1c, 0, .k⟩, ⟨4, 1, .w1c, 0, .k⟩, ⟨1, 1, .ro, 0, .k⟩, ⟨0, 1, .ro, 0, .k⟩]⟩,
  ⟨0x2034, 24, 0x80, 1, 0, [⟨16, 16, .rc, 0, .k⟩, ⟨0, 16, .rc, 0, .k⟩]⟩,
  ⟨0x2038, 24, 0x80, 1, 0, [⟨0, 16, .ro, 0, .k⟩]⟩,
  ⟨0x203c, 24, 0x80, 1, 0, [⟨0, 16, .ro, 0, .k⟩]⟩,
  ⟨0x2040, 24, 0x80, 16, 4, [⟨31, 1, .rws, 0, .k⟩, ⟨16, 9, .rws, 0, .k⟩, ⟨0, 9, .rws, 0, .k⟩]⟩]

/-- The imaging block's window (R25): base, units, bytes per unit, offset of the in-force copies (0: none), rows. -/
def imgMap : BlockMap := ⟨0x2000900000, 1, 0x100000, 0x8000, imgRows0 ++ imgRows1 ++ imgRows2⟩

/-- IMG_CTL.MPREN, RW, reset 0 (R461). -/
def IMG_CTL_MPREN : Fld := ⟨0x2000900000, 0, 1, 0, 0⟩
/-- IMG_STAT.MPRERR, W1C, reset 0 (R461). -/
def IMG_STAT_MPRERR : Fld := ⟨0x2000900004, 2, 1, 0, 0⟩
/-- IMG_STAT.MPROVF, W1C, reset 0 (R461). -/
def IMG_STAT_MPROVF : Fld := ⟨0x2000900004, 1, 1, 0, 0⟩
/-- IMG_STAT.WERR, W1C, reset 0 (R461). -/
def IMG_STAT_WERR : Fld := ⟨0x2000900004, 0, 1, 0, 0⟩
/-- IMG_MPR_BASE_LO.ADDR, RW, reset 0 (R461). -/
def IMG_MPR_BASE_LO_ADDR : Fld := ⟨0x2000900008, 6, 26, 0, 0⟩
/-- IMG_MPR_BASE_HI.ADDR, RW, reset 0 (R461). -/
def IMG_MPR_BASE_HI_ADDR : Fld := ⟨0x200090000c, 0, 8, 0, 0⟩
/-- IMG_MPR_SIZE.LOG2, RW, reset 0xa (R461). -/
def IMG_MPR_SIZE_LOG2 : Fld := ⟨0x2000900010, 0, 5, 0xa, 0⟩
/-- IMG_MPR_WPTR.WPTR, RO, reset 0 (R461). -/
def IMG_MPR_WPTR_WPTR : Fld := ⟨0x2000900014, 0, 24, 0, 0⟩
/-- IMG_MPR_RPTR.RPTR, RW, reset 0 (R461). -/
def IMG_MPR_RPTR_RPTR : Fld := ⟨0x2000900018, 0, 24, 0, 0⟩
/-- IMG_MPR_DROP.COUNT, RC, reset 0 (R461). -/
def IMG_MPR_DROP_COUNT : Fld := ⟨0x200090001c, 0, 16, 0, 0⟩
/-- IMG_RAWCRED.CREDIT, RO, reset 0x100000 (R461). -/
def IMG_RAWCRED_CREDIT : Fld := ⟨0x2000900020, 0, 21, 0x100000, 0⟩
/-- IMG_CTX_CTL.EN, RW, reset 0 (R462). -/
def IMG_CTX_CTL_EN (i : Nat) : Fld := ⟨0x2000901000 + 0x100 * i, 31, 1, 0, 0⟩
/-- IMG_CTX_CTL.NBUF, RW, reset 4 (R462). -/
def IMG_CTX_CTL_NBUF (i : Nat) : Fld := ⟨0x2000901000 + 0x100 * i, 24, 4, 4, 0⟩
/-- IMG_CTX_CTL.LANES, RW, reset 2 (R462). -/
def IMG_CTX_CTL_LANES (i : Nat) : Fld := ⟨0x2000901000 + 0x100 * i, 22, 2, 2, 0⟩
/-- IMG_CTX_CTL.PRIO, RW, reset 0 (R462). -/
def IMG_CTX_CTL_PRIO (i : Nat) : Fld := ⟨0x2000901000 + 0x100 * i, 20, 2, 0, 0⟩
/-- IMG_CTX_CTL.VC, RW, reset 0 (R462). -/
def IMG_CTX_CTL_VC (i : Nat) : Fld := ⟨0x2000901000 + 0x100 * i, 16, 2, 0, 0⟩
/-- IMG_CTX_CTL.DT, RW, reset 0x2b (R462). -/
def IMG_CTX_CTL_DT (i : Nat) : Fld := ⟨0x2000901000 + 0x100 * i, 8, 6, 0x2b, 0⟩
/-- IMG_CTX_CTL.CFA, RWS, reset 0 (R462). -/
def IMG_CTX_CTL_CFA (i : Nat) : Fld := ⟨0x2000901000 + 0x100 * i, 4, 2, 0, 0x8000⟩
/-- IMG_CTX_CTL.PHASE, RWS, reset 0 (R462). -/
def IMG_CTX_CTL_PHASE (i : Nat) : Fld := ⟨0x2000901000 + 0x100 * i, 0, 4, 0, 0x8000⟩
/-- IMG_CTX_GEOM.HEIGHT, RWS, reset 0x400 (R462). -/
def IMG_CTX_GEOM_HEIGHT (i : Nat) : Fld := ⟨0x2000901004 + 0x100 * i, 16, 16, 0x400, 0x8000⟩
/-- IMG_CTX_GEOM.WIDTH, RWS, reset 0x400 (R462). -/
def IMG_CTX_GEOM_WIDTH (i : Nat) : Fld := ⟨0x2000901004 + 0x100 * i, 0, 16, 0x400, 0x8000⟩
/-- IMG_CTX_OUT.STRKEN, RWS, reset 0 (R462). -/
def IMG_CTX_OUT_STRKEN (i : Nat) : Fld := ⟨0x2000901008 + 0x100 * i, 8, 1, 0, 0x8000⟩
/-- IMG_CTX_OUT.DS, RWS, reset 0 (R462). -/
def IMG_CTX_OUT_DS (i : Nat) : Fld := ⟨0x2000901008 + 0x100 * i, 6, 2, 0, 0x8000⟩
/-- IMG_CTX_OUT.STATEN, RWS, reset 0 (R462). -/
def IMG_CTX_OUT_STATEN (i : Nat) : Fld := ⟨0x2000901008 + 0x100 * i, 3, 1, 0, 0x8000⟩
/-- IMG_CTX_OUT.MVEN, RWS, reset 0 (R462). -/
def IMG_CTX_OUT_MVEN (i : Nat) : Fld := ⟨0x2000901008 + 0x100 * i, 2, 1, 0, 0x8000⟩
/-- IMG_CTX_OUT.CODEEN, RWS, reset 0 (R462). -/
def IMG_CTX_OUT_CODEEN (i : Nat) : Fld := ⟨0x2000901008 + 0x100 * i, 1, 1, 0, 0x8000⟩
/-- IMG_CTX_OUT.DISPEN, RWS, reset 0 (R462). -/
def IMG_CTX_OUT_DISPEN (i : Nat) : Fld := ⟨0x2000901008 + 0x100 * i, 0, 1, 0, 0x8000⟩
/-- IMG_CTX_GUARD.GUARD, RW, reset 0x10 (R462). -/
def IMG_CTX_GUARD_GUARD (i : Nat) : Fld := ⟨0x200090100c + 0x100 * i, 0, 16, 0x10, 0⟩
/-- IMG_CTX_BASE_LO.ADDR, RW, reset 0 (R462). -/
def IMG_CTX_BASE_LO_ADDR (i : Nat) : Fld := ⟨0x2000901010 + 0x100 * i, 6, 26, 0, 0⟩
/-- IMG_CTX_BASE_HI.ADDR, RW, reset 0 (R462). -/
def IMG_CTX_BASE_HI_ADDR (i : Nat) : Fld := ⟨0x2000901014 + 0x100 * i, 0, 8, 0, 0⟩
/-- IMG_CTX_STRIDE.VALUE, RW, reset 0 (R462). -/
def IMG_CTX_STRIDE_VALUE (i : Nat) : Fld := ⟨0x2000901018 + 0x100 * i, 6, 26, 0, 0⟩
/-- IMG_CTX_DISPOFS.VALUE, RW, reset 0 (R462). -/
def IMG_CTX_DISPOFS_VALUE (i : Nat) : Fld := ⟨0x200090101c + 0x100 * i, 6, 26, 0, 0⟩
/-- IMG_CTX_CODEOFS.VALUE, RW, reset 0 (R462). -/
def IMG_CTX_CODEOFS_VALUE (i : Nat) : Fld := ⟨0x2000901020 + 0x100 * i, 6, 26, 0, 0⟩
/-- IMG_CTX_MVOFS.VALUE, RW, reset 0 (R462). -/
def IMG_CTX_MVOFS_VALUE (i : Nat) : Fld := ⟨0x2000901024 + 0x100 * i, 6, 26, 0, 0⟩
/-- IMG_CTX_STATOFS.VALUE, RW, reset 0 (R462). -/
def IMG_CTX_STATOFS_VALUE (i : Nat) : Fld := ⟨0x2000901028 + 0x100 * i, 6, 26, 0, 0⟩
/-- IMG_CTX_BLACK.BLACK, RWS, reset 0x40 (R462). -/
def IMG_CTX_BLACK_BLACK (i : Nat) : Fld := ⟨0x200090102c + 0x100 * i, 0, 12, 0x40, 0x8000⟩
/-- IMG_CTX_WB_RG.GAIN_G, RWS, reset 0x1000 (R462). -/
def IMG_CTX_WB_RG_GAIN_G (i : Nat) : Fld := ⟨0x2000901030 + 0x100 * i, 16, 16, 0x1000, 0x8000⟩
/-- IMG_CTX_WB_RG.GAIN_R, RWS, reset 0x1000 (R462). -/
def IMG_CTX_WB_RG_GAIN_R (i : Nat) : Fld := ⟨0x2000901030 + 0x100 * i, 0, 16, 0x1000, 0x8000⟩
/-- IMG_CTX_WB_B.GAIN_B, RWS, reset 0x1000 (R462). -/
def IMG_CTX_WB_B_GAIN_B (i : Nat) : Fld := ⟨0x2000901034 + 0x100 * i, 0, 16, 0x1000, 0x8000⟩
/-- IMG_CTX_CCM_0.C01, RWS, reset 0 (R462). -/
def IMG_CTX_CCM_0_C01 (i : Nat) : Fld := ⟨0x2000901038 + 0x100 * i, 16, 16, 0, 0x8000⟩
/-- IMG_CTX_CCM_0.C00, RWS, reset 0x1000 (R462). -/
def IMG_CTX_CCM_0_C00 (i : Nat) : Fld := ⟨0x2000901038 + 0x100 * i, 0, 16, 0x1000, 0x8000⟩
/-- IMG_CTX_CCM_1.C10, RWS, reset 0 (R462). -/
def IMG_CTX_CCM_1_C10 (i : Nat) : Fld := ⟨0x200090103c + 0x100 * i, 16, 16, 0, 0x8000⟩
/-- IMG_CTX_CCM_1.C02, RWS, reset 0 (R462). -/
def IMG_CTX_CCM_1_C02 (i : Nat) : Fld := ⟨0x200090103c + 0x100 * i, 0, 16, 0, 0x8000⟩
/-- IMG_CTX_CCM_2.C12, RWS, reset 0 (R462). -/
def IMG_CTX_CCM_2_C12 (i : Nat) : Fld := ⟨0x2000901040 + 0x100 * i, 16, 16, 0, 0x8000⟩
/-- IMG_CTX_CCM_2.C11, RWS, reset 0x1000 (R462). -/
def IMG_CTX_CCM_2_C11 (i : Nat) : Fld := ⟨0x2000901040 + 0x100 * i, 0, 16, 0x1000, 0x8000⟩
/-- IMG_CTX_CCM_3.C21, RWS, reset 0 (R462). -/
def IMG_CTX_CCM_3_C21 (i : Nat) : Fld := ⟨0x2000901044 + 0x100 * i, 16, 16, 0, 0x8000⟩
/-- IMG_CTX_CCM_3.C20, RWS, reset 0 (R462). -/
def IMG_CTX_CCM_3_C20 (i : Nat) : Fld := ⟨0x2000901044 + 0x100 * i, 0, 16, 0, 0x8000⟩
/-- IMG_CTX_CCM_4.C22, RWS, reset 0x1000 (R462). -/
def IMG_CTX_CCM_4_C22 (i : Nat) : Fld := ⟨0x2000901048 + 0x100 * i, 0, 16, 0x1000, 0x8000⟩
/-- IMG_CTX_KIR_RG.KIR_G, RWS, reset 0 (R462). -/
def IMG_CTX_KIR_RG_KIR_G (i : Nat) : Fld := ⟨0x200090104c + 0x100 * i, 16, 16, 0, 0x8000⟩
/-- IMG_CTX_KIR_RG.KIR_R, RWS, reset 0 (R462). -/
def IMG_CTX_KIR_RG_KIR_R (i : Nat) : Fld := ⟨0x200090104c + 0x100 * i, 0, 16, 0, 0x8000⟩
/-- IMG_CTX_KIR_B.KIR_B, RWS, reset 0 (R462). -/
def IMG_CTX_KIR_B_KIR_B (i : Nat) : Fld := ⟨0x2000901050 + 0x100 * i, 0, 16, 0, 0x8000⟩
/-- IMG_CTX_ROI0.Y0, RWS, reset 0 (R462). -/
def IMG_CTX_ROI0_Y0 (i : Nat) : Fld := ⟨0x2000901054 + 0x100 * i, 16, 16, 0, 0x8000⟩
/-- IMG_CTX_ROI0.X0, RWS, reset 0 (R462). -/
def IMG_CTX_ROI0_X0 (i : Nat) : Fld := ⟨0x2000901054 + 0x100 * i, 0, 16, 0, 0x8000⟩
/-- IMG_CTX_ROI1.Y1, RWS, reset 0x1fff (R462). -/
def IMG_CTX_ROI1_Y1 (i : Nat) : Fld := ⟨0x2000901058 + 0x100 * i, 16, 16, 0x1fff, 0x8000⟩
/-- IMG_CTX_ROI1.X1, RWS, reset 0x1fff (R462). -/
def IMG_CTX_ROI1_X1 (i : Nat) : Fld := ⟨0x2000901058 + 0x100 * i, 0, 16, 0x1fff, 0x8000⟩
/-- IMG_CTX_STRK.AXIS, RWS, reset 0 (R462). -/
def IMG_CTX_STRK_AXIS (i : Nat) : Fld := ⟨0x200090105c + 0x100 * i, 31, 1, 0, 0x8000⟩
/-- IMG_CTX_STRK.BAND, RWS, reset 0 (R462). -/
def IMG_CTX_STRK_BAND (i : Nat) : Fld := ⟨0x200090105c + 0x100 * i, 28, 2, 0, 0x8000⟩
/-- IMG_CTX_STRK.HW, RWS, reset 0x10 (R462). -/
def IMG_CTX_STRK_HW (i : Nat) : Fld := ⟨0x200090105c + 0x100 * i, 16, 8, 0x10, 0x8000⟩
/-- IMG_CTX_STRK.THR, RWS, reset 0x20 (R462). -/
def IMG_CTX_STRK_THR (i : Nat) : Fld := ⟨0x200090105c + 0x100 * i, 0, 12, 0x20, 0x8000⟩
/-- IMG_CTX_TRIG.TRIGEN, RW, reset 0 (R462). -/
def IMG_CTX_TRIG_TRIGEN (i : Nat) : Fld := ⟨0x2000901060 + 0x100 * i, 31, 1, 0, 0⟩
/-- IMG_CTX_TRIG.POL, RW, reset 0 (R462). -/
def IMG_CTX_TRIG_POL (i : Nat) : Fld := ⟨0x2000901060 + 0x100 * i, 30, 1, 0, 0⟩
/-- IMG_CTX_TRIG.SOFT, W1P, reset 0 (R462). -/
def IMG_CTX_TRIG_SOFT (i : Nat) : Fld := ⟨0x2000901060 + 0x100 * i, 29, 1, 0, 0⟩
/-- IMG_CTX_TRIG_PERIOD.VALUE, RWS, reset 0 (R462). -/
def IMG_CTX_TRIG_PERIOD_VALUE (i : Nat) : Fld := ⟨0x2000901064 + 0x100 * i, 0, 32, 0, 0x8000⟩
/-- IMG_CTX_TRIG_PHASE.VALUE, RWS, reset 0 (R462). -/
def IMG_CTX_TRIG_PHASE_VALUE (i : Nat) : Fld := ⟨0x2000901068 + 0x100 * i, 0, 32, 0, 0x8000⟩
/-- IMG_CTX_TRIG_WIDTH.VALUE, RWS, reset 0xfa0 (R462). -/
def IMG_CTX_TRIG_WIDTH_VALUE (i : Nat) : Fld := ⟨0x200090106c + 0x100 * i, 0, 24, 0xfa0, 0x8000⟩
/-- IMG_CTX_RATE.DECLARED, RW, reset 0x4b0 (R462). -/
def IMG_CTX_RATE_DECLARED (i : Nat) : Fld := ⟨0x2000901070 + 0x100 * i, 0, 12, 0x4b0, 0⟩
/-- IMG_CTX_SLOTS.LASTSLOT, RO, reset 0 (R462). -/
def IMG_CTX_SLOTS_LASTSLOT (i : Nat) : Fld := ⟨0x2000901074 + 0x100 * i, 16, 4, 0, 0⟩
/-- IMG_CTX_SLOTS.FREE, RO, reset 0 (R462). -/
def IMG_CTX_SLOTS_FREE (i : Nat) : Fld := ⟨0x2000901074 + 0x100 * i, 0, 16, 0, 0⟩
/-- IMG_CTX_REL.REL, W1P, reset 0 (R462). -/
def IMG_CTX_REL_REL (i : Nat) : Fld := ⟨0x2000901078 + 0x100 * i, 0, 16, 0, 0⟩
/-- IMG_CTX_STAT.GEN, RO, reset 0 (R463). -/
def IMG_CTX_STAT_GEN (i : Nat) : Fld := ⟨0x200090107c + 0x100 * i, 16, 16, 0, 0⟩
/-- IMG_CTX_STAT.TRIGLATE, W1C, reset 0 (R463). -/
def IMG_CTX_STAT_TRIGLATE (i : Nat) : Fld := ⟨0x200090107c + 0x100 * i, 8, 1, 0, 0⟩
/-- IMG_CTX_STAT.OVERRUN, W1C, reset 0 (R463). -/
def IMG_CTX_STAT_OVERRUN (i : Nat) : Fld := ⟨0x200090107c + 0x100 * i, 7, 1, 0, 0⟩
/-- IMG_CTX_STAT.SHORT, W1C, reset 0 (R463). -/
def IMG_CTX_STAT_SHORT (i : Nat) : Fld := ⟨0x200090107c + 0x100 * i, 6, 1, 0, 0⟩
/-- IMG_CTX_STAT.LONG, W1C, reset 0 (R463). -/
def IMG_CTX_STAT_LONG (i : Nat) : Fld := ⟨0x200090107c + 0x100 * i, 5, 1, 0, 0⟩
/-- IMG_CTX_STAT.BADLINE, W1C, reset 0 (R463). -/
def IMG_CTX_STAT_BADLINE (i : Nat) : Fld := ⟨0x200090107c + 0x100 * i, 4, 1, 0, 0⟩
/-- IMG_CTX_STAT.SHPEND, RO, reset 0 (R463). -/
def IMG_CTX_STAT_SHPEND (i : Nat) : Fld := ⟨0x200090107c + 0x100 * i, 2, 1, 0, 0⟩
/-- IMG_CTX_STAT.ACTIVE, RO, reset 0 (R463). -/
def IMG_CTX_STAT_ACTIVE (i : Nat) : Fld := ⟨0x200090107c + 0x100 * i, 1, 1, 0, 0⟩
/-- IMG_CTX_FRAME.FRAME, RO, reset 0 (R462). -/
def IMG_CTX_FRAME_FRAME (i : Nat) : Fld := ⟨0x2000901080 + 0x100 * i, 0, 32, 0, 0⟩
/-- IMG_CTX_DROP.BUFDROP, RC, reset 0 (R462). -/
def IMG_CTX_DROP_BUFDROP (i : Nat) : Fld := ⟨0x2000901084 + 0x100 * i, 16, 16, 0, 0⟩
/-- IMG_CTX_DROP.OVLDROP, RC, reset 0 (R462). -/
def IMG_CTX_DROP_OVLDROP (i : Nat) : Fld := ⟨0x2000901084 + 0x100 * i, 0, 16, 0, 0⟩
/-- IMG_CTX_MRATE.R_C, RO, reset 0 (R462). -/
def IMG_CTX_MRATE_R_C (i : Nat) : Fld := ⟨0x2000901088 + 0x100 * i, 0, 12, 0, 0⟩
/-- LPE_CTL.TAP, RW, reset 0 (R464). -/
def LPE_CTL_TAP (i : Nat) : Fld := ⟨0x2000902000 + 0x80 * i, 8, 2, 0, 0⟩
/-- LPE_CTL.ALPHA, RWS, reset 4 (R464). -/
def LPE_CTL_ALPHA (i : Nat) : Fld := ⟨0x2000902000 + 0x80 * i, 4, 4, 4, 0x8000⟩
/-- LPE_CTL.EN, RW, reset 0 (R464). -/
def LPE_CTL_EN (i : Nat) : Fld := ⟨0x2000902000 + 0x80 * i, 0, 1, 0, 0⟩
/-- LPE_GEOM.HEIGHT, RWS, reset 0x100 (R464). -/
def LPE_GEOM_HEIGHT (i : Nat) : Fld := ⟨0x2000902004 + 0x80 * i, 16, 9, 0x100, 0x8000⟩
/-- LPE_GEOM.WIDTH, RWS, reset 0x100 (R464). -/
def LPE_GEOM_WIDTH (i : Nat) : Fld := ⟨0x2000902004 + 0x80 * i, 0, 9, 0x100, 0x8000⟩
/-- LPE_BLACK.BLACK, RWS, reset 0x10 (R464). -/
def LPE_BLACK_BLACK (i : Nat) : Fld := ⟨0x2000902008 + 0x80 * i, 0, 10, 0x10, 0x8000⟩
/-- LPE_THR.SPTHR, RWS, reset 0x200 (R464). -/
def LPE_THR_SPTHR (i : Nat) : Fld := ⟨0x200090200c + 0x80 * i, 16, 10, 0x200, 0x8000⟩
/-- LPE_THR.THR, RWS, reset 0x80 (R464). -/
def LPE_THR_THR (i : Nat) : Fld := ⟨0x200090200c + 0x80 * i, 0, 10, 0x80, 0x8000⟩
/-- LPE_GUARD.VALUE, RWS, reset 4 (R464). -/
def LPE_GUARD_VALUE (i : Nat) : Fld := ⟨0x2000902010 + 0x80 * i, 0, 8, 4, 0x8000⟩
/-- LPE_ROT.ROT, RWS, reset 0 (R464). -/
def LPE_ROT_ROT (i : Nat) : Fld := ⟨0x2000902014 + 0x80 * i, 0, 16, 0, 0x8000⟩
/-- LPE_LAT.LAT, RWS, reset 0 (R464). -/
def LPE_LAT_LAT (i : Nat) : Fld := ⟨0x2000902018 + 0x80 * i, 0, 16, 0, 0x8000⟩
/-- LPE_TAPBASE_LO.ADDR, RW, reset 0 (R464). -/
def LPE_TAPBASE_LO_ADDR (i : Nat) : Fld := ⟨0x200090201c + 0x80 * i, 6, 26, 0, 0⟩
/-- LPE_TAPBASE_HI.ADDR, RW, reset 0 (R464). -/
def LPE_TAPBASE_HI_ADDR (i : Nat) : Fld := ⟨0x2000902020 + 0x80 * i, 0, 8, 0, 0⟩
/-- LPE_TAPSTRIDE.VALUE, RW, reset 0 (R464). -/
def LPE_TAPSTRIDE_VALUE (i : Nat) : Fld := ⟨0x2000902024 + 0x80 * i, 6, 26, 0, 0⟩
/-- LPE_TAPN.VALUE, RW, reset 1 (R464). -/
def LPE_TAPN_VALUE (i : Nat) : Fld := ⟨0x2000902028 + 0x80 * i, 0, 8, 1, 0⟩
/-- LPE_STAT.GEOMERR, W1C, reset 0 (R464). -/
def LPE_STAT_GEOMERR (i : Nat) : Fld := ⟨0x2000902030 + 0x80 * i, 5, 1, 0, 0⟩
/-- LPE_STAT.INCOMPL, W1C, reset 0 (R464). -/
def LPE_STAT_INCOMPL (i : Nat) : Fld := ⟨0x2000902030 + 0x80 * i, 4, 1, 0, 0⟩
/-- LPE_STAT.SHPEND, RO, reset 0 (R464). -/
def LPE_STAT_SHPEND (i : Nat) : Fld := ⟨0x2000902030 + 0x80 * i, 1, 1, 0, 0⟩
/-- LPE_STAT.ACTIVE, RO, reset 0 (R464). -/
def LPE_STAT_ACTIVE (i : Nat) : Fld := ⟨0x2000902030 + 0x80 * i, 0, 1, 0, 0⟩
/-- LPE_CNT.GAPCNT, RC, reset 0 (R464). -/
def LPE_CNT_GAPCNT (i : Nat) : Fld := ⟨0x2000902034 + 0x80 * i, 16, 16, 0, 0⟩
/-- LPE_CNT.TAPDROP, RC, reset 0 (R464). -/
def LPE_CNT_TAPDROP (i : Nat) : Fld := ⟨0x2000902034 + 0x80 * i, 0, 16, 0, 0⟩
/-- LPE_BKG.B, RO, reset 0 (R464). -/
def LPE_BKG_B (i : Nat) : Fld := ⟨0x2000902038 + 0x80 * i, 0, 16, 0, 0⟩
/-- LPE_FRAME.LAST, RO, reset 0 (R464). -/
def LPE_FRAME_LAST (i : Nat) : Fld := ⟨0x200090203c + 0x80 * i, 0, 16, 0, 0⟩
/-- LPE_DEF.VALID, RWS, reset 0 (R464). -/
def LPE_DEF_VALID (i j : Nat) : Fld := ⟨0x2000902040 + 0x80 * i + 4 * j, 31, 1, 0, 0x8000⟩
/-- LPE_DEF.Y, RWS, reset 0 (R464). -/
def LPE_DEF_Y (i j : Nat) : Fld := ⟨0x2000902040 + 0x80 * i + 4 * j, 16, 9, 0, 0x8000⟩
/-- LPE_DEF.X, RWS, reset 0 (R464). -/
def LPE_DEF_X (i j : Nat) : Fld := ⟨0x2000902040 + 0x80 * i + 4 * j, 0, 9, 0, 0x8000⟩

/-- Rows 0 to 13 of the illumination register table. -/
def illRows0 : List RegRow := [
  ⟨0, 1, 0, 1, 0, [⟨8, 8, .rws, 0, .k⟩, ⟨1, 1, .rw, 0, .k⟩, ⟨0, 1, .rw, 0, .k⟩]⟩,
  ⟨4, 1, 0, 1, 0, [⟨0, 24, .rws, 0x186a0, .k⟩]⟩,
  ⟨8, 1, 0, 1, 0, [⟨0, 1, .w1p, 0, .k⟩]⟩,
  ⟨0xc, 1, 0, 1, 0, [⟨2, 1, .w1c, 0, .k⟩, ⟨1, 1, .w1c, 0, .k⟩, ⟨0, 1, .ro, 0, .k⟩]⟩,
  ⟨0x10, 1, 0, 1, 0, [⟨0, 31, .ro, 0, .k⟩]⟩,
  ⟨0x20, 4, 0x10, 1, 0, [⟨16, 16, .rw, 0xf8a, .k⟩, ⟨0, 16, .rw, 0x3e8, .k⟩]⟩,
  ⟨0x24, 4, 0x10, 1, 0, [⟨0, 16, .ro, 0, .k⟩]⟩,
  ⟨0x28, 4, 0x10, 1, 0, [⟨24, 8, .rw, 0x14, .k⟩, ⟨16, 8, .rw, 5, .k⟩, ⟨0, 8, .rw, 0x55, .k⟩]⟩,
  ⟨0x2c, 4, 0x10, 1, 0, [⟨1, 1, .w1c, 0, .k⟩, ⟨0, 1, .ro, 0, .k⟩]⟩,
  ⟨0x60, 64, 4, 1, 0, [⟨0, 16, .rw, 0x4000, .k⟩]⟩,
  ⟨0x200, 32, 0x10, 1, 0, [⟨30, 2, .rws, 0, .k⟩, ⟨29, 1, .rws, 0, .k⟩, ⟨28, 1, .rws, 0, .k⟩, ⟨26, 2, .rws, 0, .k⟩, ⟨16, 4, .rws, 0, .k⟩, ⟨0, 10, .rws, 0, .k⟩]⟩,
  ⟨0x204, 32, 0x10, 1, 0, [⟨0, 16, .rws, 0, .k⟩]⟩,
  ⟨0x208, 32, 0x10, 1, 0, [⟨16, 16, .rws, 0, .k⟩, ⟨0, 16, .rws, 0, .k⟩]⟩,
  ⟨0x20c, 32, 0x10, 1, 0, [⟨7, 1, .ro, 0, .k⟩, ⟨6, 1, .ro, 0, .k⟩, ⟨5, 1, .w1c, 0, .k⟩, ⟨4, 1, .w1c, 0, .k⟩, ⟨3, 1, .ro, 0, .k⟩, ⟨2, 1, .w1c, 0, .k⟩, ⟨1, 1, .w1c, 0, .k⟩, ⟨0, 1, .ro, 0, .k⟩]⟩]

/-- The illumination block's window (R25): base, units, bytes per unit, offset of the in-force copies (0: none), rows. -/
def illMap : BlockMap := ⟨0x2000a00000, 1, 0x100000, 0x800, illRows0⟩

/-- ILL_CTL.GSCALE, RWS, reset 0 (R478). -/
def ILL_CTL_GSCALE : Fld := ⟨0x2000a00000, 8, 8, 0, 0x800⟩
/-- ILL_CTL.SUPOK, RW, reset 0 (R478). -/
def ILL_CTL_SUPOK : Fld := ⟨0x2000a00000, 1, 1, 0, 0⟩
/-- ILL_CTL.EN, RW, reset 0 (R478). -/
def ILL_CTL_EN : Fld := ⟨0x2000a00000, 0, 1, 0, 0⟩
/-- ILL_PERIOD.PERIOD, RWS, reset 0x186a0 (R478). -/
def ILL_PERIOD_PERIOD : Fld := ⟨0x2000a00004, 0, 24, 0x186a0, 0x800⟩
/-- ILL_CMD.NTEST, W1P, reset 0 (R478). -/
def ILL_CMD_NTEST : Fld := ⟨0x2000a00008, 0, 1, 0, 0⟩
/-- ILL_STAT.CMDERR, W1C, reset 0 (R478). -/
def ILL_STAT_CMDERR : Fld := ⟨0x2000a0000c, 2, 1, 0, 0⟩
/-- ILL_STAT.NDONE, W1C, reset 0 (R478). -/
def ILL_STAT_NDONE : Fld := ⟨0x2000a0000c, 1, 1, 0, 0⟩
/-- ILL_STAT.NBUSY, RO, reset 0 (R478). -/
def ILL_STAT_NBUSY : Fld := ⟨0x2000a0000c, 0, 1, 0, 0⟩
/-- ILL_NBR.SHORTED, RO, reset 0 (R478). -/
def ILL_NBR_SHORTED : Fld := ⟨0x2000a00010, 0, 31, 0, 0⟩
/-- ILL_NTC.BETA, RW, reset 0xf8a (R478). -/
def ILL_NTC_BETA (i : Nat) : Fld := ⟨0x2000a00020 + 0x10 * i, 16, 16, 0xf8a, 0⟩
/-- ILL_NTC.RNOM, RW, reset 0x3e8 (R478). -/
def ILL_NTC_RNOM (i : Nat) : Fld := ⟨0x2000a00020 + 0x10 * i, 0, 16, 0x3e8, 0⟩
/-- ILL_TEMP.T, RO, reset 0 (R478). -/
def ILL_TEMP_T (i : Nat) : Fld := ⟨0x2000a00024 + 0x10 * i, 0, 16, 0, 0⟩
/-- ILL_TCFG.TSTART, RW, reset 0x14 (R478). -/
def ILL_TCFG_TSTART (i : Nat) : Fld := ⟨0x2000a00028 + 0x10 * i, 24, 8, 0x14, 0⟩
/-- ILL_TCFG.TSTEP, RW, reset 5 (R478). -/
def ILL_TCFG_TSTEP (i : Nat) : Fld := ⟨0x2000a00028 + 0x10 * i, 16, 8, 5, 0⟩
/-- ILL_TCFG.TMAX, RW, reset 0x55 (R478). -/
def ILL_TCFG_TMAX (i : Nat) : Fld := ⟨0x2000a00028 + 0x10 * i, 0, 8, 0x55, 0⟩
/-- ILL_CSTAT.SENSE, W1C, reset 0 (R478). -/
def ILL_CSTAT_SENSE (i : Nat) : Fld := ⟨0x2000a0002c + 0x10 * i, 1, 1, 0, 0⟩
/-- ILL_CSTAT.OVT, RO, reset 0 (R478). -/
def ILL_CSTAT_OVT (i : Nat) : Fld := ⟨0x2000a0002c + 0x10 * i, 0, 1, 0, 0⟩
/-- ILL_COMP.K_I, RW, reset 0x4000 (R478). -/
def ILL_COMP_K_I (i : Nat) : Fld := ⟨0x2000a00060 + 4 * i, 0, 16, 0x4000, 0⟩
/-- ILL_CH.MODE, RWS, reset 0 (R479). -/
def ILL_CH_MODE (i : Nat) : Fld := ⟨0x2000a00200 + 0x10 * i, 30, 2, 0, 0x800⟩
/-- ILL_CH.DIAGP, RWS, reset 0 (R479). -/
def ILL_CH_DIAGP (i : Nat) : Fld := ⟨0x2000a00200 + 0x10 * i, 29, 1, 0, 0x800⟩
/-- ILL_CH.STRBOUT, RWS, reset 0 (R479). -/
def ILL_CH_STRBOUT (i : Nat) : Fld := ⟨0x2000a00200 + 0x10 * i, 28, 1, 0, 0x800⟩
/-- ILL_CH.SRC, RWS, reset 0 (R479). -/
def ILL_CH_SRC (i : Nat) : Fld := ⟨0x2000a00200 + 0x10 * i, 26, 2, 0, 0x800⟩
/-- ILL_CH.PHASE, RWS, reset 0 (R479). -/
def ILL_CH_PHASE (i : Nat) : Fld := ⟨0x2000a00200 + 0x10 * i, 16, 4, 0, 0x800⟩
/-- ILL_CH.ISET, RWS, reset 0 (R479). -/
def ILL_CH_ISET (i : Nat) : Fld := ⟨0x2000a00200 + 0x10 * i, 0, 10, 0, 0x800⟩
/-- ILL_DUTY.DUTY, RWS, reset 0 (R479). -/
def ILL_DUTY_DUTY (i : Nat) : Fld := ⟨0x2000a00204 + 0x10 * i, 0, 16, 0, 0x800⟩
/-- ILL_STRB.SDELAY, RWS, reset 0 (R479). -/
def ILL_STRB_SDELAY (i : Nat) : Fld := ⟨0x2000a00208 + 0x10 * i, 16, 16, 0, 0x800⟩
/-- ILL_STRB.SWIDTH, RWS, reset 0 (R479). -/
def ILL_STRB_SWIDTH (i : Nat) : Fld := ⟨0x2000a00208 + 0x10 * i, 0, 16, 0, 0x800⟩
/-- ILL_DIAG.ON, RO, reset 0 (R479). -/
def ILL_DIAG_ON (i : Nat) : Fld := ⟨0x2000a0020c + 0x10 * i, 7, 1, 0, 0⟩
/-- ILL_DIAG.UNVER, RO, reset 0 (R479). -/
def ILL_DIAG_UNVER (i : Nat) : Fld := ⟨0x2000a0020c + 0x10 * i, 6, 1, 0, 0⟩
/-- ILL_DIAG.STRBOVL, W1C, reset 0 (R479). -/
def ILL_DIAG_STRBOVL (i : Nat) : Fld := ⟨0x2000a0020c + 0x10 * i, 5, 1, 0, 0⟩
/-- ILL_DIAG.COMPLIM, W1C, reset 0 (R479). -/
def ILL_DIAG_COMPLIM (i : Nat) : Fld := ⟨0x2000a0020c + 0x10 * i, 4, 1, 0, 0⟩
/-- ILL_DIAG.SINKOT, RO, reset 0 (R479). -/
def ILL_DIAG_SINKOT (i : Nat) : Fld := ⟨0x2000a0020c + 0x10 * i, 3, 1, 0, 0⟩
/-- ILL_DIAG.SHORT, W1C, reset 0 (R479). -/
def ILL_DIAG_SHORT (i : Nat) : Fld := ⟨0x2000a0020c + 0x10 * i, 2, 1, 0, 0⟩
/-- ILL_DIAG.OPEN, W1C, reset 0 (R479). -/
def ILL_DIAG_OPEN (i : Nat) : Fld := ⟨0x2000a0020c + 0x10 * i, 1, 1, 0, 0⟩
/-- ILL_DIAG.SHPEND, RO, reset 0 (R479). -/
def ILL_DIAG_SHPEND (i : Nat) : Fld := ⟨0x2000a0020c + 0x10 * i, 0, 1, 0, 0⟩

/-- Rows 0 to 19 of the motion register table. -/
def motRows0 : List RegRow := [
  ⟨0, 1, 0, 1, 0, [⟨0, 8, .rw, 0xa, .k⟩]⟩,
  ⟨4, 1, 0, 1, 0, [⟨3, 1, .w1c, 0, .k⟩, ⟨2, 1, .w1c, 0, .k⟩, ⟨1, 1, .ro, 0, .k⟩, ⟨0, 1, .ro, 0, .k⟩]⟩,
  ⟨8, 1, 0, 1, 0, [⟨0, 16, .ro, 0, .k⟩]⟩,
  ⟨0x100, 6, 0x80, 1, 0, [⟨31, 1, .rw, 0, .k⟩, ⟨30, 1, .rw, 0, .k⟩, ⟨29, 1, .rw, 0, .k⟩, ⟨28, 1, .rw, 0, .k⟩, ⟨24, 3, .rw, 7, .k⟩, ⟨16, 4, .rw, 8, .k⟩]⟩,
  ⟨0x104, 6, 0x80, 1, 0, [⟨31, 1, .w1p, 0, .k⟩, ⟨30, 1, .rw, 0, .k⟩, ⟨0, 3, .rw, 0, .k⟩]⟩,
  ⟨0x108, 6, 0x80, 1, 0, [⟨0, 32, .rw, 0, .k⟩]⟩,
  ⟨0x10c, 6, 0x80, 1, 0, [⟨0, 32, .rw, 0, .k⟩]⟩,
  ⟨0x110, 6, 0x80, 1, 0, [⟨0, 16, .rw, 0, .k⟩]⟩,
  ⟨0x114, 6, 0x80, 1, 0, [⟨0, 24, .rw, 0x61a80, .k⟩]⟩,
  ⟨0x118, 6, 0x80, 1, 0, [⟨0, 32, .rw, 0x1e8480, .k⟩]⟩,
  ⟨0x11c, 6, 0x80, 1, 0, [⟨0, 32, .rw, 0x1e8480, .k⟩]⟩,
  ⟨0x120, 6, 0x80, 1, 0, [⟨0, 32, .rw, 0x4e20, .k⟩]⟩,
  ⟨0x124, 6, 0x80, 1, 0, [⟨0, 32, .rw, 0x80000000, .k⟩]⟩,
  ⟨0x128, 6, 0x80, 1, 0, [⟨0, 32, .rw, 0x7fffffff, .k⟩]⟩,
  ⟨0x12c, 6, 0x80, 1, 0, [⟨16, 16, .rw, 0xfa0, .k⟩, ⟨0, 16, .rw, 0x7d0, .k⟩]⟩,
  ⟨0x130, 6, 0x80, 1, 0, [⟨16, 16, .rw, 0xffff, .k⟩, ⟨0, 16, .rw, 0x3e80, .k⟩]⟩,
  ⟨0x134, 6, 0x80, 1, 0, [⟨24, 8, .rw, 0xc0, .k⟩, ⟨16, 8, .rw, 0x80, .k⟩, ⟨8, 8, .rw, 0x40, .k⟩, ⟨0, 8, .rw, 0x20, .k⟩]⟩,
  ⟨0x138, 6, 0x80, 1, 0, [⟨4, 4, .rw, 3, .k⟩, ⟨24, 8, .rw, 0x46, .k⟩, ⟨16, 8, .rw, 0x1e, .k⟩, ⟨8, 8, .rw, 0xa, .k⟩]⟩,
  ⟨0x13c, 6, 0x80, 1, 0, [⟨16, 16, .rw, 0x1770, .k⟩, ⟨0, 16, .rw, 0x320, .k⟩]⟩,
  ⟨0x140, 6, 0x80, 1, 0, [⟨16, 16, .rw, 0x640, .k⟩, ⟨0, 16, .rw, 0x190, .k⟩]⟩]

/-- Rows 20 to 29 of the motion register table. -/
def motRows1 : List RegRow := [
  ⟨0x144, 6, 0x80, 1, 0, [⟨16, 16, .rw, 0xa0, .k⟩, ⟨0, 16, .rw, 0x1000, .k⟩]⟩,
  ⟨0x148, 6, 0x80, 1, 0, [⟨0, 32, .rw, 0, .k⟩]⟩,
  ⟨0x14c, 6, 0x80, 1, 0, [⟨0, 16, .rw, 0xbb8, .k⟩]⟩,
  ⟨0x150, 6, 0x80, 1, 0, [⟨24, 8, .rw, 0x32, .k⟩, ⟨16, 8, .rw, 0x10, .k⟩, ⟨0, 16, .rw, 0x64, .k⟩]⟩,
  ⟨0x154, 6, 0x80, 1, 0, [⟨22, 1, .w1c, 0, .k⟩, ⟨21, 1, .w1c, 0, .k⟩, ⟨20, 1, .w1c, 0, .k⟩, ⟨19, 1, .w1c, 0, .k⟩, ⟨18, 1, .w1c, 0, .k⟩, ⟨17, 1, .w1c, 0, .k⟩, ⟨16, 1, .w1c, 0, .k⟩, ⟨12, 4, .ro, 0, .k⟩, ⟨11, 1, .ro, 0, .k⟩, ⟨10, 1, .ro, 0, .k⟩, ⟨9, 1, .ro, 0, .k⟩, ⟨8, 1, .ro, 0, .k⟩, ⟨7, 1, .ro, 0, .k⟩, ⟨4, 3, .ro, 0, .k⟩, ⟨0, 3, .ro, 0, .k⟩]⟩,
  ⟨0x158, 6, 0x80, 1, 0, [⟨0, 32, .ro, 0, .k⟩]⟩,
  ⟨0x15c, 6, 0x80, 1, 0, [⟨0, 32, .ro, 0, .k⟩]⟩,
  ⟨0x160, 6, 0x80, 1, 0, [⟨24, 8, .ro, 0, .k⟩, ⟨16, 8, .ro, 0, .k⟩, ⟨0, 3, .ro, 0, .k⟩]⟩,
  ⟨0x164, 6, 0x80, 1, 0, [⟨0, 32, .ro, 0, .k⟩]⟩,
  ⟨0x168, 6, 0x80, 1, 0, [⟨16, 16, .rc, 0, .k⟩, ⟨0, 16, .rc, 0, .k⟩]⟩]

/-- The motion block's window (R25): base, units, bytes per unit, offset of the in-force copies (0: none), rows. -/
def motMap : BlockMap := ⟨0x2000b00000, 1, 0x100000, 0, motRows0 ++ motRows1⟩

/-- MOT_CTL.VMUV, RW, reset 0xa (R507). -/
def MOT_CTL_VMUV : Fld := ⟨0x2000b00000, 0, 8, 0xa, 0⟩
/-- MOT_STAT.LINKLOST, W1C, reset 0 (R507). -/
def MOT_STAT_LINKLOST : Fld := ⟨0x2000b00004, 3, 1, 0, 0⟩
/-- MOT_STAT.VMUV, W1C, reset 0 (R507). -/
def MOT_STAT_VMUV : Fld := ⟨0x2000b00004, 2, 1, 0, 0⟩
/-- MOT_STAT.VMOK, RO, reset 0 (R507). -/
def MOT_STAT_VMOK : Fld := ⟨0x2000b00004, 1, 1, 0, 0⟩
/-- MOT_STAT.DRVON, RO, reset 0 (R507). -/
def MOT_STAT_DRVON : Fld := ⟨0x2000b00004, 0, 1, 0, 0⟩
/-- MOT_VM.VM, RO, reset 0 (R507). -/
def MOT_VM_VM : Fld := ⟨0x2000b00008, 0, 16, 0, 0⟩
/-- MOT_AX_CTL.EN, RW, reset 0 (R508). -/
def MOT_AX_CTL_EN (i : Nat) : Fld := ⟨0x2000b00100 + 0x80 * i, 31, 1, 0, 0⟩
/-- MOT_AX_CTL.DIRINV, RW, reset 0 (R508). -/
def MOT_AX_CTL_DIRINV (i : Nat) : Fld := ⟨0x2000b00100 + 0x80 * i, 30, 1, 0, 0⟩
/-- MOT_AX_CTL.HOMESEL, RW, reset 0 (R508). -/
def MOT_AX_CTL_HOMESEL (i : Nat) : Fld := ⟨0x2000b00100 + 0x80 * i, 29, 1, 0, 0⟩
/-- MOT_AX_CTL.IDXEN, RW, reset 0 (R508). -/
def MOT_AX_CTL_IDXEN (i : Nat) : Fld := ⟨0x2000b00100 + 0x80 * i, 28, 1, 0, 0⟩
/-- MOT_AX_CTL.ENC, RW, reset 7 (R508). -/
def MOT_AX_CTL_ENC (i : Nat) : Fld := ⟨0x2000b00100 + 0x80 * i, 24, 3, 7, 0⟩
/-- MOT_AX_CTL.HOV, RW, reset 8 (R508). -/
def MOT_AX_CTL_HOV (i : Nat) : Fld := ⟨0x2000b00100 + 0x80 * i, 16, 4, 8, 0⟩
/-- MOT_AX_CMD.GO, W1P, reset 0 (R508). -/
def MOT_AX_CMD_GO (i : Nat) : Fld := ⟨0x2000b00104 + 0x80 * i, 31, 1, 0, 0⟩
/-- MOT_AX_CMD.STAMPED, RW, reset 0 (R508). -/
def MOT_AX_CMD_STAMPED (i : Nat) : Fld := ⟨0x2000b00104 + 0x80 * i, 30, 1, 0, 0⟩
/-- MOT_AX_CMD.OP, RW, reset 0 (R508). -/
def MOT_AX_CMD_OP (i : Nat) : Fld := ⟨0x2000b00104 + 0x80 * i, 0, 3, 0, 0⟩
/-- MOT_AX_TGT.VALUE, RW, reset 0 (R508). -/
def MOT_AX_TGT_VALUE (i : Nat) : Fld := ⟨0x2000b00108 + 0x80 * i, 0, 32, 0, 0⟩
/-- MOT_AX_STAMP_LO.STAMP, RW, reset 0 (R508). -/
def MOT_AX_STAMP_LO_STAMP (i : Nat) : Fld := ⟨0x2000b0010c + 0x80 * i, 0, 32, 0, 0⟩
/-- MOT_AX_STAMP_HI.STAMP, RW, reset 0 (R508). -/
def MOT_AX_STAMP_HI_STAMP (i : Nat) : Fld := ⟨0x2000b00110 + 0x80 * i, 0, 16, 0, 0⟩
/-- MOT_AX_VMAX.VALUE, RW, reset 0x61a80 (R508). -/
def MOT_AX_VMAX_VALUE (i : Nat) : Fld := ⟨0x2000b00114 + 0x80 * i, 0, 24, 0x61a80, 0⟩
/-- MOT_AX_AMAX.VALUE, RW, reset 0x1e8480 (R508). -/
def MOT_AX_AMAX_VALUE (i : Nat) : Fld := ⟨0x2000b00118 + 0x80 * i, 0, 32, 0x1e8480, 0⟩
/-- MOT_AX_DMAX.VALUE, RW, reset 0x1e8480 (R508). -/
def MOT_AX_DMAX_VALUE (i : Nat) : Fld := ⟨0x2000b0011c + 0x80 * i, 0, 32, 0x1e8480, 0⟩
/-- MOT_AX_JMAX.VALUE, RW, reset 0x4e20 (R508). -/
def MOT_AX_JMAX_VALUE (i : Nat) : Fld := ⟨0x2000b00120 + 0x80 * i, 0, 32, 0x4e20, 0⟩
/-- MOT_AX_SLMIN.VALUE, RW, reset 0x80000000 (R508). -/
def MOT_AX_SLMIN_VALUE (i : Nat) : Fld := ⟨0x2000b00124 + 0x80 * i, 0, 32, 0x80000000, 0⟩
/-- MOT_AX_SLMAX.VALUE, RW, reset 0x7fffffff (R508). -/
def MOT_AX_SLMAX_VALUE (i : Nat) : Fld := ⟨0x2000b00128 + 0x80 * i, 0, 32, 0x7fffffff, 0⟩
/-- MOT_AX_RES01.V2, RW, reset 0xfa0 (R508). -/
def MOT_AX_RES01_V2 (i : Nat) : Fld := ⟨0x2000b0012c + 0x80 * i, 16, 16, 0xfa0, 0⟩
/-- MOT_AX_RES01.V1, RW, reset 0x7d0 (R508). -/
def MOT_AX_RES01_V1 (i : Nat) : Fld := ⟨0x2000b0012c + 0x80 * i, 0, 16, 0x7d0, 0⟩
/-- MOT_AX_RES23.V4, RW, reset 0xffff (R508). -/
def MOT_AX_RES23_V4 (i : Nat) : Fld := ⟨0x2000b00130 + 0x80 * i, 16, 16, 0xffff, 0⟩
/-- MOT_AX_RES23.V3, RW, reset 0x3e80 (R508). -/
def MOT_AX_RES23_V3 (i : Nat) : Fld := ⟨0x2000b00130 + 0x80 * i, 0, 16, 0x3e80, 0⟩
/-- MOT_AX_CUR.IMAX, RW, reset 0xc0 (R508). -/
def MOT_AX_CUR_IMAX (i : Nat) : Fld := ⟨0x2000b00134 + 0x80 * i, 24, 8, 0xc0, 0⟩
/-- MOT_AX_CUR.IRUN, RW, reset 0x80 (R508). -/
def MOT_AX_CUR_IRUN (i : Nat) : Fld := ⟨0x2000b00134 + 0x80 * i, 16, 8, 0x80, 0⟩
/-- MOT_AX_CUR.IMIN, RW, reset 0x40 (R508). -/
def MOT_AX_CUR_IMIN (i : Nat) : Fld := ⟨0x2000b00134 + 0x80 * i, 8, 8, 0x40, 0⟩
/-- MOT_AX_CUR.IHOLD, RW, reset 0x20 (R508). -/
def MOT_AX_CUR_IHOLD (i : Nat) : Fld := ⟨0x2000b00134 + 0x80 * i, 0, 8, 0x20, 0⟩
/-- MOT_AX_LA.NSTALL, RW, reset 3 (R508). -/
def MOT_AX_LA_NSTALL (i : Nat) : Fld := ⟨0x2000b00138 + 0x80 * i, 4, 4, 3, 0⟩
/-- MOT_AX_LA.LAHI, RW, reset 0x46 (R508). -/
def MOT_AX_LA_LAHI (i : Nat) : Fld := ⟨0x2000b00138 + 0x80 * i, 24, 8, 0x46, 0⟩
/-- MOT_AX_LA.LALO, RW, reset 0x1e (R508). -/
def MOT_AX_LA_LALO (i : Nat) : Fld := ⟨0x2000b00138 + 0x80 * i, 16, 8, 0x1e, 0⟩
/-- MOT_AX_LA.LASTALL, RW, reset 0xa (R508). -/
def MOT_AX_LA_LASTALL (i : Nat) : Fld := ⟨0x2000b00138 + 0x80 * i, 8, 8, 0xa, 0⟩
/-- MOT_AX_QS.VSTRONG, RW, reset 0x1770 (R508). -/
def MOT_AX_QS_VSTRONG (i : Nat) : Fld := ⟨0x2000b0013c + 0x80 * i, 16, 16, 0x1770, 0⟩
/-- MOT_AX_QS.VBEMF, RW, reset 0x320 (R508). -/
def MOT_AX_QS_VBEMF (i : Nat) : Fld := ⟨0x2000b0013c + 0x80 * i, 0, 16, 0x320, 0⟩
/-- MOT_AX_HOME1.VSEARCH, RW, reset 0x640 (R508). -/
def MOT_AX_HOME1_VSEARCH (i : Nat) : Fld := ⟨0x2000b00140 + 0x80 * i, 16, 16, 0x640, 0⟩
/-- MOT_AX_HOME1.VBACK, RW, reset 0x190 (R508). -/
def MOT_AX_HOME1_VBACK (i : Nat) : Fld := ⟨0x2000b00140 + 0x80 * i, 0, 16, 0x190, 0⟩
/-- MOT_AX_HOME2.VLATCH, RW, reset 0xa0 (R508). -/
def MOT_AX_HOME2_VLATCH (i : Nat) : Fld := ⟨0x2000b00144 + 0x80 * i, 16, 16, 0xa0, 0⟩
/-- MOT_AX_HOME2.BOFS, RW, reset 0x1000 (R508). -/
def MOT_AX_HOME2_BOFS (i : Nat) : Fld := ⟨0x2000b00144 + 0x80 * i, 0, 16, 0x1000, 0⟩
/-- MOT_AX_HOMEPOS.VALUE, RW, reset 0 (R508). -/
def MOT_AX_HOMEPOS_VALUE (i : Nat) : Fld := ⟨0x2000b00148 + 0x80 * i, 0, 32, 0, 0⟩
/-- MOT_AX_HTO.HTO, RW, reset 0xbb8 (R508). -/
def MOT_AX_HTO_HTO (i : Nat) : Fld := ⟨0x2000b0014c + 0x80 * i, 0, 16, 0xbb8, 0⟩
/-- MOT_AX_LIMCFG.DEB, RW, reset 0x32 (R508). -/
def MOT_AX_LIMCFG_DEB (i : Nat) : Fld := ⟨0x2000b00150 + 0x80 * i, 24, 8, 0x32, 0⟩
/-- MOT_AX_LIMCFG.CHMAX, RW, reset 0x10 (R508). -/
def MOT_AX_LIMCFG_CHMAX (i : Nat) : Fld := ⟨0x2000b00150 + 0x80 * i, 16, 8, 0x10, 0⟩
/-- MOT_AX_LIMCFG.CHWIN, RW, reset 0x64 (R508). -/
def MOT_AX_LIMCFG_CHWIN (i : Nat) : Fld := ⟨0x2000b00150 + 0x80 * i, 0, 16, 0x64, 0⟩
/-- MOT_AX_STAT.LATESTART, W1C, reset 0 (R509). -/
def MOT_AX_STAT_LATESTART (i : Nat) : Fld := ⟨0x2000b00154 + 0x80 * i, 22, 1, 0, 0⟩
/-- MOT_AX_STAT.DRVFLT, W1C, reset 0 (R509). -/
def MOT_AX_STAT_DRVFLT (i : Nat) : Fld := ⟨0x2000b00154 + 0x80 * i, 21, 1, 0, 0⟩
/-- MOT_AX_STAT.HOMEFAIL, W1C, reset 0 (R509). -/
def MOT_AX_STAT_HOMEFAIL (i : Nat) : Fld := ⟨0x2000b00154 + 0x80 * i, 20, 1, 0, 0⟩
/-- MOT_AX_STAT.CHATTER, W1C, reset 0 (R509). -/
def MOT_AX_STAT_CHATTER (i : Nat) : Fld := ⟨0x2000b00154 + 0x80 * i, 19, 1, 0, 0⟩
/-- MOT_AX_STAT.LIMTRIP, W1C, reset 0 (R509). -/
def MOT_AX_STAT_LIMTRIP (i : Nat) : Fld := ⟨0x2000b00154 + 0x80 * i, 18, 1, 0, 0⟩
/-- MOT_AX_STAT.STALL, W1C, reset 0 (R509). -/
def MOT_AX_STAT_STALL (i : Nat) : Fld := ⟨0x2000b00154 + 0x80 * i, 17, 1, 0, 0⟩
/-- MOT_AX_STAT.CMDREJ, W1C, reset 0 (R509). -/
def MOT_AX_STAT_CMDREJ (i : Nat) : Fld := ⟨0x2000b00154 + 0x80 * i, 16, 1, 0, 0⟩
/-- MOT_AX_STAT.CMDERR, RO, reset 0 (R509). -/
def MOT_AX_STAT_CMDERR (i : Nat) : Fld := ⟨0x2000b00154 + 0x80 * i, 12, 4, 0, 0⟩
/-- MOT_AX_STAT.LIMP, RO, reset 0 (R509). -/
def MOT_AX_STAT_LIMP (i : Nat) : Fld := ⟨0x2000b00154 + 0x80 * i, 11, 1, 0, 0⟩
/-- MOT_AX_STAT.LIMN, RO, reset 0 (R509). -/
def MOT_AX_STAT_LIMN (i : Nat) : Fld := ⟨0x2000b00154 + 0x80 * i, 10, 1, 0, 0⟩
/-- MOT_AX_STAT.CURMODE, RO, reset 0 (R509). -/
def MOT_AX_STAT_CURMODE (i : Nat) : Fld := ⟨0x2000b00154 + 0x80 * i, 9, 1, 0, 0⟩
/-- MOT_AX_STAT.HOMED, RO, reset 0 (R509). -/
def MOT_AX_STAT_HOMED (i : Nat) : Fld := ⟨0x2000b00154 + 0x80 * i, 8, 1, 0, 0⟩
/-- MOT_AX_STAT.POSVALID, RO, reset 0 (R509). -/
def MOT_AX_STAT_POSVALID (i : Nat) : Fld := ⟨0x2000b00154 + 0x80 * i, 7, 1, 0, 0⟩
/-- MOT_AX_STAT.HPHASE, RO, reset 0 (R509). -/
def MOT_AX_STAT_HPHASE (i : Nat) : Fld := ⟨0x2000b00154 + 0x80 * i, 4, 3, 0, 0⟩
/-- MOT_AX_STAT.STATE, RO, reset 0 (R509). -/
def MOT_AX_STAT_STATE (i : Nat) : Fld := ⟨0x2000b00154 + 0x80 * i, 0, 3, 0, 0⟩
/-- MOT_AX_POS.VALUE, RO, reset 0 (R508). -/
def MOT_AX_POS_VALUE (i : Nat) : Fld := ⟨0x2000b00158 + 0x80 * i, 0, 32, 0, 0⟩
/-- MOT_AX_VEL.VALUE, RO, reset 0 (R508). -/
def MOT_AX_VEL_VALUE (i : Nat) : Fld := ⟨0x2000b0015c + 0x80 * i, 0, 32, 0, 0⟩
/-- MOT_AX_LOAD.LOAD, RO, reset 0 (R508). -/
def MOT_AX_LOAD_LOAD (i : Nat) : Fld := ⟨0x2000b00160 + 0x80 * i, 24, 8, 0, 0⟩
/-- MOT_AX_LOAD.I, RO, reset 0 (R508). -/
def MOT_AX_LOAD_I (i : Nat) : Fld := ⟨0x2000b00160 + 0x80 * i, 16, 8, 0, 0⟩
/-- MOT_AX_LOAD.RES, RO, reset 0 (R508). -/
def MOT_AX_LOAD_RES (i : Nat) : Fld := ⟨0x2000b00160 + 0x80 * i, 0, 3, 0, 0⟩
/-- MOT_AX_HLATCH.VALUE, RO, reset 0 (R508). -/
def MOT_AX_HLATCH_VALUE (i : Nat) : Fld := ⟨0x2000b00164 + 0x80 * i, 0, 32, 0, 0⟩
/-- MOT_AX_CNT.STALLCNT, RC, reset 0 (R508). -/
def MOT_AX_CNT_STALLCNT (i : Nat) : Fld := ⟨0x2000b00168 + 0x80 * i, 16, 16, 0, 0⟩
/-- MOT_AX_CNT.TRIPCNT, RC, reset 0 (R508). -/
def MOT_AX_CNT_TRIPCNT (i : Nat) : Fld := ⟨0x2000b00168 + 0x80 * i, 0, 16, 0, 0⟩

/-- Rows 0 to 11 of the encoder register table. -/
def encRows0 : List RegRow := [
  ⟨0x100, 6, 0x40, 1, 0, [⟨31, 1, .rw, 0, .k⟩, ⟨30, 1, .rw, 0, .k⟩, ⟨24, 4, .rw, 1, .k⟩, ⟨20, 2, .rw, 0, .k⟩, ⟨16, 3, .rw, 0, .k⟩, ⟨15, 1, .rw, 0, .k⟩, ⟨0, 8, .rw, 4, .k⟩]⟩,
  ⟨0x104, 6, 0x40, 1, 0, [⟨0, 32, .rw, 0, .k⟩]⟩,
  ⟨0x108, 6, 0x40, 1, 0, [⟨0, 24, .rw, 0, .k⟩]⟩,
  ⟨0x10c, 6, 0x40, 1, 0, [⟨0, 16, .rw, 4, .k⟩]⟩,
  ⟨0x110, 6, 0x40, 1, 0, [⟨0, 32, .ro, 0, .k⟩]⟩,
  ⟨0x114, 6, 0x40, 1, 0, [⟨0, 32, .ro, 0, .k⟩]⟩,
  ⟨0x118, 6, 0x40, 1, 0, [⟨0, 32, .ro, 0, .k⟩]⟩,
  ⟨0x11c, 6, 0x40, 1, 0, [⟨16, 16, .rw, 0x64, .k⟩, ⟨8, 8, .rw, 4, .k⟩]⟩,
  ⟨0x120, 6, 0x40, 1, 0, [⟨0, 32, .rw, 0x4708b800, .k⟩]⟩,
  ⟨0x124, 6, 0x40, 1, 0, [⟨0, 32, .rw, 0x471c4000, .k⟩]⟩,
  ⟨0x128, 6, 0x40, 1, 0, [⟨11, 1, .w1c, 0, .k⟩, ⟨10, 1, .w1c, 0, .k⟩, ⟨9, 1, .w1c, 0, .k⟩, ⟨8, 1, .w1c, 0, .k⟩, ⟨2, 1, .ro, 0, .k⟩, ⟨1, 1, .ro, 0, .k⟩, ⟨0, 1, .ro, 0, .k⟩]⟩,
  ⟨0x12c, 6, 0x40, 1, 0, [⟨16, 16, .rc, 0, .k⟩, ⟨8, 8, .rc, 0, .k⟩, ⟨0, 8, .rc, 0, .k⟩]⟩]

/-- The encoder block's window (R25): base, units, bytes per unit, offset of the in-force copies (0: none), rows. -/
def encMap : BlockMap := ⟨0x2000c00000, 1, 0x100000, 0, encRows0⟩

/-- ENC_CTL.EN, RW, reset 0 (R510). -/
def ENC_CTL_EN (i : Nat) : Fld := ⟨0x2000c00100 + 0x40 * i, 31, 1, 0, 0⟩
/-- ENC_CTL.DIRINV, RW, reset 0 (R510). -/
def ENC_CTL_DIRINV (i : Nat) : Fld := ⟨0x2000c00100 + 0x40 * i, 30, 1, 0, 0⟩
/-- ENC_CTL.FILT, RW, reset 1 (R510). -/
def ENC_CTL_FILT (i : Nat) : Fld := ⟨0x2000c00100 + 0x40 * i, 24, 4, 1, 0⟩
/-- ENC_CTL.IDXMODE, RW, reset 0 (R510). -/
def ENC_CTL_IDXMODE (i : Nat) : Fld := ⟨0x2000c00100 + 0x40 * i, 20, 2, 0, 0⟩
/-- ENC_CTL.DIV, RW, reset 0 (R510). -/
def ENC_CTL_DIV (i : Nat) : Fld := ⟨0x2000c00100 + 0x40 * i, 16, 3, 0, 0⟩
/-- ENC_CTL.PTEN, RW, reset 0 (R510). -/
def ENC_CTL_PTEN (i : Nat) : Fld := ⟨0x2000c00100 + 0x40 * i, 15, 1, 0, 0⟩
/-- ENC_CTL.ILLTHR, RW, reset 4 (R510). -/
def ENC_CTL_ILLTHR (i : Nat) : Fld := ⟨0x2000c00100 + 0x40 * i, 0, 8, 4, 0⟩
/-- ENC_POS.VALUE, RW, reset 0 (R510). -/
def ENC_POS_VALUE (i : Nat) : Fld := ⟨0x2000c00104 + 0x40 * i, 0, 32, 0, 0⟩
/-- ENC_CPR.VALUE, RW, reset 0 (R510). -/
def ENC_CPR_VALUE (i : Nat) : Fld := ⟨0x2000c00108 + 0x40 * i, 0, 24, 0, 0⟩
/-- ENC_ITOL.VALUE, RW, reset 4 (R510). -/
def ENC_ITOL_VALUE (i : Nat) : Fld := ⟨0x2000c0010c + 0x40 * i, 0, 16, 4, 0⟩
/-- ENC_IDXLAT.VALUE, RO, reset 0 (R510). -/
def ENC_IDXLAT_VALUE (i : Nat) : Fld := ⟨0x2000c00110 + 0x40 * i, 0, 32, 0, 0⟩
/-- ENC_IDXDELTA.D, RO, reset 0 (R510). -/
def ENC_IDXDELTA_D (i : Nat) : Fld := ⟨0x2000c00114 + 0x40 * i, 0, 32, 0, 0⟩
/-- ENC_SPEED.VALUE, RO, reset 0 (R510). -/
def ENC_SPEED_VALUE (i : Nat) : Fld := ⟨0x2000c00118 + 0x40 * i, 0, 32, 0, 0⟩
/-- ENC_SPDCFG.SPDWIN, RW, reset 0x64 (R510). -/
def ENC_SPDCFG_SPDWIN (i : Nat) : Fld := ⟨0x2000c0011c + 0x40 * i, 16, 16, 0x64, 0⟩
/-- ENC_SPDCFG.BLEND, RW, reset 4 (R510). -/
def ENC_SPDCFG_BLEND (i : Nat) : Fld := ⟨0x2000c0011c + 0x40 * i, 8, 8, 4, 0⟩
/-- ENC_VLO.VALUE, RW, reset 0x4708b800 (R510). -/
def ENC_VLO_VALUE (i : Nat) : Fld := ⟨0x2000c00120 + 0x40 * i, 0, 32, 0x4708b800, 0⟩
/-- ENC_VHI.VALUE, RW, reset 0x471c4000 (R510). -/
def ENC_VHI_VALUE (i : Nat) : Fld := ⟨0x2000c00124 + 0x40 * i, 0, 32, 0x471c4000, 0⟩
/-- ENC_STAT.SNAPPED, W1C, reset 0 (R511). -/
def ENC_STAT_SNAPPED (i : Nat) : Fld := ⟨0x2000c00128 + 0x40 * i, 11, 1, 0, 0⟩
/-- ENC_STAT.ILLEGAL, W1C, reset 0 (R511). -/
def ENC_STAT_ILLEGAL (i : Nat) : Fld := ⟨0x2000c00128 + 0x40 * i, 10, 1, 0, 0⟩
/-- ENC_STAT.IDXMISS, W1C, reset 0 (R511). -/
def ENC_STAT_IDXMISS (i : Nat) : Fld := ⟨0x2000c00128 + 0x40 * i, 9, 1, 0, 0⟩
/-- ENC_STAT.IDXERR, W1C, reset 0 (R511). -/
def ENC_STAT_IDXERR (i : Nat) : Fld := ⟨0x2000c00128 + 0x40 * i, 8, 1, 0, 0⟩
/-- ENC_STAT.IDXREFOK, RO, reset 0 (R511). -/
def ENC_STAT_IDXREFOK (i : Nat) : Fld := ⟨0x2000c00128 + 0x40 * i, 2, 1, 0, 0⟩
/-- ENC_STAT.BLENDING, RO, reset 0 (R511). -/
def ENC_STAT_BLENDING (i : Nat) : Fld := ⟨0x2000c00128 + 0x40 * i, 1, 1, 0, 0⟩
/-- ENC_STAT.METHOD, RO, reset 0 (R511). -/
def ENC_STAT_METHOD (i : Nat) : Fld := ⟨0x2000c00128 + 0x40 * i, 0, 1, 0, 0⟩
/-- ENC_CNT.ILLCNT, RC, reset 0 (R510). -/
def ENC_CNT_ILLCNT (i : Nat) : Fld := ⟨0x2000c0012c + 0x40 * i, 16, 16, 0, 0⟩
/-- ENC_CNT.IDXERRCNT, RC, reset 0 (R510). -/
def ENC_CNT_IDXERRCNT (i : Nat) : Fld := ⟨0x2000c0012c + 0x40 * i, 8, 8, 0, 0⟩
/-- ENC_CNT.IDXMISSCNT, RC, reset 0 (R510). -/
def ENC_CNT_IDXMISSCNT (i : Nat) : Fld := ⟨0x2000c0012c + 0x40 * i, 0, 8, 0, 0⟩

end Sys2Proof.Machine
end

