-- ==== Sys2Proof/Machine/MapProcess.lean ====
section
/-! DEFINITION. Register map of the bridge, dial control, balance engine, head link, Skeuz blocks, row by row from the register tables of
spec/07_dial_thermal_map.md, spec/08_bridge_seams.md, spec/09_balance_servo.md, spec/10_head_link.md, spec/11_skeuz_fabric.md.
A row gives a register's offset in its block, its repetition, and its fields: lowest bit, width, access code (R6),
reset value and reset reach (R10). Below each table, one accessor per field; the docstring of an accessor names the
rule of the table it comes from. -/

namespace Sys2Proof.Machine

/-- Rows 0 to 19 of the bridge register table. -/
def brgRows0 : List RegRow := [
  ⟨0, 1, 0, 1, 0, [⟨1, 1, .rws, 0, .k⟩, ⟨0, 1, .rws, 0, .k⟩]⟩,
  ⟨4, 1, 0, 1, 0, [⟨8, 1, .ro, 0, .k⟩, ⟨6, 1, .w1c, 0, .k⟩, ⟨5, 1, .w1c, 0, .k⟩, ⟨4, 1, .w1c, 0, .k⟩, ⟨3, 1, .w1c, 0, .k⟩, ⟨2, 1, .w1c, 0, .k⟩, ⟨1, 1, .w1c, 0, .k⟩, ⟨0, 1, .w1c, 0, .k⟩]⟩,
  ⟨8, 1, 0, 1, 0, [⟨0, 32, .rws, 0, .k⟩]⟩,
  ⟨0xc, 1, 0, 1, 0, [⟨0, 16, .rws, 0, .k⟩]⟩,
  ⟨0x10, 1, 0, 1, 0, [⟨0, 24, .rws, 0x4e20, .k⟩]⟩,
  ⟨0x14, 1, 0, 1, 0, [⟨0, 24, .rws, 0x30d40, .k⟩]⟩,
  ⟨0x18, 1, 0, 1, 0, [⟨0, 24, .rws, 0x9c40, .k⟩]⟩,
  ⟨0x1c, 1, 0, 1, 0, [⟨0, 24, .rws, 0xfa0, .k⟩]⟩,
  ⟨0x20, 1, 0, 1, 0, [⟨0, 16, .rws, 0x3e8, .k⟩]⟩,
  ⟨0x24, 1, 0, 1, 0, [⟨0, 24, .rws, 0xffffff, .k⟩]⟩,
  ⟨0x28, 1, 0, 1, 0, [⟨0, 5, .ro, 0x17, .k⟩]⟩,
  ⟨0x2c, 1, 0, 1, 0, [⟨0, 16, .rc, 0, .k⟩]⟩,
  ⟨0x100, 24, 8, 1, 0, [⟨0, 32, .rws, 0, .k⟩]⟩,
  ⟨0x104, 24, 8, 1, 0, [⟨0, 32, .rws, 0, .k⟩]⟩,
  ⟨0x200, 24, 4, 1, 0, [⟨0, 32, .rc, 0, .k⟩]⟩,
  ⟨0x300, 16, 4, 1, 0, [⟨31, 1, .rc, 0, .k⟩, ⟨22, 1, .rc, 0, .k⟩, ⟨16, 6, .rc, 0, .k⟩, ⟨0, 16, .rc, 0, .k⟩]⟩,
  ⟨0x1000, 64, 0x20, 1, 0, [⟨31, 1, .rws, 0, .k⟩, ⟨30, 1, .rws, 0, .k⟩, ⟨28, 1, .rws, 0, .k⟩, ⟨0, 16, .rws, 0, .k⟩]⟩,
  ⟨0x1004, 64, 0x20, 1, 0, [⟨5, 27, .rws, 0, .k⟩]⟩,
  ⟨0x1008, 64, 0x20, 1, 0, [⟨0, 8, .rws, 0, .k⟩]⟩,
  ⟨0x100c, 64, 0x20, 1, 0, [⟨0, 24, .rws, 0, .k⟩]⟩]

/-- Rows 20 to 29 of the bridge register table. -/
def brgRows1 : List RegRow := [
  ⟨0x1010, 64, 0x20, 1, 0, [⟨0, 24, .rws, 0, .k⟩]⟩,
  ⟨0x1014, 64, 0x20, 1, 0, [⟨16, 16, .rws, 0, .k⟩, ⟨0, 16, .rws, 0, .k⟩]⟩,
  ⟨0x1018, 64, 0x20, 1, 0, [⟨0, 32, .rws, 0, .k⟩]⟩,
  ⟨0x101c, 64, 0x20, 1, 0, [⟨16, 16, .ro, 0, .k⟩, ⟨0, 16, .ro, 0, .k⟩]⟩,
  ⟨0x3000, 64, 0x20, 1, 0, [⟨31, 1, .rws, 0, .k⟩, ⟨0, 24, .rws, 0, .k⟩]⟩,
  ⟨0x3004, 64, 0x20, 1, 0, [⟨0, 24, .rws, 0, .k⟩]⟩,
  ⟨0x3008, 64, 0x20, 1, 0, [⟨0, 24, .rws, 0, .k⟩]⟩,
  ⟨0x300c, 64, 0x20, 1, 0, [⟨0, 24, .rws, 0, .k⟩]⟩,
  ⟨0x3010, 64, 0x20, 1, 0, [⟨0, 24, .rws, 0, .k⟩]⟩,
  ⟨0x3014, 64, 0x20, 1, 0, [⟨8, 1, .ro, 0, .k⟩, ⟨0, 5, .ro, 0, .k⟩]⟩]

/-- The bridge block's window (R25): base, units, bytes per unit, offset of the in-force copies (0: none), rows. -/
def brgMap : BlockMap := ⟨0x2000300000, 1, 0x100000, 0x8000, brgRows0 ++ brgRows1⟩

/-- BRG_CTL.PLUMEEN, RWS, reset 0 (R314). -/
def BRG_CTL_PLUMEEN : Fld := ⟨0x2000300000, 1, 1, 0, 0x8000⟩
/-- BRG_CTL.OFSEN, RWS, reset 0 (R314). -/
def BRG_CTL_OFSEN : Fld := ⟨0x2000300000, 0, 1, 0, 0x8000⟩
/-- BRG_STAT.SHPEND, RO, reset 0 (R315). -/
def BRG_STAT_SHPEND : Fld := ⟨0x2000300004, 8, 1, 0, 0⟩
/-- BRG_STAT.CFGERR, W1C, reset 0 (R315). -/
def BRG_STAT_CFGERR : Fld := ⟨0x2000300004, 6, 1, 0, 0⟩
/-- BRG_STAT.UNDRAWN, W1C, reset 0 (R315). -/
def BRG_STAT_UNDRAWN : Fld := ⟨0x2000300004, 5, 1, 0, 0⟩
/-- BRG_STAT.ORPHOVF, W1C, reset 0 (R315). -/
def BRG_STAT_ORPHOVF : Fld := ⟨0x2000300004, 4, 1, 0, 0⟩
/-- BRG_STAT.ORPHAN, W1C, reset 0 (R315). -/
def BRG_STAT_ORPHAN : Fld := ⟨0x2000300004, 3, 1, 0, 0⟩
/-- BRG_STAT.RECERR, W1C, reset 0 (R315). -/
def BRG_STAT_RECERR : Fld := ⟨0x2000300004, 2, 1, 0, 0⟩
/-- BRG_STAT.PLOVR, W1C, reset 0 (R315). -/
def BRG_STAT_PLOVR : Fld := ⟨0x2000300004, 1, 1, 0, 0⟩
/-- BRG_STAT.HOLDTO, W1C, reset 0 (R315). -/
def BRG_STAT_HOLDTO : Fld := ⟨0x2000300004, 0, 1, 0, 0⟩
/-- BRG_SEED.SEED, RWS, reset 0 (R314). -/
def BRG_SEED_SEED : Fld := ⟨0x2000300008, 0, 32, 0, 0x8000⟩
/-- BRG_GAS.ANGLE, RWS, reset 0 (R314). -/
def BRG_GAS_ANGLE : Fld := ⟨0x200030000c, 0, 16, 0, 0x8000⟩
/-- BRG_DMIN.DMIN, RWS, reset 0x4e20 (R314). -/
def BRG_DMIN_DMIN : Fld := ⟨0x2000300010, 0, 24, 0x4e20, 0x8000⟩
/-- BRG_SHLEN.SHLEN, RWS, reset 0x30d40 (R314). -/
def BRG_SHLEN_SHLEN : Fld := ⟨0x2000300014, 0, 24, 0x30d40, 0x8000⟩
/-- BRG_SHWID.SHWID, RWS, reset 0x9c40 (R314). -/
def BRG_SHWID_SHWID : Fld := ⟨0x2000300018, 0, 24, 0x9c40, 0x8000⟩
/-- BRG_LINGER.LINGER, RWS, reset 0xfa0 (R314). -/
def BRG_LINGER_LINGER : Fld := ⟨0x200030001c, 0, 24, 0xfa0, 0x8000⟩
/-- BRG_HOLDTO.HOLDTO, RWS, reset 0x3e8 (R314). -/
def BRG_HOLDTO_HOLDTO : Fld := ⟨0x2000300020, 0, 16, 0x3e8, 0x8000⟩
/-- BRG_PMASK.MASK, RWS, reset 0xffffff (R314). -/
def BRG_PMASK_MASK : Fld := ⟨0x2000300024, 0, 24, 0xffffff, 0x8000⟩
/-- BRG_RRPTR.PTR, RO, reset 0x17 (R314). -/
def BRG_RRPTR_PTR : Fld := ⟨0x2000300028, 0, 5, 0x17, 0⟩
/-- BRG_LATECNT.COUNT, RC, reset 0 (R314). -/
def BRG_LATECNT_COUNT : Fld := ⟨0x200030002c, 0, 16, 0, 0⟩
/-- BRG_OFS_X.OFS, RWS, reset 0 (R316). -/
def BRG_OFS_X_OFS (i : Nat) : Fld := ⟨0x2000300100 + 8 * i, 0, 32, 0, 0x8000⟩
/-- BRG_OFS_Y.OFS, RWS, reset 0 (R316). -/
def BRG_OFS_Y_OFS (i : Nat) : Fld := ⟨0x2000300104 + 8 * i, 0, 32, 0, 0x8000⟩
/-- BRG_HOLD.VALUE, RC, reset 0 (R316). -/
def BRG_HOLD_VALUE (i : Nat) : Fld := ⟨0x2000300200 + 4 * i, 0, 32, 0, 0⟩
/-- BRG_ORPH.VALID, RC, reset 0 (R316). -/
def BRG_ORPH_VALID (i : Nat) : Fld := ⟨0x2000300300 + 4 * i, 31, 1, 0, 0⟩
/-- BRG_ORPH.SIDE, RC, reset 0 (R316). -/
def BRG_ORPH_SIDE (i : Nat) : Fld := ⟨0x2000300300 + 4 * i, 22, 1, 0, 0⟩
/-- BRG_ORPH.POOL, RC, reset 0 (R316). -/
def BRG_ORPH_POOL (i : Nat) : Fld := ⟨0x2000300300 + 4 * i, 16, 6, 0, 0⟩
/-- BRG_ORPH.INDEX, RC, reset 0 (R316). -/
def BRG_ORPH_INDEX (i : Nat) : Fld := ⟨0x2000300300 + 4 * i, 0, 16, 0, 0⟩
/-- BRG_PCFG.EN, RWS, reset 0 (R317). -/
def BRG_PCFG_EN (i : Nat) : Fld := ⟨0x2000301000 + 0x20 * i, 31, 1, 0, 0x8000⟩
/-- BRG_PCFG.S1REV, RWS, reset 0 (R317). -/
def BRG_PCFG_S1REV (i : Nat) : Fld := ⟨0x2000301000 + 0x20 * i, 30, 1, 0, 0x8000⟩
/-- BRG_PCFG.KIND, RWS, reset 0 (R317). -/
def BRG_PCFG_KIND (i : Nat) : Fld := ⟨0x2000301000 + 0x20 * i, 28, 1, 0, 0x8000⟩
/-- BRG_PCFG.COUNT, RWS, reset 0 (R317). -/
def BRG_PCFG_COUNT (i : Nat) : Fld := ⟨0x2000301000 + 0x20 * i, 0, 16, 0, 0x8000⟩
/-- BRG_PBASE_LO.ADDR, RWS, reset 0 (R317). -/
def BRG_PBASE_LO_ADDR (i : Nat) : Fld := ⟨0x2000301004 + 0x20 * i, 5, 27, 0, 0x8000⟩
/-- BRG_PBASE_HI.ADDR, RWS, reset 0 (R317). -/
def BRG_PBASE_HI_ADDR (i : Nat) : Fld := ⟨0x2000301008 + 0x20 * i, 0, 8, 0, 0x8000⟩
/-- BRG_PELIG.ELIG, RWS, reset 0 (R317). -/
def BRG_PELIG_ELIG (i : Nat) : Fld := ⟨0x200030100c + 0x20 * i, 0, 24, 0, 0x8000⟩
/-- BRG_PSIDE1.SIDE1, RWS, reset 0 (R317). -/
def BRG_PSIDE1_SIDE1 (i : Nat) : Fld := ⟨0x2000301010 + 0x20 * i, 0, 24, 0, 0x8000⟩
/-- BRG_PWEAVE.WAMP, RWS, reset 0 (R317). -/
def BRG_PWEAVE_WAMP (i : Nat) : Fld := ⟨0x2000301014 + 0x20 * i, 16, 16, 0, 0x8000⟩
/-- BRG_PWEAVE.OVL, RWS, reset 0 (R317). -/
def BRG_PWEAVE_OVL (i : Nat) : Fld := ⟨0x2000301014 + 0x20 * i, 0, 16, 0, 0x8000⟩
/-- BRG_PLINE0.LINE0, RWS, reset 0 (R317). -/
def BRG_PLINE0_LINE0 (i : Nat) : Fld := ⟨0x2000301018 + 0x20 * i, 0, 32, 0, 0x8000⟩
/-- BRG_PCUR.CUR1, RO, reset 0 (R317). -/
def BRG_PCUR_CUR1 (i : Nat) : Fld := ⟨0x200030101c + 0x20 * i, 16, 16, 0, 0⟩
/-- BRG_PCUR.CUR0, RO, reset 0 (R317). -/
def BRG_PCUR_CUR0 (i : Nat) : Fld := ⟨0x200030101c + 0x20 * i, 0, 16, 0, 0⟩
/-- BRG_ZCTL.EN, RWS, reset 0 (R318). -/
def BRG_ZCTL_EN (i : Nat) : Fld := ⟨0x2000303000 + 0x20 * i, 31, 1, 0, 0x8000⟩
/-- BRG_ZCTL.MEMBERS, RWS, reset 0 (R318). -/
def BRG_ZCTL_MEMBERS (i : Nat) : Fld := ⟨0x2000303000 + 0x20 * i, 0, 24, 0, 0x8000⟩
/-- BRG_ZXMIN.VALUE, RWS, reset 0 (R318). -/
def BRG_ZXMIN_VALUE (i : Nat) : Fld := ⟨0x2000303004 + 0x20 * i, 0, 24, 0, 0x8000⟩
/-- BRG_ZYMIN.VALUE, RWS, reset 0 (R318). -/
def BRG_ZYMIN_VALUE (i : Nat) : Fld := ⟨0x2000303008 + 0x20 * i, 0, 24, 0, 0x8000⟩
/-- BRG_ZXMAX.VALUE, RWS, reset 0 (R318). -/
def BRG_ZXMAX_VALUE (i : Nat) : Fld := ⟨0x200030300c + 0x20 * i, 0, 24, 0, 0x8000⟩
/-- BRG_ZYMAX.VALUE, RWS, reset 0 (R318). -/
def BRG_ZYMAX_VALUE (i : Nat) : Fld := ⟨0x2000303010 + 0x20 * i, 0, 24, 0, 0x8000⟩
/-- BRG_ZOWN.OWNED, RO, reset 0 (R318). -/
def BRG_ZOWN_OWNED (i : Nat) : Fld := ⟨0x2000303014 + 0x20 * i, 8, 1, 0, 0⟩
/-- BRG_ZOWN.OWNER, RO, reset 0 (R318). -/
def BRG_ZOWN_OWNER (i : Nat) : Fld := ⟨0x2000303014 + 0x20 * i, 0, 5, 0, 0⟩

/-- Rows 0 to 19 of the dial control register table. -/
def dialRows0 : List RegRow := [
  ⟨0, 1, 0, 1, 0, [⟨2, 1, .rws, 0, .k⟩, ⟨1, 1, .rws, 0, .k⟩, ⟨0, 1, .rws, 0, .k⟩]⟩,
  ⟨4, 1, 0, 1, 0, [⟨0, 24, .rws, 0xfa0, .k⟩]⟩,
  ⟨8, 1, 0, 1, 0, [⟨0, 32, .rw, 0, .k⟩]⟩,
  ⟨0xc, 1, 0, 1, 0, [⟨0, 32, .rw, 0, .k⟩]⟩,
  ⟨0x10, 1, 0, 1, 0, [⟨0, 8, .rws, 0x14, .k⟩]⟩,
  ⟨0x40, 8, 8, 1, 0, [⟨8, 1, .rws, 0, .k⟩, ⟨0, 4, .rws, 0, .k⟩]⟩,
  ⟨0x44, 8, 8, 1, 0, [⟨16, 16, .rws, 0, .k⟩, ⟨0, 16, .rws, 0, .k⟩]⟩,
  ⟨0x80, 24, 4, 1, 0, [⟨0, 32, .rws, 0, .k⟩]⟩,
  ⟨0xe0, 25, 4, 1, 0, [⟨0, 16, .rws, 0, .k⟩]⟩,
  ⟨0x200, 1, 0, 1, 0, [⟨9, 1, .ro, 0, .k⟩, ⟨8, 1, .w1c, 0, .k⟩, ⟨7, 1, .w1c, 0, .k⟩, ⟨6, 1, .w1c, 0, .k⟩, ⟨5, 1, .w1c, 0, .k⟩, ⟨4, 1, .w1c, 0, .k⟩, ⟨3, 1, .w1c, 0, .k⟩, ⟨2, 1, .ro, 0, .k⟩, ⟨1, 1, .ro, 0, .k⟩, ⟨0, 1, .ro, 0, .k⟩]⟩,
  ⟨0x204, 1, 0, 1, 0, [⟨1, 1, .w1p, 0, .k⟩, ⟨0, 1, .w1p, 0, .k⟩]⟩,
  ⟨0x208, 1, 0, 1, 0, [⟨16, 12, .rw, 0, .k⟩, ⟨0, 12, .rw, 0, .k⟩]⟩,
  ⟨0x20c, 1, 0, 1, 0, [⟨0, 16, .ro, 0, .k⟩]⟩,
  ⟨0x210, 1, 0, 1, 0, [⟨0, 16, .rc, 0, .k⟩]⟩,
  ⟨0x214, 1, 0, 1, 0, [⟨0, 32, .ro, 0, .k⟩]⟩,
  ⟨0x218, 1, 0, 1, 0, [⟨0, 32, .ro, 0, .k⟩]⟩,
  ⟨0x21c, 1, 0, 1, 0, [⟨0, 16, .rc, 0, .k⟩]⟩,
  ⟨0x220, 1, 0, 1, 0, [⟨0, 32, .rc, 0, .k⟩]⟩,
  ⟨0x10000, 4096, 8, 1, 0, [⟨0, 32, .rw, 0, .c⟩]⟩,
  ⟨0x10004, 4096, 8, 1, 0, [⟨0, 16, .rw, 0, .c⟩]⟩]

/-- The dial control block's window (R25): base, units, bytes per unit, offset of the in-force copies (0: none), rows. -/
def dialMap : BlockMap := ⟨0x2000400000, 1, 0x100000, 0x400, dialRows0⟩

/-- DIAL_CTL.FWDEN, RWS, reset 0 (R274). -/
def DIAL_CTL_FWDEN : Fld := ⟨0x2000400000, 2, 1, 0, 0x400⟩
/-- DIAL_CTL.PSRC, RWS, reset 0 (R274). -/
def DIAL_CTL_PSRC : Fld := ⟨0x2000400000, 1, 1, 0, 0x400⟩
/-- DIAL_CTL.DEPEN, RWS, reset 0 (R274). -/
def DIAL_CTL_DEPEN : Fld := ⟨0x2000400000, 0, 1, 0, 0x400⟩
/-- DIAL_TAU.TAU, RWS, reset 0xfa0 (R274). -/
def DIAL_TAU_TAU : Fld := ⟨0x2000400004, 0, 24, 0xfa0, 0x400⟩
/-- DIAL_ORG_X.ORG, RW, reset 0 (R274). -/
def DIAL_ORG_X_ORG : Fld := ⟨0x2000400008, 0, 32, 0, 0⟩
/-- DIAL_ORG_Y.ORG, RW, reset 0 (R274). -/
def DIAL_ORG_Y_ORG : Fld := ⟨0x200040000c, 0, 32, 0, 0⟩
/-- DIAL_FWDMAX.MAX, RWS, reset 0x14 (R274). -/
def DIAL_FWDMAX_MAX : Fld := ⟨0x2000400010, 0, 8, 0x14, 0x400⟩
/-- DIAL_PEER.EN, RWS, reset 0 (R274). -/
def DIAL_PEER_EN (i : Nat) : Fld := ⟨0x2000400040 + 8 * i, 8, 1, 0, 0x400⟩
/-- DIAL_PEER.DEV, RWS, reset 0 (R274). -/
def DIAL_PEER_DEV (i : Nat) : Fld := ⟨0x2000400040 + 8 * i, 0, 4, 0, 0x400⟩
/-- DIAL_POFS.DY, RWS, reset 0 (R274). -/
def DIAL_POFS_DY (i : Nat) : Fld := ⟨0x2000400044 + 8 * i, 16, 16, 0, 0x400⟩
/-- DIAL_POFS.DX, RWS, reset 0 (R274). -/
def DIAL_POFS_DX (i : Nat) : Fld := ⟨0x2000400044 + 8 * i, 0, 16, 0, 0x400⟩
/-- DIAL_LGAIN.G, RWS, reset 0 (R274). -/
def DIAL_LGAIN_G (i : Nat) : Fld := ⟨0x2000400080 + 4 * i, 0, 32, 0, 0x400⟩
/-- DIAL_KERN.W, RWS, reset 0 (R274). -/
def DIAL_KERN_W (i : Nat) : Fld := ⟨0x20004000e0 + 4 * i, 0, 16, 0, 0x400⟩
/-- DIAL_STAT.MEMERR, RO, reset 0 (R275). -/
def DIAL_STAT_MEMERR : Fld := ⟨0x2000400200, 9, 1, 0, 0⟩
/-- DIAL_STAT.PEERERR, W1C, reset 0 (R275). -/
def DIAL_STAT_PEERERR : Fld := ⟨0x2000400200, 8, 1, 0, 0⟩
/-- DIAL_STAT.FWDLATE, W1C, reset 0 (R275). -/
def DIAL_STAT_FWDLATE : Fld := ⟨0x2000400200, 7, 1, 0, 0⟩
/-- DIAL_STAT.FWDOVF, W1C, reset 0 (R275). -/
def DIAL_STAT_FWDOVF : Fld := ⟨0x2000400200, 6, 1, 0, 0⟩
/-- DIAL_STAT.DEPOUT, W1C, reset 0 (R275). -/
def DIAL_STAT_DEPOUT : Fld := ⟨0x2000400200, 5, 1, 0, 0⟩
/-- DIAL_STAT.SAT, W1C, reset 0 (R275). -/
def DIAL_STAT_SAT : Fld := ⟨0x2000400200, 4, 1, 0, 0⟩
/-- DIAL_STAT.CMDERR, W1C, reset 0 (R275). -/
def DIAL_STAT_CMDERR : Fld := ⟨0x2000400200, 3, 1, 0, 0⟩
/-- DIAL_STAT.REBASING, RO, reset 0 (R275). -/
def DIAL_STAT_REBASING : Fld := ⟨0x2000400200, 2, 1, 0, 0⟩
/-- DIAL_STAT.SHPEND, RO, reset 0 (R275). -/
def DIAL_STAT_SHPEND : Fld := ⟨0x2000400200, 1, 1, 0, 0⟩
/-- DIAL_STAT.BUSY, RO, reset 0 (R275). -/
def DIAL_STAT_BUSY : Fld := ⟨0x2000400200, 0, 1, 0, 0⟩
/-- DIAL_CMD.REBASE, W1P, reset 0 (R276). -/
def DIAL_CMD_REBASE : Fld := ⟨0x2000400204, 1, 1, 0, 0⟩
/-- DIAL_CMD.CLEAR, W1P, reset 0 (R276). -/
def DIAL_CMD_CLEAR : Fld := ⟨0x2000400204, 0, 1, 0, 0⟩
/-- DIAL_PEEK_CELL.IY, RW, reset 0 (R277). -/
def DIAL_PEEK_CELL_IY : Fld := ⟨0x2000400208, 16, 12, 0, 0⟩
/-- DIAL_PEEK_CELL.IX, RW, reset 0 (R277). -/
def DIAL_PEEK_CELL_IX : Fld := ⟨0x2000400208, 0, 12, 0, 0⟩
/-- DIAL_PEEK_VAL.THETA, RO, reset 0 (R277). -/
def DIAL_PEEK_VAL_THETA : Fld := ⟨0x200040020c, 0, 16, 0, 0⟩
/-- DIAL_SATCNT.COUNT, RC, reset 0 (R277). -/
def DIAL_SATCNT_COUNT : Fld := ⟨0x2000400210, 0, 16, 0, 0⟩
/-- DIAL_FWDTX.COUNT, RO, reset 0 (R277). -/
def DIAL_FWDTX_COUNT : Fld := ⟨0x2000400214, 0, 32, 0, 0⟩
/-- DIAL_FWDRX.COUNT, RO, reset 0 (R277). -/
def DIAL_FWDRX_COUNT : Fld := ⟨0x2000400218, 0, 32, 0, 0⟩
/-- DIAL_FWDDROP.COUNT, RC, reset 0 (R277). -/
def DIAL_FWDDROP_COUNT : Fld := ⟨0x200040021c, 0, 16, 0, 0⟩
/-- DIAL_LOSTCNT.COUNT, RC, reset 0 (R277). -/
def DIAL_LOSTCNT_COUNT : Fld := ⟨0x2000400220, 0, 32, 0, 0⟩
/-- DIAL_STAMP_LO.STAMP, RW, reset 0 (R278). -/
def DIAL_STAMP_LO_STAMP (i : Nat) : Fld := ⟨0x2000410000 + 8 * i, 0, 32, 0, 0⟩
/-- DIAL_STAMP_HI.STAMP, RW, reset 0 (R278). -/
def DIAL_STAMP_HI_STAMP (i : Nat) : Fld := ⟨0x2000410004 + 8 * i, 0, 16, 0, 0⟩

/-- Rows 0 to 19 of the balance engine register table. -/
def balRows0 : List RegRow := [
  ⟨0, 1, 0, 1, 0, [⟨0, 2, .rw, 0, .k⟩]⟩,
  ⟨4, 1, 0, 1, 0, [⟨2, 1, .w1c, 0, .k⟩, ⟨1, 1, .w1c, 0, .k⟩, ⟨0, 1, .ro, 0, .k⟩]⟩,
  ⟨0x10, 2, 4, 1, 0, [⟨0, 32, .w1p, 0, .k⟩]⟩,
  ⟨0x18, 1, 0, 1, 0, [⟨0, 8, .w1p, 0, .k⟩]⟩,
  ⟨0x800, 4, 0x40, 1, 0, [⟨31, 1, .w1p, 0, .k⟩, ⟨30, 1, .w1p, 0, .k⟩, ⟨12, 2, .rw, 0, .k⟩, ⟨8, 2, .rw, 0, .k⟩, ⟨0, 7, .rw, 0, .k⟩]⟩,
  ⟨0x804, 4, 0x40, 1, 0, [⟨16, 16, .ro, 0, .k⟩, ⟨1, 1, .w1c, 0, .k⟩, ⟨0, 1, .ro, 0, .k⟩]⟩,
  ⟨0x808, 4, 0x40, 1, 0, [⟨0, 32, .rw, 0, .k⟩]⟩,
  ⟨0x80c, 4, 0x40, 1, 0, [⟨0, 32, .rw, 0, .k⟩]⟩,
  ⟨0x810, 4, 0x40, 1, 0, [⟨0, 32, .rw, 0, .k⟩]⟩,
  ⟨0x814, 4, 0x40, 1, 0, [⟨0, 32, .rw, 0, .k⟩]⟩,
  ⟨0x818, 4, 0x40, 1, 0, [⟨16, 16, .rw, 0, .k⟩, ⟨0, 16, .rw, 0, .k⟩]⟩,
  ⟨0x81c, 4, 0x40, 1, 0, [⟨16, 8, .rw, 1, .k⟩, ⟨0, 15, .rw, 1, .k⟩]⟩,
  ⟨0xa00, 4, 0x40, 1, 0, [⟨31, 1, .w1p, 0, .k⟩, ⟨30, 1, .w1p, 0, .k⟩, ⟨16, 8, .rw, 1, .k⟩, ⟨12, 2, .rw, 0, .k⟩, ⟨8, 1, .rw, 0, .k⟩, ⟨0, 7, .rw, 0, .k⟩]⟩,
  ⟨0xa04, 4, 0x40, 1, 0, [⟨5, 27, .rw, 0, .k⟩]⟩,
  ⟨0xa08, 4, 0x40, 1, 0, [⟨0, 8, .rw, 0, .k⟩]⟩,
  ⟨0xa0c, 4, 0x40, 1, 0, [⟨0, 24, .rw, 0, .k⟩]⟩,
  ⟨0xa10, 4, 0x40, 1, 0, [⟨0, 24, .rw, 0, .k⟩]⟩,
  ⟨0xa14, 4, 0x40, 1, 0, [⟨8, 24, .ro, 0, .k⟩, ⟨4, 1, .w1c, 0, .k⟩, ⟨3, 1, .w1c, 0, .k⟩, ⟨2, 1, .ro, 0, .k⟩, ⟨1, 1, .ro, 0, .k⟩, ⟨0, 1, .ro, 0, .k⟩]⟩,
  ⟨0xa18, 4, 0x40, 1, 0, [⟨0, 16, .rc, 0, .k⟩]⟩,
  ⟨0x1000, 72, 0x40, 1, 0, [⟨24, 8, .rw, 0x10, .k⟩, ⟨20, 4, .rw, 4, .k⟩, ⟨16, 1, .rw, 0, .k⟩, ⟨0, 16, .rw, 0, .k⟩]⟩]

/-- Rows 20 to 38 of the balance engine register table. -/
def balRows1 : List RegRow := [
  ⟨0x1004, 72, 0x40, 1, 0, [⟨1, 1, .w1p, 0, .k⟩, ⟨0, 1, .w1p, 0, .k⟩]⟩,
  ⟨0x1008, 72, 0x40, 1, 0, [⟨14, 1, .w1c, 0, .k⟩, ⟨13, 1, .w1c, 0, .k⟩, ⟨12, 1, .w1c, 0, .k⟩, ⟨11, 1, .w1c, 0, .k⟩, ⟨10, 1, .w1c, 0, .k⟩, ⟨9, 1, .w1c, 0, .k⟩, ⟨8, 1, .w1c, 0, .k⟩, ⟨7, 1, .ro, 0, .k⟩, ⟨6, 1, .ro, 0, .k⟩, ⟨5, 1, .ro, 0, .k⟩, ⟨4, 1, .ro, 0, .k⟩, ⟨0, 3, .ro, 0, .k⟩]⟩,
  ⟨0x100c, 72, 0x40, 1, 0, [⟨0, 32, .rw, 0x3f000000, .k⟩]⟩,
  ⟨0x1010, 72, 0x40, 1, 0, [⟨0, 24, .rw, 0x8000, .k⟩]⟩,
  ⟨0x1014, 72, 0x40, 1, 0, [⟨0, 24, .rw, 0, .k⟩]⟩,
  ⟨0x1018, 72, 0x40, 1, 0, [⟨0, 32, .ro, 0, .k⟩]⟩,
  ⟨0x101c, 72, 0x40, 1, 0, [⟨0, 16, .ro, 0, .k⟩]⟩,
  ⟨0x1020, 72, 0x40, 1, 0, [⟨16, 16, .rc, 0, .k⟩, ⟨0, 16, .rc, 0, .k⟩]⟩,
  ⟨0x1024, 72, 0x40, 1, 0, [⟨0, 32, .ro, 0, .k⟩]⟩,
  ⟨0x10000, 4096, 4, 1, 0, [⟨0, 32, .rw, 0, .c⟩]⟩,
  ⟨0x20000, 144, 0x1800, 512, 4, [⟨0, 16, .rw, 0, .c⟩, ⟨16, 16, .rw, 0, .c⟩]⟩,
  ⟨0x20800, 144, 0x1800, 512, 4, [⟨0, 16, .rw, 0, .c⟩, ⟨16, 16, .rw, 0, .c⟩]⟩,
  ⟨0x21000, 144, 0x1800, 256, 4, [⟨0, 32, .rw, 0, .c⟩]⟩,
  ⟨0x21400, 144, 0x1800, 1, 0, [⟨16, 12, .rw, 0, .c⟩, ⟨0, 12, .rw, 0, .c⟩]⟩,
  ⟨0x21404, 144, 0x1800, 1, 0, [⟨0, 32, .rw, 0, .c⟩]⟩,
  ⟨0x21408, 144, 0x1800, 1, 0, [⟨0, 32, .rw, 0, .c⟩]⟩,
  ⟨0x2140c, 144, 0x1800, 1, 0, [⟨0, 32, .rw, 0, .c⟩]⟩,
  ⟨0x21410, 144, 0x1800, 1, 0, [⟨0, 32, .rw, 0, .c⟩]⟩,
  ⟨0x21414, 144, 0x1800, 1, 0, [⟨1, 1, .rw, 0, .c⟩, ⟨0, 1, .rw, 0, .c⟩]⟩]

/-- The balance engine block's window (R25): base, units, bytes per unit, offset of the in-force copies (0: none), rows. -/
def balMap : BlockMap := ⟨0x2000600000, 1, 0x100000, 0, balRows0 ++ balRows1⟩

/-- BAL_CTL.RATE, RW, reset 0 (R347). -/
def BAL_CTL_RATE : Fld := ⟨0x2000600000, 0, 2, 0, 0⟩
/-- BAL_STAT.PWERR, W1C, reset 0 (R347). -/
def BAL_STAT_PWERR : Fld := ⟨0x2000600004, 2, 1, 0, 0⟩
/-- BAL_STAT.RATEERR, W1C, reset 0 (R347). -/
def BAL_STAT_RATEERR : Fld := ⟨0x2000600004, 1, 1, 0, 0⟩
/-- BAL_STAT.CLOSED, RO, reset 0 (R347). -/
def BAL_STAT_CLOSED : Fld := ⟨0x2000600004, 0, 1, 0, 0⟩
/-- BAL_SWAP.AXES, W1P, reset 0 (R347). -/
def BAL_SWAP_AXES (i : Nat) : Fld := ⟨0x2000600010 + 4 * i, 0, 32, 0, 0⟩
/-- BAL_SWAP_02.AXES, W1P, reset 0 (R347). -/
def BAL_SWAP_02_AXES : Fld := ⟨0x2000600018, 0, 8, 0, 0⟩
/-- BAL_INJCTL.RUN, W1P, reset 0 (R350). -/
def BAL_INJCTL_RUN (i : Nat) : Fld := ⟨0x2000600800 + 0x40 * i, 31, 1, 0, 0⟩
/-- BAL_INJCTL.STOP, W1P, reset 0 (R350). -/
def BAL_INJCTL_STOP (i : Nat) : Fld := ⟨0x2000600800 + 0x40 * i, 30, 1, 0, 0⟩
/-- BAL_INJCTL.TYPE, RW, reset 0 (R350). -/
def BAL_INJCTL_TYPE (i : Nat) : Fld := ⟨0x2000600800 + 0x40 * i, 12, 2, 0, 0⟩
/-- BAL_INJCTL.POINT, RW, reset 0 (R350). -/
def BAL_INJCTL_POINT (i : Nat) : Fld := ⟨0x2000600800 + 0x40 * i, 8, 2, 0, 0⟩
/-- BAL_INJCTL.AXIS, RW, reset 0 (R350). -/
def BAL_INJCTL_AXIS (i : Nat) : Fld := ⟨0x2000600800 + 0x40 * i, 0, 7, 0, 0⟩
/-- BAL_INJSTAT.STEP, RO, reset 0 (R350). -/
def BAL_INJSTAT_STEP (i : Nat) : Fld := ⟨0x2000600804 + 0x40 * i, 16, 16, 0, 0⟩
/-- BAL_INJSTAT.ERR, W1C, reset 0 (R350). -/
def BAL_INJSTAT_ERR (i : Nat) : Fld := ⟨0x2000600804 + 0x40 * i, 1, 1, 0, 0⟩
/-- BAL_INJSTAT.ACTIVE, RO, reset 0 (R350). -/
def BAL_INJSTAT_ACTIVE (i : Nat) : Fld := ⟨0x2000600804 + 0x40 * i, 0, 1, 0, 0⟩
/-- BAL_INJAMP.AMP, RW, reset 0 (R350). -/
def BAL_INJAMP_AMP (i : Nat) : Fld := ⟨0x2000600808 + 0x40 * i, 0, 32, 0, 0⟩
/-- BAL_INJF0.F0, RW, reset 0 (R350). -/
def BAL_INJF0_F0 (i : Nat) : Fld := ⟨0x200060080c + 0x40 * i, 0, 32, 0, 0⟩
/-- BAL_INJF1.F1, RW, reset 0 (R350). -/
def BAL_INJF1_F1 (i : Nat) : Fld := ⟨0x2000600810 + 0x40 * i, 0, 32, 0, 0⟩
/-- BAL_INJLEN.N, RW, reset 0 (R350). -/
def BAL_INJLEN_N (i : Nat) : Fld := ⟨0x2000600814 + 0x40 * i, 0, 32, 0, 0⟩
/-- BAL_INJSTEP.NSTEP, RW, reset 0 (R350). -/
def BAL_INJSTEP_NSTEP (i : Nat) : Fld := ⟨0x2000600818 + 0x40 * i, 16, 16, 0, 0⟩
/-- BAL_INJSTEP.STEPLEN, RW, reset 0 (R350). -/
def BAL_INJSTEP_STEPLEN (i : Nat) : Fld := ⟨0x2000600818 + 0x40 * i, 0, 16, 0, 0⟩
/-- BAL_INJPRBS.HOLD, RW, reset 1 (R350). -/
def BAL_INJPRBS_HOLD (i : Nat) : Fld := ⟨0x200060081c + 0x40 * i, 16, 8, 1, 0⟩
/-- BAL_INJPRBS.SEED, RW, reset 1 (R350). -/
def BAL_INJPRBS_SEED (i : Nat) : Fld := ⟨0x200060081c + 0x40 * i, 0, 15, 1, 0⟩
/-- BAL_CAPCTL.START, W1P, reset 0 (R351). -/
def BAL_CAPCTL_START (i : Nat) : Fld := ⟨0x2000600a00 + 0x40 * i, 31, 1, 0, 0⟩
/-- BAL_CAPCTL.STOP, W1P, reset 0 (R351). -/
def BAL_CAPCTL_STOP (i : Nat) : Fld := ⟨0x2000600a00 + 0x40 * i, 30, 1, 0, 0⟩
/-- BAL_CAPCTL.DECIM, RW, reset 1 (R351). -/
def BAL_CAPCTL_DECIM (i : Nat) : Fld := ⟨0x2000600a00 + 0x40 * i, 16, 8, 1, 0⟩
/-- BAL_CAPCTL.TRIG, RW, reset 0 (R351). -/
def BAL_CAPCTL_TRIG (i : Nat) : Fld := ⟨0x2000600a00 + 0x40 * i, 12, 2, 0, 0⟩
/-- BAL_CAPCTL.MODE, RW, reset 0 (R351). -/
def BAL_CAPCTL_MODE (i : Nat) : Fld := ⟨0x2000600a00 + 0x40 * i, 8, 1, 0, 0⟩
/-- BAL_CAPCTL.AXIS, RW, reset 0 (R351). -/
def BAL_CAPCTL_AXIS (i : Nat) : Fld := ⟨0x2000600a00 + 0x40 * i, 0, 7, 0, 0⟩
/-- BAL_CAPBASE_LO.ADDR, RW, reset 0 (R351). -/
def BAL_CAPBASE_LO_ADDR (i : Nat) : Fld := ⟨0x2000600a04 + 0x40 * i, 5, 27, 0, 0⟩
/-- BAL_CAPBASE_HI.ADDR, RW, reset 0 (R351). -/
def BAL_CAPBASE_HI_ADDR (i : Nat) : Fld := ⟨0x2000600a08 + 0x40 * i, 0, 8, 0, 0⟩
/-- BAL_CAPLEN.LEN, RW, reset 0 (R351). -/
def BAL_CAPLEN_LEN (i : Nat) : Fld := ⟨0x2000600a0c + 0x40 * i, 0, 24, 0, 0⟩
/-- BAL_CAPPOST.POST, RW, reset 0 (R351). -/
def BAL_CAPPOST_POST (i : Nat) : Fld := ⟨0x2000600a10 + 0x40 * i, 0, 24, 0, 0⟩
/-- BAL_CAPSTAT.WPTR, RO, reset 0 (R351). -/
def BAL_CAPSTAT_WPTR (i : Nat) : Fld := ⟨0x2000600a14 + 0x40 * i, 8, 24, 0, 0⟩
/-- BAL_CAPSTAT.WERR, W1C, reset 0 (R351). -/
def BAL_CAPSTAT_WERR (i : Nat) : Fld := ⟨0x2000600a14 + 0x40 * i, 4, 1, 0, 0⟩
/-- BAL_CAPSTAT.OVF, W1C, reset 0 (R351). -/
def BAL_CAPSTAT_OVF (i : Nat) : Fld := ⟨0x2000600a14 + 0x40 * i, 3, 1, 0, 0⟩
/-- BAL_CAPSTAT.TRIGD, RO, reset 0 (R351). -/
def BAL_CAPSTAT_TRIGD (i : Nat) : Fld := ⟨0x2000600a14 + 0x40 * i, 2, 1, 0, 0⟩
/-- BAL_CAPSTAT.DONE, RO, reset 0 (R351). -/
def BAL_CAPSTAT_DONE (i : Nat) : Fld := ⟨0x2000600a14 + 0x40 * i, 1, 1, 0, 0⟩
/-- BAL_CAPSTAT.ARMED, RO, reset 0 (R351). -/
def BAL_CAPSTAT_ARMED (i : Nat) : Fld := ⟨0x2000600a14 + 0x40 * i, 0, 1, 0, 0⟩
/-- BAL_CAPDROP.COUNT, RC, reset 0 (R351). -/
def BAL_CAPDROP_COUNT (i : Nat) : Fld := ⟨0x2000600a18 + 0x40 * i, 0, 16, 0, 0⟩
/-- BAL_AXCTL.SWBLEND, RW, reset 0x10 (R348). -/
def BAL_AXCTL_SWBLEND (i : Nat) : Fld := ⟨0x2000601000 + 0x40 * i, 24, 8, 0x10, 0⟩
/-- BAL_AXCTL.TRKN, RW, reset 4 (R348). -/
def BAL_AXCTL_TRKN (i : Nat) : Fld := ⟨0x2000601000 + 0x40 * i, 20, 4, 4, 0⟩
/-- BAL_AXCTL.EN, RW, reset 0 (R348). -/
def BAL_AXCTL_EN (i : Nat) : Fld := ⟨0x2000601000 + 0x40 * i, 16, 1, 0, 0⟩
/-- BAL_AXCTL.LEAD, RW, reset 0 (R348). -/
def BAL_AXCTL_LEAD (i : Nat) : Fld := ⟨0x2000601000 + 0x40 * i, 0, 16, 0, 0⟩
/-- BAL_AXCMD.OPEN, W1P, reset 0 (R348). -/
def BAL_AXCMD_OPEN (i : Nat) : Fld := ⟨0x2000601004 + 0x40 * i, 1, 1, 0, 0⟩
/-- BAL_AXCMD.CLOSE, W1P, reset 0 (R348). -/
def BAL_AXCMD_CLOSE (i : Nat) : Fld := ⟨0x2000601004 + 0x40 * i, 0, 1, 0, 0⟩
/-- BAL_AXSTAT.BWERR, W1C, reset 0 (R349). -/
def BAL_AXSTAT_BWERR (i : Nat) : Fld := ⟨0x2000601008 + 0x40 * i, 14, 1, 0, 0⟩
/-- BAL_AXSTAT.CMDERR, W1C, reset 0 (R349). -/
def BAL_AXSTAT_CMDERR (i : Nat) : Fld := ⟨0x2000601008 + 0x40 * i, 13, 1, 0, 0⟩
/-- BAL_AXSTAT.SWERR, W1C, reset 0 (R349). -/
def BAL_AXSTAT_SWERR (i : Nat) : Fld := ⟨0x2000601008 + 0x40 * i, 12, 1, 0, 0⟩
/-- BAL_AXSTAT.NUMERR, W1C, reset 0 (R349). -/
def BAL_AXSTAT_NUMERR (i : Nat) : Fld := ⟨0x2000601008 + 0x40 * i, 11, 1, 0, 0⟩
/-- BAL_AXSTAT.TRK, W1C, reset 0 (R349). -/
def BAL_AXSTAT_TRK (i : Nat) : Fld := ⟨0x2000601008 + 0x40 * i, 10, 1, 0, 0⟩
/-- BAL_AXSTAT.MISS, W1C, reset 0 (R349). -/
def BAL_AXSTAT_MISS (i : Nat) : Fld := ⟨0x2000601008 + 0x40 * i, 9, 1, 0, 0⟩
/-- BAL_AXSTAT.SAT, W1C, reset 0 (R349). -/
def BAL_AXSTAT_SAT (i : Nat) : Fld := ⟨0x2000601008 + 0x40 * i, 8, 1, 0, 0⟩
/-- BAL_AXSTAT.APPROACH, RO, reset 0 (R349). -/
def BAL_AXSTAT_APPROACH (i : Nat) : Fld := ⟨0x2000601008 + 0x40 * i, 7, 1, 0, 0⟩
/-- BAL_AXSTAT.BLEND, RO, reset 0 (R349). -/
def BAL_AXSTAT_BLEND (i : Nat) : Fld := ⟨0x2000601008 + 0x40 * i, 6, 1, 0, 0⟩
/-- BAL_AXSTAT.SWPEND, RO, reset 0 (R349). -/
def BAL_AXSTAT_SWPEND (i : Nat) : Fld := ⟨0x2000601008 + 0x40 * i, 5, 1, 0, 0⟩
/-- BAL_AXSTAT.ACTBANK, RO, reset 0 (R349). -/
def BAL_AXSTAT_ACTBANK (i : Nat) : Fld := ⟨0x2000601008 + 0x40 * i, 4, 1, 0, 0⟩
/-- BAL_AXSTAT.STATE, RO, reset 0 (R349). -/
def BAL_AXSTAT_STATE (i : Nat) : Fld := ⟨0x2000601008 + 0x40 * i, 0, 3, 0, 0⟩
/-- BAL_ILIM.ILIM, RW, reset 0x3f000000 (R348). -/
def BAL_ILIM_ILIM (i : Nat) : Fld := ⟨0x200060100c + 0x40 * i, 0, 32, 0x3f000000, 0⟩
/-- BAL_TRKLIM.LIMIT, RW, reset 0x8000 (R348). -/
def BAL_TRKLIM_LIMIT (i : Nat) : Fld := ⟨0x2000601010 + 0x40 * i, 0, 24, 0x8000, 0⟩
/-- BAL_PARK.PARK, RW, reset 0 (R348). -/
def BAL_PARK_PARK (i : Nat) : Fld := ⟨0x2000601014 + 0x40 * i, 0, 24, 0, 0⟩
/-- BAL_ERR.REF, RO, reset 0 (R348). -/
def BAL_ERR_REF (i : Nat) : Fld := ⟨0x2000601018 + 0x40 * i, 0, 32, 0, 0⟩
/-- BAL_OUT.CODE, RO, reset 0 (R348). -/
def BAL_OUT_CODE (i : Nat) : Fld := ⟨0x200060101c + 0x40 * i, 0, 16, 0, 0⟩
/-- BAL_CNT.SATCNT, RC, reset 0 (R348). -/
def BAL_CNT_SATCNT (i : Nat) : Fld := ⟨0x2000601020 + 0x40 * i, 16, 16, 0, 0⟩
/-- BAL_CNT.MISSCNT, RC, reset 0 (R348). -/
def BAL_CNT_MISSCNT (i : Nat) : Fld := ⟨0x2000601020 + 0x40 * i, 0, 16, 0, 0⟩
/-- BAL_POS.POS, RO, reset 0 (R348). -/
def BAL_POS_POS (i : Nat) : Fld := ⟨0x2000601024 + 0x40 * i, 0, 32, 0, 0⟩
/-- BAL_PSTORE.WORD, RW, reset 0 (R352). -/
def BAL_PSTORE_WORD (i : Nat) : Fld := ⟨0x2000610000 + 4 * i, 0, 32, 0, 0⟩
/-- BAL_FRIC.E0, RW, reset 0 (R352). -/
def BAL_FRIC_E0 (i j : Nat) : Fld := ⟨0x2000620000 + 0x1800 * i + 4 * j, 0, 16, 0, 0⟩
/-- BAL_FRIC.E1, RW, reset 0 (R352). -/
def BAL_FRIC_E1 (i j : Nat) : Fld := ⟨0x2000620000 + 0x1800 * i + 4 * j, 16, 16, 0, 0⟩
/-- BAL_COG.E0, RW, reset 0 (R352). -/
def BAL_COG_E0 (i j : Nat) : Fld := ⟨0x2000620800 + 0x1800 * i + 4 * j, 0, 16, 0, 0⟩
/-- BAL_COG.E1, RW, reset 0 (R352). -/
def BAL_COG_E1 (i j : Nat) : Fld := ⟨0x2000620800 + 0x1800 * i + 4 * j, 16, 16, 0, 0⟩
/-- BAL_K.K, RW, reset 0 (R352). -/
def BAL_K_K (i j : Nat) : Fld := ⟨0x2000621000 + 0x1800 * i + 4 * j, 0, 32, 0, 0⟩
/-- BAL_BKPROG.LEN, RW, reset 0 (R352). -/
def BAL_BKPROG_LEN (i : Nat) : Fld := ⟨0x2000621400 + 0x1800 * i, 16, 12, 0, 0⟩
/-- BAL_BKPROG.START, RW, reset 0 (R352). -/
def BAL_BKPROG_START (i : Nat) : Fld := ⟨0x2000621400 + 0x1800 * i, 0, 12, 0, 0⟩
/-- BAL_TBASE_F.VALUE, RW, reset 0 (R352). -/
def BAL_TBASE_F_VALUE (i : Nat) : Fld := ⟨0x2000621404 + 0x1800 * i, 0, 32, 0, 0⟩
/-- BAL_TSCALE_F.VALUE, RW, reset 0 (R352). -/
def BAL_TSCALE_F_VALUE (i : Nat) : Fld := ⟨0x2000621408 + 0x1800 * i, 0, 32, 0, 0⟩
/-- BAL_TBASE_C.VALUE, RW, reset 0 (R352). -/
def BAL_TBASE_C_VALUE (i : Nat) : Fld := ⟨0x200062140c + 0x1800 * i, 0, 32, 0, 0⟩
/-- BAL_TSCALE_C.VALUE, RW, reset 0 (R352). -/
def BAL_TSCALE_C_VALUE (i : Nat) : Fld := ⟨0x2000621410 + 0x1800 * i, 0, 32, 0, 0⟩
/-- BAL_TCFG.WRAPC, RW, reset 0 (R352). -/
def BAL_TCFG_WRAPC (i : Nat) : Fld := ⟨0x2000621414 + 0x1800 * i, 1, 1, 0, 0⟩
/-- BAL_TCFG.WRAPF, RW, reset 0 (R352). -/
def BAL_TCFG_WRAPF (i : Nat) : Fld := ⟨0x2000621414 + 0x1800 * i, 0, 1, 0, 0⟩

/-- Rows 0 to 12 of the head link register table. -/
def hlRows0 : List RegRow := [
  ⟨0, 1, 0, 1, 0, [⟨20, 4, .rw, 4, .k⟩, ⟨16, 4, .rw, 3, .k⟩, ⟨12, 3, .rw, 7, .k⟩, ⟨11, 1, .rw, 0, .k⟩, ⟨10, 1, .rw, 0, .k⟩, ⟨9, 1, .rw, 0, .k⟩, ⟨8, 1, .rw, 0, .k⟩, ⟨4, 1, .w1p, 0, .k⟩, ⟨3, 1, .w1p, 0, .k⟩, ⟨2, 1, .w1p, 0, .k⟩, ⟨1, 1, .rw, 1, .k⟩, ⟨0, 1, .rw, 0, .k⟩]⟩,
  ⟨4, 1, 0, 1, 0, [⟨23, 1, .ro, 0, .k⟩, ⟨22, 1, .ro, 0, .k⟩, ⟨20, 2, .ro, 3, .k⟩, ⟨18, 2, .ro, 3, .k⟩, ⟨16, 2, .ro, 3, .k⟩, ⟨12, 4, .ro, 0, .k⟩, ⟨7, 1, .w1c, 0, .k⟩, ⟨6, 1, .w1c, 0, .k⟩, ⟨5, 1, .w1c, 0, .k⟩, ⟨4, 1, .w1c, 0, .k⟩, ⟨0, 4, .ro, 0, .k⟩]⟩,
  ⟨8, 1, 0, 1, 0, [⟨28, 4, .ro, 0, .k⟩, ⟨24, 4, .ro, 0, .k⟩, ⟨20, 4, .ro, 0, .k⟩, ⟨16, 4, .ro, 0, .k⟩, ⟨12, 4, .ro, 0, .k⟩, ⟨8, 4, .ro, 0, .k⟩]⟩,
  ⟨0xc, 1, 0, 1, 0, [⟨0, 32, .ro, 0, .k⟩]⟩,
  ⟨0x10, 1, 0, 1, 0, [⟨8, 4, .rw, 6, .k⟩, ⟨0, 4, .ro, 0, .k⟩]⟩,
  ⟨0x14, 1, 0, 1, 0, [⟨16, 16, .ro, 0, .k⟩, ⟨0, 8, .ro, 0, .k⟩]⟩,
  ⟨0x18, 1, 0, 1, 0, [⟨16, 12, .ro, 0, .k⟩, ⟨0, 12, .ro, 0, .k⟩]⟩,
  ⟨0x1c, 1, 0, 1, 0, [⟨16, 16, .rc, 0, .k⟩, ⟨0, 16, .rc, 0, .k⟩]⟩,
  ⟨0x20, 1, 0, 1, 0, [⟨8, 8, .rc, 0, .k⟩, ⟨0, 8, .rc, 0, .k⟩]⟩,
  ⟨0x40, 1, 0, 1, 0, [⟨0, 32, .rw, 0, .k⟩]⟩,
  ⟨0x44, 1, 0, 1, 0, [⟨31, 1, .w1p, 0, .k⟩, ⟨8, 1, .rw, 0, .k⟩, ⟨0, 3, .rw, 1, .k⟩]⟩,
  ⟨0x48, 1, 0, 1, 0, [⟨31, 1, .ro, 0, .k⟩, ⟨30, 1, .w1c, 0, .k⟩, ⟨29, 1, .w1c, 0, .k⟩, ⟨0, 8, .ro, 0, .k⟩]⟩,
  ⟨0x50, 4, 4, 1, 0, [⟨0, 32, .rw, 0, .k⟩]⟩]

/-- The head link block's window (R25): base, units, bytes per unit, offset of the in-force copies (0: none), rows. -/
def hlMap : BlockMap := ⟨0x2000700000, 24, 0x1000, 0, hlRows0⟩

/-- HL_CTL.MAXTRY, RW, reset 4 (R397). -/
def HL_CTL_MAXTRY (u : Nat) : Fld := ⟨0x2000700000 + 0x1000 * u, 20, 4, 4, 0⟩
/-- HL_CTL.VMAXLIM, RW, reset 3 (R397). -/
def HL_CTL_VMAXLIM (u : Nat) : Fld := ⟨0x2000700000 + 0x1000 * u, 16, 4, 3, 0⟩
/-- HL_CTL.RATEMASK, RW, reset 7 (R397). -/
def HL_CTL_RATEMASK (u : Nat) : Fld := ⟨0x2000700000 + 0x1000 * u, 12, 3, 7, 0⟩
/-- HL_CTL.EQFIX, RW, reset 0 (R397). -/
def HL_CTL_EQFIX (u : Nat) : Fld := ⟨0x2000700000 + 0x1000 * u, 11, 1, 0, 0⟩
/-- HL_CTL.L1EN, RW, reset 0 (R397). -/
def HL_CTL_L1EN (u : Nat) : Fld := ⟨0x2000700000 + 0x1000 * u, 10, 1, 0, 0⟩
/-- HL_CTL.L0SUPEN, RW, reset 0 (R397). -/
def HL_CTL_L0SUPEN (u : Nat) : Fld := ⟨0x2000700000 + 0x1000 * u, 9, 1, 0, 0⟩
/-- HL_CTL.L0SDNEN, RW, reset 0 (R397). -/
def HL_CTL_L0SDNEN (u : Nat) : Fld := ⟨0x2000700000 + 0x1000 * u, 8, 1, 0, 0⟩
/-- HL_CTL.WAKE, W1P, reset 0 (R397). -/
def HL_CTL_WAKE (u : Nat) : Fld := ⟨0x2000700000 + 0x1000 * u, 4, 1, 0, 0⟩
/-- HL_CTL.L1REQ, W1P, reset 0 (R397). -/
def HL_CTL_L1REQ (u : Nat) : Fld := ⟨0x2000700000 + 0x1000 * u, 3, 1, 0, 0⟩
/-- HL_CTL.RETRAIN, W1P, reset 0 (R397). -/
def HL_CTL_RETRAIN (u : Nat) : Fld := ⟨0x2000700000 + 0x1000 * u, 2, 1, 0, 0⟩
/-- HL_CTL.AUTORT, RW, reset 1 (R397). -/
def HL_CTL_AUTORT (u : Nat) : Fld := ⟨0x2000700000 + 0x1000 * u, 1, 1, 1, 0⟩
/-- HL_CTL.EN, RW, reset 0 (R397). -/
def HL_CTL_EN (u : Nat) : Fld := ⟨0x2000700000 + 0x1000 * u, 0, 1, 0, 0⟩
/-- HL_STAT.HFAULT, RO, reset 0 (R398). -/
def HL_STAT_HFAULT (u : Nat) : Fld := ⟨0x2000700004 + 0x1000 * u, 23, 1, 0, 0⟩
/-- HL_STAT.PRESENT, RO, reset 0 (R398). -/
def HL_STAT_PRESENT (u : Nat) : Fld := ⟨0x2000700004 + 0x1000 * u, 22, 1, 0, 0⟩
/-- HL_STAT.UPPS, RO, reset 3 (R398). -/
def HL_STAT_UPPS (u : Nat) : Fld := ⟨0x2000700004 + 0x1000 * u, 20, 2, 3, 0⟩
/-- HL_STAT.DNPS, RO, reset 3 (R398). -/
def HL_STAT_DNPS (u : Nat) : Fld := ⟨0x2000700004 + 0x1000 * u, 18, 2, 3, 0⟩
/-- HL_STAT.RATE, RO, reset 3 (R398). -/
def HL_STAT_RATE (u : Nat) : Fld := ⟨0x2000700004 + 0x1000 * u, 16, 2, 3, 0⟩
/-- HL_STAT.VERSION, RO, reset 0 (R398). -/
def HL_STAT_VERSION (u : Nat) : Fld := ⟨0x2000700004 + 0x1000 * u, 12, 4, 0, 0⟩
/-- HL_STAT.TIMEERR, W1C, reset 0 (R398). -/
def HL_STAT_TIMEERR (u : Nat) : Fld := ⟨0x2000700004 + 0x1000 * u, 7, 1, 0, 0⟩
/-- HL_STAT.STUFERR, W1C, reset 0 (R398). -/
def HL_STAT_STUFERR (u : Nat) : Fld := ⟨0x2000700004 + 0x1000 * u, 6, 1, 0, 0⟩
/-- HL_STAT.LOF, W1C, reset 0 (R398). -/
def HL_STAT_LOF (u : Nat) : Fld := ⟨0x2000700004 + 0x1000 * u, 5, 1, 0, 0⟩
/-- HL_STAT.DOWN, W1C, reset 0 (R398). -/
def HL_STAT_DOWN (u : Nat) : Fld := ⟨0x2000700004 + 0x1000 * u, 4, 1, 0, 0⟩
/-- HL_STAT.STATE, RO, reset 0 (R398). -/
def HL_STAT_STATE (u : Nat) : Fld := ⟨0x2000700004 + 0x1000 * u, 0, 4, 0, 0⟩
/-- HL_TRAIN.FAILCAUSE, RO, reset 0 (R399). -/
def HL_TRAIN_FAILCAUSE (u : Nat) : Fld := ⟨0x2000700008 + 0x1000 * u, 28, 4, 0, 0⟩
/-- HL_TRAIN.ATTEMPTS, RO, reset 0 (R399). -/
def HL_TRAIN_ATTEMPTS (u : Nat) : Fld := ⟨0x2000700008 + 0x1000 * u, 24, 4, 0, 0⟩
/-- HL_TRAIN.HVMIN, RO, reset 0 (R399). -/
def HL_TRAIN_HVMIN (u : Nat) : Fld := ⟨0x2000700008 + 0x1000 * u, 20, 4, 0, 0⟩
/-- HL_TRAIN.HVMAX, RO, reset 0 (R399). -/
def HL_TRAIN_HVMAX (u : Nat) : Fld := ⟨0x2000700008 + 0x1000 * u, 16, 4, 0, 0⟩
/-- HL_TRAIN.HRATES, RO, reset 0 (R399). -/
def HL_TRAIN_HRATES (u : Nat) : Fld := ⟨0x2000700008 + 0x1000 * u, 12, 4, 0, 0⟩
/-- HL_TRAIN.RATEFAIL, RO, reset 0 (R399). -/
def HL_TRAIN_RATEFAIL (u : Nat) : Fld := ⟨0x2000700008 + 0x1000 * u, 8, 4, 0, 0⟩
/-- HL_HEADMODEL.MODEL, RO, reset 0 (R399). -/
def HL_HEADMODEL_MODEL (u : Nat) : Fld := ⟨0x200070000c + 0x1000 * u, 0, 32, 0, 0⟩
/-- HL_EQ.PEAKFIX, RW, reset 6 (R399). -/
def HL_EQ_PEAKFIX (u : Nat) : Fld := ⟨0x2000700010 + 0x1000 * u, 8, 4, 6, 0⟩
/-- HL_EQ.PEAK, RO, reset 0 (R399). -/
def HL_EQ_PEAK (u : Nat) : Fld := ⟨0x2000700010 + 0x1000 * u, 0, 4, 0, 0⟩
/-- HL_TIME.DELAY, RO, reset 0 (R399). -/
def HL_TIME_DELAY (u : Nat) : Fld := ⟨0x2000700014 + 0x1000 * u, 16, 16, 0, 0⟩
/-- HL_TIME.ADJCNT, RO, reset 0 (R399). -/
def HL_TIME_ADJCNT (u : Nat) : Fld := ⟨0x2000700014 + 0x1000 * u, 0, 8, 0, 0⟩
/-- HL_PHASE.Q, RO, reset 0 (R399). -/
def HL_PHASE_Q (u : Nat) : Fld := ⟨0x2000700018 + 0x1000 * u, 16, 12, 0, 0⟩
/-- HL_PHASE.U, RO, reset 0 (R399). -/
def HL_PHASE_U (u : Nat) : Fld := ⟨0x2000700018 + 0x1000 * u, 0, 12, 0, 0⟩
/-- HL_ERRCNT.SLOTCRC, RC, reset 0 (R400). -/
def HL_ERRCNT_SLOTCRC (u : Nat) : Fld := ⟨0x200070001c + 0x1000 * u, 16, 16, 0, 0⟩
/-- HL_ERRCNT.CAMCRC, RC, reset 0 (R400). -/
def HL_ERRCNT_CAMCRC (u : Nat) : Fld := ⟨0x200070001c + 0x1000 * u, 0, 16, 0, 0⟩
/-- HL_HEADERR.MISSCNT, RC, reset 0 (R400). -/
def HL_HEADERR_MISSCNT (u : Nat) : Fld := ⟨0x2000700020 + 0x1000 * u, 8, 8, 0, 0⟩
/-- HL_HEADERR.DROPCNT, RC, reset 0 (R400). -/
def HL_HEADERR_DROPCNT (u : Nat) : Fld := ⟨0x2000700020 + 0x1000 * u, 0, 8, 0, 0⟩
/-- HL_SVCADDR.ADDR, RW, reset 0 (R401). -/
def HL_SVCADDR_ADDR (u : Nat) : Fld := ⟨0x2000700040 + 0x1000 * u, 0, 32, 0, 0⟩
/-- HL_SVCCMD.GO, W1P, reset 0 (R401). -/
def HL_SVCCMD_GO (u : Nat) : Fld := ⟨0x2000700044 + 0x1000 * u, 31, 1, 0, 0⟩
/-- HL_SVCCMD.WRITE, RW, reset 0 (R401). -/
def HL_SVCCMD_WRITE (u : Nat) : Fld := ⟨0x2000700044 + 0x1000 * u, 8, 1, 0, 0⟩
/-- HL_SVCCMD.LEN, RW, reset 1 (R401). -/
def HL_SVCCMD_LEN (u : Nat) : Fld := ⟨0x2000700044 + 0x1000 * u, 0, 3, 1, 0⟩
/-- HL_SVCSTAT.BUSY, RO, reset 0 (R401). -/
def HL_SVCSTAT_BUSY (u : Nat) : Fld := ⟨0x2000700048 + 0x1000 * u, 31, 1, 0, 0⟩
/-- HL_SVCSTAT.DONE, W1C, reset 0 (R401). -/
def HL_SVCSTAT_DONE (u : Nat) : Fld := ⟨0x2000700048 + 0x1000 * u, 30, 1, 0, 0⟩
/-- HL_SVCSTAT.ERR, W1C, reset 0 (R401). -/
def HL_SVCSTAT_ERR (u : Nat) : Fld := ⟨0x2000700048 + 0x1000 * u, 29, 1, 0, 0⟩
/-- HL_SVCSTAT.RSTAT, RO, reset 0 (R401). -/
def HL_SVCSTAT_RSTAT (u : Nat) : Fld := ⟨0x2000700048 + 0x1000 * u, 0, 8, 0, 0⟩
/-- HL_SVCDATA.DATA, RW, reset 0 (R401). -/
def HL_SVCDATA_DATA (u i : Nat) : Fld := ⟨0x2000700050 + 0x1000 * u + 4 * i, 0, 32, 0, 0⟩

/-- Rows 0 to 19 of the Skeuz register table. -/
def skzRows0 : List RegRow := [
  ⟨0, 1, 0, 1, 0, [⟨24, 8, .rw, 5, .k⟩, ⟨16, 5, .rw, 0, .k⟩, ⟨8, 1, .rw, 0, .k⟩, ⟨0, 4, .rw, 0, .k⟩]⟩,
  ⟨4, 1, 0, 1, 0, [⟨31, 1, .ro, 0, .k⟩, ⟨30, 1, .ro, 1, .k⟩, ⟨24, 4, .ro, 0, .k⟩, ⟨16, 5, .ro, 1, .k⟩, ⟨9, 1, .w1c, 0, .k⟩, ⟨8, 1, .w1c, 0, .k⟩, ⟨7, 1, .w1c, 0, .k⟩, ⟨6, 1, .w1c, 0, .k⟩, ⟨5, 1, .w1c, 0, .k⟩, ⟨4, 1, .w1c, 0, .k⟩, ⟨3, 1, .w1c, 0, .k⟩, ⟨0, 3, .ro, 0, .k⟩]⟩,
  ⟨8, 1, 0, 1, 0, [⟨0, 32, .ro, 0, .k⟩]⟩,
  ⟨0xc, 1, 0, 1, 0, [⟨0, 32, .ro, 0, .k⟩]⟩,
  ⟨0x10, 1, 0, 1, 0, [⟨16, 16, .rw, 0x3e8, .k⟩, ⟨0, 8, .rw, 0x10, .k⟩]⟩,
  ⟨0x14, 1, 0, 1, 0, [⟨16, 16, .ro, 0, .k⟩, ⟨8, 4, .ro, 0, .k⟩, ⟨0, 3, .ro, 7, .k⟩]⟩,
  ⟨0x18, 1, 0, 1, 0, [⟨0, 24, .ro, 0, .k⟩]⟩,
  ⟨0x1c, 1, 0, 1, 0, [⟨0, 24, .rw, 0x640, .k⟩]⟩,
  ⟨0x20, 1, 0, 1, 0, [⟨31, 1, .w1p, 0, .k⟩, ⟨30, 1, .rw, 1, .k⟩, ⟨8, 16, .rw, 0, .k⟩, ⟨0, 8, .rw, 0, .k⟩]⟩,
  ⟨0x24, 1, 0, 1, 0, [⟨0, 32, .rw, 0, .k⟩]⟩,
  ⟨0x28, 1, 0, 1, 0, [⟨0, 16, .rw, 0, .k⟩]⟩,
  ⟨0x2c, 1, 0, 1, 0, [⟨0, 16, .rc, 0, .k⟩]⟩,
  ⟨0x30, 1, 0, 1, 0, [⟨16, 16, .ro, 0, .k⟩, ⟨0, 16, .ro, 0, .k⟩]⟩,
  ⟨0x40, 16, 4, 1, 0, [⟨0, 4, .rw, 0, .k⟩]⟩,
  ⟨0x100, 16, 4, 1, 0, [⟨0, 3, .rw, 0, .k⟩]⟩,
  ⟨0x180, 16, 8, 1, 0, [⟨0, 32, .ro, 0, .k⟩]⟩,
  ⟨0x184, 16, 8, 1, 0, [⟨0, 32, .ro, 0, .k⟩]⟩,
  ⟨0x200, 4, 0x20, 1, 0, [⟨3, 1, .w1p, 0, .k⟩, ⟨2, 1, .rw, 0, .k⟩, ⟨1, 1, .rw, 0, .k⟩, ⟨0, 1, .rw, 0, .k⟩]⟩,
  ⟨0x204, 4, 0x20, 1, 0, [⟨13, 1, .ro, 0, .k⟩, ⟨12, 1, .ro, 0, .k⟩, ⟨8, 4, .ro, 0, .k⟩, ⟨4, 1, .w1c, 0, .k⟩, ⟨3, 1, .ro, 0, .k⟩, ⟨2, 1, .ro, 0, .k⟩, ⟨0, 2, .ro, 0, .k⟩]⟩,
  ⟨0x208, 4, 0x20, 1, 0, [⟨16, 16, .rc, 0, .k⟩, ⟨0, 16, .rc, 0, .k⟩]⟩]

/-- Rows 20 to 22 of the Skeuz register table. -/
def skzRows1 : List RegRow := [
  ⟨0x20c, 4, 0x20, 1, 0, [⟨16, 16, .rc, 0, .k⟩, ⟨0, 16, .rc, 0, .k⟩]⟩,
  ⟨0x210, 4, 0x20, 1, 0, [⟨0, 32, .ro, 0, .k⟩]⟩,
  ⟨0x214, 4, 0x20, 1, 0, [⟨0, 32, .ro, 0, .k⟩]⟩]

/-- The Skeuz block's window (R25): base, units, bytes per unit, offset of the in-force copies (0: none), rows. -/
def skzMap : BlockMap := ⟨0x2000800000, 1, 0x100000, 0, skzRows0 ++ skzRows1⟩

/-- SKZ_CTL.JOINTO, RW, reset 5 (R431). -/
def SKZ_CTL_JOINTO : Fld := ⟨0x2000800000, 24, 8, 5, 0⟩
/-- SKZ_CTL.EXPECT, RW, reset 0 (R431). -/
def SKZ_CTL_EXPECT : Fld := ⟨0x2000800000, 16, 5, 0, 0⟩
/-- SKZ_CTL.PREFEN, RW, reset 0 (R431). -/
def SKZ_CTL_PREFEN : Fld := ⟨0x2000800000, 8, 1, 0, 0⟩
/-- SKZ_CTL.PREF, RW, reset 0 (R431). -/
def SKZ_CTL_PREF : Fld := ⟨0x2000800000, 0, 4, 0, 0⟩
/-- SKZ_STAT.JOINED, RO, reset 0 (R432). -/
def SKZ_STAT_JOINED : Fld := ⟨0x2000800004, 31, 1, 0, 0⟩
/-- SKZ_STAT.TK, RO, reset 1 (R432). -/
def SKZ_STAT_TK : Fld := ⟨0x2000800004, 30, 1, 1, 0⟩
/-- SKZ_STAT.ADDR, RO, reset 0 (R432). -/
def SKZ_STAT_ADDR : Fld := ⟨0x2000800004, 24, 4, 0, 0⟩
/-- SKZ_STAT.NDEV, RO, reset 1 (R432). -/
def SKZ_STAT_NDEV : Fld := ⟨0x2000800004, 16, 5, 1, 0⟩
/-- SKZ_STAT.BADCMD, W1C, reset 0 (R432). -/
def SKZ_STAT_BADCMD : Fld := ⟨0x2000800004, 9, 1, 0, 0⟩
/-- SKZ_STAT.CMDERR, W1C, reset 0 (R432). -/
def SKZ_STAT_CMDERR : Fld := ⟨0x2000800004, 8, 1, 0, 0⟩
/-- SKZ_STAT.LATECMD, W1C, reset 0 (R432). -/
def SKZ_STAT_LATECMD : Fld := ⟨0x2000800004, 7, 1, 0, 0⟩
/-- SKZ_STAT.TSERR, W1C, reset 0 (R432). -/
def SKZ_STAT_TSERR : Fld := ⟨0x2000800004, 6, 1, 0, 0⟩
/-- SKZ_STAT.TKLOST, W1C, reset 0 (R432). -/
def SKZ_STAT_TKLOST : Fld := ⟨0x2000800004, 5, 1, 0, 0⟩
/-- SKZ_STAT.JOINERR, W1C, reset 0 (R432). -/
def SKZ_STAT_JOINERR : Fld := ⟨0x2000800004, 4, 1, 0, 0⟩
/-- SKZ_STAT.LOOPDROP, W1C, reset 0 (R432). -/
def SKZ_STAT_LOOPDROP : Fld := ⟨0x2000800004, 3, 1, 0, 0⟩
/-- SKZ_STAT.JSTATE, RO, reset 0 (R432). -/
def SKZ_STAT_JSTATE : Fld := ⟨0x2000800004, 0, 3, 0, 0⟩
/-- SKZ_TKUID_LO.UID, RO, reset 0 (R431). -/
def SKZ_TKUID_LO_UID : Fld := ⟨0x2000800008, 0, 32, 0, 0⟩
/-- SKZ_TKUID_HI.UID, RO, reset 0 (R431). -/
def SKZ_TKUID_HI_UID : Fld := ⟨0x200080000c, 0, 32, 0, 0⟩
/-- SKZ_TSYNC.PERIOD, RW, reset 0x3e8 (R431). -/
def SKZ_TSYNC_PERIOD : Fld := ⟨0x2000800010, 16, 16, 0x3e8, 0⟩
/-- SKZ_TSYNC.LIMIT, RW, reset 0x10 (R431). -/
def SKZ_TSYNC_LIMIT : Fld := ⟨0x2000800010, 0, 8, 0x10, 0⟩
/-- SKZ_TSTAT.THETA, RO, reset 0 (R431). -/
def SKZ_TSTAT_THETA : Fld := ⟨0x2000800014, 16, 16, 0, 0⟩
/-- SKZ_TSTAT.HOPS, RO, reset 0 (R431). -/
def SKZ_TSTAT_HOPS : Fld := ⟨0x2000800014, 8, 4, 0, 0⟩
/-- SKZ_TSTAT.PARENT, RO, reset 7 (R431). -/
def SKZ_TSTAT_PARENT : Fld := ⟨0x2000800014, 0, 3, 7, 0⟩
/-- SKZ_TDELAY.DELAY, RO, reset 0 (R431). -/
def SKZ_TDELAY_DELAY : Fld := ⟨0x2000800018, 0, 24, 0, 0⟩
/-- SKZ_CMDLEAD.LEAD, RW, reset 0x640 (R431). -/
def SKZ_CMDLEAD_LEAD : Fld := ⟨0x200080001c, 0, 24, 0x640, 0⟩
/-- SKZ_BCMD.GO, W1P, reset 0 (R433). -/
def SKZ_BCMD_GO : Fld := ⟨0x2000800020, 31, 1, 0, 0⟩
/-- SKZ_BCMD.AUTO, RW, reset 1 (R433). -/
def SKZ_BCMD_AUTO : Fld := ⟨0x2000800020, 30, 1, 1, 0⟩
/-- SKZ_BCMD.CARG, RW, reset 0 (R433). -/
def SKZ_BCMD_CARG : Fld := ⟨0x2000800020, 8, 16, 0, 0⟩
/-- SKZ_BCMD.CMD, RW, reset 0 (R433). -/
def SKZ_BCMD_CMD : Fld := ⟨0x2000800020, 0, 8, 0, 0⟩
/-- SKZ_BSTAMP_LO.STAMP, RW, reset 0 (R433). -/
def SKZ_BSTAMP_LO_STAMP : Fld := ⟨0x2000800024, 0, 32, 0, 0⟩
/-- SKZ_BSTAMP_HI.STAMP, RW, reset 0 (R433). -/
def SKZ_BSTAMP_HI_STAMP : Fld := ⟨0x2000800028, 0, 16, 0, 0⟩
/-- SKZ_LATECNT.COUNT, RC, reset 0 (R431). -/
def SKZ_LATECNT_COUNT : Fld := ⟨0x200080002c, 0, 16, 0, 0⟩
/-- SKZ_LAYSTAT.DONE, RO, reset 0 (R431). -/
def SKZ_LAYSTAT_DONE : Fld := ⟨0x2000800030, 16, 16, 0, 0⟩
/-- SKZ_LAYSTAT.SET, RO, reset 0 (R431). -/
def SKZ_LAYSTAT_SET : Fld := ⟨0x2000800030, 0, 16, 0, 0⟩
/-- SKZ_ROUTE.MASK, RW, reset 0 (R431). -/
def SKZ_ROUTE_MASK (i : Nat) : Fld := ⟨0x2000800040 + 4 * i, 0, 4, 0, 0⟩
/-- SKZ_DWIN.PAGE, RW, reset 0 (R431). -/
def SKZ_DWIN_PAGE (i : Nat) : Fld := ⟨0x2000800100 + 4 * i, 0, 3, 0, 0⟩
/-- SKZ_DEVUID_LO.UID, RO, reset 0 (R431). -/
def SKZ_DEVUID_LO_UID (i : Nat) : Fld := ⟨0x2000800180 + 8 * i, 0, 32, 0, 0⟩
/-- SKZ_DEVUID_HI.UID, RO, reset 0 (R431). -/
def SKZ_DEVUID_HI_UID (i : Nat) : Fld := ⟨0x2000800184 + 8 * i, 0, 32, 0, 0⟩
/-- SKZ_PCTL.RETRAIN, W1P, reset 0 (R434). -/
def SKZ_PCTL_RETRAIN (i : Nat) : Fld := ⟨0x2000800200 + 0x20 * i, 3, 1, 0, 0⟩
/-- SKZ_PCTL.PRECODE, RW, reset 0 (R434). -/
def SKZ_PCTL_PRECODE (i : Nat) : Fld := ⟨0x2000800200 + 0x20 * i, 2, 1, 0, 0⟩
/-- SKZ_PCTL.FEC, RW, reset 0 (R434). -/
def SKZ_PCTL_FEC (i : Nat) : Fld := ⟨0x2000800200 + 0x20 * i, 1, 1, 0, 0⟩
/-- SKZ_PCTL.EN, RW, reset 0 (R434). -/
def SKZ_PCTL_EN (i : Nat) : Fld := ⟨0x2000800200 + 0x20 * i, 0, 1, 0, 0⟩
/-- SKZ_PSTAT.INJOIN, RO, reset 0 (R434). -/
def SKZ_PSTAT_INJOIN (i : Nat) : Fld := ⟨0x2000800204 + 0x20 * i, 13, 1, 0, 0⟩
/-- SKZ_PSTAT.PEERVALID, RO, reset 0 (R434). -/
def SKZ_PSTAT_PEERVALID (i : Nat) : Fld := ⟨0x2000800204 + 0x20 * i, 12, 1, 0, 0⟩
/-- SKZ_PSTAT.PEERADDR, RO, reset 0 (R434). -/
def SKZ_PSTAT_PEERADDR (i : Nat) : Fld := ⟨0x2000800204 + 0x20 * i, 8, 4, 0, 0⟩
/-- SKZ_PSTAT.DOWNEV, W1C, reset 0 (R434). -/
def SKZ_PSTAT_DOWNEV (i : Nat) : Fld := ⟨0x2000800204 + 0x20 * i, 4, 1, 0, 0⟩
/-- SKZ_PSTAT.PRECON, RO, reset 0 (R434). -/
def SKZ_PSTAT_PRECON (i : Nat) : Fld := ⟨0x2000800204 + 0x20 * i, 3, 1, 0, 0⟩
/-- SKZ_PSTAT.FECON, RO, reset 0 (R434). -/
def SKZ_PSTAT_FECON (i : Nat) : Fld := ⟨0x2000800204 + 0x20 * i, 2, 1, 0, 0⟩
/-- SKZ_PSTAT.STATE, RO, reset 0 (R434). -/
def SKZ_PSTAT_STATE (i : Nat) : Fld := ⟨0x2000800204 + 0x20 * i, 0, 2, 0, 0⟩
/-- SKZ_PERR.CRCERR, RC, reset 0 (R434). -/
def SKZ_PERR_CRCERR (i : Nat) : Fld := ⟨0x2000800208 + 0x20 * i, 16, 16, 0, 0⟩
/-- SKZ_PERR.REPLAY, RC, reset 0 (R434). -/
def SKZ_PERR_REPLAY (i : Nat) : Fld := ⟨0x2000800208 + 0x20 * i, 0, 16, 0, 0⟩
/-- SKZ_PFEC.UNCORR, RC, reset 0 (R434). -/
def SKZ_PFEC_UNCORR (i : Nat) : Fld := ⟨0x200080020c + 0x20 * i, 16, 16, 0, 0⟩
/-- SKZ_PFEC.CORR, RC, reset 0 (R434). -/
def SKZ_PFEC_CORR (i : Nat) : Fld := ⟨0x200080020c + 0x20 * i, 0, 16, 0, 0⟩
/-- SKZ_PPEER_LO.PEER, RO, reset 0 (R434). -/
def SKZ_PPEER_LO_PEER (i : Nat) : Fld := ⟨0x2000800210 + 0x20 * i, 0, 32, 0, 0⟩
/-- SKZ_PPEER_HI.PEER, RO, reset 0 (R434). -/
def SKZ_PPEER_HI_PEER (i : Nat) : Fld := ⟨0x2000800214 + 0x20 * i, 0, 32, 0, 0⟩

end Sys2Proof.Machine
end

