-- ==== Sys2Proof/Machine/MapSystem.lean ====
section
/-! DEFINITION. Register map of the system, fault collector, chronograph, NV store, host port, DRAM controller, split, calibration blocks, row by row from the register tables of
spec/00_scope.md, spec/02_operating_modes.md, spec/15_calibration.md, spec/16_reset_power.md, spec/17_faults_recorder.md, spec/18_host_memory_boot.md, spec/19_package_electrical.md.
A row gives a register's offset in its block, its repetition, and its fields: lowest bit, width, access code (R6),
reset value and reset reach (R10). Below each table, one accessor per field; the docstring of an accessor names the
rule of the table it comes from. -/

namespace Sys2Proof.Machine

/-- Rows 0 to 19 of the system register table. -/
def sysRows0 : List RegRow := [
  ⟨0, 1, 0, 1, 0, [⟨16, 16, .ro, 0xa96, .n⟩, ⟨0, 16, .ro, 0x7240, .n⟩]⟩,
  ⟨4, 1, 0, 1, 0, [⟨8, 8, .ro, 2, .n⟩, ⟨0, 8, .ro, 0, .n⟩]⟩,
  ⟨8, 1, 0, 1, 0, [⟨0, 32, .ro, 1, .n⟩]⟩,
  ⟨0xc, 1, 0, 1, 0, [⟨0, 32, .ro, 0, .n⟩]⟩,
  ⟨0x100, 1, 0, 1, 0, [⟨31, 1, .w1p, 0, .c⟩, ⟨4, 4, .rw, 1, .c⟩, ⟨0, 4, .rw, 3, .c⟩]⟩,
  ⟨0x104, 1, 0, 1, 0, [⟨24, 8, .ro, 0xff, .c⟩, ⟨16, 4, .ro, 0, .c⟩, ⟨15, 1, .ro, 0, .c⟩, ⟨13, 1, .ro, 0, .c⟩, ⟨12, 1, .ro, 0, .c⟩, ⟨8, 4, .ro, 0, .c⟩, ⟨4, 4, .ro, 0, .c⟩, ⟨0, 4, .ro, 0, .c⟩]⟩,
  ⟨0x108, 1, 0, 1, 0, [⟨24, 8, .ro, 0, .c⟩, ⟨16, 4, .ro, 0, .c⟩, ⟨12, 4, .ro, 0, .c⟩, ⟨8, 4, .ro, 0, .c⟩, ⟨2, 1, .w1c, 0, .c⟩, ⟨1, 1, .w1c, 0, .c⟩, ⟨0, 1, .w1c, 0, .c⟩]⟩,
  ⟨0x10c, 1, 0, 1, 0, [⟨16, 8, .rw, 0xa, .c⟩, ⟨4, 1, .rw, 0, .c⟩, ⟨3, 1, .rw, 0, .c⟩, ⟨2, 1, .rw, 0, .c⟩, ⟨1, 1, .rw, 0, .c⟩, ⟨0, 1, .rw, 0, .c⟩]⟩,
  ⟨0x110, 1, 0, 1, 0, [⟨2, 1, .w1c, 0, .c⟩, ⟨1, 1, .w1c, 0, .c⟩, ⟨0, 1, .w1c, 0, .c⟩]⟩,
  ⟨0x114, 1, 0, 1, 0, [⟨16, 16, .ro, 0, .p⟩, ⟨0, 16, .ro, 0, .p⟩]⟩,
  ⟨0x200, 1, 0, 1, 0, [⟨12, 10, .rw, 5, .p⟩, ⟨1, 1, .rw, 1, .p⟩, ⟨0, 1, .rw, 0, .p⟩]⟩,
  ⟨0x204, 1, 0, 1, 0, [⟨1, 1, .w1p, 0, .c⟩, ⟨0, 1, .w1p, 0, .c⟩]⟩,
  ⟨0x208, 1, 0, 1, 0, [⟨24, 2, .ro, 3, .b⟩, ⟨0, 10, .ro, 0x103, .b⟩]⟩,
  ⟨0x20c, 1, 0, 1, 0, [⟨1, 1, .ro, 0, .n⟩, ⟨0, 1, .ro, 0, .n⟩]⟩,
  ⟨0x210, 10, 4, 1, 0, [⟨0, 16, .ro, 0, .b⟩]⟩,
  ⟨0x240, 1, 0, 1, 0, [⟨0, 24, .w1p, 0, .c⟩]⟩,
  ⟨0x244, 1, 0, 1, 0, [⟨0, 24, .w1p, 0, .c⟩]⟩,
  ⟨0x248, 1, 0, 1, 0, [⟨0, 24, .w1p, 0, .c⟩]⟩,
  ⟨0x24c, 1, 0, 1, 0, [⟨0, 24, .w1p, 0, .c⟩]⟩,
  ⟨0x250, 1, 0, 1, 0, [⟨0, 15, .w1p, 0, .c⟩]⟩]

/-- Rows 20 to 39 of the system register table. -/
def sysRows1 : List RegRow := [
  ⟨0x260, 1, 0, 1, 0, [⟨31, 1, .rw, 0, .c⟩, ⟨0, 16, .rw, 0x3e8, .c⟩]⟩,
  ⟨0x264, 1, 0, 1, 0, [⟨0, 1, .w1p, 0, .c⟩]⟩,
  ⟨0x268, 1, 0, 1, 0, [⟨0, 16, .ro, 0x3e8, .c⟩]⟩,
  ⟨0x280, 32, 4, 1, 0, [⟨0, 3, .ro, 0, .n⟩]⟩,
  ⟨0x300, 1, 0, 1, 0, [⟨20, 12, .rw, 0x28, .p⟩, ⟨8, 12, .rw, 0x258, .p⟩, ⟨0, 8, .rw, 0xa, .p⟩]⟩,
  ⟨0x304, 1, 0, 1, 0, [⟨20, 12, .rw, 0x2f8, .p⟩, ⟨8, 12, .rw, 0x2bc, .p⟩, ⟨0, 8, .rw, 0xa, .p⟩]⟩,
  ⟨0x308, 1, 0, 1, 0, [⟨20, 12, .rw, 0x357, .p⟩, ⟨8, 12, .rw, 0x320, .p⟩, ⟨0, 8, .rw, 0xa, .p⟩]⟩,
  ⟨0x30c, 1, 0, 1, 0, [⟨20, 12, .rw, 0x474, .p⟩, ⟨8, 12, .rw, 0x424, .p⟩, ⟨0, 8, .rw, 0xf, .p⟩]⟩,
  ⟨0x310, 1, 0, 1, 0, [⟨20, 12, .rw, 0x3e8, .p⟩, ⟨8, 12, .rw, 0x3ac, .p⟩, ⟨0, 8, .rw, 0xf, .p⟩]⟩,
  ⟨0x314, 1, 0, 1, 0, [⟨20, 12, .rw, 0x6ae, .p⟩, ⟨8, 12, .rw, 0x640, .p⟩, ⟨0, 8, .rw, 0x14, .p⟩]⟩,
  ⟨0x318, 1, 0, 1, 0, [⟨20, 12, .rw, 0xc3f, .p⟩, ⟨8, 12, .rw, 0xb86, .p⟩, ⟨0, 8, .rw, 0x1e, .p⟩]⟩,
  ⟨0x31c, 1, 0, 1, 0, [⟨20, 12, .rw, 0x960, .p⟩, ⟨8, 12, .rw, 0, .p⟩, ⟨0, 8, .rw, 0x1e, .p⟩]⟩,
  ⟨0x320, 1, 0, 1, 0, [⟨26, 1, .w1c, 0, .p⟩, ⟨25, 1, .w1c, 0, .p⟩, ⟨16, 8, .ro, 0, .p⟩, ⟨8, 8, .w1c, 0, .p⟩, ⟨0, 8, .ro, 0, .p⟩]⟩,
  ⟨0x324, 1, 0, 1, 0, [⟨0, 1, .w1p, 0, .p⟩]⟩,
  ⟨0x340, 8, 4, 1, 0, [⟨16, 16, .rc, 0, .p⟩, ⟨0, 12, .rc, 0xfff, .p⟩]⟩,
  ⟨0x380, 1, 0, 1, 0, [⟨31, 1, .rw, 0, .p⟩, ⟨30, 1, .rw, 0, .p⟩, ⟨16, 6, .rw, 0x28, .p⟩, ⟨8, 6, .rw, 0, .p⟩]⟩,
  ⟨0x384, 1, 0, 1, 0, [⟨31, 1, .w1c, 0, .p⟩, ⟨0, 6, .ro, 0x1e, .p⟩]⟩,
  ⟨0x388, 1, 0, 1, 0, [⟨16, 16, .rw, 0x64, .p⟩, ⟨0, 16, .rw, 0x19, .p⟩]⟩,
  ⟨0x38c, 1, 0, 1, 0, [⟨0, 16, .ro, 0, .p⟩]⟩,
  ⟨0x400, 1, 0, 1, 0, [⟨0, 6, .rw, 0x3f, .b⟩]⟩]

/-- Rows 40 to 56 of the system register table. -/
def sysRows2 : List RegRow := [
  ⟨0x404, 1, 0, 1, 0, [⟨0, 32, .rw, 0, .b⟩]⟩,
  ⟨0x408, 1, 0, 1, 0, [⟨8, 3, .ro, 0, .b⟩, ⟨4, 4, .ro, 0, .b⟩, ⟨0, 1, .w1c, 0, .b⟩]⟩,
  ⟨0x410, 3, 4, 1, 0, [⟨16, 16, .rc, 0x8000, .p⟩, ⟨0, 16, .ro, 0, .p⟩]⟩,
  ⟨0x500, 1, 0, 1, 0, [⟨0, 32, .rw, 0, .b⟩]⟩,
  ⟨0x504, 1, 0, 1, 0, [⟨0, 12, .rw, 0, .b⟩]⟩,
  ⟨0x510, 8, 4, 1, 0, [⟨0, 32, .rw, 0, .b⟩]⟩,
  ⟨0x600, 1, 0, 1, 0, [⟨0, 1, .w1p, 0, .c⟩]⟩,
  ⟨0x604, 1, 0, 1, 0, [⟨12, 2, .ro, 0, .c⟩, ⟨8, 4, .ro, 0, .c⟩, ⟨2, 1, .w1c, 0, .c⟩, ⟨30, 2, .ro, 0, .n⟩, ⟨3, 1, .ro, 0, .c⟩, ⟨1, 1, .ro, 0, .c⟩]⟩,
  ⟨0x608, 1, 0, 1, 0, [⟨3, 29, .rw, 0, .c⟩]⟩,
  ⟨0x60c, 1, 0, 1, 0, [⟨0, 8, .rw, 0, .c⟩]⟩,
  ⟨0x610, 1, 0, 1, 0, [⟨1, 3, .w1p, 0, .c⟩]⟩,
  ⟨0x614, 1, 0, 1, 0, [⟨3, 29, .rw, 0, .c⟩]⟩,
  ⟨0x618, 1, 0, 1, 0, [⟨0, 8, .rw, 0, .c⟩]⟩,
  ⟨0x700, 4, 8, 1, 0, [⟨0, 32, .rw, 0, .c⟩]⟩,
  ⟨0x704, 4, 8, 1, 0, [⟨0, 32, .rw, 0, .c⟩]⟩,
  ⟨0x720, 1, 0, 1, 0, [⟨0, 32, .ro, 0, .c⟩]⟩,
  ⟨0x724, 1, 0, 1, 0, [⟨0, 32, .ro, 0, .c⟩]⟩]

/-- The system block's window (R25): base, units, bytes per unit, offset of the in-force copies (0: none), rows. -/
def sysMap : BlockMap := ⟨0x2000000000, 1, 0x100000, 0, sysRows0 ++ sysRows1 ++ sysRows2⟩

/-- SYS_ID.VENDOR, RO, reset 0xa96 (R12). -/
def SYS_ID_VENDOR : Fld := ⟨0x2000000000, 16, 16, 0xa96, 0⟩
/-- SYS_ID.PART, RO, reset 0x7240 (R12). -/
def SYS_ID_PART : Fld := ⟨0x2000000000, 0, 16, 0x7240, 0⟩
/-- SYS_REV.STEP, RO, reset 2 (R12). -/
def SYS_REV_STEP : Fld := ⟨0x2000000004, 8, 8, 2, 0⟩
/-- SYS_REV.METAL, RO, reset 0 (R12). -/
def SYS_REV_METAL : Fld := ⟨0x2000000004, 0, 8, 0, 0⟩
/-- SYS_UID_LO.UID, RO, reset 1 (R12). -/
def SYS_UID_LO_UID : Fld := ⟨0x2000000008, 0, 32, 1, 0⟩
/-- SYS_UID_HI.UID, RO, reset 0 (R12). -/
def SYS_UID_HI_UID : Fld := ⟨0x200000000c, 0, 32, 0, 0⟩
/-- SYS_MODE_REQ.GO, W1P, reset 0 (R62). -/
def SYS_MODE_REQ_GO : Fld := ⟨0x2000000100, 31, 1, 0, 0⟩
/-- SYS_MODE_REQ.LPSTATE, RW, reset 1 (R62). -/
def SYS_MODE_REQ_LPSTATE : Fld := ⟨0x2000000100, 4, 4, 1, 0⟩
/-- SYS_MODE_REQ.TARGET, RW, reset 3 (R62). -/
def SYS_MODE_REQ_TARGET : Fld := ⟨0x2000000100, 0, 4, 3, 0⟩
/-- SYS_MODE_STAT.REQ_MASTER, RO, reset 0xff (R63). -/
def SYS_MODE_STAT_REQ_MASTER : Fld := ⟨0x2000000104, 24, 8, 0xff, 0⟩
/-- SYS_MODE_STAT.PEND_TARGET, RO, reset 0 (R63). -/
def SYS_MODE_STAT_PEND_TARGET : Fld := ⟨0x2000000104, 16, 4, 0, 0⟩
/-- SYS_MODE_STAT.LAYER_DONE, RO, reset 0 (R63). -/
def SYS_MODE_STAT_LAYER_DONE : Fld := ⟨0x2000000104, 15, 1, 0, 0⟩
/-- SYS_MODE_STAT.PENDING, RO, reset 0 (R63). -/
def SYS_MODE_STAT_PENDING : Fld := ⟨0x2000000104, 13, 1, 0, 0⟩
/-- SYS_MODE_STAT.BUSY, RO, reset 0 (R63). -/
def SYS_MODE_STAT_BUSY : Fld := ⟨0x2000000104, 12, 1, 0, 0⟩
/-- SYS_MODE_STAT.PREV, RO, reset 0 (R63). -/
def SYS_MODE_STAT_PREV : Fld := ⟨0x2000000104, 8, 4, 0, 0⟩
/-- SYS_MODE_STAT.LPSTATE, RO, reset 0 (R63). -/
def SYS_MODE_STAT_LPSTATE : Fld := ⟨0x2000000104, 4, 4, 0, 0⟩
/-- SYS_MODE_STAT.MODE, RO, reset 0 (R63). -/
def SYS_MODE_STAT_MODE : Fld := ⟨0x2000000104, 0, 4, 0, 0⟩
/-- SYS_MODE_ERR.REJ_MASTER, RO, reset 0 (R64). -/
def SYS_MODE_ERR_REJ_MASTER : Fld := ⟨0x2000000108, 24, 8, 0, 0⟩
/-- SYS_MODE_ERR.REJ_CAUSE, RO, reset 0 (R64). -/
def SYS_MODE_ERR_REJ_CAUSE : Fld := ⟨0x2000000108, 16, 4, 0, 0⟩
/-- SYS_MODE_ERR.REJ_FROM, RO, reset 0 (R64). -/
def SYS_MODE_ERR_REJ_FROM : Fld := ⟨0x2000000108, 12, 4, 0, 0⟩
/-- SYS_MODE_ERR.REJ_TARGET, RO, reset 0 (R64). -/
def SYS_MODE_ERR_REJ_TARGET : Fld := ⟨0x2000000108, 8, 4, 0, 0⟩
/-- SYS_MODE_ERR.TIMEOUT, W1C, reset 0 (R64). -/
def SYS_MODE_ERR_TIMEOUT : Fld := ⟨0x2000000108, 2, 1, 0, 0⟩
/-- SYS_MODE_ERR.PREEMPT, W1C, reset 0 (R64). -/
def SYS_MODE_ERR_PREEMPT : Fld := ⟨0x2000000108, 1, 1, 0, 0⟩
/-- SYS_MODE_ERR.REJECT, W1C, reset 0 (R64). -/
def SYS_MODE_ERR_REJECT : Fld := ⟨0x2000000108, 0, 1, 0, 0⟩
/-- SYS_MODE_CTL.TRANS_TO, RW, reset 0xa (R65). -/
def SYS_MODE_CTL_TRANS_TO : Fld := ⟨0x200000010c, 16, 8, 0xa, 0⟩
/-- SYS_MODE_CTL.HALT_IE, RW, reset 0 (R65). -/
def SYS_MODE_CTL_HALT_IE : Fld := ⟨0x200000010c, 4, 1, 0, 0⟩
/-- SYS_MODE_CTL.LAYER_IE, RW, reset 0 (R65). -/
def SYS_MODE_CTL_LAYER_IE : Fld := ⟨0x200000010c, 3, 1, 0, 0⟩
/-- SYS_MODE_CTL.CHANGE_IE, RW, reset 0 (R65). -/
def SYS_MODE_CTL_CHANGE_IE : Fld := ⟨0x200000010c, 2, 1, 0, 0⟩
/-- SYS_MODE_CTL.FAB_HALT, RW, reset 0 (R65). -/
def SYS_MODE_CTL_FAB_HALT : Fld := ⟨0x200000010c, 1, 1, 0, 0⟩
/-- SYS_MODE_CTL.FAB_LAYER, RW, reset 0 (R65). -/
def SYS_MODE_CTL_FAB_LAYER : Fld := ⟨0x200000010c, 0, 1, 0, 0⟩
/-- SYS_MODE_EVT.HALTED, W1C, reset 0 (R66). -/
def SYS_MODE_EVT_HALTED : Fld := ⟨0x2000000110, 2, 1, 0, 0⟩
/-- SYS_MODE_EVT.LAYER, W1C, reset 0 (R66). -/
def SYS_MODE_EVT_LAYER : Fld := ⟨0x2000000110, 1, 1, 0, 0⟩
/-- SYS_MODE_EVT.CHANGED, W1C, reset 0 (R66). -/
def SYS_MODE_EVT_CHANGED : Fld := ⟨0x2000000110, 0, 1, 0, 0⟩
/-- SYS_MODE_CNT.TRANSITIONS, RO, reset 0 (R67). -/
def SYS_MODE_CNT_TRANSITIONS : Fld := ⟨0x2000000114, 16, 16, 0, 0⟩
/-- SYS_MODE_CNT.HALTS, RO, reset 0 (R67). -/
def SYS_MODE_CNT_HALTS : Fld := ⟨0x2000000114, 0, 16, 0, 0⟩
/-- SYS_RST_CFG.STRETCH, RW, reset 5 (R553). -/
def SYS_RST_CFG_STRETCH : Fld := ⟨0x2000000200, 12, 10, 5, 0⟩
/-- SYS_RST_CFG.SKZEN, RW, reset 1 (R553). -/
def SYS_RST_CFG_SKZEN : Fld := ⟨0x2000000200, 1, 1, 1, 0⟩
/-- SYS_RST_CFG.HOTRST, RW, reset 0 (R553). -/
def SYS_RST_CFG_HOTRST : Fld := ⟨0x2000000200, 0, 1, 0, 0⟩
/-- SYS_RST_CMD.CNTCLR, W1P, reset 0 (R553). -/
def SYS_RST_CMD_CNTCLR : Fld := ⟨0x2000000204, 1, 1, 0, 0⟩
/-- SYS_RST_CMD.WARM, W1P, reset 0 (R553). -/
def SYS_RST_CMD_WARM : Fld := ⟨0x2000000204, 0, 1, 0, 0⟩
/-- SYS_RST_CAUSE.LASTREACH, RO, reset 3 (R553). -/
def SYS_RST_CAUSE_LASTREACH : Fld := ⟨0x2000000208, 24, 2, 3, 0⟩
/-- SYS_RST_CAUSE.CAUSE, RO, reset 0x103 (R553). -/
def SYS_RST_CAUSE_CAUSE : Fld := ⟨0x2000000208, 0, 10, 0x103, 0⟩
/-- SYS_OPT.WDTON, RO, reset 0 (R553). -/
def SYS_OPT_WDTON : Fld := ⟨0x200000020c, 1, 1, 0, 0⟩
/-- SYS_OPT.RSTCNT, RO, reset 0 (R553). -/
def SYS_OPT_RSTCNT : Fld := ⟨0x200000020c, 0, 1, 0, 0⟩
/-- SYS_RST_CNT.COUNT, RO, reset 0 (R553). -/
def SYS_RST_CNT_COUNT (i : Nat) : Fld := ⟨0x2000000210 + 4 * i, 0, 16, 0, 0⟩
/-- SYS_BRST_0.BLOCKS, W1P, reset 0 (R554). -/
def SYS_BRST_0_BLOCKS : Fld := ⟨0x2000000240, 0, 24, 0, 0⟩
/-- SYS_BRST_1.BLOCKS, W1P, reset 0 (R554). -/
def SYS_BRST_1_BLOCKS : Fld := ⟨0x2000000244, 0, 24, 0, 0⟩
/-- SYS_BRST_2.BLOCKS, W1P, reset 0 (R554). -/
def SYS_BRST_2_BLOCKS : Fld := ⟨0x2000000248, 0, 24, 0, 0⟩
/-- SYS_BRST_3.BLOCKS, W1P, reset 0 (R554). -/
def SYS_BRST_3_BLOCKS : Fld := ⟨0x200000024c, 0, 24, 0, 0⟩
/-- SYS_BRST_4.BLOCKS, W1P, reset 0 (R554). -/
def SYS_BRST_4_BLOCKS : Fld := ⟨0x2000000250, 0, 15, 0, 0⟩
/-- SYS_WDT_CTL.EN, RW, reset 0 (R553). -/
def SYS_WDT_CTL_EN : Fld := ⟨0x2000000260, 31, 1, 0, 0⟩
/-- SYS_WDT_CTL.TIMEOUT, RW, reset 0x3e8 (R553). -/
def SYS_WDT_CTL_TIMEOUT : Fld := ⟨0x2000000260, 0, 16, 0x3e8, 0⟩
/-- SYS_WDT_KICK.KICK, W1P, reset 0 (R553). -/
def SYS_WDT_KICK_KICK : Fld := ⟨0x2000000264, 0, 1, 0, 0⟩
/-- SYS_WDT_STAT.REMAIN, RO, reset 0x3e8 (R553). -/
def SYS_WDT_STAT_REMAIN : Fld := ⟨0x2000000268, 0, 16, 0x3e8, 0⟩
/-- SYS_BALLMAP.CODE, RO, reset 0 (R553). -/
def SYS_BALLMAP_CODE (i : Nat) : Fld := ⟨0x2000000280 + 4 * i, 0, 3, 0, 0⟩
/-- SUP_CFG_0.WARN, RW, reset 0x28 (R555). -/
def SUP_CFG_0_WARN : Fld := ⟨0x2000000300, 20, 12, 0x28, 0⟩
/-- SUP_CFG_0.RST, RW, reset 0x258 (R555). -/
def SUP_CFG_0_RST : Fld := ⟨0x2000000300, 8, 12, 0x258, 0⟩
/-- SUP_CFG_0.HYST, RW, reset 0xa (R555). -/
def SUP_CFG_0_HYST : Fld := ⟨0x2000000300, 0, 8, 0xa, 0⟩
/-- SUP_CFG_1.WARN, RW, reset 0x2f8 (R555). -/
def SUP_CFG_1_WARN : Fld := ⟨0x2000000304, 20, 12, 0x2f8, 0⟩
/-- SUP_CFG_1.RST, RW, reset 0x2bc (R555). -/
def SUP_CFG_1_RST : Fld := ⟨0x2000000304, 8, 12, 0x2bc, 0⟩
/-- SUP_CFG_1.HYST, RW, reset 0xa (R555). -/
def SUP_CFG_1_HYST : Fld := ⟨0x2000000304, 0, 8, 0xa, 0⟩
/-- SUP_CFG_2.WARN, RW, reset 0x357 (R555). -/
def SUP_CFG_2_WARN : Fld := ⟨0x2000000308, 20, 12, 0x357, 0⟩
/-- SUP_CFG_2.RST, RW, reset 0x320 (R555). -/
def SUP_CFG_2_RST : Fld := ⟨0x2000000308, 8, 12, 0x320, 0⟩
/-- SUP_CFG_2.HYST, RW, reset 0xa (R555). -/
def SUP_CFG_2_HYST : Fld := ⟨0x2000000308, 0, 8, 0xa, 0⟩
/-- SUP_CFG_3.WARN, RW, reset 0x474 (R555). -/
def SUP_CFG_3_WARN : Fld := ⟨0x200000030c, 20, 12, 0x474, 0⟩
/-- SUP_CFG_3.RST, RW, reset 0x424 (R555). -/
def SUP_CFG_3_RST : Fld := ⟨0x200000030c, 8, 12, 0x424, 0⟩
/-- SUP_CFG_3.HYST, RW, reset 0xf (R555). -/
def SUP_CFG_3_HYST : Fld := ⟨0x200000030c, 0, 8, 0xf, 0⟩
/-- SUP_CFG_4.WARN, RW, reset 0x3e8 (R555). -/
def SUP_CFG_4_WARN : Fld := ⟨0x2000000310, 20, 12, 0x3e8, 0⟩
/-- SUP_CFG_4.RST, RW, reset 0x3ac (R555). -/
def SUP_CFG_4_RST : Fld := ⟨0x2000000310, 8, 12, 0x3ac, 0⟩
/-- SUP_CFG_4.HYST, RW, reset 0xf (R555). -/
def SUP_CFG_4_HYST : Fld := ⟨0x2000000310, 0, 8, 0xf, 0⟩
/-- SUP_CFG_5.WARN, RW, reset 0x6ae (R555). -/
def SUP_CFG_5_WARN : Fld := ⟨0x2000000314, 20, 12, 0x6ae, 0⟩
/-- SUP_CFG_5.RST, RW, reset 0x640 (R555). -/
def SUP_CFG_5_RST : Fld := ⟨0x2000000314, 8, 12, 0x640, 0⟩
/-- SUP_CFG_5.HYST, RW, reset 0x14 (R555). -/
def SUP_CFG_5_HYST : Fld := ⟨0x2000000314, 0, 8, 0x14, 0⟩
/-- SUP_CFG_6.WARN, RW, reset 0xc3f (R555). -/
def SUP_CFG_6_WARN : Fld := ⟨0x2000000318, 20, 12, 0xc3f, 0⟩
/-- SUP_CFG_6.RST, RW, reset 0xb86 (R555). -/
def SUP_CFG_6_RST : Fld := ⟨0x2000000318, 8, 12, 0xb86, 0⟩
/-- SUP_CFG_6.HYST, RW, reset 0x1e (R555). -/
def SUP_CFG_6_HYST : Fld := ⟨0x2000000318, 0, 8, 0x1e, 0⟩
/-- SUP_CFG_7.WARN, RW, reset 0x960 (R555). -/
def SUP_CFG_7_WARN : Fld := ⟨0x200000031c, 20, 12, 0x960, 0⟩
/-- SUP_CFG_7.RST, RW, reset 0 (R555). -/
def SUP_CFG_7_RST : Fld := ⟨0x200000031c, 8, 12, 0, 0⟩
/-- SUP_CFG_7.HYST, RW, reset 0x1e (R555). -/
def SUP_CFG_7_HYST : Fld := ⟨0x200000031c, 0, 8, 0x1e, 0⟩
/-- SUP_STAT.VBAKLOW, W1C, reset 0 (R555). -/
def SUP_STAT_VBAKLOW : Fld := ⟨0x2000000320, 26, 1, 0, 0⟩
/-- SUP_STAT.RESERR, W1C, reset 0 (R555). -/
def SUP_STAT_RESERR : Fld := ⟨0x2000000320, 25, 1, 0, 0⟩
/-- SUP_STAT.RECOV, RO, reset 0 (R555). -/
def SUP_STAT_RECOV : Fld := ⟨0x2000000320, 16, 8, 0, 0⟩
/-- SUP_STAT.DIP, W1C, reset 0 (R555). -/
def SUP_STAT_DIP : Fld := ⟨0x2000000320, 8, 8, 0, 0⟩
/-- SUP_STAT.BELOW, RO, reset 0 (R555). -/
def SUP_STAT_BELOW : Fld := ⟨0x2000000320, 0, 8, 0, 0⟩
/-- SUP_CMD.RESUME, W1P, reset 0 (R555). -/
def SUP_CMD_RESUME : Fld := ⟨0x2000000324, 0, 1, 0, 0⟩
/-- SUP_MIN.GLITCH, RC, reset 0 (R555). -/
def SUP_MIN_GLITCH (i : Nat) : Fld := ⟨0x2000000340 + 4 * i, 16, 16, 0, 0⟩
/-- SUP_MIN.MIN, RC, reset 0xfff (R555). -/
def SUP_MIN_MIN (i : Nat) : Fld := ⟨0x2000000340 + 4 * i, 0, 12, 0xfff, 0⟩
/-- AVS_CTL.EN, RW, reset 0 (R555). -/
def AVS_CTL_EN : Fld := ⟨0x2000000380, 31, 1, 0, 0⟩
/-- AVS_CTL.FREEZEEXP, RW, reset 0 (R555). -/
def AVS_CTL_FREEZEEXP : Fld := ⟨0x2000000380, 30, 1, 0, 0⟩
/-- AVS_CTL.VMAX, RW, reset 0x28 (R555). -/
def AVS_CTL_VMAX : Fld := ⟨0x2000000380, 16, 6, 0x28, 0⟩
/-- AVS_CTL.VMIN, RW, reset 0 (R555). -/
def AVS_CTL_VMIN : Fld := ⟨0x2000000380, 8, 6, 0, 0⟩
/-- AVS_STAT.AVSERR, W1C, reset 0 (R555). -/
def AVS_STAT_AVSERR : Fld := ⟨0x2000000384, 31, 1, 0, 0⟩
/-- AVS_STAT.VSET, RO, reset 0x1e (R555). -/
def AVS_STAT_VSET : Fld := ⟨0x2000000384, 0, 6, 0x1e, 0⟩
/-- AVS_SLK.SLKHI, RW, reset 0x64 (R555). -/
def AVS_SLK_SLKHI : Fld := ⟨0x2000000388, 16, 16, 0x64, 0⟩
/-- AVS_SLK.SLKLO, RW, reset 0x19 (R555). -/
def AVS_SLK_SLKLO : Fld := ⟨0x2000000388, 0, 16, 0x19, 0⟩
/-- AVS_SLACK.LAST, RO, reset 0 (R555). -/
def AVS_SLACK_LAST : Fld := ⟨0x200000038c, 0, 16, 0, 0⟩
/-- SYS_LP_WAKE.ENABLES, RW, reset 0x3f (R556). -/
def SYS_LP_WAKE_ENABLES : Fld := ⟨0x2000000400, 0, 6, 0x3f, 0⟩
/-- SYS_LP_TIMER.AON, RW, reset 0 (R556). -/
def SYS_LP_TIMER_AON : Fld := ⟨0x2000000404, 0, 32, 0, 0⟩
/-- SYS_LP_STAT.LASTSTATE, RO, reset 0 (R556). -/
def SYS_LP_STAT_LASTSTATE : Fld := ⟨0x2000000408, 8, 3, 0, 0⟩
/-- SYS_LP_STAT.WAKESRC, RO, reset 0 (R556). -/
def SYS_LP_STAT_WAKESRC : Fld := ⟨0x2000000408, 4, 4, 0, 0⟩
/-- SYS_LP_STAT.ABORTED, W1C, reset 0 (R556). -/
def SYS_LP_STAT_ABORTED : Fld := ⟨0x2000000408, 0, 1, 0, 0⟩
/-- SYS_TEMP.PEAK, RC, reset 0x8000 (R631). -/
def SYS_TEMP_PEAK (i : Nat) : Fld := ⟨0x2000000410 + 4 * i, 16, 16, 0x8000, 0⟩
/-- SYS_TEMP.T, RO, reset 0 (R631). -/
def SYS_TEMP_T (i : Nat) : Fld := ⟨0x2000000410 + 4 * i, 0, 16, 0, 0⟩
/-- SYS_HOURS.OPERATING, RW, reset 0 (R556). -/
def SYS_HOURS_OPERATING : Fld := ⟨0x2000000500, 0, 32, 0, 0⟩
/-- SYS_HSEC.SECONDS, RW, reset 0 (R556). -/
def SYS_HSEC_SECONDS : Fld := ⟨0x2000000504, 0, 12, 0, 0⟩
/-- SYS_BKP.DATA, RW, reset 0 (R556). -/
def SYS_BKP_DATA (i : Nat) : Fld := ⟨0x2000000510 + 4 * i, 0, 32, 0, 0⟩
/-- SYS_BOOT_CTL.GO, W1P, reset 0 (R613). -/
def SYS_BOOT_CTL_GO : Fld := ⟨0x2000000600, 0, 1, 0, 0⟩
/-- SYS_BOOT_STAT.USED, RO, reset 0 (R613). -/
def SYS_BOOT_STAT_USED : Fld := ⟨0x2000000604, 12, 2, 0, 0⟩
/-- SYS_BOOT_STAT.ERRCODE, RO, reset 0 (R613). -/
def SYS_BOOT_STAT_ERRCODE : Fld := ⟨0x2000000604, 8, 4, 0, 0⟩
/-- SYS_BOOT_STAT.BOOTERR, W1C, reset 0 (R613). -/
def SYS_BOOT_STAT_BOOTERR : Fld := ⟨0x2000000604, 2, 1, 0, 0⟩
/-- SYS_BOOT_STAT.BOOTSRC, RO, reset 0 (R613). -/
def SYS_BOOT_STAT_BOOTSRC : Fld := ⟨0x2000000604, 30, 2, 0, 0⟩
/-- SYS_BOOT_STAT.WAITHOST, RO, reset 0 (R613). -/
def SYS_BOOT_STAT_WAITHOST : Fld := ⟨0x2000000604, 3, 1, 0, 0⟩
/-- SYS_BOOT_STAT.RUNNING, RO, reset 0 (R613). -/
def SYS_BOOT_STAT_RUNNING : Fld := ⟨0x2000000604, 1, 1, 0, 0⟩
/-- SYS_BOOT_HDR_LO.ADDR, RW, reset 0 (R613). -/
def SYS_BOOT_HDR_LO_ADDR : Fld := ⟨0x2000000608, 3, 29, 0, 0⟩
/-- SYS_BOOT_HDR_HI.ADDR, RW, reset 0 (R613). -/
def SYS_BOOT_HDR_HI_ADDR : Fld := ⟨0x200000060c, 0, 8, 0, 0⟩
/-- SYS_CORE_CTL.RUN, W1P, reset 0 (R613). -/
def SYS_CORE_CTL_RUN : Fld := ⟨0x2000000610, 1, 3, 0, 0⟩
/-- SYS_CORE_ENTRY_LO.ADDR, RW, reset 0 (R613). -/
def SYS_CORE_ENTRY_LO_ADDR : Fld := ⟨0x2000000614, 3, 29, 0, 0⟩
/-- SYS_CORE_ENTRY_HI.ADDR, RW, reset 0 (R613). -/
def SYS_CORE_ENTRY_HI_ADDR : Fld := ⟨0x2000000618, 0, 8, 0, 0⟩
/-- SYS_CIE_LO.EN, RW, reset 0 (R613). -/
def SYS_CIE_LO_EN (i : Nat) : Fld := ⟨0x2000000700 + 8 * i, 0, 32, 0, 0⟩
/-- SYS_CIE_HI.EN, RW, reset 0 (R613). -/
def SYS_CIE_HI_EN (i : Nat) : Fld := ⟨0x2000000704 + 8 * i, 0, 32, 0, 0⟩
/-- SYS_CIP_LO.ACT, RO, reset 0 (R613). -/
def SYS_CIP_LO_ACT : Fld := ⟨0x2000000720, 0, 32, 0, 0⟩
/-- SYS_CIP_HI.ACT, RO, reset 0 (R613). -/
def SYS_CIP_HI_ACT : Fld := ⟨0x2000000724, 0, 32, 0, 0⟩

/-- Rows 0 to 15 of the fault collector register table. -/
def fltRows0 : List RegRow := [
  ⟨0, 1, 0, 1, 0, [⟨16, 8, .rw, 0xa, .c⟩]⟩,
  ⟨4, 1, 0, 1, 0, [⟨3, 1, .w1c, 0, .c⟩, ⟨2, 1, .w1c, 0, .c⟩, ⟨0, 1, .ro, 0, .c⟩]⟩,
  ⟨8, 1, 0, 1, 0, [⟨31, 1, .ro, 1, .c⟩, ⟨16, 10, .ro, 0x201, .c⟩, ⟨9, 1, .w1c, 0, .c⟩, ⟨1, 1, .w1p, 0, .c⟩, ⟨0, 1, .w1p, 0, .c⟩]⟩,
  ⟨0x10, 1, 0, 1, 0, [⟨0, 9, .ro, 0, .c⟩, ⟨31, 1, .ro, 0, .c⟩, ⟨30, 1, .ro, 0, .c⟩, ⟨29, 1, .ro, 0, .c⟩, ⟨28, 1, .ro, 0, .c⟩]⟩,
  ⟨0x14, 1, 0, 1, 0, [⟨0, 32, .ro, 0, .c⟩]⟩,
  ⟨0x18, 1, 0, 1, 0, [⟨0, 16, .ro, 0, .c⟩]⟩,
  ⟨0x1c, 1, 0, 1, 0, [⟨0, 32, .ro, 0, .c⟩]⟩,
  ⟨0x20, 1, 0, 1, 0, [⟨0, 16, .ro, 0, .c⟩]⟩,
  ⟨0x24, 1, 0, 1, 0, [⟨0, 1, .w1p, 0, .c⟩]⟩,
  ⟨0x30, 1, 0, 1, 0, [⟨31, 1, .w1p, 0, .c⟩, ⟨30, 1, .w1p, 0, .c⟩, ⟨24, 2, .rw, 1, .c⟩, ⟨20, 1, .rw, 0, .c⟩, ⟨0, 9, .rw, 0, .c⟩]⟩,
  ⟨0x34, 1, 0, 1, 0, [⟨3, 1, .w1c, 0, .c⟩, ⟨2, 1, .w1c, 0, .c⟩, ⟨1, 1, .ro, 0, .c⟩]⟩,
  ⟨0x40, 1, 0, 1, 0, [⟨0, 16, .rc, 0, .c⟩]⟩,
  ⟨0x44, 1, 0, 1, 0, [⟨24, 2, .ro, 0, .c⟩, ⟨0, 8, .ro, 0, .c⟩]⟩,
  ⟨0x100, 16, 4, 1, 0, [⟨0, 32, .ro, 0, .c⟩]⟩,
  ⟨0x140, 16, 4, 1, 0, [⟨0, 32, .w1c, 0, .c⟩]⟩,
  ⟨0x1000, 512, 4, 1, 0, [⟨31, 1, .ro, 0, .n⟩, ⟨29, 1, .rw, 0, .c⟩, ⟨28, 1, .rw, 0, .c⟩, ⟨27, 1, .rw, 0, .c⟩, ⟨26, 1, .rw, 0, .c⟩, ⟨25, 1, .rw, 0, .c⟩, ⟨24, 1, .rw, 0, .c⟩, ⟨20, 2, .rw, 1, .c⟩, ⟨17, 1, .rw, 0, .c⟩, ⟨16, 1, .rw, 1, .c⟩, ⟨0, 6, .rw, 0, .c⟩]⟩]

/-- The fault collector block's window (R25): base, units, bytes per unit, offset of the in-force copies (0: none), rows. -/
def fltMap : BlockMap := ⟨0x2000e00000, 1, 0x100000, 0, fltRows0⟩

/-- FLT_CTL.ESCWIN, RW, reset 0xa (R588). -/
def FLT_CTL_ESCWIN : Fld := ⟨0x2000e00000, 16, 8, 0xa, 0⟩
/-- FLT_STAT.OVF, W1C, reset 0 (R588). -/
def FLT_STAT_OVF : Fld := ⟨0x2000e00004, 3, 1, 0, 0⟩
/-- FLT_STAT.ESCAL, W1C, reset 0 (R588). -/
def FLT_STAT_ESCAL : Fld := ⟨0x2000e00004, 2, 1, 0, 0⟩
/-- FLT_STAT.CAPVALID, RO, reset 0 (R588). -/
def FLT_STAT_CAPVALID : Fld := ⟨0x2000e00004, 0, 1, 0, 0⟩
/-- FLT_HACK.STATE, RO, reset 1 (R588). -/
def FLT_HACK_STATE : Fld := ⟨0x2000e00008, 31, 1, 1, 0⟩
/-- FLT_HACK.CAUSE, RO, reset 0x201 (R588). -/
def FLT_HACK_CAUSE : Fld := ⟨0x2000e00008, 16, 10, 0x201, 0⟩
/-- FLT_HACK.RELREF, W1C, reset 0 (R588). -/
def FLT_HACK_RELREF : Fld := ⟨0x2000e00008, 9, 1, 0, 0⟩
/-- FLT_HACK.RELEASE, W1P, reset 0 (R588). -/
def FLT_HACK_RELEASE : Fld := ⟨0x2000e00008, 1, 1, 0, 0⟩
/-- FLT_HACK.ASSERT, W1P, reset 0 (R588). -/
def FLT_HACK_ASSERT : Fld := ⟨0x2000e00008, 0, 1, 0, 0⟩
/-- FLT_CAP_SRC.SOURCE, RO, reset 0 (R588). -/
def FLT_CAP_SRC_SOURCE : Fld := ⟨0x2000e00010, 0, 9, 0, 0⟩
/-- FLT_CAP_SRC.VALID, RO, reset 0 (R588). -/
def FLT_CAP_SRC_VALID : Fld := ⟨0x2000e00010, 31, 1, 0, 0⟩
/-- FLT_CAP_SRC.RAIL, RO, reset 0 (R588). -/
def FLT_CAP_SRC_RAIL : Fld := ⟨0x2000e00010, 30, 1, 0, 0⟩
/-- FLT_CAP_SRC.INJ, RO, reset 0 (R588). -/
def FLT_CAP_SRC_INJ : Fld := ⟨0x2000e00010, 29, 1, 0, 0⟩
/-- FLT_CAP_SRC.PERSIST, RO, reset 0 (R588). -/
def FLT_CAP_SRC_PERSIST : Fld := ⟨0x2000e00010, 28, 1, 0, 0⟩
/-- FLT_CAP_BEAT_LO.BEAT, RO, reset 0 (R588). -/
def FLT_CAP_BEAT_LO_BEAT : Fld := ⟨0x2000e00014, 0, 32, 0, 0⟩
/-- FLT_CAP_BEAT_HI.BEAT, RO, reset 0 (R588). -/
def FLT_CAP_BEAT_HI_BEAT : Fld := ⟨0x2000e00018, 0, 16, 0, 0⟩
/-- FLT_CAP_DETAIL.DETAIL, RO, reset 0 (R588). -/
def FLT_CAP_DETAIL_DETAIL : Fld := ⟨0x2000e0001c, 0, 32, 0, 0⟩
/-- FLT_CAP_CNT.COUNT, RO, reset 0 (R588). -/
def FLT_CAP_CNT_COUNT : Fld := ⟨0x2000e00020, 0, 16, 0, 0⟩
/-- FLT_CAP_CLR.CLR, W1P, reset 0 (R588). -/
def FLT_CAP_CLR_CLR : Fld := ⟨0x2000e00024, 0, 1, 0, 0⟩
/-- FLT_INJ.ARM, W1P, reset 0 (R588). -/
def FLT_INJ_ARM : Fld := ⟨0x2000e00030, 31, 1, 0, 0⟩
/-- FLT_INJ.DISARM, W1P, reset 0 (R588). -/
def FLT_INJ_DISARM : Fld := ⟨0x2000e00030, 30, 1, 0, 0⟩
/-- FLT_INJ.MODE, RW, reset 1 (R588). -/
def FLT_INJ_MODE : Fld := ⟨0x2000e00030, 24, 2, 1, 0⟩
/-- FLT_INJ.REACT, RW, reset 0 (R588). -/
def FLT_INJ_REACT : Fld := ⟨0x2000e00030, 20, 1, 0, 0⟩
/-- FLT_INJ.SOURCE, RW, reset 0 (R588). -/
def FLT_INJ_SOURCE : Fld := ⟨0x2000e00030, 0, 9, 0, 0⟩
/-- FLT_INJ_STAT.PERSISTED, W1C, reset 0 (R588). -/
def FLT_INJ_STAT_PERSISTED : Fld := ⟨0x2000e00034, 3, 1, 0, 0⟩
/-- FLT_INJ_STAT.REFUSED, W1C, reset 0 (R588). -/
def FLT_INJ_STAT_REFUSED : Fld := ⟨0x2000e00034, 2, 1, 0, 0⟩
/-- FLT_INJ_STAT.ARMED, RO, reset 0 (R588). -/
def FLT_INJ_STAT_ARMED : Fld := ⟨0x2000e00034, 1, 1, 0, 0⟩
/-- FLT_SUPCNT.COUNT, RC, reset 0 (R588). -/
def FLT_SUPCNT_COUNT : Fld := ⟨0x2000e00040, 0, 16, 0, 0⟩
/-- FLT_BRLAST.FAILS, RO, reset 0 (R588). -/
def FLT_BRLAST_FAILS : Fld := ⟨0x2000e00044, 24, 2, 0, 0⟩
/-- FLT_BRLAST.BLOCK, RO, reset 0 (R588). -/
def FLT_BRLAST_BLOCK : Fld := ⟨0x2000e00044, 0, 8, 0, 0⟩
/-- FLT_ACT.SOURCE, RO, reset 0 (R588). -/
def FLT_ACT_SOURCE (i : Nat) : Fld := ⟨0x2000e00100 + 4 * i, 0, 32, 0, 0⟩
/-- FLT_PEND.SOURCE, W1C, reset 0 (R588). -/
def FLT_PEND_SOURCE (i : Nat) : Fld := ⟨0x2000e00140 + 4 * i, 0, 32, 0, 0⟩

/-- Rows 0 to 8 of the chronograph register table. -/
def chrRows0 : List RegRow := [
  ⟨0, 1, 0, 1, 0, [⟨31, 1, .rw, 1, .k⟩, ⟨30, 1, .rw, 1, .k⟩, ⟨16, 4, .rw, 0xc, .k⟩]⟩,
  ⟨4, 1, 0, 1, 0, [⟨4, 1, .ro, 0, .k⟩, ⟨3, 1, .w1c, 0, .k⟩, ⟨2, 1, .w1c, 0, .k⟩, ⟨0, 1, .ro, 0, .k⟩, ⟨31, 1, .ro, 0, .n⟩]⟩,
  ⟨8, 1, 0, 1, 0, [⟨0, 16, .ro, 0, .n⟩]⟩,
  ⟨0xc, 1, 0, 1, 0, [⟨0, 32, .ro, 0, .n⟩]⟩,
  ⟨0x10, 1, 0, 1, 0, [⟨16, 16, .rc, 0, .k⟩, ⟨0, 16, .rc, 0, .k⟩]⟩,
  ⟨0x14, 1, 0, 1, 0, [⟨0, 17, .ro, 0x10000, .k⟩]⟩,
  ⟨0x18, 1, 0, 1, 0, [⟨31, 1, .w1p, 0, .k⟩, ⟨8, 2, .rw, 0, .k⟩, ⟨0, 8, .rw, 0, .k⟩]⟩,
  ⟨0x1c, 1, 0, 1, 0, [⟨24, 6, .rw, 0, .k⟩, ⟨16, 6, .rw, 0, .k⟩, ⟨8, 6, .rw, 0, .k⟩, ⟨0, 6, .rw, 0, .k⟩]⟩,
  ⟨0x1000, 64, 0x20, 8, 4, [⟨31, 1, .rw, 0, .k⟩, ⟨2, 23, .rw, 0, .k⟩]⟩]

/-- The chronograph block's window (R25): base, units, bytes per unit, offset of the in-force copies (0: none), rows. -/
def chrMap : BlockMap := ⟨0x2000f00000, 1, 0x100000, 0, chrRows0⟩

/-- CHR_CTL.EN, RW, reset 1 (R591). -/
def CHR_CTL_EN : Fld := ⟨0x2000f00000, 31, 1, 1, 0⟩
/-- CHR_CTL.PROTECT, RW, reset 1 (R591). -/
def CHR_CTL_PROTECT : Fld := ⟨0x2000f00000, 30, 1, 1, 0⟩
/-- CHR_CTL.BANK0, RW, reset 0xc (R591). -/
def CHR_CTL_BANK0 : Fld := ⟨0x2000f00000, 16, 4, 0xc, 0⟩
/-- CHR_STAT.NOSPACE, RO, reset 0 (R591). -/
def CHR_STAT_NOSPACE : Fld := ⟨0x2000f00004, 4, 1, 0, 0⟩
/-- CHR_STAT.QOVF, W1C, reset 0 (R591). -/
def CHR_STAT_QOVF : Fld := ⟨0x2000f00004, 3, 1, 0, 0⟩
/-- CHR_STAT.SEVDROP, W1C, reset 0 (R591). -/
def CHR_STAT_SEVDROP : Fld := ⟨0x2000f00004, 2, 1, 0, 0⟩
/-- CHR_STAT.BUSY, RO, reset 0 (R591). -/
def CHR_STAT_BUSY : Fld := ⟨0x2000f00004, 0, 1, 0, 0⟩
/-- CHR_STAT.WRAPPED, RO, reset 0 (R591). -/
def CHR_STAT_WRAPPED : Fld := ⟨0x2000f00004, 31, 1, 0, 0⟩
/-- CHR_WPTR.SLOT, RO, reset 0 (R591). -/
def CHR_WPTR_SLOT : Fld := ⟨0x2000f00008, 0, 16, 0, 0⟩
/-- CHR_SEQ.SEQ, RO, reset 0 (R591). -/
def CHR_SEQ_SEQ : Fld := ⟨0x2000f0000c, 0, 32, 0, 0⟩
/-- CHR_DROP.QDROP, RC, reset 0 (R591). -/
def CHR_DROP_QDROP : Fld := ⟨0x2000f00010, 16, 16, 0, 0⟩
/-- CHR_DROP.SEVDROP, RC, reset 0 (R591). -/
def CHR_DROP_SEVDROP : Fld := ⟨0x2000f00010, 0, 16, 0, 0⟩
/-- CHR_USABLE.USABLE, RO, reset 0x10000 (R591). -/
def CHR_USABLE_USABLE : Fld := ⟨0x2000f00014, 0, 17, 0x10000, 0⟩
/-- CHR_SWREC.GO, W1P, reset 0 (R591). -/
def CHR_SWREC_GO : Fld := ⟨0x2000f00018, 31, 1, 0, 0⟩
/-- CHR_SWREC.SEV, RW, reset 0 (R591). -/
def CHR_SWREC_SEV : Fld := ⟨0x2000f00018, 8, 2, 0, 0⟩
/-- CHR_SWREC.CODE, RW, reset 0 (R591). -/
def CHR_SWREC_CODE : Fld := ⟨0x2000f00018, 0, 8, 0, 0⟩
/-- CHR_TSET.SW, RW, reset 0 (R591). -/
def CHR_TSET_SW : Fld := ⟨0x2000f0001c, 24, 6, 0, 0⟩
/-- CHR_TSET.SPLIT, RW, reset 0 (R591). -/
def CHR_TSET_SPLIT : Fld := ⟨0x2000f0001c, 16, 6, 0, 0⟩
/-- CHR_TSET.RESET, RW, reset 0 (R591). -/
def CHR_TSET_RESET : Fld := ⟨0x2000f0001c, 8, 6, 0, 0⟩
/-- CHR_TSET.MODE, RW, reset 0 (R591). -/
def CHR_TSET_MODE : Fld := ⟨0x2000f0001c, 0, 6, 0, 0⟩
/-- CHR_SET.VALID, RW, reset 0 (R591). -/
def CHR_SET_VALID (i j : Nat) : Fld := ⟨0x2000f01000 + 0x20 * i + 4 * j, 31, 1, 0, 0⟩
/-- CHR_SET.OFFSET, RW, reset 0 (R591). -/
def CHR_SET_OFFSET (i j : Nat) : Fld := ⟨0x2000f01000 + 0x20 * i + 4 * j, 2, 23, 0, 0⟩

/-- Rows 0 to 6 of the NV store register table. -/
def nvsRows0 : List RegRow := [
  ⟨0, 1, 0, 1, 0, [⟨0, 5, .rw, 0, .k⟩]⟩,
  ⟨4, 1, 0, 1, 0, [⟨1, 1, .w1c, 0, .k⟩, ⟨0, 1, .w1c, 0, .k⟩]⟩,
  ⟨8, 1, 0, 1, 0, [⟨0, 16, .ro, 0, .n⟩]⟩,
  ⟨0xc, 1, 0, 1, 0, [⟨0, 24, .ro, 0, .n⟩]⟩,
  ⟨0x10, 1, 0, 1, 0, [⟨16, 16, .rc, 0, .k⟩, ⟨0, 16, .rc, 0, .k⟩]⟩,
  ⟨0x14, 1, 0, 1, 0, [⟨0, 16, .rc, 0, .k⟩]⟩,
  ⟨0x40, 16, 4, 1, 0, [⟨0, 7, .ro, 0, .n⟩]⟩]

/-- The NV store block's window (R25): base, units, bytes per unit, offset of the in-force copies (0: none), rows. -/
def nvsMap : BlockMap := ⟨0x2001000000, 1, 0x100000, 0, nvsRows0⟩

/-- NV_PAGE.PAGE, RW, reset 0 (R590). -/
def NV_PAGE_PAGE : Fld := ⟨0x2001000000, 0, 5, 0, 0⟩
/-- NV_STAT.UNCORR, W1C, reset 0 (R590). -/
def NV_STAT_UNCORR : Fld := ⟨0x2001000004, 1, 1, 0, 0⟩
/-- NV_STAT.WERR, W1C, reset 0 (R590). -/
def NV_STAT_WERR : Fld := ⟨0x2001000004, 0, 1, 0, 0⟩
/-- NV_WORN.WORN, RO, reset 0 (R590). -/
def NV_WORN_WORN : Fld := ⟨0x2001000008, 0, 16, 0, 0⟩
/-- NV_PWRCYC.COUNT, RO, reset 0 (R590). -/
def NV_PWRCYC_COUNT : Fld := ⟨0x200100000c, 0, 24, 0, 0⟩
/-- NV_ECCCNT.CORR, RC, reset 0 (R590). -/
def NV_ECCCNT_CORR : Fld := ⟨0x2001000010, 16, 16, 0, 0⟩
/-- NV_ECCCNT.UNCORR, RC, reset 0 (R590). -/
def NV_ECCCNT_UNCORR : Fld := ⟨0x2001000010, 0, 16, 0, 0⟩
/-- NV_WERRCNT.COUNT, RC, reset 0 (R590). -/
def NV_WERRCNT_COUNT : Fld := ⟨0x2001000014, 0, 16, 0, 0⟩
/-- NV_SPARE.USED, RO, reset 0 (R590). -/
def NV_SPARE_USED (i : Nat) : Fld := ⟨0x2001000040 + 4 * i, 0, 7, 0, 0⟩

/-- Rows 0 to 11 of the host port register table. -/
def hostRows0 : List RegRow := [
  ⟨0, 1, 0, 1, 0, [⟨0, 1, .ro, 0, .k⟩, ⟨16, 3, .ro, 0, .k⟩, ⟨8, 5, .ro, 0, .k⟩]⟩,
  ⟨4, 1, 0, 1, 0, [⟨0, 8, .rw, 0, .k⟩]⟩,
  ⟨8, 1, 0, 1, 0, [⟨0, 32, .ro, 0, .k⟩]⟩,
  ⟨0xc, 1, 0, 1, 0, [⟨0, 8, .ro, 0, .k⟩]⟩,
  ⟨0x10, 1, 0, 1, 0, [⟨0, 16, .rc, 0, .k⟩]⟩,
  ⟨0x100, 4, 0x20, 1, 0, [⟨0, 1, .rw, 0, .k⟩, ⟨31, 1, .w1p, 0, .k⟩, ⟨30, 1, .w1p, 0, .k⟩]⟩,
  ⟨0x104, 4, 0x20, 1, 0, [⟨0, 32, .rw, 0, .k⟩]⟩,
  ⟨0x108, 4, 0x20, 1, 0, [⟨0, 32, .rw, 0, .k⟩]⟩,
  ⟨0x10c, 4, 0x20, 1, 0, [⟨0, 32, .rw, 0, .k⟩]⟩,
  ⟨0x110, 4, 0x20, 1, 0, [⟨0, 8, .rw, 0, .k⟩]⟩,
  ⟨0x114, 4, 0x20, 1, 0, [⟨0, 24, .rw, 0, .k⟩]⟩,
  ⟨0x118, 4, 0x20, 1, 0, [⟨0, 1, .ro, 0, .k⟩, ⟨4, 1, .w1c, 0, .k⟩, ⟨3, 1, .w1c, 0, .k⟩, ⟨2, 1, .w1c, 0, .k⟩, ⟨1, 1, .w1c, 0, .k⟩]⟩]

/-- The host port block's window (R25): base, units, bytes per unit, offset of the in-force copies (0: none), rows. -/
def hostMap : BlockMap := ⟨0x2001100000, 1, 0x100000, 0, hostRows0⟩

/-- HP_STAT.LINKUP, RO, reset 0 (R611). -/
def HP_STAT_LINKUP : Fld := ⟨0x2001100000, 0, 1, 0, 0⟩
/-- HP_STAT.SPEED, RO, reset 0 (R611). -/
def HP_STAT_SPEED : Fld := ⟨0x2001100000, 16, 3, 0, 0⟩
/-- HP_STAT.WIDTH, RO, reset 0 (R611). -/
def HP_STAT_WIDTH : Fld := ⟨0x2001100000, 8, 5, 0, 0⟩
/-- HP_WIN.BASE, RW, reset 0 (R611). -/
def HP_WIN_BASE : Fld := ⟨0x2001100004, 0, 8, 0, 0⟩
/-- HP_ERRLOG_LO.ADDR, RO, reset 0 (R611). -/
def HP_ERRLOG_LO_ADDR : Fld := ⟨0x2001100008, 0, 32, 0, 0⟩
/-- HP_ERRLOG_HI.ADDR, RO, reset 0 (R611). -/
def HP_ERRLOG_HI_ADDR : Fld := ⟨0x200110000c, 0, 8, 0, 0⟩
/-- HP_ERRCNT.COUNT, RC, reset 0 (R611). -/
def HP_ERRCNT_COUNT : Fld := ⟨0x2001100010, 0, 16, 0, 0⟩
/-- HP_DMA_CTL.DIR, RW, reset 0 (R611). -/
def HP_DMA_CTL_DIR (i : Nat) : Fld := ⟨0x2001100100 + 0x20 * i, 0, 1, 0, 0⟩
/-- HP_DMA_CTL.GO, W1P, reset 0 (R611). -/
def HP_DMA_CTL_GO (i : Nat) : Fld := ⟨0x2001100100 + 0x20 * i, 31, 1, 0, 0⟩
/-- HP_DMA_CTL.STOP, W1P, reset 0 (R611). -/
def HP_DMA_CTL_STOP (i : Nat) : Fld := ⟨0x2001100100 + 0x20 * i, 30, 1, 0, 0⟩
/-- HP_DMA_HADDR_LO.ADDR, RW, reset 0 (R611). -/
def HP_DMA_HADDR_LO_ADDR (i : Nat) : Fld := ⟨0x2001100104 + 0x20 * i, 0, 32, 0, 0⟩
/-- HP_DMA_HADDR_HI.ADDR, RW, reset 0 (R611). -/
def HP_DMA_HADDR_HI_ADDR (i : Nat) : Fld := ⟨0x2001100108 + 0x20 * i, 0, 32, 0, 0⟩
/-- HP_DMA_TADDR_LO.ADDR, RW, reset 0 (R611). -/
def HP_DMA_TADDR_LO_ADDR (i : Nat) : Fld := ⟨0x200110010c + 0x20 * i, 0, 32, 0, 0⟩
/-- HP_DMA_TADDR_HI.ADDR, RW, reset 0 (R611). -/
def HP_DMA_TADDR_HI_ADDR (i : Nat) : Fld := ⟨0x2001100110 + 0x20 * i, 0, 8, 0, 0⟩
/-- HP_DMA_LEN.VALUE, RW, reset 0 (R611). -/
def HP_DMA_LEN_VALUE (i : Nat) : Fld := ⟨0x2001100114 + 0x20 * i, 0, 24, 0, 0⟩
/-- HP_DMA_STAT.BUSY, RO, reset 0 (R611). -/
def HP_DMA_STAT_BUSY (i : Nat) : Fld := ⟨0x2001100118 + 0x20 * i, 0, 1, 0, 0⟩
/-- HP_DMA_STAT.CMDERR, W1C, reset 0 (R611). -/
def HP_DMA_STAT_CMDERR (i : Nat) : Fld := ⟨0x2001100118 + 0x20 * i, 4, 1, 0, 0⟩
/-- HP_DMA_STAT.ERR, W1C, reset 0 (R611). -/
def HP_DMA_STAT_ERR (i : Nat) : Fld := ⟨0x2001100118 + 0x20 * i, 3, 1, 0, 0⟩
/-- HP_DMA_STAT.ABORT, W1C, reset 0 (R611). -/
def HP_DMA_STAT_ABORT (i : Nat) : Fld := ⟨0x2001100118 + 0x20 * i, 2, 1, 0, 0⟩
/-- HP_DMA_STAT.DONE, W1C, reset 0 (R611). -/
def HP_DMA_STAT_DONE (i : Nat) : Fld := ⟨0x2001100118 + 0x20 * i, 1, 1, 0, 0⟩

/-- Rows 0 to 4 of the DRAM controller register table. -/
def drcRows0 : List RegRow := [
  ⟨0, 1, 0, 1, 0, [⟨1, 1, .rw, 0, .c⟩, ⟨0, 1, .rw, 1, .c⟩]⟩,
  ⟨4, 1, 0, 1, 0, [⟨8, 2, .ro, 0, .k⟩, ⟨4, 1, .w1c, 0, .k⟩, ⟨3, 1, .w1c, 0, .k⟩, ⟨2, 1, .ro, 0, .k⟩, ⟨1, 1, .ro, 0, .k⟩, ⟨0, 1, .ro, 0, .k⟩]⟩,
  ⟨8, 1, 0, 1, 0, [⟨16, 16, .rc, 0, .k⟩, ⟨0, 16, .rc, 0, .k⟩]⟩,
  ⟨0xc, 1, 0, 1, 0, [⟨0, 32, .ro, 0, .k⟩]⟩,
  ⟨0x10, 1, 0, 1, 0, [⟨0, 8, .ro, 0, .k⟩]⟩]

/-- The DRAM controller block's window (R25): base, units, bytes per unit, offset of the in-force copies (0: none), rows. -/
def drcMap : BlockMap := ⟨0x2001200000, 1, 0x100000, 0, drcRows0⟩

/-- DRC_CFG.IECC, RW, reset 0 (R612). -/
def DRC_CFG_IECC : Fld := ⟨0x2001200000, 1, 1, 0, 0⟩
/-- DRC_CFG.LECC, RW, reset 1 (R612). -/
def DRC_CFG_LECC : Fld := ⟨0x2001200000, 0, 1, 1, 0⟩
/-- DRC_STAT.CAP, RO, reset 0 (R612). -/
def DRC_STAT_CAP : Fld := ⟨0x2001200004, 8, 2, 0, 0⟩
/-- DRC_STAT.WERR, W1C, reset 0 (R612). -/
def DRC_STAT_WERR : Fld := ⟨0x2001200004, 4, 1, 0, 0⟩
/-- DRC_STAT.TRAINERR, W1C, reset 0 (R612). -/
def DRC_STAT_TRAINERR : Fld := ⟨0x2001200004, 3, 1, 0, 0⟩
/-- DRC_STAT.SR, RO, reset 0 (R612). -/
def DRC_STAT_SR : Fld := ⟨0x2001200004, 2, 1, 0, 0⟩
/-- DRC_STAT.KEPT, RO, reset 0 (R612). -/
def DRC_STAT_KEPT : Fld := ⟨0x2001200004, 1, 1, 0, 0⟩
/-- DRC_STAT.INIT, RO, reset 0 (R612). -/
def DRC_STAT_INIT : Fld := ⟨0x2001200004, 0, 1, 0, 0⟩
/-- DRC_ECCCNT.LINKCORR, RC, reset 0 (R612). -/
def DRC_ECCCNT_LINKCORR : Fld := ⟨0x2001200008, 16, 16, 0, 0⟩
/-- DRC_ECCCNT.INLCORR, RC, reset 0 (R612). -/
def DRC_ECCCNT_INLCORR : Fld := ⟨0x2001200008, 0, 16, 0, 0⟩
/-- DRC_ERRADDR_LO.ADDR, RO, reset 0 (R612). -/
def DRC_ERRADDR_LO_ADDR : Fld := ⟨0x200120000c, 0, 32, 0, 0⟩
/-- DRC_ERRADDR_HI.ADDR, RO, reset 0 (R612). -/
def DRC_ERRADDR_HI_ADDR : Fld := ⟨0x2001200010, 0, 8, 0, 0⟩

/-- Rows 0 to 7 of the split register table. -/
def splRows0 : List RegRow := [
  ⟨0, 1, 0, 1, 0, [⟨31, 1, .rw, 0, .k⟩, ⟨0, 13, .rw, 0, .k⟩, ⟨30, 1, .rw, 0, .k⟩, ⟨29, 1, .rw, 0, .k⟩, ⟨28, 1, .rw, 0, .k⟩]⟩,
  ⟨4, 1, 0, 1, 0, [⟨1, 1, .w1p, 0, .k⟩, ⟨0, 1, .w1p, 0, .k⟩]⟩,
  ⟨8, 1, 0, 1, 0, [⟨24, 8, .ro, 0, .k⟩, ⟨2, 1, .w1c, 0, .k⟩, ⟨1, 1, .ro, 0, .k⟩, ⟨0, 1, .ro, 0, .k⟩]⟩,
  ⟨0xc, 1, 0, 1, 0, [⟨0, 32, .ro, 0, .k⟩]⟩,
  ⟨0x10, 1, 0, 1, 0, [⟨0, 16, .ro, 0, .k⟩]⟩,
  ⟨0x14, 1, 0, 1, 0, [⟨0, 16, .rc, 0, .k⟩]⟩,
  ⟨0x10000, 4096, 4, 1, 0, [⟨31, 1, .rw, 0, .k⟩, ⟨2, 23, .rw, 0, .k⟩]⟩,
  ⟨0x20000, 4096, 4, 1, 0, [⟨0, 32, .ro, 0, .k⟩]⟩]

/-- The split block's window (R25): base, units, bytes per unit, offset of the in-force copies (0: none), rows. -/
def splMap : BlockMap := ⟨0x2001400000, 1, 0x100000, 0, splRows0⟩

/-- SPL_CTL.EN, RW, reset 0 (R592). -/
def SPL_CTL_EN : Fld := ⟨0x2001400000, 31, 1, 0, 0⟩
/-- SPL_CTL.LEN, RW, reset 0 (R592). -/
def SPL_CTL_LEN : Fld := ⟨0x2001400000, 0, 13, 0, 0⟩
/-- SPL_CTL.HOLD, RW, reset 0 (R592). -/
def SPL_CTL_HOLD : Fld := ⟨0x2001400000, 30, 1, 0, 0⟩
/-- SPL_CTL.FAB, RW, reset 0 (R592). -/
def SPL_CTL_FAB : Fld := ⟨0x2001400000, 29, 1, 0, 0⟩
/-- SPL_CTL.INEN, RW, reset 0 (R592). -/
def SPL_CTL_INEN : Fld := ⟨0x2001400000, 28, 1, 0, 0⟩
/-- SPL_CMD.DONECLR, W1P, reset 0 (R592). -/
def SPL_CMD_DONECLR : Fld := ⟨0x2001400004, 1, 1, 0, 0⟩
/-- SPL_CMD.FIRE, W1P, reset 0 (R592). -/
def SPL_CMD_FIRE : Fld := ⟨0x2001400004, 0, 1, 0, 0⟩
/-- SPL_STAT.ID, RO, reset 0 (R592). -/
def SPL_STAT_ID : Fld := ⟨0x2001400008, 24, 8, 0, 0⟩
/-- SPL_STAT.MISSED, W1C, reset 0 (R592). -/
def SPL_STAT_MISSED : Fld := ⟨0x2001400008, 2, 1, 0, 0⟩
/-- SPL_STAT.DONE, RO, reset 0 (R592). -/
def SPL_STAT_DONE : Fld := ⟨0x2001400008, 1, 1, 0, 0⟩
/-- SPL_STAT.BUSY, RO, reset 0 (R592). -/
def SPL_STAT_BUSY : Fld := ⟨0x2001400008, 0, 1, 0, 0⟩
/-- SPL_BEAT_LO.SPLIT, RO, reset 0 (R592). -/
def SPL_BEAT_LO_SPLIT : Fld := ⟨0x200140000c, 0, 32, 0, 0⟩
/-- SPL_BEAT_HI.SPLIT, RO, reset 0 (R592). -/
def SPL_BEAT_HI_SPLIT : Fld := ⟨0x2001400010, 0, 16, 0, 0⟩
/-- SPL_MISSCNT.COUNT, RC, reset 0 (R592). -/
def SPL_MISSCNT_COUNT : Fld := ⟨0x2001400014, 0, 16, 0, 0⟩
/-- SPL_LIST.VALID, RW, reset 0 (R592). -/
def SPL_LIST_VALID (i : Nat) : Fld := ⟨0x2001410000 + 4 * i, 31, 1, 0, 0⟩
/-- SPL_LIST.OFFSET, RW, reset 0 (R592). -/
def SPL_LIST_OFFSET (i : Nat) : Fld := ⟨0x2001410000 + 4 * i, 2, 23, 0, 0⟩
/-- SPL_DATA.VALUE, RO, reset 0 (R592). -/
def SPL_DATA_VALUE (i : Nat) : Fld := ⟨0x2001420000 + 4 * i, 0, 32, 0, 0⟩

/-- Rows 0 to 10 of the calibration register table. -/
def calRows0 : List RegRow := [
  ⟨0, 1, 0, 1, 0, [⟨12, 4, .rw, 4, .k⟩, ⟨3, 1, .rw, 0, .k⟩, ⟨2, 1, .rw, 0, .k⟩, ⟨1, 1, .rw, 1, .k⟩, ⟨0, 1, .rw, 1, .k⟩]⟩,
  ⟨4, 1, 0, 1, 0, [⟨15, 1, .w1c, 0, .k⟩, ⟨14, 1, .ro, 0, .c⟩, ⟨13, 1, .ro, 0, .c⟩, ⟨12, 1, .w1c, 0, .k⟩, ⟨11, 1, .w1c, 0, .k⟩, ⟨10, 1, .w1c, 0, .k⟩, ⟨9, 1, .w1c, 0, .k⟩, ⟨8, 1, .w1c, 0, .k⟩, ⟨3, 5, .ro, 0, .k⟩, ⟨2, 1, .ro, 0, .k⟩, ⟨1, 1, .ro, 0, .k⟩]⟩,
  ⟨8, 1, 0, 1, 0, [⟨1, 1, .w1p, 0, .k⟩, ⟨0, 1, .w1p, 0, .k⟩]⟩,
  ⟨0xc, 1, 0, 1, 0, [⟨16, 6, .ro, 0x3f, .k⟩, ⟨0, 6, .rw, 0xf, .k⟩]⟩,
  ⟨0x10, 1, 0, 1, 0, [⟨0, 16, .rw, 0, .k⟩, ⟨24, 4, .rw, 1, .k⟩, ⟨16, 4, .rw, 0, .k⟩]⟩,
  ⟨0x14, 1, 0, 1, 0, [⟨0, 32, .ro, 0, .c⟩]⟩,
  ⟨0x18, 1, 0, 1, 0, [⟨16, 16, .rc, 0, .k⟩, ⟨8, 8, .rc, 0, .k⟩, ⟨0, 8, .rc, 0, .k⟩]⟩,
  ⟨0x100, 47, 4, 1, 0, [⟨0, 32, .rw, 0x80808080, .c⟩]⟩,
  ⟨0x1bc, 1, 0, 1, 0, [⟨0, 24, .rw, 0x808080, .c⟩, ⟨24, 8, .ro, 0x80, .c⟩]⟩,
  ⟨0x1c0, 2, 4, 1, 0, [⟨0, 32, .ro, 0x80808080, .c⟩]⟩,
  ⟨0x200, 6, 4, 1, 0, [⟨0, 32, .rw, 0, .c⟩]⟩]

/-- The calibration block's window (R25): base, units, bytes per unit, offset of the in-force copies (0: none), rows. -/
def calMap : BlockMap := ⟨0x2000d00000, 1, 0x100000, 0, calRows0⟩

/-- CAL_CTL.TOMUL, RW, reset 4 (R527). -/
def CAL_CTL_TOMUL : Fld := ⟨0x2000d00000, 12, 4, 4, 0⟩
/-- CAL_CTL.AUTOSAVE, RW, reset 0 (R527). -/
def CAL_CTL_AUTOSAVE : Fld := ⟨0x2000d00000, 3, 1, 0, 0⟩
/-- CAL_CTL.GAPEXP, RW, reset 0 (R527). -/
def CAL_CTL_GAPEXP : Fld := ⟨0x2000d00000, 2, 1, 0, 0⟩
/-- CAL_CTL.GAPIDLE, RW, reset 1 (R527). -/
def CAL_CTL_GAPIDLE : Fld := ⟨0x2000d00000, 1, 1, 1, 0⟩
/-- CAL_CTL.GAPRECOAT, RW, reset 1 (R527). -/
def CAL_CTL_GAPRECOAT : Fld := ⟨0x2000d00000, 0, 1, 1, 0⟩
/-- CAL_STAT.REXTERR, W1C, reset 0 (R527). -/
def CAL_STAT_REXTERR : Fld := ⟨0x2000d00004, 15, 1, 0, 0⟩
/-- CAL_STAT.NOTRIM, RO, reset 0 (R527). -/
def CAL_STAT_NOTRIM : Fld := ⟨0x2000d00004, 14, 1, 0, 0⟩
/-- CAL_STAT.ACTCOPY, RO, reset 0 (R527). -/
def CAL_STAT_ACTCOPY : Fld := ⟨0x2000d00004, 13, 1, 0, 0⟩
/-- CAL_STAT.COPYERRB, W1C, reset 0 (R527). -/
def CAL_STAT_COPYERRB : Fld := ⟨0x2000d00004, 12, 1, 0, 0⟩
/-- CAL_STAT.COPYERRA, W1C, reset 0 (R527). -/
def CAL_STAT_COPYERRA : Fld := ⟨0x2000d00004, 11, 1, 0, 0⟩
/-- CAL_STAT.CFGERR, W1C, reset 0 (R527). -/
def CAL_STAT_CFGERR : Fld := ⟨0x2000d00004, 10, 1, 0, 0⟩
/-- CAL_STAT.RANGEERR, W1C, reset 0 (R527). -/
def CAL_STAT_RANGEERR : Fld := ⟨0x2000d00004, 9, 1, 0, 0⟩
/-- CAL_STAT.WERR, W1C, reset 0 (R527). -/
def CAL_STAT_WERR : Fld := ⟨0x2000d00004, 8, 1, 0, 0⟩
/-- CAL_STAT.UNIT, RO, reset 0 (R527). -/
def CAL_STAT_UNIT : Fld := ⟨0x2000d00004, 3, 5, 0, 0⟩
/-- CAL_STAT.SAVING, RO, reset 0 (R527). -/
def CAL_STAT_SAVING : Fld := ⟨0x2000d00004, 2, 1, 0, 0⟩
/-- CAL_STAT.BUSY, RO, reset 0 (R527). -/
def CAL_STAT_BUSY : Fld := ⟨0x2000d00004, 1, 1, 0, 0⟩
/-- CAL_CMD.SAVE, W1P, reset 0 (R527). -/
def CAL_CMD_SAVE : Fld := ⟨0x2000d00008, 1, 1, 0, 0⟩
/-- CAL_CMD.RESTART, W1P, reset 0 (R527). -/
def CAL_CMD_RESTART : Fld := ⟨0x2000d00008, 0, 1, 0, 0⟩
/-- CAL_SEQ.KIND, RO, reset 0x3f (R527). -/
def CAL_SEQ_KIND : Fld := ⟨0x2000d0000c, 16, 6, 0x3f, 0⟩
/-- CAL_SEQ.MASK, RW, reset 0xf (R527). -/
def CAL_SEQ_MASK : Fld := ⟨0x2000d0000c, 0, 6, 0xf, 0⟩
/-- CAL_NVLOC.OFFSET, RW, reset 0 (R527). -/
def CAL_NVLOC_OFFSET : Fld := ⟨0x2000d00010, 0, 16, 0, 0⟩
/-- CAL_NVLOC.BANKB, RW, reset 1 (R527). -/
def CAL_NVLOC_BANKB : Fld := ⟨0x2000d00010, 24, 4, 1, 0⟩
/-- CAL_NVLOC.BANKA, RW, reset 0 (R527). -/
def CAL_NVLOC_BANKA : Fld := ⟨0x2000d00010, 16, 4, 0, 0⟩
/-- CAL_GEN.GEN, RO, reset 0 (R527). -/
def CAL_GEN_GEN : Fld := ⟨0x2000d00014, 0, 32, 0, 0⟩
/-- CAL_CNT.DONE, RC, reset 0 (R527). -/
def CAL_CNT_DONE : Fld := ⟨0x2000d00018, 16, 16, 0, 0⟩
/-- CAL_CNT.TIMEOUT, RC, reset 0 (R527). -/
def CAL_CNT_TIMEOUT : Fld := ⟨0x2000d00018, 8, 8, 0, 0⟩
/-- CAL_CNT.ABORT, RC, reset 0 (R527). -/
def CAL_CNT_ABORT : Fld := ⟨0x2000d00018, 0, 8, 0, 0⟩
/-- CAL_TRIM.CODES, RW, reset 0x80808080 (R527). -/
def CAL_TRIM_CODES (i : Nat) : Fld := ⟨0x2000d00100 + 4 * i, 0, 32, 0x80808080, 0⟩
/-- CAL_TRIM_47.CODES, RW, reset 0x808080 (R527). -/
def CAL_TRIM_47_CODES : Fld := ⟨0x2000d001bc, 0, 24, 0x808080, 0⟩
/-- CAL_TRIM_47.RSV, RO, reset 0x80 (R527). -/
def CAL_TRIM_47_RSV : Fld := ⟨0x2000d001bc, 24, 8, 0x80, 0⟩
/-- CAL_TRIM_RSV.RSV, RO, reset 0x80808080 (R527). -/
def CAL_TRIM_RSV_RSV (i : Nat) : Fld := ⟨0x2000d001c0 + 4 * i, 0, 32, 0x80808080, 0⟩
/-- CAL_GSKEW.SKEWS, RW, reset 0 (R527). -/
def CAL_GSKEW_SKEWS (i : Nat) : Fld := ⟨0x2000d00200 + 4 * i, 0, 32, 0, 0⟩

end Sys2Proof.Machine
end

