-- ==== Sys2Proof/Machine/Sparse.lean ====
section
/-! DEFINITION. Sparse tables: lists of key and value pairs, keys rising, where a key that is not listed
reads as a default. Every array of the state (registers, memory, units) is one of these. -/
namespace Sys2Proof.Machine

/-- The value at key `k`, `d` where the key is not listed. -/
def Sparse.get {α : Type} (d : α) : List (Nat × α) → Nat → α
  | [], _ => d
  | (j, v) :: t, k => if j = k then v else Sparse.get d t k

/-- The table with `v` at key `k`. -/
def Sparse.insert {α : Type} : List (Nat × α) → Nat → α → List (Nat × α)
  | [], k, v => [(k, v)]
  | (j, w) :: t, k, v =>
    if k < j then (k, v) :: (j, w) :: t
    else if j = k then (k, v) :: t
    else (j, w) :: Sparse.insert t k v

/-- The table with key `k` not listed. -/
def Sparse.erase {α : Type} : List (Nat × α) → Nat → List (Nat × α)
  | [], _ => []
  | (j, w) :: t, k => if j = k then Sparse.erase t k else (j, w) :: Sparse.erase t k

/-- The table with `v` at key `k`, keeping values equal to the default unlisted. -/
def Sparse.put {α : Type} [DecidableEq α] (d : α) (m : List (Nat × α)) (k : Nat) (v : α) : List (Nat × α) :=
  if v = d then Sparse.erase m k else Sparse.insert m k v

/-- Canonical form: keys strictly rising (above `lo`), and no value equal to the default of its key. -/
def Sparse.wfFrom {α : Type} [DecidableEq α] (d : Nat → α) : Option Nat → List (Nat × α) → Bool
  | _, [] => true
  | lo, (j, v) :: t =>
    (match lo with | none => true | some l => decide (l < j)) && decide (v ≠ d j) && Sparse.wfFrom d (some j) t

/-- Canonical form of a whole table. -/
def Sparse.wf {α : Type} [DecidableEq α] (d : Nat → α) (m : List (Nat × α)) : Bool := Sparse.wfFrom d none m

end Sys2Proof.Machine
end

