-- ==== Sys2Proof/Config.lean ====
section
/-! DEFINITION. What one part fixes and the manual leaves open: free values, which no proof can see. -/
namespace Sys2Proof

/-- The free value drawn as the `n`-th: nothing constrains it (log entry 6). -/
opaque Config.freeValue : Nat → BitVec 64

/-- The boot ROM's bytes by offset (R601: the ROM's place; its content is given by no rule). -/
opaque Config.bootRom : Nat → BitVec 8

end Sys2Proof
end

