-- ==== Sys2Proof/Machine/State.lean ====
section
/-! DEFINITION. The state of the block: plain data. Every register of the spec's tables is a field of the register
file `regs` (its map: Machine/Map*.lean); everything else the rules give the machine is named here. Arrays are sparse
tables (Machine/Sparse.lean) whose unlisted entries read as the default value of their type. -/
namespace Sys2Proof.Machine

/-- Why a command stops the machine. No command of this block does: a bus error is a completion (R24), a fault is a
source of the collector (R557). The one constructor is raised by no meaning; it is safe. -/
inductive Fault where
  /-- Raised by nothing in this model. Safe. -/
  | none_
  deriving DecidableEq, Repr

/-- Why a command has no meaning. -/
inductive Refusal where
  /-- Raised by an arm of `exec` whose command has no meaning yet. Safe. -/
  | notModelled (mnemonic : String)
  deriving DecidableEq, Repr

/-- The last bus completion: which master, whether without error, and the data read (R24). A field of the MODEL. -/
structure Completion where
  master : Nat
  ok : Bool
  data : Nat
  deriving DecidableEq, Repr

/-- What the block sends while it executes one command. A record of the MODEL (log entry 5). -/
inductive Out where
  /-- An MSI-X message of a vector (R596). -/
  | msix (vec : Nat)
  /-- The non-maskable trap to the four supervisor cores (R561). -/
  | nmi
  /-- A bus request that leaves the block or a core (fabric, fetch), by master and address. -/
  | request (m a n : Nat)
  /-- A configuration answer of the endpoint: true for retry status (R595). -/
  | config (retry : Bool)
  /-- Data sent to the host by DMA (R597): host address and bytes. -/
  | hostWrite (a : Nat) (data : List Byte)
  /-- A core starts or jumps: core, address, a0 (R606, R608). -/
  | coreStart (core a a0 : Nat)
  /-- A flit on a Skeuz port: port, the flit's words, and its 64 bytes in the order in which they leave (R405, R406). -/
  | flit (port : Nat) (words bytes : List Nat)
  /-- A downlink slot on a head link: head, slot kind, words, and the bits in which they leave, CRC-16 included (R364 to
  R366). -/
  | slot (head kind : Nat) (words : List Int) (bits : List Bool)
  /-- A level on a pin: pin code and value. -/
  | pin (code value : Nat)
  /-- A message on a dedicated path (R15): path code and words. -/
  | path (code : Nat) (words : List Int)
  deriving DecidableEq, Repr

/-- What a ball of a ball group does (R539). -/
inductive Ball where
  | hiZ | pullUp | pullDown | low | high
  /-- The level and direction of the last beat before the episode. -/
  | hold
  /-- The function of its block. -/
  | working
  deriving DecidableEq, Repr

/-- A write of imaging or balance capture over the shared interconnect (R18, R24): what it carries, by `kind` 0 a frame or tap,
1 a melt-pool record, 2 + c a record of capture channel c. -/
inductive OwnWrite where
  /-- The write goes out: kind, address, bytes, the ECC event of the words it reads. -/
  | issue (kind addr : Nat) (data : List Byte) (ecc : Ecc)
  /-- A write that went into the fabric has ended: kind, without error. -/
  | ended (kind : Nat) (ok : Bool)
  deriving DecidableEq, Repr

/-- A mode request (R45). -/
structure ModeReq where
  target : Nat
  lpstate : Nat
  master : Nat
  deriving DecidableEq, Repr

/-- The mode controller (R41 to R56) beside its registers. -/
structure ModeSt where
  /-- The transition in progress and the beat of its acceptance (R47). -/
  trans : Option (ModeReq × Nat) := none
  /-- Its arming beat has passed (R55). -/
  armed : Bool := false
  /-- The pending request (R47). -/
  pend : Option ModeReq := none
  /-- The sources that forced the present entry into Halted (R56). -/
  forcers : List Nat := []
  /-- The present layer has been reported as complete (R58). -/
  layerTold : Bool := false
  /-- Beat of effect of the mode in force, and the arming beat of the last transition into Armed (R331). -/
  since : Nat := 0
  armAt : Nat := 0
  /-- The sources that force Halted on the next beat (R50). -/
  haltDue : Option (List Nat) := none
  /-- The layer has completed on this beat: Recoat follows on the next (R58). -/
  recoatDue : Bool := false
  deriving DecidableEq, Repr

/-- A chronograph record waiting to be written (R578). -/
structure ChrRec where
  hours : Nat
  secs : Nat
  sev : Nat
  trig : Nat
  rail : Bool
  inj : Bool
  persist : Bool
  beat : Nat
  detail : Nat
  snaps : List Nat
  /-- Offsets of the snapshot set still to be read (R580). -/
  todo : List Nat
  deriving DecidableEq, Repr

/-- An injection (R569, R570). -/
structure Injection where
  source : Nat
  mode : Nat
  react : Bool
  /-- Reactions were withheld from an assertion (R570). -/
  withheld : Bool := false
  /-- The detail word of its last assertion. -/
  detail : Nat := 0
  deriving DecidableEq, Repr

/-- A split waiting for its beat (R584): beat, ID, and whether it came by a broadcast. -/
structure SplitDue where
  at_ : Nat
  id : Nat
  deriving DecidableEq, Repr

/-- A row remap in progress (R575): the row of 256 bytes, and the write that waits for it: master, offset, 64-bit word. -/
structure Remap where
  row : Nat
  write : Option (Nat × (Nat × Nat))
  deriving DecidableEq, Repr

/-- The failures in a row of a block's collector resets, and the end of the window of the last one: none until its mask
has lifted (R573). -/
structure BrstFail where
  count : Nat
  until_ : Option Nat
  deriving DecidableEq, Repr

/-- The fault collector, chronograph, NV store and split unit beside their registers. Its times are those of
`RstSt.clk`. -/
structure FltSt where
  /-- Sources asserted by the command in progress whose block, chip and split reactions are still to be fired. -/
  todo : List Nat := []
  /-- Sources that force Halted on the next beat (R49, R50). -/
  force : List Nat := []
  /-- The armed injection (R569). -/
  inj : Option Injection := none
  /-- Injections that have disarmed and whose re-check is due, oldest first (R571). -/
  rechecks : List Injection := []
  /-- Blocks in block reset, code 32 r + bit, with the time of the end (R534). -/
  inReset : List (Nat × Nat) := []
  /-- Blocks whose sources are masked, with the time from which the mask may lift (R572). -/
  masked : List (Nat × Nat) := []
  /-- The collector's block resets that may still fail, by block (R573). -/
  fails : List (Nat × BrstFail) := []
  /-- A chip reset held back for its records: the time at which the hold ends, and the records still to write (R562). -/
  hold : Option (Nat × Nat) := none
  /-- Chronograph records waiting (R583). -/
  queue : List ChrRec := []
  /-- Row copies in progress (R575). -/
  remaps : List Remap := []
  /-- The 8-bit split ID counter (R584). -/
  splitId : Nat := 0
  /-- Splits waiting for their beat (R584). -/
  splits : List SplitDue := []
  /-- SPLIT_OUT is active until this time (R585). -/
  splitOut : Nat := 0
  /-- The register file as it stood on the beat of the last split: what the snapshot sets copied (R585). -/
  snap : List (Nat × Nat) := []
  deriving DecidableEq, Repr

/-- A supervised rail (R541 to R544). -/
structure Rail where
  /-- Below its warning level since this beat. -/
  belowSince : Option Nat := none
  /-- Back above warning plus HYST since this beat (R542). -/
  aboveSince : Option Nat := none
  /-- The supply-reset source of the rail is asserted (R528). -/
  reset : Bool := false
  /-- The warning comparison is armed: the rail has risen above its warning level since its PWR_EN went high (R632). -/
  armed : Bool := true
  deriving DecidableEq, Repr

/-- Phases of a reset (R529 to R531). -/
inductive RstPhase where
  /-- No episode and no Load in progress. -/
  | off
  /-- The episode is open and RESET_N is driven low. -/
  | driven
  /-- The drive is released and RESET_N not yet read high for 1 µs. -/
  | released
  /-- The internal reset has ended and the PLLs are not locked (reach P, B). -/
  | locking
  /-- Load runs. -/
  | loading
  deriving DecidableEq, Repr

/-- Reset, supplies, power states (16, 19) beside their registers. -/
structure RstSt where
  /-- Time in beats of 2.5 ns that no reset and no correction of the beat counter touches; a field of the MODEL. Every
  time of this structure and of `FltSt` is one of its values. -/
  clk : Nat := 0
  phase : RstPhase := .off
  /-- Sources of R528 asserted now, by bit. -/
  active : List Nat := []
  /-- Latched reach of the episode: 1 C, 2 P, 3 B. -/
  reach : Nat := 0
  /-- Time at which the episode opened, and at which the drive of RESET_N was released or the ball went high since. -/
  since : Nat := 0
  freeAt : Nat := 0
  /-- RESET_N is held low from outside. -/
  pinLow : Bool := false
  /-- Rails by number. -/
  rails : List (Nat × Rail) := []
  /-- PWR_EN_3 to PWR_EN_0, bit k for PWR_EN_k (R548). -/
  pwrEn : Nat := 15
  /-- Power sequencing in progress: time of the last rise or drop, and whether the groups are dropped (R632, R634). -/
  pwrSeq : Option (Nat × Bool) := none
  /-- The AVS loop's voltage write waiting for its answer: VSET and the beat of the write (R547). -/
  avsWrite : Option (Nat × Nat) := none
  /-- Beat since which every slack report has been above SLKHI (R546). -/
  avsHigh : Option Nat := none
  /-- VSET that the VCORE warning level follows, and the rises that reach it later, by time (R546). -/
  avsBase : Nat := 30
  avsRise : List (Nat × Nat) := []
  /-- The AVS loop has stopped (R547). -/
  avsStop : Bool := false
  /-- A wake in progress to this target: Idle, or Load of a reset (R551). -/
  waking : Option Nat := none
  /-- Time of entry into the Low power sub-state (R550). -/
  lpSince : Nat := 0
  /-- Milliseconds left on the watchdog, in beats (R540). -/
  wdt : Nat := 0
  /-- The DRAM entered self-refresh (R601). -/
  dramSr : Bool := false
  /-- VDDQ has stayed in range since then (R601). -/
  vddqOk : Bool := true
  /-- The next DRAM initialisation follows a block reset, a reach-C episode or a wake from Stopped (R601). -/
  keepCase : Bool := false
  /-- DRAM may be initialised: no access has followed the last initialisation (R600). -/
  dramFresh : Bool := true
  /-- REFA, REFB absent or off frequency (R37). -/
  refaBad : Bool := false
  refbBad : Bool := false
  /-- The barrier link is down (R34). -/
  barrierDown : Bool := false
  /-- A Load has committed fuse states for the ball groups since the last episode of reach P or B (R620). -/
  ballsIn : Bool := false
  /-- The ball groups that have left their reset state since that commit, bit kk (R620). -/
  ballsFree : Nat := 0
  deriving DecidableEq, Repr

/-- Boot stages of core 0 (R601 to R606). -/
inductive BootStage where
  | rom | flash | waitHost | loading | failed | running
  deriving DecidableEq, Repr

/-- The image being loaded: its source (USED), where its header stood, what its header says (R604). -/
structure Image where
  src : Nat
  at_ : Nat
  load : Nat
  entry : Nat
  len : Nat
  flags : Nat
  crc : Nat
  deriving DecidableEq, Repr

/-- The host port, DRAM controller and boot beside their registers. -/
structure HostSt where
  /-- MSI-X vector masks and pending bits (R596). -/
  msixMask : Nat := 0xFFFFFFFFFFFFFFFF
  msixPend : Nat := 0
  boot : BootStage := .rom
  /-- The image copy that the ROM tries next: 1 A, 2 B (R603). -/
  copy : Nat := 1
  /-- The image being loaded (R604). -/
  image : Option Image := none
  /-- Cores out of reset, bit c. -/
  coresRun : Nat := 0
  /-- The cores in reset for which an NMI waits, bit c (R608). -/
  nmiPend : Nat := 0
  deriving DecidableEq, Repr

/-- The queued settings of an escapement: what the next segment enqueued takes (R68, R75). -/
structure Settings where
  power : Nat := 0
  ramp : Nat := 0
  /-- A POWER stands before the next segment (R97). -/
  powNew : Bool := false
  /-- The power that an earlier POWER with RAMP 0 before the same segment has set: the ramp starts from it (R97). -/
  powBase : Option Nat := none
  /-- Loop request for the next segment: 0 keep, 1 open, 2 closed (R96). -/
  loopReq : Nat := 0
  vMark : Nat := 0
  vJump : Nat := 0
  shape : Nat := 0
  ampl : Nat := 0
  freq : Nat := 0
  skyMode : Nat := 0
  skyIn : Nat := 0
  skyOut : Nat := 0
  skyAngle : Nat := 0
  lon : Int := 0
  loff : Int := 0
  settle : Nat := 0
  tag : Nat := 0
  tagInc : Bool := false
  /-- No laser-on segment has taken the tag yet (R109). -/
  tagFresh : Bool := false
  layer : Nat := 0
  deriving DecidableEq, Repr

/-- The kinds of segment (R74). -/
inductive SegKind where
  | mark | jump | arc | spln
  | dwell (on : Bool)
  deriving DecidableEq, Repr

/-- A segment of the queue (R138) with the settings in force for it; coordinates in PC24 steps. -/
structure Seg where
  kind : SegKind
  x0 : Int
  y0 : Int
  z0 : Int
  x1 : Int
  y1 : Int
  z1 : Int
  /-- Centre of an ARC, first control point of a SPLN. -/
  ax : Int := 0
  ay : Int := 0
  /-- Second control point of a SPLN. -/
  bx : Int := 0
  by_ : Int := 0
  /-- Sweep of an ARC in 2^-24 turn. -/
  sweep : Int := 0
  /-- Beats of a DWELL. -/
  beats : Nat := 0
  ns : Bool := false
  nw : Bool := false
  /-- Per-segment power and speed (R87). -/
  pw : Option Nat := none
  speed : Option Nat := none
  set : Settings
  tag : Nat := 0
  /-- Beat of its enqueue. -/
  enq : Nat := 0
  /-- Zones that a YIELD releases when it has ended (R106). -/
  yields : List Nat := []
  /-- The pool piece it draws: pool, side, record index (R296). -/
  piece : Option (Nat × Nat × Nat) := none
  /-- A wait instruction or program start stands before it (R77). -/
  afterWait : Bool := false
  deriving DecidableEq, Repr

/-- One profile of R186 on the way along a cubic: length (µm), entry, peak and exit speeds (µm/s), time (s). -/
structure Stage where
  len : Rat
  v0 : Rat
  vp : Rat
  v1 : Rat
  time : Rat
  deriving DecidableEq, Repr

/-- How the spot moves during one part of a plan; plate coordinates in steps. -/
inductive Motion where
  /-- At rest on a point. -/
  | rest (x y z : Rat)
  /-- Along a line with speeds v0, peak, v1 (µm/s) under A and J, over a real length of time (seconds). -/
  | line (x0 y0 z0 x1 y1 z1 : Rat) (v0 vp v1 acc jerk time : Rat)
  /-- Along an arc about a centre: start vector, sweep (radians), what the rounding of the end point adds to it,
  with the same profile. -/
  | arc (cx cy sx sy sweep ex ey z : Rat) (v0 vp v1 acc jerk time : Rat)
  /-- Along a cubic, at the speeds of its stages (R188). -/
  | cubic (x0 y0 x1 y1 x2 y2 x3 y3 z : Rat) (acc jerk : Rat) (stages : List Stage)
  deriving DecidableEq, Repr

/-- One part of a plan: its motion, its beats, and whether the gate is active in it. -/
structure Part where
  motion : Motion
  beats : Nat
  gate : Bool
  /-- The segment's own path, or a laser-on DWELL: laser-on trajectory time. -/
  path : Bool := false
  deriving DecidableEq, Repr

/-- The plan of a committed segment, a retarget stop or a return (R189, R196, R197): parts from a start beat. -/
structure Plan where
  start : Nat
  parts : List Part
  /-- Exit speed committed, µm/s (R189). -/
  vExit : Rat := 0
  /-- The segment ends with a run-out, so what follows starts at rest (R192). -/
  ranOut : Bool := false
  /-- Direction of the path at the end. -/
  dirX : Rat := 0
  dirY : Rat := 0
  dirZ : Rat := 0
  deriving DecidableEq, Repr

/-- What the trajectory generator does (R140, R196, R197). -/
inductive Timeline where
  /-- No motion planned. -/
  | idle
  /-- The first segment of the queue runs. -/
  | seg (p : Plan)
  /-- The jerk-limited stop of a retarget runs; `ret`: a return follows it (R197). -/
  | stop (p : Plan) (ret : Bool)
  /-- The return to the commanded end point runs. -/
  | ret (p : Plan)
  deriving DecidableEq, Repr

/-- The wait instruction an escapement stands in (R76). -/
inductive WaitKind where
  | waitt (abs : Bool) (n : Nat)
  | sync (fab : Bool) (group lead : Nat)
  | await (all clr : Bool) (mask timeout : Nat)
  | claim (wait : Bool) (zone timeout : Nat)
  | float (gd pool : Nat)
  | halt (code : Nat)
  | trap (code : Nat)
  deriving DecidableEq, Repr

/-- A wait: its kind, whether its drain has ended and when, and its instruction. -/
structure Wait where
  kind : WaitKind
  drained : Bool := false
  since : Nat := 0
  pc : Nat
  word : Nat
  len : Nat
  deriving DecidableEq, Repr

/-- A line of the fetch buffer (R134, R136): address, poisoned, its eight words. -/
structure FetchLine where
  addr : Nat
  poisoned : Bool
  words : List Nat
  deriving DecidableEq, Repr

/-- A posted store (R120) or the outstanding load. -/
structure MemReq where
  addr : Nat
  /-- Data to store, or the register number to load. -/
  data : Nat
  toF : Bool
  pc : Nat
  word : Nat
  len : Nat
  /-- A STOP dropped it from exception reporting (R159). -/
  silent : Bool := false
  /-- The answer of a request that went through the fabric window: ok, data. -/
  answer : Option (Bool × Nat) := none
  deriving DecidableEq, Repr

/-- A rectangle of the plate or gas frame. -/
structure Box where
  xlo : Rat
  ylo : Rat
  xhi : Rat
  yhi : Rat
  deriving DecidableEq, Repr

/-- The draws of a FLOAT in progress (R295 to R298). -/
structure FloatSt where
  gd : Nat
  pool : Nat
  side : Nat
  drawn : Nat := 0
  exhausted : Bool := false
  /-- Record indices drawn and not yet done. -/
  open_ : List Nat := []
  /-- The record being fetched, with the beat of its draw (R301). -/
  fetch : Option (Nat × Nat) := none
  deriving DecidableEq, Repr

/-- A hold point under evaluation (R284 to R286). -/
structure HoldSt where
  /-- Beat on which the timeline reached it. -/
  h : Nat
  /-- Beat on which its evaluation passed. -/
  g : Option Nat := none
  /-- Beats that a rule of zones or plume held it. -/
  ruled : Bool := false
  timedOut : Bool := false
  /-- Boxes of the stretch behind it once the evaluation has passed (R307), and the reservation it then holds (R308). -/
  box : Option Box := none
  resv : Option Box := none
  deriving DecidableEq, Repr

/-- One escapement beside its registers (03, 04, 05, 08). -/
structure EscSt where
  set : Settings := {}
  queue : List Seg := []
  line : Timeline := .idle
  /-- The spot's last point of rest or of a boundary, in steps. -/
  px : Rat := 0
  py : Rat := 0
  pz : Rat := 0
  /-- Its speed (µm/s) and direction at the last boundary. -/
  v : Rat := 0
  dirX : Rat := 0
  dirY : Rat := 0
  dirZ : Rat := 0
  /-- What ended there: 0 a laser-off segment or a wait, 1 a laser-on segment, 2 one that ran out (R192). -/
  prev : Nat := 0
  /-- Beat on which the timeline last came to an end of its plan. -/
  idleAt : Nat := 0
  /-- The timeline waits for this beat (R141). -/
  restart : Option Nat := none
  /-- The next segment is the first after a restart. -/
  fresh : Bool := true
  /-- P2 of the last segment enqueued, if it was a SPLN (R91). -/
  lastP2 : Option (Int × Int) := none
  /-- Tag of the last laser-on segment enqueued (R122). -/
  tagLast : Nat := 0
  buf : List FetchLine := []
  /-- Beat on which the last line came (R134). -/
  lineAt : Nat := 0
  /-- The last words issued, with their addresses: the loop window (R134). -/
  window : List (Nat × Nat) := []
  /-- Issue stalls up to this beat (R108, R139). -/
  busyTill : Nat := 0
  stores : List MemReq := []
  load : Option MemReq := none
  wait : Option Wait := none
  /-- The HALT that ends the layer program has executed (R58). -/
  layerDone : Bool := false
  /-- Beat of that HALT. -/
  haltAt : Nat := 0
  /-- A STORE exception waits for the queue to run out: its store (R162). -/
  storeTrap : Option MemReq := none
  /-- Length of the trapped instruction, for RESUME. -/
  trapLen : Nat := 8
  /-- Beat of the freeze (R61). -/
  frozenAt : Nat := 0
  /-- A step runs (R164). -/
  stepping : Bool := false
  float : Option FloatSt := none
  hold : Option HoldSt := none
  /-- Boxes of the running stretch in the plate and the gas frame, and the gas box reserved (R307, R308). -/
  box : Option Box := none
  resv : Option Box := none
  resvEnd : Option Nat := none
  /-- Reservations of earlier stretches that still linger, with their last beats (R308). -/
  linger : List (Box × Nat) := []
  /-- The laser-on stretch in progress: start beat (R101), and laser-on beats so far. -/
  stretch : Option Nat := none
  /-- The timeline's gate is on: an unbroken run of laser-on segments with power (R235). -/
  gateRun : Bool := false
  /-- Wobble: envelope (R195); laser-on beats of the stretch, each times the frequency in Hz then in force; frozen offset. -/
  env : Rat := 0
  wobT : Nat := 0
  wobX : Rat := 0
  wobY : Rat := 0
  /-- Direction of the path before the last junction, and its beat (R194). -/
  junction : Option (Rat × Rat × Nat) := none
  /-- Programmed power reached (R97), and the ramp in progress: start, target, length, laser-on beats done. -/
  pNow : Rat := 0
  rampNow : Option (Rat × Nat × Nat × Nat) := none
  /-- Beat on which event bits were last set, and those bits (R155). -/
  evAt : Nat := 0
  evBits : Nat := 0
  deriving DecidableEq, Repr

/-- A barrier instance (R149 to R153). -/
structure BarSt where
  /-- Members of the instance, bit n. -/
  members : Nat := 0
  /-- Arrived members: number, beat, LEAD. -/
  arrived : List (Nat × Nat × Nat) := []
  /-- Beat of the device's own report (R151). -/
  reported : Option Nat := none
  /-- Timekeeper: reports, device and ready beat, with the beat of the first (R151, R153). -/
  reports : List (Nat × Nat) := []
  firstReport : Nat := 0
  /-- Timekeeper: the devices listed when the first report came (R180). -/
  devices : Nat := 0
  deriving DecidableEq, Repr

/-- An open regulator event (R232, R233): what its record carries. -/
structure OpenEvent where
  tag : Nat
  layer : Nat
  beat : Nat
  x : Nat
  y : Nat
  power : Nat
  value : Nat
  thresh : Nat
  dur : Nat
  deriving DecidableEq, Repr

/-- One conditioned photodiode triple (R215): arrival beat, FP32 values, saturation of PD0 or PD1. -/
structure PdTriple where
  beat : Nat
  q0 : Nat
  q1 : Nat
  q2 : Nat
  sat : Bool
  deriving DecidableEq, Repr

/-- A regulator beside its registers (06); FP32 values as words. -/
structure RegSt where
  /-- Loop in force: 0 open, 1 closed, 3 blend (R224 to R226). -/
  loop : Nat := 0
  /-- Closed loop is requested (R224). -/
  want : Bool := false
  /-- A fallback stands: no hand-back before AUTORET's fourth valid tick or a new request (R227). -/
  fell : Bool := false
  /-- Valid ticks in a row since the fallback. -/
  validRun : Nat := 0
  /-- Integrator, output before the rate limit, carried deviation (R220). -/
  i : Nat := 0
  u : Nat := 0
  c : Nat := 0
  /-- u at the hand-over to open loop and blend ticks done (R226). -/
  uh : Nat := 0
  blend : Nat := 0
  /-- Power codes of the last two ticks (R214). -/
  p : Nat := 0
  pPrev : Nat := 0
  /-- Ticks of the present stretch with the gate active (R223), none before its first. -/
  ticks : Option Nat := none
  /-- Hold ticks in a row outside BLANK (R227). -/
  holds : Nat := 0
  /-- Background and deviation of each channel (R230), FP32, and ticks tracked. -/
  b0 : Nat := 0
  b1 : Nat := 0
  b2 : Nat := 0
  d0 : Nat := 0
  d1 : Nat := 0
  d2 : Nat := 0
  tracked : Nat := 0
  /-- Ticks in a row on which an event's opening condition held (R232): lack of fusion, overheat. -/
  lofRun : Nat := 0
  ohtRun : Nat := 0
  /-- Open events of types 1 to 3. -/
  ev1 : Option OpenEvent := none
  ev2 : Option OpenEvent := none
  ev3 : Option OpenEvent := none
  /-- The window being filled (R216). -/
  window : List PdTriple := []
  /-- The event queue (R234), oldest first. -/
  queue : List (List Nat) := []
  /-- A fallback is due: hold ticks counted (R227). -/
  fallDue : Option Nat := none
  /-- A hand-back is due on this tick with this temperature (R227). -/
  handDue : Option Nat := none
  /-- The fallback record's tick: tag, layer, beat, x, y (R233). -/
  last : OpenEvent := { tag := 0, layer := 0, beat := 0, x := 0, y := 0, power := 0, value := 0, thresh := 0, dur := 0 }
  deriving DecidableEq, Repr

/-- A laser port beside its registers (R235 to R239). -/
structure PortSt where
  /-- Gate edges placed and not yet emitted: time on the 1/64 beat grid, level (R235). -/
  edges : List (Nat × Bool) := []
  /-- Gate level the timeline asks for. -/
  want : Bool := false
  /-- The last tick was out of field (R201). -/
  oof : Bool := false
  /-- The field holds the gate inactive; its edges to come: time, inside again (R201, R183, R235). -/
  fieldHeld : Bool := false
  fieldEdges : List (Nat × Bool) := []
  /-- The DAC's code and its updates to come, by beat (R214). -/
  dac : Nat := 0
  updates : List (Nat × Nat) := []
  deriving DecidableEq, Repr

/-- A setpoint that has left a head transform (R182, R183): tick beat, codes X, Y, F, velocity and acceleration as FP32
words, tag and gate. -/
structure SetRec where
  beat : Nat
  x : Int
  y : Int
  f : Int
  vel : List Nat
  acc : List Nat
  tag : Nat
  gate : Bool
  deriving DecidableEq, Repr

/-- A dial deposit (R250, R268): tick beat, laser, sending device, centre cell, amplitude (FP32, kelvin). -/
structure Deposit where
  beat : Nat
  laser : Nat
  dev : Nat
  ix : Int
  iy : Int
  amp : Nat
  deriving DecidableEq, Repr

/-- The dial beside its registers and memory (07). -/
structure DialSt where
  /-- Local deposits made and not yet committed (R253). -/
  waiting : List Deposit := []
  /-- Forwarded records received, with their arrival beats (R269). -/
  recv : List (Nat × Deposit) := []
  /-- Forward records that wait for the fabric (R269): peer entry, beat queued, record. -/
  send : List (Nat × Nat × Deposit) := []
  /-- Beat on which the running clear completes (R262, R263). -/
  clear : Option Nat := none
  /-- t_c of the running rebase (R262). -/
  rebase : Option Nat := none
  /-- The last rebase's beat and the stamps before it, by tile (R638). -/
  old : Option (Nat × List (Nat × Nat)) := none
  /-- Beat on which the last sweep pass completed (R263). -/
  passAt : Nat := 0
  /-- One more than the number of the last sweep slot served, and whether it rebased its tile (R257). -/
  swept : Nat := 0
  sweptHit : Bool := false
  /-- The last commit beat, and the cells its deposits changed with what they held before it (R259). -/
  freshAt : Nat := 0
  fresh : List (Nat × Nat) := []
  /-- The last tick slot in which forwarded records committed, and how many did (R269). -/
  slot : Nat := 0
  slotUsed : Nat := 0
  /-- Peers left out of forwarding, bit k (R270). -/
  excluded : Nat := 0
  /-- Peers whose check is under way, bit k. -/
  checking : Nat := 0
  deriving DecidableEq, Repr

/-- A job of an axis (R320, R326): bank, next word, the words left, registers r32 to r63 that it sees. -/
structure Job where
  bs : Nat
  bank : Nat
  pc : Nat
  left : Nat
  temps : List Nat := []
  pos : Nat
  ref : Nat
  vref : Nat
  aref : Nat
  prev : Nat
  imeas : Nat
  inj : Nat
  dt : Nat
  iout : Nat := 0
  capv : Nat := 0
  /-- SEL flags: bit 0 MISS, 1 FIRST, 2 SWAPPED, 3 INJON, 4 TRACK, 5 PARK. -/
  flags : Nat
  /-- The OUT injections of the sample, and all injections of the sample. -/
  outInj : Nat
  total : Nat
  /-- State registers the job has written. -/
  wrote : List Nat := []
  /-- ILIM and SWBLEND as they stood at the dispatch (R347). -/
  ilim : Nat := 0
  swblend : Nat := 0
  deriving DecidableEq, Repr

/-- An approach (true) or a park move (R332): its first sample, reference position and velocity before it. -/
structure AxMove where
  approach : Bool
  start : Nat
  p0 : Nat
  v0 : Nat
  deriving DecidableEq, Repr

/-- A servo axis beside its registers (09). FP32 values as words. -/
structure AxSt where
  /-- State registers r0 to r31. -/
  r : List Nat := []
  /-- The last valid position code. -/
  pos : Int := 0
  /-- Reference of the last sample, without injection. -/
  ref : Nat := 0
  vref : Nat := 0
  move : Option AxMove := none
  /-- CLOSE and swap wait for this beat; OPEN waits for the next sample (R333, R334). -/
  closeDue : Option Nat := none
  swapDue : Option Nat := none
  openDue : Bool := false
  /-- The next job is the first after CLOSE, after a swap. -/
  first : Bool := false
  swapped : Bool := false
  /-- A blend: sample m and d0 (R336). -/
  blend : Option (Nat × Option Nat) := none
  /-- Samples in a row beyond TRKLIM (R340), and missing (R324). -/
  trkRun : Nat := 0
  missRun : Nat := 0
  /-- REF - POS of the last sample, for R54. -/
  err : Rat := 0
  job : Option Job := none
  /-- Per-axis registers written less than 8 beats ago, oldest first: address, the word before the write, its beat (R347). -/
  late : List (Nat × (Nat × Nat)) := []
  deriving DecidableEq, Repr

/-- The telemetry of a head's last TLM slot (R365): its sample, positions (none: invalid), currents. -/
structure TlmRec where
  bs : Nat
  pos : List (Option Int)
  cur : List Int
  deriving DecidableEq, Repr

/-- An injection generator (R343). -/
structure GenSt where
  active : Bool := false
  n : Nat := 0
  phi : Rat := 0
  lfsr : Nat := 0
  /-- The sweep is over and waits for the sine's change of sign; the sign of its last value. -/
  tail : Bool := false
  neg : Bool := false
  deriving DecidableEq, Repr

/-- A capture channel (R344, R345). -/
structure CapSt where
  /-- Samples until the next record, records since the trigger, records to come after it in ring mode. -/
  skip : Nat := 0
  recs : Nat := 0
  post : Nat := 0
  /-- Records waiting: index and words; the oldest is on its way through the fabric. -/
  queue : List (Nat × List Nat) := []
  far : Bool := false
  deriving DecidableEq, Repr

/-- The balance engine beside its registers (09). -/
structure BalSt where
  axes : List (Nat × AxSt) := []
  tlm : List (Nat × TlmRec) := []
  gens : List (Nat × GenSt) := []
  caps : List (Nat × CapSt) := []
  /-- Jobs dispatched and not released, by head: the sample (R323). -/
  open_ : List (Nat × Nat) := []
  deriving DecidableEq, Repr

/-- An SVC message (R366) on its way: type, tag, LEN, address, data words, resends so far, beat of the last sending. -/
structure SvcTx where
  typ : Nat
  tag : Nat := 0
  len : Nat := 0
  addr : Nat := 0
  data : List Nat := []
  tries : Nat := 0
  sentAt : Nat := 0
  deriving DecidableEq, Repr

/-- A head link beside its registers (10). -/
structure HlSt where
  /-- Beat of entry into the link state. -/
  since : Nat := 0
  /-- Consecutive intact TRN slots, or TLM slots on time (R379, R382, R384, R394). -/
  good : Nat := 0
  /-- The last TRN slot was intact; the head's EQOK; countdown, chosen version and rate (R380). -/
  ack : Bool := false
  headEq : Bool := false
  cd : Nat := 7
  chv : Nat := 0
  chr : Nat := 0
  /-- Returns to DETECT in a row (R385). -/
  tries : Nat := 0
  /-- CSEQ last used, outstanding entries (CSEQ, address, value), entries that wait, beat of CFGACK's last advance (R391). -/
  cseq : Nat := 0
  cfg : List (Nat × (Nat × Nat)) := []
  cfgWait : List (Nat × Nat) := []
  ackAt : Nat := 0
  /-- HLC_PM bit 0 as last sent (R393). -/
  pm : Bool := false
  /-- The SVC transaction that waits for its answer, those that wait behind it, and the next tag (R391). -/
  svc : Option SvcTx := none
  svcQueue : List SvcTx := []
  tag : Nat := 0
  /-- The exchange under way and those completed since TIME began, the last |θ| ≤ 1 (R373, R384). -/
  t1 : Option Nat := none
  exch : Nat := 0
  aligned : Bool := false
  /-- Beat of the last exchange, of the last change of PEAK, of the last CFG or SVC traffic (R374, R383, R393). -/
  syncAt : Nat := 0
  eqAt : Nat := 0
  traffic : Nat := 0
  /-- TLM slots in a row with a wrong SEQ (R388). -/
  seqBad : Nat := 0
  /-- An L1 request waits for the head's answer; an L1 wake is under way (R394). -/
  l1Req : Bool := false
  waking : Bool := false
  deriving DecidableEq, Repr

/-- A flit that waits to leave or to be acknowledged: class, type, destination, source, hops, tag, ARG, payload fields. -/
structure Flit where
  cls : Nat
  typ : Nat
  dst : Nat
  src : Nat
  hops : Nat
  tag : Nat
  arg : Nat
  data : List Nat
  deriving DecidableEq, Repr

/-- What the last HELLO of a port said (R411): UID, ROOT, DIST, the peer's port, whether in Join, arrival beat. -/
structure HelloRec where
  uid : Nat
  root : Nat
  dist : Nat
  port : Nat
  inJoin : Bool
  beat : Nat
  deriving DecidableEq, Repr

/-- A Skeuz port beside its registers (R404, R407). -/
structure SkPort where
  /-- Number of the next sequenced flit, and of the last one accepted. -/
  txSeq : Nat := 0
  rxSeq : Nat := 255
  /-- Flits sent and not acknowledged, with their numbers, oldest first. -/
  unacked : List (Nat × Flit) := []
  /-- Flits that wait for a credit. -/
  queue : List Flit := []
  /-- Credits of the partner's buffers of classes 0 to 2, and credits owed to the partner. -/
  credit : List Nat := [32, 32, 32]
  owed : List Nat := [0, 0, 0]
  /-- Replays in a row without progress. -/
  replays : Nat := 0
  /-- Training restarts in a row, and the beat this training began. -/
  restarts : Nat := 0
  since : Nat := 0
  /-- The last HELLO received (R411). -/
  hello : Option HelloRec := none
  /-- Time of the last IDLE sent, a value of `RstSt.clk` (R403). -/
  idleAt : Nat := 0
  deriving DecidableEq, Repr

/-- A device of the fabric map (R413): address, UID, peers of its ports. -/
structure MapRec where
  addr : Nat
  uid : Nat
  peers : List (Option Nat)
  deriving DecidableEq, Repr

/-- A command scheduled for a beat (R425, R427): due beat, CMD, CARG. -/
structure Sched where
  due : Nat
  cmd : Nat
  carg : Nat
  deriving DecidableEq, Repr

/-- One request of a remote access (R417, R418): tag while outstanding, offset and length in the access, data once
answered. -/
structure SkPiece where
  tag : Option Nat
  ofs : Nat
  len : Nat
  answered : Bool
  data : List Byte
  /-- Time at which the request left (R418). -/
  sent : Nat
  deriving DecidableEq, Repr

/-- A remote access: its master, target, remote address, kind, data to write, and its requests. -/
structure SkReq where
  master : Nat
  dev : Nat
  /-- Address in the window. -/
  win : Nat
  addr : Nat
  write : Bool
  ok : Bool
  data : List Byte
  pieces : List SkPiece
  /-- What a write of imaging or capture carries: the kind of `OwnWrite` (R18). -/
  own : Option Nat := none
  deriving DecidableEq, Repr

/-- The Skeuz block beside its registers (11). -/
structure SkzSt where
  ports : List (Nat × SkPort) := []
  /-- Join (R411 to R414): own ROOT, DIST and parent, since when they have stood, whether TOPO has gone. -/
  root : Nat := 0
  dist : Nat := 0
  stable : Nat := 0
  joinAt : Nat := 0
  /-- Ports that lead to children in the time tree (R409), bit p. -/
  kids : Nat := 0
  /-- TOPOs collected: UID, PREF, PREFEN, peer UIDs; and the beat of the last new one. -/
  topos : List (Nat × (Nat × (Bool × List Nat))) := []
  topoAt : Nat := 0
  /-- The fabric map, and the devices announced. -/
  map : List MapRec := []
  ndev : Nat := 1
  /-- The device's own ASSIGN carried VALID clear (R414). -/
  turnedAway : Bool := false
  /-- Join-ready reports at the timekeeper, by address; JOINED has been broadcast. -/
  ready : Nat := 0
  joinedSent : Bool := false
  /-- The exchange under way: t1 (R421); failures in a row (R416); beat of the next; aligned. -/
  t1 : Option Nat := none
  fails : Nat := 0
  syncAt : Nat := 0
  aligned : Bool := false
  /-- Phase of PLL-T in fine steps (R422, R423). -/
  phase : Int := 0
  /-- Commands that wait for their beats (R425). -/
  sched : List Sched := []
  /-- Remote accesses under way (R417). -/
  reqs : List SkReq := []
  deriving DecidableEq, Repr

/-- The settings of a frame (R443): the RWS fields of a context in force for it. -/
structure ImgSet where
  width : Nat
  height : Nat
  dt : Nat
  cfa : Nat
  phase : Nat
  strken : Bool
  ds : Nat
  stat : Bool
  mv : Bool
  code : Bool
  disp : Bool
  black : Nat
  gain : List Nat
  ccm : List Nat
  kir : List Nat
  x0 : Nat
  y0 : Nat
  x1 : Nat
  y1 : Nat
  axis : Bool
  band : Nat
  hw : Nat
  thr : Nat
  deriving DecidableEq, Repr

/-- An admitted frame (R439): number, GEN, FS beat, slot, settings, the lines received (none: a bad one), and its flags. -/
structure ImgFrame where
  frame : Nat
  gen : Nat
  fs : Nat
  slot : Nat
  set : ImgSet
  lines : List (Option (List Nat)) := []
  short : Bool := false
  long : Bool := false
  bad : Nat := 0
  deriving DecidableEq, Repr

/-- A layer-camera context beside its registers (R438 to R450). -/
structure CtxSt where
  /-- The frame at the port: under way, its lines so far, its latch point passed. -/
  port : Bool := false
  portLines : Nat := 0
  latched : Bool := true
  /-- The admitted frame in progress, and those whose outputs are still to be written. -/
  cur : Option ImgFrame := none
  done : List ImgFrame := []
  /-- The next slot in order. -/
  next : Nat := 0
  /-- Beats of the first and last line packets of the admitted frame; R_c once measured (R440). -/
  lineFirst : Nat := 0
  lineLast : Nat := 0
  rate : Option Rat := none
  /-- An RWS field was written since the last latch point (R444), the beat of that point (R450). -/
  dirty : Bool := false
  latchAt : Nat := 0
  /-- A trigger waits for the latch point; CAMTRIG is active below this beat (R450). -/
  trigWait : Bool := false
  trigUntil : Nat := 0
  deriving DecidableEq, Repr

/-- A setpoint as loupes look it up (R454): tick beat, tag, layer, position (PC24), plate velocity, gate. -/
structure SpRec where
  beat : Nat
  tag : Nat
  layer : Nat
  x : Nat
  y : Nat
  vx : Rat
  vy : Rat
  gate : Bool
  deriving DecidableEq, Repr

/-- A loupe beside its registers (R451 to R457). -/
structure LpeSt where
  active : Bool := false
  /-- FRAME of the frame under way, and of the last one; what it added to GAPCNT. -/
  frame : Nat := 0
  prev : Option Nat := none
  gap : Nat := 0
  /-- Lines received: LINE and pixels. -/
  rows : List (Nat × List Nat) := []
  /-- Frame beat and the setpoint the frame takes (R454). -/
  beat : Nat := 0
  sp : Option SpRec := none
  /-- First and last line received with their beats, and the mean line interval of the last complete frame. -/
  first : Nat × Nat := (0, 0)
  last : Nat × Nat := (0, 0)
  interval : Rat := 0
  /-- Tap of the frame (R456, R457): its code and whether it was admitted; the next ring slot. -/
  tap : Nat := 0
  tapOn : Bool := false
  tapIx : Nat := 0
  /-- The background B (R452). -/
  bkg : Rat := 0
  deriving DecidableEq, Repr

/-- The imaging block beside its registers (12). -/
structure ImgSt where
  ctxs : List (Nat × CtxSt) := []
  lpes : List (Nat × LpeSt) := []
  /-- Loupe records that wait for the stream, and the arbiter's next source (R458). -/
  recs : List (Nat × List Nat) := []
  rr : Nat := 0
  /-- A record of the stream is on its way through the fabric (R18). -/
  mprFar : Bool := false
  /-- Setpoints of the last 65,536 beats, by laser, newest first (R454). -/
  hist : List (Nat × List SpRec) := []
  deriving DecidableEq, Repr

/-- An illumination channel beside its registers (13). -/
structure IllCh where
  /-- Beats since which it is on, off; and the end of the present pulse. -/
  onAt : Nat := 0
  offAt : Nat := 0
  until_ : Nat := 0
  /-- Strobe starts to come (R469). -/
  due : List Nat := []
  /-- The present pulse is a diagnostic one (R475). -/
  diag : Bool := false
  /-- Qualifying beats of earlier pulses (R474), and the beat of the last valid measurement or change of MODE (R475). -/
  acc : Nat := 0
  measured : Nat := 0
  /-- Off after a valid open measurement until MODE is written (R474). -/
  stopped : Bool := false
  /-- The K code applied since the last boundary (R472). -/
  k : Nat := 0x4000
  /-- The current its sink regulates to, in steps of 150 mA ÷ 65,536 (R466). -/
  level : Nat := 0
  deriving DecidableEq, Repr

/-- The illumination block beside its registers (13). -/
structure IllSt where
  chs : List (Nat × IllCh) := []
  /-- K of each colour after its last conversion (R472). -/
  kc : List (Nat × Nat) := []
  /-- GSCALE and PERIOD wait for this beat (R470). -/
  globalDue : Option Nat := none
  /-- Start of the running neighbour test (R476). -/
  ntest : Option Nat := none
  deriving DecidableEq, Repr

/-- A phase of a stepper profile: microseconds, acceleration at its start and end (linear between, R482). -/
structure MotPhase where
  us : Nat
  a0 : Rat
  a1 : Rat
  deriving DecidableEq, Repr

/-- What an axis does once it is at rest (R486, R487). -/
inductive MotNext where
  | moveTo (t : Int)
  | run (v : Rat)
  deriving DecidableEq, Repr

/-- A stamped command that waits for its beat (R484): operation, target, beat. -/
structure MotStamp where
  op : Nat
  tgt : Nat
  due : Nat
  deriving DecidableEq, Repr

/-- A stepper axis beside its registers (R480 to R498). Positions in µsteps, times in seconds. -/
structure MotAx where
  p : Rat := 0
  v : Rat := 0
  a : Rat := 0
  /-- The plan: its phases, microseconds of the first one done. -/
  phases : List MotPhase := []
  done : Nat := 0
  next : Option MotNext := none
  /-- Beat of the last update, and since when the axis has been at rest (R482, R491). -/
  updAt : Nat := 0
  restAt : Nat := 0
  /-- Current amplitude in 1/255 of full scale, the one at rest, stall measurements in a row (R491, R492). -/
  amp : Rat := 0
  amp0 : Rat := 0
  stalls : Nat := 0
  /-- Hand-over of the current regulation: period k, and the difference it fades out, which no rule gives (R490). -/
  hov : Option (Nat × Nat) := none
  pwmAt : Nat := 0
  /-- Homing (R495): start, whether the phase's stop runs, the position of the back-off edge, the encoder position at the
  switch edge that an index must follow. -/
  hStart : Nat := 0
  hStop : Bool := false
  hEdge : Option Int := none
  hIdx : Option Int := none
  stamped : Option MotStamp := none
  deriving DecidableEq, Repr

/-- An encoder channel beside its registers (R499 to R505). -/
structure EncSt where
  /-- Filtered lines. -/
  lineA : Bool := false
  lineB : Bool := false
  /-- Illegal transitions of the window (R500). -/
  ill : Nat := 0
  /-- IDXREF, and the position of the last index or of the check's restart (R501, R502). -/
  ref : Nat := 0
  last : Int := 0
  /-- Beats of the last count and of the one before it, its direction, net counts of the window, the window's start (R503). -/
  c0 : Option Nat := none
  c1 : Option Nat := none
  up : Bool := true
  net : Int := 0
  winAt : Nat := 0
  /-- A blend: window m and the difference (R504). -/
  blend : Option (Nat × Nat) := none
  deriving DecidableEq, Repr

/-- Motion and encoders beside their registers (14). -/
structure MotSt where
  axes : List (Nat × MotAx) := []
  encs : List (Nat × EncSt) := []
  /-- The motor bus is below VMUV (R497). -/
  vmBad : Bool := false
  deriving DecidableEq, Repr

/-- The calibrator (15) beside its registers. -/
structure CalSt where
  /-- Steps still pending in the pass, as (kind, unit), in order (R516); none: no pass has begun. -/
  pass : Option (List (Nat × Nat)) := none
  /-- The running step: kind, unit, start beat (R516). -/
  running : Option (Nat × Nat × Nat) := none
  /-- The gap in which the present tries take place (the beat its mode began), and the steps tried in it (R519); whether
  the pass ended in it (R516). -/
  gap : Nat := 0
  tried : List (Nat × Nat) := []
  ended : Bool := false
  /-- A trim save in progress: the generation it writes and the record (R521, R522). -/
  save : Option (Nat × List Byte) := none
  /-- Bad REXT measurements in a row (R513). -/
  rextBad : Nat := 0
  /-- The trim-missing report is due in Boot (R524). -/
  missing : Bool := false
  /-- Since when each laser's gate has been inactive and its code 0 (R517). -/
  idleSince : List (Nat × Nat) := []
  deriving DecidableEq, Repr

/-- The state of the block. -/
structure State where
  /-- Commands that wait, first in, first out. -/
  pending : List Instr := []
  /-- The MODEL's record of what the last command sent (log entry 5). -/
  out : List Out := []
  /-- The MODEL's record of the last bus completion (log entry 5). -/
  resp : Option Completion := none
  /-- The MODEL's count of free values drawn (log entry 6). -/
  free : Nat := 0
  /-- The train beat counter (R36). -/
  beat : Nat := 0
  /-- The layer beat counter runs (R148). -/
  lbRun : Bool := false
  /-- The register file: fields whose value differs from their reset value, by field key. -/
  regs : List (Nat × Nat) := []
  /-- Latched _HI words (R5), by master * 2^40 + address of the _LO register. -/
  hiLatch : List (Nat × Nat) := []
  /-- DRAM, dial memory, program memory, pixel line buffers (R25): bytes other than 0. -/
  mem : List Host.Cell := []
  /-- The NV store array (R574): bytes other than 0. -/
  nv : List Host.Cell := []
  mode : ModeSt := {}
  flt : FltSt := {}
  rst : RstSt := {}
  host : HostSt := {}
  /-- Escapements by number. -/
  escs : List (Nat × EscSt) := []
  /-- Barriers: 0 to 15 device scope, 16 to 31 fabric scope. -/
  bars : List (Nat × BarSt) := []
  /-- Release beats of start commands (R144). -/
  starts : List Nat := []
  /-- Zones to release on the next beat of the bridge, with their holders (R106, R283). -/
  yieldDue : List (Nat × Nat) := []
  /-- Zones' waiting lists: zone, escapements in order of arrival (R289). -/
  claims : List (Nat × List Nat) := []
  /-- The seed in force at the entry into Armed (R302). -/
  seed : Nat := 0
  /-- The last setpoint of each head (R183). -/
  setps : List (Nat × SetRec) := []
  /-- Regulators by number. -/
  regl : List (Nat × RegSt) := []
  /-- Laser ports by number. -/
  ports : List (Nat × PortSt) := []
  /-- Ports whose control has not yet returned after the hack line (R237), bit n. -/
  portHold : Nat := 0
  /-- Beat since which A and B have differed (R238). -/
  ilkDiff : Option Nat := none
  dial : DialSt := {}
  /-- Beat on which LP_ILK.FIRST was latched (R239). -/
  ilkFirst : Option Nat := none
  /-- Levels of the inputs that registers show, by field key: no reset changes them (log entry 37). -/
  pins : List (Nat × Nat) := []
  /-- The master of the request that the command in progress serves (R17). -/
  req : Option Nat := none
  /-- The master that the fault capture records, none where no request led to it (R17). -/
  capMaster : Option Nat := none
  /-- Writes of the block's own masters that the command in progress has made, and ends of earlier ones (R18, R24). -/
  own : List OwnWrite := []
  /-- Corrected-error counters of the on-die memories (R28): program, dial, line buffers. -/
  eccCount : List (Nat × Nat) := []
  /-- The setpoint before the last one of each head (R330). -/
  setPrev : List (Nat × SetRec) := []
  /-- The balance engine. -/
  bal : BalSt := {}
  /-- Head links by number. -/
  hls : List (Nat × HlSt) := []
  /-- The Skeuz block. -/
  skz : SkzSt := {}
  /-- The imaging block. -/
  img : ImgSt := {}
  /-- The illumination block. -/
  ill : IllSt := {}
  /-- Motion and encoders. -/
  mot : MotSt := {}
  cal : CalSt := {}
  deriving DecidableEq, Repr

/-- The machine right after reset: the internal reset of a power-on episode has ended and the PLLs have locked, so
Load runs (R531), in mode Load with the hack line asserted (R536); every register at its reset value (log entry 4), and the dial clears itself (R263: 524.288 µs). -/
def State.reset : State :=
  { rst := { phase := .loading, reach := 3 }
    dial := { clear := some 209716 }
    regs := [(0x2000400200 * 32, 1)] }

end Sys2Proof.Machine
end

