-- ==== Sys2Proof/Machine/Ops.lean ====
section
/-! DEFINITION. The named operations over registers and memory: reading and writing one field, a whole register
(R3 to R9), bytes of memory (R25, R28), the reset of a reach (R10, R11), free values, and what a command sends. -/
namespace Sys2Proof.Machine

/-! ### Fields -/

/-- The value of a field. -/
def State.get (s : State) (f : Fld) : Nat := Sparse.get f.rst s.regs f.key

/-- The state with a field set, cut to its width. -/
def State.set (s : State) (f : Fld) (v : Nat) : State :=
  { s with regs := Sparse.put f.rst s.regs f.key (v % 2 ^ f.width) }

/-- A one-bit field is set. -/
def State.flag (s : State) (f : Fld) : Bool := s.get f == 1

/-- The value in force of an RWS field (R8). -/
def State.live (s : State) (f : Fld) : Nat := s.get f.copy

/-- A one-bit RWS field is set in force. -/
def State.liveFlag (s : State) (f : Fld) : Bool := s.live f == 1

/-- A counter that wraps. -/
def State.incWrap (s : State) (f : Fld) : State := s.set f (s.get f + 1)

/-- A counter that stops at its maximum. -/
def State.incSat (s : State) (f : Fld) : State :=
  if s.get f + 1 < 2 ^ f.width then s.set f (s.get f + 1) else s

/-- A counter that stops at its maximum, advanced by `n`. -/
def State.addSat (s : State) (f : Fld) (n : Nat) : State :=
  s.set f (min (s.get f + n) (2 ^ f.width - 1))

/-- A 40-bit or 64-bit quantity in a pair of fields (R5). -/
def State.pair (s : State) (lo hi : Fld) : Nat := s.get hi * 2 ^ 32 + s.get lo * 2 ^ lo.lo

/-- The pair set from a number. -/
def State.setPair (s : State) (lo hi : Fld) (v : Nat) : State :=
  (s.set lo ((v % 2 ^ 32) / 2 ^ lo.lo)).set hi (v / 2 ^ 32)

/-- The registers answer: no reset but Load is in progress. -/
def State.sysLive (s : State) : Bool := s.rst.phase == .off || s.rst.phase == .loading

/-- The level of the input that a field shows (log entry 37). -/
def State.pinLevel (s : State) (f : Fld) : Nat := Sparse.get 0 s.pins f.key

/-- The level of an input changes; its field shows it while its block runs (R10). -/
def State.setPin (s : State) (live : Bool) (f : Fld) (v : Nat) : State :=
  let t := { s with pins := Sparse.put 0 s.pins f.key (v % 2 ^ f.width) }
  if live then t.set f v else t

/-- The fields at the addresses `p` selects show the levels of their inputs again: their reset has ended (R10). -/
def State.showPins (s : State) (p : Nat → Bool) : State :=
  { s with regs := s.pins.foldl (fun m e => if p (e.1 / 32) then Sparse.put 0 m e.1 e.2 else m) s.regs }

/-! ### What a command sends -/

/-- A command begins: what the last one sent is dropped (log entry 5). -/
def State.begin (s : State) : State :=
  { s with out := [], req := none, own := [], flt := { s.flt with todo := [], force := [] } }

/-- The state with one more message sent. -/
def State.emit (s : State) (o : Out) : State := { s with out := s.out ++ [o] }

/-- GSKEW of a port, its 8-bit code (R515). -/
def State.gskew (s : State) (n : Nat) : Nat := s.get (CAL_GSKEW_SKEWS (n / 4)) / 2 ^ (8 * (n % 4)) % 256

/-! ### Ball groups (R539, R619, R620) -/

/-- The hard-wired default of a group's balls (R619): one state for all of them, or one for each. -/
def wiredBalls (kk : Nat) : List Ball :=
  match kk with
  | 0 | 2 | 4 => [.pullDown]
  | 1 | 6 | 10 | 12 => [.pullUp]
  | 3 => [.hiZ]
  | 5 | 7 | 8 | 11 => [.low]
  | 9 => [.pullDown, .pullUp]
  | _ => []

/-- The groups on which codes 3 and 4 act as 0 (R619). -/
def inputBalls : List Nat := [0, 1, 2, 4, 6, 12]

/-- What a fuse code does to a group (R539, R619) after an episode of a reach. -/
def fuseBall (kk reach code : Nat) : Ball :=
  match code with
  | 1 => .pullUp
  | 2 => .pullDown
  | 3 => if inputBalls.contains kk then .hiZ else .low
  | 4 => if inputBalls.contains kk || kk == 3 then .hiZ else .high
  | 5 => if reach = 1 then .hold else .hiZ
  | _ => .hiZ

/-- What the balls of a group do (R620): from the first beat of an episode to the commit that follows, the fuse states of
the last commit, or the hard-wired defaults where none has followed an episode of reach P or B; then the fuse states until
the owner has first used the group, or Boot has ended. Groups 13 to 31 have no balls. -/
def State.ballState (s : State) (kk : Nat) : List Ball :=
  if 12 < kk then []
  else if s.rst.phase = .off ∧ (s.get SYS_MODE_STAT_MODE ≠ 1 ∨ s.rst.ballsFree.testBit kk) then [.working]
  else if s.rst.ballsIn then [fuseBall kk s.rst.reach (s.get (SYS_BALLMAP_CODE kk))]
  else wiredBalls kk

/-- The block that owns a group uses it: the group leaves its reset state (R620, log entry 147). -/
def State.ballUse (s : State) (kk : Nat) : State := { s with rst := { s.rst with ballsFree := s.rst.ballsFree ||| 2 ^ kk } }

/-- The ball group of an output by its pin code: SPLIT_OUT, CAMTRIG_0 to 3, STROBE, the pass-through pairs. -/
def pinGroup (code : Nat) : Nat := if code = 1 then 5 else if code < 0x14 then 7 else if code < 0x80 then 8 else 11

/-- A block drives an output of a ball group. -/
def State.drivePin (s : State) (code v : Nat) : State := (s.ballUse (pinGroup code)).emit (.pin code v)

/-- The state with a bus completion recorded. -/
def State.reply (s : State) (m : Nat) (ok : Bool) (data : Nat) : State := { s with resp := some ⟨m, ok, data⟩ }

/-- The next free value (log entry 6). -/
def State.freeNext (s : State) : Nat := (Config.freeValue s.free).toNat

/-- The state after a free value has been drawn. -/
def State.draw (s : State) : State := { s with free := s.free + 1 }

/-- The operating mode (R41). -/
def State.modeCode (s : State) : Nat := s.get SYS_MODE_STAT_MODE

/-- Beats in a microsecond (400 MHz). -/
def beatsPerUs : Nat := 400

/-- Beats in a millisecond. -/
def beatsPerMs : Nat := 400000

/-- The low 48 bits of the train beat counter. -/
def State.beat48 (s : State) : Nat := s.beat % 2 ^ 48

/-- The layer beat counter (R148). -/
def State.lbeat (s : State) : Nat := s.pair ESC_LBEAT_LO_BEAT ESC_LBEAT_HI_BEAT

/-! ### The register map -/

/-- Every block's window (R25, R609). -/
def allMaps : List BlockMap :=
  [sysMap, escMap, esccMap, trjMap, brgMap, dialMap, regMap, balMap, hlMap, skzMap, imgMap, illMap, motMap, encMap,
   calMap, fltMap, chrMap, nvsMap, hostMap, drcMap, lpMap, splMap]

/-- A row of the table stands at an offset of its block. -/
def RegRow.covers (r : RegRow) (ofs : Nat) : Bool :=
  let d := ofs - r.off
  let i := if r.s1 = 0 then 0 else d / r.s1
  let rem := if r.s1 = 0 then d else d % r.s1
  let j := if r.s2 = 0 then 0 else rem / r.s2
  let rem2 := if r.s2 = 0 then rem else rem % r.s2
  decide (r.off ≤ ofs) && decide (i < r.n1) && decide (j < r.n2) && decide (rem2 = 0)

/-- The row of a block at an address, `back` bytes below it. -/
def BlockMap.rowAt (b : BlockMap) (a back : Nat) : Option RegRow :=
  if b.base ≤ a ∧ a < b.base + b.units * b.stride then
    let ofs := (a - b.base) % b.stride
    if back ≤ ofs then b.rows.find? (fun r => r.covers (ofs - back)) else none
  else none

/-- The row of the register at an address. -/
def findReg (a : Nat) : Option RegRow := allMaps.findSome? (fun b => b.rowAt a 0)

/-- The row of the RWS register whose copy in force stands at an address, with the distance back to it (R8). -/
def findCopy (a : Nat) : Option (RegRow × Nat) :=
  allMaps.findSome? (fun b =>
    if b.copyOfs = 0 then none
    else match b.rowAt a b.copyOfs with
      | some r => if r.fields.any (fun f => f.acc == .rws) then some (r, b.copyOfs) else none
      | none => none)

/-- The class of a source number is laser-safety (R558, R559). -/
def srcSafety (s : Nat) : Bool :=
  if s < 0x80 then s == 0 || s == 2 || s == 3 || s == 5 || s == 6
  else
    let f := (s - 0x80) % 16
    f == 0 || f == 7 || f == 8 || f == 9 || f == 0xB || f == 0xC

/-- The source number is assigned by the tables of R558 and R610. -/
def srcAssigned (s : Nat) : Bool :=
  if 0x80 ≤ s then decide (s < 0x200) && !((s - 0x80) % 16 == 0xF)
  else
    let within (lo n : Nat) := decide (lo ≤ s) && decide (s < lo + n)
    within 0 0xE || within 0x10 3 || within 0x14 4 || within 0x18 4 || within 0x1C 4 || within 0x20 5 ||
    within 0x28 4 || within 0x2C 2 || within 0x30 5 || within 0x38 3 || within 0x3C 3 || within 0x40 6 ||
    s == 0x46 || within 0x48 6 || within 0x50 6 || within 0x58 6 || within 0x60 6 || within 0x68 6 ||
    within 0x70 6 || within 0x78 6

/-- The default reaction of a source is the non-maskable trap (R147, R560, dial, Skeuz and DRAM tables). -/
def srcNmi (s : Nat) : Bool :=
  s == 0x008 || s == 0x00A || s == 0x00B || s == 0x021 || s == 0x022 || s == 0x07C

/-- Reset value of a field of FLT_CFG_sss (R589): the default reactions of R560 and of the chapters. -/
def fltCfgReset (s lo : Nat) : Nat :=
  if !srcAssigned s then 0
  else if lo = 31 ∨ lo = 29 then b2n (srcSafety s)
  else if lo = 25 then b2n (srcNmi s)
  else if lo = 24 then b2n ((!srcSafety s && !srcNmi s) || s == 0x005)
  else if lo = 20 then (if srcSafety s then 3 else if srcNmi s then 2 else 1)
  else if lo = 16 then 1
  else 0

/-- A field of FLT_CFG_sss (R589). -/
def FLT_CFG_field (s lo width : Nat) : Fld := ⟨0x2000E01000 + 4 * s, lo, width, fltCfgReset s lo, 0⟩
/-- FLT_CFG_sss.HACK (R589). -/
def FLT_CFG_HACK (s : Nat) : Fld := FLT_CFG_field s 29 1
/-- FLT_CFG_sss.ERR (R589). -/
def FLT_CFG_ERR (s : Nat) : Fld := FLT_CFG_field s 28 1
/-- FLT_CFG_sss.CRST (R589). -/
def FLT_CFG_CRST (s : Nat) : Fld := FLT_CFG_field s 27 1
/-- FLT_CFG_sss.BRST (R589). -/
def FLT_CFG_BRST (s : Nat) : Fld := FLT_CFG_field s 26 1
/-- FLT_CFG_sss.NMI (R589). -/
def FLT_CFG_NMI (s : Nat) : Fld := FLT_CFG_field s 25 1
/-- FLT_CFG_sss.IRQ (R589). -/
def FLT_CFG_IRQ (s : Nat) : Fld := FLT_CFG_field s 24 1
/-- FLT_CFG_sss.SEV (R589). -/
def FLT_CFG_SEV (s : Nat) : Fld := FLT_CFG_field s 20 2
/-- FLT_CFG_sss.SPLIT (R589). -/
def FLT_CFG_SPLIT (s : Nat) : Fld := FLT_CFG_field s 17 1
/-- FLT_CFG_sss.CHR (R589). -/
def FLT_CFG_CHR (s : Nat) : Fld := FLT_CFG_field s 16 1
/-- FLT_CFG_sss.SNAPSET (R589). -/
def FLT_CFG_SNAPSET (s : Nat) : Fld := FLT_CFG_field s 0 6

/-- An address lies among the FLT_CFG_sss registers. -/
def isFltCfg (a : Nat) : Bool := decide (0x2000E01000 ≤ a) && decide (a < 0x2000E01800)

/-- Reset value of the field row `f` of the register at `a`. -/
def fieldReset (a : Nat) (f : FieldRow) : Nat :=
  if isFltCfg a then fltCfgReset ((a - 0x2000E01000) / 4) f.lo else f.reset

/-- The field of the register at `a` that a field row describes. -/
def fieldAt (a : Nat) (f : FieldRow) : Fld := ⟨a, f.lo, f.width, fieldReset a f, 0⟩

/-- The word a register row reads at address `a` (R6: a W1P field reads 0). -/
def State.assemble (s : State) (a : Nat) (fs : List FieldRow) : Nat :=
  fs.foldl (fun acc f => if f.acc == .w1p then acc else acc + s.get (fieldAt a f) * 2 ^ f.lo) 0

/-- The current word at a register address, without side effect; an unassigned address reads 0 (R9). -/
def State.peekReg (s : State) (a : Nat) : Nat :=
  match findReg a with
  | some r =>
    -- LP_ILK.HACK shows the hack line (R246)
    if a = 0x2001300200 then s.assemble a (r.fields.filter (fun f => f.lo != 2)) + 4 * s.get FLT_HACK_STATE
    else s.assemble a r.fields
  | none =>
    match findCopy a with
    | some (r, _) => s.assemble a (r.fields.filter (fun f => f.acc == .rws))
    | none =>
      -- DIAL_ORG_X and DIAL_ORG_Y have a copy in force though no shadow (R273)
      if a = 0x2000400408 then s.get DIAL_ORG_X_ORG else if a = 0x200040040C then s.get DIAL_ORG_Y_ORG else 0

/-- The RC fields of a register cleared (R6, R7). RC fields of SUP_MIN and SYS_TEMP return to their reset value,
which is the empty extreme (log entry 9). -/
def State.clearRc (s : State) (a : Nat) : State :=
  match findReg a with
  | some r => r.fields.foldl (fun t f => if f.acc == .rc then t.set (fieldAt a f) (fieldReset a f) else t) s
  | none => s

/-- The field may not be written though its code is RW: FLT_CFG.HACK of a laser-safety source (R562), and every field
of a reserved source's FLT_CFG (R589). -/
def writeBlocked (a : Nat) (f : FieldRow) : Bool :=
  isFltCfg a && (let src := (a - 0x2000E01000) / 4
    !srcAssigned src || (f.lo == 29 && srcSafety src))

/-- The stored effect of a write on one field by its access code (R6). -/
def State.writeField (s : State) (a v : Nat) (f : FieldRow) : State :=
  let x := bits v (f.lo + f.width - 1) f.lo
  if writeBlocked a f then s
  else match f.acc with
    | .rw => s.set (fieldAt a f) x
    | .rws => s.set (fieldAt a f) x
    | .w1c =>
      let old := s.get (fieldAt a f)
      s.set (fieldAt a f) (old - (old &&& x))
    | _ => s

/-- The stored effect of a register write (R6, R9): each field by its code; an unassigned address ignores it. -/
def State.writeFields (s : State) (a v : Nat) : State :=
  match findReg a with
  | some r => r.fields.foldl (fun t f => t.writeField a v f) s
  | none => s

/-- The registers whose name ends in _LO (R5): first address, count and stride, units of the block and their stride. The
paired _HI register stands 4 bytes above. -/
def loRegs : List (Nat × (Nat × (Nat × (Nat × Nat)))) :=
  [(0x2000000008, (1, (0x0, (1, 0x100000)))), (0x2000000608, (1, (0x0, (1, 0x100000)))),
   (0x2000000614, (1, (0x0, (1, 0x100000)))), (0x2000000700, (4, (0x8, (1, 0x100000)))),
   (0x2000000720, (1, (0x0, (1, 0x100000)))), (0x2000100010, (1, (0x0, (24, 0x10000)))),
   (0x2000100018, (1, (0x0, (24, 0x10000)))), (0x2000100020, (1, (0x0, (24, 0x10000)))),
   (0x2000100028, (1, (0x0, (24, 0x10000)))), (0x2000100034, (1, (0x0, (24, 0x10000)))),
   (0x200010003C, (1, (0x0, (24, 0x10000)))), (0x2000100044, (1, (0x0, (24, 0x10000)))),
   (0x2000100068, (1, (0x0, (24, 0x10000)))), (0x2000100200, (16, (0x8, (24, 0x10000)))),
   (0x2000280004, (1, (0x0, (1, 0x80000)))),
   (0x2000280010, (1, (0x0, (1, 0x80000)))), (0x2000301004, (64, (0x20, (1, 0x100000)))),
   (0x2000600A04, (4, (0x40, (1, 0x100000)))),
   (0x2000800008, (1, (0x0, (1, 0x100000)))), (0x2000800024, (1, (0x0, (1, 0x100000)))),
   (0x2000800180, (16, (0x8, (1, 0x100000)))), (0x2000800210, (4, (0x20, (1, 0x100000)))),
   (0x2000900008, (1, (0x0, (1, 0x100000)))), (0x2000901010, (4, (0x100, (1, 0x100000)))),
   (0x200090201C, (24, (0x80, (1, 0x100000)))), (0x2000B0010C, (6, (0x80, (1, 0x100000)))),
   (0x2000E00014, (1, (0x0, (1, 0x100000)))), (0x2001100008, (1, (0x0, (1, 0x100000)))),
   (0x2001100104, (4, (0x20, (1, 0x100000)))), (0x200110010C, (4, (0x20, (1, 0x100000)))),
   (0x200120000C, (1, (0x0, (1, 0x100000)))), (0x200140000C, (1, (0x0, (1, 0x100000))))]

/-- The register at `a` is the low word of a pair (R5). -/
def isLo (a : Nat) : Bool :=
  loRegs.any (fun (b, (n, (st, (u, ust)))) =>
    decide (b ≤ a) && (let d := a - b
      decide (d / ust < u) && (let o := d % ust
        if st = 0 then o == 0 else o % st == 0 && decide (o / st < n))))

/-- The register at `a` is the high word of a pair (R5). -/
def isHi (a : Nat) : Bool := decide (4 ≤ a) && isLo (a - 4)

/-- Keys `lo*32` up to `hi*32` of the register file: the fields at addresses `lo ≤ a < hi`. -/
def inAddrs (lo hi k : Nat) : Bool := decide (lo * 32 ≤ k) && decide (k < hi * 32)

/-- The reach of the field at a key of the register file. -/
def keyReach (k : Nat) : Reach :=
  let a := k / 32
  let lo := k % 32
  let fs := match findReg a with
    | some r => r.fields
    | none => match findCopy a with
      | some (r, _) => r.fields
      | none => []
  match fs.find? (fun f => f.lo == lo) with
  | some f => f.reach
  | none => .k

/-- Every field of reach `rank` or narrower, at the addresses `p` selects, back at its reset value (R10, R11); the
latched high words of those blocks are gone (R5). -/
def State.resetRegs (s : State) (rank : Nat) (p : Nat → Bool) : State :=
  { s with
    regs := s.regs.filter (fun e => !(p (e.1 / 32) && decide ((keyReach e.1).rank ≤ rank)))
    hiLatch := s.hiLatch.filter (fun e => !p (e.1 % 2 ^ 40)) }

/-- The shadows of the RWS fields at the addresses `p` selects pass to the values in force, `ofs` bytes above (R8). -/
def State.commitShadow (s : State) (ofs : Nat) (p : Nat → Bool) : State :=
  let isRws (k : Nat) : Bool := match findReg (k / 32) with
    | some r => r.fields.any (fun f => f.acc == .rws && f.lo == k % 32)
    | none => false
  let shadow := s.regs.filter (fun e => p (e.1 / 32) && isRws e.1)
  let kept := s.regs.filter (fun e => !(decide (ofs * 32 ≤ e.1) && p ((e.1 - ofs * 32) / 32) && isRws (e.1 - ofs * 32)))
  { s with regs := shadow.foldl (fun m e => Sparse.insert m (e.1 + ofs * 32) e.2) kept }

/-! ### Memory -/

/-- The byte an unlisted address of memory reads as: 0 (log entry 7). -/
def memDefault : Byte := 0

/-- One byte of memory (DRAM and on-die SRAM). -/
def State.byte (s : State) (a : Nat) : Byte := Sparse.get memDefault s.mem a

/-- The state with one byte of memory written. -/
def State.setByte (s : State) (a : Nat) (v : Byte) : State := { s with mem := Sparse.put memDefault s.mem a v }

/-- `n` bytes from address `a`, little-endian (R3). -/
def State.load (s : State) (a : Nat) : Nat → Nat
  | 0 => 0
  | n + 1 => (s.byte a).toNat + 256 * s.load (a + 1) n

/-- Bytes written from address `a` upwards. -/
def State.store (s : State) (a : Nat) : List Byte → State
  | [] => s
  | b :: t => (s.setByte a b).store (a + 1) t

/-- The `n` low bytes of a number, lowest first. -/
def leBytes (v : Nat) : Nat → List Byte
  | 0 => []
  | n + 1 => BitVec.ofNat 8 v :: leBytes (v / 256) n

/-- Bytes as a little-endian number. -/
def leNat : List Byte → Nat
  | [] => 0
  | b :: t => b.toNat + 256 * leNat t

/-- One byte of the NV array (R574). -/
def State.nvByte (s : State) (a : Nat) : Byte := Sparse.get memDefault s.nv a

/-- `n` bytes of the NV array from offset `a`. -/
def State.nvLoad (s : State) (a : Nat) : Nat → Nat
  | 0 => 0
  | n + 1 => (s.nvByte a).toNat + 256 * s.nvLoad (a + 1) n

/-- Bytes written into the NV array. -/
def State.nvStore (s : State) (a : Nat) : List Byte → State
  | [] => s
  | b :: t => State.nvStore { s with nv := Sparse.put memDefault s.nv a b } (a + 1) t

/-- Memory bytes at the addresses `lo ≤ a < hi` back to 0. -/
def State.zeroMem (s : State) (lo hi : Nat) : State :=
  { s with mem := s.mem.filter (fun c => !(decide (lo ≤ c.1) && decide (c.1 < hi))) }

/-- Memory in canonical form: addresses rising, no byte listed at what an unlisted address reads as. -/
def Memory.wf (m : List Host.Cell) : Bool := Sparse.wf (fun _ => memDefault) m

/-- Every array of bytes of the state is in canonical form. -/
def State.memWf (s : State) : Bool := Memory.wf s.mem && Memory.wf s.nv

/-- What stands at an address (R25 to R27, R609). -/
inductive Region where
  | dram | dialMem | progMem | lineBuf
  | reg
  | rom
  | nvData
  | fabric
  | unmapped
  deriving DecidableEq, Repr

/-- Fitted DRAM capacity in bytes (R599, R612). -/
def State.dramFitted (s : State) : Nat := 4294967296 * 2 ^ s.get DRC_STAT_CAP

/-- Top of usable DRAM (R26). -/
def State.dramTop (s : State) : Nat :=
  if s.flag DRC_CFG_IECC then s.dramFitted / 16 * 15 else s.dramFitted

/-- The region of an address (R25). -/
def State.region (s : State) (a : Nat) : Region :=
  if a < s.dramTop ∧ a < 0x400000000 then .dram
  else if 0x1000000000 ≤ a ∧ a < 0x1002000000 then .dialMem
  else if 0x1002000000 ≤ a ∧ a < 0x1002800000 then .progMem
  else if 0x1002800000 ≤ a ∧ a < 0x1002C00000 then .lineBuf
  else if 0x20000F0000 ≤ a ∧ a < 0x2000100000 then .rom
  else if 0x2001080000 ≤ a ∧ a < 0x2001100000 then .nvData
  else if 0x2000000000 ≤ a ∧ a < 0x2001500000 then .reg
  else if 0x3000000000 ≤ a ∧ a < 0x4000000000 then .fabric
  else .unmapped

/-- The block, as 32 r + bit of R554, whose reset makes a register address answer with an error (R24, R534). -/
def blockOf (a : Nat) : Option Nat :=
  if 0x2000100000 ≤ a ∧ a < 0x2000280000 then
    let n := (a - 0x2000100000) / 0x10000
    let o := (a - 0x2000100000) % 0x10000
    some (if (0x400 ≤ o ∧ o < 0x568) ∨ (0x4000 ≤ o ∧ o < 0xC408) then 32 + n else n)
  else if 0x2000500000 ≤ a ∧ a < 0x2000518000 then some (64 + (a - 0x2000500000) / 0x1000)
  else if 0x2000700000 ≤ a ∧ a < 0x2000718000 then some (96 + (a - 0x2000700000) / 0x1000)
  else if 0x2000300000 ≤ a ∧ a < 0x2000400000 then some 128
  else if 0x2000400000 ≤ a ∧ a < 0x2000500000 then some 129
  else if 0x2000600000 ≤ a ∧ a < 0x2000700000 then some 130
  else if 0x2000800000 ≤ a ∧ a < 0x2000900000 then some 131
  else if 0x2000900000 ≤ a ∧ a < 0x2000A00000 then some 132
  else if 0x2000A00000 ≤ a ∧ a < 0x2000B00000 then some 133
  else if 0x2000B00000 ≤ a ∧ a < 0x2000C00000 then some 134
  else if 0x2000C00000 ≤ a ∧ a < 0x2000D00000 then some 135
  else if 0x2000D00000 ≤ a ∧ a < 0x2000E00000 then some 136
  else if 0x2000F00000 ≤ a ∧ a < 0x2001000000 then some 137
  else if 0x2001000000 ≤ a ∧ a < 0x2001100000 then some 138
  else if 0x2001100000 ≤ a ∧ a < 0x2001200000 then some 139
  else if 0x2001200000 ≤ a ∧ a < 0x2001300000 then some 140
  else if 0x2001300000 ≤ a ∧ a < 0x2001400000 then some 141
  else if 0x2001400000 ≤ a ∧ a < 0x2001500000 then some 142
  else none

/-- A block is held in block reset (R534). -/
def State.heldInReset (s : State) (code : Nat) : Bool := s.flt.inReset.any (fun e => e.1 == code)

/-- The register at an address cannot be reached: its block is held in reset (R24). -/
def State.blockHeld (s : State) (a : Nat) : Bool :=
  match blockOf a with
  | some c => s.heldInReset c
  | none => false

/-- The target of an address in the order of R20: a memory, a 1 MiB part of the register space, a device of the fabric. -/
def State.target (s : State) (a : Nat) : Nat :=
  match s.region a with
  | .dram => 0 | .dialMem => 1 | .progMem => 2 | .lineBuf => 3 | .rom => 4 | .nvData => 5 | .unmapped => 6
  | .fabric => 16 + (a - 0x3000000000) / 2 ^ 32
  | .reg => 64 + (a - 0x2000000000) / 0x100000

/-- The width and alignment of an access are those of a register access (R4). -/
def regAccessOk (a n : Nat) : Bool := n == 4 && a % 4 == 0

end Sys2Proof.Machine
end

