-- ==== Sys2Proof/Machine/Raise.lean ====
section
/-! DEFINITION. Interrupt lines (R596), chronograph records (R578 to R583), the hack line (R564, R565), and the
assertion of a fault source with its capture and the reactions that act at once (R557 to R570). Reactions that act
through other blocks (Halted, block reset, chip reset, split) are left in `flt` for Machine/Settle.lean. -/
namespace Sys2Proof.Machine

/-! ### Interrupt lines -/

/-- Some word of a list of fields has a bit in common with the other's. -/
def State.anyPend (s : State) : Bool :=
  (List.range 16).any (fun w =>
    let p := s.get (FLT_PEND_SOURCE w)
    if p = 0 then false
    else (List.range 32).any (fun j => p.testBit j && s.flag (FLT_CFG_IRQ (32 * w + j))))

/-- ERR_N is pulled low (R563). -/
def State.errLow (s : State) : Bool :=
  (List.range 16).any (fun w =>
    let p := s.get (FLT_PEND_SOURCE w)
    if p = 0 then false
    else (List.range 32).any (fun j => p.testBit j && s.flag (FLT_CFG_ERR (32 * w + j))))

/-- The word of ESC_INT and-ed with ESC_INTEN is not 0 (R175). -/
def State.escIrq (s : State) (n : Nat) : Bool :=
  (s.flag (ESC_INT_HALT n) && s.flag (ESC_INTEN_HALT n)) || (s.flag (ESC_INT_TRAP n) && s.flag (ESC_INTEN_TRAP n)) ||
  (s.flag (ESC_INT_CONT n) && s.flag (ESC_INTEN_CONT n)) || (s.flag (ESC_INT_UNDER n) && s.flag (ESC_INTEN_UNDER n))

/-- The source of interrupt line `k` is active (R596, R65, R175, R597). Frame interrupts are pulses. -/
def State.lineActive (s : State) (k : Nat) : Bool :=
  if k = 0 then s.anyPend
  else if k = 1 then
    (s.flag SYS_MODE_EVT_CHANGED && s.flag SYS_MODE_CTL_CHANGE_IE) ||
    (s.flag SYS_MODE_EVT_LAYER && s.flag SYS_MODE_CTL_LAYER_IE) ||
    (s.flag SYS_MODE_EVT_HALTED && s.flag SYS_MODE_CTL_HALT_IE)
  else if k < 26 then s.escIrq (k - 2)
  else if 30 ≤ k ∧ k < 34 then s.flag (HP_DMA_STAT_DONE (k - 30))
  else false

/-- The register that shows line `k` active. -/
def cipField (k : Nat) : Fld := if k < 32 then SYS_CIP_LO_ACT else SYS_CIP_HI_ACT

/-- Line `k` changes to active: its message goes out, or its Pending Bit sets while it is masked (R596). -/
def State.msixFire (s : State) (k : Nat) : State :=
  if s.host.msixMask.testBit k then { s with host := { s.host with msixPend := s.host.msixPend ||| 2 ^ k } }
  else s.emit (.msix k)

/-- Line `k` follows its source (R596). -/
def State.refreshLine (s : State) (k : Nat) : State :=
  let f := cipField k
  let b := 2 ^ (k % 32)
  let was := (s.get f).testBit (k % 32)
  if s.lineActive k then
    if was then s else (s.set f (s.get f ||| b)).msixFire k
  else if was then s.set f (s.get f - b) else s

/-- The machine external interrupt of core `c`: some line enabled in SYS_CIE_c is active (R596). -/
def State.coreIrq (s : State) (c : Nat) : Bool :=
  (s.get SYS_CIP_LO_ACT &&& s.get (SYS_CIE_LO_EN c)) != 0 || (s.get SYS_CIP_HI_ACT &&& s.get (SYS_CIE_HI_EN c)) != 0

/-- A line that is active for an instant (the frame interrupts of R448). -/
def State.pulseLine (s : State) (k : Nat) : State := s.msixFire k

/-! ### Chronograph records -/

/-- The registers a snapshot set names, in order (R580), as offsets from 0x20_0000_0000. -/
def State.snapSet (s : State) (k : Nat) : List Nat :=
  (List.range 8).filterMap (fun j =>
    if s.flag (CHR_SET_VALID k j) then some (4 * s.get (CHR_SET_OFFSET k j)) else none)

/-- A record is queued, its snapshot set to be read at the end of the command (R580); with the queue full it is dropped
(R583); with EN clear nothing happens (R591). `pre` stands before the set's values (SNAP0 and SNAP1 of the mode records). -/
def State.record (s : State) (trig sev detail set : Nat) (rail inj persist : Bool) (pre : List Nat) : State :=
  if !s.flag CHR_CTL_EN then s
  else if s.heldInReset 137 then s
  else
    let r : ChrRec :=
      { hours := s.get SYS_HOURS_OPERATING, secs := s.get SYS_HSEC_SECONDS, sev, trig, rail, inj, persist, beat := s.beat % 2 ^ 32, detail
        snaps := pre, todo := (s.snapSet set).take (8 - pre.length) }
    if s.flt.queue.length < 32 then ({ s with flt := { s.flt with queue := s.flt.queue ++ [r] } }).set CHR_STAT_BUSY 1
    else (s.incSat CHR_DROP_QDROP).set CHR_STAT_QOVF 1

/-- The record of an accepted transition or an entry into Halted (R52, R580). -/
def State.modeRecord (s : State) (halted : Bool) : State :=
  s.record (if halted then 0x0201 else 0x0200) (if halted then 2 else 0) 0 (s.get CHR_TSET_MODE) false false false
    [s.peekReg 0x2000000104, s.peekReg 0x2000000108]

/-! ### The hack line -/

/-- Every laser gate inactive and every power DAC at code 0 (R43, R536, R565): no update of an earlier tick reaches a
DAC any more, and control returns port by port with the next tick after the release (R237). -/
def State.lasersSafe (s : State) : State :=
  let s1 := { s with
    ports := s.ports.map (fun e => (e.1, { e.2 with dac := 0, updates := [] }))
    portHold := 2 ^ 24 - 1 }
  (List.range 24).foldl (fun t n => (t.set (LP_STAT_GATE n) 0).set (LP_STAT_DACZ n) 1) s1

/-- A running calibration step ends as aborted (R518, R519): its trims stay, it stays pending. -/
def State.calAbort (s : State) : State :=
  match s.cal.running with
  | none => s
  | some _ =>
    ((((({ s with cal := { s.cal with running := none } }).incSat CAL_CNT_ABORT).set CAL_STAT_BUSY 0).set
      CAL_STAT_UNIT 0).set CAL_SEQ_KIND 0x3F)

/-- The hack line is asserted with a cause (R564, R565); the first cause since the last release stands. -/
def State.hackAssert (s : State) (cause : Nat) : State :=
  let s1 := if s.flag FLT_HACK_STATE then s
    else ((s.set FLT_HACK_STATE 1).set FLT_HACK_CAUSE cause).emit (.pin 0 0)
  s1.lasersSafe.calAbort

/-! ### Sources -/

/-- A source stays active until its condition ends; every other source is active for an instant. -/
def srcLevel (s : Nat) : Bool :=
  if 0x80 ≤ s then
    let f := (s - 0x80) % 16
    f == 0 || f == 1 || f == 4 || f == 0xB
  else s ≤ 6 || s == 0x00D || s == 0x046 || s == 0x032

/-- The block that owns a source, as 32 r + bit of R554 (R558). -/
def srcOwner (s : Nat) : Option Nat :=
  if 0x80 ≤ s then
    let n := (s - 0x80) / 16
    let f := (s - 0x80) % 16
    if f ≤ 1 then some 141
    else if f ≤ 3 then some n
    else if f = 4 then some (32 + n)
    else if f ≤ 6 then some (64 + n)
    else if f ≤ 9 then some 130
    else some (96 + n)
  else if s = 2 ∨ s = 3 ∨ s = 4 then some 141
  else if s = 6 ∨ (0x38 ≤ s ∧ s ≤ 0x3A) then some 136
  else if s = 0xB ∨ (0x10 ≤ s ∧ s ≤ 0x12) then some 129
  else if s = 0xC ∨ (0x28 ≤ s ∧ s ≤ 0x2D) then some 132
  else if s = 0xD ∨ (0x40 ≤ s ∧ s ≤ 0x65) then some 134
  else if 0x14 ≤ s ∧ s ≤ 0x17 then some 128
  else if 0x18 ≤ s ∧ s ≤ 0x1B then some 130
  else if 0x1C ≤ s ∧ s ≤ 0x24 then some 131
  else if 0x30 ≤ s ∧ s ≤ 0x34 then some 133
  else if 0x3C ≤ s ∧ s ≤ 0x3D then some 138
  else if s = 0x3E then some 137
  else if 0x68 ≤ s ∧ s ≤ 0x75 then some 135
  else if 0x78 ≤ s ∧ s ≤ 0x7A then some 139
  else if 0x7C ≤ s ∧ s ≤ 0x7D then some 140
  else none

/-- BAL_AXSTAT of the lowest-numbered axis of a head on which a flag is set (R558). -/
def State.axDetail (s : State) (n : Nat) (flag : Nat → Fld) : Nat :=
  let ax := ((List.range 3).map (fun k => 3 * n + k)).find? (fun a => s.flag (flag a))
  s.peekReg (0x2000601008 + 0x40 * ax.getD (3 * n))

/-- The detail word of a source (R558, R610); `arg` where the table names an address or a mask. -/
def State.srcDetail (s : State) (src arg : Nat) : Nat :=
  if 0x80 ≤ src then
    let n := (src - 0x80) / 16
    let f := (src - 0x80) % 16
    if f ≤ 1 then s.peekReg (0x2001300004 + 0x10 * n)
    else if f = 2 then s.peekReg (0x2000100030 + 0x10000 * n)
    else if f = 3 then s.peekReg (0x2000100008 + 0x10000 * n)
    else if f = 4 then s.peekReg (0x2000100560 + 0x10000 * n)
    else if f ≤ 6 then s.peekReg (0x2000500004 + 0x1000 * n)
    else if f = 7 then s.axDetail n BAL_AXSTAT_TRK
    else if f = 8 then s.axDetail n BAL_AXSTAT_NUMERR
    else if f = 9 then s.axDetail n BAL_AXSTAT_MISS
    else if f = 0xD then s.peekReg (0x2000700008 + 0x1000 * n)
    else s.peekReg (0x2000700004 + 0x1000 * n)
  else if src ≤ 1 then 0
  else if src ≤ 4 then s.peekReg 0x2001300200
  else if src = 5 then s.peekReg 0x2000000320
  else if src = 6 ∨ (0x38 ≤ src ∧ src ≤ 0x3A) then s.peekReg 0x2000D00004
  else if src = 7 then s.peekReg 0x2000000108
  else if src = 8 then s.peekReg 0x200028000C
  else if src = 9 then s.peekReg 0x2000000384
  else if src = 0xD ∨ src = 0x46 then s.peekReg 0x2000B00004
  else if 0x10 ≤ src ∧ src ≤ 0x12 then s.peekReg 0x2000400200
  else if 0x14 ≤ src ∧ src ≤ 0x17 then s.peekReg 0x2000300004
  else if 0x18 ≤ src ∧ src ≤ 0x1B then s.peekReg (0x2000600A14 + 0x40 * (src - 0x18))
  else if 0x1C ≤ src ∧ src ≤ 0x1F then s.peekReg (0x2000800204 + 0x20 * (src - 0x1C))
  else if 0x20 ≤ src ∧ src ≤ 0x24 then s.peekReg 0x2000800004
  else if 0x28 ≤ src ∧ src ≤ 0x2B then s.peekReg (0x200090107C + 0x100 * (src - 0x28))
  else if 0x2C ≤ src ∧ src ≤ 0x2D then s.peekReg 0x2000900004
  else if src = 0x34 then s.peekReg 0x2000A00010
  else if src = 0x3C then s.peekReg 0x2001000008
  else if src = 0x3D then s.peekReg 0x2001000004
  else if 0x40 ≤ src ∧ src ≤ 0x67 then s.peekReg (0x2000B00154 + 0x80 * (src % 8))
  else if 0x68 ≤ src ∧ src ≤ 0x75 then s.peekReg (0x2000C00128 + 0x40 * (src % 8))
  else if src = 0x78 then s.peekReg 0x2001100000
  else if src = 0x79 then s.peekReg 0x2001100008
  else if src = 0x7A then
    s.peekReg (0x2001100118 + 0x20 * ((List.range 4).find? (fun c => s.flag (HP_DMA_STAT_ERR c))).getD 0)
  else if src = 0x7B then s.peekReg 0x2000000604
  else if src = 0x7C then s.peekReg 0x200120000C
  else if src = 0x7D then s.peekReg 0x2001200004
  else arg

/-- The collector runs: from the first beat of Boot (R557). -/
def State.collecting (s : State) : Bool := s.rst.phase == .off && !(s.modeCode == 0)

/-- The source's capture, with the master whose request led to it (R17), or its count as a later error (R567). -/
def State.capture (s : State) (src detail : Nat) (rail inj persist : Bool) : State :=
  if s.flag FLT_STAT_CAPVALID then (s.set FLT_STAT_OVF 1).incSat FLT_CAP_CNT_COUNT
  else
    { ((((((((s.set FLT_CAP_SRC_VALID 1).set FLT_CAP_SRC_RAIL (b2n rail)).set FLT_CAP_SRC_INJ (b2n inj)).set
      FLT_CAP_SRC_PERSIST (b2n persist)).set FLT_CAP_SRC_SOURCE src).setPair FLT_CAP_BEAT_LO_BEAT FLT_CAP_BEAT_HI_BEAT
      s.beat48).set FLT_CAP_DETAIL_DETAIL detail).set FLT_STAT_CAPVALID 1) with capMaster := s.req }

/-- The word and bit of a source in FLT_ACT and FLT_PEND. -/
def State.setSrcBit (s : State) (f : Nat → Fld) (src : Nat) : State :=
  s.set (f (src / 32)) (s.get (f (src / 32)) ||| 2 ^ (src % 32))

/-- The bit of a source cleared. -/
def State.clearSrcBit (s : State) (f : Nat → Fld) (src : Nat) : State :=
  if (s.get (f (src / 32))).testBit (src % 32) then s.set (f (src / 32)) (s.get (f (src / 32)) - 2 ^ (src % 32)) else s

/-- The numbers of the fault sources (R558). -/
def faultSources : List Nat := List.range 512

/-- A source is active (FLT_ACT, R588). -/
def State.srcActive (s : State) (src : Nat) : Bool := (s.get (FLT_ACT_SOURCE (src / 32))).testBit (src % 32)

/-- A source is pending (FLT_PEND, R588). -/
def State.srcPending (s : State) (src : Nat) : Bool := (s.get (FLT_PEND_SOURCE (src / 32))).testBit (src % 32)

/-- The owner of a source is being reset or its mask has not lifted (R572). -/
def State.srcMasked (s : State) (src : Nat) : Bool :=
  match srcOwner src with
  | some b => s.flt.masked.any (fun e => e.1 == b)
  | none => false

/-- The source is the one armed for injection (R570). -/
def State.srcInjected (s : State) (src : Nat) : Bool :=
  match s.flt.inj with
  | some i => i.source == src
  | none => false

/-- The injection withholds every reaction of the source but IRQ (R570). -/
def State.srcWithheld (s : State) (src : Nat) : Bool :=
  match s.flt.inj with
  | some i => i.source == src && !srcSafety src && !i.react
  | none => false

/-- The source forces Halted (R49): a non-maskable trap, block reset or chip reset reaction, or laser-safety. -/
def State.srcForces (s : State) (src : Nat) : Bool :=
  srcSafety src || s.flag (FLT_CFG_NMI src) || s.flag (FLT_CFG_BRST src) || s.flag (FLT_CFG_CRST src)

/-- The non-maskable trap to the four cores; one in reset takes it on release (R561, R608). -/
def State.trapCores (s : State) : State :=
  ({ s with host := { s.host with nmiPend := s.host.nmiPend ||| (15 - s.host.coresRun % 16) } }).emit .nmi

/-- The reactions of R561 but IRQ and ERR_N, which follow the pending bit: the hack line and the trap act at once, the
others are left to the end of the command (R50). -/
def State.fireReactions (s : State) (src : Nat) : State :=
  let s1 := if s.flag (FLT_CFG_HACK src) || s.flag (FLT_CFG_CRST src) then s.hackAssert src else s
  let s2 := if s.flag (FLT_CFG_NMI src) then s1.trapCores else s1
  let s3 := if s.srcForces src then { s2 with flt := { s2.flt with force := s2.flt.force ++ [src] } } else s2
  if s.flag (FLT_CFG_BRST src) || s.flag (FLT_CFG_CRST src) || s.flag (FLT_CFG_SPLIT src) then
    { s3 with flt := { s3.flt with todo := s3.flt.todo ++ [src] } }
  else s3

/-- An injection of mode 1 disarms at the assertion it caused; its re-check is then due (R569, R571). -/
def State.injectionHit (s : State) (src detail : Nat) : State :=
  match s.flt.inj with
  | some i =>
    if i.source = src then
      let j := { i with withheld := i.withheld || (!srcSafety src && !i.react), detail }
      if i.mode = 2 ∨ i.mode = 3 then { s with flt := { s.flt with inj := some j } }
      else ({ s with flt := { s.flt with inj := none, rechecks := s.flt.rechecks ++ [j] } }).set FLT_INJ_STAT_ARMED 0
    else s
  | none => s

/-- An assertion of a source (R557, R561, R567, R570, R572, R579). -/
def State.assertSrc (s : State) (src arg : Nat) (rail : Bool) : State :=
  if s.srcMasked src then
    let s1 := s.incSat FLT_SUPCNT_COUNT
    if srcSafety src then
      let s2 := s1.hackAssert src
      { s2 with flt := { s2.flt with force := s2.flt.force ++ [src] } }
    else s1
  else
    let inj := s.srcInjected src
    let withheld := s.srcWithheld src
    let d := s.srcDetail src arg
    let s1 := (s.setSrcBit FLT_PEND_SOURCE src).capture src d rail inj false
    let s2 := if withheld then s1 else s1.fireReactions src
    let s3 := if s.flag (FLT_CFG_CHR src) && srcAssigned src then
        s2.record src (s.get (FLT_CFG_SEV src)) d (s.get (FLT_CFG_SNAPSET src)) rail inj false []
      else s2
    (s3.injectionHit src d).refreshLine 0

/-- A source becomes active; the change from inactive asserts it once the collector runs (R557). -/
def State.raise (s : State) (src : Nat) (arg : Nat := 0) (rail : Bool := false) : State :=
  if s.srcActive src then s
  else
    let s1 := s.setSrcBit FLT_ACT_SOURCE src
    if s.collecting then s1.assertSrc src arg rail else s1

/-- A source becomes inactive. -/
def State.lower (s : State) (src : Nat) : State := s.clearSrcBit FLT_ACT_SOURCE src

/-- A source that an event activates for an instant. -/
def State.pulse (s : State) (src : Nat) (arg : Nat := 0) : State := (s.raise src arg).lower src

/-- The number of a per-laser source (R558). -/
def laserSrc (n f : Nat) : Nat := 0x080 + 16 * n + f

end Sys2Proof.Machine
end

