-- ==== Sys2Proof/Machine/Esc.lean ====
section
/-! DEFINITION. Escapements: access to one escapement's state and registers (R68 to R73), its state register (R131),
exceptions (R161), the end of a wait and program starts (R68, R141). -/
namespace Sys2Proof.Machine

/-- Escapement `n` beside its registers. -/
def State.esc (s : State) (n : Nat) : EscSt := Sparse.get {} s.escs n

/-- The state with escapement `n` replaced. -/
def State.setEsc (s : State) (n : Nat) (e : EscSt) : State := { s with escs := Sparse.put {} s.escs n e }

/-- The state with escapement `n` changed by `f`. -/
def State.modEsc (s : State) (n : Nat) (f : EscSt → EscSt) : State := s.setEsc n (f (s.esc n))

/-- Bit `i` of a number set or cleared. -/
def putBit (v i : Nat) (b : Bool) : Nat :=
  if b then v ||| 2 ^ i else if v.testBit i then v - 2 ^ i else v

/-- ESC_STAT.STATE (R131): 0 IDLE, 1 ARMING, 2 READY, 3 RUN, 4 WAIT, 5 HALTED, 6 TRAPPED, 7 FROZEN. -/
def State.escState (s : State) (n : Nat) : Nat := s.get (ESC_STAT_STATE n)

/-- Mode code of Configure (R41). -/
def mConfigure : Nat := 2
/-- Mode code of Idle (R41). -/
def mIdle : Nat := 3
/-- Mode code of Armed (R41). -/
def mArmed : Nat := 4
/-- Mode code of Expose (R41). -/
def mExpose : Nat := 5
/-- Mode code of Recoat (R41). -/
def mRecoat : Nat := 6
/-- Mode code of Calibrate (R41). -/
def mCalibrate : Nat := 7
/-- Mode code of Tune (R41). -/
def mTune : Nat := 8
/-- Mode code of Halted (R41). -/
def mHalted : Nat := 9
/-- Mode code of Test (R41). -/
def mTest : Nat := 10
/-- Mode code of Join (R41). -/
def mJoin : Nat := 11
/-- Mode code of Low power (R41). -/
def mLowPower : Nat := 12

/-- The device runs escapements dry (R160). -/
def State.dry (s : State) : Bool := !(s.modeCode == mExpose)

/-! ### POWER before a segment (R96, R97) -/

/-- The settings after POWER: a power with RAMP 0 is the base of a ramp that follows it before the same segment; LOOP 0 keeps
the request made before that segment. -/
def Settings.withPower (t : Settings) (v ramp req : Nat) : Settings :=
  { t with
    power := v, ramp := ramp, powNew := true
    powBase := if !t.powNew then none else if t.ramp = 0 then some t.power else t.powBase
    loopReq := if req = 0 ∧ t.powNew then t.loopReq else req }

/-- The settings after a segment has taken the POWERs before it. -/
def Settings.taken (t : Settings) : Settings := { t with powNew := false, powBase := none }

/-- The power that a segment's POWERs put in force at its start, none where its ramp starts from the power reached (R97). -/
def Settings.startPower (t : Settings) : Option Nat := if t.ramp = 0 then some t.power else t.powBase

/-! ### Registers of a program -/

/-- g[k] (R68): g0 reads 0. -/
def State.g (s : State) (n k : Nat) : Nat := if k = 0 then 0 else s.get (ESC_G_VALUE n (k - 1))

/-- The state with g[k] written (R68): a write to g0 is discarded. -/
def State.setG (s : State) (n k v : Nat) : State := if k = 0 then s else s.set (ESC_G_VALUE n (k - 1)) v

/-- f[k], as FP32 bits. -/
def State.f (s : State) (n k : Nat) : Nat := s.get (ESC_F_VALUE n k)

/-- The state with f[k] written. -/
def State.setF (s : State) (n k v : Nat) : State := s.set (ESC_F_VALUE n k) v

/-- px, py and pz in steps (R69). -/
def State.pxyz (s : State) (n : Nat) : Int × Int × Int :=
  (sgn 32 (s.get (ESC_PX_VALUE n)), sgn 32 (s.get (ESC_PY_VALUE n)), sgn 32 (s.get (ESC_PZ_VALUE n)))

/-- px, py and pz written, sign-extended (R176). -/
def State.setPxyz (s : State) (n : Nat) (x y z : Int) : State :=
  ((s.set (ESC_PX_VALUE n) (enc 32 x)).set (ESC_PY_VALUE n) (enc 32 y)).set (ESC_PZ_VALUE n) (enc 32 z)

/-- The PC. -/
def State.pc (s : State) (n : Nat) : Nat := s.pair (ESC_PC_LO_ADDR n) (ESC_PC_HI_ADDR n)

/-- The PC set, modulo 2^40. -/
def State.setPc (s : State) (n v : Nat) : State := s.setPair (ESC_PC_LO_ADDR n) (ESC_PC_HI_ADDR n) (v % 2 ^ 40)

/-- The start address (R170). -/
def State.pcStart (s : State) (n : Nat) : Nat := s.pair (ESC_PCSTART_LO_ADDR n) (ESC_PCSTART_HI_ADDR n)

/-! ### State and queue -/

/-- The base address of the window of escapement `n`. -/
def escBase (n : Nat) : Nat := 0x2000100000 + 0x10000 * n

/-- An address is a limit or geometry register of head transform `n` (R206 to R208). -/
def inTrj (n a : Nat) : Bool := decide (escBase n + 0x400 ≤ a) && decide (a < escBase n + 0x460)

/-- The boundary of head transform `n` (R204): the waiting values come into force. -/
def State.trjCommit (s : State) (n : Nat) : State :=
  if s.flag (TRJ_STAT_SHPEND n) then (s.commitShadow 0x100 (inTrj n)).set (TRJ_STAT_SHPEND n) 0 else s

/-- An address is an RWS register of regulator `n` (R240). -/
def inRegRws (n a : Nat) : Bool :=
  decide (0x2000500000 + 0x1000 * n ≤ a) && decide (a < 0x2000500000 + 0x1000 * n + 0x70)

/-- The boundary of regulator `n` (R240). -/
def State.regCommit (s : State) (n : Nat) : State :=
  if s.flag (REG_STAT_SHPEND n) then (s.commitShadow 0x100 (inRegRws n)).set (REG_STAT_SHPEND n) 0 else s

/-- The escapement is stopped: IDLE, HALTED, TRAPPED or FROZEN (R131). -/
def stoppedCode (st : Nat) : Bool := st == 0 || st == 5 || st == 6 || st == 7

/-- Every member of the instance has arrived (R150, R151). -/
def BarSt.full (b : BarSt) : Bool :=
  !b.arrived.isEmpty && (List.range 24).all (fun n => !b.members.testBit n || b.arrived.any (fun e => e.1 == n))

/-- The last arrival plus the greater of 8 beats and the largest LEAD (R150, R151). -/
def BarSt.ready (b : BarSt) : Nat :=
  b.arrived.foldl (fun t e => max t e.2.1) 0 + b.arrived.foldl (fun t e => max t e.2.2) 8

/-- The state register moved, with READY and its mirror (R169, R177); a stopped state is the boundary of R204 and
R240. -/
def State.setEscState (s : State) (n st : Nat) : State :=
  let s1 := ((s.set (ESC_STAT_STATE n) st).set (ESC_STAT_READY n) (b2n (st == 2))).set ESC_GSTAT_READY
    (putBit (s.get ESC_GSTAT_READY) n (st == 2))
  if stoppedCode st then (s1.trjCommit n).regCommit n else s1

/-- The segment queue replaced, with SEGQ (R138, R169). -/
def State.setQueue (s : State) (n : Nat) (q : List Seg) : State :=
  (s.modEsc n (fun e => { e with queue := q })).set (ESC_STAT_SEGQ n) q.length

/-- The fetch buffer invalidated (R137). -/
def State.flushBuf (s : State) (n : Nat) : State :=
  (s.modEsc n (fun e => { e with buf := [], window := [], lineAt := 0 })).set
    (ESC_STAT_BUFVALID n) 0

/-- Interrupt bits of the escapement changed: its line follows (R175). -/
def State.escLine (s : State) (n : Nat) : State := s.refreshLine (2 + n)

/-- Beats between the resumption of issue and the restart of the timeline (R141). -/
def restartLatency : Nat := 64

/-- Issue resumes now: RUN, and the timeline restarts 64 beats later (R141). -/
def State.resumeIssue (s : State) (n : Nat) : State :=
  (s.modEsc n (fun e => { e with wait := none, restart := some (s.beat + restartLatency), fresh := true })).setEscState n 3

/-- The step of R164 ends: TRAPPED with cause 0x22; no exception. `at_` is the instruction stepped, which the trap registers name,
with code and address 0 (log entry 134). -/
def State.endStep (s : State) (n at_ word : Nat) : State :=
  let s1 := s.modEsc n (fun e => { e with stepping := false, wait := none })
  let s2 := ((s1.set (ESC_TRAP_CAUSE n) 0x22).set (ESC_TRAP_CODE n) 0).setPair (ESC_TRAP_PC_LO_VALUE n)
    (ESC_TRAP_PC_HI_VALUE n) at_
  ((s2.setPair (ESC_TRAP_ADDR_LO_VALUE n) (ESC_TRAP_ADDR_HI_VALUE n) 0).setPair (ESC_TRAP_WORD_LO_VALUE n)
    (ESC_TRAP_WORD_HI_VALUE n) word).setEscState n 6

/-- A wait ends and issue goes on after its instruction (R76, R141), or the step that issued it ends (R164). -/
def State.endWait (s : State) (n : Nat) : State :=
  match (s.esc n).wait with
  | none => s
  | some w =>
    let s1 := s.setPc n (w.pc + w.len)
    if (s.esc n).stepping then s1.endStep n w.pc w.word else s1.resumeIssue n

/-- The trap registers written (R161). -/
def State.trapRegs (s : State) (n cause code pc addr word : Nat) : State :=
  ((((s.set (ESC_TRAP_CAUSE n) cause).set (ESC_TRAP_CODE n) code).setPair (ESC_TRAP_PC_LO_VALUE n)
    (ESC_TRAP_PC_HI_VALUE n) pc).setPair (ESC_TRAP_ADDR_LO_VALUE n) (ESC_TRAP_ADDR_HI_VALUE n) addr).setPair
    (ESC_TRAP_WORD_LO_VALUE n) (ESC_TRAP_WORD_HI_VALUE n) word

/-- Exception codes of R127. -/
def exIllegal : Nat := 0x01
/-- See `exIllegal`. -/
def exOperand : Nat := 0x02
/-- See `exIllegal`. -/
def exCoord : Nat := 0x03
/-- See `exIllegal`. -/
def exLoad : Nat := 0x04
/-- See `exIllegal`. -/
def exStore : Nat := 0x05
/-- See `exIllegal`. -/
def exAlign : Nat := 0x06
/-- See `exIllegal`. -/
def exFetch : Nat := 0x07
/-- See `exIllegal`. -/
def exStack : Nat := 0x08
/-- See `exIllegal`. -/
def exFpe : Nat := 0x09
/-- See `exIllegal`. -/
def exTrap : Nat := 0x0A
/-- See `exIllegal`. -/
def exBridge : Nat := 0x0B
/-- See `exIllegal`. -/
def exSync : Nat := 0x0C

/-- An exception is taken (R161, R128): issue stops in TRAPPED with its record, ESC_INT.TRAP (R169, R175) and the
exception source (R558). The segments enqueued stay in the queue and run out as programmed while STATE reads TRAPPED (log entry
131). -/
def State.trap (s : State) (n cause code pc addr word : Nat) : State :=
  let s1 := s.modEsc n (fun e => { e with wait := none, stepping := false, load := none, trapLen := 8 })
  let s2 := (s1.trapRegs n cause code pc addr word).setEscState n 6
  let s3 := if s.flag (ESC_INT_TRAP n) then s2.set (ESC_STAT_TRAPOVF n) 1 else s2.set (ESC_INT_TRAP n) 1
  (s3.escLine n).pulse (laserSrc n 2)

/-- A point that the rules leave invalid: free coordinates in the PC24 range (R68, R70; log entry 81). -/
def State.freePoint (s : State) (n : Nat) : State :=
  let v (k : Nat) : Int := sgn 24 ((Config.freeValue (s.free + k)).toNat % 2 ^ 24)
  { s.setPxyz n (v 0) (v 1) (v 2) with free := s.free + 3 }

/-- Program state and queued state at a program start (R68): g and f stay, px, py and pz are invalid. Before the first laser-on
segment TAGV reads 0 (log entry 133). -/
def State.clearProgram (s : State) (n : Nat) : State :=
  let s1 := (List.range 16).foldl (fun t k => (t.set (ESC_RSTK_LO_VALUE n k) 0).set (ESC_RSTK_HI_VALUE n k) 0) s
  let s2 := [ESC_SW_DEPTH n, ESC_SW_RANGE n, ESC_SW_CLAMP n, ESC_SW_LATE n, ESC_SW_PV n, ESC_SW_EMP n, ESC_SW_GR n,
    ESC_SW_TO n, ESC_SW_V n, ESC_SW_C n, ESC_SW_N n, ESC_SW_Z n].foldl (fun t f => t.set f 0) s1
  (s2.freePoint n).modEsc n (fun e => { e with set := {}, lastP2 := none, tagLast := 0, layerDone := false, pNow := 0, rampNow := none })

/-- A program start (R68, R141): the queue is discarded, the timeline restarts 64 beats later, issue begins at the
start address. -/
def State.programStart (s : State) (n : Nat) : State :=
  let s1 := (s.clearProgram n).setQueue n []
  let s2 := s1.modEsc n (fun e =>
    { e with
      wait := none, load := none, storeTrap := none, float := none, hold := none
      stretch := none, prev := 0, v := 0, gateRun := false, env := 0, wobT := 0
      line := match e.line with | .seg _ => .idle | l => l })
  ((s2.setPc n (s2.pcStart n)).trjCommit n).resumeIssue n

end Sys2Proof.Machine
end

