-- ==== Sys2Proof/Machine/MemOps.lean ====
section
/-! DEFINITION. Memory accesses under SECDED (R28) and their fault sources. -/
namespace Sys2Proof.Machine

/-- The number of an on-die memory: 0 program, 1 dial, 2 line buffers. -/
def Region.sram : Region → Option Nat
  | .progMem => some 0
  | .dialMem => some 1
  | .lineBuf => some 2
  | _ => none

/-- The fault source of an on-die memory's double-bit errors (R558). -/
def sramSrc (k : Nat) : Nat := 0x00A + k

/-- A double-bit error at this address gives an error response (R28, R600: DRAM data only under inline ECC). -/
def State.eccBad (s : State) (a : Nat) (e : Ecc) : Bool :=
  e == .uncorrectable && ((s.region a).sram.isSome || (s.region a == .dram && s.flag DRC_CFG_IECC))

/-- A double-bit error raises its memory's source (R28, R600, R610). -/
def State.eccFail (s : State) (a : Nat) : State :=
  match (s.region a).sram with
  | some k => s.pulse (sramSrc k) (a % 2 ^ 32)
  | none => ((s.set DRC_ERRADDR_LO_ADDR (a % 2 ^ 32)).set DRC_ERRADDR_HI_ADDR (a / 2 ^ 32)).pulse 0x07C

/-- A single-bit error in memory is corrected and counted (R28, R600): in DRAM under inline ECC alone. -/
def State.eccFix (s : State) (a : Nat) : State :=
  match (s.region a).sram with
  | some k => { s with eccCount := Sparse.put 0 s.eccCount k (Sparse.get 0 s.eccCount k + 1) }
  | none => if s.region a = .dram ∧ s.flag DRC_CFG_IECC then s.incSat DRC_ECCCNT_INLCORR else s

/-- A single-bit error on the wire is corrected by link ECC, without it by inline ECC (R600). -/
def State.linkFix (s : State) (a : Nat) : State :=
  if s.region a = .dram ∧ s.flag DRC_CFG_LECC then s.incSat DRC_ECCCNT_LINKCORR else if (s.region a).sram.isSome then s else s.eccFix a

/-- DRAM data that arrives wrong and that no ECC corrects or reports (R600). -/
def State.eccBlind (s : State) (a : Nat) (e : Ecc) : Bool :=
  s.region a == .dram && !s.flag DRC_CFG_IECC && (e == .corrected || e == .uncorrectable || (e == .link && !s.flag DRC_CFG_LECC))

/-- A free value of `n` bytes. -/
def State.freeLoad (s : State) : Nat → Nat × State
  | 0 => (0, s)
  | n + 1 => let (v, t) := s.draw.freeLoad n; (s.freeNext % 256 + 256 * v, t)

/-- What the check bits of the word at an address lead to. -/
def State.eccEvent (s : State) (a : Nat) (e : Ecc) : State :=
  if s.eccBad a e then s.eccFail a else if e = .corrected then s.eccFix a else if e = .link then s.linkFix a else s

/-- A host write with an error is dropped and logged (R24, R610, R613): the first address stands until the count is
read. -/
def State.hostDropped (s : State) (a : Nat) : State :=
  let s1 := if s.get HP_ERRCNT_COUNT = 0 then s.setPair HP_ERRLOG_LO_ADDR HP_ERRLOG_HI_ADDR a else s
  (s1.incSat HP_ERRCNT_COUNT).pulse 0x079

end Sys2Proof.Machine
end

