-- ==== Sys2Proof/Machine/DialOps.lean ====
section
/-! DEFINITION. The dial (07): cells and stamps (R247, R248, R265), decay (R255), queries (R259), deposits (R251 to R256),
rebases (R257) and its stop (R272). -/
namespace Sys2Proof.Machine

/-- The cell of a plate coordinate in steps (R247). -/
def dialIndex (x : Int) : Int := (x + 8192000).fdiv 4000

/-- An index lies in the region (R247). -/
def inDial (i : Int) : Bool := decide (0 ≤ i) && decide (i ≤ 4095)

/-- The address of a cell (R265). -/
def cellAddr (ix iy : Nat) : Nat := 0x1000000000 + 2 * (4096 * iy + ix)

/-- The tiles of the map (R248). -/
def dialTiles : List Nat := List.range 4096
/-- The tile of a cell (R247). -/
def tileOf (ix iy : Nat) : Nat := 64 * (iy / 64) + ix / 64

/-- The stored value of a cell (R248). -/
def State.cell (s : State) (ix iy : Nat) : Nat := s.load (cellAddr ix iy) 2

/-- The stored value of a cell written. -/
def State.setCell (s : State) (ix iy v : Nat) : State := s.store (cellAddr ix iy) (leBytes v 2)

/-- The stamp of a tile (R248, R278). -/
def State.stamp (s : State) (t : Nat) : Nat := s.pair (DIAL_STAMP_LO_STAMP t) (DIAL_STAMP_HI_STAMP t)

/-- The stamp of a tile written. -/
def State.setStamp (s : State) (t v : Nat) : State := s.setPair (DIAL_STAMP_LO_STAMP t) (DIAL_STAMP_HI_STAMP t) (v % 2 ^ 48)

/-- The age of a stamp at a beat, a signed difference of 48 bits (R255). -/
def ageOf (q ts : Nat) : Int := sgn 48 (q + 2 ^ 48 - ts % 2 ^ 48)

/-- The time constant in beats, none where decay is off (R255). -/
def State.tau (s : State) : Option Nat :=
  let v := s.live DIAL_TAU_TAU
  if v = 0 then none else some ((if v < 1000 then 1000 else v) * 400)

/-- e^(a / τ), exact for age 0 and without decay, else within 2^-16 of itself (R255, log entry 8). -/
def State.grow (s : State) (a : Int) : Rat :=
  match s.tau with
  | none => 1
  | some t => if a = 0 then 1 else perturbRel (expQ ((a : Rat) / (t : Rat))) (1 / 65536) s.freeNext

/-- The decay factor D(a) (R255). -/
def State.decay (s : State) (a : Int) : Rat := s.grow (-a)

/-- A clear runs (R264). -/
def State.dialBusy (s : State) : Bool := s.flag DIAL_STAT_BUSY

/-- The dial answers nothing: a clear runs (R264), it has stopped (R272) or is held in reset. -/
def State.dialDeaf (s : State) : Bool := s.dialBusy || s.flag DIAL_STAT_MEMERR || s.heldInReset 129

/-- What a query launched on beat `q` reads of a cell: none of that beat's commits (R258, R259). -/
def State.cellBefore (s : State) (ix iy q : Nat) : Nat :=
  if q = s.dial.freshAt then ((s.dial.fresh.find? (fun e => e.1 == 4096 * iy + ix)).map (·.2)).getD (s.cell ix iy) else s.cell ix iy

/-- The present value of a cell stands for queries of this beat. -/
def State.keepCell (s : State) (ix iy : Nat) : State :=
  let k := 4096 * iy + ix
  if s.dial.fresh.any (fun e => e.1 == k) then s
  else { s with dial := { s.dial with fresh := (k, s.cell ix iy) :: s.dial.fresh } }

/-- A query at a point and a launch beat (R259): θ in 1/16 K, and whether the point lies outside the region. -/
def State.dialQuery (s : State) (x y : Int) (q : Nat) : Nat × Bool :=
  let ix := dialIndex x
  let iy := dialIndex y
  if s.dialDeaf then (0, false)
  else if inDial ix && inDial iy then
    let ts := s.stamp (tileOf ix.toNat iy.toNat)
    let v := roundEven ((s.cellBefore ix.toNat iy.toNat q : Rat) * s.decay (ageOf (q % 2 ^ 48) ts))
    (min v.toNat 0xFFFF, false)
  else (0, true)

/-- The dial stops on a double-bit error (R272). -/
def State.dialStop (s : State) : State := s.set DIAL_STAT_MEMERR 1

/-- A double-bit error in dial memory stops the dial, a single-bit error is corrected (R28, R272). -/
def State.dialEcc (s : State) (ecc : Ecc) : State :=
  match ecc with
  | .uncorrectable => s.dialStop.pulse 0x00B
  | _ => s.eccEvent 0x1000000000 ecc

/-- A query that reads its cell: a double-bit error stops the dial and answers 0 (R272, R28), a single-bit error is
corrected; a deaf dial and a point outside the region read nothing. -/
def State.dialRead (s : State) (x y : Int) (q : Nat) (ecc : Ecc) : (Nat × Bool) × State :=
  if s.dialDeaf || !(inDial (dialIndex x) && inDial (dialIndex y)) then (s.dialQuery x y q, s)
  else match ecc with
    | .uncorrectable => ((0, false), s.dialEcc ecc)
    | _ => (s.dialQuery x y q, s.dialEcc ecc)

/-- The amplitude of a deposit of power `p` by laser `n` (R251), FP32 kelvin; a NaN, an infinity, a subnormal or a
negative gain acts as 0.0 (R274). -/
def State.depositAmp (s : State) (n p : Nat) : Nat :=
  let g := f32Or0 (s.live (DIAL_LGAIN_G n))
  if f32Neg g then 0
  else match f32Mul g (f32Of (p : Rat)) with
    | some a => (f32Div a (f32Of 65536)).getD 0
    | none => 0x7F800000

/-- The kelvin of an amplitude: an infinity lies above what any cell holds. -/
def ampVal (w : Nat) : Rat := if w = 0x7F800000 then ((2 ^ 128 : Nat) : Rat) else (f32Val w).getD 0

/-- One kernel cell of a deposit (R251, R254, R256): the state, and whether the sum saturated. -/
def State.depositCell (s : State) (d : Deposit) (stampOf : Nat → Nat) (kk : Nat) : State × Bool :=
  let ix := d.ix + (kk % 5 : Nat) - 2
  let iy := d.iy + (kk / 5 : Nat) - 2
  let w := s.live (DIAL_KERN_W kk)
  if w = 0 || !(inDial ix && inDial iy) then (s, false)
  else
    let dt := ampVal d.amp * (w : Rat) / 65536
    let t := tileOf ix.toNat iy.toNat
    let inc := (roundEven (16 * dt * s.grow (ageOf (d.beat % 2 ^ 48) (stampOf t)))).toNat
    if inc = 0 then (s, false)
    else
      let v := s.cell ix.toNat iy.toNat + inc
      ((s.keepCell ix.toNat iy.toNat).setCell ix.toNat iy.toNat (min v 0xFFFF), decide (0xFFFF < v))

/-- The stamp a forwarded deposit is scaled with: on the beat of a rebase, the one before it (R638). -/
def State.fwdStamp (s : State) (t : Nat) : Nat :=
  match s.dial.old with
  | some (b, l) => if b = s.beat then Sparse.get (s.stamp t) l t else s.stamp t
  | none => s.stamp t

/-- A deposit commits (R251 to R254). -/
def State.commitDeposit (s : State) (d : Deposit) (forwarded : Bool) : State :=
  let st : Nat → Nat := if forwarded then s.fwdStamp else s.stamp
  let (s1, sat) := (List.range 25).foldl (fun (acc : State × Bool) kk =>
    let (t, b) := acc.1.depositCell d st kk
    (t, acc.2 || b)) (s, false)
  let s2 := if inDial d.ix && inDial d.iy then s1 else s1.set DIAL_STAT_DEPOUT 1
  let s3 := if sat then ((s2.set DIAL_STAT_SAT 1).incSat DIAL_SATCNT_COUNT).pulse 0x010 else s2
  s3.draw

/-- A deposit is discarded while a clear runs or the dial has stopped (R264, R272). -/
def State.loseDeposit (s : State) : State := s.incSat DIAL_LOSTCNT_COUNT

/-- The listed cells of a tile: byte addresses of cells whose low or high byte is not 0. -/
def State.tileCells (s : State) (t : Nat) : List (Nat × Nat) :=
  let cells := s.mem.filterMap (fun c =>
    if 0x1000000000 ≤ c.1 ∧ c.1 < 0x1002000000 then
      let k := (c.1 - 0x1000000000) / 2
      let ix := k % 4096
      let iy := k / 4096
      if tileOf ix iy = t then some (ix, iy) else none
    else none)
  cells.eraseDups

/-- A tile rebased to a beat (R257): every stored value decays, truncated, and the stamp becomes the beat. -/
def State.rebaseTile (s : State) (t r : Nat) : State :=
  let f := s.decay (ageOf (r % 2 ^ 48) (s.stamp t))
  let s1 := (s.tileCells t).foldl (fun u c => u.setCell c.1 c.2 (((s.cell c.1 c.2 : Rat) * f).floor.toNat % 65536)) s
  (s1.setStamp t r).draw

/-- A clear starts and completes 524.288 µs later (R262, R263, R264); a REBASE in progress ends with it (R275). -/
def State.dialClearStart (s : State) : State :=
  (({ s with dial := { s.dial with clear := some (s.beat + 209716), rebase := none } }).set DIAL_STAT_BUSY 1).set DIAL_STAT_REBASING 0

/-- The clear completes (R262, R264, R272). -/
def State.dialClearDone (s : State) : State :=
  let s1 := s.zeroMem 0x1000000000 0x1002000000
  let s2 := dialTiles.foldl (fun u t => u.setStamp t s.beat48) s1
  (({ s2 with dial := { s2.dial with clear := none } }).set DIAL_STAT_BUSY 0).set DIAL_STAT_MEMERR 0

/-- The dial takes commands in this mode (R262). -/
def dialCmdMode (m : Nat) : Bool :=
  m == mConfigure || m == mIdle || m == mRecoat || m == mCalibrate || m == mTune || m == mTest || m == mJoin

/-- A forward record is discarded (R269). -/
def State.fwdDrop (s : State) : State := (s.incSat DIAL_FWDDROP_COUNT).pulse 0x011

/-- An address is an RWS register of the dial (R273). -/
def inDialRws (a : Nat) : Bool := decide (0x2000400000 ≤ a) && decide (a < 0x2000400144)

/-- The boundary of the dial (R273): any beat outside Armed and Expose. -/
def State.dialCommit (s : State) : State :=
  if s.flag DIAL_STAT_SHPEND && !(s.modeCode == mArmed || s.modeCode == mExpose) then
    (s.commitShadow 0x400 inDialRws).set DIAL_STAT_SHPEND 0
  else s

/-- A block reset of the dial begins (R272, R274): deposits and records are dropped, a clear or rebase is abandoned.
How far an abandoned clear came is not stated, a free number of bytes from the base upwards (log entry 123): the stamps of the
tiles it reached are undefined, free values, and the others keep their contents (R278). -/
def State.dialReset (s : State) : State :=
  let s1 := match s.dial.clear with
    | none => s
    | some _ =>
      let k := s.freeNext % 2 ^ 25
      let s2 := s.zeroMem 0x1000000000 (0x1000000000 + k)
      (dialTiles.filter (fun t => decide (2 * (4096 * (64 * (t / 64)) + 64 * (t % 64)) < k))).foldl
        (fun u t => (u.setStamp t u.freeNext).draw) s2.draw
  { s1 with dial := { passAt := s1.dial.passAt } }

end Sys2Proof.Machine
end

