-- ==== Sys2Proof/Machine/Trajectory.lean ====
section
/-! DEFINITION. The trajectory generator (R181 to R197): jerk-limited profiles, the plan of a segment with its
skywriting, stops and returns, and the path at a beat. Speeds are in µm/s, lengths in µm, times in seconds, positions
in steps of 0.05 µm. -/
namespace Sys2Proof.Machine

/-- Limits in force for a plan (R184). -/
structure Limits where
  vm : Rat
  vj : Rat
  a : Rat
  j : Rat
  zv : Rat
  za : Rat
  zj : Rat
  deriving DecidableEq, Repr

/-- A limit of 0 acts as 1 in its unit (R206). -/
def lim0 (v : Nat) : Rat := ((if v = 0 then 1 else v : Nat) : Rat)

/-- The limits of head transform `n` in force (R184, R206). -/
def State.limits (s : State) (n : Nat) : Limits :=
  { vm := lim0 (s.live (TRJ_VMARK_VMAX n)), vj := lim0 (s.live (TRJ_VJUMP_VMAX n))
    a := lim0 (s.live (TRJ_AMAX_AMAX n)) * 1000000, j := lim0 (s.live (TRJ_JMAX_JMAX n)) * 1000000000000
    zv := lim0 (s.live (TRJ_ZVMAX_VMAX n)), za := lim0 (s.live (TRJ_ZAMAX_AMAX n)) * 1000000
    zj := lim0 (s.live (TRJ_ZJMAX_JMAX n)) * 1000000000000 }

/-- Beats in a second. -/
def beatsPerS : Rat := 400000000

/-- Whole beats of a planned time (R181). -/
def beatsOf (t : Rat) : Nat := (ceilQ (t * beatsPerS)).toNat

/-- The time of a change of speed by `dv` (R186). -/
def changeT (a j dv : Rat) : Rat :=
  if dv = 0 then 0 else if a * a / j ≤ dv then dv / a + a / j else 2 * sqrtQ (dv / j)

/-- The distance of a change of speed (R186). -/
def changeD (a j v0 v1 : Rat) : Rat := changeT a j (absQ (v1 - v0)) * (v0 + v1) / 2

/-- The greatest speed in [lo, hi] with `p`, which holds from `lo` upwards to some speed. -/
def bisect (p : Rat → Bool) : Nat → Rat → Rat → Rat
  | 0, lo, _ => lo
  | n + 1, lo, hi =>
    let mid := (lo + hi) / 2
    if p mid then bisect p n mid hi else bisect p n lo mid

/-- See `bisect`; the whole interval is tried first. -/
def greatest (p : Rat → Bool) (lo hi : Rat) : Rat := if hi ≤ lo then lo else if p hi then hi else bisect p 44 lo hi

/-- The greatest speed up to `cap` that a length `len` allows to be changed from or to `v`. -/
def reachable (a j len v cap : Rat) : Rat := greatest (fun u => decide (changeD a j v u ≤ len)) (minQ v cap) cap

/-- The least speed down to which a length `len` allows `v` to be changed. -/
def lowest (a j len v : Rat) : Rat := v - greatest (fun u => decide (changeD a j v (v - u) ≤ len)) 0 v

/-- The peak speed of a length with entry and exit speeds (R186). -/
def peakOf (a j len v0 v1 cap : Rat) : Rat :=
  greatest (fun u => decide (changeD a j v0 u + changeD a j u v1 ≤ len)) (maxQ v0 v1) (maxQ cap (maxQ v0 v1))

/-- The time of a length with entry, peak and exit speeds (R186). -/
def profileT (a j len v0 vp v1 : Rat) : Rat :=
  let t0 := changeT a j (absQ (vp - v0))
  let t1 := changeT a j (absQ (vp - v1))
  let rest := len - changeD a j v0 vp - changeD a j vp v1
  if vp = 0 then t0 + t1 else t0 + t1 + (if rest < 0 then 0 else rest / vp)

/-- Distance, speed and acceleration at time `t` of a change of speed from `v0` by `dv` up or down. -/
def rampAt (a j v0 v1 t : Rat) : Rat × Rat × Rat :=
  let dv := absQ (v1 - v0)
  let sg : Rat := if v1 < v0 then -1 else 1
  let tj := if a * a / j ≤ dv then a / j else sqrtQ (dv / j)
  let tc := if a * a / j ≤ dv then dv / a - a / j else 0
  let am := j * tj
  let full := 2 * tj + tc
  let r : Rat × Rat × Rat :=
    if t < tj then (j * t * t * t / 6, j * t * t / 2, j * t)
    else if t < tj + tc then
      let u := t - tj
      (am * tj * tj / 6 + am * tj / 2 * u + am * u * u / 2, am * tj / 2 + am * u, am)
    else
      let u := full - t
      (dv * full / 2 - (dv * u - j * u * u * u / 6), dv - j * u * u / 2, j * u)
  (v0 * t + sg * r.1, v0 + sg * r.2.1, sg * r.2.2)

/-- Distance, speed and acceleration at time `t` of a profile that lasts `time`. -/
def profileAt (a j v0 vp v1 time t : Rat) : Rat × Rat × Rat :=
  let t0 := changeT a j (absQ (vp - v0))
  let t1 := changeT a j (absQ (vp - v1))
  let tc := time - t0 - t1
  let d0 := changeD a j v0 vp
  if t < t0 then rampAt a j v0 vp t
  else if t < t0 + tc then (d0 + vp * (t - t0), vp, 0)
  else
    let (d, v, c) := rampAt a j vp v1 (t - t0 - tc)
    (d0 + vp * tc + d, v, c)

/-- The speed reached after a distance `x` of a change of speed. -/
def rampSpeed (a j v0 v1 x : Rat) : Rat :=
  let t := greatest (fun u => decide ((rampAt a j v0 v1 u).1 ≤ x)) 0 (changeT a j (absQ (v1 - v0)))
  (rampAt a j v0 v1 t).2.1

/-- The speed at a distance `x` of a profile over a length. -/
def profileSpeed (a j len v0 vp v1 x : Rat) : Rat :=
  if x < changeD a j v0 vp then rampSpeed a j v0 vp x
  else if x ≤ len - changeD a j vp v1 then vp
  else rampSpeed a j vp v1 (x - (len - changeD a j vp v1))

/-- The length a profile covers. -/
def profileLen (a j v0 vp v1 time : Rat) : Rat :=
  changeD a j v0 vp + vp * (time - changeT a j (absQ (vp - v0)) - changeT a j (absQ (vp - v1))) + changeD a j vp v1

/-- The spot at a beat: position (steps), velocity (µm/s) and acceleration (µm/s²). -/
structure Sample where
  x : Rat
  y : Rat
  z : Rat
  vx : Rat := 0
  vy : Rat := 0
  vz : Rat := 0
  ax : Rat := 0
  ay : Rat := 0
  az : Rat := 0
  deriving DecidableEq, Repr

/-- A coordinate of a cubic at parameter `u`. -/
def cubicAt (p0 p1 p2 p3 u : Rat) : Rat :=
  let w := 1 - u
  w * w * w * p0 + 3 * w * w * u * p1 + 3 * w * u * u * p2 + u * u * u * p3

/-- Its first derivative. -/
def cubicD1 (p0 p1 p2 p3 u : Rat) : Rat :=
  let w := 1 - u
  3 * w * w * (p1 - p0) + 6 * w * u * (p2 - p1) + 3 * u * u * (p3 - p2)

/-- Its second derivative. -/
def cubicD2 (p0 p1 p2 p3 u : Rat) : Rat := 6 * (1 - u) * (p2 - 2 * p1 + p0) + 6 * u * (p3 - 2 * p2 + p1)

/-- The length of a vector in steps, in µm. -/
def lenUm (x y : Rat) : Rat := sqrtQ (x * x + y * y) / 20

/-- The control points of a SPLN (R90). -/
structure Cubic where
  x0 : Rat
  y0 : Rat
  x1 : Rat
  y1 : Rat
  x2 : Rat
  y2 : Rat
  x3 : Rat
  y3 : Rat
  deriving DecidableEq, Repr

/-- The point of a SPLN at a parameter, in steps. -/
def Cubic.pt (c : Cubic) (u : Rat) : Rat × Rat := (cubicAt c.x0 c.x1 c.x2 c.x3 u, cubicAt c.y0 c.y1 c.y2 c.y3 u)
/-- Its first derivative. -/
def Cubic.d1 (c : Cubic) (u : Rat) : Rat × Rat := (cubicD1 c.x0 c.x1 c.x2 c.x3 u, cubicD1 c.y0 c.y1 c.y2 c.y3 u)
/-- Its second derivative. -/
def Cubic.d2 (c : Cubic) (u : Rat) : Rat × Rat := (cubicD2 c.x0 c.x1 c.x2 c.x3 u, cubicD2 c.y0 c.y1 c.y2 c.y3 u)

/-- The distance between two points of a SPLN, µm. -/
def Cubic.chord (c : Cubic) (u w : Rat) : Rat := lenUm ((c.pt w).1 - (c.pt u).1) ((c.pt w).2 - (c.pt u).2)

/-- The arc length between two close parameters: two half chords, extrapolated against the whole one. -/
def Cubic.span (c : Cubic) (u w : Rat) : Rat :=
  (4 * (c.chord u ((u + w) / 2) + c.chord ((u + w) / 2) w) - c.chord u w) / 3

/-- Cells of equal parameter in which arc length is summed (R188; log entry 12). -/
def cubicCells : Nat := 128

/-- The arc lengths from the start of a SPLN to the ends of its cells, µm. -/
def Cubic.lengths (c : Cubic) : Nat → Nat → Rat → List Rat
  | 0, _, acc => [acc]
  | n + 1, k, acc =>
    acc :: c.lengths n (k + 1) (acc + c.span ((k : Rat) / (cubicCells : Rat)) (((k + 1 : Nat) : Rat) / (cubicCells : Rat)))

/-- The table of arc lengths of a SPLN. -/
def Cubic.table (c : Cubic) : List Rat := c.lengths cubicCells 0 0

/-- The arc length of a SPLN, well within the 0.01 % of R188. -/
def Cubic.len (c : Cubic) : Rat := c.table.getLastD 0

/-- The parameter at an arc length `d`, from the cells of the table from number `k` on. -/
def paramIn : List Rat → Nat → Rat → Rat
  | a :: b :: t, k, d =>
    if d ≤ b then ((k : Rat) + (if b = a then 0 else (d - a) / (b - a))) / (cubicCells : Rat) else paramIn (b :: t) (k + 1) d
  | _, _, _ => 1

/-- The parameter of a SPLN at an arc length. -/
def Cubic.param (c : Cubic) (d : Rat) : Rat := if d ≤ 0 then 0 else paramIn c.table 0 d

/-- The control points lie on one line. -/
def Cubic.straight (c : Cubic) : Bool :=
  let cr (ax ay bx by_ : Rat) : Bool := decide ((ax - c.x0) * (by_ - c.y0) = (bx - c.x0) * (ay - c.y0))
  cr c.x1 c.y1 c.x2 c.y2 && cr c.x1 c.y1 c.x3 c.y3 && cr c.x2 c.y2 c.x3 c.y3

/-- The local radius of curvature at a parameter, µm; none on a straight line. -/
def Cubic.radius (c : Cubic) (u : Rat) : Option Rat :=
  let (dx, dy) := c.d1 u
  let (ex, ey) := c.d2 u
  let n := dx * dx + dy * dy
  let cr := absQ (dx * ey - dy * ex)
  if c.straight then none
  else if n = 0 then some 0
  else if cr = 0 then none
  else some (n * sqrtQ n / cr / 20)

/-- The stage of a SPLN's profile at time `t`, the distance before it and the time into it. -/
def stageAt : List Stage → Rat → Rat → Option (Stage × Rat × Rat)
  | [], _, _ => none
  | [g], d, t => some (g, d, t)
  | g :: r, d, t => if t < g.time then some (g, d, t) else stageAt r (d + g.len) (t - g.time)

/-- The time of a SPLN's profile. -/
def stagesT (l : List Stage) : Rat := l.foldl (fun a g => a + g.time) 0

/-- Distance, speed and acceleration along the path of a part `k` beats into its `n` (R181: the whole function is stretched
to whole beats). -/
def Motion.along (m : Motion) (k n : Nat) : Rat × Rat × Rat :=
  let q : Rat := if n = 0 then 1 else (k : Rat) / (n : Rat)
  let st (time : Rat) : Rat := if n = 0 then 1 else time * beatsPerS / (n : Rat)
  let one (v0 vp v1 acc jerk time : Rat) : Rat × Rat × Rat :=
    let (d, v, c) := profileAt acc jerk v0 vp v1 time (time * q)
    (if n ≤ k then profileLen acc jerk v0 vp v1 time else d, v * st time, c * st time * st time)
  match m with
  | .rest .. => (0, 0, 0)
  | .line _ _ _ _ _ _ v0 vp v1 acc jerk time => one v0 vp v1 acc jerk time
  | .arc _ _ _ _ _ _ _ _ v0 vp v1 acc jerk time => one v0 vp v1 acc jerk time
  | .cubic _ _ _ _ _ _ _ _ _ acc jerk stages =>
    let time := stagesT stages
    match stageAt stages 0 (time * q) with
    | none => (0, 0, 0)
    | some (g, d0, t) =>
      let (d, v, c) := profileAt acc jerk g.v0 g.vp g.v1 g.time t
      (d0 + d, v * st time, c * st time * st time)

/-- A motion at `k` beats of a part of `n` beats; its end is exact (R181). -/
def Motion.at (m : Motion) (k n : Nat) : Sample :=
  let (d, v, c) := m.along k n
  match m with
  | .rest x y z => { x, y, z }
  | .line x0 y0 z0 x1 y1 z1 v0 vp v1 acc jerk time =>
    let len := profileLen acc jerk v0 vp v1 time
    let fr := if len = 0 then 1 else if n ≤ k then 1 else d / len
    let sc := if len = 0 then 0 else 1 / len / 20
    { x := x0 + (x1 - x0) * fr, y := y0 + (y1 - y0) * fr, z := z0 + (z1 - z0) * fr
      vx := (x1 - x0) * sc * v, vy := (y1 - y0) * sc * v, vz := (z1 - z0) * sc * v
      ax := (x1 - x0) * sc * c, ay := (y1 - y0) * sc * c, az := (z1 - z0) * sc * c }
  | .arc cx cy sx sy sweep ex ey z v0 vp v1 acc jerk time =>
    let len := profileLen acc jerk v0 vp v1 time
    let fr := if len = 0 then 1 else if n ≤ k then 1 else d / len
    let th := fixQ (sweep * fr)
    let co := cosQ th
    let si := sinQ th
    let rx := co * sx - si * sy
    let ry := si * sx + co * sy
    let r := sqrtQ (sx * sx + sy * sy)
    let sg : Rat := if sweep < 0 then -1 else 1
    let tx := -ry / r * sg
    let ty := rx / r * sg
    let cen := v * v / (r / 20)
    { x := cx + rx + ex * fr, y := cy + ry + ey * fr, z
      vx := tx * v, vy := ty * v, ax := tx * c - rx / r * cen, ay := ty * c - ry / r * cen }
  | .cubic x0 y0 x1 y1 x2 y2 x3 y3 z _ _ _ =>
    let cb : Cubic := ⟨x0, y0, x1, y1, x2, y2, x3, y3⟩
    let u := if n ≤ k then 1 else cb.param d
    let (x, y) := cb.pt u
    let (dx, dy) := cb.d1 u
    let (ex, ey) := cb.d2 u
    let m := dx * dx + dy * dy
    let r := sqrtQ m
    if r = 0 then { x, y, z }
    else
      let tx := dx / r
      let ty := dy / r
      let along := ex * tx + ey * ty
      let nx := (ex - along * tx) / m * 20
      let ny := (ey - along * ty) / m * 20
      { x, y, z, vx := tx * v, vy := ty * v, ax := tx * c + nx * v * v, ay := ty * c + ny * v * v }

/-- The part of a plan at `k` beats from its start, and the beats into it. -/
def partAt : List Part → Nat → Option (Part × Nat)
  | [], _ => none
  | p :: t, k => if k < p.beats then some (p, k) else (match t with | [] => some (p, p.beats) | _ => partAt t (k - p.beats))

/-- The beats of a plan. -/
def Plan.beats (p : Plan) : Nat := (p.parts.map Part.beats).foldl (· + ·) 0

/-- The spot at a beat of a plan. -/
def Plan.sample (p : Plan) (beat : Nat) (dflt : Sample) : Sample :=
  match partAt p.parts (beat - p.start) with
  | some (q, k) => q.motion.at k q.beats
  | none => dflt

/-- The plan running on a timeline. -/
def Timeline.plan? : Timeline → Option Plan
  | .idle => none
  | .seg p => some p
  | .stop p _ => some p
  | .ret p => some p

/-- The spot of an escapement at a beat, without wobble. -/
def EscSt.spot (e : EscSt) (beat : Nat) : Sample :=
  let d : Sample := { x := e.px, y := e.py, z := e.pz }
  match e.line.plan? with
  | none => d
  | some p => p.sample beat d

/-! ### Segments -/

/-- A segment is laser-on (R74, R93). -/
def SegKind.on : SegKind → Bool
  | .mark => true | .arc => true | .spln => true | .jump => false | .dwell on => on

/-- A laser-on segment that moves. -/
def SegKind.moves : SegKind → Bool
  | .mark => true | .arc => true | .spln => true | _ => false

/-- The segment goes on with the laser-on stretch before it: every laser-on segment does, but for a vector that a FLOAT draws
(R77). -/
def Seg.joins (g : Seg) : Bool := g.kind.on && g.piece.isNone

/-- A direction: steps along X, Y and Z. -/
abbrev Dir := Rat × Rat × Rat

/-- The control points of a SPLN segment. -/
def Seg.cubic (g : Seg) : Cubic := ⟨g.x0, g.y0, g.ax, g.ay, g.bx, g.by_, g.x1, g.y1⟩

/-- The tangent at the start of a laser-on segment (not normed). -/
def Seg.dir0 (g : Seg) : Dir :=
  match g.kind with
  | .arc =>
    let sx := g.x0 - g.ax
    let sy := g.y0 - g.ay
    if g.sweep < 0 then ((sy : Rat), (-sx : Int), 0) else ((-sy : Int), (sx : Rat), 0)
  | .spln =>
    if g.ax ≠ g.x0 ∨ g.ay ≠ g.y0 then ((g.ax - g.x0 : Int), (g.ay - g.y0 : Int), 0)
    else if g.bx ≠ g.x0 ∨ g.by_ ≠ g.y0 then ((g.bx - g.x0 : Int), (g.by_ - g.y0 : Int), 0)
    else ((g.x1 - g.x0 : Int), (g.y1 - g.y0 : Int), 0)
  | _ => ((g.x1 - g.x0 : Int), (g.y1 - g.y0 : Int), (g.z1 - g.z0 : Int))

/-- Radians of a sweep (R89). -/
def sweepRad (sweep : Int) : Rat := fixQ ((sweep : Rat) * 2 * piQ / 16777216)

/-- The exact end of an ARC, before rounding (R89). -/
def arcEnd (x0 y0 cx cy sweep : Int) : Rat × Rat :=
  let th := sweepRad sweep
  let sx : Rat := (x0 - cx : Int)
  let sy : Rat := (y0 - cy : Int)
  (cx + cosQ th * sx - sinQ th * sy, cy + sinQ th * sx + cosQ th * sy)

/-- The tangent at the end of a laser-on segment (not normed). -/
def Seg.dir1 (g : Seg) : Dir :=
  match g.kind with
  | .arc =>
    let (ex, ey) := arcEnd g.x0 g.y0 g.ax g.ay g.sweep
    let rx := ex - g.ax
    let ry := ey - g.ay
    if g.sweep < 0 then (ry, -rx, 0) else (-ry, rx, 0)
  | .spln =>
    if g.bx ≠ g.x1 ∨ g.by_ ≠ g.y1 then ((g.x1 - g.bx : Int), (g.y1 - g.by_ : Int), 0)
    else if g.ax ≠ g.x1 ∨ g.ay ≠ g.y1 then ((g.x1 - g.ax : Int), (g.y1 - g.ay : Int), 0)
    else ((g.x1 - g.x0 : Int), (g.y1 - g.y0 : Int), 0)
  | _ => g.dir0

/-- The path length of a segment in XY, µm. -/
def Seg.len (g : Seg) : Rat :=
  match g.kind with
  | .arc => lenUm (g.x0 - g.ax : Int) (g.y0 - g.ay : Int) * absQ (sweepRad g.sweep)
  | .spln => g.cubic.len
  | .dwell _ => 0
  | _ => lenUm (g.x1 - g.x0 : Int) (g.y1 - g.y0 : Int)

/-- The length of the path a segment's profile runs along: XY, or Z where it moves Z alone (R185). -/
def Seg.pathLen (g : Seg) : Rat := if g.len = 0 then absQ (((g.z1 - g.z0 : Int) : Rat) / 20) else g.len

/-- Limits scaled so that Z stays within its own along a path of `len` µm (R185). -/
def Limits.withZ (l : Limits) (len dz : Rat) : Limits :=
  if dz = 0 then l
  else if len = 0 then { l with vm := minQ l.vm l.zv, vj := minQ l.vj l.zv, a := l.za, j := l.zj }
  else
    let q := len / absQ dz
    { l with vm := minQ l.vm (l.zv * q), vj := minQ l.vj (l.zv * q), a := minQ l.a (l.za * q), j := minQ l.j (l.zj * q) }

/-- The limits of a laser-on segment's path: speed, acceleration, jerk; `clamp`: one of them lowers the programmed motion. -/
structure PathLim where
  v : Rat
  a : Rat
  j : Rat
  clamp : Bool
  deriving DecidableEq, Repr

/-- The limits of a laser-on segment: its own or the mark speed, the head's, Z, and an ARC's curvature (R184, R185, R188). A segment
that moves Z alone runs at the lesser of its speed and TRJ_ZVMAX, which is no clamp (log entry 136). -/
def Seg.lim (g : Seg) (l : Limits) : PathLim :=
  let own : Rat := ((g.speed.getD g.set.vMark : Nat) : Rat)
  let dz : Rat := ((g.z1 - g.z0 : Int) : Rat) / 20
  let lz := l.withZ g.len dz
  let v := minQ own l.vm
  let past := decide (l.vm < own)
  if g.len = 0 ∧ dz ≠ 0 then ⟨minQ v l.zv, l.za, l.zj, past⟩
  else
    let vz := minQ v lz.vm
    let vc := match g.kind with
      | .arc => minQ vz (sqrtQ (l.a * lenUm (g.x0 - g.ax : Int) (g.y0 - g.ay : Int)))
      | _ => vz
    ⟨vc, lz.a, lz.j, past || decide (vc < v) || decide (lz.a < l.a) || decide (lz.j < l.j)⟩

/-- The speed that a segment's curvature and limits allow at a parameter of its path (R188). -/
def Seg.bound (g : Seg) (l : Limits) (u : Rat) : Rat :=
  match g.kind with
  | .spln => match g.cubic.radius u with
    | some r => minQ (g.lim l).v (sqrtQ (l.a * r))
    | none => (g.lim l).v
  | _ => (g.lim l).v

/-- The cosine of the angle between two directions, 1 where one has none. -/
def cosBetween (a b : Dir) : Rat :=
  let n := sqrtQ (a.1 * a.1 + a.2.1 * a.2.1 + a.2.2 * a.2.2) * sqrtQ (b.1 * b.1 + b.2.1 * b.2.1 + b.2.2 * b.2.2)
  if n = 0 then 1 else (a.1 * b.1 + a.2.1 * b.2.1 + a.2.2 * b.2.2) / n

/-- The junction speed (R187) between directions `d0` and `d1`. -/
def junctionV (a vin vout : Rat) (d0 d1 : Dir) : Rat :=
  let c := cosBetween d0 d1
  let s := if 1 ≤ c then 0 else sqrtQ ((1 - c) / 2)
  let m := minQ vin vout
  if s = 0 then m else minQ m (a / 2000000 / (2 * s))

/-- The junction speed of two laser-on segments. -/
def Seg.junction (g x : Seg) (l : Limits) : Rat := junctionV l.a (g.bound l 1) (x.bound l 0) g.dir1 x.dir0

/-- The direction changes by more than ANGLE degrees (R95). -/
def turnsMore (d0 d1 : Dir) (angle : Nat) : Bool :=
  decide (cosBetween d0 d1 < cosQ ((angle : Rat) * piQ / 180) - 1 / 1000000000000)

/-- A junction between two laser-on segments is split (R95, R193): in mode 1 always, in mode 2 by its angle, where one of the two
admits skywriting (log entry 137). -/
def splitsAt (g next : Seg) : Bool :=
  next.kind.on && !(g.ns && next.ns) &&
  (next.set.skyMode == 1 || (next.set.skyMode == 2 && next.kind.moves &&
    turnsMore g.dir1 next.dir0 next.set.skyAngle))

/-- The run-out length of a moving laser-on segment, none without one (R95). `wait`: a wait instruction stands behind
the queue, under the settings `ws`. -/
def runOut (g : Seg) (next : Option Seg) (wait : Bool) (ws : Settings) : Option Nat :=
  if g.ns then none
  else match next with
    | none => if wait && ws.skyMode != 0 then some ws.skyOut else none
    | some x =>
      if x.joins then (if splitsAt g x then some x.set.skyOut else none)
      else if x.set.skyMode != 0 then some x.set.skyOut else none

/-! ### The speed along a SPLN (R186, R188) -/

/-- A point of a SPLN at which its speed is checked: arc length, the speed the curvature allows there, and the greatest speed from
which every later point's can still be met. -/
structure Node where
  s : Rat
  b : Rat
  e : Rat := 0
  deriving DecidableEq, Repr

/-- The nodes with `e` filled in. -/
def fillNodes (a j : Rat) : List Node → List Node
  | [] => []
  | n :: t => { n with e := t.foldl (fun e m => minQ e (reachable a j (m.s - n.s) m.b n.b)) n.b } :: fillNodes a j t

/-- The nodes of a SPLN with exit speed `v1` wanted: every fourth cell boundary (log entry 12). -/
def Seg.nodes (g : Seg) (l : Limits) (v1 : Rat) : List Node :=
  let tbl := g.cubic.table
  let node (k : Nat) : Node :=
    let b := g.bound l ((k : Rat) / 32)
    ⟨tbl.getD (4 * k) 0, if k = 32 then minQ b v1 else b, 0⟩
  fillNodes (g.lim l).a (g.lim l).j ((List.range 33).map node)

/-- One profile of R186 over the first `m` of the nodes ahead, and whether it keeps below what each node on the way allows. -/
def stageOver (a j cap s v : Rat) (ns : List Node) (m : Nat) : Stage × Bool :=
  let last := ns.getD (m - 1) ⟨s, v, v⟩
  let d := last.s - s
  let w := maxQ (minQ last.e (reachable a j d v cap)) (lowest a j d v)
  let p := peakOf a j d v w (if m = 1 then maxQ v w else cap)
  (⟨d, v, p, w, profileT a j d v p w⟩,
    (ns.take (m - 1)).all (fun n => decide (profileSpeed a j d v p w (n.s - s) ≤ n.b + 1 / 1000)))

/-- The longest such profile, over at most `m` nodes, and how many it takes. -/
def longestStage (a j cap s v : Rat) (ns : List Node) : Nat → Stage × Nat
  | 0 => ((stageOver a j cap s v ns 1).1, 1)
  | m + 1 =>
    let r := stageOver a j cap s v ns (m + 1)
    if r.2 then (r.1, m + 1) else longestStage a j cap s v ns m

/-- The profiles along a SPLN from speed `v` (R186, R188): each the longest that stays below the curvature's bound. -/
def stagesOf (a j cap : Rat) : Nat → Rat → Rat → List Node → List Stage
  | 0, _, _, _ => []
  | f + 1, s, v, ns =>
    match ns with
    | [] => []
    | _ :: _ =>
      let (st, m) := longestStage a j cap s v ns ns.length
      st :: stagesOf a j cap f (s + st.len) st.v1 (ns.drop m)

/-- The profiles of a SPLN from `v0`, `v1` wanted at its end; without curvature where `free` is set. -/
def Seg.stages (g : Seg) (l : Limits) (v0 v1 : Rat) (free : Bool) : List Stage :=
  let m := g.lim l
  let ns := g.nodes l v1
  let ns := if free then fillNodes m.a m.j (ns.map (fun n => { n with b := if n.s = g.len then minQ m.v v1 else m.v })) else ns
  stagesOf m.a m.j m.v 32 0 v0 (ns.drop 1)

/-- The greatest speed at which a laser-on segment can be entered for an exit speed `v1`. -/
def Seg.entryMax (g : Seg) (l : Limits) (v1 : Rat) : Rat :=
  let m := g.lim l
  match g.kind with
  | .spln => match g.nodes l v1 with | n :: _ => n.e | [] => m.v
  | _ => reachable m.a m.j g.pathLen v1 m.v

/-- The exit speed of a laser-on segment by the look-ahead of R189 over the `n` segments that follow: the last of them goes on at its
own speed, a wait issued behind them is a boundary of speed 0. -/
def exitV (l : Limits) (wait : Bool) (ws : Settings) : Seg → List Seg → Nat → Rat
  | g, [], _ => if wait && (runOut g none true ws).isNone then 0 else g.bound l 1
  | g, x :: t, n =>
    if (runOut g (some x) wait ws).isSome then g.bound l 1
    else if !x.kind.moves || !x.joins || splitsAt g x then 0
    else
      minQ (g.junction x l)
        (x.entryMax l (if n ≤ 1 ∧ !t.isEmpty then x.bound l 1 else exitV l wait ws x t (n - 1)))

/-! ### Plans -/

/-- A laser-off move from rest to rest (R190): X and Y on one profile scaled to the axis that needs longer. -/
def offMove (l : Limits) (speed : Nat) (x0 y0 z0 x1 y1 z1 : Rat) : List Part × Bool :=
  let dx := absQ (x1 - x0) / 20
  let dy := absQ (y1 - y0) / 20
  let dz := absQ (z1 - z0) / 20
  let d := maxQ dx dy
  let lz := l.withZ d dz
  let own : Rat := if speed = 0 then l.vj else minQ (speed : Rat) l.vj
  let cap := minQ own lz.vj
  let len := if d = 0 then dz else d
  if len = 0 then ([], false)
  else
    let vp := peakOf lz.a lz.j len 0 0 cap
    let t := profileT lz.a lz.j len 0 vp 0
    ([{ motion := .line x0 y0 z0 x1 y1 z1 0 vp 0 lz.a lz.j t, beats := beatsOf t, gate := false }],
      decide (dz ≠ 0) && (decide (cap < own) || (decide (d ≠ 0) && (decide (lz.a < l.a) || decide (lz.j < l.j)))))

/-- A part at rest. -/
def restPart (x y z : Rat) (n : Nat) (gate : Bool) : Part := { motion := .rest x y z, beats := n, gate }

/-- A direction per unit of path: of X and Y, or of Z where it is alone. -/
def unitVec (d : Dir) : Dir :=
  let n := sqrtQ (d.1 * d.1 + d.2.1 * d.2.1)
  if n = 0 then (0, 0, if 0 < d.2.2 then 1 else if d.2.2 < 0 then -1 else 0) else (d.1 / n, d.2.1 / n, d.2.2 / n)

/-- A point `d` µm from another along a direction. -/
def ahead (p e : Dir) (d : Rat) : Dir := (p.1 + e.1 * d * 20, p.2.1 + e.2.1 * d * 20, p.2.2 + e.2.2 * d * 20)

/-- A straight change of speed from `v0` to `v1` along `e` from a point, and its end point. -/
def rampPart (a j : Rat) (p : Dir) (v0 v1 : Rat) (e : Dir) : Part × Dir :=
  let t := changeT a j (absQ (v1 - v0))
  let q := ahead p e (changeD a j v0 v1)
  ({ motion := .line p.1 p.2.1 p.2.2 q.1 q.2.1 q.2.2 v0 v1 v1 a j t, beats := beatsOf t, gate := false }, q)

/-- A straight run at constant speed for `n` beats (run-in, run-out), and its end point. -/
def runPart (a j : Rat) (p : Dir) (v : Rat) (e : Dir) (n : Nat) : Part × Dir :=
  let q := ahead p e (v * (n : Rat) / beatsPerS)
  ({ motion := .line p.1 p.2.1 p.2.2 q.1 q.2.1 q.2.2 v v v a j ((n : Rat) / beatsPerS), beats := n, gate := false }, q)

/-- The start point of a segment. -/
def Seg.start (g : Seg) : Dir := (g.x0, g.y0, g.z0)

/-- The approach point of a run-in (R192). -/
def approachPt (l : Limits) (g : Seg) : Dir :=
  let m := g.lim l
  let v := g.bound l 0
  ahead g.start (unitVec g.dir0) (-(v * changeT m.a m.j v / 2 + v * (g.set.skyIn : Rat) / beatsPerS))

/-- A laser-on segment has a run-in (R95): in mode 1 always, in mode 2 unless it goes on from a laser-on segment without turning by
more than ANGLE. `prev` is what ended before it and `d` the path's direction there; a DWELL has none (log entry 137). -/
def hasRunIn (g : Seg) (prev : Nat) (d : Dir) : Bool :=
  g.kind.moves && !g.ns && (g.set.skyMode == 1 ||
    (g.set.skyMode == 2 && (!g.joins || prev != 1 || turnsMore d g.dir0 g.set.skyAngle)))

/-- The path part of a moving laser-on segment from entry speed `v0`, with exit speed `vt` wanted; the exit speed it reaches; and
whether the curvature of a SPLN lowers its speed. -/
def pathPart (l : Limits) (g : Seg) (v0 vt : Rat) (gate : Bool) : Part × Rat × Bool :=
  let m := g.lim l
  let len := g.pathLen
  let vx := maxQ (minQ vt (reachable m.a m.j len v0 m.v)) (lowest m.a m.j len v0)
  let vp := peakOf m.a m.j len v0 vx m.v
  let t := profileT m.a m.j len v0 vp vx
  match g.kind with
  | .arc =>
    let (ex, ey) := arcEnd g.x0 g.y0 g.ax g.ay g.sweep
    ({ motion := .arc g.ax g.ay (g.x0 - g.ax : Int) (g.y0 - g.ay : Int) (sweepRad g.sweep) (g.x1 - ex) (g.y1 - ey) g.z0
        v0 vp vx m.a m.j t
       beats := beatsOf t, gate, path := true }, vx, false)
  | .spln =>
    let st := g.stages l v0 vt false
    ({ motion := .cubic g.x0 g.y0 g.ax g.ay g.bx g.by_ g.x1 g.y1 g.z0 m.a m.j st, beats := beatsOf (stagesT st), gate, path := true },
      (match st.getLast? with | some x => x.v1 | none => v0), decide (st ≠ g.stages l v0 vt true))
  | _ =>
    ({ motion := .line g.x0 g.y0 g.z0 g.x1 g.y1 g.z1 v0 vp vx m.a m.j t, beats := beatsOf t, gate, path := true }, vx, false)

/-- The connecting move to a point, empty where the spot is there (R193). -/
def connect (l : Limits) (e : EscSt) (g : Seg) (p : Dir) : List Part :=
  if e.px = p.1 ∧ e.py = p.2.1 ∧ e.pz = p.2.2 then [] else (offMove l g.set.vJump e.px e.py e.pz p.1 p.2.1 p.2.2).1

/-- The direction of the path at the last boundary. -/
def EscSt.dir (e : EscSt) : Dir := (e.dirX, e.dirY, e.dirZ)

/-- The plan of the first segment of the queue (R189 to R193), and whether SW.CLAMP sets. `zero`: it is a zero-power
segment (R98); `wait`: a wait instruction stands behind the queue. -/
def EscSt.planSeg (e : EscSt) (l : Limits) (beat : Nat) (g : Seg) (rest : List Seg) (zero wait : Bool) : Plan × Bool :=
  match g.kind with
  | .jump =>
    let sp := g.speed.getD g.set.vJump
    let tgt : Dir := match rest with
      | x :: _ => if hasRunIn x 0 e.dir then approachPt l x else (g.x1, g.y1, g.z1)
      | [] => (g.x1, g.y1, g.z1)
    let (ps, c) := offMove l sp e.px e.py e.pz tgt.1 tgt.2.1 tgt.2.2
    ({ start := beat, parts := ps ++ [restPart tgt.1 tgt.2.1 tgt.2.2 g.set.settle false] }, c || decide (l.vj < (sp : Rat)))
  | .dwell on =>
    ({ start := beat, parts := connect l e g g.start ++ [{ restPart g.x0 g.y0 g.z0 g.beats (on && !zero) with path := on }] }, false)
  | _ =>
    let m := g.lim l
    let v := g.bound l 0
    let e0 := unitVec g.dir0
    let e1 := unitVec g.dir1
    let (pre, v0) : List Part × Rat :=
      if hasRunIn g e.prev e.dir then
        let a := approachPt l g
        let (rp, r) := rampPart m.a m.j a 0 v e0
        let (ip, _) := runPart m.a m.j r v e0 g.set.skyIn
        (connect l e g a ++ [rp, ip], v)
      else if e.v = 0 then (connect l e g g.start, 0)
      else ([], minQ e.v v)
    let ro := runOut g rest.head? wait e.set
    let vt := if ro.isSome then g.bound l 1 else exitV l wait e.set g rest 8
    let (path, vx, bend) := pathPart l g v0 vt (!zero)
    let plan : Plan := match ro with
      | some n =>
        let (op, o) := runPart m.a m.j (g.x1, g.y1, g.z1) vx e1 n
        { start := beat, parts := pre ++ [path, op, (rampPart m.a m.j o vx 0 e1).1], vExit := 0, ranOut := true }
      | none => { start := beat, parts := pre ++ [path], vExit := vx, ranOut := false }
    ({ plan with dirX := e1.1, dirY := e1.2.1, dirZ := e1.2.2 }, m.clamp || bend)

/-- The jerk-limited stop from a moving point (R196) along the direction `e`, within the Z limits (R185). -/
def stopPlan (l : Limits) (beat : Nat) (p : Dir) (v : Rat) (e : Dir) : Plan :=
  let xy := decide (e.1 = 0) && decide (e.2.1 = 0)
  let lz := l.withZ (if xy then 0 else 1) (if xy then 1 else e.2.2)
  { start := beat, parts := [(rampPart lz.a lz.j p v 0 e).1], dirX := e.1, dirY := e.2.1, dirZ := e.2.2 }

/-- The return to the commanded end point (R197). -/
def returnPlan (l : Limits) (beat speed : Nat) (x y z x1 y1 z1 : Rat) : Plan :=
  { start := beat, parts := (offMove l speed x y z x1 y1 z1).1 ++ [restPart x1 y1 z1 0 false] }

/-! ### Where the timeline stands -/

/-- The part in progress and its beats done. -/
def EscSt.part? (e : EscSt) (beat : Nat) : Option (Part × Nat) :=
  match e.line with
  | .seg p => partAt p.parts (beat - p.start)
  | _ => none

/-- Beats of the parts of a plan before its path, and of the path. -/
def Plan.pre (p : Plan) : Nat := (p.parts.takeWhile (fun (x : Part) => !x.path)).foldl (fun a (x : Part) => a + x.beats) 0
/-- See `Plan.pre`. -/
def Plan.pathBeats (p : Plan) : Nat := (p.parts.filter (fun (x : Part) => x.path)).foldl (fun a (x : Part) => a + x.beats) 0

/-- The laser-on beats of the segment in progress that have passed (R97, R194). -/
def EscSt.onBeats (e : EscSt) (beat : Nat) : Nat :=
  match e.line with
  | .seg p => min (beat - p.start - p.pre) p.pathBeats
  | _ => 0

/-- The segment in progress. -/
def EscSt.seg? (e : EscSt) : Option Seg :=
  match e.line with | .seg _ => e.queue.head? | _ => none

/-! ### Wobble -/

/-- The amplitude that keeps the wobble's acceleration at half of TRJ_AMAX (R195), in steps; and whether it was reduced. -/
def wobbleAmp (l : Limits) (g : Seg) : Rat × Bool :=
  let a := (g.set.ampl : Rat)
  let w := 2 * piQ * (g.set.freq : Rat) * 10
  let k : Rat := if g.set.shape = 2 then 2 else 1
  let peak := k * a / 20 * w * w
  if g.set.shape = 0 ∨ g.nw ∨ peak ≤ l.a / 2 then (a, false) else (fixQ (l.a / 2 / (k * w * w) * 20), true)

/-- The envelope after `k` beats of a segment of `n` beats (R194, R195). -/
def wobbleEnv (e : EscSt) (g : Seg) (k n : Nat) : Rat :=
  let f := (g.set.freq : Rat) * 10
  let t := (k : Rat) / beatsPerS
  if g.nw then
    let span := minQ (if f = 0 then 0 else 1 / f) ((n : Rat) / beatsPerS)
    if span = 0 then 0 else maxQ 0 (e.env * (1 - t / span))
  else minQ 1 (e.env + f * t)

/-- An angle brought into (-π, π]. -/
def wrapAngle (a : Rat) : Rat := a - 2 * piQ * (ceilQ ((a - piQ) / (2 * piQ)) : Rat)

/-- The path tangent in X and Y of a laser-on segment at a sample `k` of `n` beats into it: where the spot rests, that of the nearer end,
and on a DWELL the last boundary's (log entry 138). -/
def EscSt.tangent (e : EscSt) (g : Seg) (q : Sample) (k n : Nat) : Rat × Rat :=
  let d := if 2 * k < n then g.dir0 else g.dir1
  if q.vx ≠ 0 ∨ q.vy ≠ 0 then (q.vx, q.vy)
  else if g.kind.moves then (d.1, d.2.1)
  else (e.dirX, e.dirY)

/-- The frame angle of the wobble: the path's, turned linearly over 8 setpoint periods centred on a junction (R194). -/
def wobbleFrame (e : EscSt) (g : Seg) (q : Sample) (beat k n : Nat) : Rat :=
  let d := e.tangent g q k n
  let a := angleQ d.1 d.2
  let last : Rat := match e.junction with
    | some (ox, oy, b) =>
      if beat - b < 800 then 0 - wrapAngle (a - angleQ ox oy) * (1 - ((800 + (beat - b) : Nat) : Rat) / 1600) else 0
    | none => 0
  let next : Rat := match e.line, e.queue with
    | .seg p, _ :: x :: _ =>
      let left := p.start + p.beats - beat
      if left < 800 ∧ x.kind.moves ∧ !p.ranOut then
        wrapAngle (angleQ x.dir0.1 x.dir0.2.1 - a) * ((800 - left : Nat) : Rat) / 1600
      else 0
    | _, _ => 0
  a + last + next

/-- The wobble offset `k` beats into a laser-on path of `n` beats, in steps (R194). The phase is what the stretch's segments have
gathered, each at its own frequency. -/
def wobbleOffset (e : EscSt) (l : Limits) (g : Seg) (q : Sample) (beat k n : Nat) : Rat × Rat :=
  if g.set.shape = 0 then (0, 0)
  else
    let amp := (wobbleAmp l g).1
    let ev := wobbleEnv e g k n
    let ph := fixQ (2 * piQ * ((e.wobT + g.set.freq * 10 * k : Nat) : Rat) / beatsPerS)
    let (ot, on) : Rat × Rat := match g.set.shape with
      | 1 => (ev * amp * sinQ ph, ev * amp * cosQ ph)
      | 2 => (ev * (amp / 2) * sinQ (2 * ph), ev * amp * sinQ ph)
      | _ => (0, ev * amp * sinQ ph)
    let fr := wobbleFrame e g q beat k n
    let c := cosQ fr
    let s := sinQ fr
    (fixQ (ot * c - on * s), fixQ (ot * s + on * c))

/-- The wobble offset at a beat (R194, R195): a laser-on path carries its own, frozen through its run-out and departure; a stop or
a return the one it froze with. -/
def EscSt.wobble (e : EscSt) (l : Limits) (beat : Nat) : Rat × Rat :=
  match e.line, e.queue with
  | .seg p, g :: _ =>
    let n := p.pathBeats
    if g.kind.on ∧ p.start + p.pre ≤ beat then
      let k := e.onBeats beat
      let at_ := p.start + p.pre + k
      wobbleOffset e l g ((p.parts.find? (fun (x : Part) => x.path)).map (fun x => x.motion.at k x.beats) |>.getD
        { x := e.px, y := e.py, z := e.pz }) at_ k n
    else (0, 0)
  | _, _ => (e.wobX, e.wobY)

end Sys2Proof.Machine
end

