-- ==== Sys2Proof/Machine/BridgeOps.lean ====
section
/-! DEFINITION. The bridge's shared operations (R288 to R298, R305 to R309): zones and their waiting lists, orphaned
pieces, boxes, reservations and the rules of zones and plume. -/
namespace Sys2Proof.Machine

/-! ### Zones -/

/-- Zone `z` is defined for escapement `n` (R288). -/
def State.zoneDefined (s : State) (z n : Nat) : Bool :=
  decide (z < 64) && s.liveFlag (BRG_ZCTL_EN z) && (s.live (BRG_ZCTL_MEMBERS z)).testBit n

/-- The owner of a zone (R318). -/
def State.zoneOwner (s : State) (z : Nat) : Option Nat :=
  if s.flag (BRG_ZOWN_OWNED z) then some (s.get (BRG_ZOWN_OWNER z)) else none

/-- The waiting list of a zone, oldest first (R289). -/
def State.zoneQueue (s : State) (z : Nat) : List Nat := Sparse.get [] s.claims z

/-- The waiting list of a zone replaced. -/
def State.setZoneQueue (s : State) (z : Nat) (l : List Nat) : State := { s with claims := Sparse.put [] s.claims z l }

/-- Zone `z` granted to escapement `n`: ownership, the pointer of R283, GR and TO (R105), and issue resumes (R289). -/
def State.grantZone (s : State) (z n : Nat) : State :=
  let s1 := ((s.set (BRG_ZOWN_OWNED z) 1).set (BRG_ZOWN_OWNER z) n).set BRG_RRPTR_PTR n
  ((s1.set (ESC_SW_GR n) 1).set (ESC_SW_TO n) 0).endWait n

/-- Zone `z` released; the bridge grants it on that beat, in its second phase (R283, R289). -/
def State.releaseZone (s : State) (z : Nat) : State := (s.set (BRG_ZOWN_OWNED z) 0).set (BRG_ZOWN_OWNER z) 0

/-- Every zone of escapement `n` released (R291), lowest number first. -/
def State.releaseZones (s : State) (n : Nat) : State :=
  (List.range 64).foldl (fun t z => if t.zoneOwner z = some n then t.releaseZone z else t) s

/-- Escapement `n` leaves every waiting list. -/
def State.leaveClaims (s : State) (n : Nat) : State :=
  { s with claims := (s.claims.map (fun e => (e.1, e.2.filter (fun k => k != n)))).filter (fun e => !e.2.isEmpty) }

/-- Every zone of every escapement released with no grant (R281): no claim waits outside Expose. -/
def State.releaseEveryZone (s : State) : State :=
  (List.range 64).foldl (fun t z => (t.set (BRG_ZOWN_OWNED z) 0).set (BRG_ZOWN_OWNER z) 0) { s with claims := [] }

/-! ### Orphans -/

/-- A drawn piece becomes an orphan (R298): logged in the lowest free entry, flagged, and reported. -/
def State.orphan (s : State) (pool side index : Nat) : State :=
  let s1 := match (List.range 16).find? (fun j => !s.flag (BRG_ORPH_VALID j)) with
    | some j => (((s.set (BRG_ORPH_VALID j) 1).set (BRG_ORPH_SIDE j) side).set (BRG_ORPH_POOL j) pool).set
        (BRG_ORPH_INDEX j) index
    | none => s.set BRG_STAT_ORPHOVF 1
  (s1.set BRG_STAT_ORPHAN 1).pulse 0x015

/-- Every drawn piece of escapement `n` that is not done becomes an orphan, and its FLOAT is over (R298). -/
def State.orphanAll (s : State) (n : Nat) : State :=
  match (s.esc n).float with
  | none => s
  | some f => f.open_.foldl (fun t i => t.orphan f.pool f.side i) (s.modEsc n (fun e => { e with float := none }))

/-! ### Boxes and reservations -/

/-- The smallest box that holds two boxes. -/
def Box.join (a b : Box) : Box := ⟨minQ a.xlo b.xlo, minQ a.ylo b.ylo, maxQ a.xhi b.xhi, maxQ a.yhi b.yhi⟩

/-- A box widened on every side. -/
def Box.widen (b : Box) (w h : Rat) : Box := ⟨b.xlo - w, b.ylo - h, b.xhi + w, b.yhi + h⟩

/-- Two boxes meet. -/
def Box.meets (a b : Box) : Bool :=
  decide (a.xlo ≤ b.xhi) && decide (b.xlo ≤ a.xhi) && decide (a.ylo ≤ b.yhi) && decide (b.ylo ≤ a.yhi)

/-- The square of the distance between two boxes (R309). -/
def Box.dist2 (a b : Box) : Rat :=
  let gap (alo ahi blo bhi : Rat) : Rat := maxQ 0 (maxQ (blo - ahi) (alo - bhi))
  let dx := gap a.xlo a.xhi b.xlo b.xhi
  let dy := gap a.ylo a.yhi b.ylo b.yhi
  dx * dx + dy * dy

/-- A point turned into the gas frame (R305). -/
def State.gas (s : State) (p : Rat × Rat) : Rat × Rat :=
  let ph := (s.live BRG_GAS_ANGLE : Rat) * 2 * piQ / 65536
  let c := if s.live BRG_GAS_ANGLE = 0 then 1 else cosQ ph
  let d := if s.live BRG_GAS_ANGLE = 0 then 0 else sinQ ph
  (p.1 * c + p.2 * d, p.2 * c - p.1 * d)

/-- The points that span what a laser-on segment contributes to a box, and by how much they widen (R307). -/
def Seg.hull (g : Seg) : List (Rat × Rat) × Rat :=
  match g.kind with
  | .arc => ([((g.ax : Rat), (g.ay : Rat))], lenUm (g.x0 - g.ax : Int) (g.y0 - g.ay : Int) * 20)
  | .spln => ([((g.x0 : Rat), (g.y0 : Rat)), ((g.ax : Rat), (g.ay : Rat)), ((g.bx : Rat), (g.by_ : Rat)),
      ((g.x1 : Rat), (g.y1 : Rat))], 0)
  | .dwell _ => ([((g.x0 : Rat), (g.y0 : Rat))], 0)
  | _ => ([((g.x0 : Rat), (g.y0 : Rat)), ((g.x1 : Rat), (g.y1 : Rat))], 0)

/-- The box of one segment, of points mapped by `f`. -/
def Seg.box (g : Seg) (f : Rat × Rat → Rat × Rat) : Option Box :=
  let (ps, w) := g.hull
  (ps.map f).foldl (fun (acc : Option Box) p =>
    let b : Box := (⟨p.1, p.2, p.1, p.2⟩ : Box).widen (w + (g.set.ampl : Rat)) (w + (g.set.ampl : Rat))
    match acc with | none => some b | some a => some (a.join b)) none

/-- The box of several laser-on segments (R307). -/
def stretchBox (gs : List Seg) (f : Rat × Rat → Rat × Rat) : Option Box :=
  gs.foldl (fun (acc : Option Box) g =>
    match acc, g.box f with
    | none, b => b
    | a, none => a
    | some a, some b => some (a.join b)) none

/-- The laser-on segments that go on with the one before them, at the front of a queue. -/
def joinedFront : List Seg → List Seg
  | [] => []
  | g :: t => if g.joins then g :: joinedFront t else []

/-- The laser-on stretch at the front of a queue (R77). -/
def frontStretch : List Seg → List Seg
  | [] => []
  | g :: t => if g.kind.on then g :: joinedFront t else []

/-- The rectangle of a zone (R288). -/
def State.zoneBox (s : State) (z : Nat) : Box :=
  ⟨(sgn 24 (s.live (BRG_ZXMIN_VALUE z)) : Rat), (sgn 24 (s.live (BRG_ZYMIN_VALUE z)) : Rat),
   (sgn 24 (s.live (BRG_ZXMAX_VALUE z)) : Rat), (sgn 24 (s.live (BRG_ZYMAX_VALUE z)) : Rat)⟩

/-- The zone rule (R290): the box meets no zone that another escapement owns; an empty zone affects nothing. -/
def State.zoneRule (s : State) (n : Nat) (b : Box) : Bool :=
  (List.range 64).all (fun z =>
    match s.zoneOwner z with
    | none => true
    | some o =>
      let r := s.zoneBox z
      o == n || decide (r.xhi < r.xlo) || decide (r.yhi < r.ylo) || !(r.meets b))

/-- The shadow of a box (R308). -/
def State.shadow (s : State) (b : Box) : Box :=
  { b with
    xhi := b.xhi + (s.live BRG_SHLEN_SHLEN : Rat)
    ylo := b.ylo - (s.live BRG_SHWID_SHWID : Rat)
    yhi := b.yhi + (s.live BRG_SHWID_SHWID : Rat) }

/-- Box `b` keeps clear of reservation `r` (R309). -/
def State.clears (s : State) (b r : Box) : Bool :=
  let d := (s.live BRG_DMIN_DMIN : Rat)
  decide (d * d ≤ b.dist2 r) && !(b.meets (s.shadow r)) && !(r.meets (s.shadow b))

/-- The reservations an escapement holds: of its stretch, of the stretch behind a passed hold point, and lingering (R308). -/
def EscSt.reservations (e : EscSt) : List Box :=
  e.resv.toList ++ (e.hold.bind HoldSt.resv).toList ++ e.linger.map Prod.fst

/-- The plume rule (R306, R309) for a gas-frame box of escapement `n`. -/
def State.plumeRule (s : State) (n : Nat) (b : Box) : Bool :=
  !s.liveFlag BRG_CTL_PLUMEEN || !(s.live BRG_PMASK_MASK).testBit n ||
  (List.range 24).all (fun k =>
    k == n || !(s.live BRG_PMASK_MASK).testBit k ||
    (s.esc k).reservations.all (s.clears b))

/-- The stretch in progress ends: its reservation ends BRG_LINGER beats later (R308). -/
def State.endStretch (s : State) (n : Nat) : State :=
  let e := s.esc n
  s.setEsc n { e with
    stretch := none, box := none
    resvEnd := if e.resv.isSome ∧ e.resvEnd.isNone then some (s.beat + s.live BRG_LINGER_LINGER) else e.resvEnd }

/-- A stretch that an underrun broke and that goes on no more ends here: at a hold point, or where its escapement has left RUN (R77,
R287). -/
def State.breakStretch (s : State) (n : Nat) : State :=
  let e := s.esc n
  let open_ := e.stretch.isSome && e.queue.isEmpty && (match e.line with | .seg _ => false | _ => true)
  if open_ then s.endStretch n else s

/-- A hold ends without its stretch (R286): a reservation it has made lingers (R308). -/
def State.dropHold (s : State) (n : Nat) : State :=
  s.modEsc n (fun e =>
    { e with
      hold := none
      linger := e.linger ++ ((e.hold.bind HoldSt.resv).toList.map (fun r => (r, s.beat + s.live BRG_LINGER_LINGER))) })

end Sys2Proof.Machine
end

