-- ==== Sys2Proof/Machine/PortOps.lean ====
section
/-! DEFINITION. Laser ports (R235 to R239): gate edges, the gate's qualifiers, DAC updates, calibration aborts. -/
namespace Sys2Proof.Machine

/-- Laser port `n` beside its registers. -/
def State.port (s : State) (n : Nat) : PortSt := Sparse.get {} s.ports n

/-- Port `n` replaced. -/
def State.setPort (s : State) (n : Nat) (p : PortSt) : State := { s with ports := Sparse.put {} s.ports n p }

/-- The gate qualifiers: Expose (R43), the port enabled (R238), the hack line released (R565), control returned (R237),
the internal reset over and neither the ports nor the regulator in block reset (R536). -/
def State.gateAllowed (s : State) (n : Nat) : Bool :=
  s.modeCode == mExpose && s.flag (LP_CTL_EN n) && !s.flag FLT_HACK_STATE && !s.portHold.testBit n &&
  s.rst.phase == .off && !s.heldInReset 141 && !s.heldInReset (64 + n)

/-- A running calibration step of kind 2 or 3 on laser `n` aborts when its gate is active or its code is not 0 (R518). -/
def State.calDisturb (s : State) (n : Nat) : State :=
  match s.cal.running with
  | some (k, u, _) => if (k = 2 ∨ k = 3) ∧ u = n then s.calAbort else s
  | none => s

/-- Since when a laser has been idle: noted when its gate goes inactive with code 0. An end of the idle time ends the laser's gap: the
next one takes up its pending steps, and a pass that ended begins anew in it (R516, R517, R519). -/
def State.idleNote (s : State) (n : Nat) : State :=
  let idle := !s.flag (LP_STAT_GATE n) && s.flag (LP_STAT_DACZ n)
  let l := s.cal.idleSince
  let had := l.any (fun e => e.1 == n)
  if idle then (if had then s else { s with cal := { s.cal with idleSince := Sparse.insert l n s.beat } })
  else
    { s with cal := { s.cal with
      idleSince := Sparse.erase l n
      tried := s.cal.tried.filter (fun c => !((c.1 == 2 || c.1 == 3) && c.2 == n))
      ended := false } }

/-- LP_STAT.GATE follows the timeline, the field (R201) and the qualifiers; a new pulse counts (R236). -/
def State.portRefresh (s : State) (n : Nat) : State :=
  let p := s.port n
  let on := p.want && !p.fieldHeld && s.gateAllowed n
  let was := s.flag (LP_STAT_GATE n)
  let s1 := s.set (LP_STAT_GATE n) (b2n on)
  let s2 := if on && !was then s1.incWrap (LP_GCNT_PULSES n) else s1
  s2.idleNote n

/-- The DAC's code written (R237): 0 where a qualifier forces it. -/
def State.setDac (s : State) (n code : Nat) : State :=
  let c := if s.gateAllowed n then code else 0
  ((s.setPort n { s.port n with dac := c }).set (LP_STAT_DACZ n) (b2n (c == 0))).idleNote n

/-- An edge placed behind others on the 1/64 beat grid (R235): less than a beat after an opposite one, both go. -/
def addEdge (es : List (Nat × Bool)) (t : Nat) (level : Bool) : List (Nat × Bool) × Bool :=
  match es.getLast? with
  | some (t0, l0) => if l0 ≠ level ∧ t < t0 + 64 then (es.dropLast, true) else (es ++ [(t, level)], false)
  | none => ([(t, level)], false)

/-- Where two edges went, a pulse was suppressed or two merged (R235). -/
def State.cutNote (s : State) (n : Nat) (level cut : Bool) : State :=
  if cut then s.set (if level then REG_STAT_MERGEG n else REG_STAT_SHORTG n) 1 else s

/-- GSKEW of the port added to the time of an edge (R515). -/
def State.skewed (s : State) (n t : Nat) : Nat := ((t : Int) + sgn 8 (s.gskew n)).toNat

/-- A gate edge of the timeline placed (R235). -/
def State.placeEdge (s : State) (n t : Nat) (level : Bool) : State :=
  let (es, cut) := addEdge (s.port n).edges (s.skewed n t) level
  (s.setPort n { s.port n with edges := es }).cutNote n level cut

/-- An edge of the field placed (R201): out of it, or inside again. -/
def State.placeField (s : State) (n t : Nat) (inside : Bool) : State :=
  let (es, cut) := addEdge (s.port n).fieldEdges (s.skewed n t) inside
  (s.setPort n { s.port n with fieldEdges := es }).cutNote n inside cut

/-- The time of an edge that belongs to beat `b`, shifted by a fine delay (R183, R235). -/
def edgeTime (b : Nat) (delay : Int) : Nat := (64 * ((b : Int) + 32) + delay).toNat

/-- The gate goes inactive at once and its placed edges are dropped (R159, R43). -/
def State.gateOff (s : State) (n : Nat) : State :=
  (s.setPort n { s.port n with edges := [], want := false }).portRefresh n

/-- FIRST clears only while both inputs are asserted (R239). -/
def State.ilkClear (s : State) : State := if s.flag LP_ILK_LEVA && s.flag LP_ILK_LEVB then s.set LP_ILK_FIRST 0 else s

end Sys2Proof.Machine
end

