-- ==== Sys2Proof/Machine/EscOps.lean ====
section
/-! DEFINITION. What other blocks do to an escapement: stops and returns of the spot (R196, R197), STOP (R159), the freeze
of Halted and its end (R61, R132), arming (R132), withdrawal of barrier arrivals (R154), block reset (R166). -/
namespace Sys2Proof.Machine

/-- A retarget is counted (R197, R210). -/
def State.countRetarget (s : State) (n : Nat) : State := (s.set (TRJ_STAT_RETGT n) 1).incSat (TRJ_RTG_CNT_RETGT n)

/-- The spot at rest on a point, displaced by a wobble offset (R195). -/
def EscSt.restAt (e : EscSt) (p : Sample) (w : Rat × Rat) : EscSt :=
  { e with line := .idle, px := p.x + w.1, py := p.y + w.2, pz := p.z, v := 0, wobX := 0, wobY := 0, env := 0, wobT := 0 }

/-- The timeline's gate is off and no stretch of gated segments runs on (R159, R61): the next one starts afresh (R223, R235). -/
def State.cutGate (s : State) (n : Nat) : State := (s.gateOff n).modEsc n (fun e => { e with gateRun := false })

/-- The spot comes to rest by the jerk-limited stop along its present direction (R196), the wobble offset frozen (R195), or stays at
rest. `ret`: a return follows (R197). -/
def State.stopMotion (s : State) (n : Nat) (ret : Bool) : State :=
  let e := s.esc n
  match e.line with
  | .idle => s
  | .stop p _ => s.setEsc n { e with line := .stop p ret }
  | _ =>
    let q := e.spot s.beat
    let l := s.limits n
    let w := e.wobble l s.beat
    let v := let xy := sqrtQ (q.vx * q.vx + q.vy * q.vy); if xy = 0 then absQ q.vz else xy
    if v = 0 then s.setEsc n (e.restAt q w)
    else
      (s.setEsc n { e with
        line := .stop (stopPlan l s.beat (q.x, q.y, q.z) v (q.vx / v, q.vy / v, q.vz / v)) ret
        wobX := w.1, wobY := w.2, env := 0, wobT := 0 }).countRetarget n

/-- The arrival of escapement `n` is withdrawn from a barrier instance, which waits for it again; on the release beat of a
device-scope barrier the instance goes on without it (R154). -/
def BarSt.without (b : BarSt) (dev : Bool) (n beat : Nat) : BarSt :=
  if b.arrived.any (fun a => a.1 == n) then
    { b with
      arrived := b.arrived.filter (fun a => a.1 != n)
      members := if dev && b.full && decide (b.ready ≤ beat) then putBit b.members n false else b.members }
  else b

/-- Arrivals of escapement `n` are withdrawn from every barrier (R154). -/
def State.withdraw (s : State) (n : Nat) : State :=
  { s with bars := s.bars.map (fun b => (b.1, b.2.without (decide (b.1 < 16)) n s.beat)) }

/-- A timeline that stood still since the freeze goes on (R164). -/
def EscSt.thaw (e : EscSt) (beat : Nat) : EscSt :=
  let d := beat - e.frozenAt
  let mv (p : Plan) : Plan := { p with start := p.start + d }
  { e with
    line := (match e.line with | .idle => .idle | .seg p => .seg (mv p) | .stop p r => .stop (mv p) r | .ret p => .ret (mv p))
    restart := e.restart.map (· + d) }

/-- STOP of an escapement (R159, R137, R154, R291, R298). -/
def State.stopEsc (s : State) (n : Nat) : State :=
  let s0 := if s.escState n = 7 then s.modEsc n (fun e => e.thaw s.beat) else s
  let s1 := ((((s0.cutGate n).stopMotion n false).flushBuf n).withdraw n).leaveClaims n
  let s2 := (((s1.setQueue n []).endStretch n).dropHold n).modEsc n (fun e =>
    { e with
      wait := none, load := none, storeTrap := none, stepping := false, restart := none
      stores := e.stores.map (fun m => { m with silent := true }) })
  ((s2.orphanAll n).set (ESC_TRAP_CAUSE n) 0x20).setEscState n 0 |>.releaseZones n

/-- Into Halted (R61, R132, R154): ARMING and READY become IDLE, RUN and WAIT become FROZEN with the queue kept. -/
def State.freezeEsc (s : State) (n : Nat) : State :=
  let st := s.escState n
  if st = 1 ∨ st = 2 then s.setEscState n 0
  else if st = 3 ∨ st = 4 then
    let s1 := ((s.cutGate n).withdraw n).leaveClaims n
    let s2 := s1.modEsc n (fun e => { e with wait := none, load := none, frozenAt := s.beat, stepping := false })
    ((s2.set (ESC_TRAP_CAUSE n) 0x21).setPair (ESC_TRAP_PC_LO_VALUE n) (ESC_TRAP_PC_HI_VALUE n) (s.pc n)).setEscState n 7
  else s

/-- Every escapement at the entry into Halted. -/
def State.freezeAll (s : State) : State := (List.range 24).foldl State.freezeEsc s

/-- Out of Halted (R132, R298): a FROZEN escapement becomes TRAPPED with cause 0x21, its queue is discarded and its drawn
pieces become orphans. -/
def State.unfreezeEsc (s : State) (n : Nat) : State :=
  if s.escState n = 7 then
    let e := s.esc n
    let s1 := (((s.setEsc n { (e.restAt (e.spot e.frozenAt) (e.wobble (s.limits n) e.frozenAt)) with restart := none }).setQueue n []).endStretch n).dropHold n
    (((s1.orphanAll n).set (ESC_TRAP_CAUSE n) 0x21).setEscState n 6)
  else s

/-- Every FROZEN escapement on the beat on which the device leaves Halted. -/
def State.unfreezeAll (s : State) : State := (List.range 24).foldl State.unfreezeEsc s

/-- Arming (R132, R134): IDLE or HALTED with ENABLE set; prefetch starts at the start address. -/
def State.armEsc (s : State) (n : Nat) : State :=
  if s.flag (ESC_CTL_ENABLE n) && (s.escState n == 0 || s.escState n == 5) then
    (s.modEsc n (fun e => { e with layerDone := false })).setEscState n 1
  else s

/-- Every escapement on the arming beat (R55). -/
def State.armAll (s : State) : State := (List.range 24).foldl State.armEsc s

/-- Armed to Idle: ARMING and READY become IDLE and the fetch buffer keeps its contents (R132). -/
def State.disarmEsc (s : State) (n : Nat) : State :=
  if s.escState n = 1 ∨ s.escState n = 2 then s.setEscState n 0 else s

/-- Every escapement at Armed to Idle. -/
def State.disarmAll (s : State) : State := (List.range 24).foldl State.disarmEsc s

/-- ESC_STAT.DRYRUN of every escapement (R160). -/
def State.setDryRun (s : State) : State :=
  (List.range 24).foldl (fun t n => t.set (ESC_STAT_DRYRUN n) (b2n s.dry)) s

/-- The registers of an escapement's own block reset: its window below the head transform, and above it nothing (R166,
R206). -/
def inEscRegs (n a : Nat) : Bool :=
  decide (escBase n ≤ a) && decide (a < escBase n + 0x10000) &&
  !(decide (escBase n + 0x400 ≤ a) && decide (a < escBase n + 0x568)) && !(decide (escBase n + 0x4000 ≤ a))

/-- The registers of the head transform's block reset (R206): the table store stays (R211). -/
def inTrjRegs (n a : Nat) : Bool := decide (escBase n + 0x400 ≤ a) && decide (a < escBase n + 0x568)

/-- A block reset of escapement `n` begins (R166, R68): STOP, then every register and item of program state. -/
def State.resetEsc (s : State) (n : Nat) : State :=
  let s1 := s.stopEsc n
  let s2 := s1.resetRegs 0 (inEscRegs n)
  let e := s2.esc n
  let s3 := s2.setEsc n
    { px := e.px, py := e.py, pz := e.pz, line := e.line, resv := e.resv, resvEnd := e.resvEnd, linger := e.linger
      stores := e.stores }
  let s4 := s3.set (ESC_STAT_DRYRUN n) (b2n s3.dry)
  (s4.set ESC_GSTAT_READY (putBit (s4.get ESC_GSTAT_READY) n false)).refreshLine (2 + n)

/-- The head-transform of `n` is cleared by its own block reset (R206, R209). -/
def State.resetTrj (s : State) (n : Nat) : State := (s.resetRegs 0 (inTrjRegs n)).lower (laserSrc n 4)

/-- Event bits set in an escapement (R155). An AWAIT they satisfy ends (R104). -/
def awaitHolds (all : Bool) (mask ev : Nat) : Bool := if all then (ev &&& mask) == mask else (ev &&& mask) != 0

/-- The AWAIT that the event bits satisfy ends (R104): TO clears, CLR clears the bits watched. -/
def State.awaitWake (s : State) (n : Nat) : State :=
  match (s.esc n).wait with
  | some w =>
    match w.kind with
    | .await all clr mask _ =>
      let ev := s.get (ESC_EVENT_EVENT n)
      if w.drained && awaitHolds all mask ev && s.escState n == 4 then
        let s1 := if clr then s.set (ESC_EVENT_EVENT n) (ev - (ev &&& mask)) else s
        (s1.set (ESC_SW_TO n) 0).endWait n
      else s
    | _ => s
  | none => s

/-- Event bits of an escapement set (R155). -/
def State.setEvents (s : State) (n bits_ : Nat) : State :=
  ((s.modEsc n (fun e => { e with
    evAt := s.beat, evBits := (if e.evAt = s.beat then e.evBits else 0) ||| (bits_ % 65536) })).set (ESC_EVENT_EVENT n)
      (s.get (ESC_EVENT_EVENT n) ||| (bits_ % 65536))).awaitWake n

/-- The bits of a write of ESC_EVENT that clear: a bit set on this beat stays set (R155). -/
def State.eventClears (s : State) (n v : Nat) : Nat :=
  let e := s.esc n
  if e.evAt = s.beat then (v ||| e.evBits) - e.evBits else v

end Sys2Proof.Machine
end

