-- ==== Sys2Proof/Machine/Regulator.lean ====
section
/-! DEFINITION. The melt-pool regulator (R212 to R234): photodiode windows, two-colour temperature, feedforward, control
law, hand-overs, events and their queue. FP32 values are words; `none` is a NaN or an infinity (R220). -/
namespace Sys2Proof.Machine

/-- Regulator `n` beside its registers. -/
def State.reg (s : State) (n : Nat) : RegSt := Sparse.get {} s.regl n

/-- Regulator `n` replaced. -/
def State.setReg (s : State) (n : Nat) (r : RegSt) : State := { s with regl := Sparse.put {} s.regl n r }

/-- A live FP32 parameter: a NaN, an infinity or a subnormal acts as 0.0 (R243). -/
def State.fpar (s : State) (f : Fld) : Nat := f32Or0 (s.live f)

/-! ### Photodiodes -/

/-- One conditioned sample (R215): x′ saturated to 0 to 65,535, and whether the sample is saturated. -/
def State.pdCondition (s : State) (n c x : Nat) : Nat × Bool :=
  let d := F32x.round ((x : Rat) - (s.live (REG_PDOFS_OFS n c) : Rat))
  match d.mul (.num (s.fpar (REG_PDGAIN_GAIN n c))) with
  | .num w =>
    let q := (f32Val w).getD 0
    if 65535 < q then (f32Of 65535, true) else (f32Of (maxQ 0 q), x == 0xFFFF)
  | r => if r.neg then (0, x == 0xFFFF) else (f32Of 65535, true)

/-- The triples of a window that closes on `beat`, or may still stand in one: those of the last 200 beats (R213). -/
def inWindow (beat : Nat) (ts : List PdTriple) : List PdTriple :=
  ts.filter (fun t => decide (beat < t.beat + 200) && decide (t.beat ≤ beat))

/-- A triple enters the window of the next tick (R215, R213). -/
def State.pdTriple (s : State) (n x0 x1 x2 : Nat) : State :=
  let a := s.pdCondition n 0 x0
  let b := s.pdCondition n 1 x1
  let c := s.pdCondition n 2 x2
  let r := s.reg n
  let s1 := s.setReg n { r with window := inWindow s.beat r.window ++ [⟨s.beat, a.1, b.1, c.1, a.2 || b.2⟩] }
  if a.2 || b.2 then s1.set (REG_STAT_PDSAT n) 1 else s1

/-- The mean of FP32 words (R216), in FP32. -/
def f32Mean (ws : List Nat) : Nat :=
  match ws with
  | [] => 0
  | _ => ((f32DivO (ws.foldl (fun acc w => f32AddO acc (some w)) (some 0)) (some (f32Of (ws.length : Rat))))).getD 0

/-- A closed window (R216): triples, validity, and the means of the three channels. -/
structure Window where
  count : Nat
  valid : Bool
  q0 : Nat
  q1 : Nat
  q2 : Nat
  peak : List Nat
  deriving DecidableEq, Repr

/-- The window of a tick (R216). `peak` lists the samples of channel `c`. -/
def windowOf (ts : List PdTriple) (c : Nat) : Window :=
  { count := ts.length
    valid := decide (5 ≤ ts.length) && ts.all (fun t => !t.sat)
    q0 := f32Mean (ts.map PdTriple.q0), q1 := f32Mean (ts.map PdTriple.q1), q2 := f32Mean (ts.map PdTriple.q2)
    peak := ts.map (fun t => if c = 0 then t.q0 else if c = 1 then t.q1 else t.q2) }

/-- The natural logarithm in FP32, accurate to 2^-20 (R217, log entry 8). -/
def f32Ln (w free : Nat) : Option Nat :=
  match f32Val w with
  | some q => if q ≤ 0 then none else if q = 1 then some 0
      else f32Round (perturbRel (lnQ q) (1 / 1048576) free)
  | none => none

/-- Infinity of a sign, as an FP32 word. -/
def f32Inf (neg : Bool) : Nat := (if neg then 2 ^ 31 else 0) + 255 * 2 ^ 23

/-- The two-colour temperature (R217): the value, valid or not; a sum or quotient that overflows is an infinity, which makes
the tick a hold tick with NUMERR where the law uses it (R220). -/
def State.twoColour (s : State) (n : Nat) (w : Window) (gate : Bool) : Option Nat :=
  let v0 := (f32Val w.q0).getD 0
  let v1 := (f32Val w.q1).getD 0
  let smin := (s.live (REG_SMIN_SMIN n) : Rat)
  if w.valid && gate && decide (smin ≤ v0) && decide (smin ≤ v1) && decide (0 < v0) && decide (0 < v1) then
    let rho := f32Div w.q0 w.q1
    let den := f32SubO (some (s.fpar (REG_TC_B_TC_B n))) (rho.bind (fun r => f32Ln r s.freeNext))
    match den.bind f32Val with
    | some d =>
      if d < 1 / 1024 then none
      else
        let a := s.fpar (REG_TC_A_TC_A n)
        match f32DivO (some a) den with
        | none => some (f32Inf (xor (f32Neg a) (decide (d < 0))))
        | some q => some ((f32Add q (s.fpar (REG_TC_C_TC_C n))).getD (f32Inf (f32Neg q)))
    | none => none
  else none

/-! ### Events -/

/-- The word list of an event record (R233). -/
def eventWords (n ty : Nat) (e : OpenEvent) : List Nat :=
  [e.tag % 2 ^ 32, e.layer % 2 ^ 32, e.beat % 2 ^ 32, (e.beat / 2 ^ 32) % 65536 + ty * 65536 + n * 2 ^ 24,
   e.x % 2 ^ 24, e.y % 2 ^ 24, min e.value 0xFFFF + min e.thresh 0xFFFF * 65536, e.power % 65536 + min e.dur 0xFFFF * 65536]

/-- REG_EVREC and REG_EVQ_STAT follow the queue (R234, R245). -/
def State.showQueue (s : State) (n : Nat) : State :=
  let q := (s.reg n).queue
  let ws := q.head?.getD []
  (List.range 8).foldl (fun t k => t.set (REG_EVREC_WORD n k) (ws.getD k 0)) (s.set (REG_EVQ_STAT_LEVEL n) q.length)

/-- A record enters the event queue or is dropped (R234); bit 14 of ESC_EVENT under ESCEV (R234, R244). -/
def State.pushEvent (s : State) (n ty : Nat) (e : OpenEvent) : State :=
  let r := s.reg n
  if 64 ≤ r.queue.length then ((s.incSat (REG_EVDROP_DROP n)).set (REG_STAT_EVOVF n) 1).pulse (laserSrc n 6)
  else
    let s1 := (s.setReg n { r with queue := r.queue ++ [eventWords n ty e] }).showQueue n
    let bit_ := if ty = 4 then 0 else ty - 1
    if (s1.live (REG_EVMASK_ESCEV n)).testBit bit_ then s1.setEvents n 0x4000 else s1

/-- The oldest record leaves the queue (R234). -/
def State.popEvent (s : State) (n : Nat) : State :=
  let r := s.reg n
  match r.queue with
  | [] => s
  | _ :: t => (s.setReg n { r with queue := t }).showQueue n

/-- An open event of a type, 1 to 3. -/
def RegSt.open? (r : RegSt) (ty : Nat) : Option OpenEvent := if ty = 1 then r.ev1 else if ty = 2 then r.ev2 else r.ev3

/-- An open event of a type replaced. -/
def RegSt.setOpen (r : RegSt) (ty : Nat) (e : Option OpenEvent) : RegSt :=
  if ty = 1 then { r with ev1 := e } else if ty = 2 then { r with ev2 := e } else { r with ev3 := e }

/-- An open event closes with its record (R233). -/
def State.closeEvent (s : State) (n ty : Nat) : State :=
  match (s.reg n).open? ty with
  | none => s
  | some e => (s.setReg n ((s.reg n).setOpen ty none)).pushEvent n ty e

/-- A stretch end closes every open event (R232). -/
def State.closeEvents (s : State) (n : Nat) : State := ((s.closeEvent n 1).closeEvent n 2).closeEvent n 3

/-- The stretches that Halted cut end with their events on the beat on which the device leaves it (R228, R232; log entry 141). -/
def State.closeAll (s : State) : State :=
  (List.range 24).foldl (fun t n => if t.escState n = 7 then t.closeEvents n else t) s

/-- One event type on a tick (R232, R233): `cond` opens or keeps it open. -/
def State.eventTick (s : State) (n ty : Nat) (opens keeps : Bool) (o : OpenEvent) (better : Nat → Nat → Nat) : State :=
  let r := s.reg n
  match r.open? ty with
  | some e =>
    if keeps then s.setReg n (r.setOpen ty (some { e with dur := min (e.dur + 1) 0xFFFF, value := better e.value o.value }))
    else s.closeEvent n ty
  | none => if opens then s.setReg n (r.setOpen ty (some { o with dur := 1 })) else s

/-! ### Backgrounds -/

/-- One step of the tracked background and deviation (R230) in FP32. -/
def trackStep (b d q : Nat) (a : Nat) : Nat × Nat :=
  let dev := (f32Sub q b).map (fun x => if f32Neg x then x - 2 ^ 31 else x)
  let d1 := f32AddO (some d) (f32MulO (f32SubO dev (some d)) (some a))
  let b1 := f32AddO (some b) (f32MulO (f32Sub q b) (some a))
  (b1.getD b, d1.getD d)

/-- hi and lo of a channel (R231), FP32. -/
def State.thresholds (s : State) (n b d : Nat) : Nat × Nat :=
  let nhi := f32Of ((s.live (REG_EVTHR_NHI n) : Rat) / 16)
  let nlo := f32Of ((s.live (REG_EVTHR_NLO n) : Rat) / 16)
  let fl := f32Of (s.live (REG_EVTHR_FLOOR n) : Rat)
  let hi := f32AddO (f32AddO (some b) (f32Mul nhi d)) (some fl)
  let lo := f32SubO (f32SubO (some b) (f32Mul nlo d)) (some fl)
  (hi.getD 0, ((lo.bind (fun x => f32Max 0 x)).getD 0))

/-- The order of FP32 words that are no NaN: an infinity lies beyond every finite value. -/
def f32Ext (w : Nat) : Rat := match f32Val w with | some q => q | none => if f32Neg w then -(2 ^ 128 : Nat) else (2 ^ 128 : Nat)

/-- Strict order of FP32 words. -/
def f32Lt (a b : Nat) : Bool := decide (f32Ext a < f32Ext b)

/-- An FP32 word as a natural number, rounded and saturated to 16 bits. -/
def f32U16 (w : Nat) : Nat := min ((roundEven (maxQ 0 (f32Ext w))).toNat) 0xFFFF

/-- The D or B field of REG_BKG (R245). -/
def State.showBkg (s : State) (n : Nat) : State :=
  let r := s.reg n
  (((((s.set (REG_BKG_B n 0) (f32U16 r.b0)).set (REG_BKG_D n 0) (f32U16 r.d0)).set (REG_BKG_B n 1) (f32U16 r.b1)).set
    (REG_BKG_D n 1) (f32U16 r.d1)).set (REG_BKG_B n 2) (f32U16 r.b2)).set (REG_BKG_D n 2) (f32U16 r.d2)

/-! ### The control law -/

/-- What the control law of one tick leaves (R220). -/
structure LawOut where
  i : Nat
  u : Nat
  c : Nat
  code : Nat
  hi : Bool
  lo : Bool
  slewed : Bool
  deriving DecidableEq, Repr

/-- FP32 clamp to two words. -/
def f32Clamp (x lo hi : Option Nat) : Option Nat :=
  (x.bind (fun a => lo.bind (fun b => f32Max a b))).bind (fun a => hi.bind (fun b => f32Min a b))

/-- The code of an FP32 power: pmin, then pmax, then 0 to 65,535, half to even (R220). -/
def powerCode (p : Nat) (pmin pmax : Nat) : Nat × Bool × Bool :=
  let v := (f32Val p).getD 0
  let a := maxQ v (pmin : Rat)
  let b := minQ a (pmax : Rat)
  (min (roundEven (maxQ 0 b)).toNat 65535, decide (b < a), decide (v < a) && !decide (b < a))

/-- The control law from a given u (R220): the rest of the pseudocode, with the flags of R221. -/
def State.lawFrom (s : State) (n : Nat) (pprog pol : Nat) (first : Bool) (i u cprev : Nat) (uhi ulo : Bool) :
    Option LawOut :=
  let pp := f32Of (pprog : Rat)
  let craw := f32SubO (f32MulO (some pol) (f32Add (f32Of 1) u)) (some pp)
  let slew := s.live (REG_SLEW_SLEW n)
  let sl := f32Of (slew : Rat)
  match craw with
  | none => none
  | some cr =>
    let limited := first || slew == 0
    let dc := f32Sub cr cprev
    let c := if limited then some cr else f32AddO (some cprev) (f32Clamp dc (some (f32Flip sl)) (some sl))
    match c, dc with
    | some cv, some d =>
      let past := !limited && f32Lt sl d
      let under := !limited && f32Lt d (f32Flip sl)
      match f32Add pp cv with
      | some p =>
        let (code, phi, plo) := powerCode p (s.live (REG_PLIM_PMIN n)) (s.live (REG_PLIM_PMAX n))
        some { i, u, c := cv, code, hi := uhi || past || phi, lo := ulo || under || plo, slewed := past || under }
      | none => none
    | _, _ => none

/-- A hold tick whose value was a NaN or an infinity (R220): the code from the previous tick's C. -/
def State.lawHold (s : State) (n pprog : Nat) (r : RegSt) : LawOut :=
  let p := (f32Add (f32Of (pprog : Rat)) r.c).getD 0
  let (code, hi, lo) := powerCode p (s.live (REG_PLIM_PMIN n)) (s.live (REG_PLIM_PMAX n))
  { i := r.i, u := r.u, c := r.c, code, hi, lo, slewed := false }

/-- f_ff and P_ol of R219 for a θ in 1/16 K. -/
def State.openLoop (s : State) (n pprog theta : Nat) : Option Nat :=
  let pp := f32Of (pprog : Rat)
  if s.liveFlag (REG_CTL_FFEN n) then
    let d := f32SubO (some (f32Of ((theta : Rat) / 16))) (some (f32Of ((s.live (REG_THETA0_THETA0 n) : Rat) / 16)))
    let x := f32SubO (some (f32Of 1)) (f32MulO (some (s.fpar (REG_KFF_KFF n))) (d.bind (fun v => f32Max 0 v)))
    let f := (x.bind (fun v => f32Max (f32Of ((s.live (REG_FFMIN_FFMIN n) : Rat) / 65536)) v)).bind (fun v => f32Min (f32Of 1) v)
    f32MulO (some pp) f
  else some pp

/-- The duration of a blend (R226). -/
def State.blendLen (s : State) (n : Nat) : Nat := let b := s.live (REG_CTL_BLEND n); if b = 0 then 1 else b

/-- A hand-over from closed to open loop begins (R226). -/
def RegSt.startBlend (r : RegSt) : RegSt := { r with loop := 3, uh := r.u, blend := 0 }

/-- The fallback of R227: open loop, FALLBACK, its source and its record. -/
def State.fallback (s : State) (n holds : Nat) : State :=
  let r := s.reg n
  let s1 := s.setReg n { r.startBlend with fell := true, validRun := 0, holds := 0, fallDue := none }
  let s2 := (s1.set (REG_STAT_FALLBACK n) 1).pulse (laserSrc n 5)
  s2.pushEvent n 4 { r.last with value := holds, thresh := s.live (REG_CTL_HOLDMAX n), dur := 1 }

/-- A fallback that has become due. -/
def State.fallNow (s : State) (n : Nat) : State := match (s.reg n).fallDue with | some k => s.fallback n k | none => s

/-- What a tick hands to the regulator (R212). -/
structure TickIn where
  pprog : Nat
  gate : Bool
  zero : Bool
  next : Nat
  first : Bool
  tag : Nat
  layer : Nat
  x : Nat
  y : Nat
  theta : Nat
  rng : Bool
  deriving DecidableEq, Repr

/-- The power code goes out: REG_POUT and the five DAC updates from b + 96 (R213, R214, R237). -/
def State.sendCode (s : State) (n pprog code : Nat) : State :=
  let r := s.reg n
  let p := s.port n
  let upd (m : Nat) : Nat :=
    if s.liveFlag (REG_CTL_INTERP n) then
      (roundAway ((r.p : Rat) + (m : Rat) * ((code : Rat) - (r.p : Rat)) / 5)).toNat
    else code
  let s1 := s.setReg n { r with pPrev := r.p, p := code }
  let s2 := s1.setPort n { p with updates := p.updates ++ (List.range 5).map (fun k => (s.beat + 96 + 40 * k, upd (k + 1))) }
  (s2.set (REG_POUT_PPROG n) pprog).set (REG_POUT_CODE n) code

/-- The events of a tick that computed (R232). An invalid tick breaks a run of ticks, and neither opens nor closes an event of types 2
and 3 (log entry 141). -/
def State.regEvents (s : State) (n : Nat) (w : Window) (tm : Option Nat) (ti : TickIn) (code : Nat) : State :=
  let r := s.reg n
  let en := s.live (REG_EVMASK_EN n)
  let ready := decide (s.live (REG_EVCFG_WARM n) ≤ r.tracked)
  let sp := min (s.live (REG_EVCFG_SPCH n)) 2
  let (bs, ds) := if sp = 0 then (r.b0, r.d0) else if sp = 1 then (r.b1, r.d1) else (r.b2, r.d2)
  let hi := (s.thresholds n bs ds).1
  let lo0 := (s.thresholds n r.b0 r.d0).2
  let lo1 := (s.thresholds n r.b1 r.d1).2
  let lofn := let v := s.live (REG_EVCFG_LOFN n); if v = 0 then 1 else v
  let oht := f32Add (s.fpar (REG_TREF_TREF n)) (f32Of (s.live (REG_OHT_OHT n) : Rat))
  let base : OpenEvent := ⟨ti.tag, ti.layer, s.lbeat, ti.x, ti.y, code, 0, 0, 0⟩
  let tops := w.peak.filter (fun q => f32Lt hi q)
  let low := tm.isSome && f32Lt w.q0 lo0 && f32Lt w.q1 lo1
  let hot := match tm, oht with
    | some t, some o => f32Lt o t
    | _, _ => false
  let lof := if low then r.lofRun + 1 else 0
  let ohr := if hot then r.ohtRun + 1 else 0
  let s1 := s.setReg n { r with lofRun := lof, ohtRun := ohr }
  let pk := tops.foldl (fun acc q => max acc (f32U16 q)) 0
  let s2 := s1.eventTick n 1 (ready && en.testBit 0 && !tops.isEmpty) (!tops.isEmpty)
    { base with value := pk, thresh := f32U16 hi } max
  let s3 := s2.eventTick n 2 (ready && en.testBit 1 && low && decide (lofn ≤ lof)) (low || tm.isNone)
    { base with value := if tm.isSome then f32U16 w.q0 else 0xFFFF, thresh := f32U16 lo0 } min
  s3.eventTick n 3 (ready && en.testBit 2 && hot && decide (lofn ≤ ohr)) (hot || tm.isNone)
    { base with value := (tm.map f32U16).getD 0, thresh := (oht.map f32U16).getD 0 } max

/-- The backgrounds of a valid laser-on tick past BLANK (R230). -/
def State.regTrack (s : State) (n : Nat) (w : Window) : State :=
  let r := s.reg n
  let a := f32Of (1 / ((2 ^ (let v := s.live (REG_EVCFG_ALPHA n); if v = 0 then 1 else v) : Nat) : Rat))
  let sp := min (s.live (REG_EVCFG_SPCH n)) 2
  let busy (c : Nat) : Bool := (r.ev1.isSome && c == sp) || (r.ev2.isSome && decide (c < 2))
  let step (c b d q : Nat) : Nat × Nat :=
    if r.tracked = 0 then (q, 0) else if busy c then (b, d) else trackStep b d q a
  let t0 := step 0 r.b0 r.d0 w.q0
  let t1 := step 1 r.b1 r.d1 w.q1
  let t2 := step 2 r.b2 r.d2 w.q2
  (s.setReg n
    { r with
      b0 := t0.1, d0 := t0.2, b1 := t1.1, d1 := t1.2, b2 := t2.1, d2 := t2.2
      tracked := r.tracked + 1 }).showBkg n

/-- The loop state shown (R242): `code` where the tick has one of its own, 2 in a hold, 3 in a blend. -/
def State.showLoop (s : State) (n : Nat) (code : Option Nat) : State :=
  let r := s.reg n
  (s.set (REG_STAT_LOOPST n) (code.getD r.loop)).set (REG_STAT_PENDCL n)
    (b2n (r.want && s.liveFlag (REG_CTL_CLEN n) && !r.fell && r.loop != 1))

/-- What is left of a tick once the law has run: codes, flags and counts (R220, R221). -/
def State.regFinish (s : State) (n : Nat) (ti : TickIn) (o : LawOut) (hold : Bool) (shown : Option Nat) : State :=
  let r := s.reg n
  let s1 := s.setReg n { r with i := o.i, u := o.u, c := o.c }
  let s2 := if o.hi then s1.set (REG_STAT_CLAMPHI n) 1 else s1
  let s3 := if o.lo then s2.set (REG_STAT_CLAMPLO n) 1 else s2
  let s4 := if o.slewed then s3.set (REG_STAT_SLEWLIM n) 1 else s3
  let s5 := if o.hi || o.lo || o.slewed then s4.incSat (REG_CNT_CLAMPCNT n) else s4
  let s6 := if hold then s5.incSat (REG_CNT_HOLDCNT n) else s5
  (((s6.set (REG_U_U n) o.u).sendCode n ti.pprog o.code).showLoop n (if hold then some 2 else shown))

/-- The closed-loop arm of R220 with R221 and R225: the law's result, none on a NaN or an infinity. -/
def State.closedLaw (s : State) (n : Nat) (ti : TickIn) (pol tm : Nat) (handover : Bool) : Option LawOut :=
  let r := s.reg n
  let kp := s.fpar (REG_KP_KP n)
  let ki := s.fpar (REG_KI_KI n)
  let e := f32Sub (s.fpar (REG_TREF_TREF n)) tm
  let kpe := f32MulO (some kp) e
  let inew := if handover then f32SubO (some r.u) kpe
    else f32AddO (some r.i) (f32MulO (f32MulO (some ki) e) (some (f32Of (5 / 10000000))))
  let up := f32Of ((s.live (REG_CLAMP_CLUP n) : Rat) / 65536)
  let dn := f32Flip (f32Of ((s.live (REG_CLAMP_CLDN n) : Rat) / 65536))
  let raw := f32AddO kpe inew
  match raw, inew, e with
  | some x, some iv, some ev =>
    match f32Clamp (some x) (some dn) (some up) with
    | some u =>
      match s.lawFrom n ti.pprog pol ti.first iv u r.c (f32Lt u x) (f32Lt x u) with
      | some o =>
        let against := (f32Lt 0 ev && o.hi) || (f32Lt ev 0 && o.lo)
        some (if handover || !against then o else { o with i := r.i })
      | none => none
    | none => none
  | _, _, _ => none

/-- A tick on which a value of the law was a NaN or an infinity (R220): a hold tick, which counts in closed loop. -/
def State.numericHold (s : State) (n : Nat) (ti : TickIn) (closed blank : Bool) : State :=
  let r := s.reg n
  let o := s.lawHold n ti.pprog r
  let h := if closed then (if blank then r.holds else r.holds + 1) else 0
  ((s.set (REG_STAT_NUMERR n) 1).setReg n { r with holds := h }).regFinish n ti o true none

/-- The open-loop tick of R220, in a blend or not (R226). -/
def State.openLaw (s : State) (n : Nat) (ti : TickIn) (pol : Nat) : State :=
  let r := s.reg n
  let b := s.blendLen n
  let m := r.blend + 1
  let blending := r.loop == 3
  let u : Option Nat :=
    if blending && decide (m < b) then f32MulO (some r.uh) (f32SubO (some (f32Of 1)) (f32Div (f32Of (m : Rat)) (f32Of (b : Rat))))
    else some 0
  let r2 := if blending then { r with i := 0, blend := m, loop := if b ≤ m then 0 else 3, holds := 0 } else { r with holds := 0 }
  match u.bind (fun v => (s.setReg n r2).lawFrom n ti.pprog pol ti.first r2.i v r2.c false false) with
  | some o => (s.setReg n r2).regFinish n ti o false (if blending then some 3 else none)
  | none => s.numericHold n ti false false

/-- One tick on which the gate is active and P_prog is not 0 (R220 to R227). A hand-over runs the closed law from the u of the tick
before (R225); that of AUTORET leaves the loop to its row (R227). -/
def State.regLaw (s : State) (n : Nat) (ti : TickIn) (tm : Option Nat) : State :=
  let r0 := s.reg n
  let blank := decide (r0.ticks.getD 0 ≤ s.live (REG_CTL_BLANK n))
  let clen := s.liveFlag (REG_CTL_CLEN n)
  let r1 := if r0.loop = 1 && !(r0.want && clen) then r0.startBlend else r0
  let back := r1.fell && s.liveFlag (REG_CTL_AUTORET n) && decide (4 ≤ r1.validRun) && r1.want && clen
  let closed := r1.loop == 1
  let handover := !closed && r1.want && clen && (!r1.fell || back)
  let s0 := s.setReg n r1
  let s1 := if r0.want && !clen then s0.set (REG_STAT_CLDENY n) 1 else s0
  match s1.openLoop n ti.pprog ti.theta with
  | none => s1.numericHold n ti closed blank
  | some po =>
    match tm, handover, closed && !blank with
    | some t, true, _ =>
      match s1.closedLaw n ti po t true with
      | some o => (s1.setReg n { s1.reg n with
          loop := if back then r1.loop else 1, handDue := if back then some t else none, holds := 0 }).regFinish n ti o false none
      | none => s1.numericHold n ti false blank
    | some t, _, true =>
      match s1.closedLaw n ti po t false with
      | some o => (s1.setReg n { s1.reg n with holds := 0 }).regFinish n ti o false none
      | none => s1.numericHold n ti true blank
    | _, _, _ =>
      if closed then
        let r := s1.reg n
        match s1.lawFrom n ti.pprog po ti.first r.i r.u r.c false false with
        | some o => (s1.setReg n { r with holds := if blank then r.holds else r.holds + 1 }).regFinish n ti o true none
        | none => s1.numericHold n ti true blank
      else s1.openLaw n ti po

/-- A tick whose gate is inactive or whose P_prog is 0 (R222). -/
def State.idleLaw (s : State) (n : Nat) (ti : TickIn) : State :=
  let code := if ti.zero then 0 else if s.liveFlag (REG_CTL_PREDRV n) then ti.next else 0
  ((s.setReg n { s.reg n with holds := 0 }).sendCode n ti.pprog code).showLoop n none

/-- The fallback becomes due once hold ticks exceed HOLDMAX (R227). -/
def State.checkFallback (s : State) (n : Nat) : State :=
  let r := s.reg n
  let m := s.live (REG_CTL_HOLDMAX n)
  if r.loop == 1 && m != 0 && decide (m < r.holds) then s.setReg n { r with fallDue := some r.holds } else s

/-- The hand-back of AUTORET that its tick has made due (R227): closed loop from that tick on. -/
def State.handBack (s : State) (n : Nat) : State :=
  let r := s.reg n
  if r.handDue.isSome then
    (s.setReg n { r with loop := 1, fell := false, handDue := none, holds := 0 }).showLoop n none
  else s

/-- The first tick of a stretch (R223, R240): the boundary, and u and I kept or zeroed. -/
def State.stretchTick (s : State) (n : Nat) : State :=
  let t := s.regCommit n
  let r := t.reg n
  if t.liveFlag (REG_CTL_CARRY n) then t.setReg n { r with ticks := some 0 }
  else t.setReg n { r with ticks := some 0, u := 0, i := 0 }

/-- One tick of regulator `n` (R212 to R227, R230 to R233). A fallback or a hand-back still due from the tick before acts first. -/
def State.regTick (s0 : State) (n : Nat) (ti : TickIn) : State :=
  let s := (s0.fallNow n).handBack n
  let r0 := s.reg n
  let sp := min (s.live (REG_EVCFG_SPCH n)) 2
  let ts := inWindow s.beat r0.window
  let w := windowOf ts sp
  let age := match ts.getLast? with | some t => min (s.beat - t.beat) 31 | none => s.get (REG_PDLAT_AGE n)
  let s1 := ((s.setReg n { r0 with window := [] }).set (REG_PDLAT_VALID n) (min w.count 255)).set (REG_PDLAT_AGE n) age
  let s2 := (s1.set (REG_THETA_THETA n) ti.theta)
  let s3 := if ti.rng then s2.set (REG_STAT_DIALRNG n) 1 else s2
  let s4 := if ti.first then s3.stretchTick n else s3
  let tm := s4.twoColour n w ti.gate
  let s5 := match tm with | some t => (s4.set (REG_TM_TM n) t).draw | none => s4.draw
  let r5 := s5.reg n
  let s6 := s5.setReg n { r5 with
    validRun := if tm.isSome then r5.validRun + 1 else 0
    ticks := if ti.gate then some (r5.ticks.getD 0 + 1) else r5.ticks }
  let s7 := if !ti.gate || ti.pprog == 0 || ti.zero then s6.idleLaw n ti else s6.regLaw n ti tm
  if !ti.gate then s7.setReg n { s7.reg n with lofRun := 0, ohtRun := 0 }
  else
    let past := decide (s7.live (REG_CTL_BLANK n) < ((s7.reg n).ticks.getD 0))
    let s8 := s7.regEvents n w tm ti (s7.reg n).p
    let s9 := if tm.isSome && past then s8.regTrack n w else s8
    (s9.setReg n { s9.reg n with last := ⟨ti.tag, ti.layer, s.lbeat, ti.x, ti.y, (s9.reg n).p, 0, 0, 0⟩ }).checkFallback n

/-- A segment that carries a POWER starts (R224, R227): its loop request takes effect. -/
def State.loopRequest (s : State) (n req : Nat) : State :=
  let r := s.reg n
  if req = 1 then s.setReg n { r with want := false }
  else if req = 2 then s.setReg n { r with want := true, fell := false }
  else s

/-- The regulator at a program start (R224, R230): the loop request stays (R68), u, I and C are 0, the loop is open, the deviations
are 0. -/
def State.regProgramStart (s : State) (n : Nat) : State :=
  let r := s.reg n
  (((s.setReg n
    { r with
      u := 0, i := 0, c := 0, loop := 0, blend := 0, uh := 0, tracked := 0, d0 := 0, d1 := 0, d2 := 0
      ticks := none, holds := 0, fallDue := none, handDue := none }).showBkg n).regCommit n).showLoop n none

/-- A block reset of regulator `n` (R241 to R245). -/
def State.resetReg (s : State) (n : Nat) : State :=
  let a := 0x2000500000 + 0x1000 * n
  (s.setReg n {}).resetRegs 0 (fun x => decide (a ≤ x) && decide (x < a + 0x1000))

end Sys2Proof.Machine
end

