-- ==== Sys2Proof/Machine/Setpoint.lean ====
section
/-! DEFINITION. The setpoint tick (R182 to R203, R212, R250, R279): the path sampled with its wobble, the bridge offsets,
the head transform, the regulator's inputs and the dial deposit. -/
namespace Sys2Proof.Machine

/-! ### Power -/

/-- The programmed power after `k` more laser-on beats (R97), as a rational. -/
def EscSt.powerAt (e : EscSt) (k : Nat) : Rat :=
  match e.rampNow with
  | some (p0, tgt, len, done) =>
    if len ≤ done + k then (tgt : Rat) else p0 + ((tgt : Rat) - p0) * ((done + k : Nat) : Rat) / (len : Rat)
  | none => e.pNow

/-- P_prog of a tick (R212), in whole codes. -/
def EscSt.pprog (e : EscSt) (beat : Nat) : Nat :=
  match e.seg?.bind (fun g => g.pw) with
  | some p => p
  | none => min (roundEven (e.powerAt (e.onBeats beat))).toNat 65535

/-- The segment is a zero-power segment (R98) when it starts now. -/
def EscSt.zeroPower (e : EscSt) (g : Seg) : Bool :=
  match g.pw with
  | some p => p == 0
  | none =>
    if g.set.powNew then g.set.power == 0 && g.set.ramp == 0
    else e.powerAt 0 == 0 && (match e.rampNow with | some (_, _, len, done) => decide (len ≤ done) | none => true)

/-! ### The head transform -/

/-- A signed fixed-point value in 1/256 step as FP32 steps (R644). -/
def fx8 (v : Int) : Nat := f32Of ((v : Rat) / 256)

/-- TRJ_FQ3 in force: the word at 0x45C, whose low bits are TRJ_CTL (R207, R208; log entry 10). -/
def State.fq3 (s : State) (n : Nat) : Nat :=
  4 * s.live (TRJ_CTL_FQ3H n) + 2 * s.live (TRJ_CTL_FOCEN n) + s.live (TRJ_CTL_FCEN n)

/-- H of R207 in steps. -/
def State.fieldH (s : State) (n : Nat) : Nat :=
  let h := s.live (TRJ_FIELD_H n)
  if h = 0 ∨ 0x7FFFFF < h then 0x7FFFFF else h

/-- One component of a grid node with linear extrapolation beyond the edge (R200). -/
def nodeEx (f : Int → Rat) (i : Int) : Rat :=
  if i < 0 then 2 * f 0 - f 1 else if 64 < i then 2 * f 64 - f 63 else f i

/-- DX, DY or DZ of node (i, j) (R199). -/
def State.gridNode (s : State) (n comp : Nat) (i j : Int) : Rat :=
  let k := (65 * j + i).toNat
  (sgn 16 (if comp = 0 then s.get (TRJ_TBL_LO_DX n k) else if comp = 1 then s.get (TRJ_TBL_LO_DY n k)
    else s.get (TRJ_TBL_HI_DZ n k)) : Rat)

/-- The four weights of the cubic convolution (R200). -/
def cubicW (t : Rat) : List Rat :=
  [(-t * t * t + 2 * t * t - t) / 2, (3 * t * t * t - 5 * t * t + 2) / 2, (-3 * t * t * t + 4 * t * t + t) / 2,
   (t * t * t - t * t) / 2]

/-- One component of the grid at (u, v) (R200). -/
def State.gridAt (s : State) (n comp : Nat) (u v : Rat) : Rat :=
  let h : Rat := (s.fieldH n : Nat)
  let st := 2 * h / 64
  let p := (u + h) / st
  let q := (v + h) / st
  let i := if 64 ≤ p then 63 else p.floor
  let j := if 64 ≤ q then 63 else q.floor
  let wi := cubicW (p - (i : Rat))
  let wj := cubicW (q - (j : Rat))
  let row (jj : Int) : Rat :=
    (List.range 4).foldl (fun a k => a + wi.getD k 0 * nodeEx (fun x => s.gridNode n comp x jj) (i - 1 + k)) 0
  (List.range 4).foldl (fun a k => a + wj.getD k 0 * nodeEx row (j - 1 + k)) 0

/-- A code rounded half to even and saturated (R202), an infinity to the limit of its sign, a NaN as a free value; and whether it
saturated. -/
def satCode (w : F32x) (free : Nat) : Int × Bool :=
  match w with
  | .num b =>
    let r := roundEven ((f32Val b).getD 0)
    if 8388607 < r then (8388607, true) else if r < -8388607 then (-8388607, true) else (r, false)
  | .inf neg => (if neg then -8388607 else 8388607, true)
  | .nan => (clampI (-8388607) 8388607 (sgn 24 free), true)

/-- A parameter of the head transform in force. -/
def State.xpar (s : State) (f : Fld) : F32x := .num (s.fpar f)

/-- A rotated pair (R198). -/
def State.matMul (s : State) (n : Nat) (x y : F32x) : F32x × F32x :=
  (((s.xpar (TRJ_M00_VALUE n)).mul x).add ((s.xpar (TRJ_M01_VALUE n)).mul y),
   ((s.xpar (TRJ_M10_VALUE n)).mul x).add ((s.xpar (TRJ_M11_VALUE n)).mul y))

/-- A field coordinate clamped to ±`h` (R201), and whether it lies outside. No rule states the coordinate for a NaN: it counts as outside
at a free point (log entry 139). -/
def fieldClamp (h : Int) (free : Nat) (u : F32x) : Rat × Bool :=
  match u with
  | .num b =>
    let q := (f32Val b).getD 0
    (maxQ (-h) (minQ h q), decide ((h : Rat) < absQ q))
  | .inf neg => (if neg then -h else h, true)
  | .nan => (clampI (-h) h (sgn 24 free), true)

/-- What the head transform makes of one setpoint (R198 to R203). -/
structure HeadOut where
  x : Int
  y : Int
  f : Int
  out : Bool
  msat : Bool
  zsat : Bool
  deriving DecidableEq, Repr

/-- The head transform of a setpoint in 1/256 step (R198 to R203). -/
def State.headTransform (s : State) (n : Nat) (x y z : Int) : HeadOut :=
  let org (f : Fld) : Nat := f32Of (sgn 24 (s.live f) : Rat)
  let (u, v) := s.matMul n (.num ((f32Sub (fx8 x) (org (TRJ_HORG_X_ORG n))).getD 0)) (.num ((f32Sub (fx8 y) (org (TRJ_HORG_Y_ORG n))).getD 0))
  let (uc, uo) := fieldClamp (s.fieldH n) s.freeNext u
  let (vc, vo) := fieldClamp (s.fieldH n) s.freeNext v
  let on := s.liveFlag (TRJ_CTL_FCEN n)
  let d (k : Nat) : Rat := if on then s.gridAt n k uc vc else 0
  let cor (c : Rat) (k : Nat) : F32x := (F32x.round c).add ((F32x.round 4).mul (F32x.round (d k)))
  let (mx, sx) := satCode ((cor uc 0).mul (s.xpar (TRJ_MSCALE_X_VALUE n))) s.freeNext
  let (my, sy) := satCode ((cor vc 1).mul (s.xpar (TRJ_MSCALE_Y_VALUE n))) s.freeNext
  let (fc, sz) : Int × Bool :=
    if s.liveFlag (TRJ_CTL_FOCEN n) then
      let w := ((F32x.round (1 / 20)).mul (.num (fx8 z))).add (F32x.round (d 2))
      let w2 := w.mul w
      let q (k : Nat) : F32x := s.xpar (TRJ_FQ_VALUE n k)
      let q3 : F32x := .num (f32Or0 (s.fq3 n))
      satCode ((((q 0).add ((q 1).mul w)).add ((q 2).mul w2)).add (q3.mul (w2.mul w))) s.freeNext
    else (0, false)
  ⟨mx, my, fc, uo || vo, sx || sy, sz⟩

/-- A bridge offset in 1/256 step (R279, R311). -/
def State.headOffset (s : State) (f : Fld) : Int :=
  if s.liveFlag BRG_CTL_OFSEN then clampI (-5120000) 5120000 (sgn 32 (s.live f)) else 0

/-- A coordinate in 1/256 step (R182): the sample's value, rounded by a free choice where it is not exact. -/
def fix8 (q : Rat) (free : Nat) : Int :=
  let v := q * 256
  let f := v.floor
  if v = (f : Rat) then f else f + (free % 2 : Nat)

/-! ### Look-ahead -/

/-- The point `d` µm along a laser-on segment (R218). -/
def Seg.pointAt (g : Seg) (d : Rat) : Rat × Rat :=
  let len := g.pathLen
  let fr := if len = 0 then 1 else minQ 1 (d / len)
  match g.kind with
  | .arc =>
    let th := fixQ (sweepRad g.sweep * fr)
    let sx : Rat := (g.x0 - g.ax : Int)
    let sy : Rat := (g.y0 - g.ay : Int)
    (g.ax + cosQ th * sx - sinQ th * sy, g.ay + sinQ th * sx + cosQ th * sy)
  | .spln => g.cubic.pt (g.cubic.param d)
  | _ => (g.x0 + (g.x1 - g.x0 : Int) * fr, g.y0 + (g.y1 - g.y0 : Int) * fr)

/-- The look-ahead point over the laser-on segments that follow (R218). -/
def lookOn : List Seg → Rat × Rat → Rat → Rat × Rat
  | [], p, _ => p
  | g :: t, p, d =>
    if !g.kind.on then p
    else if d ≤ g.pathLen then g.pointAt d
    else lookOn t ((g.x1 : Rat), (g.y1 : Rat)) (d - g.pathLen)

/-- The look-ahead point of a tick, in steps (R218). -/
def State.lookAhead (s : State) (n : Nat) (q : Sample) : Rat × Rat :=
  let e := s.esc n
  match e.seg?, e.part? s.beat with
  | some g, some (p, k) =>
    if g.kind.on then
      let la := min (s.live (REG_LA_LA n)) 400
      let v := ((g.speed.getD g.set.vMark : Nat) : Rat)
      let d := v * (la : Rat) / 2000000
      let done := if p.path then (p.motion.along k p.beats).1 else if e.onBeats s.beat = 0 then 0 else g.pathLen
      if done + d ≤ g.pathLen then g.pointAt (done + d)
      else lookOn e.queue.tail ((g.x1 : Rat), (g.y1 : Rat)) (done + d - g.pathLen)
    else (q.x, q.y)
  | _, _ => (q.x, q.y)

/-- The programmed power of the next laser-on segment already enqueued (R222). -/
def EscSt.nextPower (e : EscSt) (beat : Nat) : Nat :=
  let pend : List Seg := match e.seg?, e.line with
    | some g, .seg p =>
      let pre := (p.parts.takeWhile (fun (x : Part) => !x.path)).foldl (fun a (x : Part) => a + x.beats) 0
      if g.kind.on ∧ beat - p.start < pre then e.queue else e.queue.tail
    | _, _ => e.queue
  let upTo (l : List Seg) : Option (Seg × Option Nat) :=
    let off := l.takeWhile (fun g => !g.kind.on)
    (l.drop off.length).head?.map (fun g => (g, (off ++ [g]).foldl (fun a x => if x.set.powNew then x.set.startPower.orElse (fun _ => a) else a) none))
  match upTo pend with
  | some (g, pw) =>
    match g.pw, pw with
    | some p, _ => p
    | none, some p => p
    | none, none => min (roundEven (e.powerAt (e.onBeats beat))).toNat 65535
  | none => 0

/-! ### The tick -/

/-- An out-of-field tick, and the end of an excursion (R201). Its ticks lie outside the stretch (R235): the gate's edges stand where
those of a stretch end and start would, and the stretch inside the field again starts afresh. `gate`: the timeline's gate. -/
def State.fieldTick (s : State) (n : Nat) (out gate : Bool) (t : Settings) : State :=
  let p := s.port n
  let s1 := s.setPort n { p with oof := out }
  let s2 := if out && !p.oof then
      let e := s1.placeField n (edgeTime s.beat t.loff) false
      if gate then e.closeEvents n else e
    else if !out && p.oof then
      let e := s1.placeField n (edgeTime s.beat t.lon) true
      if gate then e.setReg n { e.reg n with ticks := none } else e
    else s1
  if out then ((s2.set (TRJ_STAT_FIELD n) 1).incSat (TRJ_RTG_CNT_FIELDCNT n)).raise (laserSrc n 4)
  else s2.lower (laserSrc n 4)

/-- A port under control again (R237): the gate follows its edges from time `t`, earlier DAC updates carry code 0. -/
def PortSt.returned (p : PortSt) (t : Nat) : PortSt :=
  let past := p.edges.takeWhile (fun e => decide (e.1 ≤ t))
  let level := match past.getLast? with | some e => e.2 | none => p.want
  { p with
    want := false
    edges := (if level then [(t, true)] else []) ++ p.edges.drop past.length
    updates := p.updates.map (fun u => (u.1, 0)) }

/-- Control of a laser returns with the first setpoint tick beat at or after the release of the hack line (R237). -/
def State.portReturn (s : State) (n : Nat) : State :=
  if s.portHold.testBit n && !s.flag FLT_HACK_STATE && decide (s.beat % 200 = 0) then
    let s1 := { s with portHold := putBit s.portHold n false }
    s1.setPort n ((s1.port n).returned (s.skewed n (64 * (s.beat + 32))))
  else s

/-- Every laser on such a beat, whatever its escapement does. -/
def State.portReturns (s : State) : State := (List.range 24).foldl State.portReturn s

/-- A deposit of a tick (R250, R251). -/
def State.makeDeposit (s : State) (n : Nat) (x y : Int) (gate : Bool) (pprog code : Nat) : State :=
  if gate && s.modeCode == mExpose && s.flag (LP_CTL_EN n) && !s.flag FLT_HACK_STATE && s.liveFlag DIAL_CTL_DEPEN &&
      !s.heldInReset 129 then
    let p := if s.liveFlag DIAL_CTL_PSRC then pprog else code
    let d : Deposit := ⟨s.beat, n, s.get SKZ_STAT_ADDR, dialIndex x, dialIndex y, s.depositAmp n p⟩
    { s with dial := { s.dial with waiting := s.dial.waiting ++ [d] } }
  else s

/-- The `k`-th free FP32 value that follows, finite. -/
def State.freeWord (s : State) (k : Nat) : Nat :=
  let w := (Config.freeValue (s.free + k)).toNat % 2 ^ 32
  if bits w 30 23 = 255 then w - 2 ^ 23 else w

/-- A velocity or an acceleration of the spot (µm/s, µm/s²) in codes per second: m/s as FP32, in steps, through M and the mirror scales
(R182, R198, R202). No rule carries it to the focus code: that one is free where the spot moves (log entry 14). -/
def State.headVec (s : State) (n k : Nat) (x y z : Rat) : List Nat :=
  let st (q : Rat) : F32x := (F32x.round (q / 1000000)).mul (F32x.round 20000000)
  let (u, v) := s.matMul n (st x) (st y)
  [(u.mul (s.xpar (TRJ_MSCALE_X_VALUE n))).word, (v.mul (s.xpar (TRJ_MSCALE_Y_VALUE n))).word,
    if x = 0 ∧ y = 0 ∧ z = 0 then 0 else s.freeWord k]

/-- The path of an escapement is sampled: in RUN or WAIT (R182), and in TRAPPED while its segments run out as programmed (R128,
R162; log entry 131). -/
def State.sampled (s : State) (n : Nat) : Bool :=
  s.escState n == 3 || s.escState n == 4 || (s.escState n == 6 && (s.esc n).line != .idle)

/-- One setpoint tick of escapement, head transform, regulator and dial `n` (R182, R212, R250). A setpoint off a laser-on path shows tag 0
(R193; log entry 140). -/
def State.setpointTick (s0 : State) (n : Nat) (ecc : Ecc) : State :=
  let s := s0.portReturn n
  let e := s.esc n
  let q := e.spot s.beat
  let wob := e.wobble (s.limits n) s.beat
  let x := fix8 (q.x + wob.1) s.freeNext
  let y := fix8 (q.y + wob.2) (s.freeNext / 2)
  let z := fix8 q.z (s.freeNext / 4)
  let s := s.draw
  let h := s.headTransform n (x + s.headOffset (BRG_OFS_X_OFS n)) (y + s.headOffset (BRG_OFS_Y_OFS n)) z
  let s := s.draw
  let onPath := match e.part? s.beat with | some (p, _) => p.path | none => false
  let gate0 := match e.part? s.beat with | some (p, _) => p.gate | none => false
  let g? := e.seg?
  let s1 := s.fieldTick n h.out gate0 ((g?.map Seg.set).getD e.set)
  let s2 := if h.msat then s1.set (TRJ_STAT_MSAT n) 1 else s1
  let s3 := if h.zsat then s2.set (TRJ_STAT_ZSAT n) 1 else s2
  let gate := gate0 && !h.out
  let tag := if onPath then (g?.map Seg.tag).getD 0 else 0
  let rec_ : SetRec := ⟨s.beat, h.x, h.y, h.f, s3.headVec n 0 q.vx q.vy q.vz, s3.headVec n 1 q.ax q.ay q.az, tag, gate⟩
  let old := match s3.setps.find? (fun e => e.1 == n) with
    | some e => Sparse.insert s3.setPrev n e.2
    | none => s3.setPrev
  let sp : SpRec := ⟨s.beat, tag, (g?.map (fun g => g.set.layer)).getD e.set.layer, (x / 256 % 2 ^ 24).toNat, (y / 256 % 2 ^ 24).toNat, q.vx, q.vy, gate⟩
  let s4 := { s3 with
    free := s3.free + 2, setPrev := old, setps := Sparse.insert s3.setps n rec_
    img := { s3.img with hist := Sparse.insert s3.img.hist n (sp :: ((Sparse.get [] s3.img.hist n).take 328)) } }
  let la := s4.lookAhead n q
  let ((theta, rng), s4q) := s4.dialRead la.1.floor la.2.floor s.beat ecc
  let s5 := s4q.draw
  let ti : TickIn := ⟨e.pprog s.beat, gate, onPath && !gate0, e.nextPower s.beat, gate && (s5.reg n).ticks.isNone, tag,
    (g?.map (fun g => g.set.layer)).getD e.set.layer, (x / 256 % 2 ^ 24).toNat, (y / 256 % 2 ^ 24).toNat, theta, rng⟩
  let s6 := if s5.heldInReset (64 + n) then s5 else s5.regTick n ti
  let s7 := if gate || s6.get (REG_POUT_CODE n) != 0 then s6.calDisturb n else s6
  s7.makeDeposit n (x / 256) (y / 256) gate ti.pprog (s7.get (REG_POUT_CODE n))

/-- A program start with everything it resets (R68, R224). -/
def State.startEsc (s : State) (n : Nat) : State := (s.programStart n).regProgramStart n

end Sys2Proof.Machine
end

