-- ==== Sys2Proof/Machine/Flags.lean ====
section
/-! DEFINITION. The flags of Calibre's arithmetic (R73, R123 to R125) and the branch conditions (R112). -/
namespace Sys2Proof.Machine

/-- Z, N, C and V written (R73). -/
def State.setZNCV (s : State) (n : Nat) (z neg c v : Bool) : State :=
  (((s.set (ESC_SW_Z n) (b2n z)).set (ESC_SW_N n) (b2n neg)).set (ESC_SW_C n) (b2n c)).set (ESC_SW_V n) (b2n v)

/-- The flags of a 32-bit result. -/
def State.intFlags (s : State) (n r : Nat) (c v : Bool) : State := s.setZNCV n (r == 0) (bit r 31) c v

/-- The flags of an FP32 result (R124): Z on a zero of either sign, N on the sign bit, C = V = 0. -/
def State.floatFlags (s : State) (n r : Nat) : State := s.setZNCV n (r % 2 ^ 31 == 0) (bit r 31) false false

/-- Sum modulo 2^32, carry out and signed overflow. -/
def addC (a b : Nat) : Nat × Bool × Bool :=
  let r := (a + b) % 2 ^ 32
  (r, decide (2 ^ 32 ≤ a + b), decide (sgn 32 a + sgn 32 b ≠ sgn 32 r))

/-- Difference modulo 2^32, C = 1 when a ≥ b unsigned, and signed overflow (R123). -/
def subC (a b : Nat) : Nat × Bool × Bool :=
  let r := (a + 2 ^ 32 - b) % 2 ^ 32
  (r, decide (b ≤ a), decide (sgn 32 a - sgn 32 b ≠ sgn 32 r))

/-- Shift left with the last bit out (R123). -/
def shlC (a k : Nat) : Nat × Bool := ((a * 2 ^ k) % 2 ^ 32, decide (k ≠ 0) && bit a (32 - k))

/-- Logical shift right with the last bit out. -/
def shrC (a k : Nat) : Nat × Bool := (a / 2 ^ k, decide (k ≠ 0) && bit a (k - 1))

/-- Arithmetic shift right with the last bit out. -/
def sraC (a k : Nat) : Nat × Bool := (enc 32 ((sgn 32 a).fdiv ((2 ^ k : Nat) : Int)), decide (k ≠ 0) && bit a (k - 1))

/-- A branch condition holds (R112). -/
def State.condHolds (s : State) (n c : Nat) : Bool :=
  let z := s.flag (ESC_SW_Z n)
  let neg := s.flag (ESC_SW_N n)
  let cy := s.flag (ESC_SW_C n)
  let v := s.flag (ESC_SW_V n)
  match c with
  | 0 => true
  | 1 => z
  | 2 => !z
  | 3 => neg
  | 4 => !neg
  | 5 => cy
  | 6 => !cy
  | 7 => v
  | 8 => !v
  | 9 => neg == v
  | 10 => neg != v
  | 11 => !z && neg == v
  | 12 => z || neg != v
  | 13 => s.flag (ESC_SW_TO n)
  | 14 => s.flag (ESC_SW_GR n)
  | _ => s.flag (ESC_SW_EMP n)

end Sys2Proof.Machine
end

