-- ==== Sys2Proof/Machine/Operands.lean ====
section
/-! DEFINITION. Calibre's operand forms: fields of instruction words (R79, R80, R83 to R125), coordinates (R70, R84),
addresses (R111, R119) and MOV's selectors (R122); and the issue of one instruction (R78, R128, R129). -/
namespace Sys2Proof.Machine

/-- A command's word 0 without its opcode, as a number. -/
def wordOf (b : BitVec 58) : Nat := b.toNat

/-- Word 0 of opcode `op` (R80). -/
def fullWord (op w : Nat) : Nat := op * 2 ^ 58 + w

/-- L of R80: a long form. -/
def isLong (w : Nat) : Bool := bit w 57

/-- The length of an instruction in bytes (R79). -/
def wordLen (w : Nat) : Nat := if isLong w then 16 else 8

/-- The words of an instruction whose word 0 has the opcode `op` and the other bits `w` (R79, R80). -/
def instrWords (op w w1 : Nat) : List Nat := if isLong w then [fullWord op w, w1] else [fullWord op w]

/-- The opcodes in use, with what they stand for (R82). -/
def opcodeMap : List (Nat × String) :=
  [(0x01, "MARK"), (0x02, "JUMP"), (0x03, "ARC"), (0x04, "SPLN"), (0x05, "DWELL"), (0x06, "SKY"),
   (0x10, "POWER"), (0x11, "SPEED"), (0x12, "WOBBLE"), (0x13, "DELAYS"),
   (0x18, "WAITT"), (0x19, "SYNC"), (0x1A, "AWAIT"), (0x1C, "CLAIM"), (0x1D, "YIELD"), (0x1E, "FLOAT"),
   (0x20, "DIALQ"), (0x24, "TAG"), (0x25, "LAYER"),
   (0x28, "BR"), (0x29, "CALL"), (0x2A, "RET"), (0x2B, "LOOP"), (0x2C, "HALT"), (0x2D, "TRAP"),
   (0x30, "LDI"), (0x31, "LD"), (0x32, "ST"), (0x33, "MOV"), (0x34, "ALU"), (0x35, "FADD"), (0x36, "FMUL"), (0x37, "FMA"),
   (0x38, "CVT")]

/-- OP of word 0 is neither 0x00 nor reserved (R80 to R82). -/
def opcodeUsed (w0 : Nat) : Bool := opcodeMap.any (fun e => e.1 == w0 / 2 ^ 58)

/-- Reserved bits are not all 0. -/
def dirty (w hi lo : Nat) : Bool := bits w hi lo != 0

/-- PC24's range (R70). -/
def inPc24 (z : Int) : Bool := decide (-8388608 ≤ z) && decide (z ≤ 8388607)

/-- A 24-bit signed field. -/
def pc24 (w hi lo : Nat) : Int := sgn 24 (bits w hi lo)

/-- What the issue of an instruction comes to: an exception with its address, a stall, or its effect. -/
inductive Iss where
  | exc (cause addr : Nat)
  | stall
  | ok (s : State)

/-- The word that the loop window holds for an address (R134). -/
def EscSt.inWindow (e : EscSt) (a : Nat) : Option Nat := (e.window.find? (fun w => w.1 == a)).map (·.2)

/-- The word at an address that the fetch buffer or the loop window holds (R134, R135). -/
def EscSt.word? (e : EscSt) (a : Nat) : Option Nat :=
  match e.buf.find? (fun l => l.addr == a / 64 * 64 && !l.poisoned) with
  | some l => l.words[a % 64 / 8]?
  | none => e.inWindow a

/-- The buffer holds these words from an address upwards. -/
def EscSt.holds (e : EscSt) (a : Nat) : List Nat → Bool
  | [] => true
  | w :: t => e.word? a == some w && e.holds ((a + 8) % 2 ^ 40) t

/-- The buffered line of an address is poisoned (R136), and the loop window does not hold its word. -/
def State.poisoned (s : State) (n a : Nat) : Bool :=
  (s.esc n).buf.any (fun l => l.addr == a / 64 * 64 && l.poisoned) && ((s.esc n).inWindow a).isNone

/-- The escapement can issue (R131, R139): RUN, no load or dial query under way, no store trap pending, not held in reset. -/
def State.canIssue (s : State) (n : Nat) : Bool :=
  s.escState n == 3 && (s.esc n).load.isNone && (s.esc n).storeTrap.isNone && decide ((s.esc n).busyTill ≤ s.beat) &&
  !s.heldInReset n && s.rst.phase == .off

/-- Words with their addresses, the last first. -/
def placed : Nat → List Nat → List (Nat × Nat)
  | _, [] => []
  | a, w :: t => placed ((a + 8) % 2 ^ 40) t ++ [(a, w)]

/-- The loop window keeps the last 64 words issued (R134). -/
def State.noteIssue (s : State) (n pc : Nat) (ws : List Nat) : State :=
  s.modEsc n (fun e => { e with window := (placed pc ws ++ e.window).take 64 })

/-- The instruction of the words `ws` issues (R78) where the fetch has brought these words to the PC, and else stalls (R135, R139):
FETCH first, then ILLEGAL, then what its body finds (R129); an exception leaves no other effect (R128); a step ends after it
(R164). `body` runs on the state with the PC past the instruction. -/
def State.issue (s : State) (n : Nat) (ws : List Nat) (illegal : Bool) (body : State → Iss) : State :=
  if !s.canIssue n then s
  else
    let pc := s.pc n
    let w0 := ws.headD 0
    if s.poisoned n pc then s.trap n exFetch 0 pc pc 0
    else if (s.esc n).word? pc ≠ some w0 then s
    else if decide (1 < ws.length) && s.poisoned n ((pc + 8) % 2 ^ 40) then s.trap n exFetch 0 pc ((pc + 8) % 2 ^ 40) 0
    else if !(s.esc n).holds pc ws then s
    else if illegal then s.trap n exIllegal 0 pc 0 w0
    else match body ((s.noteIssue n pc ws).setPc n (pc + 8 * ws.length)) with
      | .exc c a => s.trap n c 0 pc a w0
      | .stall => s
      | .ok t => if (t.esc n).stepping && t.escState n == 3 && (t.esc n).load.isNone then t.endStep n pc w0 else t

/-- A word is due to issue that no row stands for: a poisoned one raises FETCH (R136), OP 0x00 or a reserved OP ILLEGAL (R81). -/
def State.dueTrap (s : State) (n : Nat) : State :=
  if !s.canIssue n then s
  else
    let pc := s.pc n
    if s.poisoned n pc then s.trap n exFetch 0 pc pc 0
    else match (s.esc n).word? pc with
      | some w => if opcodeUsed w then s else s.trap n exIllegal 0 pc 0 w
      | none => s

/-! ### Addresses and selectors -/

/-- The data base (R119). -/
def State.dbase (s : State) (n : Nat) : Nat := s.pair (ESC_DBASE_LO_ADDR n) (ESC_DBASE_HI_ADDR n)

/-- The program base (R111). -/
def State.pbase (s : State) (n : Nat) : Nat := s.pair (ESC_PBASE_LO_ADDR n) (ESC_PBASE_HI_ADDR n)

/-- The address of LD and ST (R119), modulo 2^40. -/
def State.dataAddr (s : State) (n w w1 : Nat) : Nat :=
  let g := s.g n (bits w 46 42)
  if isLong w then (bits w1 39 0 + g) % 2 ^ 40
  else (((s.dbase n + g : Nat) : Int) + sgn 24 (bits w 23 0)).emod ((2 ^ 40 : Nat) : Int) |>.toNat

/-- The target of BR, CALL and LOOP with an offset (R111), modulo 2^40. -/
def branchTo (pc offs : Nat) : Nat := (((pc : Int) + 8 * sgn 32 offs) % ((2 ^ 40 : Nat) : Int)).toNat

/-- The value a MOV source selects, with the state after the read (R122): LBEAT_LO latches the high word (R5). -/
def State.movRead (s : State) (n sel : Nat) : Option (Nat × State) :=
  let e := s.esc n
  let key := (0x10 + n) * 2 ^ 40 + 0x2000280010
  if sel < 0x20 then some (s.g n sel, s)
  else if sel < 0x28 then some (s.f n (sel - 0x20), s)
  else match sel with
  | 0x28 => some (s.get (ESC_PX_VALUE n), s)
  | 0x29 => some (s.get (ESC_PY_VALUE n), s)
  | 0x2A => some (s.get (ESC_PZ_VALUE n), s)
  | 0x30 => some (s.peekReg (escBase n + 0xC), s)
  | 0x31 => some (s.get ESC_LBEAT_LO_BEAT, { s with hiLatch := Sparse.insert s.hiLatch key (s.get ESC_LBEAT_HI_BEAT) })
  | 0x32 => some (match s.hiLatch.find? (fun p => p.1 == key) with | some p => p.2 | none => s.get ESC_LBEAT_HI_BEAT, s)
  | 0x33 => some (e.tagLast, s)
  | 0x34 => some (e.set.layer, s)
  | 0x35 => some (e.set.power, s)
  | 0x36 => some (e.set.vMark, s)
  | 0x37 => some (e.set.vJump, s)
  | 0x38 => some (s.get SKZ_STAT_ADDR * 2 ^ 24 + n, s)
  | 0x39 => some (s.get (ESC_EVENT_EVENT n), s)
  | _ => none

/-- SW written by a MOV (R72, R73): PV and DEPTH stay. -/
def State.setSw (s : State) (n v : Nat) : State :=
  [(ESC_SW_RANGE n, 10), (ESC_SW_CLAMP n, 9), (ESC_SW_LATE n, 8), (ESC_SW_EMP n, 6), (ESC_SW_GR n, 5), (ESC_SW_TO n, 4),
   (ESC_SW_V n, 3), (ESC_SW_C n, 2), (ESC_SW_N n, 1), (ESC_SW_Z n, 0)].foldl (fun t p => t.set p.1 (b2n (bit v p.2))) s

/-- A MOV destination written (R122). -/
def State.movWrite (s : State) (n sel v : Nat) : Option State :=
  if sel < 0x20 then some (s.setG n sel v)
  else if sel < 0x28 then some (s.setF n (sel - 0x20) v)
  else if sel = 0x30 then some (s.setSw n v)
  else none

/-- The selector codes of R122 that may be read, and that may be written. -/
def movSource (sel : Nat) : Bool := decide (sel ≤ 0x2A) || (decide (0x30 ≤ sel) && decide (sel ≤ 0x39))
/-- See `movSource`. -/
def movDest (sel : Nat) : Bool := decide (sel < 0x28) || sel == 0x30

end Sys2Proof.Machine
end

