-- ==== Sys2Proof/Machine/HlLine.lean ====
section
/-! DEFINITION. The line of a head link (R356 to R365): fields as bits, CRCs, slots, scrambling, stuffing, superframes. -/
namespace Sys2Proof.Machine

/-! ### Fields and checks (R356, R364) -/

/-- A field of `w` bits, most significant bit first (R356). -/
def natBits (w v : Nat) : List Bool := (List.range w).map (fun k => v.testBit (w - 1 - k))

/-- Fields in the order in which they are sent: widths and values. -/
def fieldBits (fs : List (Nat × Nat)) : List Bool := fs.flatMap (fun f => natBits f.1 f.2)

/-- One bit into a CRC of `w` bits without reflection. -/
def crcBit (w poly c : Nat) (b : Bool) : Nat :=
  let x := 2 * c % 2 ^ w
  if c.testBit (w - 1) != b then x ^^^ poly else x

/-- CRC-16 of bits in transmission order (R364). -/
def crc16 (l : List Bool) : Nat := l.foldl (crcBit 16 0x1021) 0xFFFF

/-- CRC-32 of bits in transmission order (R364); over whole bytes it is `crc32`. -/
def crc32Bits (l : List Bool) : Nat := l.foldl (crcBit 32 0x04C11DB7) 0xFFFFFFFF ^^^ 0xFFFFFFFF

/-- A slot: its payload and its CRC-16 (R364, R365). -/
def slotSealed (l : List Bool) : List Bool := l ++ natBits 16 (crc16 l)

/-! ### Slots (R365, R366) -/

/-- Slot kinds of `Out.slot`: 0 CMD, 1 CFG, 2 SVC, 3 TRN (R363). -/
def slotCmd : Nat := 0
/-- See `slotCmd`. -/
def slotCfg : Nat := 1
/-- See `slotCmd`. -/
def slotSvc : Nat := 2
/-- See `slotCmd`. -/
def slotTrn : Nat := 3

/-- The fields of a downlink slot: the width of each, and the index of its word, none where it is sent as 0. -/
def slotLayout (kind : Nat) : List (Nat × Option Nat) :=
  if kind = slotCmd then [(8, some 0), (1, some 1), (7, none), (16, some 2), (16, some 3), (16, some 4)]
  else if kind = slotCfg then [(8, some 0), (1, some 1), (7, none), (16, some 2), (32, some 3)]
  else if kind = slotSvc then
    [(8, some 0), (8, some 1), (4, some 2), (4, none), (8, none), (32, some 3), (32, some 4), (32, some 5), (32, some 6),
      (32, some 7), (32, none)]
  else
    [(4, some 0), (4, some 1), (4, some 2), (4, some 3), (4, some 4), (2, some 5), (1, some 6), (1, some 7), (3, some 8),
      (5, none), (32, some 9)]

/-- The bits of a downlink slot with its words, CRC-16 included; a word that is not given is 0. -/
def slotBits (kind : Nat) (words : List Int) : List Bool :=
  slotSealed (fieldBits ((slotLayout kind).map (fun f =>
    (f.1, match f.2 with | some i => enc f.1 (words.getD i 0) | none => 0))))

/-- A slot leaves on head link `n`. -/
def State.sendSlot (s : State) (n kind : Nat) (words : List Int) : State := s.emit (.slot n kind words (slotBits kind words))

/-- The fields of a service slot as received, its CRC aside (R366). -/
def svcFields (typ : Nat) (x : SvcSlot) : List (Nat × Nat) :=
  [(8, typ), (8, x.tag.toNat), (4, x.len.toNat), (4, x.rsv.toNat), (8, x.status.toNat), (32, x.addr.toNat), (32, x.d0.toNat),
    (32, x.d1.toNat), (32, x.d2.toNat), (32, x.d3.toNat), (32, x.tail.toNat)]

/-- A service slot of a TYPE passes its CRC (R364). -/
def svcOk (typ : Nat) (x : SvcSlot) : Bool := crc16 (fieldBits (svcFields typ x)) == x.crc.toNat && !x.stuf

/-- The fields of a TRN slot as received (R365). -/
def trnFields (x : TrnSlot) : List (Nat × Nat) :=
  [(4, x.state.val), (4, x.vmin.val), (4, x.vmax.val), (4, x.rates.toNat), (4, x.chv.val), (2, x.chr.val), (1, b2n x.ack),
    (1, b2n x.eqok), (3, x.cd.val), (5, x.rsv.toNat), (32, x.model.toNat)]

/-- A TRN slot passes its CRC. -/
def trnOk (x : TrnSlot) : Bool := crc16 (fieldBits (trnFields x)) == x.crc.toNat && !x.stuf

/-- The fields of a TLM slot as received (R365). -/
def tlmFields (x : TlmSlot) : List (Nat × Nat) :=
  [(8, x.seq.toNat), (1, b2n x.hfault), (1, b2n x.miss), (1, b2n x.camdrop), (1, b2n x.hot), (4, x.rsv.toNat),
    (24, x.posX.toNat), (24, x.posY.toNat), (24, x.posZ.toNat), (16, x.ix.toNat), (16, x.iy.toNat), (16, x.iz.toNat),
    (8, x.cfgack.toNat)]

/-- A TLM slot passes its CRC. -/
def tlmOk (x : TlmSlot) : Bool := crc16 (fieldBits (tlmFields x)) == x.crc.toNat && !x.stuf

/-- The fields of a PD slot as received (R365). -/
def pdFields (x : PdSlot) : List (Nat × Nat) := [(16, x.pd0.toNat), (16, x.pd1.toNat), (16, x.pd2.toNat)]

/-- A PD slot passes its CRC. -/
def pdOk (x : PdSlot) : Bool := crc16 (fieldBits (pdFields x)) == x.crc.toNat && !x.stuf

/-- Header and pixels of a camera packet, zero-padded to a byte boundary (R368). -/
def camBits (x : CamPacket) : List Bool :=
  let px := x.pixels.flatMap (fun p => natBits 10 p.toNat)
  fieldBits [(8, x.typ.toNat), (8, x.flags.toNat), (16, x.frame.toNat), (16, x.line.toNat), (16, x.count.toNat)] ++ px ++
    List.replicate ((8 - px.length % 8) % 8) false

/-- A camera packet passes its CRC-32. -/
def camOk (x : CamPacket) : Bool := crc32Bits (camBits x) == x.crc.toNat

/-! ### Scrambling and stuffing (R359 to R361) -/

/-- What both ends of the line count: the scrambler's 31 bits, the last line bit, and how many line bits before it were
the same. -/
structure Coder where
  key : Nat
  last : Bool
  run : Nat
  deriving DecidableEq, Repr

/-- A line bit passes. -/
def Coder.put (c : Coder) (b : Bool) : Coder := { c with last := b, run := if b = c.last then c.run + 1 else 1 }

/-- The next bit of the keystream (R359). -/
def Coder.keyBit (c : Coder) : Bool := c.key.testBit 30 != c.key.testBit 27

/-- The keystream advances by one bit (R359). -/
def Coder.advance (c : Coder) : Coder := { c with key := (2 * c.key + b2n c.keyBit) % 2 ^ 31 }

/-- The keystream from here. -/
def Coder.keystream : Nat → Coder → List Bool
  | 0, _ => []
  | n + 1, c => c.keyBit :: Coder.keystream n c.advance

/-- `n` payload positions that carry payload bits, idle zeros where none are left (R360, R363): the line bits, the coder
after them, and the payload that is left. -/
def Coder.send : Nat → Coder → List Bool → List Bool × Coder × List Bool
  | 0, c, d => ([], c, d)
  | n + 1, c, d =>
    if c.run = 24 then
      let (l, c1, d1) := Coder.send n (c.put (!c.last)) d
      ((!c.last) :: l, c1, d1)
    else
      let b := d.headD false != c.keyBit
      let (l, c1, d1) := Coder.send n (c.advance.put b) d.tail
      (b :: l, c1, d1)

/-- The receiver over `n` payload positions (R361): the payload bits, each with whether a stuffing error stands before it in
its cell, the coder, and the line bits that are left. -/
def Coder.take : Nat → Coder → Bool → List Bool → List (Bool × Bool) × Coder × List Bool
  | 0, c, _, l => ([], c, l)
  | _ + 1, c, _, [] => ([], c, [])
  | n + 1, c, bad, b :: l =>
    if c.run = 24 then Coder.take n (c.put b) (bad || b == c.last) l
    else
      let (p, c1, r) := Coder.take n (c.advance.put b) bad l
      ((b != c.keyBit, bad) :: p, c1, r)

/-! ### Superframes (R357, R358, R362, R363) -/

/-- The sync word (R357, R358). -/
def syncWord : List Bool := natBits 64 0x5B3CA1E64D927C35

/-- The closer of a cell (R357). -/
def closer : List Bool := [false, true]

/-- Line bits of a cell at a rate code: 20 beats at 4, 8 or 16 Gb/s (R357). -/
def cellBits (rate : Nat) : Nat := 200 * 2 ^ rate

/-- The coder after the sync word of a superframe: the scrambler is seeded, the bits of sync word and the closer before it are
counted (R358, R359). -/
def syncCoder : Coder := syncWord.foldl Coder.put ⟨0x7FFFFFFF, true, 1⟩

/-- Cells from here on, each with the PD slot that it starts with, and `head` line bits taken by the sync word in the
first (R362). -/
def sendCells (rate : Nat) : List (List Bool) → Nat → Coder → List Bool → List Bool
  | [], _, _, _ => []
  | pd :: t, head, c, fill =>
    let (l, c1, rest) := Coder.send (cellBits rate - head - 2) c (pd ++ fill)
    l ++ closer ++ sendCells rate t 0 (closer.foldl Coder.put c1) rest

/-- The line bits of a superframe of 50 cells: `pds` are the PD slots of an uplink, 50 empty lists on a downlink. -/
def superframe (rate : Nat) (pds : List (List Bool)) (fill : List Bool) : List Bool :=
  syncWord ++ sendCells rate pds 64 syncCoder fill

/-- The payload of every cell as received. -/
def takeCells (rate : Nat) : Nat → Nat → Coder → List Bool → List (List (Bool × Bool))
  | 0, _, _, _ => []
  | k + 1, head, c, l =>
    let (p, c1, rest) := Coder.take (cellBits rate - head - 2) c false l
    p :: takeCells rate k 0 ((rest.take 2).foldl Coder.put c1) (rest.drop 2)

/-- The payload of the 50 cells of a superframe as received, after its sync word. -/
def received (rate : Nat) (line : List Bool) : List (List (Bool × Bool)) := takeCells rate 50 64 syncCoder (line.drop 64)

/-- The PD slots of an uplink superframe: the first 64 payload bits of each cell (R362, R365). -/
def pdPart (cells : List (List (Bool × Bool))) : List (List (Bool × Bool)) := cells.map (fun c => c.take 64)

/-- The fill of an uplink superframe: what is left of its cells, in order (R362). In TIME and L0 its first 160 bits are the
TLM slot, the next 240 the SVC slot, the next 16 FIRST, and the rest the camera stream (R363). -/
def fillPart (cells : List (List (Bool × Bool))) : List (Bool × Bool) := cells.flatMap (fun c => c.drop 64)

/-- The bits of the slot of a kind among what was sent to a head, all words 0 where none was. -/
def slotSent (n kind : Nat) (sent : List Out) : List Bool :=
  (sent.findSome? (fun o => match o with
    | .slot m k _ b => if m = n ∧ k = kind then some b else none
    | _ => none)).getD (slotBits kind [])

/-- The fill of a downlink superframe in a link state, with the slots that were sent for it, in the order of R363. -/
def downFill (st n : Nat) (sent : List Out) : List Bool :=
  if st ≤ 3 then slotSent n slotTrn sent ++ slotSent n slotSvc sent
  else slotSent n slotCmd sent ++ slotSent n slotCfg sent ++ slotSent n slotSvc sent

/-- The line bits of the downlink superframe that carries these slots, in the link's state and at its rate. -/
def State.downLine (s : State) (n : Nat) (sent : List Out) : List Bool :=
  superframe (s.get (HL_STAT_RATE n)) (List.replicate 50 []) (downFill (s.get (HL_STAT_STATE n)) n sent)

end Sys2Proof.Machine
end

