-- ==== Sys2Proof/Machine/SkzOps.lean ====
section
/-! DEFINITION. The Skeuz fabric's shared operations (R404 to R429): flits and their links, routes, the fabric map,
broadcasts and scheduled commands, reports, remote accesses, time. -/
namespace Sys2Proof.Machine

/-- Skeuz port `p` beside its registers. -/
def State.skp (s : State) (p : Nat) : SkPort := Sparse.get {} s.skz.ports p

/-- Skeuz port `p` replaced. -/
def State.setSkp (s : State) (p : Nat) (x : SkPort) : State := { s with skz := { s.skz with ports := Sparse.put {} s.skz.ports p x } }

/-- Port `p` is UP (R404). -/
def State.portUp (s : State) (p : Nat) : Bool := s.get (SKZ_PSTAT_STATE p) == 2

/-- The device's unique identifier (R14). -/
def State.uid (s : State) : Nat := s.pair SYS_UID_LO_UID SYS_UID_HI_UID

/-- The device's Skeuz address. -/
def State.skAddr (s : State) : Nat := s.get SKZ_STAT_ADDR

/-- The Skeuz block runs: not held in block reset or in a chip reset. -/
def State.skLive (s : State) : Bool := !s.heldInReset 131 && s.rst.phase == .off

/-! ### Links (R405 to R407) -/

/-- The words of a flit as sent, its CRC aside: TYPE, DST, SRC, HOPS, CLASS, LSEQ, LACK, TAG, ARG, payload fields. -/
def Flit.words (f : Flit) (lseq lack : Nat) : List Nat := [f.typ, f.dst, f.src, f.hops, f.cls, lseq, lack, f.tag, f.arg] ++ f.data

/-- The payload of a flit type: the first byte and the bytes of each of its words (R406). -/
def flitLayout (typ : Nat) : List (Nat × Nat) :=
  match typ with
  | 0x01 => [(8, 8), (16, 8), (24, 1), (25, 1)]
  | 0x02 => [(8, 8), (16, 1), (17, 8), (25, 8), (33, 8), (41, 8)]
  | 0x03 => [(8, 8), (16, 1), (17, 1), (18, 2), (20, 1)]
  | 0x10 => [(8, 5)]
  | 0x11 => (8, 5) :: (List.range 32).map (fun k => (16 + k, 1))
  | 0x12 => (8, 1) :: (List.range 32).map (fun k => (16 + k, 1))
  | 0x13 => [(8, 1)]
  | 0x20 => [(8, 7)]
  | 0x21 => [(8, 7), (16, 7), (24, 1)]
  | 0x30 => [(8, 6), (14, 1), (15, 2)]
  | 0x31 => [(8, 1), (9, 1), (10, 6)]
  | 0x40 => (List.range 12).map (fun k => (8 + 4 * k, 4))
  | _ => []

/-- Bytes 0 to 59 of a flit (R405): fields little-endian, unused bytes 0. -/
def Flit.body (f : Flit) (lseq lack : Nat) : List Nat :=
  [f.typ, 16 * f.dst + f.src, 16 * f.hops + 4 * f.cls, lseq, lack, f.tag, f.arg % 256, f.arg / 256] ++
    (List.range 52).map (fun i =>
      (((flitLayout f.typ).zip f.data).findSome? (fun e =>
        if e.1.1 ≤ 8 + i ∧ 8 + i < e.1.1 + e.1.2 then some (e.2 / 256 ^ (8 + i - e.1.1) % 256) else none)).getD 0)

/-- The 64 bytes of a flit: its body and the CRC-32 of R364 over it, little-endian (R405; log entry 145). -/
def Flit.bytes (f : Flit) (lseq lack : Nat) : List Nat :=
  let b := f.body lseq lack
  let c := crc32Bits (b.flatMap (natBits 8))
  b ++ (List.range 4).map (fun k => c / 256 ^ k % 256)

/-- A flit leaves by port `p` with its link numbers. -/
def State.sendFlit (s : State) (p : Nat) (f : Flit) (lseq lack : Nat) : State :=
  s.emit (.flit p (f.words lseq lack) (f.bytes lseq lack))

/-- The element at an index of a short list, 0 beyond it. -/
def nth0 (l : List Nat) (i : Nat) : Nat := l.getD i 0

/-- The list with element `i` changed. -/
def setNth (l : List Nat) (i v : Nat) : List Nat := l.set i v

/-- Flits of a port's queue leave while their class has a credit and fewer than 128 are unacknowledged (R407). -/
def State.skPump (s : State) (p : Nat) : State :=
  let q := (s.skp p).queue
  q.foldl (fun t f =>
    let x := t.skp p
    if 0 < nth0 x.credit f.cls ∧ x.unacked.length < 128 then
      let y := { x with
        credit := setNth x.credit f.cls (nth0 x.credit f.cls - 1), unacked := x.unacked ++ [(x.txSeq, f)]
        txSeq := (x.txSeq + 1) % 256 }
      (t.setSkp p y).sendFlit p f x.txSeq x.rxSeq
    else t.setSkp p { x with queue := x.queue ++ [f] }) (s.setSkp p { s.skp p with queue := [] })

/-- A flit leaves by port `p` (R407): class 3 at once, the others under their credits. -/
def State.skSend (s : State) (p : Nat) (f : Flit) : State :=
  if !s.portUp p then s
  else if f.cls = 3 then s.sendFlit p f 0 (s.skp p).rxSeq
  else (s.setSkp p { s.skp p with queue := (s.skp p).queue ++ [f] }).skPump p

/-- An IDLE that returns the credits owed, at most 15 of each class (R406, R407). -/
def State.skIdle (s : State) (p : Nat) : State :=
  let x := s.skp p
  let o := x.owed.map (fun v => min v 15)
  let arg := nth0 o 0 + 16 * nth0 o 1 + 256 * nth0 o 2
  (s.setSkp p { x with owed := List.zipWith (· - ·) x.owed o, idleAt := s.rst.clk }).skSend p
    { cls := 3, typ := 0, dst := 0, src := s.skAddr, hops := 0, tag := 0, arg, data := [] }

/-- The beats after which an UP port sends an IDLE: they hold 124 flit slots with FEC off and 117 with FEC on, of the 128
that R403 allows (log entry 146). -/
def idleBeats : Nat := 240

/-- Every UP port sends an IDLE in every 128 flit slots (R403). -/
def State.skIdles (s : State) : State :=
  (List.range 4).foldl (fun t p =>
    if t.skLive && t.portUp p && decide ((t.skp p).idleAt + idleBeats ≤ t.rst.clk) then t.skIdle p else t) s

/-- With FEC on, the decoder's counts since the flit before enter SKZ_PFEC_pp, which stops at its maxima (R434). -/
def State.fecCount (s : State) (p : Nat) (h : LinkHead) : State :=
  if s.flag (SKZ_PSTAT_FECON p) then (s.addSat (SKZ_PFEC_CORR p) h.corr.val).addSat (SKZ_PFEC_UNCORR p) h.lost.toNat else s

/-- What a flit's CRC and LACK do at its receiver (R407, R434): the state, and whether it passed its CRC. -/
def State.skArrive (s0 : State) (p : Nat) (h : LinkHead) : State × Bool :=
  let s := if s0.portUp p && s0.skLive then s0.fecCount p h else s0
  if !s.portUp p || !s.skLive then (s, false)
  else if !h.crcOk then (s.incSat (SKZ_PERR_CRCERR p), false)
  else
    let x := s.skp p
    let k := x.unacked.findIdx? (fun e => e.1 == h.lack.toNat)
    match k with
    | some i => ((s.setSkp p { x with unacked := x.unacked.drop (i + 1), replays := 0 }).skPump p, true)
    | none => (s, true)

/-- A sequenced flit of a class is accepted if it carries the next expected LSEQ (R407): its number, its buffer place and
the credit it will owe; an IDLE goes ahead once 8 credits are owed. -/
def State.skAccept (s0 : State) (p : Nat) (h : LinkHead) (cls : Nat) : State × Bool :=
  let (s, ok) := s0.skArrive p h
  let x := s.skp p
  if ok && h.lseq.toNat == (x.rxSeq + 1) % 256 then
    let y := { x with rxSeq := h.lseq.toNat, owed := setNth x.owed cls (nth0 x.owed cls + 1) }
    let s1 := s.setSkp p y
    (if y.owed.any (fun v => decide (8 ≤ v)) then s1.skIdle p else s1, true)
  else (s, false)

/-! ### Routes (R408, R409, R413) -/

/-- The lowest-numbered UP port of a mask. -/
def State.upPort (s : State) (mask : Nat) : Option Nat := (List.range 4).find? (fun p => mask.testBit p && s.portUp p)

/-- A unicast flit leaves towards its destination, or is discarded with LOOPDROP (R408). -/
def State.skRoute (s : State) (f : Flit) : State :=
  match s.upPort (s.get (SKZ_ROUTE_MASK f.dst)) with
  | some p => s.skSend p f
  | none => s.set SKZ_STAT_LOOPDROP 1

/-- A flit of this device's own to a destination. -/
def State.skUnicast (s : State) (cls typ dst tag arg : Nat) (data : List Nat) : State :=
  s.skRoute { cls, typ, dst, src := s.skAddr, hops := 0, tag, arg, data }

/-- A flit for another device is forwarded with one more hop, or discarded (R408). -/
def State.skForward (s : State) (h : LinkHead) (cls typ : Nat) (data : List Nat) : State :=
  if h.hops.val = 15 then s.set SKZ_STAT_LOOPDROP 1
  else s.skRoute
    { cls, typ, dst := h.dst.val, src := h.src.val, hops := h.hops.val + 1, tag := h.tag.toNat, arg := h.arg.toNat, data }

/-- The parent port, none on the timekeeper (R411, R413). -/
def State.parent (s : State) : Option Nat := let p := s.get SKZ_TSTAT_PARENT; if p < 4 then some p else none

/-- The tree ports (R409). -/
def State.treePorts (s : State) : List Nat :=
  (List.range 4).filter (fun p => s.parent == some p || s.skz.kids.testBit p)

/-- A broadcast leaves by every tree port but the one it arrived on (R409). -/
def State.skTree (s : State) (but : Option Nat) (f : Flit) : State :=
  s.treePorts.foldl (fun t p => if but == some p then t else t.skSend p f) s

/-- The peers of a device of the map. -/
def SkzSt.peersOf (z : SkzSt) (a : Nat) : List (Option Nat) := match z.map.find? (fun r => r.addr == a) with
  | some r => r.peers
  | none => []

/-- Distances to address `d` after `k` rounds: the addresses whose distance is at most `k`, each with its distance. -/
def SkzSt.distTo (z : SkzSt) (d : Nat) : Nat → List (Nat × Nat)
  | 0 => [(d, 0)]
  | k + 1 =>
    let l := z.distTo d k
    l ++ (z.map.filter (fun r => !l.any (fun e => e.1 == r.addr) &&
      r.peers.any (fun q => match q with | some a => l.any (fun e => e.1 == a) | none => false))).map (fun r => (r.addr, k + 1))

/-- The distance between two devices of the map. -/
def SkzSt.dist? (z : SkzSt) (a d : Nat) : Option Nat := ((z.distTo d 15).find? (fun e => e.1 == a)).map (·.2)

/-- The mask of ports whose peer lies on a shortest path to `d` from `a` (R413). -/
def SkzSt.maskTo (z : SkzSt) (a d : Nat) : Nat :=
  match z.dist? a d with
  | some (k + 1) =>
    let l := z.distTo d 15
    let ps := z.peersOf a
    (List.range 4).foldl (fun m p =>
      match ps.getD p none with
      | some q => if l.any (fun e => e.1 == q && e.2 == k) then m + 2 ^ p else m
      | none => m) 0
  | _ => 0

/-- The timekeeper's address in the map. -/
def State.tkAddr (s : State) : Nat := match s.skz.map.find? (fun r => r.uid == s.skz.root) with
  | some r => r.addr
  | none => s.skAddr

/-- The lowest bit set below 4. -/
def lowPort (mask : Nat) : Option Nat := (List.range 4).find? mask.testBit

/-- Routes, parent and children from the complete map (R413, R409). A port leads to a child where the peer's own parent
port is the other end of this link. -/
def State.buildRoutes (s : State) : State :=
  let z := s.skz
  let me := s.skAddr
  let s1 := (List.range 16).foldl (fun t d => t.set (SKZ_ROUTE_MASK d) (z.maskTo me d)) s
  let tk := s.tkAddr
  let ps := z.peersOf me
  let s2 := (List.range 4).foldl (fun t p =>
    match ps.getD p none with
    | some q => (t.set (SKZ_PSTAT_PEERADDR p) q).set (SKZ_PSTAT_PEERVALID p) 1
    | none => (t.set (SKZ_PSTAT_PEERADDR p) 0).set (SKZ_PSTAT_PEERVALID p) 0) s1
  let kids := (List.range 4).foldl (fun m p =>
    match ps.getD p none, (s.skp p).hello with
    | some q, some h => if lowPort (z.maskTo q tk) == some h.port then m + 2 ^ p else m
    | _, _ => m) 0
  let s3 := { s2 with skz := { s2.skz with kids := kids } }
  (s3.set SKZ_TSTAT_PARENT ((lowPort (z.maskTo me tk)).getD 7)).set SKZ_TSTAT_HOPS ((z.dist? me tk).getD 0)

/-! ### Commands (R425 to R427) -/

/-- The place of a command among those of one beat (R427). -/
def cmdOrder (cmd : Nat) : Nat :=
  match cmd with | 4 => 0 | 2 => 1 | 3 => 2 | 8 => 3 | 9 => 4 | 1 => 5 | _ => 6

/-- A 48-bit stamp lies ahead of a beat; how far. -/
def aheadBy (stamp beat : Nat) : Option Nat :=
  let d := (stamp + 2 ^ 48 - beat % 2 ^ 48) % 2 ^ 48
  if d < 2 ^ 47 then some d else none

/-- R145, from the beats the stamp lies ahead. -/
def State.startAhead (s : State) : Option Nat → State × Nat
  | some d => if 400 ≤ d then (s, s.beat + d) else (s.set ESC_GSTAT_LATEGO 1, s.beat + 400)
  | none => (s.set ESC_GSTAT_LATEGO 1, s.beat + 400)
/-- The release beat of a start command received now (R145), with LATEGO for a stamp nearer than 400 beats. -/
def State.startDue (s : State) (stamp : Nat) : State × Nat := s.startAhead (aheadBy stamp s.beat)

/-- A command enters the schedule: earlier beats first, R427's order on one beat, then the order of arrival. -/
def insertSched : List Sched → Sched → List Sched
  | [], c => [c]
  | d :: t, c => if c.due < d.due ∨ (c.due = d.due ∧ cmdOrder c.cmd < cmdOrder d.cmd) then c :: d :: t else d :: insertSched t c

/-- A command is known (R426). -/
def knownCmd (cmd : Nat) : Bool := (decide (1 ≤ cmd) && decide (cmd ≤ 4)) || cmd == 8 || cmd == 9 || cmd == 0xA

/-- A command enters the schedule of this device for its beat. -/
def State.skAdd (s : State) (cmd carg due : Nat) : State := { s with skz := { s.skz with sched := insertSched s.skz.sched ⟨due, cmd, carg⟩ } }
/-- A start command enters the schedule for its release beat (R145). -/
def State.skAddStart (carg : Nat) (p : State × Nat) : State := p.1.skAdd 1 carg p.2
/-- A late command acts 8 beats after its arrival (R425). -/
def State.skLate (s : State) (cmd carg : Nat) : State :=
  (((s.set SKZ_STAT_LATECMD 1).incSat SKZ_LATECNT_COUNT).pulse 0x024).skAdd cmd carg (s.beat + 8)
/-- A command other than a start, from the beats its stamp lies ahead (R425). -/
def State.skAhead (s : State) (cmd carg : Nat) : Option Nat → State
  | some d => if 0 < d then s.skAdd cmd carg (s.beat + d) else s.skLate cmd carg
  | none => s.skLate cmd carg

/-- A received or own command is scheduled for its stamp (R425, R426): an unknown one sets BADCMD; a late one acts 8 beats
after its arrival; a START outside Armed sets GOERR (R144), a late one follows R145. -/
def State.skSchedule (s : State) (cmd carg stamp : Nat) : State :=
  if !knownCmd cmd then s.set SKZ_STAT_BADCMD 1
  else if cmd = 1 then
    if s.modeCode ≠ mArmed then s.set ESC_GSTAT_GOERR 1 else State.skAddStart carg (s.startDue stamp)
  else s.skAhead cmd carg (aheadBy stamp s.beat)

/-- A broadcast command of this device: by the tree to the others, and on its own schedule (R409, R425). -/
def State.skBroadcast (s : State) (cmd carg stamp : Nat) : State :=
  (s.skTree none { cls := 2, typ := 0x30, dst := 15, src := s.skAddr, hops := 0, tag := 0, arg := 0, data := [stamp % 2 ^ 48, cmd, carg] }).skSchedule
    cmd carg (stamp % 2 ^ 48)

/-- The first command due now, if its CMD is `cmd`, with the schedule after it (R427). -/
def State.skDue (s : State) (cmd : Nat) : Option (Sched × State) :=
  match s.skz.sched with
  | c :: t => if c.cmd = cmd ∧ c.due ≤ s.beat then some (c, { s with skz := { s.skz with sched := t } }) else none
  | [] => none

/-! ### Reports (R428) -/

/-- Beats by which a Recoat broadcast runs ahead (R428). -/
def recoatLead : Nat := 1600

/-- Every device of a non-empty layer set is done: Recoat is broadcast and the set empties (R428). -/
def State.layerCheck (s : State) : State :=
  let set := s.get SKZ_LAYSTAT_SET
  let done := s.get SKZ_LAYSTAT_DONE
  if set ≠ 0 ∧ set &&& done = set then
    ((s.set SKZ_LAYSTAT_SET 0).set SKZ_LAYSTAT_DONE 0).skBroadcast 2 6 (s.beat + recoatLead)
  else s

/-- A barrier-ready report reaches the timekeeper (R151, R153). -/
def State.barReport (s : State) (g dev beat : Nat) : State :=
  let b := Sparse.get {} s.bars (16 + g)
  let due := match aheadBy beat s.beat with
    | some d => s.beat + d
    | none => s.beat - (s.beat + 2 ^ 48 - beat) % 2 ^ 48
  let b1 := { b with reports := b.reports.filter (fun r => r.1 != dev) ++ [(dev, due)]
                     firstReport := if b.reports.isEmpty then s.beat else b.firstReport
                     devices := if b.reports.isEmpty then s.get (ESC_FDEV_DEVICES g) else b.devices }
  { s with bars := Sparse.put {} s.bars (16 + g) b1 }

/-- Beats by which the JOINED broadcast runs ahead (R414). -/
def joinedLead : Nat := 40000

/-- A join-ready report at the timekeeper; with the last of them JOINED is broadcast (R414). -/
def State.joinReport (s : State) (dev : Nat) : State :=
  let r := s.skz.ready ||| 2 ^ dev
  let s1 := { s with skz := { s.skz with ready := r } }
  if s1.skz.map.all (fun m => r.testBit m.addr) && !s1.skz.joinedSent && s.modeCode == mJoin then
    ({ s1 with skz := { s1.skz with joinedSent := true } }).skBroadcast 0xA (s.get SKZ_STAT_NDEV) (s.beat + joinedLead)
  else s1

/-- The timekeeper acts on a report (R428). -/
def State.reportAct (s : State) (kind group dev beat : Nat) : State :=
  if !s.flag SKZ_STAT_TK then s
  else match kind with
    | 1 => s.barReport (group % 16) dev beat
    | 2 => s.set SKZ_LAYSTAT_SET (s.get SKZ_LAYSTAT_SET ||| 2 ^ dev)
    | 3 => ((s.set SKZ_LAYSTAT_SET (s.get SKZ_LAYSTAT_SET ||| 2 ^ dev)).set SKZ_LAYSTAT_DONE
        (s.get SKZ_LAYSTAT_DONE ||| 2 ^ dev)).layerCheck
    | 4 => s.joinReport dev
    | _ => s

/-- A report of this device (R428): to the timekeeper's address, or acted on at once by the timekeeper itself. -/
def State.skReport (s : State) (kind group beat : Nat) : State :=
  if s.flag SKZ_STAT_TK then s.reportAct kind group s.skAddr (beat % 2 ^ 48)
  else s.skUnicast 2 0x31 s.tkAddr 0 0 [kind, group, beat % 2 ^ 48]

/-! ### Unjoined (R415) and parents (R416) -/

/-- The device is a fabric of one (R415). -/
def State.unjoin (s : State) : State :=
  let s1 := [(SKZ_STAT_JOINED, 0), (SKZ_STAT_TK, 1), (SKZ_STAT_ADDR, 0), (SKZ_STAT_NDEV, 1), (SKZ_STAT_JSTATE, 0),
    (SKZ_TSTAT_PARENT, 7), (SKZ_TSTAT_HOPS, 0), (SKZ_TKUID_LO_UID, 0), (SKZ_TKUID_HI_UID, 0)].foldl (fun t p => t.set p.1 p.2) s
  let s2 := (List.range 16).foldl (fun t d =>
    ((t.set (SKZ_ROUTE_MASK d) 0).set (SKZ_DEVUID_LO_UID d) 0).set (SKZ_DEVUID_HI_UID d) 0) s1
  let s3 := (List.range 4).foldl (fun t p => (t.set (SKZ_PSTAT_PEERADDR p) 0).set (SKZ_PSTAT_PEERVALID p) 0) s2
  { s3 with skz := { s3.skz with
      map := [], topos := [], kids := 0, ndev := 1, ready := 0, joinedSent := false, t1 := none, fails := 0, aligned := false
      turnedAway := false } }

/-- A new parent (R416): the next UP port in the mask of the timekeeper's address; without one the timekeeper is lost. -/
def State.reparent (s : State) : State :=
  let now := s.get SKZ_TSTAT_PARENT
  let mask := s.get (SKZ_ROUTE_MASK s.tkAddr)
  let cand := (List.range 4).find? (fun p => mask.testBit p && s.portUp p && p != now)
  let s1 := { s with skz := { s.skz with t1 := none, fails := 0 } }
  match cand with
  | some p => { (s1.set SKZ_TSTAT_PARENT p) with skz := { s1.skz with kids := putBit s1.skz.kids p false } }
  | none => ((s1.set SKZ_STAT_TKLOST 1).set SKZ_TSTAT_PARENT 7).pulse 0x021

/-- A port leaves UP (R404, R416): its link's flits are gone (log entry 25), it trains again while EN stays set. -/
def State.skPortDown (s : State) (p : Nat) : State :=
  let wasUp := s.portUp p
  let en := s.flag (SKZ_PCTL_EN p)
  let x := s.skp p
  let s1 := (s.setSkp p { hello := x.hello, since := s.beat }).set (SKZ_PSTAT_STATE p) (if en && !s.rst.refbBad then 1 else 0)
  let s2 := ((s1.set (SKZ_PSTAT_FECON p) 0).set (SKZ_PSTAT_PRECON p) 0).set (SKZ_PSTAT_INJOIN p) 0
  let s3 := { s2 with skz := { s2.skz with kids := putBit s2.skz.kids p false } }
  if !wasUp then s3
  else
    let s4 := (s3.set (SKZ_PSTAT_DOWNEV p) 1).pulse (0x01C + p)
    if s4.flag SKZ_STAT_JOINED && s4.parent == some p then s4.reparent else s4

/-! ### Remote accesses (R30, R31, R417, R418) -/

/-- The Skeuz address of a window slot. -/
def slotOf (a : Nat) : Nat := (a - 0x3000000000) / 2 ^ 32

/-- The remote address of a window address (R30). -/
def State.remoteAddr (s : State) (a : Nat) : Nat :=
  let o := (a - 0x3000000000) % 2 ^ 32
  if o < 0x80000000 then s.get (SKZ_DWIN_PAGE (slotOf a)) * 0x80000000 + o
  else if o < 0xC0000000 then 0x1000000000 + (o - 0x80000000)
  else 0x2000000000 + (o - 0xC0000000)

/-- The slot is the device's own (R31). -/
def State.ownSlot (s : State) (a : Nat) : Bool := slotOf a == s.skAddr

/-- The slot's address is assigned by the fabric map (R31, R415). -/
def State.slotAssigned (s : State) (a : Nat) : Bool :=
  s.flag SKZ_STAT_JOINED && s.skz.map.any (fun r => r.addr == slotOf a)

/-- The requests of an access of `n` bytes at remote address `a`: each within one aligned 32-byte block (R417). -/
def piecesOf (a : Nat) : Nat → Nat → List SkPiece
  | _, 0 => []
  | ofs, k + 1 =>
    -- `k + 1` bytes are left; one byte at a time joins the block it lies in
    let rest := piecesOf a (ofs + 1) k
    match rest with
    | q :: t => if (a + ofs) / 32 = (a + q.ofs) / 32 then { q with ofs := ofs, len := q.len + 1 } :: t
                else ⟨none, ofs, 1, false, [], 0⟩ :: rest
    | [] => [⟨none, ofs, 1, false, [], 0⟩]

/-- Tags in use (R418). -/
def SkzSt.tags (z : SkzSt) : List Nat := z.reqs.flatMap (fun r => r.pieces.filterMap (fun p => if p.answered then none else p.tag))

/-- A free tag. -/
def SkzSt.freeTag (z : SkzSt) : Option Nat := let used := z.tags; (List.range 256).find? (fun t => !used.contains t)

/-- The request of one piece leaves with a tag. -/
def State.sendPiece (s : State) (r : SkReq) (p : SkPiece) (tag : Nat) : State :=
  let d := ((r.data.drop p.ofs).take p.len).map BitVec.toNat
  s.skUnicast 0 (if r.write then 0x11 else 0x10) r.dev tag p.len ((r.addr + p.ofs) :: (if r.write then d else []))

/-- Requests that wait for a tag take the free ones, oldest first (R418); at most 256 leave. -/
def State.tagRequests (s : State) : State :=
  (List.range 256).foldl (fun t _ =>
    match t.skz.freeTag, t.skz.reqs.findIdx? (fun r => r.pieces.any (fun p => p.tag.isNone)) with
    | some tag, some i =>
      match t.skz.reqs[i]? with
      | some r =>
        match r.pieces.findIdx? (fun p => p.tag.isNone) with
        | some j =>
          match r.pieces[j]? with
          | some p =>
            let r1 := { r with pieces := r.pieces.set j { p with tag := some tag, sent := t.rst.clk } }
            ({ t with skz := { t.skz with reqs := t.skz.reqs.set i r1 } }).sendPiece r p tag
          | none => t
        | none => t
      | none => t
    | _, _ => t) s

/-- A remote access starts (R417): its requests are made and take tags. -/
def State.remoteStart (s : State) (m a : Nat) (write : Bool) (n : Nat) (data : List Byte) : State :=
  let ra := s.remoteAddr a
  let r : SkReq := { master := m, dev := slotOf a, win := a, addr := ra, write, ok := true, data, pieces := piecesOf ra 0 n }
  ({ s with skz := { s.skz with reqs := s.skz.reqs ++ [r] } }).tagRequests

/-- The access started last carries a write of imaging or capture. -/
def State.remoteOwn (s : State) (kind : Nat) : State :=
  { s with skz := { s.skz with reqs := s.skz.reqs.modify (s.skz.reqs.length - 1) (fun r => { r with own := some kind }) } }

/-- A load or store of escapement `n` through the window leaves as it issues; an unassigned slot answers at once (R31). -/
def State.winIssue (s : State) (n a : Nat) (write : Bool) (data : List Byte) : State × Option (Bool × Nat) :=
  if s.region a ≠ .fabric ∨ s.ownSlot a then (s, none)
  else if !s.slotAssigned a then (s, some (false, 0))
  else (s.remoteStart (0x10 + n) a write 4 data, none)

/-- The bytes an access has read, in order. -/
def SkReq.bytes (r : SkReq) : List Byte := r.pieces.flatMap (fun p => (p.data ++ List.replicate p.len 0).take p.len)

/-- An access through the window ends at its master (R24): an escapement's load or store gets its answer, a host write's
error is dropped and logged, the block of a write of imaging or capture learns of it at the command's end, a read of a peer's
origin has its row (R270), any other master gets the completion. -/
def State.remoteDone (s : State) (r : SkReq) : State :=
  let v := if r.ok && !r.write then leNat r.bytes else 0
  if 0x10 ≤ r.master ∧ r.master < 0x28 then
    let n := r.master - 0x10
    if r.write then s.modEsc n (fun e =>
      match e.stores.findIdx? (fun m => m.answer.isNone && m.addr == r.win) with
      | some i => (match e.stores[i]? with
        | some m => { e with stores := e.stores.set i { m with answer := some (r.ok, 0) } }
        | none => e)
      | none => e)
    else s.modEsc n (fun e => match e.load with
      | some m => { e with load := some { m with answer := some (r.ok, v) } }
      | none => e)
  else match r.own with
  | some k => if k = 6 then s else { s with own := s.own ++ [.ended k r.ok] }
  | none =>
    (if r.master = 4 ∧ r.write ∧ !r.ok then s.hostDropped r.win else s).reply r.master r.ok v

/-- One request has its outcome; with the last of an access the access ends (R417, R418). -/
def State.pieceDone (s : State) (tag : Nat) (ok : Bool) (data : List Byte) : State :=
  match s.skz.reqs.findIdx? (fun r => r.pieces.any (fun p => p.tag == some tag && !p.answered)) with
  | none => s
  | some i =>
    match s.skz.reqs[i]? with
    | none => s
    | some r =>
      let r1 := { r with
        ok := r.ok && ok
        pieces := r.pieces.map (fun p => if p.tag == some tag && !p.answered then { p with answered := true, data } else p) }
      if r1.pieces.all (fun p => p.answered) then
        (({ s with skz := { s.skz with reqs := s.skz.reqs.eraseIdx i } }).remoteDone r1).tagRequests
      else ({ s with skz := { s.skz with reqs := s.skz.reqs.set i r1 } }).tagRequests

/-- A request has had no response within 10 µs (R418). -/
def State.pieceTimeout (s : State) (tag : Nat) : State :=
  if s.skz.reqs.any (fun r => r.pieces.any (fun p => p.tag == some tag && !p.answered && decide (p.sent + 10 * beatsPerUs ≤ s.rst.clk))) then
    s.pieceDone tag false []
  else s

/-- Every access under way ends with an error (a reset of the block). -/
def State.remoteAbort (s : State) : State :=
  s.skz.reqs.foldl (fun t r => t.remoteDone { r with ok := false }) { s with skz := { s.skz with reqs := [] } }

/-- A block reset of Skeuz (R431, R534): every port DOWN, the device unjoined, then the registers. -/
def State.resetSkz (s : State) : State :=
  let s1 := s.remoteAbort
  let ph := s1.skz.phase
  ({ s1 with skz := { phase := ph } }).resetRegs 0 (fun a => decide (0x2000800000 ≤ a) && decide (a < 0x2000900000))

/-! ### Time (R419 to R423) -/

/-- A signed difference of two 54-bit timestamps. -/
def tsDiff (a b : Nat) : Int := sgn 54 (a + 2 ^ 54 - b % 2 ^ 54)

/-- Half of a number, nearest with ties away from zero (R421). -/
def half (z : Int) : Int := roundAway ((z : Rat) / 2)

/-- θ and δ of an exchange (R421). -/
def exchange (t1 t2 t3 t4 : Nat) : Int × Int :=
  (half (tsDiff t4 t3 - tsDiff t2 t1), half (tsDiff t2 t1 + tsDiff t4 t3))

/-- A signed value saturated to `w` bits. -/
def satInt (w : Nat) (z : Int) : Int := max (-(2 ^ (w - 1) : Nat)) (min ((2 ^ (w - 1) : Nat) - 1) z)

/-- The beat counter moves by whole beats, and every tile stamp with it (R422). -/
def State.stepBeats (s : State) (d : Int) : State :=
  let b := (((s.beat : Int) + d) % ((2 ^ 64 : Nat) : Int)).toNat
  let s1 := { s with beat := b }
  if d = 0 then s1
  else dialTiles.foldl (fun t k => t.setStamp k ((((t.stamp k : Nat) : Int) + d) % ((2 ^ 48 : Nat) : Int)).toNat) s1

/-- Beats in which a failed exchange is repeated (R421). -/
def retryBeats : Nat := 4000

/-- An exchange has failed (R421, R416): three in a row take another parent. -/
def State.exchangeFailed (s : State) : State :=
  let k := s.skz.fails + 1
  let s1 := { s with skz := { s.skz with t1 := none, fails := k, syncAt := s.beat + retryBeats } }
  if 3 ≤ k ∧ s.flag SKZ_STAT_JOINED ∧ s.modeCode ≠ mJoin then s1.reparent else s1

end Sys2Proof.Machine
end

