-- ==== Sys2Proof/Machine/WaitOps.lean ====
section
/-! DEFINITION. Waits of an escapement (R76, R102 to R107, R115, R116): what happens when a drain ends, barriers (R149 to
R154), and the end of a FLOAT (R297). -/
namespace Sys2Proof.Machine

/-! ### Barriers -/

/-- A barrier: device scope 0 to 15, fabric scope 16 to 31. -/
def State.bar (s : State) (k : Nat) : BarSt := Sparse.get {} s.bars k

/-- A barrier replaced. -/
def State.setBar (s : State) (k : Nat) (b : BarSt) : State := { s with bars := Sparse.put {} s.bars k b }

/-- The local members of a barrier (R149). -/
def State.barMembers (s : State) (k : Nat) : Nat :=
  if k < 16 then s.get (ESC_DGRP_MEMBERS k) else s.get (ESC_FGRP_MEMBERS (k - 16))

/-- Every member of the open instance has arrived (R150, R151). -/
def State.barFull (s : State) (k : Nat) : Bool := (s.bar k).full

/-- Escapement `n` arrives (R149), the first arrival opens the instance with the members listed then (R180); the last local arrival of a fabric barrier reports the ready beat (R151). -/
def State.arrive (s : State) (n k lead : Nat) : State :=
  let b := s.bar k
  let s1 := s.setBar k { b with
    members := if b.arrived.isEmpty then s.barMembers k else b.members
    arrived := b.arrived.filter (fun e => e.1 != n) ++ [(n, s.beat, lead)] }
  if 16 ≤ k && s1.barFull k && b.reported.isNone then
    let b1 := s1.bar k
    (s1.setBar k { b1 with reported := some s.beat }).skReport 1 (k - 16) b1.ready
  else s1

/-- The members that have arrived resume issue, and the instance closes (R150, R151). -/
def State.barRelease (s : State) (k : Nat) : State :=
  let b := s.bar k
  b.arrived.foldl (fun t e => t.endWait e.1) (s.setBar k { b with arrived := [], reported := none })

/-- Every arrived member raises SYNC, and the instance closes (R152, R153). -/
def State.barFail (s : State) (k : Nat) : State :=
  let b := s.bar k
  b.arrived.foldl (fun t e =>
    match (t.esc e.1).wait with
    | some w => t.trap e.1 exSync 0 w.pc 0 w.word
    | none => t) (s.setBar k { b with arrived := [], reported := none })

/-! ### The end of a drain -/

/-- Every segment has ended and the spot is at rest on the commanded end point (R76, R197). -/
def EscSt.drainedNow (e : EscSt) : Bool := e.queue.isEmpty && e.line == .idle

/-- A wait begins or ends here: its drain has ended (R76). -/
def State.drainDone (s : State) (n : Nat) : State :=
  match (s.esc n).wait with
  | none => s
  | some w =>
    let held := (s.breakStretch n).modEsc n (fun e => { e with prev := 0, wait := some { w with drained := true, since := s.beat } })
    match w.kind with
    | .waitt false k => if k = 0 then held.endWait n else held
    | .waitt true k =>
      if s.lbeat < k then held
      else if s.lbeat = k then held.endWait n
      else (held.set (ESC_SW_LATE n) 1).endWait n
    | .sync fab g lead => held.arrive n (if fab then 16 + g else g) lead
    | .await .. => held.awaitWake n
    | .claim .. =>
      if s.dry then ((held.set (ESC_SW_GR n) 1).set (ESC_SW_TO n) 0).endWait n
      else held
    | .float gd pool =>
      if s.dry then ((held.setG n gd 0).set (ESC_SW_EMP n) 1).endWait n
      else
        let weave := s.live (BRG_PCFG_KIND pool) == 1
        let side := if weave && !(s.live (BRG_PELIG_ELIG pool)).testBit n then 1 else 0
        held.modEsc n (fun e => { e with float := some { gd, pool, side } })
    | .halt _ => held
    | .trap code => held.trap n exTrap code w.pc 0 w.word

/-- A wait instruction issues (R76): STATE WAIT, the PC stays on it; the wait proper begins with the end of its drain, which
follows its issue beats even where nothing is left to drain (R78, R130). -/
def State.issueWait (s : State) (n pc w0 len : Nat) (k : WaitKind) : State :=
  ((s.setPc n pc).modEsc n (fun e => { e with wait := some { kind := k, pc, word := w0, len } })).setEscState n 4

/-- A FLOAT ends once its side is exhausted and every piece it drew is done (R297). -/
def State.floatCheck (s : State) (n : Nat) : State :=
  match (s.esc n).float with
  | none => s
  | some f =>
    if f.exhausted && f.open_.isEmpty && f.fetch.isNone && (s.esc n).drainedNow && s.escState n == 4 then
      (((s.modEsc n (fun e => { e with float := none })).setG n f.gd f.drawn).set (ESC_SW_EMP n) (b2n (f.drawn == 0))).endWait n
    else s

/-- A STORE exception is taken once the segments enqueued have run out (R162). -/
def State.storeCheck (s : State) (n : Nat) : State :=
  let e := s.esc n
  match e.storeTrap with
  | some m =>
    if e.drainedNow then (s.modEsc n (fun x => { x with storeTrap := none })).trap n exStore 0 m.pc m.addr m.word else s
  | none => s

end Sys2Proof.Machine
end

