-- ==== Sys2Proof/Machine/EscCmdOps.lean ====
section
/-! DEFINITION. A master's commands to escapements (R155 to R165), start commands (R144, R145), instruction fetch (R133 to
R136). -/
namespace Sys2Proof.Machine

/-- A command that R157 does not accept: CMDERR. -/
def State.cmdErr (s : State) (n : Nat) : State := s.set (ESC_STAT_CMDERR n) 1

/-- START, RESUME are accepted in these modes (R157). -/
def startMode (m : Nat) : Bool := m == mConfigure || m == mIdle || m == mTest || m == mExpose

/-- STEP is accepted in these modes (R157). -/
def stepMode (m : Nat) : Bool := m == mConfigure || m == mIdle || m == mTest || m == mHalted

/-- STOP (R157, R159). -/
def State.stopCmd (s : State) (n : Nat) : State :=
  if s.escState n = 0 then s.cmdErr n else (s.closeEvents n).stopEsc n

/-- START (R157, R68). A spot still moving first comes to rest, and pieces drawn become orphans. -/
def State.startCmd (s : State) (n : Nat) : State :=
  if !(stoppedCode (s.escState n) && startMode s.modeCode) then s.cmdErr n
  else ((((((s.closeEvents n).cutGate n).stopMotion n false).endStretch n).orphanAll n).flushBuf n).startEsc n

/-- The PC at which a RESUME or a STEP goes on (R161). -/
def State.resumePc (s : State) (n : Nat) : Nat :=
  let tpc := s.pair (ESC_TRAP_PC_LO_VALUE n) (ESC_TRAP_PC_HI_VALUE n)
  let cause := s.get (ESC_TRAP_CAUSE n)
  if s.escState n = 5 then s.pc n
  else if cause = exTrap then tpc + 8
  else if cause = 0x22 ∨ cause = exStore then s.pc n
  else tpc

/-- Issue goes on after a stop, behind a stretch that an underrun broke (R161, R77). -/
def State.reissue (s : State) (n : Nat) : State :=
  (((s.breakStretch n).setPc n (s.resumePc n)).modEsc n (fun e => { e with storeTrap := none, layerDone := false })).resumeIssue n

/-- RESUME (R157, R161). -/
def State.resumeCmd (s : State) (n : Nat) : State :=
  let st := s.escState n
  if !((st == 5 || st == 6) && startMode s.modeCode) then s.cmdErr n else s.reissue n

/-- STEP (R157, R164). -/
def State.stepCmd (s : State) (n : Nat) : State :=
  let st := s.escState n
  if !(stoppedCode st && stepMode s.modeCode) then s.cmdErr n
  else
    let s1 := if st = 0 then s.startEsc n
      else if st = 7 then ((s.setPc n (s.resumePc n)).modEsc n (fun e => { e.thaw s.beat with wait := none })).setEscState n 3
      else s.reissue n
    s1.modEsc n (fun e => { e with stepping := true })

/-- FLUSH (R157, R137). -/
def State.flushCmd (s : State) (n : Nat) : State := if stoppedCode (s.escState n) then s.flushBuf n else s.cmdErr n

/-- A command for every escapement of a mask (R158); one held in block reset takes none. -/
def State.forMask (s : State) (mask : Nat) (f : State → Nat → State) : State :=
  (List.range 24).foldl (fun t n => if mask.testBit n && !t.heldInReset n then f t n else t) s

/-- One write of ESC_CMD: only the first of STOP, START, RESUME, STEP, FLUSH acts (R158, R168). -/
def State.escCmd (s : State) (n v : Nat) : State :=
  if bit v 1 then s.stopCmd n
  else if bit v 0 then s.startCmd n
  else if bit v 3 then s.resumeCmd n
  else if bit v 2 then s.stepCmd n
  else if bit v 4 then s.flushCmd n
  else s

/-- A write of ESC_CTL (R165, R291, R298): ENABLE changes only in a stopped state; cleared in TRAPPED, zones are released and
drawn pieces become orphans. -/
def State.enableWrite (s : State) (n v : Nat) : State :=
  let s1 := s.set (ESC_CTL_PFDEPTH n) (bits v 15 8)
  let was := s.flag (ESC_CTL_ENABLE n)
  if was == bit v 0 then s1
  else if !stoppedCode (s.escState n) then s1.cmdErr n
  else
    let s2 := s1.set (ESC_CTL_ENABLE n) (b2n (bit v 0))
    if was && s.escState n == 6 then (s2.orphanAll n).releaseZones n else s2

/-- Bits set in the escapements of ESC_EVMASK (R156). -/
def State.evFire (s : State) (v : Nat) : State := s.forMask (s.get ESC_EVMASK_MASK) (fun t n => t.setEvents n v)

/-- A start command waits for its release beat (R144, R145). -/
def State.startEnter (p : State × Nat) : State := { p.1 with starts := p.1.starts ++ [p.2] }
/-- A start command by register (R144, R145): the release beat, or GOERR outside Armed. -/
def State.startCommand (s : State) : State :=
  if s.modeCode ≠ mArmed then s.set ESC_GSTAT_GOERR 1
  else State.startEnter (s.startDue (s.pair ESC_GOSTAMP_LO_STAMP ESC_GOSTAMP_HI_STAMP))

/-! ### Barriers -/

/-- Beats of a microsecond field. -/
def usBeats (us : Nat) : Nat := us * beatsPerUs

/-- A device-scope barrier releases (R150). -/
def State.devRelease (s : State) (g : Nat) : State :=
  if s.barFull g && decide ((s.bar g).ready ≤ s.beat) then s.barRelease g else s

/-- A device-scope barrier times out (R152): DEV_TO runs from the earliest arrival that has not been withdrawn (log entry 135). -/
def State.devTimeout (s : State) (g : Nat) : State :=
  let lim := s.get ESC_SYNCTO_DEV_TO
  let a := (s.bar g).arrived
  match a.map (fun e => e.2.1) with
  | [] => s
  | b :: t => if lim ≠ 0 ∧ t.foldl min b + usBeats lim ≤ s.beat then s.barFail g else s

/-- The timekeeper decides a fabric barrier (R151): every device listed when the first report came (R180) has reported. -/
def State.fabDecision (s : State) (g : Nat) : State :=
  let b := s.bar (16 + g)
  let dev := b.devices
  let all := (List.range 16).all (fun d => !dev.testBit d || b.reports.any (fun r => r.1 == d))
  if s.flag SKZ_STAT_TK && !b.reports.isEmpty && all then
    let ready := b.reports.foldl (fun t r => max t r.2) 0
    (s.setBar (16 + g) { b with reports := [] }).skBroadcast 8 g (max ready (s.beat + s.get ESC_FLEAD_LEAD))
  else s

/-- A fabric barrier times out at the timekeeper (R153). -/
def State.fabTimeout (s : State) (g : Nat) : State :=
  let b := s.bar (16 + g)
  let lim := s.get ESC_SYNCTO_FAB_TO
  if s.flag SKZ_STAT_TK && !b.reports.isEmpty && lim != 0 && decide (b.firstReport + usBeats lim ≤ s.beat) then
    (s.setBar (16 + g) { b with reports := [] }).skBroadcast 9 g (s.beat + s.get ESC_FLEAD_LEAD)
  else s

/-- A release or an abort of fabric group `g` has been received and waits for its stamp. -/
def State.fabTold (s : State) (g : Nat) : Bool := s.skz.sched.any (fun c => (c.cmd == 8 || c.cmd == 9) && c.carg % 16 == g)

/-- Neither release nor abort has come (R153). -/
def State.fabLocalTimeout (s : State) (g : Nat) : State :=
  let lim := s.get ESC_SYNCTO_FAB_TO
  match (s.bar (16 + g)).reported with
  | some r => if lim ≠ 0 ∧ r + usBeats (lim + 10) ≤ s.beat ∧ !s.fabTold g then s.barFail (16 + g) else s
  | none => s

/-! ### Fetch -/

/-- Lines the prefetch asks for (R167). -/
def State.pfDepth (s : State) (n : Nat) : Nat := let d := s.get (ESC_CTL_PFDEPTH n); if d = 0 ∨ 64 < d then 64 else d

/-- The address of the first line from the start address that the buffer does not hold sound, with the lines before it. -/
def firstMissing (buf : List FetchLine) (a : Nat) : Nat → Nat → Nat × Nat
  | 0, k => (a, k)
  | fuel + 1, k => if buf.any (fun l => l.addr == a && !l.poisoned) then firstMissing buf ((a + 64) % 2 ^ 40) fuel (k + 1) else (a, k)

/-- The lines of the prefetch held so far. -/
def State.prefetched (s : State) (n : Nat) : Nat × Nat := firstMissing (s.esc n).buf (s.pcStart n / 64 * 64) 64 0

/-- The eight words of a line. -/
def State.lineWords (s : State) (a : Nat) : List Nat := (List.range 8).map (fun i => s.load (a + 8 * i) 8)

/-- A line of instructions returns (R133 to R136). -/
def State.fetchLine (s : State) (n a : Nat) (ecc : Ecc) : State :=
  let la := a / 64 * 64
  let e := s.esc n
  let st := s.escState n
  let wanted := if st = 1 then (s.prefetched n).1 == la && decide ((s.prefetched n).2 < s.pfDepth n)
    else st == 2 || st == 3 || st == 4
  if !wanted || s.heldInReset n || e.buf.any (fun l => l.addr == la) then s
  else
    let rg := s.region la
    let mem := rg == .progMem || rg == .dram
    let bad := !mem || s.eccBad la ecc
    let q := { s with req := some (0x10 + n) }
    let s1 := if mem then q.eccEvent la ecc else q
    let l : FetchLine := ⟨la, bad, if bad then [] else s1.lineWords la⟩
    let buf := e.buf ++ [l]
    let buf := if 64 < buf.length then buf.drop (buf.length - 64) else buf
    let s2 := (s1.modEsc n (fun x => { x with buf := buf, lineAt := s.beat })).set (ESC_STAT_BUFVALID n) 1
    if bad then s2.dueTrap n else s2

/-- The prefetch has come to a poisoned line, where it stops (R136). -/
def State.prefetchStopped (s : State) (n : Nat) : Bool :=
  (s.esc n).buf.any (fun l => l.addr == (s.prefetched n).1 && l.poisoned)

/-- The prefetch is complete (R134, R136): READY on the first beat after its last line has come. -/
def State.prefetchDone (s : State) (n : Nat) : State :=
  if s.escState n = 1 ∧ (s.esc n).lineAt < s.beat ∧ (s.prefetchStopped n ∨ s.pfDepth n ≤ (s.prefetched n).2) then s.setEscState n 2
  else s

end Sys2Proof.Machine
end

