-- ==== Sys2Proof/Machine/DialCmdOps.lean ====
section
/-! DEFINITION. The dial's commands, commits, sweep, forwarding and peers (R253 to R272, R429). -/
namespace Sys2Proof.Machine

/-- Peer entry `k` is enabled and does not name the device itself (R274). -/
def State.peerOn (s : State) (k : Nat) : Bool := s.liveFlag (DIAL_PEER_EN k) && s.live (DIAL_PEER_DEV k) != s.skAddr

/-- The peers, by entry, that a local deposit goes to (R268): in use, not left out (R270), touched by its kernel. -/
def State.fwdPeers (s : State) (d : Deposit) : List Nat :=
  (List.range 8).filter (fun k =>
    s.peerOn k && !s.dial.excluded.testBit k &&
    (List.range 25).any (fun kk =>
      s.live (DIAL_KERN_W kk) != 0 &&
      inDial (d.ix + (kk % 5 : Nat) - 2 - sgn 16 (s.live (DIAL_POFS_DX k))) &&
      inDial (d.iy + (kk / 5 : Nat) - 2 - sgn 16 (s.live (DIAL_POFS_DY k)))))

/-- A record enters the send queue of 256, or is discarded with FWDOVF (R269). -/
def State.fwdQueue (s : State) (k : Nat) (d : Deposit) : State :=
  let d1 : Deposit := { d with
    dev := s.skAddr
    ix := d.ix - sgn 16 (s.live (DIAL_POFS_DX k)), iy := d.iy - sgn 16 (s.live (DIAL_POFS_DY k)) }
  if s.dial.send.length < 256 then { s with dial := { s.dial with send := s.dial.send ++ [(k, s.beat, d1)] } }
  else (s.set DIAL_STAT_FWDOVF 1).fwdDrop

/-- A local deposit commits and is forwarded (R253, R268). -/
def State.commitLocal (s : State) (d : Deposit) : State :=
  if s.dialDeaf then s.loseDeposit
  else
    let t := s.commitDeposit d false
    if t.liveFlag DIAL_CTL_FWDEN then (t.fwdPeers d).foldl (fun u k => u.fwdQueue k d) t else t

/-- The commit beat of a forwarded record that arrived at `a` (R269). -/
def fwdDue (a : Nat) : Nat := (a + 199) / 200 * 200 + 120

/-- A forwarded record commits, or is discarded as late (R269); a DIAL_FWDMAX of 0 acts as 1 (R274). -/
def State.commitForwarded (s : State) (d : Deposit) : State :=
  if s.dialDeaf then s.loseDeposit
  else if (max 1 (s.live DIAL_FWDMAX_MAX) * beatsPerUs : Nat) < (ageOf s.beat48 d.beat).toNat then (s.set DIAL_STAT_FWDLATE 1).fwdDrop
  else (s.commitDeposit d true).incWrap DIAL_FWDRX_COUNT

/-- Deposits in ascending laser number (R253). -/
def insertDeposit (d : Deposit) : List Deposit → List Deposit
  | [] => [d]
  | e :: t => if d.laser < e.laser then d :: e :: t else e :: insertDeposit d t

/-- The sweep runs: in Run and in Poise (R257), not while the dial is deaf. -/
def State.sweepRuns (s : State) : Bool :=
  !s.dialDeaf && !(s.modeCode == mLowPower && decide (2 ≤ s.get SYS_MODE_STAT_LPSTATE))

/-- The tile whose slot this beat lies in is served (R257, R263, R272). -/
def State.sweepServe (s0 : State) (ecc : Ecc) : State :=
  let tile := s0.beat / 32 % 4096
  let r := s0.beat / 32 * 32
  let s := { s0 with dial := { s0.dial with swept := s0.beat / 32 + 1, sweptHit := false } }
  if tile = 0 ∧ s.dial.passAt + 2 ^ 46 < s.beat then s.dialClearStart
  else
    let fin (t : State) : State := if tile = 4095 then { t with dial := { t.dial with passAt := r } } else t
    match s.tau with
    | none => fin s
    | some tau =>
      if (tau : Rat) / 16 ≤ (ageOf (r % 2 ^ 48) (s.stamp tile) : Rat) then
        let t := ({ s with dial := { s.dial with sweptHit := true } }).dialEcc ecc
        if ecc = .uncorrectable then t else fin (t.rebaseTile tile r)
      else fin s

/-- A tile's sweep slot comes. Where a commit of the slot has had it served already, only what its check bits lead to is left. -/
def State.sweepSlot (s : State) (tile : Nat) (ecc : Ecc) : State :=
  if (s.beat / 32) % 4096 ≠ tile ∨ !s.sweepRuns then s
  else if s.dial.swept = s.beat / 32 + 1 then (if s.dial.sweptHit then s.dialEcc ecc else s)
  else s.sweepServe ecc

/-- A sweep slot that has begun is served before what follows on its beats (R257, R258). -/
def State.sweepDue (s : State) : State :=
  if s.sweepRuns && decide (s.dial.swept ≠ s.beat / 32 + 1) then s.sweepServe .clean else s

/-- DIAL_CMD.CLEAR (R262). -/
def State.clearCmd (s : State) : State :=
  if dialCmdMode s.modeCode && s.dial.clear.isNone && s.dial.rebase.isNone then s.dialClearStart else s.set DIAL_STAT_CMDERR 1

/-- DIAL_CMD.REBASE (R262): to the beat 32,768 beats ahead. -/
def State.rebaseCmd (s : State) : State :=
  if dialCmdMode s.modeCode && s.dial.clear.isNone && s.dial.rebase.isNone then
    ({ s with dial := { s.dial with rebase := some (s.beat + 32768) } }).set DIAL_STAT_REBASING 1
  else s.set DIAL_STAT_CMDERR 1

/-- The rebase completes on its beat (R262). Where it meets a double-bit error it ends there and leaves every tile as it was, which
reads the same (R272; log entry 124). -/
def State.rebaseDone (s : State) (ecc : Ecc) : State :=
  match s.dial.rebase with
  | some tc =>
    if s.beat < tc then s
    else if ecc = .uncorrectable then
      (({ s with dial := { s.dial with rebase := none } }).set DIAL_STAT_REBASING 0).dialEcc ecc
    else
      let old := dialTiles.map (fun t => (t, s.stamp t))
      let s1 := dialTiles.foldl (fun u t => u.rebaseTile t tc) (s.dialEcc ecc)
      ({ s1 with dial := { s1.dial with rebase := none, old := some (tc, old) } }).set DIAL_STAT_REBASING 0
  | none => s

/-- Forwarded records that may still commit in this tick's slot: 48 less those that did (R261, R269). -/
def State.fwdRoom (s : State) : Nat := 48 - (if s.dial.slot = (s.beat + 80) / 200 then s.dial.slotUsed else 0)

/-- What the rules put before a commit of this beat: the rebases that have fallen due (R258); queries of this beat go on seeing
what the cells hold now (R259). -/
def State.commitBegin (s : State) : State :=
  let t := (s.rebaseDone .clean).sweepDue
  if t.dial.freshAt = t.beat then t else { t with dial := { t.dial with freshAt := t.beat, fresh := [] } }

/-- What is due on this beat commits (R253, R269); a double-bit error stops the dial first (R272). -/
def State.depositCommit (s : State) (ecc : Ecc) : State :=
  let due := s.dial.waiting.filter (fun d => decide (d.beat + 120 ≤ s.beat))
  let rest := s.dial.waiting.filter (fun d => !decide (d.beat + 120 ≤ s.beat))
  let rdue := (s.dial.recv.filter (fun e => decide (fwdDue e.1 ≤ s.beat))).take s.fwdRoom
  let rrest := s.dial.recv.drop rdue.length
  if due.isEmpty && rdue.isEmpty then s
  else
    let used := 48 - s.fwdRoom + rdue.length
    let s0 := ({ s with dial := { s.dial with
      waiting := rest, recv := rrest, slot := (s.beat + 80) / 200, slotUsed := used } }).commitBegin
    let s1 := if s0.dialDeaf then s0 else s0.dialEcc ecc
    let s2 := (due.foldr insertDeposit []).foldl State.commitLocal s1
    rdue.foldl (fun t e => t.commitForwarded e.2) s2

/-- θ of the peek cell at this beat (R260), shown in DIAL_PEEK_VAL; with what the check bits of its word lead to. -/
def State.peekDial (s : State) (ecc : Ecc) : State :=
  let x : Int := 4000 * (s.get DIAL_PEEK_CELL_IX : Int) - 8192000
  let y : Int := 4000 * (s.get DIAL_PEEK_CELL_IY : Int) - 8192000
  let (q, u) := s.dialRead x y s.beat ecc
  (u.set DIAL_PEEK_VAL_THETA q.1).draw

/-- A forwarded record as its flit carries it (R268). -/
def Deposit.words (d : Deposit) : List Nat :=
  [d.beat % 2 ^ 32, d.beat / 2 ^ 32 % 2 ^ 16 + d.laser * 2 ^ 16 + d.dev * 2 ^ 24, enc 16 d.ix + enc 16 d.iy * 2 ^ 16, d.amp]

/-- A DDEP flit for peer entry `k` leaves when three records wait or the first has waited 20 beats, and class 2 has a
credit on the way (R429); the records wait while no way is up (R269). -/
def State.ddepFlush (s : State) (k : Nat) : State :=
  let mine := s.dial.send.filter (fun e => e.1 == k)
  match mine with
  | [] => s
  | (_, b, _) :: _ =>
    if mine.length < 3 ∧ s.beat < b + 20 then s
    else
      let dst := s.live (DIAL_PEER_DEV k)
      let recs := mine.take 3
      let gone : State := { s with dial := { s.dial with send := (recs.foldl (fun l r => l.erase r) s.dial.send) } }
      let flit := gone.skUnicast 2 0x40 dst 0 recs.length (recs.flatMap (fun r => r.2.2.words))
      match s.upPort (s.get (SKZ_ROUTE_MASK dst)) with
      | some p => if nth0 (s.skp p).credit 2 = 0 then s else flit.set DIAL_FWDTX_COUNT (s.get DIAL_FWDTX_COUNT + recs.length)
      | none => s

/-- A record of a DDEP flit enters the receive queue of 256 (R269). -/
def State.ddepRecord (s : State) (r : DepRec) : State :=
  let w1 := r.w1.toNat
  let d : Deposit :=
    { beat := r.w0.toNat + bits w1 15 0 * 2 ^ 32, laser := bits w1 20 16, dev := bits w1 27 24
      ix := sgn 16 (bits r.w2.toNat 15 0), iy := sgn 16 (bits r.w2.toNat 31 16), amp := r.w3.toNat }
  if s.heldInReset 129 then s
  else if s.dial.recv.length < 256 then { s with dial := { s.dial with recv := s.dial.recv ++ [(s.beat, d)] } }
  else (s.set DIAL_STAT_FWDOVF 1).fwdDrop

/-- The two reads of a peer's origin leave through the fabric window (R30, R270), under no master of R17 (log entry 125). -/
def State.peerRead (s : State) (k : Nat) : State :=
  let win := 0x3000000000 + s.live (DIAL_PEER_DEV k) * 2 ^ 32 + 0xC0400008
  if !s.skLive || !s.slotAssigned win then s
  else [win, win + 4].foldl (fun t a => (t.remoteStart 0x28 a false 4 []).remoteOwn 6) s

/-- On entry into Armed the origins of the peers in use are read (R270). -/
def State.peerCheckStart (s : State) : State :=
  let on := (List.range 8).filter s.peerOn
  on.foldl State.peerRead { s with dial := { s.dial with checking := on.foldl (fun m k => m + 2 ^ k) 0, excluded := 0 } }

/-- The answer of a peer (R270): the peer's origin is this device's plus 4,000 × (DX, DY). -/
def State.peerResult (s : State) (k : Nat) (o : Option Origin) : State :=
  if !s.dial.checking.testBit k then s
  else
    let s1 := { s with dial := { s.dial with checking := putBit s.dial.checking k false } }
    let ok := match o with
      | some a =>
        decide ((sgn 32 a.x.toNat) = sgn 32 (s.get DIAL_ORG_X_ORG) + 4000 * sgn 16 (s.live (DIAL_POFS_DX k))) &&
        decide ((sgn 32 a.y.toNat) = sgn 32 (s.get DIAL_ORG_Y_ORG) + 4000 * sgn 16 (s.live (DIAL_POFS_DY k)))
      | none => false
    if ok then s1
    else (({ s1 with dial := { s1.dial with excluded := putBit s1.dial.excluded k true } }).set DIAL_STAT_PEERERR 1).pulse 0x012

end Sys2Proof.Machine
end

