-- ==== Sys2Proof/Machine/BridgeCmdOps.lean ====
section
/-! DEFINITION. The bridge's releases and draws (R283), pool records (R293 to R303) and its block reset. -/
namespace Sys2Proof.Machine

/-- The round-robin order after the pointer (R283). -/
def rrOrder (ptr : Nat) : List Nat := (List.range 24).map (fun k => (ptr + 1 + k) % 24)

/-- Segments of the queue that have not started. -/
def EscSt.waitingSegs (e : EscSt) : List Seg := match e.line with | .seg _ => e.queue.tail | _ => e.queue

/-- Reservations whose linger has passed end (R308); outside Expose they stay frozen (R281). -/
def State.expireResv (s : State) (n : Nat) : State :=
  if s.modeCode ≠ mExpose then s
  else
  let e := s.esc n
  let e1 := { e with linger := e.linger.filter (fun x => decide (s.beat < x.2)) }
  match e.resvEnd with
  | some b => if b ≤ s.beat then s.setEsc n { e1 with resv := none, resvEnd := none } else s.setEsc n e1
  | none => s.setEsc n e1

/-- Phase 1 of R283: YIELDs whose segments have ended, and lingers that end. -/
def State.bridgeReleases (s : State) : State :=
  let s0 := (List.range 24).foldl (fun t n => if t.escState n = 3 then t else t.breakStretch n) s
  let s1 := s0.yieldDue.foldl (fun t y => if t.zoneOwner y.2 = some y.1 then t.releaseZone y.2 else t) { s0 with yieldDue := [] }
  (List.range 24).foldl State.expireResv s1

/-- A CLAIM in its wait proper: its zone, and whether it waits. -/
def State.claimOf (s : State) (n : Nat) : Option (Nat × Bool) :=
  match (s.esc n).wait with
  | some w => match w.kind with
    | .claim wt z _ => if w.drained && s.escState n == 4 then some (z, wt) else none
    | _ => none
  | none => none

/-- A CLAIM that has arrived joins its zone's list (R289). -/
def State.claimJoin (s : State) (n : Nat) : State :=
  match s.claimOf n with
  | some (z, _) => if (s.zoneQueue z).contains n then s else s.setZoneQueue z (s.zoneQueue z ++ [n])
  | none => s

/-- The oldest CLAIM of an unowned zone is granted (R289). -/
def State.claimGrant (s : State) (n : Nat) : State :=
  match s.claimOf n with
  | some (z, _) => match s.zoneOwner z, s.zoneQueue z with
    | none, m :: t => if m = n then (s.setZoneQueue z t).grantZone z n else s
    | _, _ => s
  | none => s

/-- A CLAIM of a zone that is owned: granted to its owner, refused where WAIT is clear (R289). -/
def State.claimRefuse (s : State) (n : Nat) : State :=
  match s.claimOf n with
  | some (z, wt) => match s.zoneOwner z with
    | none => s
    | some o =>
      if o = n ∨ !wt then (((s.leaveClaims n).set (ESC_SW_GR n) (b2n (o == n))).set (ESC_SW_TO n) 0).endWait n else s
  | none => s

/-- Phase 2 of R283: CLAIMs, in the order of the pointer. -/
def State.bridgeGrants (s : State) (order : List Nat) : State :=
  order.foldl State.claimRefuse (order.foldl State.claimGrant (order.foldl State.claimJoin s))

/-- The next piece's record index of a side (R294), none once the side is exhausted. -/
def State.nextPiece (s : State) (pool side : Nat) : Option Nat :=
  let count := s.live (BRG_PCFG_COUNT pool)
  let cur := s.get (if side = 0 then BRG_PCUR_CUR0 pool else BRG_PCUR_CUR1 pool)
  if cur < count then
    some (if side = 1 ∧ s.live (BRG_PCFG_S1REV pool) = 1 then count - 1 - cur else cur)
  else none

/-- Phase 3: escapement `n` draws its next piece (R295). -/
def State.bridgeDraw (s : State) (n : Nat) : State :=
  let e := s.esc n
  match e.float with
  | none => s
  | some f =>
    if f.exhausted || f.fetch.isSome || s.escState n != 4 || e.waitingSegs.any (fun g => g.piece.isSome) then s
    else
      match s.nextPiece f.pool f.side with
      | none => (s.setEsc n { e with float := some { f with exhausted := true } }).floatCheck n
      | some i =>
        let c := if f.side = 0 then BRG_PCUR_CUR0 f.pool else BRG_PCUR_CUR1 f.pool
        ((s.setEsc n { e with float := some { f with drawn := f.drawn + 1, open_ := f.open_ ++ [i], fetch := some (i, s.beat) } }).set c
          (s.get c + 1)).set BRG_RRPTR_PTR n

/-- A hold has lasted HOLDTO (R286): it lasts to 16 beats after its evaluation has passed. -/
def State.holdTimeout (s : State) (n : Nat) : State :=
  let e := s.esc n
  let t := s.live BRG_HOLDTO_HOLDTO
  match e.hold with
  | some h =>
    let lasts : Bool := match h.g with | some g => decide (h.h + t * beatsPerUs ≤ g + 16) | none => true
    if lasts ∧ !h.timedOut ∧ t ≠ 0 ∧ h.h + t * beatsPerUs ≤ s.beat ∧ s.modeCode = mExpose then
      ((s.setEsc n { e with hold := some { h with timedOut := true } }).set BRG_STAT_HOLDTO 1).pulse 0x014
    else s
  | none => s

/-! ### Pool records -/

/-- R302's offset of a line. -/
def weaveOffset (seed line w : Nat) : Int :=
  let m := 2 ^ 32
  let x0 := seed ^^^ (line * 0x9E3779B9 % m)
  let x1 := x0 ^^^ (x0 * 2 ^ 13 % m)
  let x2 := x1 ^^^ (x1 / 2 ^ 17)
  let x3 := x2 ^^^ (x2 * 2 ^ 5 % m)
  (((x3 / 2 ^ 16 : Nat) : Int) - 32768) * w / 32768

/-- A coordinate at distance `d` of a line of length `len`, in binary64, to the nearest step (R303). -/
def alongLine (a b : Int) (d len : Rat) : Int :=
  if d = 0 then a else if d = len then b
  else roundAway (round53 ((a : Rat) + round53 (round53 (((b - a : Int) : Rat) * d) / len)))

/-- The piece of a side of a weave record (R303): from and to distances in steps. -/
def weavePiece (side : Nat) (split o : Int) (v : Nat) (len : Rat) : Rat × Rat :=
  let a : Int := split + o - (v / 2 : Nat)
  let c : Int := a + v
  if side = 0 then (0, minQ (c : Rat) len) else (maxQ (a : Rat) 0, len)

/-- A pool record's words break R293. -/
def recordBad (w : List Nat) (weave : Bool) : Bool :=
  let g (i : Nat) := nth0 w i
  dirty (g 0) 31 24 || dirty (g 1) 31 24 || dirty (g 2) 31 24 || dirty (g 3) 31 24 || dirty (g 5) 31 19 || dirty (g 6) 31 24 ||
  dirty (g 7) 31 24 || (!bit (g 5) 16 && dirty (g 5) 15 0) || (!bit (g 5) 17 && dirty (g 6) 23 0) ||
  (bit (g 5) 17 && !dirty (g 6) 23 0) || (!weave && dirty (g 7) 23 0)

/-- The piece fetched is over without a MARK: done, or an orphan after a record error (R296, R298). -/
def State.pieceOver (s : State) (n i : Nat) : State :=
  (s.modEsc n (fun e => { e with float := e.float.map (fun f => { f with fetch := none, open_ := f.open_.erase i }) })).floatCheck n

/-- The timeline has stood still for a late record up to beat `start` (R285, R301; log entry 142): a hold from the beat on which it was
free and the record of program memory would have been enqueued. -/
def State.lateRecord (s : State) (n start : Nat) : State :=
  let e := s.esc n
  match e.float.bind FloatSt.fetch with
  | some (_, drawn) =>
    let d := start - max (max e.idleAt (drawn + 16)) (e.restart.getD 0)
    if e.queue.isEmpty ∧ 0 < d then (s.addSat (BRG_HOLD_VALUE n) d).incSat BRG_LATECNT_COUNT else s
  | none => s

/-- The piece enters the queue as a JUMP and a MARK (R296). -/
def State.enqueuePiece (s0 : State) (n pool side i : Nat) (x0 y0 x1 y1 : Int) (tag : Nat) (pw sp : Option Nat) : State :=
  let e := s0.esc n
  let start := max (e.restart.getD 0) (s0.beat + 8)
  let s := s0.lateRecord n start
  let (px, py, pz) := s.pxyz n
  let set := e.set.taken
  let mk (k : SegKind) (ax ay bx by_ : Int) (st : Settings) : Seg :=
    { kind := k, x0 := ax, y0 := ay, z0 := pz, x1 := bx, y1 := by_, z1 := pz, set := st, enq := s.beat }
  let jump := if decide (px = x0) && decide (py = y0) then [] else [mk .jump px py x0 y0 e.set]
  let mark := { mk .mark x0 y0 x1 y1 (if jump.isEmpty then e.set else set) with
    tag := tag, pw := pw, speed := sp, piece := some (pool, side, i) }
  let e1 := { e with
    set := set, fresh := false, lastP2 := none, tagLast := tag
    restart := if e.queue.isEmpty then some start else e.restart
    float := e.float.map (fun f => { f with fetch := none }) }
  ((s.setEsc n e1).setQueue n (e.queue ++ jump ++ [mark])).setPxyz n x1 y1 pz

/-- The piece of a record that reads well: cut to the range of its side, in its direction (R296, R303). -/
def State.recordPiece (s1 : State) (n : Nat) (f : FloatSt) (i : Nat) (w : List Nat) (weave : Bool) : State :=
  let c (k : Nat) : Int := sgn 24 (nth0 w k)
  let len := round53 (sqrtQ (((c 2 - c 0) * (c 2 - c 0) + (c 3 - c 1) * (c 3 - c 1) : Int) : Rat))
  let (from_, to_) := if weave then
      weavePiece f.side (nth0 w 7 : Int)
        (weaveOffset s1.seed ((s1.live (BRG_PLINE0_LINE0 f.pool) + i) % 2 ^ 32) (s1.live (BRG_PWEAVE_WAMP f.pool)))
        (s1.live (BRG_PWEAVE_OVL f.pool)) len
    else (0, len)
  let ax := alongLine (c 0) (c 2) from_ len
  let ay := alongLine (c 1) (c 3) from_ len
  let bx := alongLine (c 0) (c 2) to_ len
  let by_ := alongLine (c 1) (c 3) to_ len
  if to_ ≤ from_ ∨ (ax = bx ∧ ay = by_) then s1.pieceOver n i
  else
    let rev := bit (nth0 w 5) 18
    let (x0, y0, x1, y1) := if rev then (bx, by_, ax, ay) else (ax, ay, bx, by_)
    s1.enqueuePiece n f.pool f.side i x0 y0 x1 y1 (nth0 w 4) (if bit (nth0 w 5) 16 then some (bits (nth0 w 5) 15 0) else none)
      (if bit (nth0 w 5) 17 then some (nth0 w 6) else none)

/-- A record read: a bad one is an orphan (R301), another makes its piece. -/
def State.recordUse (s1 : State) (n : Nat) (f : FloatSt) (i : Nat) (w : List Nat) (weave bad : Bool) : State :=
  if bad || recordBad w weave then ((s1.set BRG_STAT_RECERR 1).orphan f.pool f.side i).pieceOver n i
  else s1.recordPiece n f i w weave

/-- The record of the piece drawn arrives (R293, R296, R301, R303). -/
def State.recordArrive (s : State) (n : Nat) (ecc : Ecc) : State :=
  match (s.esc n).float with
  | none => s
  | some f =>
    match f.fetch with
    | none => s
    | some (i, _) =>
      let a := s.pair (BRG_PBASE_LO_ADDR f.pool).copy (BRG_PBASE_HI_ADDR f.pool).copy + 32 * i
      let rg := s.region a
      let mem := rg == .progMem || rg == .dram
      let weave := s.live (BRG_PCFG_KIND f.pool) == 1
      let s1 := if mem then s.eccEvent a ecc else s
      let w := (List.range 8).map (fun k => s1.load (a + 4 * k) 4)
      s1.recordUse n f i w weave (!mem || s.eccBad a ecc)

/-! ### Modes and reset -/

/-- Every zone and reservation released (R281). -/
def State.bridgeClear (s : State) : State :=
  let s1 := s.releaseEveryZone
  { s1 with yieldDue := [], escs := s1.escs.map (fun e => (e.1, { e.2 with resv := none, resvEnd := none, linger := [], hold := none })) }

/-- Entry into Armed (R292, R294, R302): counts to 0, heads named in both sides, the seed in force. -/
def State.bridgeArm (s : State) : State :=
  let s1 := (List.range 64).foldl (fun t k => (t.set (BRG_PCUR_CUR0 k) 0).set (BRG_PCUR_CUR1 k) 0) s
  let both := (List.range 64).any (fun k =>
    s1.liveFlag (BRG_PCFG_EN k) && s1.liveFlag (BRG_PCFG_KIND k) &&
    (s1.live (BRG_PELIG_ELIG k) &&& s1.live (BRG_PSIDE1_SIDE1 k)) != 0)
  let s2 := if both then s1.set BRG_STAT_CFGERR 1 else s1
  { s2 with seed := s2.live BRG_SEED_SEED }

/-- Entry into Recoat (R299): pools with pieces left. A weave pool has two counts. -/
def State.undrawnCheck (s : State) : State :=
  let left := (List.range 64).any (fun k =>
    s.liveFlag (BRG_PCFG_EN k) &&
    (decide (s.get (BRG_PCUR_CUR0 k) < s.live (BRG_PCFG_COUNT k)) ||
      (s.liveFlag (BRG_PCFG_KIND k) && decide (s.get (BRG_PCUR_CUR1 k) < s.live (BRG_PCFG_COUNT k)))))
  if left then (s.set BRG_STAT_UNDRAWN 1).pulse 0x016 else s

/-- An address is an RWS register of the bridge (R313). -/
def inBrgRws (a : Nat) : Bool := decide (0x2000300000 ≤ a) && decide (a < 0x2000304000)

/-- The boundary of the bridge (R313): any beat outside Armed and Expose. -/
def State.brgCommit (s : State) : State :=
  if s.flag BRG_STAT_SHPEND && !(s.modeCode == mArmed || s.modeCode == mExpose) then
    (s.commitShadow 0x8000 inBrgRws).set BRG_STAT_SHPEND 0
  else s

/-- A block reset of the bridge (R312): holds end, zones and reservations are released, pieces not done become orphans, then
the registers. -/
def State.resetBridge (s : State) : State :=
  let s1 := (List.range 64).foldl (fun t z => if (t.zoneOwner z).isSome then t.releaseZone z else t) s
  let s2 := (List.range 24).foldl (fun t n =>
    match (t.esc n).float with
    | some f => (f.open_.foldl (fun u i => u.orphan f.pool f.side i) t).modEsc n (fun e =>
        { e with float := some { f with open_ := [], fetch := none } })
    | none => t) s1.bridgeClear
  s2.resetRegs 0 (fun a => decide (0x2000300000 ≤ a) && decide (a < 0x2000400000))

end Sys2Proof.Machine
end

