-- ==== Sys2Proof/Machine/BalOps.lean ====
section
/-! DEFINITION. The balance engine (R319 to R352): rates, FP32 of the lanes, programs, references and moves, injection,
capture, the dispatch and the release of a head's jobs. -/
namespace Sys2Proof.Machine

/-- A servo axis beside its registers. -/
def State.ax (s : State) (a : Nat) : AxSt := Sparse.get {} s.bal.axes a

/-- An axis replaced. -/
def State.setAx (s : State) (a : Nat) (x : AxSt) : State := { s with bal := { s.bal with axes := Sparse.put {} s.bal.axes a x } }

/-- The balance engine runs: not in block reset, nor in a chip reset. -/
def State.balLive (s : State) : Bool := !s.heldInReset 130 && s.rst.phase == .off

/-- The value of a per-axis field for a dispatch on this beat: one written less than 8 beats before does not count yet (R347). -/
def State.axUse (s : State) (a : Nat) (f : Fld) : Nat :=
  match (s.ax a).late.find? (fun e => e.1 == f.addr && decide (s.beat < e.2.2 + 8)) with
  | some e => e.2.1 / 2 ^ f.lo % 2 ^ f.width
  | none => s.get f

/-- A per-axis register is about to be written (R347). -/
def State.axWrites (s : State) (a addr : Nat) : State :=
  s.setAx a { s.ax a with
    late := (s.ax a).late.filter (fun e => decide (s.beat < e.2.2 + 8)) ++ [(addr, (s.peekReg addr, s.beat))] }

/-- The state code of an axis (R329). -/
def State.axState (s : State) (a : Nat) : Nat := s.get (BAL_AXSTAT_STATE a)

/-- A job runs in every sample (R329). -/
def State.axClosed (s : State) (a : Nat) : Bool := let c := s.axState a; c == 1 || c == 2 || c == 3

/-- BAL_STAT.CLOSED follows the axes (R347). -/
def State.showClosed (s : State) : State := s.set BAL_STAT_CLOSED (b2n ((List.range 72).any (fun a => s.axState a != 0)))

/-- An axis takes a state (R329). -/
def State.setAxState (s : State) (a c : Nat) : State := (s.set (BAL_AXSTAT_STATE a) c).showClosed

/-- An axis stops for OFF or FAULT: its command is 0, its move, blend and pending command end. -/
def State.axStop (s : State) (a c : Nat) : State :=
  let x := s.ax a
  let s1 := s.setAx a { x with move := none, closeDue := none, openDue := false, first := false, blend := none, job := none, trkRun := 0, missRun := 0 }
  (((s1.set (BAL_AXSTAT_APPROACH a) 0).set (BAL_AXSTAT_BLEND a) 0).set (BAL_OUT_CODE a) 0).setAxState a c

/-! ### Rates (R321 to R323) -/

/-- The servo period P in beats. -/
def State.servoP (s : State) : Nat := 1000 * 2 ^ s.get BAL_CTL_RATE
/-- The head stagger S in beats. -/
def State.servoS (s : State) : Nat := 40 * 2 ^ s.get BAL_CTL_RATE
/-- The compute time C in beats. -/
def State.servoC (s : State) : Nat := 48 + 192 * 2 ^ s.get BAL_CTL_RATE
/-- The instruction budget per axis. -/
def State.servoBudget (s : State) : Nat := 192 * 2 ^ s.get BAL_CTL_RATE

/-- D_up of a link rate code; a link without a rate takes the row of 16 Gb/s (log entry 26). -/
def dUp (rate : Nat) : Nat := match rate with | 0 => 192 | 1 => 144 | _ => 120
/-- D_dn of a link rate code. -/
def dDn (rate : Nat) : Nat := dUp rate + 20
/-- The dispatch offset of a head. -/
def State.headUp (s : State) (n : Nat) : Nat := dUp (s.get (HL_STAT_RATE n))
/-- The apply offset A of a head. -/
def State.headA (s : State) (n : Nat) : Nat := s.headUp n + s.servoC + dDn (s.get (HL_STAT_RATE n))

/-- The head link is in L0 (R378). -/
def State.inL0 (s : State) (n : Nat) : Bool := s.get (HL_STAT_STATE n) == 5

/-- The sample whose jobs are dispatched on this beat, if a sample instant of the head lies D_up before it (R322, R323). -/
def State.sampleNow (s : State) (n : Nat) : Option Nat :=
  let b := s.beat - s.headUp n
  if s.headUp n ≤ s.beat ∧ b % s.servoP = n * s.servoS then some b else none

/-! ### FP32 of the lanes (R326): NaN and infinity propagate -/

/-- A word is a NaN. -/
def isNaN32 (w : Nat) : Bool := bits w 30 23 == 255 && bits w 22 0 != 0
/-- A word is an infinity. -/
def isInf32 (w : Nat) : Bool := bits w 30 23 == 255 && bits w 22 0 == 0
/-- A word is a NaN or an infinity. -/
def notFinite32 (w : Nat) : Bool := bits w 30 23 == 255
/-- A quiet NaN whose payload no rule gives (log entry 27). -/
def nanWord (fr : Nat) : Nat := 0x7FC00000 + fr % 2 ^ 22
/-- Infinity of a sign. -/
def infWord (neg : Bool) : Nat := if neg then 0xFF800000 else 0x7F800000
/-- Rounded to FP32, with overflow to infinity. -/
def laneRound (q : Rat) (zneg : Bool) : Nat := (f32Round q zneg).getD (infWord (decide (q < 0)))
/-- The finite value of a word; an infinity stands for a number beyond every finite one. -/
def laneQ (w : Nat) : Rat := (f32Val w).getD (magVal (f32Neg w) 1 400)

/-- a + b in a lane. -/
def laneAdd (fr a b : Nat) : Nat :=
  if isNaN32 a || isNaN32 b then nanWord fr
  else if isInf32 a then (if isInf32 b && f32Neg a != f32Neg b then nanWord fr else infWord (f32Neg a))
  else if isInf32 b then infWord (f32Neg b)
  else laneRound (laneQ a + laneQ b) (laneQ a == 0 && laneQ b == 0 && f32Neg a && f32Neg b)

/-- a - b in a lane. -/
def laneSub (fr a b : Nat) : Nat := laneAdd fr a (f32Flip b)

/-- a * b in a lane. -/
def laneMul (fr a b : Nat) : Nat :=
  let neg := xor (f32Neg a) (f32Neg b)
  if isNaN32 a || isNaN32 b then nanWord fr
  else if isInf32 a || isInf32 b then
    (if (!isInf32 a && laneQ a == 0) || (!isInf32 b && laneQ b == 0) then nanWord fr else infWord neg)
  else laneRound (laneQ a * laneQ b) neg

/-- a / b in a lane. -/
def laneDiv (fr a b : Nat) : Nat :=
  let neg := xor (f32Neg a) (f32Neg b)
  if isNaN32 a || isNaN32 b || (isInf32 a && isInf32 b) then nanWord fr
  else if isInf32 a then infWord neg
  else if isInf32 b then f32Zero neg
  else if laneQ b = 0 then (if laneQ a = 0 then nanWord fr else infWord neg)
  else laneRound (laneQ a / laneQ b) neg

/-- a * b + c in a lane, rounded once. -/
def laneFma (fr a b c : Nat) : Nat :=
  let neg := xor (f32Neg a) (f32Neg b)
  if isNaN32 a || isNaN32 b || isNaN32 c then nanWord fr
  else if isInf32 a || isInf32 b then
    (if (!isInf32 a && laneQ a == 0) || (!isInf32 b && laneQ b == 0) || (isInf32 c && f32Neg c != neg) then nanWord fr else infWord neg)
  else if isInf32 c then infWord (f32Neg c)
  else laneRound (laneQ a * laneQ b + laneQ c) (laneQ a * laneQ b == 0 && laneQ c == 0 && neg && f32Neg c)

/-- A word as an operation delivers it: a subnormal is zero of its sign. -/
def laneFlush (w : Nat) : Nat := if bits w 30 23 = 0 then f32Zero (f32Neg w) else w

/-- Minimum in a lane, -0 below +0. -/
def laneMin (fr a b : Nat) : Nat :=
  if isNaN32 a || isNaN32 b then nanWord fr
  else if laneQ a < laneQ b then laneFlush a
  else if laneQ b < laneQ a then laneFlush b
  else if f32Neg a then laneFlush a else laneFlush b

/-- Maximum in a lane, -0 below +0. -/
def laneMax (fr a b : Nat) : Nat :=
  if isNaN32 a || isNaN32 b then nanWord fr
  else if laneQ a < laneQ b then laneFlush b
  else if laneQ b < laneQ a then laneFlush a
  else if f32Neg a then laneFlush b else laneFlush a

/-- The integer part of an FP32 value, as FP32. -/
def laneFloor (fr a : Nat) : Nat := if isNaN32 a then nanWord fr else if isInf32 a then a else f32Of ((laneQ a).floor : Int)

/-- FP32 of a rational (R644). -/
def f32OfInt (z : Int) : Nat := f32Of (z : Rat)

/-! ### Banks and programs (R327, R328, R334) -/

/-- The index of bank `b` of axis `a` in the bank memory (R352). -/
def bankIx (a b : Nat) : Nat := 2 * a + b
/-- The active bank of an axis. -/
def State.actBank (s : State) (a : Nat) : Nat := s.get (BAL_AXSTAT_ACTBANK a)

/-- A program word is legal (R328). -/
def balWordOk (w : Nat) : Bool :=
  let op := bits w 31 28
  let d := bits w 27 22
  let a := bits w 21 16
  let b := bits w 15 8
  let c := bits w 7 2
  let badD := (decide (48 ≤ d) && decide (d ≤ 55)) || decide (58 ≤ d)
  let res (r : Nat) := decide (58 ≤ r) && decide (r ≤ 62)
  let bOk := if op = 1 ∨ op = 2 ∨ op = 8 then true else if op = 9 then decide (b ≤ 5) else if op = 0xA then decide (b ≤ 1) else b == 0
  decide (op ≤ 0xB) && bits w 1 0 == 0 && bOk && (if op = 0 then d == 0 && a == 0 && c == 0 else !badD && !res a && !res c)

/-- A bank's program is valid (R328). -/
def State.bankValid (s : State) (a b : Nat) : Bool :=
  let k := bankIx a b
  let len := s.get (BAL_BKPROG_LEN k)
  let start := s.get (BAL_BKPROG_START k)
  decide (1 ≤ len) && decide (len ≤ s.servoBudget) && decide (start + len ≤ 4096) &&
  (List.range len).all (fun i => balWordOk (s.get (BAL_PSTORE_WORD (start + i)))) &&
  [s.get (BAL_TBASE_F_VALUE k), s.get (BAL_TSCALE_F_VALUE k), s.get (BAL_TBASE_C_VALUE k), s.get (BAL_TSCALE_C_VALUE k)].all
    (fun w => !notFinite32 w)

/-- A register of R326 as a job sees it. -/
def jobReg (x : AxSt) (j : Job) (r : Nat) : Nat :=
  if r < 32 then x.r.getD r 0
  else if r < 48 then j.temps.getD (r - 32) 0
  else match r with
  | 48 => j.pos | 49 => j.ref | 50 => j.vref | 51 => j.aref | 52 => j.prev | 53 => j.imeas | 54 => j.inj | 55 => j.dt
  | 56 => j.iout | 57 => j.capv | _ => 0

/-- The list with element `i` set, grown with zeros where it is shorter. -/
def putNth (l : List Nat) (i v : Nat) : List Nat := (l ++ List.replicate (i + 1 - l.length) 0).set i v

/-- A register written (R326): r0 to r47, IOUT and CAPV. -/
def jobWrite (x : AxSt) (j : Job) (r v : Nat) : AxSt × Job :=
  if r < 32 then ({ x with r := putNth x.r r v }, { j with wrote := j.wrote ++ [r] })
  else if r < 48 then (x, { j with temps := putNth j.temps (r - 32) v })
  else if r = 56 then (x, { j with iout := v })
  else if r = 57 then (x, { j with capv := v })
  else (x, j)

/-- Entry `i` of table `t` of a bank: 0 friction, 1 cogging (R337, R352). -/
def State.tblEntry (s : State) (k t i : Nat) : Int :=
  let f := if t = 0 then (if i % 2 = 0 then BAL_FRIC_E0 k (i / 2) else BAL_FRIC_E1 k (i / 2))
    else (if i % 2 = 0 then BAL_COG_E0 k (i / 2) else BAL_COG_E1 k (i / 2))
  sgn 16 (s.get f)

/-- TBL (R337): table `t` of bank `k` at the value `r`, each operation in FP32. -/
def State.tbl (s : State) (fr k t r : Nat) : Nat :=
  let base := s.get (if t = 0 then BAL_TBASE_F_VALUE k else BAL_TBASE_C_VALUE k)
  let scale := s.get (if t = 0 then BAL_TSCALE_F_VALUE k else BAL_TSCALE_C_VALUE k)
  let wrap := s.flag (if t = 0 then BAL_TCFG_WRAPF k else BAL_TCFG_WRAPC k)
  let c1024 := f32OfInt 1024
  let x0 := laneMul fr (laneSub fr r base) scale
  let x := if wrap then laneSub fr x0 (laneMul fr c1024 (laneFloor fr (laneDiv fr x0 c1024)))
    else laneMin fr (laneMax fr x0 0) (f32OfInt 1023)
  if notFinite32 x then nanWord fr
  else
    let i := (laneQ x).floor.toNat
    let f := laneSub fr x (f32OfInt i)
    let e (j : Nat) := f32OfInt (s.tblEntry k t (if wrap then j % 1024 else min j 1023))
    laneDiv fr (laneAdd fr (e i) (laneMul fr f (laneSub fr (e (i + 1)) (e i)))) (f32OfInt 32768)

/-- The value an instruction word delivers to rD (R327). -/
def State.balValue (s : State) (fr bank : Nat) (x : AxSt) (j : Job) (w : Nat) : Nat :=
  let a := jobReg x j (bits w 21 16)
  let b := bits w 15 8
  let c := jobReg x j (bits w 7 2)
  let k := s.get (BAL_K_K bank b)
  match bits w 31 28 with
  | 1 => laneFma fr a k c
  | 2 => laneFma fr (f32Flip a) k c
  | 3 => laneMul fr a c
  | 4 => laneAdd fr a c
  | 5 => laneSub fr a c
  | 6 => laneMin fr a c
  | 7 => laneMax fr a c
  | 8 => laneMin fr (laneMax fr a (f32Flip k)) k
  | 9 => if j.flags.testBit b then a else c
  | 0xA => s.tbl fr bank b a
  | 0xB =>
    if isNaN32 a then nanWord fr
    else laneMul fr (if laneQ a = 0 then 0 else if f32Neg a then f32OfInt (-1) else f32OfInt 1) c
  | _ => 0

/-- One word of an axis's program executes (R319, R327). A free value stands by for a NaN's payload. -/
def State.balWord (s : State) (ax : Nat) (x : AxSt) (j : Job) : State :=
  let w := s.get (BAL_PSTORE_WORD j.pc)
  let j1 := { j with pc := j.pc + 1, left := j.left - 1 }
  if bits w 31 28 = 0 then s.setAx ax { x with job := some j1 }
  else
    let (x2, j2) := jobWrite x j1 (bits w 27 22) (s.balValue s.freeNext (bankIx ax j.bank) x j w)
    (s.setAx ax { x2 with job := some j2 }).draw

/-- The word at `pc` executes if it is the axis's next one and has this OP (R327). -/
def State.balOp (s : State) (op ax pc : Nat) : State :=
  match (s.ax ax).job with
  | some j =>
    if s.balLive && j.left != 0 && j.pc == pc && bits (s.get (BAL_PSTORE_WORD pc)) 31 28 == op then s.balWord ax (s.ax ax) j else s
  | none => s

/-- The words a job has left. -/
def State.balRest (s : State) (ax : Nat) : Nat → State
  | 0 => s
  | k + 1 =>
    match (s.ax ax).job with
    | some j => if j.left = 0 then s else (s.balWord ax (s.ax ax) j).balRest ax k
    | none => s

/-! ### References (R330 to R332) -/

/-- Beats of an approach or a park move: 400 µs (R332). -/
def moveBeats : Nat := 160000

/-- REF, VREF and AREF of a move towards a target that itself moves, `t`, `v`, `a` (R332), each operation rounded (R644). The order of the
derivatives is a choice (log entry 94). -/
def AxMove.at (m : AxMove) (fr bs t v a : Nat) : Nat × Nat × Nat :=
  let c := f32OfInt
  let add := laneAdd fr
  let sub := laneSub fr
  let mul := laneMul fr
  let div := laneDiv fr
  let x := div (c ((bs : Int) - m.start)) (c moveBeats)
  let x2 := mul x x
  let x3 := mul x2 x
  let x4 := mul x3 x
  let x5 := mul x4 x
  let p := add (sub (mul (c 10) x3) (mul (c 15) x4)) (mul (c 6) x5)
  let p1 := add (sub (mul (c 30) x2) (mul (c 60) x3)) (mul (c 30) x4)
  let p2 := add (sub (mul (c 60) x) (mul (c 180) x2)) (mul (c 120) x3)
  let h := sub (add (sub x (mul (c 6) x3)) (mul (c 8) x4)) (mul (c 3) x5)
  let h1 := sub (add (sub (c 1) (mul (c 18) x2)) (mul (c 32) x3)) (mul (c 15) x4)
  let h2 := sub (sub (mul (c 96) x2) (mul (c 36) x)) (mul (c 60) x3)
  let time := f32Of (mkRat 4 10000)
  let d := sub t m.p0
  (add (add m.p0 (mul (mul m.v0 time) h)) (mul p d),
   add (add (mul m.v0 h1) (mul (div p1 time) d)) (mul p v),
   add (add (add (div (mul m.v0 h2) time) (mul (div p2 (mul time time)) d)) (mul (mul (c 2) (div p1 time)) v)) (mul p a))

/-- The setpoint of a head that an axis takes (R330): the latest whose tick lies 32 beats or more before dispatch. -/
def State.setpointFor (s : State) (n disp : Nat) : Option SetRec :=
  let ok (r : SetRec) : Option SetRec := if r.beat + 32 ≤ disp then some r else none
  match (s.setps.find? (fun e => e.1 == n)).bind (fun e => ok e.2) with
  | some r => some r
  | none => (s.setPrev.find? (fun e => e.1 == n)).bind (fun e => ok e.2)

/-- The live reference of TRACK (R330) as FP32 words: REF, VREF, AREF. -/
def trackRef (r : SetRec) (k : Nat) (bs : Nat) (lead : Int) (fr : Nat) : Nat × Nat × Nat :=
  let x := f32OfInt (match k with | 0 => r.x | 1 => r.y | _ => r.f)
  let v := r.vel.getD k 0
  let a := r.acc.getD k 0
  let tau := laneMul fr (f32OfInt ((bs : Int) + lead - r.beat)) (f32Of (mkRat 25 10000000000))
  (laneAdd fr (laneAdd fr x (laneMul fr v tau)) (laneDiv fr (laneMul fr a (laneMul fr tau tau)) (f32OfInt 2)),
   laneAdd fr v (laneMul fr a tau), a)

/-- LEAD, limited to -400 to +1000 beats (R348). -/
def State.axLead (s : State) (a : Nat) : Int := clampI (-400) 1000 (sgn 16 (s.axUse a (BAL_AXCTL_LEAD a)))

/-- The state a closed axis is to have at a sample (R331): none where the mode in force began after it. -/
def State.axWant (s : State) (n bs : Nat) : Option Nat :=
  let byMode : Option Nat :=
    if bs < s.mode.since then none
    else
      let m := s.modeCode
      some (if m = mArmed ∨ m = mExpose then 2
        else if m = mRecoat ∨ m = mCalibrate then 3
        else if m = mHalted then (if s.inL0 n then 3 else 4)
        else if m ≤ 1 ∨ m = mLowPower then 0
        else 1)
  match s.mode.trans with
  | some (r, _) => if r.target = mArmed ∧ s.mode.armed ∧ s.mode.armAt ≤ bs then some 2 else byMode
  | none => byMode

/-- A move starts from the reference of the last sample (R332). -/
def State.startMove (s : State) (a : Nat) (approach : Bool) (bs p0 v0 : Nat) : State :=
  (s.setAx a { s.ax a with move := some { approach, start := bs, p0, v0 } }).set (BAL_AXSTAT_APPROACH a) 1

/-- A move ends (R332). -/
def State.endMove (s : State) (a : Nat) : State := (s.setAx a { s.ax a with move := none }).set (BAL_AXSTAT_APPROACH a) 0

/-- A closed axis changes state at a sample (R331, R332). -/
def State.axTo (s : State) (a c bs : Nat) : State :=
  if s.axState a = c then s
  else if c = 0 ∨ c = 4 then s.axStop a c
  else
    let x := s.ax a
    let s1 := (s.setAx a { x with trkRun := 0 }).setAxState a c
    if c = 1 then (s1.endMove a) else s1.startMove a (c == 2) bs x.ref (if c = 2 then 0 else x.vref)

/-! ### Injection (R342, R343) -/

/-- A generator beside its registers. -/
def State.gen (s : State) (g : Nat) : GenSt := Sparse.get {} s.bal.gens g
/-- A generator replaced. -/
def State.setGen (s : State) (g : Nat) (x : GenSt) : State := { s with bal := { s.bal with gens := Sparse.put {} s.bal.gens g x } }

/-- A generator ends: its value is 0 from the next sample (R342). -/
def State.genStop (s : State) (g : Nat) : State :=
  if (s.gen g).active then (s.setGen g {}).set (BAL_INJSTAT_ACTIVE g) 0 else s

/-- The servo period in seconds. -/
def State.servoDT (s : State) : Rat := mkRat s.servoP 400000000

/-- a^(p/q) for positive a. -/
def powFrac (a : Rat) (p q : Nat) : Rat := if q = 0 ∨ p = 0 then 1 else if p = q then a else expQ (lnQ a * mkRat p q)

/-- The frequency of a sine generator in sample n, or of its tail (R343). -/
def State.genFreq (s : State) (g n : Nat) (tail : Bool) : Rat :=
  let f0 := (f32Val (s.get (BAL_INJF0_F0 g))).getD 1
  let f1 := (f32Val (s.get (BAL_INJF1_F1 g))).getD 1
  if tail then f1
  else if s.get (BAL_INJCTL_TYPE g) = 0 then f0 * powFrac (f1 / f0) n (s.get (BAL_INJLEN_N g))
  else f0 * powFrac (f1 / f0) (n / max 1 (s.get (BAL_INJSTEP_STEPLEN g))) (s.get (BAL_INJSTEP_NSTEP g) - 1)

/-- A sine generator's samples are over (R343). -/
def State.genOver (s : State) (g n : Nat) : Bool :=
  if s.get (BAL_INJCTL_TYPE g) = 1 then decide (s.get (BAL_INJSTEP_NSTEP g) * s.get (BAL_INJSTEP_STEPLEN g) ≤ n)
  else decide (s.get (BAL_INJLEN_N g) ≤ n)

/-- One shift of the PRBS register (R343). -/
def prbsNext (x : Nat) : Nat := ((2 * x) ||| (b2n (xor (bit x 14) (bit x 13)))) % 2 ^ 15

/-- The value of a generator in its next sample, and the generator after it (R343). -/
def State.genSample (s : State) (g : Nat) : Nat × State :=
  let x := s.gen g
  if !x.active then (0, s)
  else
    let amp := s.get (BAL_INJAMP_AMP g)
    let typ := s.get (BAL_INJCTL_TYPE g)
    if typ = 2 then
      if s.genOver g x.n then (0, s.genStop g)
      else
        let hold := max 1 (s.get (BAL_INJPRBS_HOLD g))
        let l := if x.n = 0 then s.get (BAL_INJPRBS_SEED g) else if x.n % hold = 0 then prbsNext x.lfsr else x.lfsr
        (if bit l 14 then amp else f32Flip amp, s.setGen g { x with n := x.n + 1, lfsr := l })
    else
      let tail := x.tail || s.genOver g x.n
      let v := sinQ x.phi
      let neg := decide (v < 0)
      if tail && 0 < x.n && (v == 0 || neg != x.neg) then (0, s.genStop g)
      else
        let step := if typ = 1 then min (x.n / max 1 (s.get (BAL_INJSTEP_STEPLEN g))) (s.get (BAL_INJSTEP_NSTEP g) - 1) else 0
        let phi := fixQ (x.phi + 2 * piQ * s.genFreq g x.n tail * s.servoDT)
        (laneMul s.freeNext amp (f32Of v), ((s.setGen g { x with n := x.n + 1, phi, tail, neg }).set (BAL_INJSTAT_STEP g) step).draw)

/-- The injections of an axis in one sample: REF, OUT, INP, their total and whether any is on (R342, R344). -/
structure InjSum where
  ref : Nat := 0
  out : Nat := 0
  inp : Nat := 0
  total : Nat := 0
  on : Bool := false
  deriving DecidableEq, Repr

/-- The four generators of an axis, in order. -/
def State.injSample (s : State) (a : Nat) : InjSum × State :=
  (List.range 4).foldl (fun (p : InjSum × State) g =>
    let (i, t) := p
    if (t.gen g).active && t.get (BAL_INJCTL_AXIS g) == a then
      let (v, t1) := t.genSample g
      let fr := t1.freeNext
      let i1 := { i with total := laneAdd fr i.total v, on := true }
      (match t.get (BAL_INJCTL_POINT g) with
        | 0 => { i1 with ref := laneAdd fr i.ref v }
        | 1 => { i1 with out := laneAdd fr i.out v }
        | _ => { i1 with inp := laneAdd fr i.inp v }, t1.draw)
    else p) ({}, s)

/-! ### Capture (R344, R345) -/

/-- A capture channel beside its registers. -/
def State.cap (s : State) (c : Nat) : CapSt := Sparse.get {} s.bal.caps c
/-- A capture channel replaced. -/
def State.setCap (s : State) (c : Nat) (x : CapSt) : State := { s with bal := { s.bal with caps := Sparse.put {} s.bal.caps c x } }

/-- The index the next queued record takes. -/
def State.capIndex (s : State) (c : Nat) : Nat :=
  (s.get (BAL_CAPSTAT_WPTR c) + (s.cap c).queue.length) % max 1 (s.get (BAL_CAPLEN_LEN c))

/-- The channel takes no more records: linear after LEN of them from the trigger, ring after POST (R345). -/
def State.capFull (s : State) (c : Nat) : Bool :=
  if s.flag (BAL_CAPCTL_MODE c) then s.flag (BAL_CAPSTAT_TRIGD c) && (s.cap c).post == 0
  else decide (s.get (BAL_CAPLEN_LEN c) ≤ (s.cap c).recs)

/-- The channel stops with DONE once its last record is written (R345). -/
def State.capCheck (s : State) (c : Nat) : State :=
  if s.flag (BAL_CAPSTAT_ARMED c) && s.flag (BAL_CAPSTAT_TRIGD c) && s.capFull c && (s.cap c).queue.isEmpty then
    (s.set (BAL_CAPSTAT_DONE c) 1).set (BAL_CAPSTAT_ARMED c) 0
  else s

/-- A trigger of kind `k` for the channels that `p` selects by axis (R345). -/
def State.capTrigger (s : State) (k : Nat) (p : Nat → Bool) : State :=
  (List.range 4).foldl (fun t c =>
    if t.flag (BAL_CAPSTAT_ARMED c) && !t.flag (BAL_CAPSTAT_TRIGD c) && t.get (BAL_CAPCTL_TRIG c) == k && p (t.get (BAL_CAPCTL_AXIS c)) then
      ((t.setCap c { t.cap c with recs := 0, post := t.get (BAL_CAPPOST_POST c) }).set (BAL_CAPSTAT_TRIGD c) 1).capCheck c
    else t) s

/-- A channel offers one sample of its axis (R344): every DECIM-th becomes a record, a full queue drops it. -/
def State.capOne (s : State) (c : Nat) (words : List Nat) : State :=
  let x := s.cap c
  let trig := s.flag (BAL_CAPSTAT_TRIGD c)
  if !s.flag (BAL_CAPSTAT_ARMED c) || (!trig && !s.flag (BAL_CAPCTL_MODE c)) || s.capFull c then s
  else if x.skip ≠ 0 then s.setCap c { x with skip := x.skip - 1 }
  else
    let skip := max 1 (s.get (BAL_CAPCTL_DECIM c)) - 1
    if 64 ≤ x.queue.length then
      (((s.setCap c { x with skip := skip }).incSat (BAL_CAPDROP_COUNT c)).set (BAL_CAPSTAT_OVF c) 1)
    else
      -- a ring record before the trigger carries no number that a rule gives (log entry 28)
      let no := if trig then x.recs else s.freeNext % 2 ^ 32
      let s1 := s.setCap c
        { x with skip := skip, recs := x.recs + 1, post := if trig then x.post - 1 else x.post
                 queue := x.queue ++ [(s.capIndex c, no :: words)] }
      if trig then s1 else s1.draw

/-- One sample of an axis for every channel that names it. -/
def State.capSample (s : State) (a : Nat) (words : List Nat) : State :=
  (List.range 4).foldl (fun t c => if t.get (BAL_CAPCTL_AXIS c) == a then t.capOne c words else t) s

/-- STEP of the lowest-numbered generator on an axis (R344). -/
def State.stepOn (s : State) (a : Nat) : Nat :=
  match (List.range 4).find? (fun g => (s.gen g).active && s.get (BAL_INJCTL_AXIS g) == a) with
  | some g => s.get (BAL_INJSTAT_STEP g)
  | none => 0

/-! ### Dispatch (R323, R324, R330 to R340) -/

/-- A servo fault of an axis puts it into FAULT (R339, R341). -/
def State.axFault (s : State) (a : Nat) : State := s.axStop a 4

/-- CLOSE, OPEN and a swap take effect at the sample (R333, R334, R640). -/
def State.axCommands (s : State) (n a bs disp : Nat) (pos : Int) : State :=
  let x := s.ax a
  let s1 := if x.openDue then s.axStop a 0 else s
  let x1 := s1.ax a
  let s2 := match x1.closeDue with
    | some due =>
      if disp < due then s1
      else if !s1.inL0 n then s1.setAx a { x1 with closeDue := none }
      else (s1.setAx a
        { x1 with closeDue := none, r := [], first := true, ref := f32OfInt pos, vref := 0, move := none, trkRun := 0, missRun := 0 }).setAxState a 1
    | none => s1
  let x2 := s2.ax a
  match x2.swapDue with
  | some due =>
    if disp < due then s2
    else
      let b := s2.axUse a (BAL_AXCTL_SWBLEND a)
      let s3 := ((s2.set (BAL_AXSTAT_SWPEND a) 0).set (BAL_AXSTAT_ACTBANK a) (1 - s2.actBank a)).set (BAL_AXSTAT_BLEND a)
        (b2n (b != 0 && s2.axClosed a))
      let s4 := s3.setAx a
        { x2 with swapDue := none, swapped := true, blend := if b = 0 || !s2.axClosed a then none else some (0, none) }
      match x2.move with
      | some m => if s4.axClosed a then s4.startMove a m.approach bs x2.ref x2.vref else s4
      | none => s4
  | none => s2

/-- REF, VREF, AREF of a closed axis in a sample, as FP32 words; REF and VREF are kept for the next change (R330, R332). -/
def State.axRef (s : State) (n a bs disp : Nat) : (Nat × Nat × Nat) × State :=
  let x := s.ax a
  let fr := s.freeNext
  let keep (w : Nat × Nat × Nat) (t : State) : (Nat × Nat × Nat) × State :=
    (w, t.setAx a { t.ax a with ref := w.1, vref := w.2.1 })
  match s.axState a with
  | 2 =>
    let (live, s1) := match s.setpointFor n disp with
      | some r => (trackRef r (a % 3) bs (s.axLead a) fr, s.draw)
      | none => ((fr % 2 ^ 32, fr / 2 ^ 32, (Config.freeValue (s.free + 1)).toNat % 2 ^ 32), s.draw.draw)
    match x.move with
    | some m =>
      if moveBeats ≤ bs - m.start then keep live (s1.endMove a) else keep (m.at fr bs live.1 live.2.1 live.2.2) s1
    | none => keep live s1
  | 3 =>
    let park := f32OfInt (sgn 24 (s.axUse a (BAL_PARK_PARK a)))
    match x.move with
    | some m => if moveBeats ≤ bs - m.start then keep (park, 0, 0) (s.endMove a) else keep (m.at fr bs park 0 0) s.draw
    | none => keep (park, 0, 0) s
  | _ => keep (x.ref, 0, 0) s

/-- The tracking count of R340. -/
def State.axTrack (s : State) (a : Nat) (missing : Bool) (err : Rat) : State :=
  let x := s.ax a
  let watch := (s.modeCode == mExpose || (s.modeCode == mArmed && x.move.isNone)) && s.axState a == 2
  if !watch then s.setAx a { x with err := err, trkRun := 0 }
  else if missing then s.setAx a { x with err := err }
  else s.setAx a { x with err := err, trkRun := if (s.axUse a (BAL_TRKLIM_LIMIT a) : Rat) < absQ err then x.trkRun + 1 else 0 }

/-- ILIM, 0 where it is not usable (R348). -/
def State.axLimit (s : State) (a : Nat) : Nat :=
  let w := s.axUse a (BAL_ILIM_ILIM a)
  match f32Val w with
  | some q => if f32Neg w || bits w 30 23 == 0 || 1 < q then 0 else w
  | none => 0

/-- The job of one axis is dispatched; an axis without one offers its capture sample (R323, R344). -/
def State.axDispatch (s : State) (n a bs disp : Nat) (heads : Bool) : State :=
  let rec? := (s.bal.tlm.find? (fun e => e.1 == n)).map (·.2)
  let got : Option Int := match rec? with | some t => if t.bs = bs then t.pos.getD (a % 3) none else none | none => none
  let cur : Int := match rec? with | some t => t.cur.getD (a % 3) 0 | none => 0
  let missing := got.isNone
  let pos := got.getD (s.ax a).pos
  let s1 := (s.setAx a { s.ax a with pos := pos }).set (BAL_POS_POS a) (f32OfInt pos)
  let s2 := s1.axCommands n a bs disp pos
  let s3 := if s2.axClosed a then (match s2.axWant n bs with | some c => s2.axTo a c bs | none => s2) else s2
  let s4 := if missing && heads then
      ((s3.set (BAL_AXSTAT_MISS a) 1).incSat (BAL_CNT_MISSCNT a)).setAx a { s3.ax a with missRun := (s3.ax a).missRun + 1 }
    else s3.setAx a { s3.ax a with missRun := 0 }
  let (inj, s5) := s4.injSample a
  let posW := f32OfInt pos
  let curW := laneDiv 0 (f32OfInt cur) (f32OfInt 32767)
  if s5.axClosed a then
    let ((ref0, vref, aref), s6) := s5.axRef n a bs disp
    let fr := s6.freeNext
    let ref := if inj.on then laneAdd fr ref0 inj.ref else ref0
    let s7 := ((s6.draw).set (BAL_ERR_REF a) (laneSub fr ref posW)).axTrack a missing (laneQ ref - pos)
    let x := s7.ax a
    let bank := s7.actBank a
    let j : Job :=
      { bs, bank, pc := s7.get (BAL_BKPROG_START (bankIx a bank)), left := s7.get (BAL_BKPROG_LEN (bankIx a bank))
        pos := posW, ref, vref, aref
        prev := laneDiv 0 (f32OfInt (sgn 16 (s7.get (BAL_OUT_CODE a)))) (f32OfInt 32767)
        imeas := curW, inj := inj.inp, dt := f32Of s7.servoDT
        flags := b2n missing + 2 * b2n x.first + 4 * b2n x.swapped + 8 * b2n inj.on + 16 * b2n (s7.axState a == 2) +
          32 * b2n x.move.isSome
        outInj := inj.out, total := inj.total, ilim := s7.axLimit a, swblend := s7.axUse a (BAL_AXCTL_SWBLEND a) }
    s7.setAx a { x with first := false, swapped := false, job := some j }
  else
    -- an axis without a job: no reference and no CAPV (log entry 28)
    let s6 := s5.setAx a { s5.ax a with swapped := false }
    if (List.range 4).any (fun c => s6.get (BAL_CAPCTL_AXIS c) == a && s6.flag (BAL_CAPSTAT_ARMED c)) then
      let fr := s6.freeNext
      s6.draw.capSample a [inj.total, posW, fr % 2 ^ 32, 0, fr / 2 ^ 32, curW,
        b2n missing + 16 * b2n inj.on + 2 ^ 16 * s6.stepOn a]
    else s6

/-- The three axes of a head are dispatched (R322, R323). -/
def State.jobDispatch (s : State) (n : Nat) : State :=
  if !s.balLive then s
  else match s.sampleNow n with
  | none => s
  | some bs =>
    let heads := (List.range 3).any (fun k => s.axClosed (3 * n + k))
    let s1 := (List.range 3).foldl (fun t k => t.axDispatch n (3 * n + k) bs s.beat heads) s
    { s1 with bal := { s1.bal with open_ := Sparse.insert s1.bal.open_ n bs } }

/-! ### Release (R323, R336, R338, R339) -/

/-- A NaN or an infinity at an axis's output (R339): 0 is sent, the axis goes into FAULT. -/
def State.axNumeric (s : State) (n a : Nat) : State :=
  (((s.set (BAL_AXSTAT_NUMERR a) 1).axFault a).pulse (laserSrc n 8)).capTrigger 3 (· == a)

/-- The output stage of one axis (R336, R338, R339) and its capture record (R344). -/
def State.axOutput (s : State) (n a : Nat) : State :=
  let s0 := s.balRest a 1024
  match (s0.ax a).job with
  | none => s0
  | some j =>
    let x := s0.ax a
    let fr := s0.freeNext
    let b := j.swblend
    let (u, blend) : Nat × Option (Nat × Option Nat) := match x.blend with
      | none => (j.iout, none)
      | some (m, d?) =>
        if b ≤ m then (j.iout, none)
        else
          let d := d?.getD (laneSub fr j.prev j.iout)
          let k := laneSub fr (f32OfInt 1) (laneDiv fr (f32OfInt m) (f32OfInt b))
          (laneAdd fr j.iout (laneMul fr d k), if m + 1 < b then some (m + 1, some d) else none)
    let blending := blend.isSome || (x.blend.isSome && decide ((x.blend.getD (0, none)).1 < b))
    let v := if j.flags.testBit 3 then laneAdd fr u j.outInj else u
    let s1 := (s0.draw.setAx a { x with job := none, blend := blend }).set (BAL_AXSTAT_BLEND a) (b2n blend.isSome)
    let bad := notFinite32 j.iout || notFinite32 v || j.wrote.any (fun r => notFinite32 (x.r.getD r 0))
    let lim := j.ilim
    let sat := !bad && decide (laneQ lim < absQ (laneQ v))
    let w := if sat then (if f32Neg v then f32Flip lim else lim) else v
    let code : Int := if bad then 0 else roundEven (laneQ (laneMul fr w (f32OfInt 32767)))
    let s2 := if bad then s1 else if sat then (s1.set (BAL_AXSTAT_SAT a) 1).incSat (BAL_CNT_SATCNT a) else s1
    let s3 := s2.set (BAL_OUT_CODE a) (enc 16 code)
    let s4 := s3.capSample a [j.total, j.pos, j.ref, laneDiv fr (f32OfInt code) (f32OfInt 32767), j.capv, j.imeas,
      b2n (j.flags.testBit 0) + 2 * b2n sat + 4 * b2n (j.flags.testBit 1) + 8 * b2n (j.flags.testBit 2) +
        16 * b2n (j.flags.testBit 3) + 32 * b2n blending + 2 ^ 16 * s3.stepOn a]
    if bad then s4.axNumeric n a else s4

/-- The commands of a head's sample leave, each with its output stage done (R323, R372). -/
def State.commandRelease (s : State) (n : Nat) : State :=
  match s.bal.open_.find? (fun e => e.1 == n) with
  | none => s
  | some (_, bs) =>
    if !s.balLive || decide (s.beat < bs + s.headUp n + s.servoC) then s
    else
      let s1 := (List.range 3).foldl (fun t k => t.axOutput n (3 * n + k)) { s with bal := { s.bal with open_ := Sparse.erase s.bal.open_ n } }
      if s1.inL0 n then
        s1.sendSlot n slotCmd ([(((bs + s1.headA n) / 1000 % 256 : Nat) : Int), 1] ++
          (List.range 3).map (fun k => sgn 16 (s1.get (BAL_OUT_CODE (3 * n + k)))))
      else s1

/-! ### Faults of a head (R340, R341) -/

/-- A telemetry-loss fault, or a link that left L0: every closed axis of the head goes into FAULT (R341). -/
def State.headFault (s : State) (n : Nat) : State :=
  (List.range 3).foldl (fun t k => if t.axClosed (3 * n + k) then t.axFault (3 * n + k) else t) s

/-- Three missing samples in a row on an axis of a head with a closed axis (R324). -/
def State.telemetryLoss (s : State) (n : Nat) : State :=
  let axs := (List.range 3).map (3 * n + ·)
  let closed := axs.filter (fun a => s.axClosed a)
  if s.balLive && !closed.isEmpty && axs.any (fun a => decide (3 ≤ (s.ax a).missRun)) then
    closed.foldl (fun t a => t.capTrigger 3 (· == a)) ((s.pulse (laserSrc n 9)).headFault n)
  else s

/-- TRKN samples in a row beyond TRKLIM (R340). -/
def State.servoTracking (s : State) (a : Nat) : State :=
  let x := s.ax a
  if s.balLive && s.axClosed a && decide (max 1 (s.axUse a (BAL_AXCTL_TRKN a)) ≤ x.trkRun) then
    (((s.setAx a { x with trkRun := 0 }).set (BAL_AXSTAT_TRK a) 1).pulse (laserSrc (a / 3) 7)).capTrigger 3 (· == a)
  else s

/-- A move has run 400 µs (R332). -/
def State.approachEnd (s : State) (a : Nat) : State :=
  match (s.ax a).move with
  | some m => if s.balLive && decide (m.start + moveBeats ≤ s.beat) then s.endMove a else s
  | none => s

/-! ### Commands (R333, R334, R321, R342, R345) -/

/-- CLOSE and OPEN are accepted in these modes (R333). -/
def axCmdMode (m : Nat) : Bool := m == mConfigure || m == mIdle || m == mTune || m == mTest

/-- CLOSE (R333); in FAULT it follows an OPEN (R341). -/
def State.axClose (s : State) (a : Nat) : State :=
  if !s.balLive then s
  else if axCmdMode s.modeCode && s.flag (BAL_AXCTL_EN a) && s.inL0 (a / 3) && s.bankValid a (s.actBank a) &&
      (s.axState a != 4 || (s.ax a).openDue) then
    s.setAx a { s.ax a with closeDue := some (s.beat + 2000) }
  else s.set (BAL_AXSTAT_CMDERR a) 1

/-- OPEN (R333). -/
def State.axOpen (s : State) (a : Nat) : State :=
  if !s.balLive then s
  else if axCmdMode s.modeCode then s.setAx a { s.ax a with openDue := true }
  else s.set (BAL_AXSTAT_CMDERR a) 1

/-- A swap request of one axis (R334). -/
def State.swapAxis (s : State) (a : Nat) : State :=
  let other := 1 - s.actBank a
  if s.flag (BAL_AXSTAT_SWPEND a) || !s.bankValid a other then s.set (BAL_AXSTAT_SWERR a) 1
  else if s.axClosed a then (s.setAx a { s.ax a with swapDue := some (s.beat + 2000) }).set (BAL_AXSTAT_SWPEND a) 1
  else s.set (BAL_AXSTAT_ACTBANK a) other

/-- A write of BAL_SWAP_0w (R334). -/
def State.swapRequest (s : State) (w v : Nat) : State :=
  if !s.balLive then s
  else (List.range 32).foldl (fun t j => if bit v j && decide (32 * w + j < 72) then t.swapAxis (32 * w + j) else t) s

/-- A write of BAL_AXCTL (R333): EN stays set while the axis is not OFF. -/
def State.axCtlWrite (s : State) (a v : Nat) : State :=
  let s1 := ((s.set (BAL_AXCTL_SWBLEND a) (bits v 31 24)).set (BAL_AXCTL_TRKN a) (bits v 23 20)).set (BAL_AXCTL_LEAD a) (bits v 15 0)
  if s.flag (BAL_AXCTL_EN a) && !bit v 16 && s.axState a != 0 then s1.set (BAL_AXSTAT_CMDERR a) 1
  else s1.set (BAL_AXCTL_EN a) (b2n (bit v 16))

/-- A generator's type and parameters are in range (R342). -/
def State.genOk (s : State) (g : Nat) : Bool :=
  let inBand (w : Nat) : Bool := match f32Val w with
    | some q => decide (mkRat 1 10 ≤ q) && decide (q * 2 * s.servoDT ≤ 1)
    | none => false
  let t := s.get (BAL_INJCTL_TYPE g)
  decide (s.get (BAL_INJCTL_AXIS g) ≤ 71) && decide (s.get (BAL_INJCTL_POINT g) ≤ 2) &&
  (match t with
    | 0 => inBand (s.get (BAL_INJF0_F0 g)) && inBand (s.get (BAL_INJF1_F1 g))
    | 1 => inBand (s.get (BAL_INJF0_F0 g)) && inBand (s.get (BAL_INJF1_F1 g)) && decide (2 ≤ s.get (BAL_INJSTEP_NSTEP g))
    | 2 => s.get (BAL_INJPRBS_SEED g) != 0
    | _ => false)

/-- The RW fields of a write of BAL_INJCTL. -/
def State.injCtl (s : State) (g v : Nat) : State :=
  ((s.set (BAL_INJCTL_TYPE g) (bits v 13 12)).set (BAL_INJCTL_POINT g) (bits v 9 8)).set (BAL_INJCTL_AXIS g) (bits v 6 0)

/-- RUN of a generator (R342); the capture trigger of R345. -/
def State.injRun (s0 : State) (g v : Nat) : State :=
  let s := s0.injCtl g v
  if !s.balLive then s0
  else if s.modeCode = mTune && s.genOk g then
    (((s.setGen g { active := true, lfsr := s.get (BAL_INJPRBS_SEED g) }).set (BAL_INJSTAT_ACTIVE g) 1).set (BAL_INJSTAT_STEP g) 0).capTrigger 1
      (· == s.get (BAL_INJCTL_AXIS g))
  else s.set (BAL_INJSTAT_ERR g) 1

/-- STOP of every generator: any exit from Tune (R342). -/
def State.injStopAll (s : State) : State := (List.range 4).foldl (fun t g => t.genStop g) s

/-- The RW fields of a write of BAL_CAPCTL. -/
def State.capCtl (s : State) (c v : Nat) : State :=
  (((s.set (BAL_CAPCTL_DECIM c) (bits v 23 16)).set (BAL_CAPCTL_TRIG c) (bits v 13 12)).set (BAL_CAPCTL_MODE c) (bits v 8 8)).set
    (BAL_CAPCTL_AXIS c) (bits v 6 0)

/-- START of a capture channel (R345, R351). -/
def State.capStart (s0 : State) (c v : Nat) : State :=
  let s := s0.capCtl c v
  if !s.balLive then s0
  else if 71 < s.get (BAL_CAPCTL_AXIS c) || s.get (BAL_CAPLEN_LEN c) = 0 then s.set (BAL_CAPSTAT_WERR c) 1
  else
    let s1 := [(BAL_CAPSTAT_WPTR c, 0), (BAL_CAPSTAT_TRIGD c, 0), (BAL_CAPSTAT_DONE c, 0), (BAL_CAPSTAT_ARMED c, 1)].foldl
      (fun t p => t.set p.1 p.2) (s.setCap c {})
    if s.get (BAL_CAPCTL_TRIG c) = 0 then
      ((s1.setCap c { post := s.get (BAL_CAPPOST_POST c) }).set (BAL_CAPSTAT_TRIGD c) 1).capCheck c
    else s1

/-- STOP of a capture channel: capture ends at once (R345). -/
def State.capStop (s : State) (c : Nat) : State := (s.setCap c {}).set (BAL_CAPSTAT_ARMED c) 0

/-- The oldest record is written as master 0x07 (R18, R344, R345); the next waits while one is on its way through the fabric. -/
def State.capWrite (s : State) (c : Nat) (ecc : Ecc) : State :=
  match (s.cap c).queue with
  | [] => s
  | (i, words) :: _ =>
    if !s.balLive || (s.cap c).far || s.skz.reqs.any (fun r => r.own == some (2 + c)) then s
    else
      let a := (s.pair (BAL_CAPBASE_LO_ADDR c) (BAL_CAPBASE_HI_ADDR c) + 32 * i) % 2 ^ 40
      let t := s.setCap c { s.cap c with far := true }
      { t with own := t.own ++ [.issue (2 + c) a (words.flatMap (fun w => leBytes w 4)) ecc] }

/-- The write of channel `c`'s oldest record has ended (R345): an error stops the channel and raises the capture-error source. -/
def State.capEnded (s : State) (c : Nat) (ok : Bool) : State :=
  match (s.cap c).queue with
  | [] => s
  | (i, _) :: q =>
    if !(s.cap c).far then s
    else
      let t := s.setCap c { s.cap c with queue := q, far := false }
      if ok then (t.set (BAL_CAPSTAT_WPTR c) ((i + 1) % t.get (BAL_CAPLEN_LEN c))).capCheck c
      else ((t.set (BAL_CAPSTAT_WERR c) 1).capStop c).pulse (0x018 + c)

/-- A bank register is protected (R335): it belongs to the active bank of an axis not OFF, or to the other while SWPEND. -/
def State.bankLocked (s : State) (a b : Nat) : Bool :=
  s.axState a != 0 && b == s.actBank a || s.flag (BAL_AXSTAT_SWPEND a) && b != s.actBank a

/-- A program word is protected (R335). -/
def State.pwordLocked (s : State) (w : Nat) : Bool :=
  (List.range 72).any (fun a => (List.range 2).any (fun b =>
    let k := bankIx a b
    let st := s.get (BAL_BKPROG_START k)
    (s.axState a != 0 && b == s.actBank a || s.flag (BAL_AXSTAT_SWPEND a)) && decide (st ≤ w) && decide (w < st + s.get (BAL_BKPROG_LEN k))))

/-- Every axis OFF at once: Load, Boot, Low power, a block reset (R331, R347). -/
def State.axesOff (s : State) : State :=
  (List.range 72).foldl (fun t a =>
    if t.axState a != 0 || (t.ax a).closeDue.isSome then t.axStop a 0 else t) { s with bal := { s.bal with open_ := [] } }

/-- A block reset of the balance engine: axes, generators and channels stop; program store and banks stay (R347, R352). -/
def State.resetBal (s : State) : State :=
  ({ s with bal := { tlm := s.bal.tlm } }).resetRegs 0 (fun a => decide (0x2000600000 ≤ a) && decide (a < 0x2000700000))

end Sys2Proof.Machine
end

