-- ==== Sys2Proof/Machine/HlOps.lean ====
section
/-! DEFINITION. Head links (R353 to R401): training, time alignment, slots, CFG and SVC traffic, sleep. -/
namespace Sys2Proof.Machine

/-- Head link `n` beside its registers. -/
def State.hl (s : State) (n : Nat) : HlSt := Sparse.get {} s.hls n
/-- A head link replaced. -/
def State.setHl (s : State) (n : Nat) (x : HlSt) : State := { s with hls := Sparse.put {} s.hls n x }
/-- A head link changed. -/
def State.modHl (s : State) (n : Nat) (f : HlSt → HlSt) : State := s.setHl n (f (s.hl n))
/-- The link state (R378). -/
def State.hlState (s : State) (n : Nat) : Nat := s.get (HL_STAT_STATE n)
/-- The link is not held in a reset. -/
def State.hlLive (s : State) (n : Nat) : Bool := !s.heldInReset (96 + n) && s.rst.phase == .off

/-! ### States -/

/-- Power of the two directions: UPPS and DNPS (R398). -/
def State.hlPower (s : State) (n up dn : Nat) : State := (s.set (HL_STAT_UPPS n) up).set (HL_STAT_DNPS n) dn

/-- Leaving L0 sets event bit 13 of the laser's escapement (R392) and faults the head's closed axes (R341). -/
def State.hlLeaveL0 (s : State) (n : Nat) : State :=
  if s.inL0 n then (if s.heldInReset n then s else s.setEvents n (2 ^ 13)).headFault n else s

/-- The link takes a state on this beat. -/
def State.hlTo (s : State) (n st : Nat) : State :=
  let s1 := if st = 5 then s else s.hlLeaveL0 n
  (s1.modHl n (fun x => { x with since := s1.beat, good := 0 })).set (HL_STAT_STATE n) st

/-- DISABLED or FAILED: electrically idle, no rate, no version (R378, R398). -/
def State.hlIdle (s : State) (n st : Nat) : State :=
  ((((s.hlTo n st).hlPower n 3 3).set (HL_STAT_RATE n) 3).set (HL_STAT_VERSION n) 0).modHl n
    (fun x => { x with l1Req := false, waking := false, t1 := none })

/-- FAILED with its cause; the training-failure source is raised (R378, R385). -/
def State.hlFail (s : State) (n cause : Nat) : State := ((s.hlIdle n 8).set (HL_TRAIN_FAILCAUSE n) cause).pulse (laserSrc n 0xD)

/-- DETECT at 4 Gb/s (R379). -/
def State.hlDetect (s : State) (n : Nat) : State :=
  ((((s.hlTo n 1).hlPower n 3 0).set (HL_STAT_RATE n) 0).set (HL_STAT_VERSION n) 0).modHl n (fun x =>
    { x with ack := false, headEq := false, cd := 7, l1Req := false, waking := false, t1 := none, seqBad := 0 })

/-- Training afresh (R385). -/
def State.hlTrain (s : State) (n : Nat) : State :=
  ((((s.hlDetect n).modHl n (fun x => { x with tries := 0 })).set (HL_TRAIN_ATTEMPTS n) 0).set (HL_TRAIN_RATEFAIL n) 0).set
    (HL_TRAIN_FAILCAUSE n) 0

/-- The links may train: not in Load or Boot's resets, and not asleep with the device (R395). -/
def State.hlPowered (s : State) : Bool := s.modeCode != mLowPower && !s.rst.refaBad

/-! ### Negotiation (R380) -/

/-- VMAX as sent: the lesser of 3 and VMAXLIM, where 0 acts as 1 (R365, R397). -/
def State.hlVmax (s : State) (n : Nat) : Nat := let v := s.get (HL_CTL_VMAXLIM n); if v = 0 then 1 else min v 3

/-- RATEMASK; one without bit 0 acts as 0b001 (R397). -/
def State.hlMask (s : State) (n : Nat) : Nat := let m := s.get (HL_CTL_RATEMASK n); if bit m 0 then m else 1

/-- The highest rate code in a mask. -/
def topRate (m : Nat) : Option Nat := if bit m 2 then some 2 else if bit m 1 then some 1 else if bit m 0 then some 0 else none

/-- The rates that still qualify (R380). -/
def State.hlRates (s : State) (n : Nat) : Nat :=
  let m := s.get (HL_TRAIN_HRATES n) &&& s.hlMask n
  (m - (m &&& s.get (HL_TRAIN_RATEFAIL n))) % 8

/-- NEGOTIATE begins: version and rate are chosen, or the link fails (R380, R382). -/
def State.hlNegotiate (s : State) (n : Nat) (afterEq : Bool) : State :=
  let v := min (s.hlVmax n) (s.get (HL_TRAIN_HVMAX n))
  if v < max 1 (s.get (HL_TRAIN_HVMIN n)) then s.hlFail n 1
  else match topRate (s.hlRates n) with
  | none => s.hlFail n (if afterEq then 4 else 2)
  | some r =>
    (((s.hlTo n 2).hlPower n 0 0).set (HL_STAT_RATE n) 0).modHl n (fun x => { x with chv := v, chr := r, cd := 7, headEq := false })

/-- Beats of a superframe (R357). -/
def frameBeats : Nat := 1000

/-- The receiver's EQOK criterion holds (R382): adapted for 512 superframes unless EQFIX, then 256 good ones in a row. -/
def State.hlEqOk (s : State) (n : Nat) : Bool :=
  let x := s.hl n
  decide ((if s.flag (HL_CTL_EQFIX n) then 0 else 512 * frameBeats) + x.since ≤ s.beat) && decide (256 ≤ x.good)

/-- Our TRN slot with a state code and EQOK (R365). -/
def State.hlTrnOut (s : State) (n st : Nat) (eqok : Bool) : State :=
  let x := s.hl n
  s.sendSlot n slotTrn ([st, 1, s.hlVmax n, 7, x.chv, x.chr, b2n x.ack, b2n eqok, x.cd, 0x0A967240].map Int.ofNat)

/-- Our TRN slot (R365). -/
def State.hlSendTrn (s : State) (n : Nat) : State := s.hlTrnOut n (s.hlState n) (s.hlState n == 3 && s.hlEqOk n)

/-- A slot fails its CRC, or a stuffing error stands before its end (R361, R388). -/
def State.hlSlotBad (s : State) (n : Nat) (stuf : Bool) : State :=
  let s1 := if stuf then (s.set (HL_STAT_STUFERR n) 1).incSat (HL_ERRCNT_SLOTCRC n) else s
  s1.incSat (HL_ERRCNT_SLOTCRC n)

/-- A TRN slot arrives (R365, R379, R380, R382). -/
def State.hlTrnSlot (s : State) (n : Nat) (t : TrnSlot) : State :=
  let st := s.hlState n
  if !s.hlLive n || st == 0 || decide (3 < st) then s
  else if !trnOk t then
    (((s.hlSlotBad n t.stuf).modHl n (fun x => { x with ack := false, good := 0, cd := 7 }))).hlSendTrn n
  else
    let s1 := [(HL_TRAIN_HVMIN n, t.vmin.val), (HL_TRAIN_HVMAX n, t.vmax.val), (HL_TRAIN_HRATES n, t.rates.toNat),
      (HL_HEADMODEL_MODEL n, t.model.toNat)].foldl (fun u p => u.set p.1 p.2) s
    let counts := st != 3 || s.flag (HL_CTL_EQFIX n) || decide (512 * frameBeats + (s.hl n).since ≤ s.beat)
    let s2 := s1.modHl n (fun x => { x with ack := true, good := if counts then x.good + 1 else 0, headEq := t.eqok })
    let x := s2.hl n
    if st = 1 then
      (if 2 ≤ x.good then (s2.set (HL_STAT_PRESENT n) 1).hlNegotiate n false else s2).hlSendTrn n
    else if st = 2 then
      (s2.setHl n { x with cd := if t.ack && t.chv.val == x.chv && t.chr.val == x.chr then x.cd - 1 else 7 }).hlSendTrn n
    else s2.hlSendTrn n

/-- The idle superframe after CD = 0 is over: the chosen rate (R381). -/
def State.hlRateSwitch (s : State) (n : Nat) : State :=
  if s.hlLive n && s.hlState n == 2 && (s.hl n).cd == 0 then
    ((s.hlTo n 3).set (HL_STAT_RATE n) (s.hl n).chr).set (HL_STAT_VERSION n) (s.hl n).chv
  else s

/-! ### CFG entries and SVC messages (R366, R375, R391) -/

/-- An SVC slot leaves. -/
def State.hlSvcSlot (s : State) (n : Nat) (m : SvcTx) : State :=
  (s.modHl n (fun x => { x with traffic := s.beat })).sendSlot n slotSvc
    (([m.typ, m.tag, m.len, m.addr] ++ m.data).map Int.ofNat)

/-- A CFG slot leaves. -/
def State.hlCfgSlot (s : State) (n : Nat) (e : Nat × (Nat × Nat)) : State :=
  (s.modHl n (fun x => { x with traffic := s.beat })).sendSlot n slotCfg ([e.1, 1, e.2.1, e.2.2].map Int.ofNat)

/-- Entries that wait leave while fewer than 16 are outstanding (R391). -/
def State.hlCfgPump (s : State) (n : Nat) : Nat → State
  | 0 => s
  | k + 1 =>
    let x := s.hl n
    match x.cfgWait with
    | e :: t =>
      if 16 ≤ x.cfg.length then s
      else
        let q := (x.cseq + 1) % 256
        ((s.setHl n { x with cfgWait := t, cseq := q, cfg := x.cfg ++ [(q, e)], ackAt := if x.cfg.isEmpty then s.beat else x.ackAt }).hlCfgSlot n
          (q, e)).hlCfgPump n k
    | [] => s

/-- A CFG entry is queued (R391). -/
def State.hlCfgSend (s : State) (n addr v : Nat) : State :=
  (s.modHl n (fun x => { x with cfgWait := x.cfgWait ++ [(addr, v)] })).hlCfgPump n 16

/-- CFGACK as received (R391). -/
def State.hlCfgAck (s : State) (n ack : Nat) : State :=
  let x := s.hl n
  match x.cfg.findIdx? (fun e => e.1 == ack) with
  | some i => (s.setHl n { x with cfg := x.cfg.drop (i + 1), ackAt := s.beat }).hlCfgPump n 16
  | none => s

/-- CFGACK has not advanced for 8 superframes (R391): the outstanding entries go again. -/
def State.hlCfgResend (s : State) (n : Nat) : State :=
  let x := s.hl n
  if s.hlLive n && !x.cfg.isEmpty && decide (x.ackAt + 8 * frameBeats ≤ s.beat) then
    x.cfg.foldl (fun t e => t.hlCfgSlot n e) (s.setHl n { x with ackAt := s.beat })
  else s

/-- The two data words of a 64-bit value (R366). -/
def words64 (v : Nat) : List Nat := [v / 2 ^ 32 % 2 ^ 32, v % 2 ^ 32]

/-- The beat on which the next downlink superframe starts (R370). -/
def State.hlNextDown (s : State) (n : Nat) : Nat :=
  let dp := (n * s.servoS + s.headUp n + s.servoC + 8) % 1000
  let b := s.beat + 1
  b + (dp + 1000 - b % 1000) % 1000

/-- An SVC request is sent (R391): TSYNC carries the start beat of its superframe (R373). -/
def State.hlSvcSend (s : State) (n : Nat) (m : SvcTx) : State :=
  let t1 := s.hlNextDown n
  let m1 := { m with sentAt := s.beat, data := if m.typ = 0x10 then words64 t1 else m.data }
  (s.modHl n (fun x => { x with svc := some m1, t1 := if m.typ = 0x10 then some t1 else x.t1 })).hlSvcSlot n m1

/-- The next SVC transaction starts once none is under way (R391). -/
def State.hlSvcPump (s : State) (n : Nat) : State :=
  let x := s.hl n
  match x.svc, x.svcQueue with
  | none, m :: t => (s.setHl n { x with svcQueue := t, tag := (x.tag + 1) % 256 }).hlSvcSend n { m with tag := x.tag }
  | _, _ => s

/-- A transaction is queued: an internal one before the mailbox (R391). -/
def State.hlSvcQueue (s : State) (n : Nat) (m : SvcTx) : State :=
  (s.modHl n (fun x =>
    { x with svcQueue := if m.typ = 1 ∨ m.typ = 2 then x.svcQueue ++ [m] else m :: x.svcQueue })).hlSvcPump n

/-- A transaction ends. -/
def State.hlSvcEnd (s : State) (n : Nat) : State := (s.modHl n (fun x => { x with svc := none })).hlSvcPump n

/-- GO of the mailbox (R401). -/
def State.hlSvcGo (s : State) (n v : Nat) : State :=
  if !s.hlLive n then s
  else if s.flag (HL_SVCSTAT_BUSY n) || !s.inL0 n then s.set (HL_SVCSTAT_ERR n) 1
  else
    let l0 := bits v 2 0
    let len := if l0 = 0 then 1 else min l0 4
    let wr := bit v 8
    let d := if wr then (List.range len).map (fun k => s.get (HL_SVCDATA_DATA n k)) else []
    ((((s.set (HL_SVCCMD_WRITE n) (b2n wr)).set (HL_SVCCMD_LEN n) l0).set (HL_SVCSTAT_BUSY n) 1)).hlSvcQueue n
      { typ := if wr then 2 else 1, len, addr := s.get (HL_SVCADDR_ADDR n), data := d }

/-- RESP of a head (R366, R401). -/
def State.hlResp (s : State) (n : Nat) (r : SvcSlot) : State :=
  if !s.hlLive n || decide (s.hlState n < 4) || decide (7 < s.hlState n) then s
  else if !svcOk 3 r then s.hlSlotBad n r.stuf
  else match (s.hl n).svc with
  | some m =>
    if (m.typ = 1 ∨ m.typ = 2) ∧ m.tag = r.tag.toNat then
      let ws := [r.d0, r.d1, r.d2, r.d3]
      let s1 := if m.typ = 1 ∧ r.status = 0 then
          (List.range m.len).foldl (fun t k => t.set (HL_SVCDATA_DATA n k) ((ws.getD k 0).toNat)) s
        else s
      ((((s1.set (HL_SVCSTAT_RSTAT n) r.status.toNat).set (HL_SVCSTAT_BUSY n) 0).set (HL_SVCSTAT_DONE n) 1)).hlSvcEnd n
    else s
  | none => s

/-- No answer within 8 superframes (R391): up to three resends, then the transaction ends. -/
def State.hlSvcRetry (s : State) (n : Nat) : State :=
  match (s.hl n).svc with
  | some m =>
    if !s.hlLive n || decide (s.beat < m.sentAt + 8 * frameBeats) then s
    else if m.tries < 3 then s.hlSvcSend n { m with tries := m.tries + 1 }
    else
      let s1 := if m.typ = 1 ∨ m.typ = 2 then
          ((s.set (HL_SVCSTAT_ERR n) 1).set (HL_SVCSTAT_RSTAT n) 0xFF).set (HL_SVCSTAT_BUSY n) 0
        else s.modHl n (fun x => { x with t1 := none, l1Req := false })
      s1.hlSvcEnd n
  | none => s

/-! ### Sleep (R392 to R394) -/

/-- L0s and L1 are allowed (R392). -/
def State.hlMaySleep (s : State) (n : Nat) : Bool :=
  s.modeCode != mArmed && s.modeCode != mExpose && !(List.range 3).any (fun k => s.axClosed (3 * n + k))

/-- The downlink wakes from L0s; the link is in L0 once both directions are active (R392, R393). -/
def State.hlWakeDown (s : State) (n : Nat) : State :=
  if s.hlState n = 6 then
    let s1 := s.set (HL_STAT_DNPS n) 0
    if s1.get (HL_STAT_UPPS n) = 0 then s1.hlTo n 5 else s1
  else s

/-- HLC_PM bit 0 follows L0SUPEN as far as R392 allows (R393). -/
def State.hlPmUpdate (s : State) (n : Nat) : State :=
  let want := s.flag (HL_CTL_L0SUPEN n) && s.hlMaySleep n && decide (2 ≤ s.get (HL_STAT_VERSION n))
  if s.hlLive n && (s.hlState n == 5 || s.hlState n == 6) && want != (s.hl n).pm then
    ((s.modHl n (fun x => { x with pm := want })).hlWakeDown n).hlCfgSend n 3 (b2n want)
  else s

/-- HLC_PM of every link (a change of mode, an axis closed). -/
def State.hlPmAll (s : State) : State := (List.range 24).foldl (fun t n => t.hlPmUpdate n) s

/-- The downlink goes idle after 16 quiet superframes (R393). -/
def State.hlL0s (s : State) (n : Nat) : State :=
  let x := s.hl n
  if s.hlLive n && (s.hlState n == 5 || s.hlState n == 6) && s.get (HL_STAT_DNPS n) == 0 && s.flag (HL_CTL_L0SDNEN n) &&
      decide (2 ≤ s.get (HL_STAT_VERSION n)) && s.hlMaySleep n && x.cfg.isEmpty && x.cfgWait.isEmpty && x.svc.isNone &&
      x.svcQueue.isEmpty && decide (x.traffic + 16 * frameBeats ≤ s.beat) && decide (x.since + 16 * frameBeats ≤ s.beat) then
    ((s.hlSvcSlot n { typ := 0x18, data := [1] }).hlTo n 6).set (HL_STAT_DNPS n) 1
  else s

/-- The T24 asks for L1 (R394). -/
def State.hlAskL1 (s : State) (n : Nat) : State :=
  if s.hlLive n && s.hlState n == 5 && s.get (HL_STAT_VERSION n) == 3 && s.hlMaySleep n && !(s.hl n).l1Req then
    (s.modHl n (fun x => { x with l1Req := true })).hlSvcQueue n { typ := 0x18, data := [2] }
  else s

/-- L1REQ, which needs L1EN (R394). -/
def State.hlL1Req (s : State) (n : Nat) : State := if s.flag (HL_CTL_L1EN n) then s.hlAskL1 n else s

/-- The link wakes (R394): from L1 it is in L0 once two uplink sync words came on time. -/
def State.hlWake (s : State) (n : Nat) : State :=
  if !s.hlLive n then s
  else if s.hlState n = 6 then s.hlWakeDown n
  else if s.hlState n = 7 && !(s.hl n).waking then
    (s.hlPower n 0 0).modHl n (fun x => { x with waking := true, good := 0 })
  else s

/-- The other end's preamble is detected (R393, R394). -/
def State.hlWakeDetect (s : State) (n : Nat) : State :=
  if !s.hlLive n then s
  else if s.hlState n = 6 then
    let s1 := s.set (HL_STAT_UPPS n) 0
    if s1.get (HL_STAT_DNPS n) = 0 then s1.hlTo n 5 else s1
  else s.hlWake n

/-- A PM message of the head (R366, R393, R394). -/
def State.hlPm (s : State) (n : Nat) (m : SvcSlot) : State :=
  let st := s.hlState n
  let code := m.d0.toNat % 16
  if !s.hlLive n || !(st == 5 || st == 6) then s
  else if !svcOk 0x18 m then s.hlSlotBad n m.stuf
  else if code = 1 then
    if decide (2 ≤ s.get (HL_STAT_VERSION n)) && (s.hl n).pm && s.hlMaySleep n then
      (if st = 5 then s.hlTo n 6 else s).set (HL_STAT_UPPS n) 1
    else s
  else if (code = 3 ∨ code = 4) ∧ (s.hl n).l1Req then
    let s1 := (s.modHl n (fun x => { x with l1Req := false })).hlSvcEnd n
    if code = 3 ∧ st = 5 ∧ s.hlMaySleep n then (s1.hlTo n 7).hlPower n 2 2 else s1
  else s

/-! ### Time alignment (R370 to R375, R384) -/

/-- Phases U and Q of a head (R370). -/
def State.hlPhases (s : State) (n : Nat) : Nat × Nat :=
  ((n * s.servoS + 16) % s.servoP, (n * s.servoS + s.headA n) % s.servoP)

/-- An exchange begins: TSYNC (R373). -/
def State.hlExchange (s : State) (n : Nat) : State := (s.modHl n (fun x => { x with syncAt := s.beat })).hlSvcQueue n { typ := 0x10 }

/-- TIME begins (R384): CSEQ starts again, the phases go out, the exchange runs. -/
def State.hlTime (s : State) (n : Nat) : State :=
  let (u, q) := s.hlPhases n
  let s1 := ((s.hlTo n 4).set (HL_PHASE_U n) u).set (HL_PHASE_Q n) q
  let pm := s1.flag (HL_CTL_L0SUPEN n) && s1.hlMaySleep n && decide (2 ≤ s1.get (HL_STAT_VERSION n))
  let s2 := s1.modHl n (fun x =>
    { x with cseq := 0, cfg := [], cfgWait := [(0, s1.servoP / 1000), (1, u), (2, q), (3, b2n pm)], pm := pm
             exch := 0, aligned := false, t1 := none, seqBad := 0
             svc := x.svc.bind (fun m => if m.typ = 0x10 ∨ m.typ = 0x18 then none else some m)
             svcQueue := x.svcQueue.filter (fun m => !(m.typ == 0x10 || m.typ == 0x18)), l1Req := false })
  (s2.hlCfgPump n 16).hlExchange n

/-- Both ends have sent and received EQOK (R382): one TRN slot tells the head of TIME. PEAK is what adaptation found: no rule gives it (log entry 29). -/
def State.hlEqDone (s : State) (n : Nat) : State :=
  if s.hlLive n && s.hlState n == 3 && s.hlEqOk n && (s.hl n).headEq then
    let peak := if s.flag (HL_CTL_EQFIX n) then s.get (HL_EQ_PEAKFIX n) else s.freeNext % 16
    ((s.hlTrnOut n 4 true).draw.set (HL_EQ_PEAK n) peak).hlTime n
  else s

/-- L0 once the second exchange is aligned, every entry is acknowledged and eight sync words in a row came on time
(R384). -/
def State.hlL0Check (s : State) (n : Nat) : State :=
  let x := s.hl n
  if s.hlState n = 4 ∧ 2 ≤ x.exch ∧ x.aligned ∧ x.cfg.isEmpty ∧ x.cfgWait.isEmpty ∧ 8 ≤ x.good then
    (((s.hlTo n 5).modHl n (fun y => { y with tries := 0, traffic := s.beat, eqAt := s.beat })).set (HL_TRAIN_RATEFAIL n) 0).hlPower n 0 0
  else s

/-- A 64-bit value in two data words (R366). -/
def dword (hi lo : Word) : Nat := hi.toNat * 2 ^ 32 + lo.toNat

/-- TRESP: θ, δ and TADJ (R373, R374). -/
def State.hlTresp (s : State) (n : Nat) (r : TrespSlot) : State :=
  let st := s.hlState n
  let t2 := dword r.svc.d0 r.svc.d1
  let t3 := dword r.svc.d2 r.svc.d3
  if !s.hlLive n || !(st == 4 || st == 5) then s
  else if !svcOk 0x11 r.svc then s.hlSlotBad n r.svc.stuf
  else match (s.hl n).t1, (s.hl n).svc with
  | some t1, some m =>
    if m.typ ≠ 0x10 ∨ m.tag ≠ r.svc.tag.toNat then s
    else
      let d (a b : Nat) : Int := sgn 64 (a + 2 ^ 64 - b)
      let up := d t2 t1
      let dn := d r.t4.toNat t3
      let th : Rat := mkRat (up - dn) 2
      let s1 := (s.set (HL_TIME_DELAY n) (enc 16 (roundEven (mkRat (up + dn) 2)))).modHl n (fun x => { x with t1 := none })
      let adj (z : Int) (t : State) : State :=
        (t.incWrap (HL_TIME_ADJCNT n)).hlSvcSlot n { typ := 0x12, data := words64 (enc 64 z) }
      if st = 4 then
        let s2 := (adj (-(roundEven th)) s1).modHl n (fun x => { x with exch := x.exch + 1, aligned := decide (absQ th ≤ 1), svc := none })
        if (s2.hl n).exch < 2 then s2.hlExchange n else (s2.hlSvcPump n).hlL0Check n
      else
        let s2 := if 2 ≤ absQ th then adj (if 0 < th then -1 else 1) s1 else s1
        let s3 := if 4 < absQ th then (s2.set (HL_STAT_TIMEERR n) 1).pulse (laserSrc n 0xC) else s2
        s3.hlSvcEnd n
  | _, _ => s

/-- Every 4,096 superframes in L0 under version 3 (R374). -/
def State.hlTrackTime (s : State) (n : Nat) : State :=
  let x := s.hl n
  if s.hlLive n && s.inL0 n && s.get (HL_STAT_VERSION n) == 3 && decide (x.syncAt + 4096 * frameBeats ≤ s.beat) && x.t1.isNone then
    s.hlExchange n
  else s

/-- PEAK tracks by at most one code in 4,096 superframes (R383). -/
def State.hlEqStep (s : State) (n peak : Nat) : State :=
  let now := s.get (HL_EQ_PEAK n)
  if s.hlLive n && s.inL0 n && !s.flag (HL_CTL_EQFIX n) && decide ((s.hl n).eqAt + 4096 * frameBeats ≤ s.beat) &&
      decide (peak ≤ now + 1) && decide (now ≤ peak + 1) then
    (s.set (HL_EQ_PEAK n) peak).modHl n (fun x => { x with eqAt := s.beat })
  else s

/-! ### Uplink slots in L0 (R361, R365, R388 to R390) -/

/-- The start beat of the uplink superframe that is arriving (R370). -/
def State.hlUpStart (s : State) (n : Nat) : Nat := s.beat - (s.beat + 1000 - s.get (HL_PHASE_U n) % 1000) % 1000

/-- FCLR goes out while the head shows HFAULT, its axes are OFF and the link is in L0 (R390). -/
def State.hlFclr (s : State) (n : Nat) : State :=
  if s.flag (HL_STAT_HFAULT n) && s.inL0 n && (List.range 3).all (fun k => s.axState (3 * n + k) == 0) then
    s.hlSvcSlot n { typ := 0x1C }
  else s

/-- HFAULT of a TLM slot (R390). -/
def State.hlHfault (s : State) (n : Nat) (h : Bool) : State :=
  if h && !s.flag (HL_STAT_HFAULT n) then ((s.set (HL_STAT_HFAULT n) 1).raise (laserSrc n 0xB)).headFault n
  else if !h && s.flag (HL_STAT_HFAULT n) then (s.set (HL_STAT_HFAULT n) 0).lower (laserSrc n 0xB)
  else s

/-- A position code; 0x80_0000 is invalid (R365). -/
def posCode (v : BitVec 24) : Option Int := if v = 0x800000#24 then none else some (sgn 24 v.toNat)

/-- A TLM slot arrives (R365, R384, R388, R390, R391, R394); one for which the queue has no place is lost whole and raises
the head's servo telemetry loss (R39, log entry 144). -/
def State.hlTlmSlot (s : State) (n : Nat) (t : TlmSlot) : State :=
  let st := s.hlState n
  let asleep := st == 7 && !(s.hl n).waking
  if !s.hlLive n || decide (st < 4) || decide (7 < st) || asleep then s
  else if t.overflow then s.pulse (laserSrc n 9)
  else if !tlmOk t then (s.hlSlotBad n t.stuf).modHl n (fun x => { x with good := 0 })
  else
    let u := s.hlUpStart n
    let ok := t.seq.toNat == u / 1000 % 256
    let s1 := (s.modHl n (fun x => { x with good := if ok && t.onTime then x.good + 1 else 0 })).hlCfgAck n t.cfgack.toNat
    if st = 4 then s1.hlL0Check n
    else if st = 7 then
      (if 2 ≤ (s1.hl n).good then (s1.hlTo n 5).modHl n (fun x => { x with waking := false }) else s1)
    else
      let bad := if ok then 0 else (s1.hl n).seqBad + 1
      let s2 := s1.modHl n (fun x => { x with seqBad := bad })
      let s3 := if 2 ≤ bad then (s2.set (HL_STAT_TIMEERR n) 1).pulse (laserSrc n 0xC) else s2
      let s4 := if t.miss then s3.incSat (HL_HEADERR_MISSCNT n) else s3
      let s5 := if t.camdrop then s4.incSat (HL_HEADERR_DROPCNT n) else s4
      let s6 := if t.hot then s5.pulse (laserSrc n 0xE) else s5
      let s7 := s6.hlHfault n t.hfault
      let r : TlmRec := ⟨u - 16, [posCode t.posX, posCode t.posY, posCode t.posZ],
        [sgn 16 t.ix.toNat, sgn 16 t.iy.toNat, sgn 16 t.iz.toNat]⟩
      let s8 := if s7.balLive then { s7 with bal := { s7.bal with tlm := Sparse.insert s7.bal.tlm n r } } else s7
      s8.hlFclr n

/-- A PD slot arrives (R365, R388, R215); one for which the queue has no place is lost whole and raises the regulator's event
queue overflow (R39, log entry 144). -/
def State.hlPdSlot (s : State) (n : Nat) (p : PdSlot) : State :=
  if !s.hlLive n || !s.inL0 n then s
  else if p.overflow then s.pulse (laserSrc n 6)
  else if !pdOk p then s.hlSlotBad n p.stuf
  else if s.heldInReset (64 + n) then s
  else s.pdTriple n p.pd0.toNat p.pd1.toNat p.pd2.toNat

/-! ### Losses and timeouts (R385, R387) -/

/-- A training state has run out (R378, R382, R385). -/
def State.hlTimeout (s : State) (n : Nat) : State :=
  let st := s.hlState n
  let x := s.hl n
  let lim := if st = 3 then 4 * beatsPerMs else beatsPerMs
  if !s.hlLive n || !(st == 2 || st == 3 || st == 4) || decide (s.beat < x.since + lim) then s
  else if st = 3 then
    (s.set (HL_TRAIN_RATEFAIL n) (s.get (HL_TRAIN_RATEFAIL n) ||| 2 ^ s.get (HL_STAT_RATE n))).hlNegotiate n true
  else
    let s1 := (s.incSat (HL_TRAIN_ATTEMPTS n)).modHl n (fun y => { y with tries := y.tries + 1 })
    if max 1 (s.get (HL_CTL_MAXTRY n)) ≤ x.tries + 1 then (s1.hlFail n (if st = 2 then 3 else 5)).modHl n (fun y => { y with tries := 0 })
    else s1.hlDetect n

/-- Loss of frame (R387): DETECT with AUTORT, DISABLED otherwise. -/
def State.hlLoss (s : State) (n : Nat) : State :=
  let st := s.hlState n
  let idle := s.get (HL_STAT_UPPS n) ≠ 0
  if !s.hlLive n || decide (st < 2) || decide (6 < st) || idle then s
  else
    let s1 := s.set (HL_STAT_LOF n) 1
    let s2 := if st ≥ 4 then (s1.set (HL_STAT_DOWN n) 1).pulse (laserSrc n 0xA) else s1
    if s2.flag (HL_CTL_AUTORT n) then s2.hlDetect n else s2.hlIdle n 0

/-! ### Writes of HL_CTL, the servo rate, power and reset -/

/-- EN is written from clear to set (R377). -/
def State.hlEnable (s : State) (n : Nat) : State :=
  if !s.hlLive n then s
  else if s.flag (HL_CTL_EN n) then s
  else
    let s1 := s.set (HL_CTL_EN n) 1
    if s1.hlPowered then s1.hlTrain n else s1

/-- RETRAIN (R385), while EN is set (R377). -/
def State.hlRetrain (s : State) (n : Nat) : State :=
  if s.hlLive n && s.flag (HL_CTL_EN n) && s.hlPowered then s.hlTrain n else s

/-- A write of HL_CTL (R397): its RW fields, then EN, RETRAIN, L1REQ and WAKE. -/
def State.hlCtlWrite (s : State) (n v : Nat) : State :=
  let en := bit v 0
  let was := s.flag (HL_CTL_EN n)
  let s1 := (s.writeFields (0x2000700000 + 0x1000 * n) (v - v % 2)).set (HL_CTL_EN n) (b2n was)
  let s2 := if en && !was then s1.hlEnable n
    else if !en && was then
      let t := s1.set (HL_CTL_EN n) 0
      if t.hlState n = 0 then t else t.hlIdle n 0
    else s1
  let s3 := if bit v 2 then s2.hlRetrain n else s2
  let s4 := if bit v 4 then s3.hlWake n else s3
  let s5 := if bit v 3 then s4.hlL1Req n else s4
  s5.hlPmUpdate n

/-- A write of BAL_CTL.RATE (R321, R375). -/
def State.rateWrite (s : State) (v : Nat) : State :=
  let r := bits v 1 0
  if !s.balLive then s
  else if r = 3 ∨ s.flag BAL_STAT_CLOSED then s.set BAL_STAT_RATEERR 1
  else (List.range 24).foldl (fun t n => if t.inL0 n then t.hlTime n else t) (s.set BAL_CTL_RATE r)

/-- Every link with EN set trains again (a wake, R395). -/
def State.hlTrainAll (s : State) : State :=
  (List.range 24).foldl (fun t n => if t.flag (HL_CTL_EN n) && t.hlState n == 0 && t.hlLive n then t.hlTrain n else t) s

/-- Wound and below, a loss of REFA: every link DISABLED (R395). -/
def State.hlAllOff (s : State) : State := (List.range 24).foldl (fun t n => if t.hlState n = 0 then t else t.hlIdle n 0) s

/-- Rest (R395): version 3 links in L0 or L0s enter L1, all others DISABLED. -/
def State.hlRest (s : State) : State :=
  (List.range 24).foldl (fun t n =>
    let st := t.hlState n
    if (st == 5 || st == 6) && t.get (HL_STAT_VERSION n) == 3 then (t.hlTo n 7).hlPower n 2 2
    else if st = 7 ∨ st = 0 then t
    else t.hlIdle n 0) s

/-- A block reset of a head link: DISABLED, then the registers (R396, R397). -/
def State.resetHl (s : State) (n : Nat) : State :=
  let s1 := (s.hlIdle n 0).lower (laserSrc n 0xB)
  (s1.setHl n {}).resetRegs 0 (fun a => decide (0x2000700000 + 0x1000 * n ≤ a) && decide (a < 0x2000701000 + 0x1000 * n))

end Sys2Proof.Machine
end

