-- ==== Sys2Proof/Machine/ImgPix.lean ====
section
/-! DEFINITION. The pixel arithmetic of the layer pipeline (R445 to R449) and of the loupes (R452, R453). Where no rule gives
the rounding of a fraction, the integer below or above it is taken by a free value (log entry 30). -/
namespace Sys2Proof.Machine

/-- An integer next to a rational: the rational itself where it is one, else the one below or above by a free value. -/
def roundFree (q : Rat) (fr : Nat) : Int := if q.den = 1 then q.num else q.floor + ((fr % 2 : Nat) : Int)

/-- The same, cut to 0 to `hi`. -/
def roundIn (q : Rat) (fr hi : Nat) : Nat := (clampI 0 hi (roundFree q fr)).toNat

/-- The mean of rationals, 0 for none. -/
def meanQ (l : List Rat) : Rat := if l.isEmpty then 0 else l.foldl (· + ·) 0 / (l.length : Rat)

/-- A power of a non-negative rational (transfer functions). -/
def powQ (a e : Rat) : Rat := if a ≤ 0 then 0 else expQ (e * lnQ a)

/-- The list of `lo ≤ i < hi`. -/
def rangeFrom (lo hi : Nat) : List Nat := (List.range (hi - lo)).map (lo + ·)

/-! ### Mosaic (R445) -/

/-- Bands of a pattern, in plane order. -/
def bandCount (cfa : Nat) : Nat := match cfa with | 0 => 3 | 1 => 4 | 2 => 4 | _ => 1
/-- The side of a pattern. -/
def cfaSide (cfa : Nat) : Nat := match cfa with | 0 => 2 | 1 => 2 | 2 => 4 | _ => 1
/-- A pattern by rows: bands as plane numbers. -/
def cfaPattern (cfa : Nat) : List Nat :=
  match cfa with
  | 0 => [0, 1, 1, 2]
  | 1 => [0, 1, 3, 2]
  | 2 => [2, 1, 0, 1, 1, 3, 1, 3, 0, 1, 2, 1, 1, 3, 1, 3]
  | _ => [0]

/-- The band of the pixel at (x, y) (R445). -/
def ImgSet.bandAt (t : ImgSet) (x y : Nat) : Nat :=
  let n := cfaSide t.cfa
  let p := t.phase % (n * n)
  (cfaPattern t.cfa).getD (((y + p / n) % n) * n + (x + p % n) % n) 0

/-- An index mirrored at the edges. -/
def mirror (i : Int) (n : Nat) : Nat := (if i < 0 then -i else if (n : Int) ≤ i then 2 * ((n : Int) - 1) - i else i).toNat

/-! ### Stages 1 to 5 (R446) -/

/-- Normalised to 12 bits with the black level off: RAW10 0x2B, RAW12 0x2C, RAW14 0x2D. -/
def ImgSet.level (t : ImgSet) (v : Nat) : Nat :=
  (if t.dt = 0x2B then v * 4 else if t.dt = 0x2C then v else min 4095 ((v + 2) / 4)) - t.black

/-- The last good line of the same mosaic phase at or above line `y` (R437). -/
def goodLine (lines : List (Option (List Nat))) (side : Nat) : Nat → Nat → Option (List Nat)
  | 0, _ => none
  | k + 1, y =>
    match lines.getD y none with
    | some l => some l
    | none => if y < side then none else goodLine lines side k (y - side)

/-- Line `y` of a frame after repair: its lines are completed by repeating the last one (R437). -/
def ImgFrame.line (f : ImgFrame) (y : Nat) : Option (List Nat) :=
  goodLine f.lines (cfaSide f.set.cfa) (y + 1) (min y (f.lines.length - 1))

/-- The pixel at (x, y) after stages 1 to 3; a pixel that no line gives is free. -/
def ImgFrame.pixel (f : ImgFrame) (fr : Nat → Nat) (x y : Nat) : Nat :=
  match (f.line y).bind (fun l => l[x]?) with
  | some v => f.set.level v
  | none => fr (8192 * y + x) % 4096

/-- Stage 4: band `b` at (x, y), from the nearest pixels of that band within the 5 x 5 neighbourhood. -/
def ImgFrame.demosaic (f : ImgFrame) (fr : Nat → Nat) (b x y : Nat) : Rat :=
  let t := f.set
  if t.bandAt x y = b then (f.pixel fr x y : Rat)
  else
    let near : List (Nat × (Nat × Nat)) := (List.range 25).filterMap (fun k =>
      let dy : Int := (k / 5 : Nat) - 2
      let dx : Int := (k % 5 : Nat) - 2
      let px := mirror ((x : Int) + dx) t.width
      let py := mirror ((y : Int) + dy) t.height
      if t.bandAt px py = b then some ((dx * dx + dy * dy).toNat, (px, py)) else none)
    let d := near.foldl (fun m e => min m e.1) 99
    meanQ ((near.filter (fun e => e.1 == d)).map (fun e => (f.pixel fr e.2.1 e.2.2 : Rat)))

/-- A machine-vision value: stage 5 takes the IR share out of R, G and B of the RGB-IR pattern. -/
def ImgFrame.plane (f : ImgFrame) (fr : Nat → Nat) (b x y : Nat) : Nat :=
  let v := f.demosaic fr b x y
  let q := if f.set.cfa = 2 ∧ b < 3 then maxQ 0 (v - mkRat (f.set.kir.getD b 0) 65536 * f.demosaic fr 3 x y) else v
  roundIn q (fr (2 ^ 26 * (b + 1) + 8192 * y + x)) 4095

/-! ### Display and coding (R446, R447) -/

/-- R, G and B after white balance and the colour matrix, 0 to 4095; a single-band pattern gives none. -/
def ImgFrame.rgb (f : ImgFrame) (fr : Nat → Nat) (x y : Nat) : Option (List Rat) :=
  if bandCount f.set.cfa < 3 then none
  else
    let w := (List.range 3).map (fun b => (f.plane fr b x y : Rat) * mkRat (f.set.gain.getD b 0) 4096)
    some ((List.range 3).map (fun i =>
      maxQ 0 (minQ 4095 ((List.range 3).foldl (fun a j => a + mkRat (sgn 16 (f.set.ccm.getD (3 * i + j) 0)) 4096 * w.getD j 0) 0))))

/-- The sRGB transfer function (IEC 61966-2-1). -/
def srgb (l : Rat) : Rat := if l ≤ mkRat 31308 10000000 then mkRat 1292 100 * l else mkRat 1055 1000 * powQ l (mkRat 5 12) - mkRat 55 1000
/-- The BT.709 transfer function. -/
def bt709 (l : Rat) : Rat := if l < mkRat 18 1000 then mkRat 45 10 * l else mkRat 1099 1000 * powQ l (mkRat 45 100) - mkRat 99 1000

/-- One display pixel: three bytes (R447). -/
def ImgFrame.dispPixel (f : ImgFrame) (fr : Nat → Nat) (ds i j : Nat) : List Byte :=
  (List.range 3).map (fun c =>
    let ps := (List.range (ds * ds)).map (fun k => f.rgb fr (ds * i + k % ds) (ds * j + k / ds))
    let r := fr (2 ^ 29 + 4 * (8192 * j + i) + c)
    BitVec.ofNat 8 (match ps.head?.join with
      | some _ => roundIn (255 * srgb (meanQ (ps.map (fun p => (p.getD []).getD c 0)) / 4095)) r 255
      | none => r))

/-- Luma and the two chroma values of a pixel in 10-bit limited range, before rounding (R447). -/
def ImgFrame.ycc (f : ImgFrame) (fr : Nat → Nat) (x y : Nat) : Option (Rat × Rat × Rat) :=
  (f.rgb fr x y).map (fun p =>
    let e (c : Nat) : Rat := bt709 (p.getD c 0 / 4095)
    let l := mkRat 2126 10000 * e 0 + mkRat 7152 10000 * e 1 + mkRat 722 10000 * e 2
    (64 + 876 * l, 512 + 896 * (e 2 - l) / mkRat 18556 10000, 512 + 896 * (e 0 - l) / mkRat 15748 10000))

/-- A 16-bit little-endian word. -/
def word16 (v : Nat) : List Byte := leBytes v 2

/-- Bytes per line on a pitch of 64 (R447). -/
def pitch64 (n : Nat) : Nat := (n + 63) / 64 * 64

/-- Rows of bytes at a base, each row at a multiple of the pitch. -/
def rowsAt (base pitch n : Nat) (row : Nat → List Byte) : List (Nat × List Byte) := (List.range n).map (fun j => (base + pitch * j, row j))

/-- The display image (R447). -/
def ImgFrame.display (f : ImgFrame) (fr : Nat → Nat) (base : Nat) : List (Nat × List Byte) :=
  let ds := 2 ^ f.set.ds
  rowsAt base (pitch64 (3 * (f.set.width / ds))) (f.set.height / ds) (fun j =>
    (List.range (f.set.width / ds)).flatMap (fun i => f.dispPixel fr ds i j))

/-- The coding image: Y, then Cb, then Cr (R447). -/
def ImgFrame.coding (f : ImgFrame) (fr : Nat → Nat) (base : Nat) : List (Nat × List Byte) :=
  let w := f.set.width
  let h := f.set.height
  let py := pitch64 (2 * w)
  let pc := pitch64 w
  let chroma (c : Nat) (x y : Nat) : Nat :=
    let ps := (List.range 4).map (fun k => f.ycc fr (2 * x + k % 2) (2 * y + k / 2))
    let r := fr (2 ^ 30 + 4 * (8192 * y + x) + c)
    match ps.head?.join with
    | some _ => roundIn (meanQ (ps.map (fun p => match p with | some q => if c = 1 then q.2.1 else q.2.2 | none => 0))) r 1023
    | none => r % 1024
  rowsAt base py h (fun y => (List.range w).flatMap (fun x =>
    let r := fr (2 ^ 30 + 4 * (8192 * y + x))
    word16 (match f.ycc fr x y with | some q => roundIn q.1 r 1023 | none => r % 1024))) ++
  rowsAt (base + py * h) pc (h / 2) (fun y => (List.range (w / 2)).flatMap (fun x => word16 (chroma 1 x y))) ++
  rowsAt (base + py * h + pc * (h / 2)) pc (h / 2) (fun y => (List.range (w / 2)).flatMap (fun x => word16 (chroma 2 x y)))

/-- The machine-vision planes (R447). -/
def ImgFrame.vision (f : ImgFrame) (fr : Nat → Nat) (base : Nat) : List (Nat × List Byte) :=
  let w := f.set.width
  let h := f.set.height
  let p := pitch64 (2 * w)
  (List.range (bandCount f.set.cfa)).flatMap (fun b =>
    rowsAt (base + p * h * b) p h (fun y => (List.range w).flatMap (fun x => word16 (f.plane fr b x y))))

/-! ### Statistics (R448, R449) -/

/-- The ROI cut at the frame's edges: x0, y0, and one past x1, y1. -/
def ImgSet.roi (t : ImgSet) : Nat × Nat × Nat × Nat := (t.x0, t.y0, min (t.x1 + 1) t.width, min (t.y1 + 1) t.height)

/-- The histogram of a band over the ROI. -/
def ImgFrame.histogram (f : ImgFrame) (fr : Nat → Nat) (b : Nat) : List Nat :=
  let (x0, y0, x1, y1) := f.set.roi
  let vs := (rangeFrom y0 y1).flatMap (fun y => (rangeFrom x0 x1).map (fun x => f.plane fr b x y / 16))
  (List.range 256).map (fun k => if b < bandCount f.set.cfa then vs.countP (· == k) else 0)

/-- The zone means of a band, 12.4. -/
def ImgFrame.zones (f : ImgFrame) (fr : Nat → Nat) (b : Nat) : List Nat :=
  (List.range 256).map (fun k =>
    let lo (i n : Nat) := i * n / 16
    let ys := rangeFrom (lo (k / 16) f.set.height) (lo (k / 16 + 1) f.set.height)
    let xs := rangeFrom (lo (k % 16) f.set.width) (lo (k % 16 + 1) f.set.width)
    if b < bandCount f.set.cfa then
      roundIn (16 * meanQ (ys.flatMap (fun y => xs.map (fun x => (f.plane fr b x y : Rat))))) (fr (2 ^ 28 + 256 * b + k)) 65535
    else 0)

/-- The streak profile p (R449). -/
def ImgFrame.profile (f : ImgFrame) (fr : Nat → Nat) : List Rat :=
  let (x0, y0, x1, y1) := f.set.roi
  let v (x y : Nat) : Rat := if f.set.band < bandCount f.set.cfa then (f.plane fr f.set.band x y : Rat) else 0
  if f.set.axis then (rangeFrom y0 y1).map (fun y => meanQ ((rangeFrom x0 x1).map (fun x => v x y)))
  else (rangeFrom x0 x1).map (fun x => meanQ ((rangeFrom y0 y1).map (fun y => v x y)))

/-- |d[i]| of the profile (R449). -/
def streakDev (hw : Nat) (p : List Rat) : List Rat :=
  (List.range p.length).map (fun i =>
    absQ (p.getD i 0 - meanQ ((rangeFrom (i - hw) (min (i + hw + 1) p.length)).map (fun j => p.getD j 0))))

/-- STRKCNT, STRKMAX and STRKPOS (R449). -/
def ImgFrame.streak (f : ImgFrame) (fr : Nat → Nat) : Nat × Nat × Nat :=
  if !f.set.strken then (0, 0, 0)
  else
    let d := streakDev f.set.hw (f.profile fr)
    let top := d.foldl maxQ 0
    (min (d.countP (fun v => decide (mkRat f.set.thr 16 < v))) 65535, roundIn (16 * top) (fr (2 ^ 28 + 2 ^ 20)) 65535,
      (d.findIdx? (· == top)).getD 0)

/-- A list of words, little-endian. -/
def words32 (l : List Nat) : List Byte := l.flatMap (fun w => leBytes w 4)

/-- The slot header (R448): `flags` are bits [21:16] of word 1 from DONE up. -/
def ImgFrame.header (f : ImgFrame) (flags : Nat) (strk : Nat × Nat × Nat) : List Byte :=
  words32 ([f.frame, f.gen + flags * 2 ^ 16, f.fs % 2 ^ 32, f.fs / 2 ^ 32 % 2 ^ 16,
    min f.lines.length 65535 + f.bad % 65536 * 65536, strk.1 + strk.2.1 * 65536, strk.2.2] ++ List.replicate 9 0)

/-- SHORT, LONG and BADLINE of a frame as header flags (R448). -/
def ImgFrame.flags (f : ImgFrame) : Nat := 4 * b2n f.short + 8 * b2n f.long + 16 * b2n (f.bad != 0)

/-- The statistics area without its header (R448). -/
def ImgFrame.statistics (f : ImgFrame) (fr : Nat → Nat) (base : Nat) : List (Nat × List Byte) :=
  (List.range 4).map (fun b => (base + 0x40 + 0x400 * b, words32 (f.histogram fr b))) ++
  (List.range 4).map (fun b => (base + 0x1040 + 0x200 * b, (f.zones fr b).flatMap word16)) ++
  (if f.set.strken then
    [(base + 0x1840, ((f.profile fr).zip (List.range 65536)).flatMap (fun e =>
      word16 (roundIn (16 * e.1) (fr (2 ^ 28 + 2 ^ 21 + e.2)) 65535)))]
  else [])

/-! ### Loupe features (R452, R453) -/

/-- Stage 2 of a loupe's pixel: black level, and listed defects replaced by the mean of their neighbours in the line. -/
def lpeStage2 (black : Nat) (defects : List (Nat × Nat)) (w y : Nat) (row : List Nat) (x : Nat) : Rat :=
  let v (i : Nat) : Rat := ((row.getD i 0 - black : Nat) : Rat)
  if defects.contains (x, y) then
    if x = 0 then v 1 else if x + 1 = w then v (x - 1) else (v (x - 1) + v (x + 1)) / 2
  else v x

/-- The features of a frame: AREA, CX, CY, LENGTH, SPAT (R453). `pix x y` is the value after stage 3, (dx, dy) the direction
of travel in the camera frame. -/
def lpeFeatures (w h thr spthr guard : Nat) (pix : Nat → Nat → Rat) (dx dy : Rat) (fr : Nat → Nat) : List Nat :=
  let all := (List.range h).flatMap (fun y => (List.range w).map (fun x => (x, y)))
  let pool := all.filter (fun p => decide ((thr : Rat) < pix p.1 p.2))
  let sum (g : Nat × Nat → Rat) : Rat := pool.foldl (fun a p => a + g p) 0
  let m := sum (fun p => pix p.1 p.2)
  let c (g : Nat × Nat → Rat) (k : Nat) : Nat := if pool.isEmpty then 0 else roundIn (256 * (sum (fun p => g p * pix p.1 p.2) / m)) (fr k) 65535
  let proj := pool.map (fun p => (p.1 : Rat) * dx + (p.2 : Rat) * dy)
  let len : Nat := match proj with
    | [] => 0
    | q :: t => roundIn (t.foldl maxQ q - t.foldl minQ q + 1) (fr 2) 255
  let xs := pool.map (fun p => p.1)
  let ys := pool.map (fun p => p.2)
  let lo (l : List Nat) : Nat := (match l with | [] => 0 | a :: t => t.foldl min a) - guard
  let hi (l : List Nat) : Nat := l.foldl max 0 + guard
  let hot (x y : Nat) : Bool := decide (x < w) && decide (y < h) && decide ((spthr : Rat) < pix x y)
  -- a run is named by its first pixel; its length follows
  let runLen (x y : Nat) : Nat := ((rangeFrom x w).takeWhile (fun i => hot i y)).length
  let outside (x y n : Nat) : Bool :=
    pool.isEmpty || decide (y < lo ys) || decide (hi ys < y) || decide (x + n - 1 < lo xs) || decide (hi xs < x)
  let starts (y : Nat) : List (Nat × Nat) :=
    ((List.range w).filter (fun x => hot x y && (x == 0 || !hot (x - 1) y))).map (fun x => (x, runLen x y))
  let runs (y : Nat) := (starts y).filter (fun r => outside r.1 y r.2)
  let tops := (List.range h).flatMap (fun y => (runs y).filter (fun r =>
    y == 0 || !(runs (y - 1)).any (fun q => decide (q.1 ≤ r.1 + r.2) && decide (r.1 ≤ q.1 + q.2))))
  [min pool.length 0xFFFF, c (fun p => (p.1 : Rat)) 0, c (fun p => (p.2 : Rat)) 1, len, min tops.length 255]

end Sys2Proof.Machine
end

