-- ==== Sys2Proof/Machine/ImgOps.lean ====
section
/-! DEFINITION. The imaging block (R435 to R464): contexts, slots and admission, latch points, camera triggers, loupes, raw
taps and the melt-pool record stream. -/
namespace Sys2Proof.Machine

/-- Context `c` beside its registers. -/
def State.ctx (s : State) (c : Nat) : CtxSt := Sparse.get {} s.img.ctxs c
/-- A context replaced. -/
def State.setCtx (s : State) (c : Nat) (x : CtxSt) : State := { s with img := { s.img with ctxs := Sparse.put {} s.img.ctxs c x } }
/-- Loupe `n` beside its registers. -/
def State.lpe (s : State) (n : Nat) : LpeSt := Sparse.get {} s.img.lpes n
/-- A loupe replaced. -/
def State.setLpe (s : State) (n : Nat) (x : LpeSt) : State := { s with img := { s.img with lpes := Sparse.put {} s.img.lpes n x } }

/-- The imaging block takes input (R435): in the modes listed, out of reset. -/
def State.imgRuns (s : State) : Bool :=
  let m := s.modeCode
  !s.heldInReset 132 && s.rst.phase == .off &&
  (m == mConfigure || m == mIdle || m == mArmed || m == mExpose || m == mRecoat || m == mCalibrate || m == mTune || m == mHalted ||
    m == mJoin)

/-- Writes of frames and taps go out as master 0x06 (R18, R24); they are carried out at the command's end. -/
def State.imgWrite (s : State) (ecc : Ecc) (l : List (Nat × List Byte)) : State :=
  { s with own := s.own ++ ((l.filter (fun e => !e.2.isEmpty)).map (fun e => OwnWrite.issue 0 (e.1 % 2 ^ 40) e.2 ecc)) }

/-! ### Settings and latch points (R443, R444, R460) -/

/-- The RWS registers of context `c`. -/
def inCtx (c a : Nat) : Bool := decide (0x2000901000 + 0x100 * c ≤ a) && decide (a < 0x2000901100 + 0x100 * c)
/-- The registers of loupe `n`. -/
def inLpe (n a : Nat) : Bool := decide (0x2000902000 + 0x80 * n ≤ a) && decide (a < 0x2000902080 + 0x80 * n)

/-- The shadow of a context passes to the values in force. -/
def State.ctxCommit (s : State) (c : Nat) : State := (s.commitShadow 0x8000 (inCtx c)).set (IMG_CTX_STAT_SHPEND c) 0
/-- The shadow of a loupe passes to the values in force. -/
def State.lpeCommit (s : State) (n : Nat) : State := (s.commitShadow 0x8000 (inLpe n)).set (LPE_STAT_SHPEND n) 0

/-- The settings in force in a context. -/
def State.ctxSet (s : State) (c : Nat) : ImgSet :=
  let l (f : Fld) := s.live f
  { width := l (IMG_CTX_GEOM_WIDTH c), height := l (IMG_CTX_GEOM_HEIGHT c), dt := s.get (IMG_CTX_CTL_DT c)
    cfa := l (IMG_CTX_CTL_CFA c), phase := l (IMG_CTX_CTL_PHASE c), strken := s.liveFlag (IMG_CTX_OUT_STRKEN c)
    ds := l (IMG_CTX_OUT_DS c), stat := s.liveFlag (IMG_CTX_OUT_STATEN c), mv := s.liveFlag (IMG_CTX_OUT_MVEN c)
    code := s.liveFlag (IMG_CTX_OUT_CODEEN c), disp := s.liveFlag (IMG_CTX_OUT_DISPEN c), black := l (IMG_CTX_BLACK_BLACK c)
    gain := [l (IMG_CTX_WB_RG_GAIN_R c), l (IMG_CTX_WB_RG_GAIN_G c), l (IMG_CTX_WB_B_GAIN_B c)]
    ccm := [l (IMG_CTX_CCM_0_C00 c), l (IMG_CTX_CCM_0_C01 c), l (IMG_CTX_CCM_1_C02 c), l (IMG_CTX_CCM_1_C10 c), l (IMG_CTX_CCM_2_C11 c),
      l (IMG_CTX_CCM_2_C12 c), l (IMG_CTX_CCM_3_C20 c), l (IMG_CTX_CCM_3_C21 c), l (IMG_CTX_CCM_4_C22 c)]
    kir := [l (IMG_CTX_KIR_RG_KIR_R c), l (IMG_CTX_KIR_RG_KIR_G c), l (IMG_CTX_KIR_B_KIR_B c)]
    x0 := l (IMG_CTX_ROI0_X0 c), y0 := l (IMG_CTX_ROI0_Y0 c), x1 := l (IMG_CTX_ROI1_X1 c), y1 := l (IMG_CTX_ROI1_Y1 c)
    axis := s.liveFlag (IMG_CTX_STRK_AXIS c), band := l (IMG_CTX_STRK_BAND c), hw := l (IMG_CTX_STRK_HW c), thr := l (IMG_CTX_STRK_THR c) }

/-- The latch point of the frame at the port (R443, R444). -/
def State.ctxLatch (s : State) (c : Nat) : State :=
  let x := s.ctx c
  let s1 := if x.dirty then s.incWrap (IMG_CTX_STAT_GEN c) else s
  (s1.setCtx c { x with latched := true, dirty := false, latchAt := s.beat }).ctxCommit c

/-! ### Admission (R439 to R441) -/

/-- NBUF; 0 acts as 16 (R462). -/
def State.ctxBufs (s : State) (c : Nat) : Nat := let n := s.get (IMG_CTX_CTL_NBUF c); if n = 0 then 16 else n

/-- R_c in pixels per second (R440). -/
def State.ctxRate (s : State) (c : Nat) : Rat := (s.ctx c).rate.getD ((s.get (IMG_CTX_RATE_DECLARED c) : Rat) * 1000000)

/-- IMG_CTX_MRATE of a context that has completed no frame since EN was set: the declared rate (R440, log entry 149). -/
def State.ctxShowRate (s : State) (c : Nat) : State :=
  if s.flag (IMG_CTX_CTL_EN c) && (s.ctx c).rate.isNone then s.set (IMG_CTX_MRATE_R_C c) (s.get (IMG_CTX_RATE_DECLARED c)) else s

/-- The slot header of an aborted frame: DROPPED without DONE (R441). -/
def State.ctxAbortHeader (s : State) (c : Nat) (f : ImgFrame) (flags : Nat) : State :=
  if f.set.stat then
    s.imgWrite .clean [(s.pair (IMG_CTX_BASE_LO_ADDR c) (IMG_CTX_BASE_HI_ADDR c) + f.slot * (64 * s.get (IMG_CTX_STRIDE_VALUE c)) +
      64 * s.get (IMG_CTX_STATOFS_VALUE c), f.header (flags + 2) (0, 0, 0))]
  else s

/-- A frame in progress is aborted (R441, R442). -/
def State.ctxAbort (s : State) (c flags : Nat) (count : Bool) : State :=
  match (s.ctx c).cur with
  | none => s
  | some f =>
    let s1 := ((s.setCtx c { s.ctx c with cur := none }).set (IMG_CTX_STAT_ACTIVE c) 0).ctxAbortHeader c f (f.flags + flags)
    if count then s1.incSat (IMG_CTX_DROP_OVLDROP c) else s1

/-- The pixel budget of all contexts (R441). -/
def pixBudget : Rat := 1200000000

/-- Context `k` yields to context `c`: a greater PRIO, or the same and a higher port. -/
def State.ctxBelow (s : State) (k c : Nat) : Bool :=
  let p (i : Nat) := s.get (IMG_CTX_CTL_PRIO i)
  decide (p c < p k) || (p k == p c && decide (c < k))

/-- Contexts of lower priority with a frame in progress, the lowest priority first (R441). -/
def State.ctxVictims (s : State) (c : Nat) : List Nat :=
  let v := (List.range 4).filter (fun k => (s.ctx k).cur.isSome && k != c && s.ctxBelow k c)
  v.mergeSort (fun a b => s.ctxBelow a b)

/-- The decision of R441: the contexts to abort before the frame is admitted, or none where it is dropped. -/
def State.ctxDecide (s : State) (c : Nat) : Option (List Nat) :=
  let load (gone : List Nat) : Rat :=
    (List.range 4).foldl (fun a k => if (s.ctx k).cur.isSome && k != c && !gone.contains k then a + s.ctxRate k else a) (s.ctxRate c)
  let v := s.ctxVictims c
  ((List.range (v.length + 1)).map (fun i => v.take i)).find? (fun g => decide (load g ≤ pixBudget))

/-- The frame at a port ends (R437, R440, R443). -/
def State.ctxFrameEnd (s : State) (c : Nat) : State :=
  let x := s.ctx c
  if !x.port then s
  else
    let s1 := if x.latched then s else s.ctxLatch c
    let y := s1.ctx c
    match y.cur with
    | none => s1.setCtx c { y with port := false }
    | some f =>
      let short := decide (f.lines.length < f.set.height)
      let s2 := if short then s1.set (IMG_CTX_STAT_SHORT c) 1 else s1
      let rate := if 2 ≤ y.portLines ∧ y.lineFirst < y.lineLast then
          some ((f.set.width : Rat) * 400000000 * ((y.portLines - 1 : Nat) : Rat) / ((y.lineLast - y.lineFirst : Nat) : Rat))
        else y.rate
      let s3 := match rate with
        | some r => (s2.set (IMG_CTX_MRATE_R_C c) (roundIn (r / 1000000) s2.freeNext 4095)).draw
        | none => s2
      (s3.setCtx c { y with port := false, cur := none, done := y.done ++ [{ f with short := short }], rate := rate }).set
        (IMG_CTX_STAT_ACTIVE c) 0

/-- A Frame Start of the context's virtual channel (R438, R439, R441). -/
def State.ctxFrameStart (s0 : State) (c : Nat) : State :=
  if !s0.imgRuns || !s0.flag (IMG_CTX_CTL_EN c) then s0
  else
    let s := (s0.ctxFrameEnd c).incWrap (IMG_CTX_FRAME_FRAME c)
    let x := s.ctx c
    let s1 := s.setCtx c { x with port := true, portLines := 0, latched := false }
    let free := s.get (IMG_CTX_SLOTS_FREE c)
    let slot := x.next % s.ctxBufs c
    if !free.testBit slot then s1.incSat (IMG_CTX_DROP_BUFDROP c)
    else match s1.ctxDecide c with
    | none => s1.incSat (IMG_CTX_DROP_OVLDROP c)
    | some gone =>
      let s2 := gone.foldl (fun t k => t.ctxAbort k 0 true) s1
      let f : ImgFrame :=
        { frame := s.get (IMG_CTX_FRAME_FRAME c), gen := s.get (IMG_CTX_STAT_GEN c), fs := s.beat48, slot, set := s.ctxSet c }
      (((s2.setCtx c { s2.ctx c with cur := some f, next := (slot + 1) % s.ctxBufs c, lineFirst := 0, lineLast := 0 }).set
        (IMG_CTX_SLOTS_FREE c) (putBit free slot false)).set (IMG_CTX_STAT_ACTIVE c) 1)

/-- A long packet arrives (R436, R437, R442, R443). -/
def State.ctxLine (s0 : State) (c : Nat) (p : LinePacket) : State :=
  let x0 := s0.ctx c
  if !s0.imgRuns || !s0.flag (IMG_CTX_CTL_EN c) || !p.headOk || !x0.port || p.vc.val != s0.get (IMG_CTX_CTL_VC c) ||
      p.dt.toNat != s0.get (IMG_CTX_CTL_DT c) then s0
  else
    -- the height of the frame at the port: its own set, in force until the latch point
    let height := match x0.cur with | some f => f.set.height | none => s0.live (IMG_CTX_GEOM_HEIGHT c)
    let point := height - 1 - s0.get (IMG_CTX_GUARD_GUARD c)
    let s := if !x0.latched && decide (point ≤ x0.portLines) then s0.ctxLatch c else s0
    let x := s.ctx c
    let s1 := s.setCtx c
      { x with portLines := x.portLines + 1, lineFirst := if x.portLines = 0 then s.beat else x.lineFirst, lineLast := s.beat }
    if p.overflow then
      if x.cur.isSome then ((s1.ctxAbort c 32 false).set (IMG_CTX_STAT_OVERRUN c) 1).pulse (0x028 + c)
      else s1
    else match x.cur with
    | none => s1
    | some f =>
      if f.set.height ≤ f.lines.length then
        (s1.setCtx c { s1.ctx c with cur := some { f with long := true } }).set (IMG_CTX_STAT_LONG c) 1
      else
        let g := { f with
          lines := f.lines ++ [if p.crcOk then some (p.pixels.map BitVec.toNat) else none]
          bad := if p.crcOk then f.bad else f.bad + 1 }
        let s2 := s1.setCtx c { s1.ctx c with cur := some g }
        if p.crcOk then s2 else s2.set (IMG_CTX_STAT_BADLINE c) 1

/-- The free values of a frame's pixels, by position (log entry 30). -/
def State.pixFree (s : State) : Nat → Nat := fun k => (Config.freeValue (s.free + k)).toNat

/-- Free values a frame takes. -/
def pixDraws : Nat := 2 ^ 33

/-- The oldest ended frame's outputs and header are written, LASTSLOT is set and the frame interrupt goes out (R447,
R448). -/
def State.ctxComplete (s : State) (c : Nat) (ecc : Ecc) : State :=
  let x := s.ctx c
  match x.done with
  | [] => s
  | f :: t =>
    if !s.imgRuns then s
    else
      let fr := s.pixFree
      let slot := s.pair (IMG_CTX_BASE_LO_ADDR c) (IMG_CTX_BASE_HI_ADDR c) + f.slot * (64 * s.get (IMG_CTX_STRIDE_VALUE c))
      let ofs (r : Fld) : Nat := slot + 64 * s.get r
      let st := ofs (IMG_CTX_STATOFS_VALUE c)
      let out := (if f.set.disp then f.display fr (ofs (IMG_CTX_DISPOFS_VALUE c)) else []) ++
        (if f.set.code then f.coding fr (ofs (IMG_CTX_CODEOFS_VALUE c)) else []) ++
        (if f.set.mv then f.vision fr (ofs (IMG_CTX_MVOFS_VALUE c)) else []) ++
        (if f.set.stat then f.statistics fr st ++ [(st, f.header (1 + f.flags) (f.streak fr))] else [])
      let s1 := { s.setCtx c { x with done := t } with free := s.free + pixDraws }
      ((s1.imgWrite ecc out).set (IMG_CTX_SLOTS_LASTSLOT c) f.slot).pulseLine (26 + c)

/-- Slots return to FREE (R439). -/
def State.ctxRelease (s : State) (c v : Nat) : State :=
  if s.heldInReset 132 then s else s.set (IMG_CTX_SLOTS_FREE c) (s.get (IMG_CTX_SLOTS_FREE c) ||| (v % 65536))

/-- The RW fields of a write of IMG_CTX_CTL that are open to writing (R460). -/
def State.ctxCtlFields (s : State) (c v : Nat) : State :=
  if s.flag (IMG_CTX_CTL_EN c) then
    let keep := [(IMG_CTX_CTL_NBUF c, bits v 27 24), (IMG_CTX_CTL_LANES c, bits v 23 22), (IMG_CTX_CTL_VC c, bits v 17 16), (IMG_CTX_CTL_DT c, bits v 13 8)]
    let s1 := if keep.any (fun p => s.get p.1 != p.2) then s.set IMG_STAT_WERR 1 else s
    s1.set (IMG_CTX_CTL_PRIO c) (bits v 21 20)
  else
    [(IMG_CTX_CTL_NBUF c, bits v 27 24), (IMG_CTX_CTL_LANES c, bits v 23 22), (IMG_CTX_CTL_PRIO c, bits v 21 20),
      (IMG_CTX_CTL_VC c, bits v 17 16), (IMG_CTX_CTL_DT c, bits v 13 8)].foldl (fun t p => t.set p.1 p.2) s

/-- A written RWS value of a context waits for the latch point; with EN clear it is in force at once (R460). -/
def State.ctxRws (s : State) (c : Nat) : State :=
  if s.flag (IMG_CTX_CTL_EN c) then (s.setCtx c { s.ctx c with dirty := true }).set (IMG_CTX_STAT_SHPEND c) 1 else s.ctxCommit c

/-- A write of IMG_CTX_CTL (R462): setting EN frees slots 0 to NBUF - 1 and starts FRAME at 0; clearing it ends the frame in
progress without output. -/
def State.ctxCtlWrite (s : State) (c v : Nat) : State :=
  if s.heldInReset 132 then s
  else
    let was := s.flag (IMG_CTX_CTL_EN c)
    let s1 := (((s.ctxCtlFields c v).set (IMG_CTX_CTL_CFA c) (bits v 5 4)).set (IMG_CTX_CTL_PHASE c) (bits v 3 0))
    let s2 := if s1.get (IMG_CTX_CTL_CFA c) = s.get (IMG_CTX_CTL_CFA c) ∧ s1.get (IMG_CTX_CTL_PHASE c) = s.get (IMG_CTX_CTL_PHASE c) then s1
      else s1.ctxRws c
    if bit v 31 && !was then
      (((s2.ctxCommit c).setCtx c {}).set (IMG_CTX_CTL_EN c) 1 |>.set (IMG_CTX_SLOTS_FREE c) (2 ^ s2.ctxBufs c - 1)).set (IMG_CTX_FRAME_FRAME c) 0
        |>.ctxShowRate c
    else if !bit v 31 && was then
      (((s2.setCtx c {}).set (IMG_CTX_CTL_EN c) 0).set (IMG_CTX_STAT_ACTIVE c) 0)
    else s2

/-! ### Camera triggers (R450) -/

/-- CAMTRIG_c goes active for TRIG_WIDTH beats from beat `b`. -/
def State.camPulse (s : State) (c b : Nat) : State :=
  let x := s.ctx c
  (s.setCtx c { x with trigWait := false, trigUntil := b + s.live (IMG_CTX_TRIG_WIDTH_VALUE c) }).drivePin
    (0x10 + c) (if s.flag (IMG_CTX_TRIG_POL c) then 0 else 1)

/-- The scheduled beat of a trigger (R450). -/
def State.camDue (s : State) (c : Nat) : Bool :=
  let p := s.live (IMG_CTX_TRIG_PERIOD_VALUE c)
  let ph := s.live (IMG_CTX_TRIG_PHASE_VALUE c)
  p != 0 && s.beat % p == ph % p

/-- A trigger may start: the latch point of the previous frame lies 4 beats back (R450). -/
def State.camReady (s : State) (c : Nat) : Bool := let x := s.ctx c; x.latched && (x.latchAt == 0 || decide (x.latchAt + 4 ≤ s.beat))

/-- A scheduled trigger starts, or waits for the latch point (R450): whether it started on this beat, and the state. -/
def State.camTrigger (s : State) (c : Nat) : Bool × State :=
  let x := s.ctx c
  if !s.imgRuns || !s.flag (IMG_CTX_TRIG_TRIGEN c) then (false, s)
  else if x.trigWait && s.camReady c then (true, (s.camPulse c s.beat).set (IMG_CTX_STAT_TRIGLATE c) 1)
  else if s.camDue c then
    if s.camReady c then (true, s.camPulse c s.beat) else (false, s.setCtx c { x with trigWait := true })
  else (false, s)

/-- CAMTRIG_c goes to its inactive level (R435, R450). -/
def State.camIdle (s : State) (c : Nat) : State := s.emit (.pin (0x10 + c) (if s.flag (IMG_CTX_TRIG_POL c) then 1 else 0))

/-- The pulses that end on this beat (R450). -/
def State.camEnds (s : State) : State :=
  (List.range 4).foldl (fun t c => if (t.ctx c).trigUntil = t.beat ∧ t.beat ≠ 0 then t.camIdle c else t) s

/-- Camera triggers inactive (R435). -/
def State.camOff (s : State) : State :=
  (List.range 4).foldl (fun t c =>
    let x := t.ctx c
    let u := t.setCtx c { x with trigWait := false, trigUntil := 0 }
    if t.beat < x.trigUntil then u.camIdle c else u) s

/-- SOFT: one trigger on the next beat (R450). -/
def State.camSoft (s : State) (c : Nat) : Bool × State := if s.imgRuns then (true, s.camPulse c (s.beat + 1)) else (false, s)

/-! ### The melt-pool record stream (R458) -/

/-- Records the ring holds at most: 2^LOG2 with LOG2 from 10 to 24. -/
def State.mprSize (s : State) : Nat := 2 ^ (max 10 (min 24 (s.get IMG_MPR_SIZE_LOG2)))

/-- Places left in the ring. -/
def State.mprRoom (s : State) : Nat :=
  let z := s.mprSize
  (s.get IMG_MPR_RPTR_RPTR + 2 * 2 ^ 24 - s.get IMG_MPR_WPTR_WPTR - 1) % z

/-- A loupe's record enters the stream, or is dropped while the ring is full (R458). -/
def State.mprPush (s : State) (n : Nat) (words : List Nat) : State :=
  if !s.flag IMG_CTL_MPREN then s
  else if s.mprRoom ≤ s.img.recs.length then
    let s1 := s.incSat IMG_MPR_DROP_COUNT
    if s1.flag IMG_STAT_MPROVF then s1 else (s1.set IMG_STAT_MPROVF 1).pulse 0x02D
  else { s with img := { s.img with recs := s.img.recs ++ [(n, words)] } }

/-- The oldest record of source `k`: loupe k below 24, else regulator k - 24 with EVSTREAM (R458, R234). -/
def State.mprSource (s : State) (k : Nat) : Option (List Nat) :=
  if k < 24 then (s.img.recs.find? (fun e => e.1 == k)).map (·.2)
  else if s.liveFlag (REG_CTL_EVSTREAM (k - 24)) then (s.reg (k - 24)).queue.head? else none

/-- The record of a source leaves its queue. -/
def State.mprPop (s : State) (k : Nat) : State :=
  if k < 24 then
    match s.img.recs.findIdx? (fun e => e.1 == k) with
    | some i => { s with img := { s.img with recs := s.img.recs.eraseIdx i } }
    | none => s
  else s.popEvent (k - 24)

/-- One record is written, the next source in turn (R458); the next waits while one is on its way through the fabric. -/
def State.mprWrite (s : State) (ecc : Ecc) : State :=
  if s.heldInReset 132 || !s.flag IMG_CTL_MPREN || s.mprRoom == 0 || s.img.mprFar ||
    s.skz.reqs.any (fun r => r.own == some 1) then s
  else match ((List.range 48).map (fun i => (s.img.rr + i) % 48)).find? (fun k => (s.mprSource k).isSome) with
  | none => s
  | some k =>
    let a := s.pair IMG_MPR_BASE_LO_ADDR IMG_MPR_BASE_HI_ADDR + 32 * s.get IMG_MPR_WPTR_WPTR
    let s1 := s.mprPop k
    { s1 with
      img := { s1.img with rr := (k + 1) % 48, mprFar := true }
      own := s1.own ++ [.issue 1 (a % 2 ^ 40) (words32 ((s.mprSource k).getD [])) ecc] }

/-- The write of a record has ended (R458): the write pointer moves on, or an error ends the stream. -/
def State.mprEnded (s : State) (ok : Bool) : State :=
  if !s.img.mprFar then s
  else
    let t := { s with img := { s.img with mprFar := false } }
    if ok then t.set IMG_MPR_WPTR_WPTR ((t.get IMG_MPR_WPTR_WPTR + 1) % t.mprSize)
    else ((t.set IMG_STAT_MPRERR 1).set IMG_CTL_MPREN 0).pulse 0x02C

/-! ### Loupes (R451 to R457) -/

/-- Width and height in force of a loupe. -/
def State.lpeGeom (s : State) (n : Nat) : Nat × Nat := (s.live (LPE_GEOM_WIDTH n), s.live (LPE_GEOM_HEIGHT n))

/-- The setpoint a frame takes: the latest whose tick lies at or before its frame beat (R454). -/
def State.lpeSetpoint (s : State) (n beat : Nat) : Option SpRec := (Sparse.get [] s.img.hist n).find? (fun r => decide (r.beat ≤ beat))

/-- A frame begins at its first line (R451, R454, R457, R460). -/
def State.lpeBegin (s0 : State) (n frame : Nat) : State :=
  let s := s0.lpeCommit n
  let x := s.lpe n
  let d := match x.prev with | some p => (frame + 65536 - p) % 65536 | none => 1
  let gap := if 1 < d ∧ d < 32768 then d - 1 else 0
  let (w, h) := s.lpeGeom n
  let tap := s.get (LPE_CTL_TAP n)
  let need := 64 + 2 * w * h
  let cred := s.get IMG_RAWCRED_CREDIT
  let on := tap != 0 && decide (need ≤ cred)
  let s1 := if on then s.set IMG_RAWCRED_CREDIT (cred - need) else if tap ≠ 0 then s.incSat (LPE_CNT_TAPDROP n) else s
  (((s1.addSat (LPE_CNT_GAPCNT n) gap).setLpe n
    { x with active := true, frame := frame, gap := gap, rows := [], sp := none, tap := tap, tapOn := on }).set (LPE_STAT_ACTIVE n) 1).set
      (LPE_FRAME_LAST n) frame

/-- The pixel of a loupe's frame after stage 2; 0 where its line is missing. -/
def State.lpeStage2At (s : State) (n : Nat) (rows : List (Nat × List Nat)) (w x y : Nat) : Rat :=
  match rows.find? (fun r => r.1 == y) with
  | some (_, row) =>
    let defs := (List.range 16).filterMap (fun k =>
      if s.liveFlag (LPE_DEF_VALID n k) then some (s.live (LPE_DEF_X n k), s.live (LPE_DEF_Y n k)) else none)
    lpeStage2 (s.live (LPE_BLACK_BLACK n)) defs w y row x
  | none => 0

/-- Words 0 to 3 of a loupe record (R455, R233). -/
def State.lpeHead (s : State) (n beat : Nat) (sp : Option SpRec) : List Nat :=
  let lb := s.lbeat - (if s.lbRun then s.beat - beat else 0)
  let tag := match sp with | some r => r.tag | none => s.freeNext
  let layer := match sp with | some r => r.layer | none => s.freeNext / 2 ^ 32
  [tag % 2 ^ 32, layer % 2 ^ 32, lb % 2 ^ 32, lb / 2 ^ 32 % 65536 + 8 * 65536 + n * 2 ^ 24]

/-- A frame of a loupe ends (R451 to R456). -/
def State.lpeEnd (s : State) (n : Nat) : State :=
  let x := s.lpe n
  if !x.active then s
  else
    let (w, h) := s.lpeGeom n
    let have_ (y : Nat) : Bool := x.rows.any (fun r => r.1 == y)
    let missing := (List.range h).countP (fun y => !have_ y)
    let p2 (i j : Nat) : Rat := s.lpeStage2At n x.rows w i j
    let p3 (i j : Nat) : Rat := if have_ j then maxQ 0 (p2 i j - x.bkg) else 0
    let rim := (List.range h).flatMap (fun j => ((List.range w).filter (fun i =>
      decide (i < 4) || decide (w ≤ i + 4) || decide (j < 4) || decide (h ≤ j + 4))).map (fun i => p2 i j))
    let alpha := max 1 (s.live (LPE_CTL_ALPHA n))
    let bkg := if missing = 0 then x.bkg + (meanQ rim - x.bkg) / ((2 ^ alpha : Nat) : Rat) else x.bkg
    let fr (k : Nat) : Nat := s.pixFree (16 + k)
    -- direction of travel in the camera frame (R453)
    let rot := -(2 * piQ * mkRat (s.live (LPE_ROT_ROT n)) 65536)
    let (vx, vy) : Rat × Rat := match x.sp with | some r => (r.vx, r.vy) | none => (0, 0)
    let v := sqrtQ (vx * vx + vy * vy)
    let (dx, dy) : Rat × Rat := if v = 0 then (1, 0)
      else ((vx * cosQ rot - vy * sinQ rot) / v, (vx * sinQ rot + vy * cosQ rot) / v)
    let f := lpeFeatures w h (s.live (LPE_THR_THR n)) (s.live (LPE_THR_SPTHR n)) (s.live (LPE_GUARD_VALUE n)) p3 dx dy fr
    let g (k : Nat) : Nat := f.getD k 0
    -- a frame before any setpoint carries no tag, layer or place that a rule gives (log entry 31)
    let (px, py, gate) : Nat × Nat × Bool := match x.sp with
      | some r => (r.x, r.y, r.gate)
      | none => (s.pixFree 1 % 2 ^ 24, s.pixFree 2 % 2 ^ 24, s.pixFree 3 % 2 == 1)
    let words := s.lpeHead n x.beat x.sp ++
      [px + 2 ^ 24 * b2n gate + 2 ^ 25 * b2n (missing != 0) + 2 ^ 26 * b2n (g 0 == 0), py + 2 ^ 24 * (x.frame % 256),
        g 1 + 65536 * g 2, g 0 + 65536 * g 3 + 2 ^ 24 * g 4]
    let interval := if missing = 0 ∧ x.first.1 < x.last.1 then
        ((x.last.2 - x.first.2 : Nat) : Rat) / ((x.last.1 - x.first.1 : Nat) : Rat)
      else x.interval
    let s1 := { s.setLpe n { x with active := false, prev := some x.frame, rows := [], sp := none, bkg := bkg, interval := interval, tapOn := false }
      with free := s.free + 64 }
    let s2 := ((s1.set (LPE_STAT_ACTIVE n) 0).set (LPE_BKG_B n) (roundIn (64 * bkg) (fr 8) 65535))
    let s3 := if missing = 0 then s2 else s2.set (LPE_STAT_INCOMPL n) 1
    let s4 := if s.modeCode = mExpose then s3.mprPush n words else s3
    if !x.tapOn then s4
    else
      let nslots := max 1 (s.get (LPE_TAPN_VALUE n))
      let base := s.pair (LPE_TAPBASE_LO_ADDR n) (LPE_TAPBASE_HI_ADDR n) + (x.tapIx % nslots) * (64 * s.get (LPE_TAPSTRIDE_VALUE n))
      let val (i j : Nat) : Nat :=
        if !have_ j then 0
        else match x.tap with
        | 1 => ((x.rows.find? (fun r => r.1 == j)).map (fun r => r.2.getD i 0)).getD 0
        | 2 => roundIn (p2 i j) (s.pixFree (1024 + 256 * j + i)) 1023
        | _ => roundIn (p3 i j) (s.pixFree (1024 + 256 * j + i)) 1023
      let head := words32 ([x.frame, x.beat % 2 ^ 32, x.beat / 2 ^ 32 % 2 ^ 32, (words.getD 0 0), w + 65536 * h, x.tap + 65536 * missing, x.gap] ++
        List.replicate 9 0)
      let px := (List.range h).flatMap (fun j => (List.range w).flatMap (fun i => word16 (val i j)))
      let s5 := { s4 with free := s4.free + 2 ^ 17 }
      (s5.setLpe n { s5.lpe n with tapIx := (x.tapIx + 1) % nslots }).imgWrite .clean [(base, head ++ px)]

/-- A packet of the camera stream arrives (R368, R388, R451, R454); one for which the queue has no place is lost whole and
raises the melt-pool source of the imaging block (R39, log entry 144). -/
def State.lpePacket (s : State) (n : Nat) (p : CamPacket) : State :=
  if !s.hlLive n || !s.inL0 n || decide (s.get (HL_STAT_VERSION n) < 2) then s
  else if p.overflow then s.pulse 0x02D
  else if !camOk p then s.incSat (HL_ERRCNT_CAMCRC n)
  else if !s.imgRuns || !s.flag (LPE_CTL_EN n) then s
  else if p.typ = 0x46 then s.lpeEnd n
  else if p.typ ≠ 0x4C then s
  else
    let x0 := s.lpe n
    let first := p.flags.toNat.testBit 0
    let fresh := first || !x0.active || x0.frame != p.frame.toNat
    let s1 := if fresh then (s.lpeEnd n).lpeBegin n p.frame.toNat else s
    let (w, h) := s1.lpeGeom n
    let line := p.line.toNat
    if h ≤ line ∨ p.count.toNat ≠ w then s1.set (LPE_STAT_GEOMERR n) 1
    else
      let x := s1.lpe n
      let y := if x.rows.isEmpty then
          let b := roundUp ((s1.beat : Rat) - s1.live (LPE_LAT_LAT n) - (line : Rat) * x.interval)
          let b := if b < 0 then 0 else b.toNat
          { x with beat := b, sp := s1.lpeSetpoint n b, first := (line, s1.beat), last := (line, s1.beat) }
        else { x with last := (line, s1.beat) }
      s1.setLpe n { y with rows := y.rows.filter (fun r => r.1 != line) ++ [(line, p.pixels.map BitVec.toNat)] }

/-- A write of LPE_CTL (R460, R464): clearing EN ends the frame under way without a record; at enable B is 0 (R452). -/
def State.lpeCtlWrite (s : State) (n v : Nat) : State :=
  let was := s.flag (LPE_CTL_EN n)
  let s1 := ((s.set (LPE_CTL_TAP n) (bits v 9 8)).set (LPE_CTL_ALPHA n) (bits v 7 4)).set (LPE_CTL_EN n) (b2n (bit v 0))
  if bit v 0 == was then s1
  else ((s1.setLpe n {}).set (LPE_STAT_ACTIVE n) 0).set (LPE_BKG_B n) 0

/-- A written RWS value of a loupe waits for the first line of its next frame; with no frame under way and EN clear it is in
force at once (R460). -/
def State.lpeRws (s : State) (n : Nat) : State := if s.flag (LPE_CTL_EN n) then s.set (LPE_STAT_SHPEND n) 1 else s.lpeCommit n

/-- A block reset of the imaging block: every frame in progress is aborted, then the registers (R459, R461). -/
def State.resetImg (s : State) : State :=
  let s1 := (List.range 4).foldl (fun t c => t.ctxAbort c 0 true) s
  ({ s1 with img := { hist := s.img.hist } }).resetRegs 0 (fun a => decide (0x2000900000 ≤ a) && decide (a < 0x2000A00000))

end Sys2Proof.Machine
end

