-- ==== Sys2Proof/Machine/IllOps.lean ====
section
/-! DEFINITION. Illumination drive (R465 to R479): PWM, strobes, temperature compensation, diagnostics. -/
namespace Sys2Proof.Machine

/-- Channel `ch` beside its registers. -/
def State.illCh (s : State) (ch : Nat) : IllCh := Sparse.get {} s.ill.chs ch
/-- A channel replaced. -/
def State.setIllCh (s : State) (ch : Nat) (x : IllCh) : State := { s with ill := { s.ill with chs := Sparse.put {} s.ill.chs ch x } }

/-- The sinks may be driven by their channels (R467). -/
def State.illRuns (s : State) : Bool :=
  let m := s.modeCode
  !s.heldInReset 133 && s.rst.phase == .off && s.flag ILL_CTL_EN && decide (2 ≤ m) && m != mLowPower && m != mTest && s.ill.ntest.isNone

/-- The period in force; below 100,000 beats it acts as 100,000 (R468). -/
def State.illPeriod (s : State) : Nat := max 100000 (s.live ILL_PERIOD_PERIOD)

/-- The mode in force of a channel (R467). -/
def State.illMode (s : State) (ch : Nat) : Nat := s.live (ILL_CH_MODE ch)

/-- The RWS registers of a channel, and the global ones. -/
def inIllCh (ch a : Nat) : Bool := decide (0x2000A00200 + 0x10 * ch ≤ a) && decide (a < 0x2000A00210 + 0x10 * ch)
/-- See `inIllCh`. -/
def inIllGlobal (a : Nat) : Bool := a == 0x2000A00000 || a == 0x2000A00004

/-- The current of a channel in mA (R466), before the limit. -/
def State.illCurrent (s : State) (ch : Nat) : Rat :=
  150 * mkRat (s.live ILL_CTL_GSCALE) 255 * mkRat (s.live (ILL_CH_ISET ch)) 1023 * mkRat (s.illCh ch).k 16384

/-- The level that the sink of a channel regulates to, in steps of 150 mA ÷ 65,536, at most 150 mA (R466); the neighbour of
a current between two steps is free. -/
def State.illLevel (s : State) (ch : Nat) : State :=
  (s.setIllCh ch { s.illCh ch with level := roundIn (s.illCurrent ch * 65536 / 150) s.freeNext 65536 }).draw

/-- GSCALE and PERIOD pass to the values in force at their boundary (R470). -/
def State.illSync (s : State) : State :=
  match s.ill.globalDue with
  | some b =>
    if b ≤ s.beat then
      (List.range 32).foldl State.illLevel { s.commitShadow 0x800 inIllGlobal with ill := { s.ill with globalDue := none } }
    else s
  | none => s

/-- A written GSCALE or PERIOD waits for the next period start counted without PHASE (R470). -/
def State.illGlobalWrite (s : State) : State :=
  let p := s.illPeriod
  { s with ill := { s.ill with globalDue := some ((s.beat / p + 1) * p) } }

/-- The shadow of a channel passes to the values in force, with the K of its colour (R470, R472). -/
def State.illCommit (s : State) (ch : Nat) : State :=
  let s1 := (s.commitShadow 0x800 (inIllCh ch)).set (ILL_DIAG_SHPEND ch) 0
  let was := s.illMode ch
  let x := s1.illCh ch
  let s2 := s1.setIllCh ch
    { x with k := Sparse.get 0x4000 s.ill.kc (ch % 4), measured := if was = 0 ∧ s1.illMode ch ≠ 0 then s.beat else x.measured }
  let s3 := s2.illLevel ch
  if s3.illMode ch ≠ 0 ∧ 150 < s3.illCurrent ch then s3.set (ILL_DIAG_COMPLIM ch) 1 else s3

/-- The STROBE ball follows the strobing channels (R469). -/
def State.strobeBall (s : State) : State :=
  s.drivePin 0x14 (b2n ((List.range 32).any (fun ch => s.flag (ILL_DIAG_ON ch) && s.illMode ch == 2 && s.liveFlag (ILL_CH_STRBOUT ch))))

/-- The sink of a channel may turn on (R473, R474). -/
def State.illMay (s : State) (ch : Nat) : Bool :=
  s.illRuns && !s.flag (ILL_CSTAT_OVT (ch % 4)) && !s.flag (ILL_DIAG_SINKOT ch) && !s.flag (ILL_DIAG_SHORT ch) && !(s.illCh ch).stopped

/-- A sink turns on until a beat. -/
def State.illOn (s : State) (ch until_ : Nat) (diag : Bool) : State :=
  ((s.setIllCh ch { s.illCh ch with onAt := s.beat, until_ := until_, diag := diag }).set (ILL_DIAG_ON ch) 1).strobeBall

/-- Qualifying beats of a channel: those of earlier pulses and of the present one past 80 beats (R474). -/
def State.illQual (s : State) (ch : Nat) : Nat :=
  let x := s.illCh ch
  x.acc + (if s.flag (ILL_DIAG_ON ch) then s.beat - (x.onAt + 80) else 0)

/-- A sink turns off. -/
def State.illOff (s : State) (ch : Nat) : State :=
  if s.flag (ILL_DIAG_ON ch) then
    let q := s.illQual ch
    ((s.setIllCh ch { s.illCh ch with acc := q, offAt := s.beat, diag := false }).set (ILL_DIAG_ON ch) 0).strobeBall
  else s

/-- Every sink off (R467). -/
def State.illAllOff (s : State) : State :=
  (List.range 32).foldl (fun t ch => let u := t.illOff ch; u.setIllCh ch { u.illCh ch with due := [] }) s

/-! ### PWM and strobes (R468, R469) -/

/-- A period of a channel starts on this beat (R468). -/
def State.pwmBoundary (s : State) (ch : Nat) : Bool :=
  let p := s.illPeriod
  let d := s.live (ILL_CH_PHASE ch) * p / 16
  (s.beat + p - d) % p == 0

/-- A period starts (R468, R470). -/
def State.pwmStart (s0 : State) (ch : Nat) : State :=
  let s := s0.illSync
  if s.heldInReset 133 || !s.pwmBoundary ch || (s.illMode ch != 1 && s.get (ILL_CH_MODE ch) != 1) then s
  else
    let s1 := (s.illOff ch).illCommit ch
    let n := (roundUp (mkRat (s1.live (ILL_DUTY_DUTY ch) * s1.illPeriod) 65536)).toNat
    if s1.illMode ch = 1 ∧ s1.illMay ch ∧ n ≠ 0 then s1.illOn ch (s1.beat + n) false else s1

/-- The duty time of a period ends (R468). -/
def State.pwmEnd (s : State) (ch : Nat) : State :=
  if s.flag (ILL_DIAG_ON ch) && s.illMode ch == 1 && decide ((s.illCh ch).until_ ≤ s.beat) then s.illOff ch else s

/-- A camera trigger starts on beat `b`: the strobes that follow it are due (R469). -/
def State.illTrigger (s : State) (c b : Nat) : State :=
  (List.range 32).foldl (fun t ch =>
    let now := t.illMode ch == 2
    let r (f : Fld) : Nat := if now then t.live f else t.get f
    if (now || t.get (ILL_CH_MODE ch) == 2) && r (ILL_CH_SRC ch) == c then
      t.setIllCh ch { t.illCh ch with due := (t.illCh ch).due ++ [b + r (ILL_STRB_SDELAY ch)] }
    else t) s

/-- A strobe starts, or starts nothing while the channel's previous one is on (R469, R470). -/
def State.strobeStart (s0 : State) (ch : Nat) : State :=
  let s := s0.illSync
  let x := s.illCh ch
  match x.due with
  | b :: rest =>
    if s.heldInReset 133 || decide (s.beat < b) then s
    else
      let s1 := s.setIllCh ch { x with due := rest }
      if s.flag (ILL_DIAG_ON ch) && s.illMode ch == 2 then s1.set (ILL_DIAG_STRBOVL ch) 1
      else
        let s2 := (s1.illOff ch).illCommit ch
        let n := s2.live (ILL_STRB_SWIDTH ch)
        if s2.illMode ch = 2 ∧ s2.illMay ch ∧ n ≠ 0 then s2.illOn ch (s2.beat + n) false else s2
  | [] => s

/-- A strobe, or a diagnostic pulse, ends (R469, R475). -/
def State.strobeEnd (s : State) (ch : Nat) : State :=
  if s.flag (ILL_DIAG_ON ch) && s.illMode ch == 2 && decide ((s.illCh ch).until_ ≤ s.beat) then s.illOff ch else s

/-- A trigger of a context starts, and its strobes with it (R450, R469). -/
def State.camera (s : State) (c : Nat) (soft : Bool) : State :=
  if soft then
    let (on, t) := s.camSoft c
    if on then t.illTrigger c (s.beat + 1) else t
  else
    let (on, t) := s.camTrigger c
    if on then t.illTrigger c s.beat else t

/-! ### Writes (R467, R470, R474) -/

/-- A channel's registers were written (R470): OFF and continuous act at once; a channel that is off takes everything but
MODE at once; the rest waits for its boundary. `mode` says that MODE was among them. -/
def State.illChWrite (s : State) (ch : Nat) (mode : Bool) : State :=
  let s0 := if mode then s.setIllCh ch { s.illCh ch with stopped := false } else s
  let now := s0.illMode ch
  let next := s0.get (ILL_CH_MODE ch)
  let s1 := if next = 0 ∨ next = 3 then
      let t := s0.illCommit ch
      if next = 0 then t.illOff ch
      else if t.illMay ch && !t.flag (ILL_DIAG_ON ch) then t.illOn ch (2 ^ 63) false else t
    else if now = 0 then (s0.illCommit ch).set (ILL_CH_MODE ch).copy 0
    else s0
  let wait := [ILL_CH_MODE ch, ILL_CH_DIAGP ch, ILL_CH_STRBOUT ch, ILL_CH_SRC ch, ILL_CH_PHASE ch, ILL_CH_ISET ch, ILL_DUTY_DUTY ch,
    ILL_STRB_SDELAY ch, ILL_STRB_SWIDTH ch].any (fun f => s1.get f != s1.live f)
  s1.set (ILL_DIAG_SHPEND ch) (b2n wait)

/-- Channels in continuous mode whose sinks may turn on again do so (R467, R470). -/
def State.illResume (s : State) : State :=
  (List.range 32).foldl (fun t ch => if t.illMode ch = 3 ∧ t.illMay ch ∧ !t.flag (ILL_DIAG_ON ch) then t.illOn ch (2 ^ 63) false else t) s

/-- ILL_CTL.EN was written (R467). -/
def State.illEnable (s : State) : State := if s.flag ILL_CTL_EN then s.illResume else s.illAllOff

/-! ### Temperature (R471 to R473) -/

/-- The temperature in °C of an NTC of `r` ohms (R471): the Beta equation about 25 °C. -/
def ntcTemp (beta rnom r : Nat) : Rat :=
  let inv := 1 / mkRat 29815 100 + (if beta = 0 then 0 else lnQ (mkRat r (max 1 (10 * rnom))) / (beta : Rat))
  if inv = 0 then 0 else 1 / inv - mkRat 27315 100

/-- K(T) of a colour (R472). -/
def State.illK (s : State) (c : Nat) (t : Rat) : Nat :=
  let step := max 1 (s.get (ILL_TCFG_TSTEP c))
  let x := (t - (sgn 8 (s.get (ILL_TCFG_TSTART c)) : Rat)) / (step : Rat)
  let k (i : Nat) : Nat := s.get (ILL_COMP_K_I (16 * c + i))
  if x ≤ 0 then k 0
  else if 15 ≤ x then k 15
  else
    let i := x.floor.toNat
    (roundUp ((k i : Rat) + (x - (i : Rat)) * ((k (i + 1) : Rat) - (k i : Rat)))).toNat

/-- Lamp over-temperature is active while a colour or a sink is hot (R473, R477). -/
def State.illHeat (s : State) : State :=
  let mask := (List.range 4).foldl (fun m c =>
    if s.flag (ILL_CSTAT_OVT c) || (List.range 8).any (fun g => s.flag (ILL_DIAG_SINKOT (4 * g + c))) then m + 2 ^ c else m) 0
  if mask = 0 then s.lower 0x032 else s.raise 0x032 mask

/-- An NTC's conversion (R471 to R473). -/
def State.ntcConvert (s0 : State) (c ohms : Nat) : State :=
  let s := s0.illSync
  if s.heldInReset 133 || s.rst.phase != .off then s
  else if ohms < 100 ∨ 2000000 < ohms then
    if s.flag (ILL_CSTAT_SENSE c) then s else (s.set (ILL_CSTAT_SENSE c) 1).pulse 0x033 (2 ^ c)
  else
    let t := ntcTemp (s.get (ILL_NTC_BETA c)) (s.get (ILL_NTC_RNOM c)) ohms
    let max_ : Rat := (s.get (ILL_TCFG_TMAX c) : Rat)
    let s1 := (s.set (ILL_TEMP_T c) (enc 16 (roundFree (10 * t) s.freeNext))).draw
    let s2 := { s1 with ill := { s1.ill with kc := Sparse.put 0x4000 s1.ill.kc c (s.illK c t) } }
    -- a continuous channel has its boundary on the next beat
    let s3 := (List.range 8).foldl (fun u g => if u.illMode (4 * g + c) = 3 then u.illCommit (4 * g + c) else u) s2
    if max_ < t ∧ !s.flag (ILL_CSTAT_OVT c) then
      ((List.range 8).foldl (fun u g => u.illOff (4 * g + c)) (s3.set (ILL_CSTAT_OVT c) 1)).illHeat
    else if t < max_ - 5 ∧ s.flag (ILL_CSTAT_OVT c) then ((s3.set (ILL_CSTAT_OVT c) 0).illHeat).illEnable
    else s3

/-- A sink's junction passes 150 °C, or falls below 130 °C (R473). -/
def State.sinkTemp (s : State) (ch : Nat) (hot : Bool) : State :=
  if s.heldInReset 133 then s
  else if hot then ((s.illOff ch).set (ILL_DIAG_SINKOT ch) 1).illHeat
  else
    let t := (s.set (ILL_DIAG_SINKOT ch) 0).illHeat
    if t.illMode ch = 3 ∧ t.illMay ch ∧ !t.flag (ILL_DIAG_ON ch) then t.illOn ch (2 ^ 63) false else t

/-! ### Diagnostics (R474 to R476) -/

/-- 800 qualifying beats with one verdict, at a ball voltage in mV (R474). -/
def State.lampMeasure (s : State) (ch mv : Nat) : State :=
  if s.heldInReset 133 || !s.flag (ILL_DIAG_ON ch) || decide (s.illQual ch < 800) then s
  else
    let s1 := (s.setIllCh ch { s.illCh ch with acc := 0, onAt := s.beat - 80, measured := s.beat }).set (ILL_DIAG_UNVER ch) 0
    if mv < 150 then
      let t := (s1.illOff ch).set (ILL_DIAG_OPEN ch) 1
      (t.setIllCh ch { t.illCh ch with stopped := true, acc := 0 }).pulse 0x030 (2 ^ ch)
    else s1

/-- An off channel's ball stays below 50 mV (R474). -/
def State.lampShort (s : State) (ch : Nat) : State :=
  if s.heldInReset 133 || s.flag (ILL_DIAG_ON ch) || !s.flag ILL_CTL_SUPOK || s.flag (ILL_DIAG_SHORT ch) ||
      decide (s.beat < (s.illCh ch).offAt + 800) then s
  else (s.set (ILL_DIAG_SHORT ch) 1).pulse 0x030 (2 ^ ch)

/-- The next scheduled trigger of a context after a beat, none without a schedule (R450). -/
def State.nextTrigger (s : State) (c b : Nat) : Option Nat :=
  let p := s.live (IMG_CTX_TRIG_PERIOD_VALUE c)
  if p = 0 || !s.flag (IMG_CTX_TRIG_TRIGEN c) then none
  else some (b + 1 + (s.live (IMG_CTX_TRIG_PHASE_VALUE c) + p - (b + 1) % p) % p)

/-- A diagnostic pulse of 960 beats (R475). -/
def State.diagPulse (s : State) (ch : Nat) : State :=
  let x := s.illCh ch
  let c := s.live (ILL_CH_SRC ch)
  let room := match s.nextTrigger c s.beat with | some t => decide (s.beat + 960 + 8000 ≤ t) | none => true
  if s.illMay ch && s.illMode ch == 2 && s.liveFlag (ILL_CH_DIAGP ch) && !s.flag (ILL_DIAG_ON ch) &&
      decide (x.measured + 100 * beatsPerMs ≤ s.beat) && (s.ctx c).trigUntil + 4000 == s.beat && room then
    s.illOn ch (s.beat + 960) true
  else s

/-- No valid measurement for 1 s (R475). -/
def State.lampUnverified (s : State) (ch : Nat) : State :=
  if !s.heldInReset 133 && s.illMode ch != 0 && !s.flag (ILL_DIAG_UNVER ch) && decide ((s.illCh ch).measured + 1000 * beatsPerMs ≤ s.beat) then
    (s.set (ILL_DIAG_UNVER ch) 1).pulse 0x031 (2 ^ ch)
  else s

/-- NTEST (R476). -/
def State.neighbourTest (s : State) : State :=
  let m := s.modeCode
  if s.heldInReset 133 then s
  else if (m == mConfigure || m == mIdle || m == mCalibrate) && (List.range 32).all (fun ch => !s.flag (ILL_DIAG_ON ch)) && s.ill.ntest.isNone then
    ({ s with ill := { s.ill with ntest := some s.beat } }).set ILL_STAT_NBUSY 1
  else s.set ILL_STAT_CMDERR 1

/-- The neighbour test ends after 620 µs (R476). -/
def State.neighbourDone (s : State) (shorts : Nat) : State :=
  match s.ill.ntest with
  | some b =>
    if s.beat < b + 620 * beatsPerUs then s
    else
      let s1 := (({ s with ill := { s.ill with ntest := none } }).set ILL_STAT_NBUSY 0 |>.set ILL_STAT_NDONE 1).set ILL_NBR_SHORTED shorts
      if shorts = 0 then s1.illResume else (s1.pulse 0x034).illResume
  | none => s

/-- A block reset of illumination (R467, R478). -/
def State.resetIll (s : State) : State :=
  let s1 := s.illAllOff
  (({ s1 with ill := {} }).resetRegs 0 (fun a => decide (0x2000A00000 ≤ a) && decide (a < 0x2000B00000))).lower 0x032

end Sys2Proof.Machine
end

