-- ==== Sys2Proof/Machine/MotOps.lean ====
section
/-! DEFINITION. Stepper axes and encoders (R480 to R511). -/
namespace Sys2Proof.Machine

/-- Axis `m` beside its registers. -/
def State.mx (s : State) (m : Nat) : MotAx := Sparse.get {} s.mot.axes m
/-- An axis replaced. -/
def State.setMx (s : State) (m : Nat) (x : MotAx) : State := { s with mot := { s.mot with axes := Sparse.put {} s.mot.axes m x } }
/-- Encoder channel `e` beside its registers. -/
def State.en (s : State) (e : Nat) : EncSt := Sparse.get {} s.mot.encs e
/-- A channel replaced. -/
def State.setEn (s : State) (e : Nat) (x : EncSt) : State := { s with mot := { s.mot with encs := Sparse.put {} s.mot.encs e x } }

/-- Axis states (R509). -/
def mtOff : Nat := 0
/-- See `mtOff`. -/
def mtHold : Nat := 1
/-- See `mtOff`. -/
def mtMove : Nat := 2
/-- See `mtOff`. -/
def mtVel : Nat := 3
/-- See `mtOff`. -/
def mtStopping : Nat := 4
/-- See `mtOff`. -/
def mtHoming : Nat := 5
/-- See `mtOff`. -/
def mtStalled : Nat := 6

/-- The state of an axis. -/
def State.motState (s : State) (m : Nat) : Nat := s.get (MOT_AX_STAT_STATE m)
/-- The axis is at rest. -/
def State.motRest (s : State) (m : Nat) : Bool := let c := s.motState m; c == mtOff || c == mtHold || c == mtStalled
/-- The block runs. -/
def State.motLive (s : State) : Bool := !s.heldInReset 134 && s.rst.phase == .off

/-- An axis takes a state; MOT_STAT.DRVON follows (R507). -/
def State.setMotState (s : State) (m c : Nat) : State :=
  let t := s.set (MOT_AX_STAT_STATE m) c
  t.set MOT_STAT_DRVON (b2n ((List.range 6).any (fun k => t.motState k != mtOff)))

/-- The mode permits drivers; accepts every command (R481). -/
def motDriverMode (c : Nat) : Bool := decide (2 ≤ c) && c != mTest && c != mLowPower
/-- See `motDriverMode`. -/
def motFullMode (c : Nat) : Bool := c == mConfigure || c == mIdle || c == mRecoat

/-- Position and speed as the registers show them. -/
def State.motShow (s : State) (m : Nat) : State :=
  let x := s.mx m
  (s.set (MOT_AX_POS_VALUE m) (enc 32 (roundUp x.p))).set (MOT_AX_VEL_VALUE m) (enc 32 (roundUp x.v))

/-- The position in whole µsteps. -/
def MotAx.pos (x : MotAx) : Int := roundUp x.p

/-- An axis's drivers go off (R481, R497). -/
def State.motOff (s : State) (m : Nat) : State :=
  let x := s.mx m
  let s1 := if s.motState m = mtOff then s
    else ((s.setMx m { p := (x.pos : Rat), updAt := s.beat, restAt := s.beat }).setMotState m mtOff).set (MOT_AX_STAT_HPHASE m) 0
  (if s.flag (MOT_AX_CTL_EN m) then (s1.set (MOT_AX_STAT_POSVALID m) 0).set (MOT_AX_STAT_HOMED m) 0 else s1).motShow m

/-- Every axis's drivers off. -/
def State.motAllOff (s : State) : State := (List.range 6).foldl (fun t m => t.motOff m) s

/-- An axis's drivers can be on: EN, a mode with drivers, the motor bus present (R481, R497). -/
def State.motCan (s : State) (m : Nat) : Bool := s.flag (MOT_AX_CTL_EN m) && motDriverMode s.modeCode && !s.mot.vmBad

/-- An axis's drivers come on under holding current. -/
def State.motOn (s : State) (m : Nat) : State :=
  if s.motState m = mtOff then
    (s.setMx m { s.mx m with restAt := s.beat, amp := (s.get (MOT_AX_CUR_IHOLD m) : Rat), amp0 := (s.get (MOT_AX_CUR_IHOLD m) : Rat) }).setMotState m mtHold
  else s

/-! ### Profiles (R482, R485 to R487) -/

/-- Whole microseconds of a planned phase (R482). -/
def usOf (t : Rat) : Nat := (ceilQ (t * 1000000)).toNat
/-- Seconds of a count of microseconds. -/
def secOf (us : Nat) : Rat := mkRat us 1000000

/-- Limits of an axis: JMAX in µsteps/s³; 0 acts as 1. -/
def State.motLim (s : State) (f : Nat → Fld) (m : Nat) : Rat := lim0 (s.get (f m))
/-- See `motLim`. -/
def State.motJ (s : State) (m : Nat) : Rat := 1000 * s.motLim MOT_AX_JMAX_VALUE m

/-- The three phase lengths of a change of speed from (v, a) to `u` under A and J (R186), in microseconds. The acceleration
runs to a peak, stays, and returns to 0; `sg` is the peak's sign. -/
def changeUs (v a u acc j : Rat) : Nat × Nat × Nat :=
  let free := v + a * absQ a / (2 * j)
  let sg : Rat := if u < free then -1 else 1
  let g := sg * (u - v) + a * a / (2 * j)
  if g ≤ 0 then (usOf (absQ a / j), 0, 0)
  else if acc * acc / j ≤ g then (usOf (absQ (acc - sg * a) / j), usOf ((g - acc * acc / j) / acc), usOf (acc / j))
  else
    let pk := sqrtQ (j * g)
    (usOf (absQ (pk - sg * a) / j), 0, usOf (pk / j))

/-- The phases of those lengths that end at speed `u` exactly. -/
def changePhases (v a u : Rat) (t : Nat × Nat × Nat) : List MotPhase :=
  let t1 := secOf t.1
  let k := t1 / 2 + secOf t.2.1 + secOf t.2.2 / 2
  let b := if k = 0 then 0 else (u - v - a * t1 / 2) / k
  [⟨t.1, a, b⟩, ⟨t.2.1, b, b⟩, ⟨t.2.2, b, 0⟩].filter (fun q => q.us != 0)

/-- The state at the end of a phase, or `us` into it: position, speed, acceleration. -/
def phaseAt (q : MotPhase) (us : Nat) (p v : Rat) : Rat × Rat × Rat :=
  let t := secOf us
  let full := secOf q.us
  let j := if full = 0 then 0 else (q.a1 - q.a0) / full
  (p + v * t + q.a0 * t * t / 2 + j * t * t * t / 6, v + q.a0 * t + j * t * t / 2, q.a0 + j * t)

/-- The state at the end of phases. -/
def phasesEnd (l : List MotPhase) (p v : Rat) : Rat × Rat := l.foldl (fun e q => let r := phaseAt q q.us e.1 e.2; (r.1, r.2.1)) (p, v)

/-- The limit of a change of speed: AMAX where the speed grows, DMAX where it falls (R482). -/
def State.motAcc (s : State) (m : Nat) (v u : Rat) : Rat :=
  if absQ v < absQ u then s.motLim MOT_AX_AMAX_VALUE m else s.motLim MOT_AX_DMAX_VALUE m

/-- A stop from the present state (R485). -/
def State.stopPhases (s : State) (m : Nat) : List MotPhase :=
  let x := s.mx m
  changePhases x.v x.a 0 (changeUs x.v x.a 0 (s.motLim MOT_AX_DMAX_VALUE m) (s.motJ m))

/-- Where a stop that starts now ends. -/
def State.stopEnd (s : State) (m : Nat) : Rat := (phasesEnd (s.stopPhases m) (s.mx m).p (s.mx m).v).1

/-- A plan from (p, v, a) to a target ahead without passing it, at rest there (R486): the peak speed is the greatest that
fits, and the phases' rounded lengths then carry the speed that ends on the target. -/
def State.aheadPhases (s : State) (m : Nat) (tgt : Rat) : List MotPhase :=
  let x := s.mx m
  let j := s.motJ m
  let sg : Rat := if tgt < x.p then -1 else 1
  let d := absQ (tgt - x.p)
  let v := sg * x.v
  let a := sg * x.a
  let up (u : Rat) := changeUs v a u (s.motAcc m v u) j
  let dn (u : Rat) := changeUs u 0 0 (s.motLim MOT_AX_DMAX_VALUE m) j
  let dist (tu : Nat × Nat × Nat) (c : Nat) (td : Nat × Nat × Nat) (u : Rat) : Rat :=
    let e := phasesEnd (changePhases v a u tu) 0 v
    (phasesEnd (changePhases u 0 0 td) (e.1 + u * secOf c) u).1
  let peak := greatest (fun u => decide (dist (up u) 0 (dn u) u ≤ d)) 0 (s.motLim MOT_AX_VMAX_VALUE m)
  let tu := up peak
  let td := dn peak
  let rest := d - dist tu 0 td peak
  let c := if peak ≤ 0 then 0 else usOf (maxQ 0 rest / peak)
  -- the distance is linear in the speed once the lengths are fixed
  let d0 := dist tu c td 0
  let k := dist tu c td 1 - d0
  let u := if k = 0 then 0 else (d - d0) / k
  (changePhases v a u tu ++ (if c = 0 then [] else [(⟨c, 0, 0⟩ : MotPhase)]) ++ changePhases u 0 0 td).map (fun (q : MotPhase) => (⟨q.us, sg * q.a0, sg * q.a1⟩ : MotPhase))

/-- A plan replaces the one in force. -/
def State.motPlan (s : State) (m : Nat) (l : List MotPhase) (next : Option MotNext) : State :=
  s.setMx m { s.mx m with phases := l, done := 0, next := next }

/-- The axis moves: a target or a speed from its present state (R486, R487). -/
def State.motGo (s : State) (m : Nat) (n : MotNext) : State :=
  let x := s.mx m
  match n with
  | .moveTo t =>
    if x.v = 0 ∧ x.a = 0 then s.motPlan m (if x.p = (t : Rat) then [] else s.aheadPhases m t) none
    else
      let e := s.stopEnd m
      let ok := if 0 < x.v then decide (e ≤ (t : Rat)) else decide ((t : Rat) ≤ e)
      if ok then s.motPlan m (s.aheadPhases m t) none else s.motPlan m (s.stopPhases m) (some n)
  | .run u =>
    if x.v * u < 0 ∨ (u = 0 ∧ x.v ≠ 0) then s.motPlan m (s.stopPhases m) (some n)
    else s.motPlan m (changePhases x.v x.a u (changeUs x.v x.a u (s.motAcc m x.v u) (s.motJ m))) none

/-- A running stop that a target behind its end leaves unchanged (R487): only the target is replaced. -/
def State.motRetarget (s : State) (m : Nat) (t : Int) : State :=
  let x := s.mx m
  let e := (phasesEnd (match x.phases with
    | q :: r => ⟨q.us - x.done, x.a, q.a1⟩ :: r
    | [] => []) x.p x.v).1
  let behind := if 0 < x.v then decide ((t : Rat) < e) else decide (e < (t : Rat))
  let stopping := s.motState m == mtStopping || (match x.next with | some (.moveTo _) => true | _ => false)
  if stopping && x.v != 0 && behind then s.setMx m { x with next := some (.moveTo t) } else s.motGo m (.moveTo t)

/-- A stop under R485 that ends under holding current. -/
def State.motStop (s : State) (m : Nat) : State :=
  if s.motRest m then s
  else ((s.motPlan m (s.stopPhases m) none).setMotState m mtStopping).set (MOT_AX_STAT_HPHASE m) 0

/-! ### Homing (R495, R496) -/

/-- The direction of the home switch. -/
def State.homeDir (s : State) (m : Nat) : Rat := if s.flag (MOT_AX_CTL_HOMESEL m) then 1 else -1
/-- The home switch is asserted. -/
def State.homeOn (s : State) (m : Nat) : Bool := s.flag (if s.flag (MOT_AX_CTL_HOMESEL m) then MOT_AX_STAT_LIMP m else MOT_AX_STAT_LIMN m)
/-- A speed field of 16 µsteps/s. -/
def State.speed16 (s : State) (f : Fld) : Rat := ((16 * s.get f : Nat) : Rat)

/-- A phase of homing begins. -/
def State.homePhase (s : State) (m k : Nat) : State :=
  let v := if k = 1 then s.homeDir m * s.speed16 (MOT_AX_HOME1_VSEARCH m)
    else if k = 2 then -(s.homeDir m) * s.speed16 (MOT_AX_HOME1_VBACK m)
    else s.homeDir m * s.speed16 (MOT_AX_HOME2_VLATCH m)
  let s1 := s.setMx m { s.mx m with hStop := false, hEdge := none, hIdx := none }
  (s1.set (MOT_AX_STAT_HPHASE m) k).motGo m (.run v)

/-- Homing aborts: HOMEFAIL, the source, a stop (R496). -/
def State.homeFail (s : State) (m : Nat) : State :=
  if s.motState m = mtHoming then ((s.motStop m).set (MOT_AX_STAT_HOMEFAIL m) 1).pulse (0x058 + m) else s

/-- A phase's stop. -/
def State.homeHalt (s : State) (m : Nat) : State :=
  let t := s.motPlan m (s.stopPhases m) none
  t.setMx m { t.mx m with hStop := true }

/-- The latch event (R495): the position becomes HOMEPOS. -/
def State.homeLatch (s : State) (m : Nat) : State :=
  let x := s.mx m
  let d : Rat := ((sgn 32 (s.get (MOT_AX_HOMEPOS_VALUE m)) - x.pos : Int) : Rat)
  ((s.set (MOT_AX_HLATCH_VALUE m) (enc 32 x.pos)).setMx m { x with p := x.p + d, hIdx := none }).homeHalt m

/-- The home switch's edge during homing (R495). -/
def State.homeEdge (s : State) (m : Nat) (on : Bool) : State :=
  let x := s.mx m
  if x.hStop then s
  else match s.get (MOT_AX_STAT_HPHASE m) with
  | 1 => if on then s.homeHalt m else s
  | 2 => if on then s else s.setMx m { x with hEdge := some x.pos }
  | 3 =>
    if !on then s
    else if s.flag (MOT_AX_CTL_IDXEN m) then s.setMx m { x with hIdx := some (sgn 32 (s.get (ENC_POS_VALUE (s.get (MOT_AX_CTL_ENC m))))) }
    else s.homeLatch m
  | _ => s

/-- The stop of a phase has ended (R495). -/
def State.homeNext (s : State) (m : Nat) : State :=
  match s.get (MOT_AX_STAT_HPHASE m) with
  | 1 => s.homePhase m 2
  | 2 => s.homePhase m 3
  | _ => (((s.setMotState m mtHold).set (MOT_AX_STAT_HPHASE m) 4).set (MOT_AX_STAT_HOMED m) 1).set (MOT_AX_STAT_POSVALID m) 1

/-- HOME begins (R495, R496). -/
def State.homeStart (s : State) (m : Nat) : State :=
  let enc_ := s.get (MOT_AX_CTL_ENC m)
  let s1 := (s.setMotState m mtHoming).setMx m { s.mx m with hStart := s.beat }
  if s.flag (MOT_AX_CTL_IDXEN m) && (decide (5 < enc_) || !s.flag (ENC_CTL_EN enc_)) then s1.homeFail m
  else s1.homePhase m (if s.homeOn m then 2 else 1)

/-! ### Commands (R483, R484) -/

/-- MOVE and VEL towards this side are refused while its limit is asserted (R494). -/
def State.motTrip (s : State) (m : Nat) (up : Bool) : Bool := s.flag (if up then MOT_AX_STAT_LIMP m else MOT_AX_STAT_LIMN m)

/-- The result code of a command (R483). -/
def State.motCheck (s : State) (m op : Nat) : Nat :=
  let t := sgn 32 (s.get (MOT_AX_TGT_VALUE m))
  let md := s.modeCode
  let st := s.motState m
  let lo := sgn 32 (s.get (MOT_AX_SLMIN_VALUE m))
  let hi := sgn 32 (s.get (MOT_AX_SLMAX_VALUE m))
  if !(motFullMode md || (op == 3 && motDriverMode md)) then 1
  else if !s.motCan m then 2
  else if op = 0 ∨ 5 < op then 7
  else if op = 5 ∧ !s.motRest m then 7
  else if (op = 1 ∨ op = 2) ∧ st = mtStalled then 5
  else if op = 1 then
    if t < lo ∨ hi < t then 3
    else if t ≠ (s.mx m).pos ∧ s.motTrip m (decide ((s.mx m).pos < t)) then 6
    else 0
  else if op = 2 then
    if s.motLim MOT_AX_VMAX_VALUE m < absQ (t : Rat) then 4
    else if t ≠ 0 ∧ s.motTrip m (decide (0 < t)) then 6
    else 0
  else 0

/-- An accepted command acts (R483, R486, R487). -/
def State.motDo (s0 : State) (m op : Nat) (tgt : Int) : State :=
  let s := s0.motOn m
  let ends (t : State) : State := if s.motState m = mtHoming then t.set (MOT_AX_STAT_HPHASE m) 0 else t
  match op with
  | 1 => ends ((s.motRetarget m tgt).setMotState m mtMove)
  | 2 => ends ((s.motGo m (.run tgt)).setMotState m mtVel)
  | 3 => s.motStop m
  | 4 => s.homeStart m
  | 5 =>
    let t := (s.setMx m { s.mx m with p := (tgt : Rat), stalls := 0 }).set (MOT_AX_STAT_POSVALID m) 1
    (t.setMotState m mtHold).motShow m
  | _ => s

/-- A stamped motion command from the beats its stamp lies ahead: late, and its beat (R484). -/
def motDue (beat : Nat) : Option Nat → Bool × Nat
  | some d => if 1000 ≤ d then (false, beat + d) else (true, beat + 1000)
  | none => (true, beat + 1000)
/-- A stamped motion command waits for its beat; a late one is marked (R484). -/
def State.motStamp (s : State) (m op tgt : Nat) (q : Bool × Nat) : State :=
  let s2 := if q.1 then s.set (MOT_AX_STAT_LATESTART m) 1 else s
  s2.setMx m { s.mx m with stamped := some ⟨op, tgt, q.2⟩ }
/-- A write with GO (R483, R484); with the barrier link down it never arrives (R498). -/
def State.motCmd (s : State) (m op : Nat) (stamped : Bool) : State :=
  if !s.motLive || s.rst.barrierDown then s
  else
    let c := s.motCheck m op
    if c ≠ 0 then (s.set (MOT_AX_STAT_CMDERR m) c).set (MOT_AX_STAT_CMDREJ m) 1
    else
      let s1 := s.set (MOT_AX_STAT_CMDERR m) 0
      let tgt := s.get (MOT_AX_TGT_VALUE m)
      if stamped then s1.motStamp m op tgt (motDue s.beat (aheadBy (s.pair (MOT_AX_STAMP_LO_STAMP m) (MOT_AX_STAMP_HI_STAMP m)) s.beat))
      else s1.motDo m op (sgn 32 tgt)

/-- A row of R483: the command is written with GO, under STAMPED as it stands. -/
def State.motRow (s : State) (m op : Nat) : State :=
  if !s.motLive then s else (s.set (MOT_AX_CMD_OP m) op).motCmd m op (s.flag (MOT_AX_CMD_STAMPED m))

/-- A stamped command's beat comes (R484); in a mode that holds the axes it is turned away as on its arrival (R60; log entry
128). -/
def State.motStamped (s : State) (m : Nat) : State :=
  let x := s.mx m
  match x.stamped with
  | some c =>
    if !s.motLive || decide (s.beat < c.due) then s
    else
      let s1 := s.setMx m { x with stamped := none }
      if s.rst.barrierDown || !s.motCan m then s1
      else if !(motFullMode s.modeCode || (c.op == 3 && motDriverMode s.modeCode)) then
        (s1.set (MOT_AX_STAT_CMDERR m) 1).set (MOT_AX_STAT_CMDREJ m) 1
      else s1.motDo m c.op (sgn 32 c.tgt)
  | none => s

/-! ### The 1 µs update (R482, R488, R491) -/

/-- The resolution code of a speed, going up at the thresholds and down at 15/16 of them (R488). -/
def State.motResWant (s : State) (m : Nat) (v : Rat) : Nat :=
  let t1 := s.get (MOT_AX_RES01_V1 m)
  let t2 := max t1 (s.get (MOT_AX_RES01_V2 m))
  let t3 := max t2 (s.get (MOT_AX_RES23_V3 m))
  let t4 := max t3 (s.get (MOT_AX_RES23_V4 m))
  let now := s.get (MOT_AX_LOAD_RES m)
  let past (k t : Nat) : Bool := let q : Rat := ((16 * t : Nat) : Rat); if now < k then decide (q ≤ v) else decide (15 * q / 16 ≤ v)
  if past 4 t4 then 4 else if past 3 t3 then 3 else if past 2 t2 then 2 else if past 1 t1 then 1 else 0

/-- A position that is allowed for the coarser of two resolutions lies in (lo, hi] (R488). -/
def resPoint (code : Nat) (lo hi : Int) : Bool :=
  let cross (step ofs : Int) : Bool := decide ((lo - ofs).fdiv step < (hi - ofs).fdiv step)
  match code with | 0 => true | 1 => cross 4 0 | 2 => cross 16 0 | 3 => cross 64 0 | _ => cross 256 128

/-- The resolution follows the speed (R488). -/
def State.motRes (s : State) (m : Nat) (p0 p1 : Int) : State :=
  let now := s.get (MOT_AX_LOAD_RES m)
  let want := s.motResWant m (absQ (s.mx m).v)
  if want = now then s
  else
    let k := max want now
    let (lo, hi) := if p0 ≤ p1 then (p0, p1) else (p1 - 1, p0 - 1)
    if resPoint k lo hi then s.set (MOT_AX_LOAD_RES m) want else s

/-- The current amplitude at rest, and moving below VBEMF (R491). -/
def State.motCurrent (s : State) (m : Nat) : State :=
  let x := s.mx m
  let hold : Rat := (s.get (MOT_AX_CUR_IHOLD m) : Rat)
  let amp : Rat :=
    if s.motState m = mtOff then 0
    else if s.motState m = mtStalled then hold
    else if s.motRest m then
      let t := s.beat - x.restAt
      if t < 100 * beatsPerMs then x.amp
      else if 110 * beatsPerMs ≤ t then hold
      else x.amp0 + (hold - x.amp0) * mkRat (t - 100 * beatsPerMs) (10 * beatsPerMs)
    else if absQ x.v < s.speed16 (MOT_AX_QS_VBEMF m) then (s.get (MOT_AX_CUR_IRUN m) : Rat)
    else x.amp
  (s.setMx m { x with amp := amp, amp0 := if s.motRest m then x.amp0 else amp }).set (MOT_AX_LOAD_I m) (roundUp amp).toNat

/-- A plan has ended at rest. -/
def State.motArrived (s : State) (m : Nat) : State :=
  let x := s.mx m
  let s1 := s.setMx m { x with p := (x.pos : Rat), v := 0, a := 0, phases := [], done := 0, restAt := s.beat, amp0 := x.amp }
  match x.next with
  | some n => (s1.setMx m { s1.mx m with next := none }).motGo m n
  | none =>
    if s.motState m = mtHoming then (if x.hStop then s1.homeNext m else s1)
    else if s.motState m = mtVel then s1
    else s1.setMotState m mtHold

/-- A running speed towards a soft limit begins its stop (R485). -/
def State.motSoft (s : State) (m : Nat) : State :=
  let x := s.mx m
  if s.motState m ≠ mtVel ∨ x.v = 0 then s
  else
    let lim := sgn 32 (s.get (if 0 < x.v then MOT_AX_SLMAX_VALUE m else MOT_AX_SLMIN_VALUE m))
    let later := s.stopEnd m + x.v * secOf 1
    let past := if 0 < x.v then decide ((lim : Rat) < later) else decide (later < (lim : Rat))
    if past then (s.motPlan m (s.aheadPhases m lim) none).setMotState m mtStopping else s

/-- One microsecond of a plan. -/
def State.motAdvance (s : State) (m : Nat) : State :=
  let x := s.mx m
  match x.phases with
  | q :: t =>
    -- the state at the phase's start follows from the present one: a cubic through the present acceleration
    let full := secOf q.us
    let j := if full = 0 then 0 else (q.a1 - q.a0) / full
    let d := secOf 1
    let p1 := x.p + x.v * d + x.a * d * d / 2 + j * d * d * d / 6
    let v1 := x.v + x.a * d + j * d * d / 2
    let a0 := if x.done = 0 then q.a0 else x.a
    let p1 := if x.done = 0 then x.p + x.v * d + a0 * d * d / 2 + j * d * d * d / 6 else p1
    let v1 := if x.done = 0 then x.v + a0 * d + j * d * d / 2 else v1
    let k := x.done + 1
    if q.us ≤ k then
      let a1 := match t with | [] => 0 | _ => q.a1
      s.setMx m { x with p := p1, v := v1, a := a1, phases := t, done := 0 }
    else s.setMx m { x with p := p1, v := v1, a := a0 + j * d, done := k }
  | [] => s.setMx m { x with p := x.p + x.v * secOf 1 }

/-- The update of one microsecond (R482). -/
def State.motUpdate (s : State) (m : Nat) : State :=
  let x := s.mx m
  if !s.motLive || decide (s.beat < x.updAt + 400) then s
  else
    let s0 := s.setMx m { x with updAt := s.beat }
    if s.motRest m then s0.motCurrent m
    else
      let s1 := (s0.motSoft m).motAdvance m
      let y := s1.mx m
      let s2 := s1.motRes m x.pos y.pos
      -- BOFS past the back-off edge (R495)
      let s3 := match y.hEdge with
        | some e => if s2.motState m = mtHoming ∧ !y.hStop ∧ (s2.get (MOT_AX_HOME2_BOFS m) : Int) ≤ ((y.pos - e).natAbs : Int) then
            s2.homeHalt m else s2
        | none => s2
      let z := s3.mx m
      -- the sum of the rounded phases is the planned speed exactly; a plan to rest ends at 0
      let s4 := if z.phases.isEmpty ∧ absQ z.v < 1 / 1000000 ∧ !(s3.motState m = mtHoming ∧ !z.hStop ∧ z.next.isNone) then s3.motArrived m else s3
      (s4.motCurrent m).motShow m

/-! ### Current regulation, load angle, stall (R489 to R492) -/

/-- The 25 µs period: the mode of regulation and its hand-over (R489, R490). -/
def State.coilPeriod (s : State) (m : Nat) : State :=
  let x := s.mx m
  if !s.motLive || s.motState m == mtOff || decide (s.beat < x.pwmAt + 10000) then s
  else
    let v := absQ x.v
    let strong := s.flag (MOT_AX_STAT_CURMODE m)
    let vs := s.speed16 (MOT_AX_QS_VSTRONG m)
    let want := if strong then !decide (v < 7 * vs / 8) else decide (vs < v)
    if want != strong then
      ((s.setMx m { x with pwmAt := s.beat, hov := some (0, s.freeNext % 65536) }).set (MOT_AX_STAT_CURMODE m) (b2n want)).draw
    else
      let n := max 1 (s.get (MOT_AX_CTL_HOV m))
      s.setMx m { x with pwmAt := s.beat, hov := x.hov.bind (fun h => if h.1 + 1 < n then some (h.1 + 1, h.2) else none) }

/-- The electrical angle of an axis in 1/1024 of a cycle; DIRINV turns it the other way (R480). -/
def State.coilAngle (s : State) (m : Nat) : Nat :=
  let p := roundUp (s.mx m).p
  ((if s.flag (MOT_AX_CTL_DIRINV m) then -p else p) % 1024).toNat

/-- What a hand-over adds to the new mode's reference or duty in this period, in 1/65536 of full scale (R490). -/
def State.handover (s : State) (m : Nat) : Rat :=
  match (s.mx m).hov with
  | some (k, d) => (sgn 16 d : Rat) * (1 - mkRat k (max 1 (s.get (MOT_AX_CTL_HOV m))))
  | none => 0

/-- A load-angle measurement (R491): the amplitude goes towards its value by at most its step. -/
def State.loadAngle (s : State) (m lam : Nat) : State :=
  let x := s.mx m
  if !s.motLive || s.motRest m then s
  else
    let s1 := s.set (MOT_AX_LOAD_LOAD m) lam
    let imax := s.get (MOT_AX_CUR_IMAX m)
    let imin := s.get (MOT_AX_CUR_IMIN m)
    let la (f : Fld) : Rat := (s.get f : Rat)
    let amp : Rat := if absQ x.v < s.speed16 (MOT_AX_QS_VBEMF m) then x.amp
      else
        let den := la (MOT_AX_LA_LAHI m) - la (MOT_AX_LA_LALO m)
        let f : Rat := if den = 0 then (if la (MOT_AX_LA_LAHI m) ≤ (lam : Rat) then 0 else 1)
          else minQ 1 (maxQ 0 ((la (MOT_AX_LA_LAHI m) - (lam : Rat)) / den))
        let span : Rat := (imax : Rat) - (imin : Rat)
        let want := (imin : Rat) + span * f
        if x.amp < want then minQ want (x.amp + absQ span / 16) else maxQ want (x.amp - 1)
    let hit := decide (amp = (imax : Rat)) && decide (lam < s.get (MOT_AX_LA_LASTALL m))
    (s1.setMx m { x with amp := amp, stalls := if hit then x.stalls + 1 else 0 }).set (MOT_AX_LOAD_I m) (roundUp amp).toNat

/-- A stall (R492). -/
def State.motStall (s : State) (m : Nat) : State :=
  let x := s.mx m
  if !s.motLive || s.motRest m || decide (x.stalls < max 1 (s.get (MOT_AX_LA_NSTALL m))) then s
  else
    let s1 := (s.setMx m
      { x with p := (x.pos : Rat), v := 0, a := 0, phases := [], done := 0, next := none, stalls := 0, restAt := s.beat, hEdge := none, hIdx := none }).setMotState
        m mtStalled
    ([(MOT_AX_STAT_STALL m, 1), (MOT_AX_STAT_POSVALID m, 0), (MOT_AX_STAT_HOMED m, 0), (MOT_AX_STAT_HPHASE m, 0)].foldl (fun t p => t.set p.1 p.2)
      ((s1.incSat (MOT_AX_CNT_STALLCNT m)).motCurrent m)).motShow m |>.pulse (0x040 + m)

/-! ### Limits (R493 to R496) -/

/-- The registers of the motion block show the levels of its inputs: it is not held in reset. -/
def State.motShown (s : State) : Bool := !s.heldInReset 134 && s.sysLive

/-- A filtered limit input changes: the positive side or the negative one (R494, R495, R496). -/
def State.limitInput (s : State) (m : Nat) (pos on : Bool) : State :=
  let f := if pos then MOT_AX_STAT_LIMP m else MOT_AX_STAT_LIMN m
  let s1 := s.setPin s.motShown f (b2n on)
  if !s.motLive then s1
  else
    let was := s.flag f
    if was == on then s1
    else if s.motState m = mtHoming then
      if pos == s.flag (MOT_AX_CTL_HOMESEL m) then s1.homeEdge m on
      else if on then s1.homeFail m
      else s1
    else
      let v := (s.mx m).v
      let towards := if pos then decide (0 < v) else decide (v < 0)
      if on && towards && !s.motRest m then
        ((((s1.motStop m)).set (MOT_AX_STAT_LIMTRIP m) 1).incSat (MOT_AX_CNT_TRIPCNT m)).pulse (0x048 + m)
      else s1

/-- A window with more than CHMAX transitions (R493, R496). -/
def State.chatterWindow (s : State) (m : Nat) : State :=
  if !s.motLive || s.get (MOT_AX_LIMCFG_CHWIN m) == 0 then s
  else ((s.set (MOT_AX_STAT_CHATTER m) 1).pulse (0x050 + m)).homeFail m

/-- HOME runs past HTO (R496). -/
def State.homeTimeout (s : State) (m : Nat) : State :=
  let hto := s.get (MOT_AX_HTO_HTO m)
  if s.motLive && s.motState m == mtHoming && hto != 0 && decide ((s.mx m).hStart + hto * 10 * beatsPerMs ≤ s.beat) then s.homeFail m else s

/-! ### Drive die faults, the barrier link, modes (R481, R497, R498) -/

/-- A bridge over-current or over-temperature (R497). -/
def State.driverFault (s : State) (m : Nat) : State :=
  if !s.motLive then s
  else ((((s.motOff m).set (MOT_AX_STAT_POSVALID m) 0).set (MOT_AX_STAT_HOMED m) 0).set (MOT_AX_STAT_DRVFLT m) 1).pulse (0x060 + m)

/-- A measurement of the motor bus in 10 mV (R497): below VMUV every driver goes off. -/
def State.motorBus (s : State) (vm : Nat) : State :=
  let lim := let v := s.get MOT_CTL_VMUV; 100 * (if v = 0 then 10 else v)
  let s1 := s.setPin s.motShown MOT_VM_VM vm
  if vm < lim then
    let t := ({ s1 with mot := { s1.mot with vmBad := true } }).setPin s.motShown MOT_STAT_VMOK 0
    (if s.motShown then t.motAllOff.set MOT_STAT_VMUV 1 else t).raise 0x046
  else
    (({ s1 with mot := { s1.mot with vmBad := false } }).setPin s.motShown MOT_STAT_VMOK 1).lower 0x046

/-- The barrier link loses lock (R34, R498). -/
def State.barrierLoss (s : State) : State :=
  let s1 := (List.range 6).foldl (fun t m => t.motStop m) { s with rst := { s.rst with barrierDown := true } }
  (s1.set MOT_STAT_LINKLOST 1).raise 0x00D

/-- The barrier link relocks: stamped commands whose beat has passed are gone (R498). -/
def State.barrierRelock (s : State) : State :=
  let s1 := (List.range 6).foldl (fun t m =>
    let x := t.mx m
    match x.stamped with
    | some c => if c.due ≤ t.beat then t.setMx m { x with stamped := none } else t
    | none => t) { s with rst := { s.rst with barrierDown := false } }
  s1.lower 0x00D

/-- The axes follow an entry into a mode (R481). -/
def State.motMode (s : State) : State :=
  let md := s.modeCode
  if !motDriverMode md then s.motAllOff
  else if motFullMode md then s
  else (List.range 6).foldl (fun t m => t.motStop m) s

/-- A write of MOT_AX_CTL (R481, R508): EN turns the drivers off at once, or on where they may be. -/
def State.motCtlWrite (s : State) (m v : Nat) : State :=
  let was := s.flag (MOT_AX_CTL_EN m)
  let en := bit v 31
  let s1 := if !en && was then (s.set (MOT_AX_CTL_EN m) 0).motOff m else s
  let s2 := s1.writeFields (0x2000B00100 + 0x80 * m) v
  if en && !was && s2.motCan m then s2.motOn m else s2

/-- A block reset of motion: every driver off, then the registers (R507). -/
def State.resetMot (s : State) : State :=
  let s1 := s.motAllOff
  let s2 := { s1 with mot := { s1.mot with axes := [] } }
  s2.resetRegs 0 (fun a => decide (0x2000B00000 ≤ a) && decide (a < 0x2000C00000))

/-! ### Encoders (R499 to R505) -/

/-- The count of a channel. -/
def State.encPos (s : State) (e : Nat) : Int := sgn 32 (s.get (ENC_POS_VALUE e))

/-- The encoder block runs. -/
def State.encLive (s : State) (e : Nat) : Bool := !s.heldInReset 135 && s.rst.phase == .off && s.flag (ENC_CTL_EN e)

/-- The pass-through pair of a channel (R505). -/
def State.encPass (s : State) (e : Nat) (a b : Bool) : State :=
  if !s.flag (ENC_CTL_PTEN e) then s
  else
    let d := min 4 (s.get (ENC_CTL_DIV e))
    let code := if d = 0 then 2 * b2n a + b2n b
      else match ((s.encPos e).fdiv ((2 ^ d : Nat) : Int)) % 4 with | 0 => 0 | 1 => 2 | 2 => 3 | _ => 1
    s.drivePin (0x80 + e) code

/-- An index is missing (R502). -/
def State.encMissing (s : State) (e : Nat) : State :=
  let cpr := s.get (ENC_CPR_VALUE e)
  let x := s.en e
  if cpr ≠ 0 ∧ s.flag (ENC_STAT_IDXREFOK e) ∧ ((cpr + s.get (ENC_ITOL_VALUE e) : Nat) : Int) ≤ ((s.encPos e - x.last).natAbs : Int) then
    let s1 := ((s.setEn e { x with last := s.encPos e }).set (ENC_STAT_IDXMISS e) 1).incSat (ENC_CNT_IDXMISSCNT e)
    if s.get (ENC_CTL_IDXMODE e) = 2 then s1.pulse (0x070 + e) else s1
  else s

/-- Axes whose homing waits for an index of this channel (R495, R496). -/
def State.homeWaiting (s : State) (e : Nat) : List Nat :=
  (List.range 6).filter (fun m => s.motState m == mtHoming && (s.mx m).hIdx.isSome && s.get (MOT_AX_CTL_ENC m) == e)

/-- No index within CPR + ITOL counts of the switch edge (R496). -/
def State.homeIndexCheck (s : State) (e : Nat) : State :=
  (s.homeWaiting e).foldl (fun t m =>
    match (t.mx m).hIdx with
    | some p => if (((t.get (ENC_CPR_VALUE e) + t.get (ENC_ITOL_VALUE e) : Nat) : Int)) ≤ ((t.encPos e - p).natAbs : Int) then t.homeFail m else t
    | none => t) s

/-- The place of a pair in the sequence 00, 10, 11, 01 (R499). -/
def quadIx (a b : Bool) : Nat := match a, b with | false, false => 0 | true, false => 1 | true, true => 2 | false, true => 3

/-- A filtered line changes (R499, R500). -/
def State.encCount (s : State) (e : Nat) (a b : Bool) : State :=
  if !s.encLive e then s
  else
    let x := s.en e
    let d := (quadIx a b + 4 - quadIx x.lineA x.lineB) % 4
    let s1 := s.setEn e { x with lineA := a, lineB := b }
    if d = 0 then s
    else if d = 2 then
      let s2 := ((s1.setEn e { s1.en e with ill := x.ill + 1 }).incSat (ENC_CNT_ILLCNT e))
      (if s.get (ENC_CTL_ILLTHR e) = 0 then (s2.set (ENC_STAT_ILLEGAL e) 1).pulse (0x068 + e) else s2).encPass e a b
    else
      let up := xor (d == 1) (s.flag (ENC_CTL_DIRINV e))
      let z : Int := if up then 1 else -1
      let s2 := (s1.set (ENC_POS_VALUE e) (enc 32 (s.encPos e + z))).setEn e
        { x with lineA := a, lineB := b, c1 := x.c0, c0 := some s.beat, up := up, net := x.net + z }
      ((s2.encMissing e).homeIndexCheck e).encPass e a b

/-- A 1 ms window of illegal transitions ends (R500). -/
def State.encIllegal (s : State) (e : Nat) : State :=
  if s.heldInReset 135 || s.beat % 400000 != 0 then s
  else
    let x := s.en e
    let s1 := s.setEn e { x with ill := 0 }
    if s.get (ENC_CTL_ILLTHR e) < x.ill then (s1.set (ENC_STAT_ILLEGAL e) 1).pulse (0x068 + e) else s1

/-- A rising edge of the filtered Z (R501, R495). -/
def State.encIndex (s : State) (e : Nat) : State :=
  if !s.encLive e then s
  else
    let cpr := s.get (ENC_CPR_VALUE e)
    let pos := s.encPos e
    let s0 := (s.homeWaiting e).foldl (fun t m => t.homeLatch m) s
    if cpr = 0 then s0
    else if !s.flag (ENC_STAT_IDXREFOK e) then
      (s0.setEn e { s0.en e with ref := (pos % (cpr : Int)).toNat, last := pos }).set (ENC_STAT_IDXREFOK e) 1
    else
      let half_ : Int := (cpr / 2 : Nat)
      let d := (pos - (s.en e).ref + half_) % (cpr : Int) - half_
      let s1 := ((s0.set (ENC_IDXLAT_VALUE e) (enc 32 pos)).set (ENC_IDXDELTA_D e) (enc 32 d)).setEn e { s0.en e with last := pos }
      if d.natAbs ≤ s.get (ENC_ITOL_VALUE e) then s1
      else
        let s2 := (s1.set (ENC_STAT_IDXERR e) 1).incSat (ENC_CNT_IDXERRCNT e)
        match s.get (ENC_CTL_IDXMODE e) with
        | 1 => ((s2.set (ENC_POS_VALUE e) (enc 32 (pos - d))).set (ENC_STAT_SNAPPED e) 1).setEn e { s2.en e with last := pos - d }
        | 2 => s2.pulse (0x070 + e)
        | _ => s2

/-- A write of ENC_POS (R501). -/
def State.encWrite (s : State) (e v : Nat) : State :=
  if s.heldInReset 135 then s
  else ((s.set (ENC_POS_VALUE e) v).setEn e { s.en e with last := sgn 32 v }).set (ENC_STAT_IDXREFOK e) 0

/-- The period estimate in FP32 (R503, R644). -/
def State.encPeriod (s : State) (e : Nat) : Nat :=
  let x := s.en e
  match x.c0, x.c1 with
  | some b0, some b1 =>
    let since := (s.beat - b0) / 2
    let t := max (max 1 ((b0 - b1) / 2)) since
    if 100 * beatsPerMs ≤ s.beat - b0 then 0
    else
      let v := laneDiv 0 (f32OfInt 1) (laneMul 0 (f32OfInt t) (f32Of (mkRat 5 1000000000)))
      if x.up then v else f32Flip v
  | _, _ => 0

/-- A window of SPDWIN ends (R503, R504). -/
def State.encSpeed (s : State) (e : Nat) : State :=
  let x := s.en e
  let win := max 1 (s.get (ENC_SPDCFG_SPDWIN e))
  if !s.encLive e || decide (s.beat < x.winAt + win * beatsPerUs) then s
  else
    let vp := s.encPeriod e
    let vc := laneDiv 0 (f32OfInt x.net) (f32Of (mkRat win 1000000))
    let hi := s.get (ENC_VHI_VALUE e)
    let lo0 := s.get (ENC_VLO_VALUE e)
    let lo := if laneQ lo0 < laneQ hi then lo0 else laneMul 0 hi (f32Of (mkRat 7 8))
    let counting := s.flag (ENC_STAT_METHOD e)
    let want := if counting then !decide (absQ (laneQ vc) < laneQ lo) else decide (laneQ hi < absQ (laneQ vp))
    let new := if want then vc else vp
    let old := if want then vp else vc
    let b := max 1 (s.get (ENC_SPDCFG_BLEND e))
    let bl : Option (Nat × Nat) := if want != counting then some (0, laneSub 0 old new) else x.blend
    let out := match bl with
      | some (m, d) => laneAdd 0 new (laneMul 0 d (laneSub 0 (f32OfInt 1) (laneDiv 0 (f32OfInt m) (f32OfInt b))))
      | none => new
    let next := bl.bind (fun q => if q.1 + 1 < b then some (q.1 + 1, q.2) else none)
    (((s.setEn e { x with net := 0, winAt := s.beat, blend := next }).set (ENC_SPEED_VALUE e) out).set (ENC_STAT_METHOD e) (b2n want)).set
      (ENC_STAT_BLENDING e) (b2n next.isSome)

/-- A write of ENC_CTL (R501): setting EN starts the index reference again. -/
def State.encCtlWrite (s : State) (e v : Nat) : State :=
  let was := s.flag (ENC_CTL_EN e)
  let s1 := s.writeFields (0x2000C00100 + 0x40 * e) v
  if bit v 31 && !was then (s1.set (ENC_STAT_IDXREFOK e) 0).setEn e { s1.en e with last := s1.encPos e, winAt := s1.beat } else s1

/-- A block reset of the encoders. -/
def State.resetEnc (s : State) : State :=
  ({ s with mot := { s.mot with encs := [] } }).resetRegs 0 (fun a => decide (0x2000C00000 ≤ a) && decide (a < 0x2000D00000))

end Sys2Proof.Machine
end

