-- ==== Sys2Proof/Machine/NvOps.lean ====
section
/-! DEFINITION. CRC-32 (R364), the NV store (R574 to R577, R639) and the chronograph's ring (R578 to R583). -/
namespace Sys2Proof.Machine

/-! ### CRC-32 (R364) -/

/-- One bit of the CRC's shift register. -/
def crcShift (c : Nat) : Nat := if bit c 31 then ((2 * c) % 2 ^ 32) ^^^ 0x04C11DB7 else 2 * c
/-- One byte into the CRC, most significant bit first. -/
def crcByte (c : Nat) (b : Byte) : Nat := (List.range 8).foldl (fun x _ => crcShift x) (c ^^^ (b.toNat * 2 ^ 24))
/-- The CRC-32 of bytes. -/
def crc32 (l : List Byte) : Nat := (l.foldl crcByte 0xFFFFFFFF) ^^^ 0xFFFFFFFF

/-! ### The array (R574 to R576) -/

/-- Base of the data window (R27). -/
def nvWindow : Nat := 0x2001080000
/-- Offset in the array of an address of the data window (R27, R574). -/
def State.nvOfs (s : State) (a : Nat) : Nat := s.get NV_PAGE_PAGE * 0x80000 + (a - nvWindow)

/-- The NV store answers: not held in block reset, the sense die out of reset. -/
def State.nvLive (s : State) : Bool := !s.heldInReset 138 && s.rst.phase == .off

/-- A bank is worn-read-only (R576). -/
def State.nvWorn (s : State) (b : Nat) : Bool := (s.get NV_WORN_WORN).testBit b

/-- A row's copy is running (R575). -/
def State.remapping (s : State) (row : Nat) : Bool := s.flt.remaps.any (fun r => r.row == row)

/-- A write ended with an error (R576, R639). -/
def State.nvWriteErr (s : State) : State := (s.incSat NV_WERRCNT_COUNT).set NV_STAT_WERR 1

/-- CHR_USABLE: the ring's slots less those in worn banks (R581, R591). -/
def State.chrUsable (s : State) : State :=
  let b0 := min 12 (s.get CHR_CTL_BANK0)
  s.set CHR_USABLE_USABLE (16384 * ((List.range 4).filter (fun k => !s.nvWorn (b0 + k))).length)

/-- A row fails in a bank without a spare row (R576): the bank is worn, reported once. -/
def State.nvWear (s : State) (b : Nat) : State :=
  if s.nvWorn b then s else ((s.set NV_WORN_WORN (s.get NV_WORN_WORN ||| 2 ^ b)).chrUsable).pulse 0x03C

/-- `k` words of free values from an array offset: contents the rules leave undefined (R576, R577). -/
def State.nvFree (s : State) (ofs : Nat) : Nat → State
  | 0 => s
  | k + 1 => ((s.nvStore ofs (leBytes s.freeNext 8)).draw).nvFree (ofs + 8) k

/-- A bus answer about the NV store: a host's failed write is dropped (R24). -/
def State.nvReply (s : State) (m a : Nat) (ok : Bool) : State :=
  (if m = 4 ∧ !ok then s.hostDropped a else s).reply m ok 0

/-- One 64-bit word written and verified (R575, R576, R639), at address `a` of the data window. -/
def State.nvWrite (s : State) (m a v : Nat) (r : NvResult) : State :=
  if !s.nvLive then s.nvReply m a false
  else
    let ofs := s.nvOfs a / 8 * 8
    let row := ofs / 256
    let b := ofs / 2 ^ 20
    if s.remapping row || s.nvWorn b then s.nvWriteErr.nvReply m a false
    else match r with
      | .verified => (s.nvStore ofs (leBytes v 8)).nvReply m a true
      | .rowFailed =>
        let used := s.get (NV_SPARE_USED b)
        if used < 64 then
          let t := s.set (NV_SPARE_USED b) (used + 1)
          { t with flt := { t.flt with remaps := t.flt.remaps ++ [⟨row, some (m, ofs, v)⟩] } }
        else (((s.nvFree ofs 1).nvWear b).nvWriteErr).nvReply m a false

/-- The copy of a row is complete (R575): the oldest one; the write that waited completes without error. -/
def State.remapDone (s : State) : State :=
  match s.flt.remaps with
  | [] => s
  | r :: t =>
    let s1 := { s with flt := { s.flt with remaps := t } }
    match r.write with
    | some (m, ofs, v) => (s1.nvStore ofs (leBytes v 8)).reply m true 0
    | none => s1

/-- A block reset of the NV store: copies in progress end; the write that waits for one completes with an error (R24). -/
def State.resetNv (s : State) : State :=
  let s1 := s.flt.remaps.foldl (fun t r => match r.write with | some (m, _) => t.reply m false 0 | none => t) s
  ({ s1 with flt := { s1.flt with remaps := [] } }).resetRegs 0 (fun a => decide (0x2001000000 ≤ a) && decide (a < 0x2001100000))

/-! ### Records (R578) -/

/-- A record's words, the CRC aside. -/
def ChrRec.words (r : ChrRec) (pwr seq : Nat) : List Nat :=
  let n := r.snaps.length
  [r.hours, r.secs % 2 ^ 12 + r.sev % 4 * 2 ^ 12 + r.trig % 2 ^ 16 * 2 ^ 16,
    pwr % 2 ^ 24 + n * 2 ^ 24 + b2n r.rail * 2 ^ 28 + b2n r.inj * 2 ^ 29 + b2n r.persist * 2 ^ 30, r.beat, seq, r.detail] ++
    (List.range 8).map (fun k => r.snaps.getD k 0) ++ [0]

/-- A record's 64 bytes. -/
def ChrRec.bytes (r : ChrRec) (pwr seq : Nat) : List Byte :=
  let b := (r.words pwr seq).flatMap (fun w => leBytes w 4)
  b ++ leBytes (crc32 b) 4

/-! ### The ring (R581, R582) -/

/-- First bank of the ring. -/
def State.chrBank0 (s : State) : Nat := min 12 (s.get CHR_CTL_BANK0)
/-- Bank and array offset of a slot. -/
def State.chrSlotBank (s : State) (k : Nat) : Nat := s.chrBank0 + k / 16384
/-- See `chrSlotBank`. -/
def State.chrSlotOfs (s : State) (k : Nat) : Nat := s.chrSlotBank k * 2 ^ 20 + 64 * (k % 16384)

/-- The next usable slot from `k` on, and whether the end of the ring was passed; none without a usable slot. -/
def State.chrNext (s : State) (k : Nat) : Nat → Option (Nat × Bool)
  | 0 => none
  | fuel + 1 =>
    if !s.nvWorn (s.chrSlotBank k) then some (k, false)
    else
      let k1 := (k / 16384 + 1) * 16384
      if k1 < 65536 then s.chrNext k1 fuel else (s.chrNext 0 fuel).map (fun p => (p.1, true))

/-- The slot after `k`, usable. -/
def State.chrAfter (s : State) (k : Nat) : Option (Nat × Bool) :=
  if k + 1 < 65536 then s.chrNext (k + 1) 5 else (s.chrNext 0 5).map (fun p => (p.1, true))

/-- A record of severity `sev` may overwrite a slot under PROTECT (R582). -/
def State.chrMayTake (s : State) (k sev : Nat) : Bool :=
  let b := (List.range 64).map (fun i => s.nvByte (s.chrSlotOfs k + i))
  decide (crc32 (b.take 60) ≠ leNat (b.drop 60)) || decide (bits (leNat ((b.drop 4).take 4)) 13 12 ≤ sev)

/-- The first of `n` usable slots from `k` on that qualifies. -/
def State.chrScan (s : State) (sev k : Nat) : Nat → Option Nat
  | 0 => none
  | n + 1 => if s.chrMayTake k sev then some k else match s.chrAfter k with
    | some (k1, _) => s.chrScan sev k1 n
    | none => none

/-- The queue without its head, with BUSY. -/
def State.chrPop (s : State) : State :=
  let t := { s with flt := { s.flt with queue := s.flt.queue.drop 1, hold := s.flt.hold.map (fun (h : Nat × Nat) => (h.1, h.2 - 1)) } }
  t.set CHR_STAT_BUSY (b2n (!t.flt.queue.isEmpty))

/-- The next slot is now the first usable one after `k` (R581). -/
def State.chrAdvance (s : State) (k : Nat) : State :=
  match s.chrAfter k with
  | some (k1, w) => let t := s.set CHR_WPTR_SLOT k1; if w then t.set CHR_STAT_WRAPPED 1 else t
  | none => s

/-- The head of the queue is written to slot `k` (R578, R581, R639). -/
def State.chrPut (s : State) (q : ChrRec) (k : Nat) (r : NvResult) : State :=
  let ofs := s.chrSlotOfs k
  let b := s.chrSlotBank k
  let seq := (s.get CHR_SEQ_SEQ + 1) % 2 ^ 32
  let done (t : State) : State := (((t.nvStore ofs (q.bytes (s.get NV_PWRCYC_COUNT) seq)).set CHR_SEQ_SEQ seq).chrPop).chrAdvance k
  if s.remapping (ofs / 256) then s
  else match r with
    | .verified => done s
    | .rowFailed =>
      let used := s.get (NV_SPARE_USED b)
      if used < 64 then
        let t := s.set (NV_SPARE_USED b) (used + 1)
        done { t with flt := { t.flt with remaps := t.flt.remaps ++ [⟨ofs / 256, none⟩] } }
      else
        -- the bank is newly worn: the record stays, for the next usable slot
        -- no rule says which of its words failed
        let t := (((s.draw).nvFree (ofs + 8 * (s.freeNext % 8)) 1).nvWear b).nvWriteErr
        match t.chrNext k 5 with
        | some (k1, w) => let u := t.set CHR_WPTR_SLOT k1; if w then u.set CHR_STAT_WRAPPED 1 else u
        | none => t

/-- The chronograph writes in Run, Poise and Rest, from Boot on (R583). -/
def State.chrLive (s : State) : Bool :=
  !s.heldInReset 137 && s.nvLive && s.modeCode != 0 && !(s.modeCode == mLowPower && decide (3 ≤ s.get SYS_MODE_STAT_LPSTATE))

/-- The record at the head of the queue is written, or dropped (R581 to R583). -/
def State.chrWrite (s : State) (r : NvResult) : State :=
  match s.flt.queue with
  | [] => s
  | q :: _ =>
    if !s.chrLive then s
    else match s.chrNext (s.get CHR_WPTR_SLOT) 5 with
      | none => (s.set CHR_STAT_NOSPACE 1).chrPop
      | some (k, _) =>
        if s.flag CHR_STAT_WRAPPED && s.flag CHR_CTL_PROTECT then
          match s.chrScan q.sev k 16 with
          | some j => s.chrPut q j r
          | none => ((s.incSat CHR_DROP_SEVDROP).set CHR_STAT_SEVDROP 1).chrPop
        else s.chrPut q k r

/-- A write of CHR_SWREC (R579, R591). -/
def State.swRec (s : State) (v : Nat) : State :=
  if s.heldInReset 137 || s.rst.phase != .off then s
  else
    let s1 := (s.set CHR_SWREC_SEV (bits v 9 8)).set CHR_SWREC_CODE (bits v 7 0)
    if bit v 31 then s1.record (0x300 + bits v 7 0) (bits v 9 8) 0 (s.get CHR_TSET_SW) false false false [] else s1

/-- A block reset of the chronograph: its queue is lost, then the registers. -/
def State.resetChr (s : State) : State :=
  (({ s with flt := { s.flt with queue := [] } }).resetRegs 0 (fun a => decide (0x2000F00000 ≤ a) && decide (a < 0x2001000000))).chrUsable

end Sys2Proof.Machine
end

