-- ==== Sys2Proof/Machine/CalOps.lean ====
section
/-! DEFINITION. Self-calibration and trim (R513 to R527): steps, gaps and passes, trim records, saves, the commit of Load. -/
namespace Sys2Proof.Machine

/-- The calibrator runs: not in block reset, no reset or Load in progress. -/
def State.calLive (s : State) : Bool := !s.heldInReset 136 && s.rst.phase == .off

/-! ### Codes (R514, R515, R527) -/

/-- Trim code `k`, 0 to 190; the reserved ones read 0x80. -/
def trimFld (k : Nat) : Fld :=
  if k / 4 < 47 then CAL_TRIM_CODES (k / 4) else if k / 4 = 47 then CAL_TRIM_47_CODES else CAL_TRIM_RSV_RSV (k / 4 - 48)
/-- Trim code `k` in force. -/
def State.trim (s : State) (k : Nat) : Nat := if 191 ≤ k then 0x80 else s.get (trimFld k) / 2 ^ (8 * (k % 4)) % 256
/-- Byte `j` of a word replaced. -/
def putByte (w j v : Nat) : Nat := w - w / 2 ^ (8 * j) % 256 * 2 ^ (8 * j) + v % 256 * 2 ^ (8 * j)
/-- A trim code set. -/
def State.setTrim (s : State) (k v : Nat) : State :=
  if 191 ≤ k then s else s.set (trimFld k) (putByte (s.get (trimFld k)) (k % 4) v)
/-- A GSKEW code set. -/
def State.setGskew (s : State) (n v : Nat) : State := s.set (CAL_GSKEW_SKEWS (n / 4)) (putByte (s.get (CAL_GSKEW_SKEWS (n / 4))) (n % 4) v)

/-- Step per code of a trim converter, in the unit of R514: % (0, 2, 123 to 174), ppm/°C (1), % of full scale (3 to 26), µV (27 to 50), LSB
(51 to 122), mV (175 to 190). -/
def trimStep (k : Nat) : Rat :=
  if k = 0 then 5 / 1000 else if k = 1 then 1 / 2 else if k = 2 then 2 / 100 else if k < 27 then 2 / 1000 else if k < 51 then 10
  else if k < 123 then 1 / 4 else if k < 155 then 2 / 100 else if k < 175 then 1 / 100 else if k < 191 then 1 else 0
/-- The correction that trim converter `k` applies: (c − 128) × step (R514). -/
def State.trimShift (s : State) (k : Nat) : Rat := ((s.trim k : Rat) - 128) * trimStep k

/-- The trim codes a step owns (R514, R516); a gate skew step owns none. -/
def stepTrims (k u : Nat) : List Nat :=
  match k with
  | 0 => [0, 1, 2]
  | 1 => (List.range 16).map (· + 155)
  | 2 => [3 + u, 27 + u, 51 + 3 * u, 52 + 3 * u, 53 + 3 * u]
  | 3 => []
  | 4 => [123 + u]
  | _ => (List.range 20).map (· + 171)

/-- Nominal time of a step in beats (R516). -/
def stepBeats_ (k : Nat) : Nat := (match k with | 0 => 2000 | 1 => 1000 | 2 => 400 | 3 => 50 | 4 => 200 | _ => 1000) * beatsPerUs

/-- The steps of a pass of a mask, in order (R516). -/
def passOf (mask : Nat) : List (Nat × Nat) :=
  (List.range 6).flatMap (fun k =>
    if mask.testBit k then
      if k = 2 ∨ k = 3 then (List.range 24).map (fun u => (k, u))
      else if k = 4 then (List.range 32).map (fun u => (k, u)) else [(k, 0)]
    else [])

/-! ### REXT (R513) -/

/-- A measurement of the REXT current: more than 2 % off, or not. -/
def State.rextMeasure (s : State) (bad : Bool) : State :=
  if !s.calLive then s
  else if bad then
    let k := s.cal.rextBad + 1
    let s1 := { s with cal := { s.cal with rextBad := min k 3 } }
    if 3 ≤ k then (s1.set CAL_STAT_REXTERR 1).raise 6 else s1
  else ({ s with cal := { s.cal with rextBad := 0 } }).lower 6

/-! ### Steps (R516 to R520) -/

/-- Laser `u` is idle: its gate inactive and its code 0 for 500 µs; one that was never active, since reset (R517). -/
def State.laserIdle (s : State) (u : Nat) : Bool :=
  !s.flag (LP_STAT_GATE u) && s.flag (LP_STAT_DACZ u) &&
  decide (((s.cal.idleSince.find? (fun e => e.1 == u)).map (·.2)).getD 0 + 500 * beatsPerUs ≤ s.beat)

/-- A step may run in the present gap (R516, R517). -/
def State.stepAllowed (s : State) (k u : Nat) : Bool :=
  let m := s.modeCode
  if m = mCalibrate then true
  else if (m = mRecoat ∧ s.flag CAL_CTL_GAPRECOAT) ∨ (m = mIdle ∧ s.flag CAL_CTL_GAPIDLE) then
    decide (k ≤ 3) || (k == 4 && !s.flag (ILL_DIAG_ON u))
  else if m = mExpose ∧ s.flag CAL_CTL_GAPEXP then
    (k == 2 || k == 3) && s.laserIdle u
  else false

/-- The first in order, or in Expose the lowest laser (R517). -/
def firstStep (expose : Bool) : List (Nat × Nat) → Option (Nat × Nat)
  | [] => none
  | c :: t => match firstStep expose t with
    | none => some c
    | some d => if expose && decide (d.2 < c.2) then some d else some c

/-- The gap at hand: a new stay in a mode forgets the tries of the last one. -/
def State.calGap (s : State) : State :=
  if s.cal.gap = s.mode.since then s else { s with cal := { s.cal with gap := s.mode.since, tried := [], ended := false } }

/-- The steps still pending, with a new pass where the last one ended in an earlier gap (R516). -/
def State.calPass (s : State) : State :=
  match s.cal.pass with
  | some (_ :: _) => s
  | _ => if s.cal.ended then s else { s with cal := { s.cal with pass := some (passOf (s.get CAL_SEQ_MASK)) } }

/-- A step starts, if the gap has one (R516, R517). A transition in progress starts none (log entry 33). -/
def State.calStart (s : State) : State :=
  if !s.calLive || s.cal.running.isSome || s.mode.trans.isSome then s
  else
    let s1 := s.calGap
    let s2 := s1.calPass
    let l := (s2.cal.pass.getD []).filter (fun c => s2.stepAllowed c.1 c.2 && !s2.cal.tried.contains c)
    match firstStep (s.modeCode == mExpose) l with
    | none => s
    | some (k, u) =>
      ((({ s2 with cal := { s2.cal with running := some (k, u, s.beat), tried := s2.cal.tried ++ [(k, u)] } }).set CAL_STAT_BUSY 1).set
        CAL_STAT_UNIT u).set CAL_SEQ_KIND k

/-- The running step is over. -/
def State.calOver (s : State) : State :=
  ((({ s with cal := { s.cal with running := none } }).set CAL_STAT_BUSY 0).set CAL_STAT_UNIT 0).set CAL_SEQ_KIND 0x3F

/-- In Calibrate the sequence is complete once every step has been tried (R516, R519). -/
def State.calSequenceDone (s : State) : Bool :=
  s.modeCode == mCalibrate && s.cal.running.isNone && s.cal.gap == s.mode.since &&
  (match s.cal.pass with | some l => l.all (fun c => s.cal.tried.contains c) | none => false)

/-! ### Trim records (R521 to R523) -/

/-- The record of the codes in force with a generation (R521). -/
def State.trimRecord (s : State) (gen : Nat) : List Byte :=
  let b := leBytes 0x43545224 4 ++ leBytes 1 4 ++ leBytes gen 4 ++ leBytes (s.get SYS_HOURS_OPERATING) 4 ++ leBytes (s.get (SYS_TEMP_T 1)) 2 ++
    leBytes 0 14 ++ (List.range 200).map (fun k => BitVec.ofNat 8 (s.trim k)) ++ (List.range 24).map (fun n => BitVec.ofNat 8 (s.gskew n)) ++
    leBytes 0 252
  b ++ leBytes (crc32 b) 4

/-- Array offset of a copy: false A, true B (R522); the offset stays within the bank (log entry 34). -/
def State.trimOfs (s : State) (b : Bool) : Nat :=
  s.get (if b then CAL_NVLOC_BANKB else CAL_NVLOC_BANKA) * 2 ^ 20 + s.get CAL_NVLOC_OFFSET * 512 % 2 ^ 20

/-- A save starts (R522). -/
def State.trimSave (s : State) : State :=
  if !s.calLive || s.cal.save.isSome then s
  else if s.get CAL_NVLOC_BANKA = s.get CAL_NVLOC_BANKB then s.set CAL_STAT_CFGERR 1
  else
    let g := (s.get CAL_GEN_GEN + 1) % 2 ^ 32
    ({ s with cal := { s.cal with save := some (g, s.trimRecord g) } }).set CAL_STAT_SAVING 1

/-- One copy is written and read back (R522, R523, R576, R639); a failed read-back leaves its contents undefined. -/
def State.trimCopy (s : State) (b verify : Bool) (r : List Byte) : State × Bool :=
  let o := s.trimOfs b
  let err (t : State) : State := (t.set (if b then CAL_STAT_COPYERRB else CAL_STAT_COPYERRA) 1).pulse 0x039
  if !s.nvLive then (err s, false)
  else if s.nvWorn (o / 2 ^ 20) || s.remapping (o / 256) || s.remapping (o / 256 + 1) then (err s.nvWriteErr, false)
  else if verify then (s.nvStore o r, true)
  else (err (s.nvFree o 64), false)

/-- The save ends: copy A, then copy B (R522, R523). -/
def State.trimSaveDone (s : State) (va vb : Bool) : State :=
  match s.cal.save with
  | none => s
  | some (g, r) =>
    if !s.calLive then s
    else
      let s1 := ({ s with cal := { s.cal with save := none } }).set CAL_STAT_SAVING 0
      let (s2, a) := s1.trimCopy false va r
      let (s3, b) := s2.trimCopy true vb r
      if a || b then s3.set CAL_GEN_GEN g else s3

/-- A reset strikes a save: copy A, then copy B, are written up to a word that nothing fixes (R525, R577). -/
def State.trimCut (s : State) : State :=
  match s.cal.save with
  | none => s
  | some (_, r) =>
    let k := s.freeNext % 129
    let t := ({ s with cal := { s.cal with save := none } }).draw
    let put (u : State) (b : Bool) (n : Nat) : State := if u.nvWorn (u.trimOfs b / 2 ^ 20) then u else u.nvStore (u.trimOfs b) (r.take (8 * n))
    put (put t false (min k 64)) true (k - 64)

/-- The step completes with its new codes (R519, R520): in the order of R514, or GSKEW of the port. -/
def State.calComplete (s : State) (codes : List Int) : State :=
  match s.cal.running with
  | none => s
  | some (k, u, _) =>
    let trims := stepTrims k u
    let (lo, hi) : Int × Int := if k = 3 then (-128, 127) else (0, 255)
    if !s.calLive || codes.length != (if k = 3 then 1 else trims.length) then s
    else if codes.any (fun c => decide (c < lo) || decide (hi < c)) then
      (((s.calOver).incSat CAL_CNT_ABORT).set CAL_STAT_RANGEERR 1).pulse 0x038
    else
      let s1 := if k = 3 then s.setGskew u (enc 8 (codes.headD 0))
        else (trims.zip codes).foldl (fun t p => t.setTrim p.1 p.2.toNat) s
      let left := (s1.cal.pass.getD []).filter (fun c => c != (k, u))
      let s2 := (({ s1 with cal := { s1.cal with pass := some left } }).calOver).incSat CAL_CNT_DONE
      if left.isEmpty then
        let s3 := { s2 with cal := { s2.cal with ended := true } }
        if s3.flag CAL_CTL_AUTOSAVE then s3.trimSave else s3
      else s2

/-- The step has run longer than TOMUL times its nominal time (R519). -/
def State.calTimeout (s : State) : State :=
  match s.cal.running with
  | none => s
  | some (k, _, b) =>
    if s.calLive && decide (b + max 1 (s.get CAL_CTL_TOMUL) * stepBeats_ k < s.beat) then (s.calOver).incSat CAL_CNT_TIMEOUT else s

/-- RESTART: the pass begins again at its first step (R527). -/
def State.calRestart (s : State) : State :=
  if !s.calLive then s
  else { s with cal := { s.cal with pass := some (passOf (s.get CAL_SEQ_MASK)), tried := [], gap := s.mode.since, ended := false } }

/-- On entry into Calibrate a full pass begins (R516). -/
def State.calEnter (s : State) : State :=
  { s with cal := { s.cal with pass := some (passOf (s.get CAL_SEQ_MASK)), tried := [], gap := s.mode.since, ended := false } }

/-- Bytes of the trim registers at an address that a running step owns (R527), bit j for byte j. -/
def State.calOwned (s : State) (a : Nat) : Nat :=
  match s.cal.running with
  | none => 0
  | some (k, u, _) =>
    (List.range 4).foldl (fun m j =>
      let own := if 0x2000D00100 ≤ a ∧ a < 0x2000D001C8 then (stepTrims k u).contains (a - 0x2000D00100 + j)
        else if 0x2000D00200 ≤ a ∧ a < 0x2000D00218 then k == 3 && u == a - 0x2000D00200 + j else false
      if own then m + 2 ^ j else m) 0

/-- A write of CAL_TRIM or CAL_GSKEW (R527): discarded in Armed and Expose; a running step's codes are kept. -/
def State.calWrite (s : State) (a v : Nat) : State :=
  if s.modeCode == mArmed || s.modeCode == mExpose then s.set CAL_STAT_WERR 1
  else
    let own := s.calOwned a
    let old := s.peekReg a
    let w := (List.range 4).foldl (fun x j => if own.testBit j then putByte x j (old / 2 ^ (8 * j)) else x) v
    let s1 := if own = 0 then s else s.set CAL_STAT_WERR 1
    s1.writeFields a w

/-- A block reset of calibration (R518, R527): the step aborts, a save is cut; trims keep. -/
def State.resetCal (s : State) : State :=
  let s1 := (s.calAbort).trimCut
  ({ s1 with cal := { idleSince := s1.cal.idleSince, missing := s1.cal.missing } }).resetRegs 0
    (fun a => decide (0x2000D00000 ≤ a) && decide (a < 0x2000E00000))

/-! ### Load (R524) -/

/-- A valid copy of the trim record: its generation and bytes. -/
def State.trimValid (s : State) (b : Bool) : Option (Nat × List Byte) :=
  let l := (List.range 512).map (fun i => s.nvByte (s.trimOfs b + i))
  let w (k : Nat) : Nat := leNat ((l.drop k).take 4)
  if w 0 = 0x43545224 ∧ w 4 = 1 ∧ w 508 = crc32 (l.take 508) then some (w 8, l) else none

/-- The copy to use, of the valid ones (R524): the higher generation, A where they are equal. -/
def trimPick : Option (Nat × List Byte) → Option (Nat × List Byte) → Option (Bool × (Nat × List Byte))
  | some a, some b => if a.1 < b.1 then some (true, b) else some (false, a)
  | some a, none => some (false, a)
  | none, some b => some (true, b)
  | none, none => none
/-- Every trim code from `f`, every group skew from `h`. -/
def State.setTrims (s : State) (f h : Nat → Nat) : State :=
  (List.range 24).foldl (fun t n => t.setGskew n (h n)) ((List.range 191).foldl (fun t k => t.setTrim k (f k)) s)
/-- R524 for the copy picked. -/
def State.trimUse (s : State) : Option (Bool × (Nat × List Byte)) → State
  | none =>
    let s2 := s.setTrims (fun _ => 0x80) (fun _ => 0)
    { (((s2.set CAL_STAT_NOTRIM 1).set CAL_STAT_ACTCOPY 0).set CAL_GEN_GEN 0) with cal := { s2.cal with missing := true } }
  | some (b, (g, l)) =>
    let s2 := s.setTrims (fun k => (l.getD (32 + k) 0).toNat) (fun n => (l.getD (232 + n) 0).toNat)
    { (((s2.set CAL_STAT_NOTRIM 0).set CAL_STAT_ACTCOPY (b2n b)).set CAL_GEN_GEN g) with cal := { s2.cal with missing := false } }

/-- The trims commit (R524): the valid copy with the higher generation, A where they are equal; with none, the neutral
codes, NOTRIM, and the trim-missing report in Boot. -/
def State.trimCommit (s : State) : State := s.trimUse (trimPick (s.trimValid false) (s.trimValid true))

end Sys2Proof.Machine
end

