-- ==== Sys2Proof/Machine/ModeOps.lean ====
section
/-! DEFINITION. The mode controller (R41 to R67): requests, transitions, their effect on every block, forced Halted, layer
completion, the start barrier (R144 to R147). -/
namespace Sys2Proof.Machine

/-! ### Requests (R45 to R47, R53, R54, R56) -/

/-- The transitions that a request may start (R53), Halted apart. -/
def requestable (from_ tgt : Nat) : Bool :=
  match from_ with
  | 1 => tgt == 2
  | 2 => tgt == 3 || tgt == 10 || tgt == 11
  | 3 => tgt == 2 || tgt == 4 || tgt == 7 || tgt == 8 || tgt == 10 || tgt == 11 || tgt == 12
  | 4 => tgt == 3
  | 6 => tgt == 3 || tgt == 4 || tgt == 7
  | 7 => tgt == 3
  | 8 => tgt == 3
  | 9 => tgt == 2 || tgt == 3 || tgt == 10
  | 10 => tgt == 2 || tgt == 3
  | _ => false

/-- Some laser-safety source is active. -/
def State.safetyActive (s : State) : Bool :=
  (List.range 16).any (fun w =>
    let a := s.get (FLT_ACT_SOURCE w)
    if a = 0 then false else (List.range 32).any (fun j => a.testBit j && srcSafety (32 * w + j)))

/-- The arm conditions checked when the request is received (R54). -/
def State.armReceipt (s : State) : Bool :=
  s.flag LP_ILK_LEVA && s.flag LP_ILK_LEVB && !s.flag FLT_HACK_STATE && !s.safetyActive &&
  (List.range 24).all (fun n => !s.flag (LP_CTL_EN n) || s.hlState n == 5)

/-- The conditions under which a request leaves Halted (R56). -/
def State.haltExit (s : State) : Bool :=
  !s.flag FLT_HACK_STATE && !s.safetyActive && !s.mode.forcers.any s.srcActive

/-- The cause of rejection of a request against a mode and its LPSTATE (R45, R46, R64), none where it is legal. -/
def State.requestCause (s : State) (from_ lp : Nat) (r : ModeReq) : Option Nat :=
  if 13 ≤ r.target then some 2
  else if r.target = 6 ∧ r.master = 0xFD ∧ from_ = mExpose then none
  else if r.target = 5 ∨ r.target = 6 then some 0
  else if r.target = mLowPower ∧ (r.lpstate = 0 ∨ 5 < r.lpstate) then some 3
  else if r.target = from_ then
    if from_ = mLowPower ∧ r.lpstate ≠ lp then some 3 else none
  else if r.target = mHalted then (if from_ = 0 ∨ from_ = 1 ∨ from_ = mLowPower then some 0 else none)
  else if !requestable from_ r.target then some 0
  else if r.target = mArmed ∧ !s.armReceipt then some 1
  else if from_ = mHalted ∧ !s.haltExit then some 4
  else none

/-- A rejection is recorded (R64); a rejected broadcast is a mode mismatch (R51). -/
def State.reject (s : State) (r : ModeReq) (from_ cause : Nat) : State :=
  let s1 := [(SYS_MODE_ERR_REJ_MASTER, r.master), (SYS_MODE_ERR_REJ_CAUSE, cause), (SYS_MODE_ERR_REJ_FROM, from_),
    (SYS_MODE_ERR_REJ_TARGET, r.target), (SYS_MODE_ERR_REJECT, 1)].foldl (fun t p => t.set p.1 p.2) s
  if r.master = 0xFD then s1.pulse 0x023 else s1

/-- A legal request starts its transition, or changes nothing where the mode is in force (R46, R47). -/
def State.acceptRequest (s : State) (r : ModeReq) : State :=
  let s1 := s.set SYS_MODE_STAT_REQ_MASTER r.master
  if r.target = s.modeCode then s1
  else { s1.set SYS_MODE_STAT_BUSY 1 with mode := { s1.mode with trans := some (r, s.beat), armed := false } }

/-- A legal request during a transition becomes the pending one (R47). -/
def State.pendRequest (s : State) (r : ModeReq) : State :=
  let s1 := if s.mode.pend.isSome then s.set SYS_MODE_ERR_PREEMPT 1 else s
  { (s1.set SYS_MODE_STAT_PENDING 1).set SYS_MODE_STAT_PEND_TARGET r.target with mode := { s1.mode with pend := some r } }

/-- No request is pending. -/
def State.dropPending (s : State) : State :=
  { (s.set SYS_MODE_STAT_PENDING 0).set SYS_MODE_STAT_PEND_TARGET 0 with mode := { s.mode with pend := none } }

/-- A request is received (R45 to R47): checked against the target of a transition in progress, else against the mode in force;
one that comes before a forced entry into Halted takes effect is rejected with cause 4 (R50). -/
def State.submit (s : State) (r : ModeReq) : State :=
  if s.mode.haltDue.isSome then s.reject r mHalted 4
  else
    let from_ := match s.mode.trans with | some (q, _) => q.target | none => s.modeCode
    let lp := match s.mode.trans with | some (q, _) => q.lpstate | none => s.get SYS_MODE_STAT_LPSTATE
    match s.requestCause from_ lp r with
    | some c => s.reject r from_ c
    | none => if s.mode.trans.isSome then s.pendRequest r else s.acceptRequest r

/-- A write of SYS_MODE_REQ (R45, R62). -/
def State.modeRequest (s : State) (m v : Nat) : State :=
  if !s.sysLive then s
  else
    let s1 := (s.set SYS_MODE_REQ_TARGET (bits v 3 0)).set SYS_MODE_REQ_LPSTATE (bits v 7 4)
    if bit v 31 then s1.submit ⟨bits v 3 0, bits v 7 4, m⟩ else s1

/-- The pending request starts on the beat after the transition has ended (R47). -/
def State.pendingStart (s : State) : State :=
  match s.mode.pend, s.mode.trans with
  | some r, none =>
    if s.beat ≤ s.mode.since ∨ s.mode.haltDue.isSome then s
    else
      let s1 := s.dropPending
      match s1.requestCause s1.modeCode (s1.get SYS_MODE_STAT_LPSTATE) r with
      | some c => s1.reject r s1.modeCode c
      | none => s1.acceptRequest r
  | _, _ => s

/-! ### A mode takes effect (R47, R52, R60, R61, R65 to R67) -/

/-- What the mode left asks of the blocks. -/
def State.leaveMode (s : State) (old new : Nat) : State :=
  if old = mArmed ∧ new = mIdle then s.disarmAll
  else if old = mExpose then
    let t := s.lasersSafe
    (List.range 24).foldl (fun u n => (u.portRefresh n).lower (laserSrc n 1)) t
  else if old = mTune then s.injStopAll
  else if old = mHalted then (s.closeAll.unfreezeAll).bridgeClear
  else if old = mJoin ∧ new ≠ mIdle then s.unjoin
  else if (old ≤ 1 ∨ old = mTest ∨ old = mLowPower) ∧ 2 ≤ new ∧ new ≠ mTest ∧ new ≠ mLowPower then s.illResume
  else s

/-- Join begins (R411, R415): the device is its own root and unjoined until the fabric forms. -/
def State.joinStart (s : State) : State :=
  let t := s.unjoin
  ({ t with skz := { t.skz with root := t.uid, dist := 0, stable := t.beat, joinAt := t.beat, topos := [], topoAt := t.beat } }).set SKZ_STAT_JSTATE 1

/-- LRDY deasserted on a port with EN set is a fault from the entry into Expose (R238). -/
def State.readyCheck (s : State) : State :=
  (List.range 24).foldl (fun t n =>
    if t.flag (LP_CTL_EN n) && !t.flag (LP_STAT_RDY n) then (t.set (LP_STAT_RDYLOST n) 1).raise (laserSrc n 1) else t) s

/-- What the mode entered asks of the blocks. A calibration step that runs on entry into a mode in which R60 names no calibration
ends as aborted (log entry 129). -/
def State.enterBlocks (s : State) (new : Nat) : State :=
  let s1 := match new with
    | 4 =>
      let t := ((s.calAbort).bridgeArm).peerCheckStart
      if t.flag SYS_MODE_CTL_FAB_LAYER then t.skReport 2 0 0 else t
    | 5 => { s.readyCheck with mode := { s.mode with layerTold := false } }
    | 6 => ((s.bridgeClear).undrawnCheck).set SYS_MODE_STAT_LAYER_DONE 0
    | 3 => s.bridgeClear
    | 7 => s.calEnter
    | 8 => s.calAbort
    | 9 => (s.freezeAll).calAbort
    | 10 => s.illAllOff
    | 11 => (s.calAbort).joinStart
    | _ => if new ≤ 1 ∨ new = mLowPower then ((s.axesOff).illAllOff).camOff else s
  let s2 := if new = mLowPower then s1.hackAssert 0x201 else s1
  ((((s2.motMode).hlPmAll).dialCommit).brgCommit).setDryRun

/-- A mode takes effect on this beat. -/
def State.enterMode (s : State) (new lp master : Nat) : State :=
  let old := s.modeCode
  let s1 := [(SYS_MODE_STAT_PREV, old), (SYS_MODE_STAT_MODE, new), (SYS_MODE_STAT_LPSTATE, if new = mLowPower then lp else 0),
    (SYS_MODE_STAT_REQ_MASTER, master), (SYS_MODE_STAT_BUSY, 0), (SYS_MODE_EVT_CHANGED, 1)].foldl (fun t p => t.set p.1 p.2) s
  let s2 := s1.incWrap SYS_MODE_CNT_TRANSITIONS
  let s3 := if new = mHalted then (s2.incWrap SYS_MODE_CNT_HALTS).set SYS_MODE_EVT_HALTED 1 else s2
  let s4 := { s3 with mode := { s3.mode with trans := none, armed := false, forcers := [], since := s3.beat, recoatDue := false } }
  let s5 := (s4.leaveMode old new).enterBlocks new
  let s6 := s5.modeRecord (new == mHalted)
  let s7 := if new = mHalted && s6.flag SYS_MODE_CTL_FAB_HALT then s6.skBroadcast 2 9 (s.beat + 400) else s6
  s7.refreshLine 1

/-- Sources force Halted (R49): the entry takes effect on the next beat (R50). In Halted they end a transition out of it and a
pending request (log entry 126). -/
def State.forceHalted (s : State) (srcs : List Nat) : State :=
  if s.modeCode = 0 ∨ (s.modeCode = mHalted ∧ s.mode.trans.isNone ∧ s.mode.pend.isNone) then s
  else { s with mode := { s.mode with haltDue := some (s.mode.haltDue.getD [] ++ srcs) } }

/-- A pending request is discarded by an entry into Halted (R49). -/
def State.preemptPending (s : State) : State :=
  if s.mode.pend.isSome then (s.dropPending).set SYS_MODE_ERR_PREEMPT 1 else s

/-- A forced entry into Halted takes effect (R49, R50): any transition in progress ends, a pending request is discarded. -/
def State.haltNow (s : State) : State :=
  match s.mode.haltDue with
  | none => s
  | some srcs =>
    let s1 := ({ s with mode := { s.mode with haltDue := none } }).preemptPending
    if s1.modeCode = mHalted then
      { s1.set SYS_MODE_STAT_BUSY 0 with
        mode := { s1.mode with trans := none, armed := false, forcers := s1.mode.forcers ++ srcs } }
    else
      let s2 := s1.enterMode mHalted 0 0xFE
      { s2 with mode := { s2.mode with forcers := srcs } }

/-- The layer completed on the beat before (R58). -/
def State.recoatNow (s : State) : State :=
  if s.mode.recoatDue then s.enterMode mRecoat 0 0xFF else s

/-! ### Transitions (R47, R48, R53 to R55) -/

/-- Some stepper axis moves. -/
def State.stepperMoves (s : State) : Bool := (List.range 6).any (fun m => !s.motRest m)

/-- An axis is closed and inside its tracking limit, its approach done (R54, R332). -/
def State.axReady (s : State) (a : Nat) : Bool :=
  s.axState a == 2 && !s.flag (BAL_AXSTAT_APPROACH a) && decide (absQ (s.ax a).err ≤ (s.get (BAL_TRKLIM_LIMIT a) : Rat))

/-- The arm conditions that complete a transition into Armed (R54). -/
def State.armReady (s : State) : Bool :=
  (List.range 72).all (fun a => !s.flag (BAL_AXCTL_EN a) || s.axReady a) &&
  (List.range 24).all (fun n => !s.flag (ESC_CTL_ENABLE n) || s.flag (ESC_STAT_READY n))

/-- The completion condition of a transition (R53). -/
def State.transDone (s : State) (tgt : Nat) : Bool :=
  let from_ := s.modeCode
  if tgt = mHalted then true
  else if from_ = mHalted then s.haltExit
  else if from_ = 1 then s.flag SYS_BOOT_STAT_RUNNING
  else if tgt = mArmed then
    s.mode.armed && s.armReady && s.flag LP_ILK_LEVA && s.flag LP_ILK_LEVB &&
      (from_ != mRecoat || (!s.stepperMoves && s.cal.running.isNone))
  else if from_ = 2 ∧ tgt = mIdle then (List.range 24).all (fun n => !s.flag (HL_CTL_EN n) || s.hlState n == 5)
  else if tgt = mLowPower then false
  else if from_ = mRecoat then !s.stepperMoves && s.cal.running.isNone
  else if from_ = mCalibrate then s.cal.running.isNone
  else if from_ = mTune then
    (List.range 4).all (fun g => !(s.gen g).active) &&
    (List.range 72).all (fun a => !s.flag (BAL_AXSTAT_SWPEND a) && !s.flag (BAL_AXSTAT_BLEND a))
  else if from_ = mTest then s.flt.inj.isNone
  else true

/-- A transition completes where its condition holds; Calibrate ends by itself with its sequence (R47, R53, R516). -/
def State.transComplete (s : State) : State :=
  if s.mode.haltDue.isSome then s
  else match s.mode.trans with
  | some (r, _) => if s.transDone r.target then s.enterMode r.target r.lpstate r.master else s
  | none => if s.calSequenceDone then s.enterMode mIdle 0 0xFF else s

/-- Beats of TRANS_TO (R65). -/
def State.transLimit (s : State) : Nat := max 1 (s.get SYS_MODE_CTL_TRANS_TO) * beatsPerMs

/-- A transition has not completed within TRANS_TO (R48); a stay in Join counts as one (R414, log entry 35). A request that is
pending is discarded with PREEMPT, as a forced entry discards it (log entry 127). -/
def State.transTimeout (s : State) : State :=
  let late := match s.mode.trans with
    | some (_, b) => decide (b + s.transLimit ≤ s.beat)
    | none => s.modeCode == mJoin && decide (s.mode.since + s.transLimit ≤ s.beat)
  if !late then s
  else
    (((s.set SYS_MODE_ERR_TIMEOUT 1).pulse 7).preemptPending).enterMode mHalted 0 0xFE

/-- The arming beat of a transition into Armed (R55): from Idle the beat of its acceptance, from Recoat the first after it with
every axis and the calibration at rest. -/
def State.armingBeat (s : State) : State :=
  match s.mode.trans with
  | some (r, b) =>
    if r.target = mArmed ∧ !s.mode.armed ∧ s.mode.haltDue.isNone ∧
        (s.modeCode = mIdle ∨ (decide (b < s.beat) && !s.stepperMoves && s.cal.running.isNone)) then
      { s.armAll with mode := { s.armAll.mode with armed := true, armAt := s.beat } }
    else s
  | none => s

/-! ### Expose (R57, R58, R144 to R148) -/

/-- Every enabled escapement has executed the HALT that ends its layer program (R58). -/
def State.layerOver (s : State) : Bool :=
  (List.range 24).all (fun n => !s.flag (ESC_CTL_ENABLE n) || (s.esc n).layerDone)

/-- Every enabled escapement executed its HALT before this beat. -/
def State.haltsPast (s : State) : Bool :=
  (List.range 24).all (fun n => !s.flag (ESC_CTL_ENABLE n) || decide ((s.esc n).haltAt < s.beat))

/-- The device's layer is complete (R58): reported with FAB_LAYER, else Recoat follows on the beat after the last HALT. -/
def State.layerComplete (s : State) : State :=
  if s.modeCode ≠ mExpose ∨ s.mode.trans.isSome ∨ !s.layerOver ∨ s.mode.layerTold then s
  else
    let s1 := { s.set SYS_MODE_EVT_LAYER 1 with mode := { s.mode with layerTold := true } }
    if s.flag SYS_MODE_CTL_FAB_LAYER then
      ((s1.set SYS_MODE_STAT_LAYER_DONE 1).refreshLine 1).skReport 3 0 s.beat
    else if s1.haltsPast then s1.enterMode mRecoat 0 0xFF
    else { s1 with mode := { s1.mode with recoatDue := true } }

/-- The start barrier releases (R144, R146, R147). -/
def State.startRelease (s : State) : State :=
  if s.modeCode ≠ mArmed ∨ s.mode.trans.isSome then s.set ESC_GSTAT_GOERR 1
  else if (List.range 24).all (fun n => !s.flag (ESC_CTL_ENABLE n) || s.flag (ESC_STAT_READY n)) then
    let s1 := (({ s with lbRun := true }).setPair ESC_LBEAT_LO_BEAT ESC_LBEAT_HI_BEAT 0).enterMode mExpose 0 0xFF
    (List.range 24).foldl (fun t n => if s.flag (ESC_STAT_READY n) then t.startEsc n else t) s1
  else (s.set ESC_GSTAT_MISSED 1).pulse 8

/-- A start command of ESC_GO reaches its release beat (R144). -/
def State.startDueNow (s : State) : State :=
  match s.starts.find? (fun b => decide (b ≤ s.beat)) with
  | some b => ({ s with starts := s.starts.erase b }).startRelease
  | none => s

/-! ### Fabric commands that move the mode (R51, R414, R428) -/

/-- A MODE broadcast on its beat (R51); one for Recoat from Expose takes effect at once (R53). -/
def State.bcastMode (s : State) (carg : Nat) : State :=
  let r : ModeReq := ⟨carg % 16, carg / 16 % 16, 0xFD⟩
  if r.target = mRecoat ∧ s.modeCode = mExpose ∧ s.mode.trans.isNone then s.enterMode mRecoat 0 0xFD
  else s.submit r

/-- Join ends unjoined (R414, R415): JOINERR, its source, and Idle. -/
def State.joinFail (s : State) : State :=
  let t := ((s.unjoin).set SKZ_STAT_JOINERR 1).pulse 0x020
  if t.modeCode = mJoin then t.enterMode mIdle 0 0xFF else t

/-- JOINED on its beat (R414): with a valid address the device is joined, without one its Join fails. -/
def State.joined (s : State) (ndev : Nat) : State :=
  if s.modeCode ≠ mJoin then s
  else if s.skz.turnedAway ∨ s.get SKZ_STAT_JSTATE < 4 then s.joinFail
  else
    (((s.set SKZ_STAT_JOINED 1).set SKZ_STAT_NDEV ndev).set SKZ_STAT_JSTATE 0).enterMode mIdle 0 0xFF

/-- Join has not completed within JOINTO (R414). -/
def State.joinTimeout (s : State) : State :=
  if s.modeCode = mJoin ∧ s.mode.since + max 1 (s.get SKZ_CTL_JOINTO) * beatsPerMs ≤ s.beat then s.joinFail else s

end Sys2Proof.Machine
end

