-- ==== Sys2Proof/Machine/SkzCmdOps.lean ====
section
/-! DEFINITION. The Skeuz fabric's events (R404 to R429, R642): ports, Join, addresses, time, broadcasts, reports. -/
namespace Sys2Proof.Machine

/-! ### Ports (R404, R407) -/

/-- Training begins, or the port stays DOWN without EN or REFB. -/
def State.skTrain (s : State) (p : Nat) : State :=
  let x := s.skp p
  (s.setSkp p { hello := x.hello, since := s.beat }).set (SKZ_PSTAT_STATE p) (if s.flag (SKZ_PCTL_EN p) && !s.rst.refbBad then 1 else 0)

/-- Block lock is held and 64 good flits have come (R404). Whether the partner asks for FEC or precoding is free. -/
def State.skPortUp (s : State) (p : Nat) : State :=
  if !s.skLive || s.get (SKZ_PSTAT_STATE p) != 1 || s.rst.refbBad then s
  else
    let f := s.freeNext
    let s1 := (s.setSkp p { hello := (s.skp p).hello, since := s.beat }).draw
    ((s1.set (SKZ_PSTAT_STATE p) 2).set (SKZ_PSTAT_FECON p) (b2n (s.flag (SKZ_PCTL_FEC p) || bit f 0))).set (SKZ_PSTAT_PRECON p)
      (b2n (s.flag (SKZ_PCTL_PRECODE p) || bit f 1))

/-- Training has not reached UP in 50 ms (R404). -/
def State.skTrainTimeout (s : State) (p : Nat) : State :=
  let x := s.skp p
  if !s.skLive || s.get (SKZ_PSTAT_STATE p) != 1 || decide (s.beat < x.since + 50 * beatsPerMs) then s
  else if x.restarts < 4 then s.setSkp p { x with restarts := x.restarts + 1, since := s.beat }
  else s.set (SKZ_PSTAT_STATE p) 3

/-- An UP port loses block lock (R404). -/
def State.skLoseLock (s : State) (p : Nat) : State := if s.skLive && s.portUp p then s.skPortDown p else s

/-- LACK has not advanced (R407): every unacknowledged flit goes again; the sixteenth in a row takes the port DOWN (R404). -/
def State.skReplay (s : State) (p : Nat) : State :=
  let x := s.skp p
  if !s.skLive || !s.portUp p || x.unacked.isEmpty then s
  else
    let s1 := (s.setSkp p { x with replays := x.replays + 1 }).incSat (SKZ_PERR_REPLAY p)
    if 16 ≤ x.replays + 1 then s1.skPortDown p
    else x.unacked.foldl (fun t e => t.sendFlit p e.2 e.1 x.rxSeq) s1

/-- RETRAIN (R404, R434). -/
def State.skRetrain (s : State) (p : Nat) : State :=
  if !s.skLive || !s.flag (SKZ_PCTL_EN p) then s
  else if s.portUp p then s.skPortDown p
  else s.skTrain p

/-- A write of SKZ_PCTL (R404, R434). -/
def State.skCtlWrite (s : State) (p v : Nat) : State :=
  if !s.skLive then s
  else
    let was := s.flag (SKZ_PCTL_EN p)
    let s1 := ((s.set (SKZ_PCTL_PRECODE p) (b2n (bit v 2))).set (SKZ_PCTL_FEC p) (b2n (bit v 1))).set (SKZ_PCTL_EN p) (b2n (bit v 0))
    let s2 := if bit v 0 && !was then s1.skTrain p
      else if !bit v 0 && was then (if s1.portUp p then s1.skPortDown p else s1.skTrain p)
      else s1
    if bit v 3 then s2.skRetrain p else s2

/-- An IDLE returns credits (R406, R407). -/
def State.skIdleArrive (s : State) (p : Nat) (h : LinkHead) : State :=
  let (t, ok) := s.skArrive p h
  if !ok then t
  else
    let x := t.skp p
    let c := (List.range 3).map (fun k => min 32 (nth0 x.credit k + h.arg.toNat / 16 ^ k % 16))
    (t.setSkp p { x with credit := c }).skPump p

/-! ### Discovery (R411, R412) -/

/-- A HELLO of this port counts: a peer in Join, at most 5 µs old. -/
def State.helloOf (s : State) (p : Nat) : Option HelloRec :=
  if !s.portUp p then none
  else match (s.skp p).hello with
    | some h => if h.inJoin && decide (s.beat ≤ h.beat + 2000) then some h else none
    | none => none

/-- ROOT, DIST and parent from the HELLOs at hand (R411). -/
def State.election (s : State) : Nat × (Nat × Nat) :=
  let hs := (List.range 4).filterMap (fun p => (s.helloOf p).map (fun h => (p, h)))
  let root := hs.foldl (fun r e => min r e.2.root) s.uid
  if root = s.uid then (root, 0, 7)
  else
    let c := hs.filter (fun e => e.2.root == root)
    let d := c.foldl (fun m e => min m e.2.dist) 256
    (root, d + 1, ((c.find? (fun e => e.2.dist == d)).map (·.1)).getD 7)

/-- The election is redone; a change restarts the wait and the collection (R411, R412). -/
def State.elect (s : State) : State :=
  if s.modeCode ≠ mJoin ∨ 2 < s.get SKZ_STAT_JSTATE then s
  else
    let (root, dist, par) := s.election
    if root = s.skz.root ∧ dist = s.skz.dist ∧ par = s.get SKZ_TSTAT_PARENT then s
    else
      let t := { s with skz := { s.skz with root, dist, stable := s.beat, topos := [], topoAt := s.beat, kids := 0 } }
      [(SKZ_STAT_JSTATE, 1), (SKZ_TSTAT_PARENT, par), (SKZ_TSTAT_HOPS, dist), (SKZ_STAT_TK, b2n (root == s.uid)), (SKZ_TKUID_LO_UID, root % 2 ^ 32),
        (SKZ_TKUID_HI_UID, root / 2 ^ 32)].foldl (fun u q => u.set q.1 q.2) t

/-- SKZ_PSTAT.INJOIN of every port (R434). -/
def State.showInJoin (s : State) : State :=
  (List.range 4).foldl (fun t p =>
    t.set (SKZ_PSTAT_INJOIN p) (b2n (match (t.skp p).hello with | some h => t.portUp p && decide (t.beat ≤ h.beat + 2000) | none => false))) s

/-- A HELLO arrives (R411); outside Join it is ignored. -/
def State.skHello (s : State) (p : Nat) (h : LinkHead) (f : HelloFlit) : State :=
  let (t, ok) := s.skArrive p h
  if !ok || t.modeCode != mJoin then t
  else
    let r : HelloRec := ⟨f.uid.toNat, f.root.toNat, f.dist.toNat, f.port.val, f.inJoin, t.beat⟩
    ((((t.setSkp p { t.skp p with hello := some r }).set (SKZ_PPEER_LO_PEER p) (f.uid.toNat % 2 ^ 32)).set (SKZ_PPEER_HI_PEER p)
      (f.uid.toNat / 2 ^ 32)).showInJoin).elect

/-- Every 1 µs in Join (R411): HELLO on every UP port; HELLOs too old to count are gone. -/
def State.helloSend (s : State) : State :=
  if s.modeCode ≠ mJoin ∨ !s.skLive then s
  else
    let t := s.showInJoin.elect
    (List.range 4).foldl (fun u p =>
      if u.portUp p then
        u.skSend p { cls := 3, typ := 1, dst := 0, src := u.skAddr, hops := 0, tag := 0, arg := 0, data := [u.uid, u.skz.root, u.skz.dist, p + 128] }
      else u) t

/-- The UIDs of the peers of the ports, 0 for none. -/
def State.peerUids (s : State) : List Nat :=
  (List.range 4).map (fun p => match s.helloOf p with | some h => h.uid | none => 0)

/-- A TOPO is collected at the root (R412). -/
def State.collect (s : State) (uid pref : Nat) (en : Bool) (peers : List Nat) : State :=
  let had := s.skz.topos.any (fun t => t.1 == uid)
  let l := s.skz.topos.filter (fun t => t.1 != uid) ++ [(uid, (pref, (en, peers)))]
  { s with skz := { s.skz with topos := l, topoAt := if had then s.skz.topoAt else s.beat } }

/-- A TOPO arrives from a child (R412): the root collects it, any other device passes it to its parent. -/
def State.skTopo (s : State) (p : Nat) (h : LinkHead) (f : TopoFlit) : State :=
  let (t, ok) := s.skAccept p h 2
  if !ok || t.modeCode != mJoin || decide (2 < t.get SKZ_STAT_JSTATE) then t
  else
    let t1 := { t with skz := { t.skz with kids := putBit t.skz.kids p true } }
    let peers := [f.peers.1.toNat, f.peers.2.1.toNat, f.peers.2.2.1.toNat, f.peers.2.2.2.toNat]
    if t1.skz.root = t1.uid then t1.collect f.uid.toNat f.pref.val f.prefEn peers
    else match t1.parent with
      | some q => t1.skSend q
          { cls := 2, typ := 2, dst := h.dst.val, src := h.src.val, hops := (h.hops.val + 1) % 16, tag := h.tag.toNat, arg := h.arg.toNat
            data := [f.uid.toNat, f.pref.val + 128 * b2n f.prefEn] ++ peers }
      | none => t1

/-- ROOT, DIST and parent have stood for 100 µs (R412): the own TOPO. -/
def State.topoSend (s : State) : State :=
  if s.modeCode ≠ mJoin ∨ !s.skLive ∨ s.get SKZ_STAT_JSTATE ≠ 1 ∨ s.beat < s.skz.stable + 40000 then s
  else
    let t := s.set SKZ_STAT_JSTATE 2
    let pref := s.get SKZ_CTL_PREF
    if s.skz.root = s.uid then t.collect s.uid pref (s.flag SKZ_CTL_PREFEN) s.peerUids
    else match s.parent with
      | some q => t.skSend q
          { cls := 2, typ := 2, dst := 0, src := s.skAddr, hops := 0, tag := 0, arg := 0
            data := [s.uid, pref + 128 * s.get SKZ_CTL_PREFEN] ++ s.peerUids }
      | none => t

/-! ### Addresses (R412 to R414) -/

/-- An entry into a list in ascending UID order. -/
def insertUid (e : Nat × (Nat × (Bool × List Nat))) : List (Nat × (Nat × (Bool × List Nat))) → List (Nat × (Nat × (Bool × List Nat)))
  | [] => [e]
  | d :: t => if e.1 < d.1 then e :: d :: t else d :: insertUid e t

/-- Addresses by UID (R412): preferences first, then the lowest free ones; the rest get none. -/
def assignAddrs (topos : List (Nat × (Nat × (Bool × List Nat)))) : List (Nat × Nat) :=
  let l := topos.foldr insertUid []
  let prefd := l.foldl (fun (acc : List (Nat × Nat)) e =>
    if e.2.2.1 && !acc.any (fun a => a.2 == e.2.1) then acc ++ [(e.1, e.2.1)] else acc) []
  l.foldl (fun (acc : List (Nat × Nat)) e =>
    if acc.any (fun a => a.1 == e.1) then acc
    else match (List.range 16).find? (fun d => !acc.any (fun a => a.2 == d)) with
      | some d => acc ++ [(e.1, d)]
      | none => acc) prefd

/-- The map is complete: routes, and the alignment of time begins (R413, R414); the timekeeper is ready itself. -/
def State.mapDone (s : State) : State :=
  let t := s.buildRoutes
  if t.skz.root = t.uid then
    (({ t with skz := { t.skz with aligned := true } }).set SKZ_STAT_JSTATE 5).skReport 4 0 0
  else ({ t with skz := { t.skz with syncAt := t.beat, aligned := false } }).set SKZ_STAT_JSTATE 4

/-- One ASSIGN acts (R413, R414). -/
def State.assignAct (s : State) (uid addr : Nat) (valid : Bool) (ndev : Nat) (peers : List (Option Nat)) : State :=
  let own := uid == s.uid
  let s1 := if own then
      if valid then (s.set SKZ_STAT_ADDR addr).set SKZ_STAT_JSTATE 3 else { s with skz := { s.skz with turnedAway := true } }
    else s
  if !valid then s1
  else
    let z : SkzSt := { s1.skz with map := s1.skz.map.filter (fun r => r.uid != uid) ++ [(⟨addr, uid, peers⟩ : MapRec)], ndev := ndev }
    let s2 := (({ s1 with skz := z }).set (SKZ_DEVUID_LO_UID addr) (uid % 2 ^ 32)).set (SKZ_DEVUID_HI_UID addr) (uid / 2 ^ 32)
    if z.map.length = ndev ∧ z.map.any (fun r => r.uid == s.uid) ∧ s2.get SKZ_STAT_JSTATE ≤ 3 then s2.mapDone else s2

/-- The words of an ASSIGN flit (R406). -/
def assignWords (uid addr : Nat) (valid : Bool) (ndev : Nat) (peers : List (Option Nat)) : List Nat :=
  let pa := (List.range 4).foldl (fun m p => m + (peers.getD p none).getD 0 * 16 ^ p) 0
  let pv := (List.range 4).foldl (fun m p => if (peers.getD p none).isSome then m + 2 ^ p else m) 0
  [uid, addr + 128 * b2n valid, ndev, pa, pv]

/-- The timekeeper assigns addresses (R412). -/
def State.addressAssign (s : State) : State :=
  let want := min 16 (s.get SKZ_CTL_EXPECT)
  if s.modeCode ≠ mJoin ∨ !s.skLive ∨ s.get SKZ_STAT_JSTATE ≠ 2 ∨ s.skz.root ≠ s.uid ∨ s.beat < s.skz.topoAt + 40000 ∨
      s.skz.topos.length < want then s
  else
    let addrs := assignAddrs s.skz.topos
    let addrOf (u : Nat) : Option Nat := (addrs.find? (fun a => a.1 == u)).map (·.2)
    let one (t : State) (e : Nat × (Nat × (Bool × List Nat))) : State :=
      let a := addrOf e.1
      let peers := e.2.2.2.map (fun u => if u = 0 then none else addrOf u)
      let w := assignWords e.1 (a.getD 0) a.isSome addrs.length peers
      (t.skTree none { cls := 2, typ := 3, dst := 15, src := a.getD 0, hops := 0, tag := 0, arg := 0, data := w }).assignAct e.1 (a.getD 0)
        a.isSome addrs.length peers
    (s.skz.topos.foldr insertUid []).foldl one (s.set SKZ_STAT_JSTATE 3)

/-- An ASSIGN arrives (R409, R413). -/
def State.skAssign (s : State) (p : Nat) (h : LinkHead) (f : AssignFlit) : State :=
  let (t, ok) := s.skAccept p h 2
  if !ok || t.modeCode != mJoin then t
  else
    let peers := (List.range 4).map (fun k => if f.peerValid.toNat.testBit k then some (f.peers.toNat / 16 ^ k % 16) else none)
    let w := assignWords f.uid.toNat f.addr.val f.valid f.ndev.toNat peers
    (t.skTree (some p)
      { cls := 2, typ := 3, dst := 15, src := h.src.val, hops := (h.hops.val + 1) % 16, tag := h.tag.toNat, arg := h.arg.toNat, data := w }).assignAct
      f.uid.toNat f.addr.val f.valid f.ndev.toNat peers

/-! ### Time (R420 to R423) -/

/-- A moment moved with the beat counter. -/
def moved (d : Int) (b : Nat) : Nat := ((b : Int) + d).toNat

/-- The times that blocks measure from, moved with the beat counter, so that no wait in progress changes (log entry 36). -/
def State.moveTimes (s : State) (d : Int) : State :=
  { s with
    mode := { s.mode with
      since := moved d s.mode.since, armAt := moved d s.mode.armAt, trans := s.mode.trans.map (fun t => (t.1, moved d t.2)) }
    cal := { s.cal with
      gap := moved d s.cal.gap, running := s.cal.running.map (fun r => (r.1, (r.2.1, moved d r.2.2)))
      idleSince := s.cal.idleSince.map (fun e => (e.1, moved d e.2)) }
    skz := { s.skz with
      stable := moved d s.skz.stable, joinAt := moved d s.skz.joinAt, topoAt := moved d s.skz.topoAt, syncAt := moved d s.skz.syncAt
      ports := s.skz.ports.map (fun e => (e.1, { e.2 with since := moved d e.2.since, hello := e.2.hello.map (fun h => { h with beat := moved d h.beat }) })) }
    hls := s.hls.map (fun e => (e.1, { e.2 with
      since := moved d e.2.since, ackAt := moved d e.2.ackAt, syncAt := moved d e.2.syncAt, eqAt := moved d e.2.eqAt
      traffic := moved d e.2.traffic, svc := e.2.svc.map (fun v => { v with sentAt := moved d v.sentAt }) }))
    mot := { s.mot with
      axes := s.mot.axes.map (fun e => (e.1, { e.2 with
        updAt := moved d e.2.updAt, restAt := moved d e.2.restAt, pwmAt := moved d e.2.pwmAt, hStart := moved d e.2.hStart }))
      encs := s.mot.encs.map (fun e => (e.1, { e.2 with c0 := e.2.c0.map (moved d), c1 := e.2.c1.map (moved d), winAt := moved d e.2.winAt })) }
    dial := { s.dial with clear := s.dial.clear.map (moved d), passAt := moved d s.dial.passAt }
    ilkDiff := s.ilkDiff.map (moved d) }

/-- A TSYNC leaves on the parent port, or an exchange still open has failed (R421, R423, R642). Departures are stamped
in the serialiser, by a latency no rule gives: free. -/
def State.timeExchange (s : State) : State :=
  let join := s.modeCode == mJoin && s.get SKZ_STAT_JSTATE == 4
  let per := s.get SKZ_TSYNC_PERIOD
  let track := s.flag SKZ_STAT_JOINED && s.modeCode != mJoin && !s.flag SKZ_STAT_TK && per != 0
  if !s.skLive || !(join || track) || decide (s.beat < s.skz.syncAt) then s
  else if s.skz.t1.isSome && !(track && decide (per < 50)) then s.exchangeFailed
  else match s.parent with
    | none => s
    | some q =>
      let t1 := s.freeNext % 2 ^ 54
      let u := ({ s with skz := { s.skz with t1 := some t1, syncAt := s.beat + (if join then retryBeats else per * beatsPerUs) } }).draw
      u.skSend q { cls := 3, typ := 0x20, dst := 0, src := s.skAddr, hops := 0, tag := 0, arg := 0, data := [t1] }

/-- The arrival timestamp of a flit (R420). -/
def State.arrivalTs (s : State) (h : LinkHead) : Nat := (64 * s.beat + h.fine.toNat) % 2 ^ 54

/-- A child's TSYNC arrives (R421). -/
def State.skTsync (s : State) (p : Nat) (h : LinkHead) (_f : TimeFlit) : State :=
  let (t, ok) := s.skArrive p h
  if !ok then t
  else
    let t3 := t.freeNext % 2 ^ 54
    t.draw.skSend p
      { cls := 3, typ := 0x21, dst := 0, src := t.skAddr, hops := 0, tag := 0, arg := 0
        data := [t.arrivalTs h, t3, b2n (t.flag SKZ_STAT_TK || t.skz.aligned)] }

/-- In Join the child corrects in full, or is aligned (R414, R422). -/
def State.joinCorrect (s : State) (theta : Int) : State :=
  if theta.natAbs ≤ 1 then (({ s with skz := { s.skz with aligned := true } }).set SKZ_STAT_JSTATE 5).skReport 4 0 0
  else
    let d := (-theta).tdiv 64
    let s1 := (s.moveTimes d).stepBeats d
    let s2 := { s1 with skz := { s1.skz with phase := s1.skz.phase + (-theta).tmod 64, syncAt := s1.beat } }
    if d = 0 then s2 else (List.range 24).foldl (fun t n => if t.hlState n = 5 then t.hlTime n else t) s2

/-- Outside Join the phase moves one fine step (R423). -/
def State.trackCorrect (s : State) (theta : Int) : State :=
  let ph := if theta = 0 then s.skz.phase else if 0 < theta then s.skz.phase - 1 else s.skz.phase + 1
  let s1 := { s with skz := { s.skz with phase := ph } }
  if s.get SKZ_TSYNC_LIMIT < theta.natAbs then (s1.set SKZ_STAT_TSERR 1).pulse 0x022 else s1

/-- A TRESP arrives at the child (R421 to R423). -/
def State.skTresp (s : State) (p : Nat) (h : LinkHead) (f : TimeFlit) : State :=
  let (t, ok) := s.skArrive p h
  match t.skz.t1 with
  | none => t
  | some t1 =>
    if !ok || t.parent != some p then t
    else if !f.synced then t.exchangeFailed
    else
      let (theta, delta) := exchange t1 f.ta.toNat f.tb.toNat (t.arrivalTs h)
      let u := (({ t with skz := { t.skz with t1 := none, fails := 0 } }).set SKZ_TSTAT_THETA (enc 16 (satInt 16 theta))).set SKZ_TDELAY_DELAY
        (enc 24 delta)
      if u.modeCode = mJoin then (if u.get SKZ_STAT_JSTATE = 4 then u.joinCorrect theta else u) else u.trackCorrect theta

/-! ### Broadcasts, commands, reports (R409, R425 to R429, R433) -/

/-- A BCAST arrives (R409, R425). -/
def State.skBcast (s : State) (p : Nat) (h : LinkHead) (f : BcastFlit) : State :=
  let (t, ok) := s.skAccept p h 2
  if !ok then t
  else
    (t.skTree (some p)
      { cls := 2, typ := 0x30, dst := 15, src := h.src.val, hops := (h.hops.val + 1) % 16, tag := h.tag.toNat, arg := h.arg.toNat
        data := [f.stamp.toNat, f.cmd.toNat, f.carg.toNat] }).skSchedule f.cmd.toNat f.carg.toNat f.stamp.toNat

/-- A write of SKZ_BCMD (R426, R433). -/
def State.bcmdWrite (s : State) (v : Nat) : State :=
  if !s.skLive then s
  else
    let cmd := bits v 7 0
    let carg := bits v 23 8
    let s1 := ((s.set SKZ_BCMD_AUTO (bits v 30 30)).set SKZ_BCMD_CARG carg).set SKZ_BCMD_CMD cmd
    if !bit v 31 then s1
    else if cmd = 0 ∨ 4 < cmd ∨ s.get SKZ_STAT_JSTATE ≠ 0 ∨ (cmd = 2 ∧ (carg % 16 = 5 ∨ carg % 16 = 6)) then s1.set SKZ_STAT_CMDERR 1
    else
      s1.skBroadcast cmd carg (if bit v 30 then s.beat + s.get SKZ_CMDLEAD_LEAD else s.pair SKZ_BSTAMP_LO_STAMP SKZ_BSTAMP_HI_STAMP)

/-- A write of SKZ_BCMD with GO and this CMD. -/
def State.bcmdRow (s : State) (cmd v : Nat) : State := s.bcmdWrite (v % 2 ^ 31 / 256 * 256 + cmd + 2 ^ 31)

/-- A REPORT arrives: at its destination the timekeeper acts on it, elsewhere it goes on (R408, R428). -/
def State.skReportArrive (s : State) (kind p : Nat) (h : LinkHead) (f : ReportFlit) : State :=
  let (t, ok) := s.skAccept p h 2
  if !ok then t
  else if h.dst.val = t.skAddr then t.reportAct kind f.group.toNat h.src.val f.beat.toNat
  else t.skForward h 2 0x31 [kind, f.group.toNat, f.beat.toNat]

/-- A DDEP arrives (R269, R429). -/
def State.skDdep (s : State) (p : Nat) (h : LinkHead) (f : DdepFlit) : State :=
  let (t, ok) := s.skAccept p h 2
  if !ok then t
  else if h.dst.val = t.skAddr then ((f.recs.take 3).take h.arg.toNat).foldl State.ddepRecord t
  else t.skForward h 2 0x40 (f.recs.flatMap (fun r => [r.w0.toNat, r.w1.toNat, r.w2.toNat, r.w3.toNat]))

/-- A response arrives: it ends the request of its tag, or goes on (R408, R417, R418). -/
def State.skResponse (s : State) (typ p : Nat) (h : LinkHead) (f : RspFlit) : State :=
  let (t, ok) := s.skAccept p h 1
  if !ok then t
  else if h.dst.val = t.skAddr then t.pieceDone h.tag.toNat (f.status.toNat == 0) f.data
  else t.skForward h 1 typ (f.status.toNat :: f.data.map BitVec.toNat)

end Sys2Proof.Machine
end

