-- ==== Sys2Proof/Machine/ResetOps.lean ====
section
/-! DEFINITION. Reset episodes (R528 to R532), block resets (R533 to R535, R572, R573), supplies (R541 to R544, R632 to
R634), adaptive core voltage (R545 to R547), the watchdog (R540), power states (R548 to R552), references (R37). -/
namespace Sys2Proof.Machine

/-! ### What a reset clears (R552) -/

/-- Reach of a reset source of R528: 1 C, 2 P, 3 B. -/
def rstReach (k : Nat) : Nat := if k = 8 then 3 else if k = 0 ∨ k = 1 ∨ k = 9 then 2 else 1

/-- Sources whose condition lies outside the device and outlives a reset of this reach (R44, R557). -/
def lastingSrcs (rank : Nat) : List Nat := [0, 1, 2, 3, 4, 0x00D, 0x046] ++ (if rank < 2 then [5] else [])

/-- A word that is being written into the NV store when the sense die is reset holds its old or its new value (R577). -/
def State.nvCut (s : State) : State :=
  let s1 := s.flt.remaps.foldl (fun t r =>
    match r.write with
    | some (_, ofs, v) => (if t.freeNext % 2 = 1 then t.nvStore ofs (leBytes v 8) else t).draw
    | none => t) s.trimCut
  { s1 with flt := { s1.flt with remaps := [] } }

/-- Listed bytes of memory become free values: contents that the rules leave undefined (R601). -/
def State.freeBytes (s : State) : List Nat → State
  | [] => s
  | a :: t => ((s.setByte a (BitVec.ofNat 8 s.freeNext)).draw).freeBytes t

/-- The contents of DRAM are undefined (R552, R601, log entry 38). -/
def State.dramLost (s : State) : State := s.freeBytes ((s.mem.filter (fun c => decide (c.1 < 0x400000000))).map (·.1))

/-- Everything that a reset of reach `rank` clears (R11, R552). The device is held until the internal reset ends. -/
def State.clearReach (s : State) (rank : Nat) : State :=
  let act := (lastingSrcs rank).filter s.srcActive
  let t : State :=
    { pending := s.pending, out := s.out, resp := s.resp, free := s.free, beat := s.beat, regs := s.regs, mem := s.mem
      nv := s.nv, eccCount := s.eccCount, portHold := 2 ^ 24 - 1
      pins := s.pins, req := s.req, own := s.own
      ilkDiff := if s.pinLevel LP_ILK_LEVA == s.pinLevel LP_ILK_LEVB then none else some 0
      mot := { vmBad := s.mot.vmBad }
      rst := { s.rst with wdt := 0 } }
  let t1 := (t.zeroMem 0x1002800000 0x1002C00000).resetRegs rank (fun _ => true)
  let t2 := if 2 ≤ rank then
      { (t1.zeroMem 0x1002000000 0x1002800000) with rst := { t1.rst with avsWrite := none, avsHigh := none, avsStop := false } }
    else t1
  (act.foldl (fun u k => u.setSrcBit FLT_ACT_SOURCE k) t2).set DRC_STAT_SR (b2n s.rst.dramSr)

/-! ### Episodes (R529 to R532) -/

/-- DRAM goes into self-refresh (R552, R601); `keep`: the next initialisation may keep its contents. -/
def State.dramRefresh (s : State) (keep : Bool) : State :=
  let was := s.flag DRC_STAT_INIT
  { s.set DRC_STAT_INIT 0 with rst := { s.rst with
      dramSr := was || s.rst.dramSr, vddqOk := was || s.rst.vddqOk, keepCase := keep && (was || s.rst.keepCase), dramFresh := false } }

/-- A source of reach C or wider asserts (R529, R530, R532, R536). -/
def State.assertReset (s : State) (k : Nat) : State :=
  let r := rstReach k
  let inEpisode := s.rst.phase == .driven || s.rst.phase == .released
  let opened (t : State) (reach : Nat) : State :=
    { t with rst := { t.rst with
        phase := .driven, reach := reach
        ballsIn := t.rst.ballsIn && reach == 1, ballsFree := 0
        active := if k = 2 ∨ t.rst.active.contains k then t.rst.active else t.rst.active ++ [k] } }
  let s1 :=
    if inEpisode then
      let reach := max s.rst.reach r
      let t := if s.rst.reach < reach then ({ s with rst := { s.rst with keepCase := false } }).clearReach reach else s
      let u := opened t reach
      u.set SYS_RST_CAUSE_CAUSE (s.get SYS_RST_CAUSE_CAUSE ||| 2 ^ k)
    else
      let keep := r == 1 || k == 9 && s.get SYS_MODE_STAT_LPSTATE == 4
      let t0 := s.nvCut.dramRefresh keep
      let t := ({ t0 with rst := { t0.rst with phase := .driven, active := [], waking := none } }).clearReach r
      let u := opened { t with rst := { t.rst with since := t.rst.clk } } r
      (u.set SYS_RST_CAUSE_CAUSE (2 ^ k)).emit (.pin 0 0)
  let s2 := s1.set SYS_RST_CAUSE_LASTREACH s1.rst.reach
  if s.rst.phase = .driven then s2 else s2.emit (.pin 2 0)

/-- A source of reach C or wider releases. -/
def State.releaseReset (s : State) (k : Nat) : State := { s with rst := { s.rst with active := s.rst.active.filter (fun j => j != k) } }

/-- A source that asserts for one CORE cycle (R528). -/
def State.pulseReset (s : State) (k : Nat) : State := (s.assertReset k).releaseReset k

/-- Load begins (R524, R531): the beat counter at 0, the dial clears itself (R263), the levels of the inputs show (R10). -/
def State.startLoad (s : State) : State :=
  { s.showPins (fun _ => true) with beat := 0, dial := { clear := some 209716 }, rst := { s.rst with phase := .loading } }.set DIAL_STAT_BUSY 1

/-- The drive of RESET_N is released (R530). -/
def State.releaseDrive (s : State) : State :=
  let n := max 5 (min 1000 (s.get SYS_RST_CFG_STRETCH))
  if s.rst.phase = .driven ∧ s.rst.active = [] ∧ s.rst.since + n * 4000 ≤ s.rst.clk then
    ({ s with rst := { s.rst with phase := .released, freeAt := s.rst.clk } }).emit (.pin 2 1)
  else s

/-- The internal reset ends (R530 to R532): RESET_N has read high for 1 µs. -/
def State.endReset (s : State) : State :=
  if s.rst.phase = .released ∧ !s.rst.pinLow ∧ s.rst.freeAt + beatsPerUs ≤ s.rst.clk then
    let s1 := if s.flag SYS_OPT_RSTCNT then
        (List.range 10).foldl (fun t k => if (s.get SYS_RST_CAUSE_CAUSE).testBit k then t.incSat (SYS_RST_CNT_COUNT k) else t) s
      else s
    if s.rst.reach = 1 then s1.startLoad else { s1 with beat := 0, rst := { s1.rst with phase := .locking } }
  else s

/-- The RESET_N ball, filtered over 1 µs (R528, R530, R550). -/
def State.resetPin (s : State) (low : Bool) : State :=
  if !low then { s with rst := { s.rst with pinLow := false, freeAt := s.rst.clk } }
  else
    let s1 := { s with rst := { s.rst with pinLow := true } }
    match s.rst.phase with
    | .driven => s1
    | .released => if s.rst.freeAt + 2 * beatsPerUs ≤ s.rst.clk then s1.assertReset 2 else s1
    | _ => s1.assertReset 2

/-! ### Supplies (R541 to R544) and their sequencing (R632 to R634) -/

/-- Rail `r` beside its registers. -/
def State.rail (s : State) (r : Nat) : Rail := Sparse.get {} s.rst.rails r
/-- Rail `r` replaced. -/
def State.setRail (s : State) (r : Nat) (x : Rail) : State := { s with rst := { s.rst with rails := Sparse.put {} s.rst.rails r x } }
/-- The PWR_EN group of a rail (R548, R632); VBAK has none. -/
def railGroup (r : Nat) : Option Nat := match r with | 0 => some 0 | 1 => some 1 | 2 => some 2 | 3 => some 2 | 7 => none | _ => some 3
/-- The rails of a group. -/
def groupRails (g : Nat) : List Nat := match g with | 0 => [0] | 1 => [1] | 2 => [2, 3] | _ => [4, 5, 6]
/-- A rail whose PWR_EN is low is not supervised (R541). -/
def State.supervised (s : State) (r : Nat) : Bool := match railGroup r with | some g => s.rst.pwrEn.testBit g | none => true
/-- A rail is above its warning level. -/
def State.railUp (s : State) (r : Nat) : Bool := (s.rail r).armed && !(s.pinLevel SUP_STAT_BELOW).testBit r
/-- Every supervised rail has reached its warning level (R632). -/
def State.railsUp (s : State) : Bool := (List.range 7).all (fun r => !s.supervised r || s.railUp r)

/-- SUP_CFG of a rail (R555): WARN. -/
def supWarn (r : Nat) : Fld :=
  match r with
  | 0 => SUP_CFG_0_WARN
  | 1 => SUP_CFG_1_WARN
  | 2 => SUP_CFG_2_WARN
  | 3 => SUP_CFG_3_WARN
  | 4 => SUP_CFG_4_WARN
  | 5 => SUP_CFG_5_WARN
  | 6 => SUP_CFG_6_WARN
  | _ => SUP_CFG_7_WARN
/-- SUP_CFG of a rail: RST. -/
def supRst (r : Nat) : Fld :=
  match r with
  | 0 => SUP_CFG_0_RST
  | 1 => SUP_CFG_1_RST
  | 2 => SUP_CFG_2_RST
  | 3 => SUP_CFG_3_RST
  | 4 => SUP_CFG_4_RST
  | 5 => SUP_CFG_5_RST
  | 6 => SUP_CFG_6_RST
  | _ => SUP_CFG_7_RST
/-- SUP_CFG of a rail: HYST. -/
def supHyst (r : Nat) : Fld :=
  match r with
  | 0 => SUP_CFG_0_HYST
  | 1 => SUP_CFG_1_HYST
  | 2 => SUP_CFG_2_HYST
  | 3 => SUP_CFG_3_HYST
  | 4 => SUP_CFG_4_HYST
  | 5 => SUP_CFG_5_HYST
  | 6 => SUP_CFG_6_HYST
  | _ => SUP_CFG_7_HYST

/-- VSET of the warning level of VCORE (R546); Rest holds VCORE at 0.65 V (R548). -/
def State.warnVset (s : State) : Nat :=
  if s.modeCode = mLowPower ∧ s.get SYS_MODE_STAT_LPSTATE = 2 then 0
  else (((s.rst.avsRise.filter (fun e => decide (e.1 ≤ s.rst.clk))).getLast?).map (·.2)).getD s.rst.avsBase
/-- VSRAM runs at 0.60 V (R541, R548). -/
def State.sramLow (s : State) : Bool :=
  s.modeCode == mLowPower && (s.get SYS_MODE_STAT_LPSTATE == 2 || s.get SYS_MODE_STAT_LPSTATE == 3)
/-- Warning level of a rail in mV (R541, R555): of VCORE 0.65 V + 5 mV × VSET less WARN. -/
def State.warnLevel (s : State) (r : Nat) : Nat :=
  if r = 0 then 650 + 5 * s.warnVset - s.get (supWarn 0) else if r = 1 ∧ s.sramLow then 570 else s.get (supWarn r)
/-- Reset level of a rail in mV (R541). -/
def State.rstLevel (s : State) (r : Nat) : Nat := if r = 1 ∧ s.sramLow then 540 else s.get (supRst r)

/-- SUP_MIN records the lowest voltage of a rail (R544). -/
def State.railMin (s : State) (r mv : Nat) : State := s.set (SUP_MIN_MIN r) (min mv (s.get (SUP_MIN_MIN r)))

/-- A rail at `mv` crosses its warning level downwards (R541, R542, R544). -/
def State.railBelow (s : State) (r mv : Nat) : State :=
  if !s.supervised r then s
  else
    let s1 := s.railMin r mv
    if s.warnLevel r ≤ mv then s1
    else if r = 7 then s1.set SUP_STAT_VBAKLOW 1
    else if !(s.rail r).armed || (s.rail r).belowSince.isSome then s1
    else
      let s2 := s1.setPin s1.sysLive SUP_STAT_BELOW (putBit (s1.pinLevel SUP_STAT_BELOW) r true)
      let s3 := s2.setRail r { s2.rail r with belowSince := some s.rst.clk, aboveSince := none }
      if r = 4 then { s3 with rst := { s3.rst with vddqOk := false } } else s3

/-- A rail is still below its warning level after 2 µs (R542). -/
def State.railDip (s : State) (r : Nat) : State :=
  match (s.rail r).belowSince with
  | some b =>
    if r < 7 ∧ s.supervised r ∧ b + 2 * beatsPerUs ≤ s.rst.clk then
      ((s.set SUP_STAT_DIP (putBit (s.get SUP_STAT_DIP) r true)).set SUP_STAT_RECOV (putBit (s.get SUP_STAT_RECOV) r false)).raise 5
    else s
  | none => s

/-- The sequencing of the groups is over once the last one has risen. -/
def State.seqCheck (s : State) : State :=
  match s.rst.pwrSeq with
  | some (_, false) => if s.rst.pwrEn = 15 ∧ s.railsUp then { s with rst := { s.rst with pwrSeq := none } } else s
  | _ => s

/-- A rail at `mv` crosses its warning level upwards (R542, R632): a glitch, or the start of its recovery. -/
def State.railAbove (s : State) (r mv : Nat) : State :=
  if !s.supervised r || decide (mv < s.warnLevel r) then s
  else
    let x := s.rail r
    let s1 := match x.belowSince with
      | some b => if s.rst.clk < b + 2 * beatsPerUs ∧ r < 7 then s.incSat (SUP_MIN_GLITCH r) else s
      | none => s
    ((s1.setPin s1.sysLive SUP_STAT_BELOW (putBit (s1.pinLevel SUP_STAT_BELOW) r false)).setRail r
      { x with belowSince := none, aboveSince := some s.rst.clk, armed := true }).seqCheck

/-- A rail has held `mv`, at least its warning level plus HYST, for 50 µs (R542). -/
def State.railRecovered (s : State) (r mv : Nat) : State :=
  match (s.rail r).aboveSince with
  | some b =>
    if (s.get SUP_STAT_DIP).testBit r ∧ b + 50 * beatsPerUs ≤ s.rst.clk ∧ s.warnLevel r + s.get (supHyst r) ≤ mv then
      s.set SUP_STAT_RECOV (putBit (s.get SUP_STAT_RECOV) r true)
    else s
  | none => s

/-- SUP_CMD.RESUME (R543). -/
def State.supResume (s : State) : State :=
  let dip := s.get SUP_STAT_DIP
  if (dip &&& s.get SUP_STAT_RECOV) = dip then s.lower 5 else s.set SUP_STAT_RESERR 1

/-- The supply-reset source follows the rails (R528); through a sequence it stays asserted (R634). -/
def State.supSource (s : State) : State :=
  if (List.range 7).any (fun r => (s.rail r).reset) ∨ (s.rst.pwrSeq.isSome ∧ s.rst.pwrEn ≠ 15) then s else s.releaseReset 1

/-- A rail at `mv` falls below its reset level, or has held `mv`, at least that level plus HYST, for 50 µs (R528, R542). -/
def State.railReset (s : State) (r : Nat) (below : Bool) (mv : Nat) : State :=
  let u := s.rstLevel r
  if r = 7 ∨ !s.supervised r ∨ (if below then u ≤ mv else mv < u + s.get (supHyst r)) then s
  else
    let s0 := if below then s.railMin r mv else s
    let s1 := s0.setRail r { s.rail r with reset := below }
    if below then (if r = 4 then { s1 with rst := { s1.rst with vddqOk := false } } else s1).assertReset 1 else s1.supSource

/-- A group's PWR_EN goes high: its rails start from nothing (R632, R633). -/
def State.raiseGroup (s : State) (g : Nat) : State :=
  let s1 := { s with rst := { s.rst with pwrEn := s.rst.pwrEn ||| 2 ^ g, pwrSeq := some (s.rst.clk, false) } }
  ((groupRails g).foldl (fun t r => t.setRail r { armed := false, reset := true }) s1).emit (.pin (3 + g) 1)

/-- The group that rose last: the lowest PWR_EN that is high. -/
def State.lastGroup (s : State) : Option Nat := (List.range 4).find? (fun g => s.rst.pwrEn.testBit g)

/-- The next PWR_EN rises 100 µs after every rail of the last group has reached its warning level (R632). -/
def State.pwrRaise (s : State) : State :=
  match s.rst.pwrSeq, s.lastGroup with
  | some (_, false), some (g + 1) =>
    let ok := (groupRails (g + 1)).all (fun r => s.railUp r && (match (s.rail r).aboveSince with
      | some b => decide (b + 100 * beatsPerUs ≤ s.rst.clk)
      | none => true))
    if ok then (s.assertReset 1).raiseGroup g else s
  | _, _ => s

/-- Every high PWR_EN drops in the order 0, 1, 2, 3 (R549, R634). -/
def State.dropAll (s : State) : State :=
  let s1 := (List.range 4).foldl (fun t g => if s.rst.pwrEn.testBit g then t.emit (.pin (3 + g) 0) else t) s
  { s1 with rst := { s1.rst with pwrEn := 0 } }

/-- A group has not reached its warning levels within 10 ms (R634). -/
def State.pwrTimeout (s : State) : State :=
  match s.rst.pwrSeq, s.lastGroup with
  | some (t, false), some g =>
    if t + 10 * beatsPerMs ≤ s.rst.clk ∧ !(groupRails g).all s.railUp then
      let s1 := s.dropAll
      ({ s1 with rst := { s1.rst with pwrSeq := some (s.rst.clk, true) } }).assertReset 1
    else s
  | _, _ => s

/-- Sequencing starts again from PWR_EN_3 after 100 ms (R634). -/
def State.pwrRestart (s : State) : State :=
  match s.rst.pwrSeq with
  | some (t, true) => if t + 100 * beatsPerMs ≤ s.rst.clk then s.raiseGroup 3 else s
  | _ => s

/-- The backup domain's supply falls below 1.8 V, or is back (R528); it drives the PWR_EN balls (R635). -/
def State.backupLoss (s : State) (low : Bool) : State :=
  if low then
    let t := s.dropAll
    ({ t with rst := { t.rst with pwrSeq := none } }).assertReset 8
  else s.releaseReset 8

/-- The backup domain starts from nothing (R632): the power-on and supply-reset sources hold, PWR_EN_3 rises. -/
def State.backupStart (s : State) : State :=
  if s.rst.pwrEn ≠ 0 ∨ s.rst.pwrSeq.isSome ∨ s.modeCode = mLowPower then s
  else ((((s.assertReset 8).releaseReset 8).assertReset 0).assertReset 1).raiseGroup 3

/-- The PLLs lock (R531, R632). -/
def State.pllLock (s : State) : State :=
  if s.rst.phase = .locking ∧ s.railsUp then
    (({ s with rst := { s.rst with avsBase := 30, avsRise := [] } }).set AVS_STAT_VSET 30).startLoad
  else s

/-! ### Adaptive core voltage (R545 to R547) -/

/-- A voltage write goes out (R545). -/
def State.avsSend (s : State) (v : Nat) : State :=
  ({ s with rst := { s.rst with avsWrite := some (v, s.rst.clk) } }).emit (.path 1 [v])

/-- A slack report (R546). -/
def State.avsSlack (s : State) (slack : Nat) : State :=
  if !s.flag AVS_CTL_EN || s.rst.phase != .off then s
  else
    let s1 := s.set AVS_SLACK_LAST slack
    let v := s.get AVS_STAT_VSET
    let hi := min 40 (s.get AVS_CTL_VMAX)
    let lo := min hi (s.get AVS_CTL_VMIN)
    let z := sgn 16 slack
    let free := !s1.rst.avsStop && s1.rst.avsWrite.isNone
    -- outside VMIN to VMAX the target moves towards them at the loop's rate
    if z < (s.get AVS_SLK_SLKLO : Int) ∧ v ≤ hi ∨ v < lo then
      let t := { s1 with rst := { s1.rst with avsHigh := none } }
      if v < hi ∧ free then t.avsSend (v + 1) else t
    else if (s.get AVS_SLK_SLKHI : Int) < z ∨ hi < v then
      match s1.rst.avsHigh with
      | none => { s1 with rst := { s1.rst with avsHigh := some s1.rst.clk } }
      | some b =>
        if b + beatsPerMs ≤ s1.rst.clk ∧ lo < v ∧ free ∧ !(s.flag AVS_CTL_FREEZEEXP && s.modeCode == mExpose) then
          ({ s1 with rst := { s1.rst with avsHigh := some s1.rst.clk } }).avsSend (v - 1)
        else s1
    else { s1 with rst := { s1.rst with avsHigh := none } }

/-- The loop stops on a fault (R547). -/
def State.avsFail (s : State) : State :=
  (({ s with rst := { s.rst with avsWrite := none, avsStop := true } }).set AVS_STAT_AVSERR 1).pulse 9

/-- VSET `v` is confirmed: the warning level of VCORE follows downwards at once, upwards 20 µs later (R546). -/
def State.avsConfirm (s : State) (v : Nat) : State :=
  let base := ((s.rst.avsRise.filter (fun e => decide (e.1 ≤ s.rst.clk))).getLast?.map (·.2)).getD s.rst.avsBase
  let later := s.rst.avsRise.filter (fun e => decide (s.rst.clk < e.1))
  let rise := if s.get AVS_STAT_VSET < v then later ++ [(s.rst.clk + 20 * beatsPerUs, v)] else later.map (fun e => (e.1, min v e.2))
  ({ s with rst := { s.rst with avsWrite := none, avsBase := min base v, avsRise := rise } }).set AVS_STAT_VSET v

/-- The regulator answers a voltage write (R545, R547). -/
def State.avsAnswer (s : State) (ok : Bool) : State :=
  match s.rst.avsWrite with
  | some (v, _) => if ok then s.avsConfirm v else s.avsFail
  | none => s

/-- No answer within 10 µs (R547). -/
def State.avsTimeout (s : State) : State :=
  match s.rst.avsWrite with
  | some (_, b) => if b + 10 * beatsPerUs ≤ s.rst.clk then s.avsFail else s
  | none => s

/-- A write of AVS_CTL (R547, R555): one with EN set lets a stopped loop run again. -/
def State.avsCtlWrite (s : State) (v : Nat) : State :=
  let t := s.writeFields 0x2000000380 v
  { t with rst := { t.rst with avsStop := t.rst.avsStop && !bit v 31, avsHigh := none } }

/-! ### Watchdog (R540) -/

/-- The count restarts from TIMEOUT. -/
def State.wdtStart (s : State) : State :=
  let n := max 1 (s.get SYS_WDT_CTL_TIMEOUT)
  ({ s with rst := { s.rst with wdt := n * beatsPerMs } }).set SYS_WDT_STAT_REMAIN n

/-- SYS_WDT_KICK.KICK. -/
def State.wdtKick (s : State) : State := if s.flag SYS_WDT_CTL_EN then s.wdtStart else s

/-- A write of SYS_WDT_CTL: EN is only set; a count begins with it, and a new TIMEOUT waits for the next restart. -/
def State.wdtWrite (s : State) (v : Nat) : State :=
  let s1 := s.set SYS_WDT_CTL_TIMEOUT (bits v 15 0)
  if bit v 31 && !s.flag SYS_WDT_CTL_EN then (s1.set SYS_WDT_CTL_EN 1).wdtStart else s1

/-- The watchdog counts: in every mode but Low power, outside a reset episode. -/
def State.wdtRuns (s : State) : Bool := s.flag SYS_WDT_CTL_EN && s.modeCode != mLowPower && s.sysLive

/-- The watchdog expires (R528, R540). -/
def State.wdtExpire (s : State) : State := if s.wdtRuns && s.rst.wdt == 0 then s.pulseReset 3 else s

/-! ### Block resets (R533 to R535, R572) -/

/-- Beats of a block reset, link time included, and of the mask after it (R33, R534, R572). -/
def blockBeats (code : Nat) : Nat × Nat :=
  if (32 ≤ code ∧ code < 56) ∨ (64 ≤ code ∧ code < 88) ∨ code = 141 then (64, 16)
  else if code = 133 ∨ (136 ≤ code ∧ code ≤ 138) then (264, 16)
  else if code = 130 then (32, 8)
  else if code = 132 then (43, 11)
  else if code = 134 ∨ code = 135 then (728, 32)
  else if code = 140 then (32, 8)
  else (26, 7)

/-- A bit of SYS_BRST_r that names a block (R554). -/
def isBlock (code : Nat) : Bool :=
  (decide (code < 128) && decide (code % 32 < 24)) || (decide (128 ≤ code) && decide (code ≤ 142))

/-- Every host DMA transfer ends at a TLP boundary (R598): how far it came, and what the host sent, no rule says. -/
def State.dmaCut (s : State) (ch : Nat) : State :=
  if !s.flag (HP_DMA_STAT_BUSY ch) then s
  else
    let a := s.pair (HP_DMA_TADDR_LO_ADDR ch) (HP_DMA_TADDR_HI_ADDR ch)
    let n := s.get (HP_DMA_LEN_VALUE ch)
    let k := s.freeNext % (n + 1)
    let mem (x : Nat) : Bool := match s.region x with | .dram | .dialMem | .progMem | .lineBuf => true | _ => false
    let s1 := if s.flag (HP_DMA_CTL_DIR ch) then s
      else s.draw.freeBytes (((List.range k).map (a + ·)).filter mem)
    (s1.set (HP_DMA_STAT_BUSY ch) 0).set (HP_DMA_STAT_ABORT ch) 1

/-- A block reset of the host port (R534, R598, R611); the MSI-X masks go with it (log entry 39). -/
def State.resetHost (s : State) : State :=
  let s1 := (List.range 4).foldl (fun t c => t.dmaCut c) s
  let s2 := { s1 with host := { s1.host with msixMask := 0xFFFFFFFFFFFFFFFF, msixPend := 0 } }
  let s3 := s2.resetRegs 0 (fun a => decide (0x2001100000 ≤ a) && decide (a < 0x2001200000))
  (List.range 4).foldl (fun t c => t.refreshLine (30 + c)) s3

/-- A block reset of the DRAM controller: self-refresh, then the registers (R601, R612). -/
def State.resetDrc (s : State) : State :=
  ((s.dramRefresh true).resetRegs 0 (fun a => decide (0x2001200000 ≤ a) && decide (a < 0x2001300000))).set DRC_STAT_SR 1

/-- A block reset of the laser ports: gates inactive, DACs at code 0 (R536); its registers have a wider reach. -/
def State.resetPorts (s : State) : State :=
  { s with ports := s.ports.map (fun e => (e.1, { e.2 with dac := 0, updates := [] })) }

/-- A block reset of the split unit: pending splits and the copies are gone, the ID counter starts again. -/
def State.resetSpl (s : State) : State :=
  ({ s with flt := { s.flt with splits := [], snap := [], splitId := 0 } }).resetRegs 0
    (fun a => decide (0x2001400000 ≤ a) && decide (a < 0x2001500000))

/-- What the reset of one block does (R534: what its chapter states, then its registers). -/
def State.resetBlock (s : State) (code : Nat) : State :=
  if code < 32 then (s.closeEvents code).resetEsc code
  else if code < 64 then s.resetTrj (code - 32)
  else if code < 96 then s.resetReg (code - 64)
  else if code < 128 then s.resetHl (code - 96)
  else if code = 128 then s.resetBridge
  else if code = 129 then
    let t := s.dialReset.resetRegs 0 (fun a => decide (0x2000400000 ≤ a) && decide (a < 0x2000410000))
    { t with hiLatch := t.hiLatch.filter (fun e => !(decide (0x2000410000 ≤ e.1 % 2 ^ 40) && decide (e.1 % 2 ^ 40 < 0x2000500000))) }
  else if code = 130 then s.resetBal
  else if code = 131 then s.resetSkz
  else if code = 132 then s.resetImg
  else if code = 133 then s.resetIll
  else if code = 134 then s.resetMot
  else if code = 135 then s.resetEnc
  else if code = 136 then s.resetCal
  else if code = 137 then s.resetChr
  else if code = 138 then s.resetNv
  else if code = 139 then s.resetHost
  else if code = 140 then s.resetDrc
  else if code = 141 then s.resetPorts
  else s.resetSpl

/-- Gates and DACs follow the qualifiers (R536). -/
def State.portsFollow (s : State) : State :=
  (List.range 24).foldl (fun t n => (if t.gateAllowed n then t else t.setDac n 0).portRefresh n) s

/-- A block is held in reset, or longer than before (R534); within an episode it is absorbed (R529). -/
def State.blockReset (s : State) (code : Nat) : State :=
  if !s.sysLive || !isBlock code then s
  else
    let (n, m) := blockBeats code
    let e := s.rst.clk + n
    let t := if s.heldInReset code then s
      else ({ s with flt := { s.flt with masked := s.flt.masked.filter (fun (x : Nat × Nat) => x.1 != code) ++ [(code, e + m)] } }).resetBlock code
    ({ t with flt := { t.flt with
        inReset := t.flt.inReset.filter (fun (x : Nat × Nat) => x.1 != code) ++ [(code, e)]
        masked := t.flt.masked.filter (fun (x : Nat × Nat) => x.1 != code) ++ [(code, e + m)] } }).portsFollow

/-- A write of SYS_BRST_r (R533, R554). -/
def State.brstWrite (s : State) (r v : Nat) : State :=
  (List.range (if r = 4 then 15 else 24)).foldl (fun t j => if v.testBit j then t.blockReset (32 * r + j) else t) s

/-- A block reset ends (R534). -/
def State.blockEnd (s : State) (code : Nat) : State :=
  if s.flt.inReset.any (fun (x : Nat × Nat) => x.1 == code && decide (x.2 ≤ s.rst.clk)) then
    (({ s with flt := { s.flt with inReset := s.flt.inReset.filter (fun (x : Nat × Nat) => x.1 != code) } }).showPins
      (fun a => blockOf a == some code)).portsFollow
  else s

/-- Beats of FLT_CTL.ESCWIN (R573, R588). -/
def State.escWindow (s : State) : Nat := max 1 (s.get FLT_CTL_ESCWIN) * beatsPerMs

/-- The mask of a block lifts (R572): its active sources assert; the window of R573 begins. -/
def State.maskLift (s : State) (code : Nat) : State :=
  if s.heldInReset code || !s.flt.masked.any (fun (x : Nat × Nat) => x.1 == code && decide (x.2 ≤ s.rst.clk)) then s
  else
    let s1 := { s with flt := { s.flt with
      masked := s.flt.masked.filter (fun (x : Nat × Nat) => x.1 != code)
      fails := s.flt.fails.map (fun (x : Nat × BrstFail) => if x.1 = code ∧ x.2.until_.isNone then (x.1, { x.2 with until_ := some (s.rst.clk + s.escWindow) }) else x) } }
    let act := faultSources.filter (fun k => s1.srcActive k && srcOwner k == some code)
    if s1.collecting then act.foldl (fun t k => t.assertSrc k 0 false) s1 else s1

/-- ESCWIN has passed without a failure (R573). -/
def State.escOver (s : State) (code : Nat) : State :=
  match s.flt.fails.find? (fun (x : Nat × BrstFail) => x.1 == code) with
  | some (_, ⟨_, some u⟩) =>
    if u < s.rst.clk then
      let t := { s with flt := { s.flt with fails := s.flt.fails.filter (fun (x : Nat × BrstFail) => x.1 != code) } }
      if t.get FLT_BRLAST_BLOCK = code then t.set FLT_BRLAST_FAILS 0 else t
    else s
  | _ => s

/-- A PCIe hot reset with HOTRST clear holds the host port for its length (R528). -/
def State.hotReset (s : State) (on : Bool) : State :=
  if s.flag SYS_RST_CFG_HOTRST then (if on then s.assertReset 6 else s.releaseReset 6)
  else if on then
    let t := s.blockReset 139
    { t with flt := { t.flt with inReset := t.flt.inReset.map (fun (x : Nat × Nat) => if x.1 = 139 then (139, 2 ^ 64) else x) } }
  else
    let t := s.releaseReset 6
    let n := t.rst.clk
    if t.heldInReset 139 then
      ({ t with flt := { t.flt with
          inReset := t.flt.inReset.filter (fun (x : Nat × Nat) => x.1 != 139)
          masked := t.flt.masked.map (fun (x : Nat × Nat) => if x.1 = 139 then (139, n + (blockBeats 139).2) else x) } }).portsFollow
    else t

/-! ### Low power (R548 to R551) -/

/-- The sub-state that holds, or that an entry in progress is bound for, with whether it is entered. -/
def State.lpTarget (s : State) : Option (Nat × Bool) :=
  if s.modeCode = mLowPower then some (s.get SYS_MODE_STAT_LPSTATE, true)
  else match s.mode.trans with
    | some (r, _) => if r.target = mLowPower then some (r.lpstate, false) else none
    | none => none

/-- The Skeuz ports and the PCIe link go down with their rails (R548); no source is raised (log entry 40). -/
def State.linksDown (s : State) : State :=
  let t := s.unjoin
  let u := (List.range 4).foldl (fun v p => (v.setSkp p {}).set (SKZ_PSTAT_STATE p) 0) t
  ((u.set HP_STAT_LINKUP 0).set HP_STAT_SPEED 0).set HP_STAT_WIDTH 0

/-- The entry into a Low power sub-state completes (R549, R552). In Wound and below the segment queues are empty, and a timeline
that ran is idle at the point its segment began (log entry 130). -/
def State.lpEnter (s : State) : State :=
  match s.mode.trans with
  | some (r, _) =>
    let posted := s.escs.any (fun e => e.2.stores.any (fun q => s.region q.addr == .dram))
    if r.target ≠ mLowPower ∨ posted ∨ s.mode.haltDue.isSome then s
    else
      let lp := r.lpstate
      let s1 := s.motAllOff
      let s2 := if lp = 2 then s1.hlRest else if 3 ≤ lp then s1.hlAllOff.linksDown else s1
      let s3 := if lp = 3 ∨ lp = 4 then (s2.dramRefresh true).set DRC_STAT_SR 1 else s2
      let s4 := s3.enterMode mLowPower lp r.master
      let s5 := if 3 ≤ lp then
          let t := s4.zeroMem 0x1002800000 0x1002C00000
          (List.range 24).foldl (fun (u : State) n => u.setQueue n [])
            { t with escs := t.escs.map (fun e => (e.1, { e.2 with buf := [], window := [], line := .idle })) }
        else s4
      let s6 := if lp = 5 then s5.dropAll
        else if 3 ≤ lp then { s5 with rst := { s5.rst with pwrEn := if lp = 3 then 10 else 8 } } else s5
      ({ s6 with rst := { s6.rst with lpSince := s.rst.clk, waking := none } }).set SYS_LP_STAT_LASTSTATE lp
  | none => s

/-- WAKESRC of a wake source (R556). -/
def wakeCode : WakeSrc → Nat
  | .wakeN => 1 | .pcie => 3 | .skeuz => 4 | .headLink => 5 | .interrupt => 6 | .resetN => 7

/-- A wake source, by WAKESRC, may wake sub-state `lp` (R548, R550, R556). -/
def State.wakeAllowed (s : State) (lp code : Nat) : Bool :=
  let en := s.get SYS_LP_WAKE_ENABLES
  let byState := if lp ≤ 1 then true else if lp = 2 then code != 6 else if lp ≤ 4 then code == 1 || code == 2 || code == 7
    else code == 1 || code == 2
  byState && (code == 7 || en.testBit (code - 1))

/-- A wake (R549 to R551): during an entry it aborts; from Stopped and Reserve it opens an episode of reach P. -/
def State.wake (s : State) (code : Nat) : State :=
  match s.lpTarget with
  | none => s
  | some (lp, entered) =>
    if !s.wakeAllowed lp code || s.rst.waking.isSome then s
    else if code = 7 ∧ (lp ≤ 3 ∨ !entered) then { s with rst := { s.rst with pwrEn := 15 } }.resetPin true
    else
      let s1 := s.set SYS_LP_STAT_WAKESRC code
      if !entered then
        { (s1.set SYS_LP_STAT_ABORTED 1).set SYS_MODE_STAT_BUSY 0 with mode := { s1.mode with trans := none, armed := false } }
      else if lp ≤ 3 then { s1 with rst := { s1.rst with waking := some 1 } }
      else
        let s2 := if lp = 5 then s1.raiseGroup 3 else { s1 with rst := { s1.rst with pwrSeq := some (s1.rst.clk, false) } }
        let s3 := s2.assertReset 9
        let s4 := if lp = 5 then s3.assertReset 1 else s3
        { s4 with rst := { s4.rst with waking := some 0 } }

/-- The RESET_N ball in every power state (R550): in Stopped a wake, in Reserve nothing. -/
def State.resetNInput (s : State) (low : Bool) : State :=
  if s.modeCode = mLowPower ∧ low then
    let lp := s.get SYS_MODE_STAT_LPSTATE
    if lp ≤ 3 then { s with rst := { s.rst with pwrEn := 15 } }.resetPin true
    else
      let t := { s with rst := { s.rst with pinLow := true } }
      if lp = 4 then t.wake 7 else t
  else s.resetPin low

/-- The wake timer (R550): SYS_LP_TIMER AON cycles since the entry. -/
def State.wakeTimer (s : State) : State :=
  let n := s.get SYS_LP_TIMER_AON
  if s.modeCode = mLowPower ∧ n ≠ 0 ∧ n * 400000000 ≤ (s.rst.clk - s.rst.lpSince) * 32768 then s.wake 2 else s

/-- The wake is complete (R548, R551): Idle, or the end of the wake sequence of an episode. From Wound the dial clears itself
(R263). -/
def State.wakeDone (s : State) : State :=
  match s.rst.waking with
  | none => s
  | some 0 =>
    if s.rst.pwrEn = 15 ∧ s.railsUp then ({ s with rst := { s.rst with waking := none } }).releaseReset 9 else s
  | some _ =>
    let lp := s.get SYS_MODE_STAT_LPSTATE
    let s1 := { s with rst := { s.rst with waking := none, pwrEn := 15 } }
    let s2 := s1.enterMode mIdle 0 0xFF
    let s3 := if 2 ≤ lp then s2.hlTrainAll else s2
    let s4 := if lp = 2 then (List.range 24).foldl (fun t n => if t.hlState n = 7 then t.hlWake n else t) s3 else s3
    let s5 := if 3 ≤ lp then (List.range 4).foldl (fun t p => if t.flag (SKZ_PCTL_EN p) then t.skTrain p else t) s4 else s4
    let s6 := if lp = 3 then s5.dialClearStart else s5
    if s6.flag SYS_WDT_CTL_EN then s6.wdtStart else s6

/-! ### References, readings, counters -/

/-- REFA is absent or off frequency, or back (R37). -/
def State.refA (s : State) (bad : Bool) : State :=
  let t := { s with rst := { s.rst with refaBad := bad } }
  if bad then t.raise 0 else t.lower 0

/-- REFB is absent or off frequency: the Skeuz ports and the PCIe link go down (R37, R404). -/
def State.refB (s : State) (bad : Bool) : State :=
  if bad then
    let t := { s with rst := { s.rst with refbBad := true } }
    let u := (List.range 4).foldl (fun v p => v.skPortDown p) (t.raise 1)
    let w := ((u.set HP_STAT_LINKUP 0).set HP_STAT_SPEED 0).set HP_STAT_WIDTH 0
    if s.flag HP_STAT_LINKUP then w.pulse 0x078 else w
  else
    let t := ({ s with rst := { s.rst with refbBad := false } }).lower 1
    (List.range 4).foldl (fun v p => if v.flag (SKZ_PCTL_EN p) && v.get (SKZ_PSTAT_STATE p) == 0 && v.skLive then v.skTrain p else v) t

/-- A die's temperature (R631); the drive die's reading holds while the barrier link is down. -/
def State.dieTemp (s : State) (d t : Nat) : State :=
  if (d = 2 ∧ s.rst.barrierDown) ∨ !s.sysLive then s
  else
    let p := s.get (SYS_TEMP_PEAK d)
    (s.set (SYS_TEMP_T d) t).set (SYS_TEMP_PEAK d) (if sgn 16 p < sgn 16 t then t else p)

/-- A second of the hours counter (R556): in every state but Reserve. -/
def State.hoursTick (s : State) : State :=
  if s.modeCode = mLowPower ∧ s.get SYS_MODE_STAT_LPSTATE = 5 then s
  else if s.get SYS_HSEC_SECONDS + 1 < 3600 then s.set SYS_HSEC_SECONDS (s.get SYS_HSEC_SECONDS + 1)
  else (s.set SYS_HSEC_SECONDS 0).incWrap SYS_HOURS_OPERATING

/-! ### The commit of Load (R524, R531, R557, R577) -/

/-- Every source active now asserts, lowest number first (R557, R568). -/
def State.assertActive (s : State) : State :=
  (faultSources.filter s.srcActive).foldl (fun t k => t.assertSrc k 0 false) s

/-- Load commits, and the device enters Boot: core 0 starts in the ROM, the collector runs. -/
def State.commitLoad (s : State) : State :=
  if s.rst.phase ≠ .loading then s
  else
    let s1 := s.trimCommit.chrUsable
    let s2 := if 2 ≤ s.rst.reach then s1.incWrap NV_PWRCYC_COUNT else s1
    let s3 := if s2.flag SYS_OPT_WDTON then ((s2.set SYS_WDT_CTL_EN 1).set SYS_WDT_CTL_TIMEOUT 1000).wdtStart else s2
    let s4 := { s3 with
      rst := { s3.rst with phase := .off, ballsIn := true, ballsFree := 0 }
      host := { s3.host with boot := .rom, copy := 1, image := none, coresRun := 1 } }
    let s5 := (s4.enterMode 1 0 0xFF).emit (.coreStart 0 0x20000F0000 0)
    let s6 := s5.record 0x0202 (if s.rst.reach = 3 then 3 else 2) (s5.peekReg 0x2000000208) (s5.get CHR_TSET_RESET) false false false []
    let s7 := s6.assertActive
    if s7.cal.missing then { s7.pulse 0x03A with cal := { (s7.pulse 0x03A).cal with missing := false } } else s7

end Sys2Proof.Machine
end

