-- ==== Sys2Proof/Machine/RegRead.lean ====
section
/-! DEFINITION. Reads over the shared interconnect (R4 to R9, R24 to R31): registers with their side effects, memories, boot
ROM, the NV store's data window, and the device's own slot of the fabric window. -/
namespace Sys2Proof.Machine

/-- A register read by master `m` (R5 to R7): the value, with what the read clears, latches or computes. The high word of a
pair answers with this master's latch; a read of HP_ERRCNT also clears HP_ERRLOG (R611); one of DIAL_PEEK_VAL shows θ on
its beat (R260); while a clear runs the stamp table reads 0 (R264). -/
def State.regRead (s : State) (m a : Nat) : Nat × State :=
  if a = 0x200040020C then let u := s.peekDial .clean; (u.peekReg a, u)
  else if s.dial.clear.isSome ∧ 0x2000410000 ≤ a ∧ a < 0x2000418000 then (0, s)
  else
    let key := m * 2 ^ 40 + a
    let v := if isHi a then (match s.hiLatch.find? (fun (e : Nat × Nat) => e.1 == key - 4) with | some e => e.2 | none => s.peekReg a)
      else s.peekReg a
    let s1 := if isLo a then { s with hiLatch := Sparse.insert s.hiLatch key (s.peekReg (a + 4)) } else s
    let s2 := s1.clearRc a
    (v, if a = 0x2001100010 then (s2.set HP_ERRLOG_LO_ADDR 0).set HP_ERRLOG_HI_ADDR 0 else s2)

/-- The `n` bytes from `a` all lie in memory. -/
def State.memSpan (s : State) (a n : Nat) : Bool :=
  (List.range n).all (fun i => match s.region (a + i) with | .dram | .dialMem | .progMem | .lineBuf => true | _ => false)

/-- The `n` bytes from `a` all lie in one region that is no memory. -/
def State.inRegion (s : State) (r : Region) (a n : Nat) : Bool := decide (0 < n) && (List.range n).all (fun i => s.region (a + i) == r)

/-- Access to DRAM ends the time in which IECC may be written (R600). -/
def State.dramTouched (s : State) (a : Nat) : State :=
  if s.region a = .dram then { s with rst := { s.rst with dramFresh := false } } else s

/-- `n` bytes of the boot ROM (R601). -/
def romLoad (a : Nat) : Nat → Nat
  | 0 => 0
  | n + 1 => (Config.bootRom (a - 0x20000F0000)).toNat + 256 * romLoad (a + 1) n

/-- A read of the data window under the NV store's SECDED (R574). -/
def State.nvEcc (s : State) (e : Ecc) : Bool × State :=
  match e with
  | .clean | .link => (true, s)
  | .corrected => (true, s.incSat NV_ECCCNT_CORR)
  | .uncorrectable => (false, ((s.incSat NV_ECCCNT_UNCORR).set NV_STAT_UNCORR 1).pulse 0x03D)

/-- A read of `n` bytes by master `m` at an address outside the fabric window: none for an error response (R24). While a
clear runs dial memory reads 0 (R264). Only the register windows and the NV store's data window of a block held in reset answer
with an error; dial memory, line buffers and DRAM answer while their block is held (log entry 122). DRAM data that no ECC corrects
is a free value (R600). -/
def State.localRead (s : State) (m a n : Nat) (e : Ecc) : Option Nat × State :=
  if !s.sysLive then (none, s)
  else match s.region a with
  | .reg => if regAccessOk a n && !s.blockHeld a then let (v, t) := s.regRead m a; (some v, t) else (none, s)
  | .dram | .dialMem | .progMem | .lineBuf =>
    if !s.memSpan a n then (none, s)
    else if s.dial.clear.isSome && s.region a == .dialMem then (some 0, s)
    else
      let s1 := (s.dramTouched a).eccEvent a e
      if s.eccBad a e then (none, s1)
      else if s.eccBlind a e then let (v, t) := s1.freeLoad n; (some v, t)
      else (some (s.load a n), s1)
  | .rom => if s.inRegion .rom a n then (some (romLoad a n), s) else (none, s)
  | .nvData =>
    if s.inRegion .nvData a n && s.nvLive then
      let (ok, t) := s.nvEcc e
      if ok then (some (s.nvLoad (s.nvOfs a) n), t) else (none, t)
    else (none, s)
  | .fabric | .unmapped => (none, s)

end Sys2Proof.Machine
end

