-- ==== Sys2Proof/Machine/FaultOps.lean ====
section
/-! DEFINITION. The split (R584 to R587), the reactions that act through other blocks (R561, R562, R573), the hack line's
commands (R564, R566), injection (R569 to R571), rail faults (R557). -/
namespace Sys2Proof.Machine

/-! ### Split (R584 to R587, R592) -/

/-- The split block answers. -/
def State.splLive (s : State) : Bool := !s.heldInReset 142 && s.rst.phase == .off

/-- A split that arrives now is missed (R587). -/
def State.splitBusy (s : State) : Bool := s.flag SPL_STAT_BUSY || (s.flag SPL_STAT_DONE && s.flag SPL_CTL_HOLD)

/-- A split is missed (R587). -/
def State.splitMiss (s : State) : State := (s.set SPL_STAT_MISSED 1).incSat SPL_MISSCNT_COUNT

/-- A local trigger (R584): its split follows 128 beats later, or with FAB set, and not from the pin, by a broadcast. -/
def State.splitTrigger (s : State) (byPin : Bool) : State :=
  if !s.splLive || !s.flag SPL_CTL_EN || (byPin && !s.flag SPL_CTL_INEN) then s
  else if s.splitBusy then s.splitMiss
  else
    let id := (s.flt.splitId + 1) % 256
    let t := { s with flt := { s.flt with splitId := id } }
    if s.flag SPL_CTL_FAB && !byPin then t.skBroadcast 3 id (s.beat + s.get SKZ_CMDLEAD_LEAD)
    else { t with flt := { t.flt with splits := t.flt.splits ++ [⟨s.beat + 128, id⟩] } }

/-- The split beat (R585): every block copies its snapshot set, R7 holding for the copy; bit 15 of every ESC_EVENT, trigger
2 of R345, SPLIT_OUT for 400 beats, a record. -/
def State.splitTake (s : State) (id : Nat) : State :=
  if !s.splLive || !s.flag SPL_CTL_EN then s
  else if s.splitBusy then s.splitMiss
  else
    let p := if s.heldInReset 129 then s else s.peekDial .clean
    let s1 := { p with flt := { p.flt with snap := p.regs, splitOut := p.rst.clk + 400 } }
    let s2 := (s1.set SPL_STAT_ID id).setPair SPL_BEAT_LO_SPLIT SPL_BEAT_HI_SPLIT s.beat48
    let s3 := s2.set SPL_STAT_BUSY 1
    let s4 := (List.range 24).foldl (fun t n => if t.heldInReset n then t else t.setEvents n 0x8000) s3
    let s5 := (s4.capTrigger 2 (fun _ => true)).drivePin 1 1
    s5.record 0x0203 0 id (s5.get CHR_TSET_SPLIT) false false false []

/-- A local split reaches its beat (R584). -/
def State.splitDueNow (s : State) : State :=
  match s.flt.splits.find? (fun (d : SplitDue) => decide (d.at_ ≤ s.beat)) with
  | some d => ({ s with flt := { s.flt with splits := s.flt.splits.erase d } }).splitTake d.id
  | none => s

/-- The register at `a` belongs to a snapshot set (R585). -/
def inSnapSet (a : Nat) : Bool :=
  let o := (a - 0x2000100000) % 0x10000
  let esc := decide (0x2000100000 ≤ a) && decide (a < 0x2000280000) &&
    (o == 0xC || o == 0x28 || o == 0x2C || (decide (0x100 ≤ o) && decide (o < 0x1A0)))
  esc || (match findReg a with
    | some r => r.fields.all (fun f => f.acc == .ro || f.acc == .rc || f.acc == .w1c)
    | none => false)

/-- The value a register had on the split beat. -/
def State.snapValue (s : State) (a : Nat) : Nat := ({ s with regs := s.flt.snap } : State).peekReg a

/-- One live read as master 0x08 (R24, R580, R586): an error stores 0 and raises the chronograph access error. -/
def State.snapRead (s : State) (a : Nat) : Nat × State :=
  match ({ s with req := some 8 } : State).localRead 8 a 4 .clean with
  | (some v, t) => (v, t)
  | (none, t) => (0, t.pulse 0x03E (a % 2 ^ 32))

/-- Entry `k` of SPL_LIST is collected into SPL_DATA (R586, R592). -/
def State.splCollect (s : State) (k : Nat) : State :=
  if !s.flag (SPL_LIST_VALID k) then s.set (SPL_DATA_VALUE k) 0
  else
    let a := 0x2000000000 + 4 * s.get (SPL_LIST_OFFSET k)
    if inSnapSet a then s.set (SPL_DATA_VALUE k) (s.snapValue a)
    else let (v, t) := s.snapRead a; t.set (SPL_DATA_VALUE k) v

/-- The collection ends (R586). -/
def State.splitDone (s : State) : State :=
  if !s.splLive || !s.flag SPL_STAT_BUSY then s
  else
    (((List.range (min 4096 (s.get SPL_CTL_LEN))).foldl State.splCollect s).set SPL_STAT_BUSY 0).set SPL_STAT_DONE 1

/-- DONECLR (R592). -/
def State.splitClear (s : State) : State := if s.splLive then s.set SPL_STAT_DONE 0 else s

/-! ### Chip reset and block reset reactions (R562, R573) -/

/-- A chip reset reaction: held until the records queued are written, at most 20 µs, among them the record of the entry into
Halted that the next beat makes; without a record to wait for it follows on the next beat (R562). -/
def State.chipReset (s : State) : State :=
  if s.flt.hold.isSome then s
  else
    let more := s.mode.haltDue.isSome && s.modeCode != mHalted && s.flag CHR_CTL_EN && decide (s.flt.queue.length < 32)
    { s with flt := { s.flt with hold := some (s.rst.clk + 8000, s.flt.queue.length + b2n more) } }

/-- The hold of a chip reset ends (R562); Halted has been entered (R49). -/
def State.chipHoldEnd (s : State) : State :=
  match s.flt.hold with
  | some (d, n) => if n = 0 ∨ d ≤ s.rst.clk then (({ s with flt := { s.flt with hold := none } }).haltNow).pulseReset 4 else s
  | none => s

/-- The failures of a block noted, and shown in FLT_BRLAST (R573). -/
def State.setFails (s : State) (code n : Nat) : State :=
  let t := { s with flt := { s.flt with
    fails := s.flt.fails.filter (fun (x : Nat × BrstFail) => x.1 != code) ++ [(code, (⟨n, none⟩ : BrstFail))] } }
  (t.set FLT_BRLAST_BLOCK code).set FLT_BRLAST_FAILS n

/-- A block reset reaction (R561, R573): the third failure in a row fires a chip reset in its place. -/
def State.brstReact (s : State) (src : Nat) : State :=
  match srcOwner src with
  | none => s
  | some code =>
    let n := match s.flt.fails.find? (fun (x : Nat × BrstFail) => x.1 == code) with
      | some (_, ⟨c, some u⟩) => if s.rst.clk ≤ u then c + 1 else 0
      | some (_, ⟨c, none⟩) => c
      | none => 0
    if n < 3 then (s.setFails code n).blockReset code
    else
      let s1 := (s.setFails code n).set FLT_STAT_ESCAL 1
      let s2 := s1.record 0x0206 3 (s1.peekReg 0x2000E00044) 64 false false false []
      (s2.hackAssert src).chipReset

/-- The reactions of an assertion that act through other blocks, once Halted has been entered. -/
def State.react (s : State) (src : Nat) : State :=
  let s1 := if s.flag (FLT_CFG_SPLIT src) then s.splitTrigger false else s
  let s2 := if s1.flag (FLT_CFG_BRST src) then s1.brstReact src else s1
  if s2.flag (FLT_CFG_CRST src) then s2.chipReset else s2

/-! ### The hack line's commands (R564, R566) -/

/-- FLT_HACK.ASSERT. -/
def State.hackCmd (s : State) : State := if s.sysLive then s.hackAssert 0x200 else s

/-- Some source with HACK set is active or pending. -/
def State.hackBusy (s : State) : Bool :=
  faultSources.any (fun k => (s.srcActive k || s.srcPending k) && s.flag (FLT_CFG_HACK k))

/-- FLT_HACK.RELEASE (R566). -/
def State.hackRelease (s : State) : State :=
  if !s.sysLive then s
  else if s.modeCode = 0 ∨ s.modeCode = 1 ∨ s.modeCode = mLowPower ∨ s.hackBusy then s.set FLT_HACK_RELREF 1
  else if !s.flag FLT_HACK_STATE then s
  else
    let t := s.record 0x0204 1 (s.peekReg 0x2000E00008) 64 false false false []
    (t.set FLT_HACK_STATE 0).emit (.pin 0 1)

/-- FLT_CAP_CLR.CLR (R568). -/
def State.captureClear (s : State) : State :=
  if !s.sysLive then s
  else { [FLT_CAP_SRC_VALID, FLT_CAP_SRC_RAIL, FLT_CAP_SRC_INJ, FLT_CAP_SRC_PERSIST, FLT_CAP_SRC_SOURCE, FLT_CAP_BEAT_LO_BEAT,
    FLT_CAP_BEAT_HI_BEAT, FLT_CAP_DETAIL_DETAIL, FLT_CAP_CNT_COUNT, FLT_STAT_OVF, FLT_STAT_CAPVALID].foldl (fun t f => t.set f 0) s with
    capMaster := none }

/-! ### Injection (R569 to R571) -/

/-- The modes in which an injection is armed (R569). -/
def injMode (m : Nat) : Bool := m == 2 || m == 3 || m == 7 || m == 8 || m == 10 || m == 9

/-- FLT_INJ.ARM with the word written (R569). -/
def State.injArm (s : State) (v : Nat) : State :=
  if !s.sysLive then s
  else
    let src := bits v 8 0
    let md := bits v 25 24
    if !injMode s.modeCode || !srcAssigned src || s.flt.inj.isSome then s.set FLT_INJ_STAT_REFUSED 1
    else
      let t := (((s.set FLT_INJ_SOURCE src).set FLT_INJ_MODE md).set FLT_INJ_REACT (bits v 20 20)).set FLT_INJ_STAT_ARMED 1
      { t with flt := { t.flt with inj := some { source := src, mode := if md = 0 then 1 else md, react := bit v 20 } } }

/-- FLT_INJ.DISARM (R569, R571). -/
def State.injDisarm (s : State) : State :=
  match s.flt.inj with
  | some i => ({ s with flt := { s.flt with inj := none, rechecks := s.flt.rechecks ++ [i] } }).set FLT_INJ_STAT_ARMED 0
  | none => s

/-- The re-check after a disarm (R571). -/
def State.injRecheck (s : State) (active : Bool) : State :=
  match s.flt.rechecks with
  | [] => s
  | i :: rest =>
    let s1 := { s with flt := { s.flt with rechecks := rest } }
    if !active then s1.lower i.source
    else
      let s2 := (if srcLevel i.source then s1.setSrcBit FLT_ACT_SOURCE i.source else s1).set FLT_INJ_STAT_PERSISTED 1
      let held := s2.flag FLT_STAT_CAPVALID && s2.get FLT_CAP_SRC_SOURCE == i.source && s2.flag FLT_CAP_SRC_INJ
      let s3 := if held then s2.set FLT_CAP_SRC_PERSIST 1 else (s2.set FLT_STAT_OVF 1).incSat FLT_CAP_CNT_COUNT
      let s4 := if i.withheld then s3.fireReactions i.source else s3
      if s4.flag (FLT_CFG_CHR i.source) then
        s4.record i.source (s4.get (FLT_CFG_SEV i.source)) i.detail (s4.get (FLT_CFG_SNAPSET i.source)) false true true []
      else s4

/-- A source changes to active, or is active for an instant (R557). The detail words that the tables take from the event
(an address, a mask) are free: the row does not carry them. -/
def State.srcAssert (s : State) (src : Nat) : State :=
  if !srcAssigned src then s
  else
    let d := s.freeNext % 2 ^ 32
    if srcLevel src then s.draw.raise src d else s.draw.pulse src d

/-- A rail fault (R557): the source counts as active while the invalid pair lasts; an injection of mode 3 keeps it. -/
def State.railFault (s : State) (src : Nat) : State :=
  if !srcAssigned src || s.srcActive src then s
  else
    let d := s.freeNext % 2 ^ 32
    let kept := match s.flt.inj with | some i => i.source == src && i.mode == 3 | none => false
    let t := s.draw.raise src d true
    if kept then t else t.lower src

end Sys2Proof.Machine
end

