-- ==== Sys2Proof/Machine/HostOps.lean ====
section
/-! DEFINITION. The host port's link and DMA channels (R593 to R598), DRAM initialisation (R601), boot (R602 to R606), cores
(R608). -/
namespace Sys2Proof.Machine

/-! ### Endpoint (R595, R596, R610) -/

/-- The host port answers. -/
def State.hostLive (s : State) : Bool := !s.heldInReset 139 && s.rst.phase == .off

/-- A configuration request (R595): retry status from the end of the internal reset to the end of Load. -/
def State.configRequest (s : State) : State :=
  match s.rst.phase with
  | .driven | .released => s
  | .locking | .loading => s.emit (.config true)
  | .off => if s.heldInReset 139 then s else s.emit (.config false)

/-- The PCIe link goes up with a speed and a width, or down (R593, R610). -/
def State.pcieLink (s : State) (up : Bool) (speed width : Nat) : State :=
  if up then
    if s.hostLive && !s.rst.refbBad && decide (1 ≤ speed) && decide (speed ≤ 4) && (width == 1 || width == 2 || width == 4) then
      ((s.set HP_STAT_LINKUP 1).set HP_STAT_SPEED speed).set HP_STAT_WIDTH width
    else s
  else if s.flag HP_STAT_LINKUP then (((s.set HP_STAT_LINKUP 0).set HP_STAT_SPEED 0).set HP_STAT_WIDTH 0).pulse 0x078
  else s

/-- A vector is unmasked (R596): the message follows while its line is active. -/
def State.msixUnmask (s : State) (vec : Nat) : State :=
  let pend := s.host.msixPend.testBit vec
  let s1 := { s with host := { s.host with msixMask := putBit s.host.msixMask vec false, msixPend := putBit s.host.msixPend vec false } }
  if pend && (s.get (cipField vec)).testBit (vec % 32) then s1.emit (.msix vec) else s1

/-! ### DMA (R597, R598) -/

/-- GO of a channel (R597). -/
def State.dmaGo (s : State) (ch v : Nat) : State :=
  if !s.hostLive then s
  else if s.flag (HP_DMA_STAT_BUSY ch) then s.set (HP_DMA_STAT_CMDERR ch) 1
  else
    let t := s.set (HP_DMA_CTL_DIR ch) (bits v 0 0)
    if t.get (HP_DMA_LEN_VALUE ch) = 0 then t else t.set (HP_DMA_STAT_BUSY ch) 1

/-- A channel stops with an error (R598). -/
def State.dmaFail (s : State) (ch : Nat) (hostSide : Bool) (a : Nat) : State :=
  let s1 := if hostSide then s.setPair (HP_DMA_HADDR_LO_ADDR ch) (HP_DMA_HADDR_HI_ADDR ch) (a % 2 ^ 64)
    else s.setPair (HP_DMA_TADDR_LO_ADDR ch) (HP_DMA_TADDR_HI_ADDR ch) (a % 2 ^ 40)
  ((s1.set (HP_DMA_STAT_BUSY ch) 0).set (HP_DMA_STAT_ERR ch) 1).pulse 0x07A

/-- An error completion or a timeout stops a channel (R598). What it had moved into memory before stays: its bytes, which
the row does not carry, are free up to the failing address. -/
def State.dmaError (s : State) (ch : Nat) (hostSide : Bool) (a : Nat) : State :=
  if !s.hostLive || !s.flag (HP_DMA_STAT_BUSY ch) then s
  else
    let ta := s.pair (HP_DMA_TADDR_LO_ADDR ch) (HP_DMA_TADDR_HI_ADDR ch)
    let ha := s.pair (HP_DMA_HADDR_LO_ADDR ch) (HP_DMA_HADDR_HI_ADDR ch)
    let k := min (s.get (HP_DMA_LEN_VALUE ch)) (a - (if hostSide then ha else ta))
    let mem (x : Nat) : Bool := match s.region x with | .dram | .dialMem | .progMem | .lineBuf => true | _ => false
    let s1 := if s.flag (HP_DMA_CTL_DIR ch) then s else s.freeBytes (((List.range k).map (ta + ·)).filter mem)
    s1.dmaFail ch hostSide a

/-! ### DRAM (R599, R601) -/

/-- IECC written (R600): it changes only in Boot, before the first access after initialisation. -/
def State.setIecc (s : State) (v : Nat) : State :=
  if v = s.get DRC_CFG_IECC then s
  else if s.modeCode = 1 ∧ (s.rst.dramFresh ∨ !s.flag DRC_STAT_INIT) then s.set DRC_CFG_IECC v
  else s.set DRC_STAT_WERR 1

/-- The channel of a DRAM address (R599): blocks of 256 bytes alternate. -/
def dramChannel (a : Nat) : Nat := bits a 8 8

/-- The fitted capacity is twice the smaller density (R599). Initialisation completes, in full or out of self-refresh, or training fails (R601, R610, R612). The ROM in Boot goes on to
the image (R601, R602). -/
def State.dramInit (s : State) (cap : Nat) (ok : Bool) : State :=
  let asleep := s.modeCode == mLowPower && decide (2 ≤ s.get SYS_MODE_STAT_LPSTATE)
  if s.heldInReset 140 || s.rst.phase != .off || s.flag DRC_STAT_INIT || asleep then s
  else if !ok then (s.set DRC_STAT_TRAINERR 1).pulse 0x07D
  else
    let keep := s.rst.dramSr && s.rst.vddqOk && s.rst.keepCase
    let s1 := (((s.set DRC_STAT_CAP cap).set DRC_STAT_INIT 1).set DRC_STAT_SR 0).set DRC_STAT_KEPT (b2n keep)
    let s2 := { s1 with rst := { s1.rst with dramFresh := true, dramSr := false, keepCase := false } }
    let s3 := if keep then s2 else s2.dramLost
    if s3.modeCode = 1 ∧ s3.host.boot = .rom then
      if s3.get SYS_BOOT_STAT_BOOTSRC = 2 then { s3.set SYS_BOOT_STAT_WAITHOST 1 with host := { s3.host with boot := .waitHost } }
      else { s3 with host := { s3.host with boot := .flash } }
    else s3

/-! ### Boot (R602 to R606) -/

/-- A little-endian field of an image header. -/
def hdrNum (h : List Byte) (ofs n : Nat) : Nat := leNat ((h.drop ofs).take n)

/-- The header's ERRCODE (R604, R613), 0 where every check passes: 1 for the header and its length, 3 for the addresses. -/
def State.hdrCheck (s : State) (h : List Byte) : Nat :=
  let len := hdrNum h 8 4
  let load := hdrNum h 16 8 % 2 ^ 40
  let entry := hdrNum h 24 8 % 2 ^ 40
  if h.length ≠ 64 ∨ hdrNum h 0 4 ≠ 0x42564741 ∨ hdrNum h 4 4 ≠ 1 ∨ hdrNum h 60 4 ≠ crc32 (h.take 60) ∨ len = 0 ∨ 8388608 < len then 1
  else
    let u : State := if bit (hdrNum h 12 4) 0 then s.setIecc 1 else s
    let r := u.region load
    if load % 8 ≠ 0 ∨ entry % 8 ≠ 0 ∨ !(r == .progMem || r == .dram) ∨ u.region (load + len - 1) ≠ r ∨ entry < load ∨ load + len ≤ entry then 3
    else 0

/-- The image that a header describes. -/
def hdrImage (h : List Byte) (src at_ : Nat) : Image :=
  { src, at_, load := hdrNum h 16 8 % 2 ^ 40, entry := hdrNum h 24 8 % 2 ^ 40, len := hdrNum h 8 4, flags := hdrNum h 12 4, crc := hdrNum h 32 4 }

/-- The ROM waits for the host (R605). -/
def State.waitHost (s : State) : State := { s.set SYS_BOOT_STAT_WAITHOST 1 with host := { s.host with boot := .waitHost, image := none } }

/-- An attempt ends with an ERRCODE (R603 to R606): the next copy, the host, or the boot failure; a host image leaves WAITHOST
set. -/
def State.bootFail (s : State) (err src : Nat) : State :=
  let s1 := s.set SYS_BOOT_STAT_ERRCODE err
  if src = 3 then (s1.set SYS_BOOT_STAT_BOOTERR 1).waitHost
  else if s.host.copy = 1 then { s1 with host := { s1.host with boot := .flash, copy := 2, image := none } }
  else if s.get SYS_BOOT_STAT_BOOTSRC = 1 then
    ({ s1.set SYS_BOOT_STAT_BOOTERR 1 with host := { s1.host with boot := .failed, image := none } }).pulse 0x07B
  else s1.waitHost

/-- The ROM loads an image's payload (R604): IECC first where the header asks for it, by the rule of every write of it (R600). -/
def State.bootLoad (s : State) (im : Image) (data : List Byte) : State :=
  let s1 := if bit im.flags 0 then s.setIecc 1 else s
  let s2 := (s1.dramTouched im.load).store im.load data
  { s2 with host := { s2.host with boot := .loading, image := some im } }

/-- What the flash answers about an image copy (R603, R604). -/
def State.flashRead (s : State) (f : FlashResult) : State :=
  if !f.responds then s.bootFail 4 s.host.copy
  else
    let e := s.hdrCheck f.header
    if e ≠ 0 then s.bootFail e s.host.copy
    else
      let im := hdrImage f.header s.host.copy f.offset.toNat
      if f.payload.length < im.len then s.bootFail 4 s.host.copy else s.bootLoad im (f.payload.take im.len)

/-- The ROM reads the next image copy from the flash, over the quad-SPI's balls (R603, R604, R620). -/
def State.flashBoot (s : State) (f : FlashResult) : State :=
  if s.host.boot ≠ .flash ∨ s.modeCode ≠ 1 ∨ !s.sysLive then s else ((s.ballUse 9).ballUse 10).flashRead f

/-- `n` bytes of memory from an address. -/
def State.bytesAt (s : State) (a n : Nat) : List Byte := (List.range n).map (fun i => s.byte (a + i))

/-- SYS_BOOT_CTL.GO (R605): the copy takes the payload whole before it writes, so the two may overlap. -/
def State.bootGo (s : State) : State :=
  if !s.flag SYS_BOOT_STAT_WAITHOST || s.host.boot != .waitHost then s
  else
    let hdr := s.pair SYS_BOOT_HDR_LO_ADDR SYS_BOOT_HDR_HI_ADDR
    let inMem (a n : Nat) : Bool := let r := s.region a; (r == .progMem || r == .dram) && s.region (a + n - 1) == r
    if !inMem hdr 64 then s.bootFail 3 3
    else
      let h := s.bytesAt hdr 64
      let e := s.hdrCheck h
      let im := hdrImage h 3 hdr
      if e ≠ 0 then s.bootFail e 3
      else if !inMem (hdr + 64) im.len then s.bootFail 3 3
      else (s.dramTouched hdr).bootLoad im (s.bytesAt (hdr + 64) im.len)

/-- Cores of a mask leave reset at an address (R606, R608); one for which an NMI waits takes it. -/
def State.startCores (s : State) (mask entry a0 : Nat) : State :=
  (List.range 4).foldl (fun t c =>
    if mask.testBit c && !t.host.coresRun.testBit c then
      let u := ({ t with host := { t.host with
        coresRun := putBit t.host.coresRun c true, nmiPend := putBit t.host.nmiPend c false } }).emit (.coreStart c entry a0)
      if t.host.nmiPend.testBit c then u.emit .nmi else u
    else t) s

/-- The payload is loaded and its CRC taken (R604, R606). -/
def State.imageLoaded (s : State) : State :=
  match s.host.image with
  | none => s
  | some im =>
    if s.host.boot ≠ .loading ∨ s.modeCode ≠ 1 ∨ !s.sysLive then s
    else if crc32 (s.bytesAt im.load im.len) ≠ im.crc then s.bootFail 2 im.src
    else
      let s1 := ((s.set SYS_BOOT_STAT_USED im.src).set SYS_BOOT_STAT_RUNNING 1).set SYS_BOOT_STAT_WAITHOST 0
      let s2 := ({ s1 with host := { s1.host with boot := .running, image := none } }).emit (.coreStart 0 im.entry im.at_)
      if bit im.flags 1 then s2.startCores 0xE im.entry im.at_ else s2

/-- The time CSR of the cores: 10 ns ticks (R608). -/
def State.coreTime (s : State) : Nat := s.beat / 4

/-- SYS_CORE_CTL.RUN with the word written (R608, R613). -/
def State.coreRun (s : State) (v : Nat) : State :=
  if s.rst.phase ≠ .off then s
  else s.startCores (v % 16 / 2 * 2) (s.pair SYS_CORE_ENTRY_LO_ADDR SYS_CORE_ENTRY_HI_ADDR) 0

end Sys2Proof.Machine
end

