-- ==== Sys2Proof/Machine/RegWrite.lean ====
section
/-! DEFINITION. Register writes (R4 to R9, R22): each field by its access code, with what each block's chapter says a write
does. The block is not held in reset; the access has been checked. -/
namespace Sys2Proof.Machine

/-- The mode is Armed or Expose. -/
def State.armedOrExpose (s : State) : Bool := s.modeCode == mArmed || s.modeCode == mExpose

/-! ### System, mode, reset, power (R45, R62, R65, R533, R540, R543, R545, R556, R605, R613) -/

/-- A write of SYS_RST_CMD: CNTCLR, then WARM. -/
def State.rstCmd (s : State) (v : Nat) : State :=
  let s1 := if bit v 1 then (List.range 10).foldl (fun t k => t.set (SYS_RST_CNT_COUNT k) 0) s else s
  if bit v 0 then s1.pulseReset 7 else s1

/-- A register of the system block at offset `o`. -/
def State.writeSys (s : State) (m o v : Nat) : State :=
  let plain := s.writeFields (0x2000000000 + o) v
  match o with
  | 0x100 => s.modeRequest m v
  | 0x10C | 0x110 => plain.refreshLine 1
  | 0x204 => s.rstCmd v
  | 0x240 => s.brstWrite 0 v
  | 0x244 => s.brstWrite 1 v
  | 0x248 => s.brstWrite 2 v
  | 0x24C => s.brstWrite 3 v
  | 0x250 => s.brstWrite 4 v
  | 0x260 => s.wdtWrite v
  | 0x264 => if bit v 0 then s.wdtKick else s
  | 0x324 => if bit v 0 then s.supResume else s
  | 0x380 => s.avsCtlWrite v
  | 0x504 => s.set SYS_HSEC_SECONDS (if 3600 ≤ v % 4096 then 0 else v)
  | 0x600 => if bit v 0 then s.bootGo else s
  | 0x610 => s.coreRun v
  | _ => plain

/-- A register has RWS fields. -/
def isRwsReg (a : Nat) : Bool := match findReg a with | some r => r.fields.any (fun f => f.acc == .rws) | none => false

/-- The block's map assigns a register to the address (R9). -/
def isAssigned (a : Nat) : Bool := (findReg a).isSome

/-! ### Escapements and head transforms (R137, R143, R155 to R168, R175, R204, R205) -/

/-- A register of escapement `n` below offset 0x400. -/
def State.writeEsc (s : State) (n o v : Nat) : State :=
  let plain := s.writeFields (escBase n + o) v
  match o with
  | 0x0 => s.enableWrite n v
  | 0x4 => s.escCmd n v
  | 0x10 | 0x20 => plain.flushBuf n
  | 0x50 => s.writeFields (escBase n + o) (s.eventClears n v)
  | 0x54 => s.setEvents n v
  | 0x58 | 0x5C => plain.escLine n
  | _ => plain

/-- A register or table entry of head transform `n`, at an offset of the escapement's window. -/
def State.writeTrj (s : State) (n o v : Nat) : State :=
  if 0x4000 ≤ o ∧ o < 0xC408 ∧ s.armedOrExpose then s.set (TRJ_STAT_TBLERR n) 1
  else
    let t := s.writeFields (escBase n + o) v
    if isRwsReg (escBase n + o) then
      let u := t.set (TRJ_STAT_SHPEND n) 1
      if stoppedCode (s.escState n) then u.trjCommit n else u
    else t

/-- A write of ESC_GCMD (R158, R168): GO with a reserved CMD does nothing. -/
def State.gcmdWrite (s : State) (v : Nat) : State :=
  let t := (s.set ESC_GCMD_CMD (bits v 26 24)).set ESC_GCMD_MASK (bits v 23 0)
  if !bit v 31 then t
  else match bits v 26 24 with
    | 1 => t.forMask (bits v 23 0) State.startCmd
    | 2 => t.forMask (bits v 23 0) State.stopCmd
    | 3 => t.forMask (bits v 23 0) State.resumeCmd
    | _ => t

/-- A register of the escapement common block. -/
def State.writeEscc (s : State) (o v : Nat) : State :=
  match o with
  | 0x0 => if bit v 0 then s.startCommand else s
  | 0x24 => s.evFire v
  | 0x28 => s.gcmdWrite v
  | _ => s.writeFields (0x2000280000 + o) v

/-! ### Bridge, dial, regulators (R240, R262, R264, R266, R273, R311, R313) -/

/-- A register of the bridge; an offset outside its range sets CFGERR (R311). -/
def State.writeBrg (s : State) (o v : Nat) : State :=
  let a := 0x2000300000 + o
  let t := s.writeFields a v
  let u := if 0x100 ≤ o ∧ o < 0x1C0 ∧ 5120000 < (sgn 32 v).natAbs then t.set BRG_STAT_CFGERR 1 else t
  if isRwsReg a then (u.set BRG_STAT_SHPEND 1).brgCommit else u

/-- A register or stamp of the dial. -/
def State.writeDial (s : State) (o v : Nat) : State :=
  let a := 0x2000400000 + o
  if o = 0x204 then
    -- CLEAR and REBASE together act as CLEAR (R276)
    if bit v 0 then s.clearCmd else if bit v 1 then s.rebaseCmd else s
  else if 0x10000 ≤ o ∧ o < 0x18000 then
    if s.dial.clear.isSome then s else if s.armedOrExpose then s.set DIAL_STAT_CMDERR 1 else s.writeFields a v
  else
    let t := s.writeFields a v
    if isRwsReg a then (t.set DIAL_STAT_SHPEND 1).dialCommit else t

/-- A register of regulator `n`. -/
def State.writeReg (s : State) (n o v : Nat) : State :=
  let a := 0x2000500000 + 0x1000 * n + o
  if o = 0xAC then (if bit v 0 then s.popEvent n else s)
  else
    let t := s.writeFields a v
    if isRwsReg a then
      let u := t.set (REG_STAT_SHPEND n) 1
      if stoppedCode (s.escState n) then u.regCommit n else u
    else t

/-! ### Balance engine and head links (R321, R333 to R335, R342, R345, R397, R401) -/

/-- A register, program word or bank word of the balance engine. -/
def State.writeBal (s : State) (o v : Nat) : State :=
  let plain := s.writeFields (0x2000600000 + o) v
  if o = 0 then s.rateWrite v
  else if o = 0x10 ∨ o = 0x14 ∨ o = 0x18 then s.swapRequest ((o - 0x10) / 4) v
  else if 0x800 ≤ o ∧ o < 0x900 ∧ o % 0x40 = 0 then
    let g := (o - 0x800) / 0x40
    if bit v 30 then (s.injCtl g v).genStop g else if bit v 31 then s.injRun g v else s.injCtl g v
  else if 0xA00 ≤ o ∧ o < 0xB00 ∧ o % 0x40 = 0 then
    let c := (o - 0xA00) / 0x40
    if bit v 30 then (s.capCtl c v).capStop c else if bit v 31 then s.capStart c v else s.capCtl c v
  else if 0x1000 ≤ o ∧ o < 0x2200 then
    let a := (o - 0x1000) / 0x40
    match o % 0x40 with
    | 0 => (s.axWrites a (0x2000600000 + o)).axCtlWrite a v
    | 4 =>
      let t := if bit v 0 then s.axClose a else s
      if bit v 1 then t.axOpen a else t
    | _ => (s.axWrites a (0x2000600000 + o)).writeFields (0x2000600000 + o) v
  else if 0x10000 ≤ o ∧ o < 0x14000 then
    if s.pwordLocked ((o - 0x10000) / 4) then s.set BAL_STAT_PWERR 1 else plain
  else if 0x20000 ≤ o ∧ o < 0xF8000 ∧ isAssigned (0x2000600000 + o) then
    let k := (o - 0x20000) / 0x1800
    if s.bankLocked (k / 2) (k % 2) then s.set (BAL_AXSTAT_BWERR (k / 2)) 1 else plain
  else plain

/-- A register of head link `n`. -/
def State.writeHl (s : State) (n o v : Nat) : State :=
  match o with
  | 0x0 => s.hlCtlWrite n v
  | 0x44 =>
    if bit v 31 then s.hlSvcGo n v else (s.set (HL_SVCCMD_WRITE n) (bits v 8 8)).set (HL_SVCCMD_LEN n) (bits v 2 0)
  | _ => s.writeFields (0x2000700000 + 0x1000 * n + o) v

/-- A register of the Skeuz block (R426, R434). -/
def State.writeSkz (s : State) (o v : Nat) : State :=
  if o = 0x20 then s.bcmdWrite v
  else if 0x200 ≤ o ∧ o < 0x280 ∧ o % 0x20 = 0 then s.skCtlWrite ((o - 0x200) / 0x20) v
  else s.writeFields (0x2000800000 + o) v

/-! ### Imaging and illumination (R439, R450, R460 to R464, R470, R476) -/

/-- A register of a context (R460, R462). -/
def State.writeCtx (s : State) (c o v : Nat) : State :=
  let a := 0x2000901000 + 0x100 * c + o
  match o with
  | 0x0 => s.ctxCtlWrite c v
  | 0x10 | 0x14 | 0x18 | 0x1C | 0x20 | 0x24 | 0x28 =>
    if s.flag (IMG_CTX_CTL_EN c) then s.set IMG_STAT_WERR 1 else s.writeFields a v
  | 0x60 =>
    let t := s.writeFields a v
    if bit v 29 then t.camera c true else t
  | 0x70 => (s.writeFields a v).ctxShowRate c
  | 0x78 => s.ctxRelease c v
  | _ => let t := s.writeFields a v; if isRwsReg a then t.ctxRws c else t

/-- A register of a loupe (R460, R464). -/
def State.writeLpe (s : State) (n o v : Nat) : State :=
  let a := 0x2000902000 + 0x80 * n + o
  match o with
  | 0x0 =>
    let t := s.lpeCtlWrite n v
    if s.get (LPE_CTL_ALPHA n) = t.get (LPE_CTL_ALPHA n) then t else t.lpeRws n
  | 0x1C | 0x20 | 0x24 | 0x28 => if s.get (LPE_CTL_TAP n) ≠ 0 then s.set IMG_STAT_WERR 1 else s.writeFields a v
  | _ => let t := s.writeFields a v; if isRwsReg a then t.lpeRws n else t

/-- A register of the imaging block. -/
def State.writeImg (s : State) (o v : Nat) : State :=
  if 0x1000 ≤ o ∧ o < 0x1400 then s.writeCtx ((o - 0x1000) / 0x100) (o % 0x100) v
  else if 0x2000 ≤ o ∧ o < 0x2C00 then s.writeLpe ((o - 0x2000) / 0x80) (o % 0x80) v
  else if (o = 0x8 ∨ o = 0xC ∨ o = 0x10) ∧ s.flag IMG_CTL_MPREN then s.set IMG_STAT_WERR 1
  else s.writeFields (0x2000900000 + o) v

/-- A register of illumination. -/
def State.writeIll (s : State) (o v : Nat) : State :=
  let t := s.writeFields (0x2000A00000 + o) v
  if o = 0 then
    let u := if s.get ILL_CTL_GSCALE = t.get ILL_CTL_GSCALE then t else t.illGlobalWrite
    if s.get ILL_CTL_EN = u.get ILL_CTL_EN then u else u.illEnable
  else if o = 4 then t.illGlobalWrite
  else if o = 8 then (if bit v 0 then s.neighbourTest else s)
  else if 0x200 ≤ o ∧ o < 0x400 ∧ o % 0x10 ≠ 0xC then t.illChWrite ((o - 0x200) / 0x10) (o % 0x10 == 0)
  else t

/-! ### Motion, encoders, calibration (R481, R483, R498, R501, R507, R508, R522, R527) -/

/-- Offsets of an axis's limit, current and homing registers (R506, R508). -/
def motHeldReg (o : Nat) : Bool :=
  o == 0x24 || o == 0x28 || o == 0x34 || o == 0x38 || o == 0x3C || o == 0x40 || o == 0x44 || o == 0x48 || o == 0x4C || o == 0x50

/-- A register of the motion block; with the barrier link down nothing arrives (R498). -/
def State.writeMot (s : State) (o v : Nat) : State :=
  if s.rst.barrierDown then s
  else if 0x100 ≤ o ∧ o < 0x400 then
    let m := (o - 0x100) / 0x80
    let r := o % 0x80
    let plain := s.writeFields (0x2000B00000 + o) v
    if r = 0 then s.motCtlWrite m v
    else if r = 4 then
      let t := (s.set (MOT_AX_CMD_STAMPED m) (bits v 30 30)).set (MOT_AX_CMD_OP m) (bits v 2 0)
      if bit v 31 then t.motCmd m (bits v 2 0) (bit v 30) else t
    else if motHeldReg r && !s.motRest m then s.set (MOT_AX_STAT_CMDREJ m) 1
    else plain
  else s.writeFields (0x2000B00000 + o) v

/-- A register of the encoders; with the barrier link down nothing arrives. -/
def State.writeEnc (s : State) (o v : Nat) : State :=
  if s.rst.barrierDown then s
  else
    let e := (o - 0x100) / 0x40
    if 0x100 ≤ o ∧ o < 0x280 ∧ o % 0x40 = 0 then s.encCtlWrite e v
    else if 0x100 ≤ o ∧ o < 0x280 ∧ o % 0x40 = 4 then s.encWrite e v
    else s.writeFields (0x2000C00000 + o) v

/-- A register of calibration. -/
def State.writeCal (s : State) (o v : Nat) : State :=
  if o = 8 then
    let t := if bit v 0 then s.calRestart else s
    if bit v 1 then t.trimSave else t
  else if 0x100 ≤ o ∧ isAssigned (0x2000D00000 + o) then s.calWrite (0x2000D00000 + o) v
  else s.writeFields (0x2000D00000 + o) v

/-! ### Faults, chronograph, NV store, host, DRAM, ports, split (R561, R564 to R569, R579, R588 to R592, R597 to R600, R611,
R612, R238, R246) -/

/-- A register of the fault collector. Of several command bits in one write DISARM acts before ARM, RELEASE before ASSERT. -/
def State.writeFlt (s : State) (o v : Nat) : State :=
  let plain := s.writeFields (0x2000E00000 + o) v
  match o with
  | 0x8 =>
    let t := if bit v 1 then plain.hackRelease else plain
    if bit v 0 then t.hackCmd else t
  | 0x24 => if bit v 0 then s.captureClear else s
  | 0x30 =>
    let t := if bit v 30 then s.injDisarm else s
    if bit v 31 then t.injArm v else t.writeFields (0x2000E00000 + o) v
  | _ => if 0x140 ≤ o then plain.refreshLine 0 else plain

/-- A register of the chronograph. -/
def State.writeChr (s : State) (o v : Nat) : State :=
  if o = 0x18 then s.swRec v
  else
    let t := s.writeFields (0x2000F00000 + o) v
    if o = 0 then t.chrUsable else t

/-- A register of the host port. -/
def State.writeHost (s : State) (o v : Nat) : State :=
  let plain := s.writeFields (0x2001100000 + o) v
  if 0x100 ≤ o ∧ o < 0x180 then
    let ch := (o - 0x100) / 0x20
    if o % 0x20 = 0 then
      let t := if bit v 30 then s.dmaCut ch else s
      if bit v 31 then t.dmaGo ch v else t.set (HP_DMA_CTL_DIR ch) (bits v 0 0)
    else if o % 0x20 = 0x18 then plain.refreshLine (30 + ch)
    else plain
  else plain

/-- A register of the DRAM controller. -/
def State.writeDrc (s : State) (o v : Nat) : State :=
  if o = 0 then (s.set DRC_CFG_LECC (bits v 0 0)).setIecc (bits v 1 1)
  else s.writeFields (0x2001200000 + o) v

/-- A write of LP_CTL_nn (R238, R246): EN set while LALM is asserted raises the alarm, EN cleared ends both sources. -/
def State.lpCtlWrite (s : State) (n v : Nat) : State :=
  if s.armedOrExpose then s.set (LP_STAT_WERR n) 1
  else
    let was := s.flag (LP_CTL_EN n)
    let t := s.writeFields (0x2001300000 + 0x10 * n) v
    let u := if bit v 0 && !was && t.flag (LP_STAT_ALM n) then (t.set (LP_STAT_ALMSEEN n) 1).raise (laserSrc n 0)
      else if !bit v 0 && was then (t.lower (laserSrc n 0)).lower (laserSrc n 1)
      else t
    u.portRefresh n

/-- A register of the laser ports. -/
def State.writePorts (s : State) (o v : Nat) : State :=
  if o < 0x180 ∧ o % 0x10 = 0 then s.lpCtlWrite (o / 0x10) v
  else if o = 0x204 ∧ s.armedOrExpose then s.set (LP_STAT_WERR 0) 1
  else
    let t := s.writeFields (0x2001300000 + o) v
    if o = 0x200 ∧ bit v 7 then t.ilkClear else t

/-- A register of the split block. -/
def State.writeSpl (s : State) (o v : Nat) : State :=
  if o = 4 then
    let t := if bit v 1 then s.splitClear else s
    if bit v 0 then t.splitTrigger false else t
  else s.writeFields (0x2001400000 + o) v

/-! ### The register space -/

/-- A write of the word `v` to the register at `a` by master `m`. -/
def State.regWrite (s : State) (m a v : Nat) : State :=
  let o := a - 0x2000000000
  if a < 0x2000100000 then s.writeSys m o v
  else if a < 0x2000280000 then
    let n := (a - 0x2000100000) / 0x10000
    let r := (a - 0x2000100000) % 0x10000
    if r < 0x400 then s.writeEsc n r v else s.writeTrj n r v
  else if a < 0x2000300000 then s.writeEscc (a - 0x2000280000) v
  else if a < 0x2000400000 then s.writeBrg (a - 0x2000300000) v
  else if a < 0x2000500000 then s.writeDial (a - 0x2000400000) v
  else if a < 0x2000600000 then
    let n := (a - 0x2000500000) / 0x1000
    if n < 24 then s.writeReg n ((a - 0x2000500000) % 0x1000) v else s
  else if a < 0x2000700000 then s.writeBal (a - 0x2000600000) v
  else if a < 0x2000800000 then
    let n := (a - 0x2000700000) / 0x1000
    if n < 24 then s.writeHl n ((a - 0x2000700000) % 0x1000) v else s
  else if a < 0x2000900000 then s.writeSkz (a - 0x2000800000) v
  else if a < 0x2000A00000 then s.writeImg (a - 0x2000900000) v
  else if a < 0x2000B00000 then s.writeIll (a - 0x2000A00000) v
  else if a < 0x2000C00000 then s.writeMot (a - 0x2000B00000) v
  else if a < 0x2000D00000 then s.writeEnc (a - 0x2000C00000) v
  else if a < 0x2000E00000 then s.writeCal (a - 0x2000D00000) v
  else if a < 0x2000F00000 then s.writeFlt (a - 0x2000E00000) v
  else if a < 0x2001000000 then s.writeChr (a - 0x2000F00000) v
  else if a < 0x2001100000 then s.writeFields a v
  else if a < 0x2001200000 then s.writeHost (a - 0x2001100000) v
  else if a < 0x2001300000 then s.writeDrc (a - 0x2001200000) v
  else if a < 0x2001400000 then s.writePorts (a - 0x2001300000) v
  else s.writeSpl (a - 0x2001400000) v

end Sys2Proof.Machine
end

