-- ==== Sys2Proof/Machine/Access.lean ====
section
/-! DEFINITION. Bus accesses (R4, R18, R24 to R31): writes, the fabric window, the host's BARs (R594), DMA transfers (R597),
requests of fabric peers (R417), loads and stores of escapements (R120, R162). -/
namespace Sys2Proof.Machine

/-! ### Writes -/

/-- Some 64-bit word is written in part (R28). -/
def narrow (a n : Nat) : Bool := a % 8 != 0 || n % 8 != 0

/-- Bytes from address `a`, cut at multiples of 8. -/
def split8 : Nat → List Byte → List (Nat × List Byte)
  | _, [] => []
  | a, b :: t =>
    match split8 (a + 1) t with
    | (a', l) :: r => if a' / 8 = a / 8 then (a, b :: l) :: r else (a, [b]) :: (a', l) :: r
    | [] => [(a, [b])]

/-- One word or part of a word of the data window written (R575, R639): whether without error. -/
def State.nvPart (s : State) (a : Nat) (l : List Byte) (e : Ecc) : Bool × State :=
  let part := narrow a l.length
  let (ok, t) := if part then s.nvEcc e else (true, s)
  if !ok then (false, t)
  else
    let w := a / 8 * 8
    let v := leNat ((List.range 8).map (fun i => if a - w ≤ i ∧ i < a - w + l.length then l.getD (i - (a - w)) 0 else t.nvByte (t.nvOfs w + i)))
    let u := t.nvWrite 0xFF w v .verified
    ((match u.resp with | some c => c.ok | none => false), u)

/-- Of a write whose read-modify-write met a double-bit error, the 64-bit words it covers whole are written and those it covers
in part keep their contents (R28; log entry 121). -/
def State.storeWhole (s : State) (a : Nat) (l : List Byte) : State :=
  ((split8 a l).filter (fun w => w.2.length == 8)).foldl (fun t w => t.store w.1 w.2) s

/-- A write of bytes by master `m` at an address outside the fabric window: whether without error (R24, R28). While a clear
runs, writes of dial memory are discarded (R264); the boot ROM ignores writes. A block held in reset answers with an error at its
registers; its memory is not its registers and answers (log entry 122). -/
def State.localWrite (s : State) (m a : Nat) (l : List Byte) (e : Ecc) : Bool × State :=
  let n := l.length
  if !s.sysLive then (false, s)
  else match s.region a with
  | .reg => if regAccessOk a n && !s.blockHeld a then (true, s.regWrite m a (leNat l)) else (false, s)
  | .dram | .dialMem | .progMem | .lineBuf =>
    if !s.memSpan a n then (false, s)
    else if s.dial.clear.isSome && s.region a == .dialMem then (true, s)
    else
      let s1 := s.dramTouched a
      let s2 := if narrow a n then s1.eccEvent a e else s1
      if narrow a n && s.eccBad a e then (false, s2.storeWhole a l)
      else (true, s2.store a l)
  | .rom => (s.inRegion .rom a n, s)
  | .nvData =>
    if s.inRegion .nvData a n && s.nvLive then
      (split8 a l).foldl (fun (p : Bool × State) w => let (ok, t) := p.2.nvPart w.1 w.2 e; (p.1 && ok, t)) (true, s)
    else (false, s)
  | .fabric | .unmapped => (false, s)

/-! ### Accesses -/

/-- An access outside the fabric window, made for master `m` (R17): whether without error, and the data read. -/
def State.localAccess (s : State) (m a : Nat) (acc : Access) (e : Ecc) : (Bool × Nat) × State :=
  let q := { s with req := some m }
  match acc with
  | .read n => match q.localRead m a n e with
    | (some v, t) => ((true, v), t)
    | (none, t) => ((false, 0), t)
  | .write l => let (ok, t) := q.localWrite m a l e; ((ok, 0), t)

/-- Bytes of an access. -/
def accLen : Access → Nat
  | .read n => n
  | .write l => l.length

/-- An access of master `m` (R24, R31): its answer, none where it has gone into the fabric. -/
def State.access (s : State) (m a : Nat) (acc : Access) (e : Ecc) : Option (Bool × Nat) × State :=
  let q := { s with req := some m }
  if s.region a ≠ .fabric then let (r, t) := s.localAccess m a acc e; (some r, t)
  else if s.ownSlot a then let (r, t) := s.localAccess m (s.remoteAddr a) acc e; (some r, t)
  else if accLen acc = 0 ∨ !s.slotAssigned a ∨ !s.skLive then (some (false, 0), q)
  else match acc with
    | .read n => (none, q.remoteStart m a false n [])
    | .write l => (none, q.remoteStart m a true l.length l)

/-- Whether an access writes. -/
def accWrites : Access → Bool
  | .read _ => false
  | .write _ => true

/-- An access with its answer at its master (R24): a host write's error is dropped and logged. -/
def State.busAccess (s : State) (m a : Nat) (acc : Access) (e : Ecc) : State :=
  match s.access m a acc e with
  | (none, t) => t
  | (some (ok, v), t) => (if m = 4 ∧ accWrites acc ∧ !ok then t.hostDropped a else t).reply m ok v

/-! ### Host (R594, R597, R598) -/

/-- A memory request of the host through BAR0 (false) or BAR2 (true), as master 0x04. -/
def State.hostRequest (s : State) (bar : Bool) (off : Nat) (acc : Access) (e : Ecc) : State :=
  if !s.hostLive || !s.flag HP_STAT_LINKUP then s
  else s.busAccess 4 (if bar then s.get HP_WIN_BASE * 2 ^ 32 + off else 0x2000000000 + off % 2 ^ 25) acc e

/-- One piece of a transfer into the T24: the address of its failure, if it fails. -/
def State.dmaPut (s : State) (e : Ecc) (a : Nat) (l : List Byte) : Option Nat × State :=
  match s.access 4 (a % 2 ^ 40) (.write l) e with
  | (some (false, _), t) => (some (a % 2 ^ 40), t)
  | (_, t) => (none, t)

/-- One piece of a transfer out of the T24: its bytes, from the row's data where it lies behind the fabric window. -/
def State.dmaGet (s : State) (e : Ecc) (a n : Nat) (far : List Byte) : Option (List Byte) × State :=
  let w := a % 2 ^ 40
  if s.region w = .fabric ∧ !s.ownSlot w then (if s.slotAssigned w then some (far.take n) else none, s)
  else match s.access 4 w (.read n) e with
    | (some (true, v), t) => (some (leBytes v n), t)
    | (_, t) => (none, t)

/-- The last write of a transfer completes (R597), or an error on the T24 side stops it (R598). -/
def State.dmaDone (s : State) (ch : Nat) (data : List Byte) (e : Ecc) : State :=
  let len := s.get (HP_DMA_LEN_VALUE ch)
  let ta := s.pair (HP_DMA_TADDR_LO_ADDR ch) (HP_DMA_TADDR_HI_ADDR ch)
  let ha := s.pair (HP_DMA_HADDR_LO_ADDR ch) (HP_DMA_HADDR_HI_ADDR ch)
  let out := s.flag (HP_DMA_CTL_DIR ch)
  if !s.hostLive || !s.flag (HP_DMA_STAT_BUSY ch) || (!out && decide (data.length < len)) then s
  else
    let parts := split8 ta ((if out then List.replicate len 0 else data).take len)
    let (bad, got, t) := parts.foldl (fun (p : Option Nat × (List Byte × State)) w =>
      match p with
      | (some x, q) => (some x, q)
      | (none, (l, u)) =>
        if out then
          match u.dmaGet e w.1 w.2.length (data.drop (w.1 - ta)) with
          | (some b, u1) => (none, (l ++ b, u1))
          | (none, u1) => (some (w.1 % 2 ^ 40), (l, u1))
        else let (x, u1) := u.dmaPut e w.1 w.2; (x, (l, u1))) (none, ([], s))
    let t1 := if got.isEmpty then t else t.emit (.hostWrite ha got)
    if !t1.flag (HP_DMA_STAT_BUSY ch) then t1
    else match bad with
      | some x => t1.dmaFail ch false x
      | none => ((t1.set (HP_DMA_STAT_BUSY ch) 0).set (HP_DMA_STAT_DONE ch) 1).refreshLine (30 + ch)

/-! ### Requests of fabric peers (R408, R417) -/

/-- A request that arrives: served as master 0x05, or passed on. No translated address reaches the window again (R31). -/
def State.skRequest (s : State) (write : Bool) (p : Nat) (h : LinkHead) (f : ReqFlit) (e : Ecc) : State :=
  let (t, ok) := s.skAccept p h 0
  if !ok then t
  else
    let n := h.arg.toNat
    let a := f.addr.toNat
    if h.dst.val = t.skAddr then
      if n = 0 ∨ 32 < n then t
      else
        let acc := if write then Access.write ((f.data ++ List.replicate 32 0).take n) else Access.read n
        let (r, u) := t.localAccess 5 a acc e
        let st := if r.1 then 0 else 1
        if u.skLive then
          u.skUnicast 1 (if write then 0x13 else 0x12) h.src.val h.tag.toNat 0
            (if write || !r.1 then [st] else st :: (leBytes r.2 n).map BitVec.toNat)
        else u
    else t.skForward h 0 (if write then 0x11 else 0x10) (a :: (if write then f.data.map BitVec.toNat else []))

/-! ### Loads and stores (R120, R121, R161, R162) -/

/-- The answer of a load or store of escapement `n`: none while it is on its way through the fabric. -/
def State.escAnswer (s : State) (n : Nat) (m : MemReq) (write : Bool) (e : Ecc) : Option ((Bool × Nat) × State) :=
  match m.answer with
  | some r => some (r, s)
  | none =>
    if s.region m.addr = .fabric ∧ !s.ownSlot m.addr then
      if s.skz.reqs.any (fun r => r.master == 0x10 + n && r.write == write && r.win == m.addr) then none else some ((false, 0), s)
    else
      let a := if s.region m.addr = .fabric then s.remoteAddr m.addr else m.addr
      some (s.localAccess (0x10 + n) a (if write then .write (leBytes m.data 4) else .read 4) e)

/-- The data of an LD returns (R120), after every store posted before it to the same target (R20): it is written and issue goes
on, or LOAD is raised. -/
def State.loadDone (s : State) (n : Nat) (e : Ecc) : State :=
  match (s.esc n).load with
  | none => s
  | some m =>
    if s.escState n ≠ 3 ∨ s.heldInReset n ∨ (s.esc n).stores.any (fun q => s.target q.addr == s.target m.addr) then s
    else match s.escAnswer n m false e with
      | none => s
      | some ((ok, v), t) =>
        if (t.esc n).load.isNone then t
        else if !ok then t.trap n exLoad 0 m.pc m.addr m.word
        else
          let t1 := (if m.toF then t.setF n m.data v else t.setG n m.data v).modEsc n (fun x => { x with load := none })
          let t2 := t1.setPc n (m.pc + m.len)
          if (t2.esc n).stepping then t2.endStep n m.pc m.word else t2

/-- A store of escapement `n` has failed (R162): the exception waits for the segments enqueued; it is dropped after a STOP,
and sets TRAPOVF in TRAPPED and FROZEN. -/
def State.storeFail (s : State) (n : Nat) (m : MemReq) : State :=
  let st := s.escState n
  if m.silent then s
  else if st = 6 ∨ st = 7 ∨ (s.esc n).storeTrap.isSome then s.set (ESC_STAT_TRAPOVF n) 1
  else if st = 3 ∨ st = 4 then
    let t := if st = 4 then (s.withdraw n).leaveClaims n else s
    (t.modEsc n (fun x => { x with wait := none, load := none, storeTrap := some m })).storeCheck n
  else s

/-- Store `i` of escapement `n` has its answer, and none before it goes to the same target (R20). -/
def State.storeReady (s : State) (n i : Nat) : Bool :=
  match (s.esc n).stores[i]? with
  | some m => (s.escAnswer n m true .clean).isSome && ((s.esc n).stores.take i).all (fun q => s.target q.addr != s.target m.addr)
  | none => false

/-- The oldest posted store that may complete does (R120, R139). -/
def State.storeDone (s : State) (n : Nat) (e : Ecc) : State :=
  match (List.range (s.esc n).stores.length).find? (s.storeReady n) with
  | none => s
  | some i =>
    match (s.esc n).stores[i]? with
    | none => s
    | some m =>
      let t := s.modEsc n (fun x => { x with stores := x.stores.eraseIdx i })
      match t.escAnswer n m true e with
      | none => s
      | some ((ok, _), u) => if ok then u else u.storeFail n m

end Sys2Proof.Machine
end

