-- ==== Sys2Proof/Machine/Settle.lean ====
section
/-! DEFINITION. The end of a command: the writes of imaging and capture (R18), forced Halted (R49, R50), then the reactions through other blocks, then the reads
of the snapshot sets of new records (R580). -/
namespace Sys2Proof.Machine

/-- The snapshot set of the oldest record that still waits for it is read (R580). -/
def State.snapFill (s : State) : State :=
  match s.flt.queue.findIdx? (fun (r : ChrRec) => !r.todo.isEmpty) with
  | none => s
  | some i =>
    match s.flt.queue[i]? with
    | none => s
    | some r =>
      let s1 := { s with flt := { s.flt with queue := s.flt.queue.set i { r with todo := [] } } }
      let (vs, s2) := r.todo.foldl (fun (p : List Nat × State) o =>
        let (v, t) := p.2.snapRead (0x2000000000 + o); (p.1 ++ [v], t)) ([], s1)
      { s2 with flt := { s2.flt with queue := s2.flt.queue.set i { r with todo := [], snaps := r.snaps ++ vs } } }

/-- The write of a kind has ended at its block (R24): a frame or tap, a melt-pool record, a record of a capture channel. -/
def State.ownEnded (s : State) (kind : Nat) (ok : Bool) : State :=
  if kind = 0 then if ok then s else s.pulse 0x02C
  else if kind = 1 then s.mprEnded ok
  else s.capEnded (kind - 2) ok

/-- A write of imaging (master 0x06) or capture (master 0x07) reaches its target, or the fabric (R18). -/
def State.ownWrite (s : State) (w : OwnWrite) : State :=
  match w with
  | .ended k ok => s.ownEnded k ok
  | .issue k a l e =>
    match s.access (if k < 2 then 6 else 7) a (.write l) e with
    | (some (ok, _), t) => t.ownEnded k ok
    | (none, t) => t.remoteOwn k

/-- Nothing is left to do. -/
def State.quiet (s : State) : Bool :=
  s.own.isEmpty && s.flt.todo.isEmpty && s.flt.force.isEmpty && s.flt.queue.all (fun (r : ChrRec) => r.todo.isEmpty)

/-- One round: the blocks' own writes, then Halted, then the reactions, then one record's reads. -/
def State.settleOnce (s : State) : State :=
  let t := s.own.foldl State.ownWrite { s with own := [] }
  let s1 := { t with flt := { t.flt with todo := [], force := [] } }
  let s2 := if t.flt.force.isEmpty then s1 else s1.forceHalted t.flt.force
  (t.flt.todo.foldl State.react s2).snapFill

/-- At most `n` rounds. -/
def State.settleN : Nat → State → State
  | 0, s => s
  | n + 1, s => if s.quiet then s else State.settleN n s.settleOnce

/-- From the arming beat until Armed, an enabled escapement that is IDLE or HALTED arms (R55). -/
def State.armingGoesOn (s : State) : State := if s.mode.armed && s.mode.trans.isSome then s.armAll else s

/-- What the assertions of a command set off (the queue of 32 records bounds the rounds, log entry 41), and the arming that
goes on. -/
def State.settle (s : State) : State := (s.settleN 64).armingGoesOn

end Sys2Proof.Machine
end

