-- ==== Sys2Proof/Machine/BalFamily.lean ====
section
/-! DEFINITION. The balance engine as rows (R321 to R345). -/
namespace Sys2Proof.Machine

/-- R323: the jobs of a head are dispatched. -/
def execJobDispatch (head : Unit24) (s : State) : Host.Outcome State Fault Refusal :=
  .next ((s.begin.jobDispatch head.val).hlPmUpdate head.val).settle
/-- R323: the commands of a head are released. -/
def execCommandRelease (head : Unit24) (s : State) : Host.Outcome State Fault Refusal :=
  .next (s.begin.commandRelease head.val).settle
/-- R327: servo instruction, OP 0x0. -/
def execBalNop (ax : Axis72) (pc : BitVec 12) (s : State) : Host.Outcome State Fault Refusal :=
  .next (s.begin.balOp 0 ax.val pc.toNat).settle
/-- R327: servo instruction, OP 0x1. -/
def execBalFma (ax : Axis72) (pc : BitVec 12) (s : State) : Host.Outcome State Fault Refusal :=
  .next (s.begin.balOp 1 ax.val pc.toNat).settle
/-- R327: servo instruction, OP 0x2. -/
def execBalFms (ax : Axis72) (pc : BitVec 12) (s : State) : Host.Outcome State Fault Refusal :=
  .next (s.begin.balOp 2 ax.val pc.toNat).settle
/-- R327: servo instruction, OP 0x3. -/
def execBalMulr (ax : Axis72) (pc : BitVec 12) (s : State) : Host.Outcome State Fault Refusal :=
  .next (s.begin.balOp 3 ax.val pc.toNat).settle
/-- R327: servo instruction, OP 0x4. -/
def execBalAdd (ax : Axis72) (pc : BitVec 12) (s : State) : Host.Outcome State Fault Refusal :=
  .next (s.begin.balOp 4 ax.val pc.toNat).settle
/-- R327: servo instruction, OP 0x5. -/
def execBalSub (ax : Axis72) (pc : BitVec 12) (s : State) : Host.Outcome State Fault Refusal :=
  .next (s.begin.balOp 5 ax.val pc.toNat).settle
/-- R327: servo instruction, OP 0x6. -/
def execBalMin (ax : Axis72) (pc : BitVec 12) (s : State) : Host.Outcome State Fault Refusal :=
  .next (s.begin.balOp 6 ax.val pc.toNat).settle
/-- R327: servo instruction, OP 0x7. -/
def execBalMax (ax : Axis72) (pc : BitVec 12) (s : State) : Host.Outcome State Fault Refusal :=
  .next (s.begin.balOp 7 ax.val pc.toNat).settle
/-- R327: servo instruction, OP 0x8. -/
def execBalClmp (ax : Axis72) (pc : BitVec 12) (s : State) : Host.Outcome State Fault Refusal :=
  .next (s.begin.balOp 8 ax.val pc.toNat).settle
/-- R327: servo instruction, OP 0x9. -/
def execBalSel (ax : Axis72) (pc : BitVec 12) (s : State) : Host.Outcome State Fault Refusal :=
  .next (s.begin.balOp 9 ax.val pc.toNat).settle
/-- R337: servo instruction, OP 0xa. -/
def execBalTbl (ax : Axis72) (pc : BitVec 12) (s : State) : Host.Outcome State Fault Refusal :=
  .next (s.begin.balOp 10 ax.val pc.toNat).settle
/-- R327: servo instruction, OP 0xb. -/
def execBalSgn (ax : Axis72) (pc : BitVec 12) (s : State) : Host.Outcome State Fault Refusal :=
  .next (s.begin.balOp 11 ax.val pc.toNat).settle
/-- R324: servo telemetry loss. -/
def execTelemetryLoss (head : Unit24) (s : State) : Host.Outcome State Fault Refusal :=
  .next (s.begin.telemetryLoss head.val).settle
/-- R340: servo tracking. -/
def execServoTracking (ax : Axis72) (s : State) : Host.Outcome State Fault Refusal :=
  .next (s.begin.servoTracking ax.val).settle
/-- R332: a move ends. -/
def execApproachEnd (ax : Axis72) (s : State) : Host.Outcome State Fault Refusal :=
  .next (s.begin.approachEnd ax.val).settle
/-- R333: CLOSE. -/
def execAxisClose (ax : Axis72) (s : State) : Host.Outcome State Fault Refusal :=
  .next (s.begin.axClose ax.val).settle
/-- R333: OPEN. -/
def execAxisOpen (ax : Axis72) (s : State) : Host.Outcome State Fault Refusal :=
  .next (s.begin.axOpen ax.val).settle
/-- R334: a write of BAL_SWAP_0w. -/
def execSwapRequest (w : Fin 3) (v : Word) (s : State) : Host.Outcome State Fault Refusal :=
  .next (s.begin.swapRequest w.val v.toNat).settle
/-- R321: a write of BAL_CTL. -/
def execRateWrite (v : Word) (s : State) : Host.Outcome State Fault Refusal :=
  .next (s.begin.rateWrite v.toNat).settle
/-- R342: RUN with the word written to BAL_INJCTL. -/
def execInjectionRun (g : Fin 4) (v : Word) (s : State) : Host.Outcome State Fault Refusal :=
  .next (s.begin.injRun g.val v.toNat).settle
/-- R342: STOP of a generator. -/
def execInjectionStop (g : Fin 4) (s : State) : Host.Outcome State Fault Refusal :=
  .next (s.begin.genStop g.val).settle
/-- R345: START with the word written to BAL_CAPCTL. -/
def execCaptureStart (c : Fin 4) (v : Word) (s : State) : Host.Outcome State Fault Refusal :=
  .next (s.begin.capStart c.val v.toNat).settle
/-- R345: STOP of a channel. -/
def execCaptureStop (c : Fin 4) (s : State) : Host.Outcome State Fault Refusal :=
  .next (s.begin.capStop c.val).settle
/-- R345: the write of a record completes. -/
def execCaptureWriteComplete (c : Fin 4) (ecc : Ecc) (s : State) : Host.Outcome State Fault Refusal :=
  .next (s.begin.capWrite c.val ecc).settle

end Sys2Proof.Machine
end

