-- ==== Sys2Proof/Machine/EscTimeline.lean ====
section
/-! DEFINITION. The trajectory timeline of an escapement (R76, R140 to R142, R189 to R197, R235): the commit and the end of a
segment, the end of a drain, stops and returns, the restart. -/
namespace Sys2Proof.Machine

/-- A gate edge of laser-on timing (R235), in Expose only (R160). -/
def State.stretchEdge (s : State) (n beat : Nat) (delay : Int) (level : Bool) : State :=
  if s.dry then s else s.placeEdge n (edgeTime beat delay) level

/-- The first segment of the queue may start now (R140, R141, R284): RUN, WAIT, or TRAPPED with segments to run out; the
timeline idle and restarted; a laser-on stretch in Expose has passed its evaluation 16 beats ago. -/
def State.mayCommit (s : State) (n : Nat) (g : Seg) : Bool :=
  let e := s.esc n
  let st := s.escState n
  (st == 3 || st == 4 || st == 6) && e.line == .idle &&
  (match e.restart with | some r => decide (r ≤ s.beat) | none => true) &&
  (s.dry || !g.kind.on || e.stretch.isSome ||
    (match e.hold with
     | some h => (match h.g with | some b => decide (max h.h (b + 16) ≤ s.beat) | none => false)
     | none => false))

/-- A laser-on segment starts behind its hold point: the stretch takes the boxes of the evaluation (R307, R308). -/
def EscSt.enterStretch (e : EscSt) : EscSt :=
  match e.hold with
  | none => e
  | some h =>
    { e with
      hold := none, box := h.box, resv := h.resv, resvEnd := none
      linger := match e.resv, e.resvEnd with | some r, some b => e.linger ++ [(r, b)] | _, _ => e.linger }

/-- The first segment of the queue starts on the timeline (R189, R97, R98, R195, R235). A laser-off one ends a stretch that an underrun
broke. -/
def State.segmentCommit (s0 : State) (n : Nat) : State :=
  match (s0.esc n).queue with
  | [] => s0
  | g :: rest =>
    if !s0.mayCommit n g then s0
    else
      let s := if !g.kind.on && (s0.esc n).stretch.isSome then s0.endStretch n else s0
      let e := s.esc n
      let l := s.limits n
      let zero := e.zeroPower g
      let (p, clamp) := e.planSeg l s.beat g rest zero e.wait.isSome
      let wclamp := g.kind.on && (wobbleAmp l g).2
      let s1 := if clamp || wclamp then s.set (ESC_SW_CLAMP n) 1 else s
      let pw := e.powerAt 0
      let e1 := if g.set.powNew then
          (if g.set.ramp = 0 then { e with pNow := (g.set.power : Rat), rampNow := none }
           else
             let p0 : Rat := match g.set.powBase with | some p => (p : Rat) | none => pw
             { e with pNow := p0, rampNow := some (p0, g.set.power, g.set.ramp, 0) })
        else e
      let pathAt := s.beat + p.pre
      let pathEnd := pathAt + p.pathBeats
      let e2 := { e1 with
        line := .seg p, restart := none, fresh := false
        junction := if e.prev = 1 && g.kind.on then some (e.dirX, e.dirY, pathAt) else none
        stretch := if g.kind.on && e.stretch.isNone then some s.beat else e.stretch }
      let s2 := s1.setEsc n (if g.kind.on && e.stretch.isNone then e2.enterStretch else e2)
      let s3 := if g.set.powNew then s2.loopRequest n g.set.loopReq else s2
      if !g.kind.on then s3
      else
        let s4 :=
          if !zero && !e.gateRun then
            let r := s3.reg n
            ((s3.stretchEdge n pathAt g.set.lon true).setReg n { r with ticks := none }).modEsc n (fun x => { x with gateRun := true })
          else if zero && e.gateRun then
            ((s3.stretchEdge n pathAt g.set.loff false).closeEvents n).modEsc n (fun x => { x with gateRun := false })
          else s3
        let ends := p.ranOut || (match rest with | x :: _ => !x.joins | [] => false)
        if (s4.esc n).gateRun && ends then
          (s4.stretchEdge n pathEnd g.set.loff false).modEsc n (fun x => { x with gateRun := false })
        else s4

/-- The segment that follows can be entered at the exit speed of the one that ended (R187, R196). -/
def continues (l : Limits) (g x : Seg) (v : Rat) : Bool :=
  x.kind.moves && x.joins && !splitsAt g x && decide (v ≤ g.junction x l)

/-- The first segment of the queue ends (R140, R142, R196, R106, R297). -/
def State.segmentEnd (s : State) (n : Nat) : State :=
  let e := s.esc n
  match e.line, e.queue with
  | .seg p, g :: rest =>
    if s.beat < p.start + p.beats ∨ !(s.escState n == 3 || s.escState n == 4 || s.escState n == 6) then s
    else
      let b := p.start + p.beats
      let q := p.sample b { x := e.px, y := e.py, z := e.pz }
      let on := g.kind.on
      let k := p.pathBeats
      let pEnd := e.powerAt k
      let l := s.limits n
      let next := rest.head?
      let goesOn := match next with | some x => continues l g x p.vExit | none => false
      let stops := decide (0 < p.vExit) && !goesOn
      let endsStretch := match next with | some x => !x.joins | none => s.escState n != 3 || e.storeTrap.isSome
      let breaks := on && (stops || p.ranOut || (match next with | some x => !x.joins | none => true))
      let w : Rat × Rat := if breaks then e.wobble l b else (0, 0)
      let e1 := { e with
        px := if stops then q.x else q.x + w.1, py := if stops then q.y else q.y + w.2, pz := q.z
        wobX := if stops then w.1 else 0, wobY := if stops then w.2 else 0
        v := p.vExit, dirX := p.dirX, dirY := p.dirY, dirZ := p.dirZ, line := .idle, idleAt := b
        prev := if on then (if p.ranOut then 2 else 1) else 0
        pNow := if on && g.pw != some 0 then pEnd else e.pNow
        rampNow := if on && g.pw != some 0 then (match e.rampNow with
          | some (p0, tgt, len, done) => if len ≤ done + k then none else some (p0, tgt, len, done + k)
          | none => none) else e.rampNow
        wobT := if on && !breaks then e.wobT + g.set.freq * 10 * k else 0
        env := if on && !breaks then wobbleEnv e g k k else 0
        float := match g.piece, e.float with
          | some (_, _, i), some f => some { f with open_ := f.open_.erase i }
          | _, f => f }
      let s1 := (s.setEsc n e1).setQueue n rest
      let s2 := { s1 with yieldDue := s1.yieldDue ++ g.yields.map (fun z => (n, z)) }
      let s3 := if breaks && e.gateRun then
          ((s2.stretchEdge n b g.set.loff false).closeEvents n).modEsc n (fun x => { x with gateRun := false })
        else if on && !(s2.esc n).gateRun then s2.closeEvents n else s2
      let under := next.isNone && s.escState n == 3 && e.storeTrap.isNone
      let s4 := if under then
          ((((((s3.set (ESC_SW_LATE n) 1).set (ESC_STAT_UNDERRUN n) 1).incWrap (ESC_UNDER_CNT_COUNT n)).set
            (ESC_INT_UNDER n) 1).escLine n).pulse (laserSrc n 3))
        else s3
      let s5 := if on && endsStretch then s4.endStretch n else s4
      let s6 := if stops then
          (s5.modEsc n (fun x =>
            { x with v := 0, line := .stop (stopPlan l b (x.px, x.py, x.pz) p.vExit x.dir) true })).countRetarget n
        else s5
      (s6.floatCheck n).storeCheck n
  | _, _ => s

/-- A retarget's stop has ended (R196, R197): the return starts at once, except after STOP. -/
def State.stopMotionEnd (s : State) (n : Nat) : State :=
  let e := s.esc n
  match e.line with
  | .stop p ret =>
    if s.beat < p.start + p.beats then s
    else
      let q := p.sample (p.start + p.beats) { x := e.px, y := e.py, z := e.pz }
      let e1 := { e with px := q.x + e.wobX, py := q.y + e.wobY, pz := q.z, wobX := 0, wobY := 0, v := 0, line := .idle, idleAt := p.start + p.beats }
      if ret then
        let (cx, cy, cz) : Int × Int × Int := match e.queue with | g :: _ => (g.x0, g.y0, g.z0) | [] => s.pxyz n
        let sp := match e.queue with | g :: _ => g.set.vJump | [] => e.set.vJump
        s.setEsc n { e1 with line := .ret (returnPlan (s.limits n) (p.start + p.beats) sp e1.px e1.py e1.pz cx cy cz) }
      else ((s.setEsc n e1).floatCheck n).storeCheck n
  | _ => s

/-- A return has reached the commanded end point (R197). -/
def State.returnEnd (s : State) (n : Nat) : State :=
  let e := s.esc n
  match e.line with
  | .ret p =>
    if s.beat < p.start + p.beats then s
    else
      let q := p.sample (p.start + p.beats) { x := e.px, y := e.py, z := e.pz }
      ((s.setEsc n { e with px := q.x, py := q.y, pz := q.z, line := .idle, idleAt := p.start + p.beats }).floatCheck n).storeCheck n
  | _ => s

/-- R189: a segment starts on the timeline. -/
def execSegmentCommit (n : Unit24) (s : State) : Host.Outcome State Fault Refusal := .next (s.begin.segmentCommit n.val).settle

/-- R140: a segment ends on the timeline. -/
def execSegmentEnd (n : Unit24) (s : State) : Host.Outcome State Fault Refusal := .next (s.begin.segmentEnd n.val).settle

/-- R76: every segment before a wait instruction has ended. -/
def execDrainEnd (n : Unit24) (s : State) : Host.Outcome State Fault Refusal :=
  let n := n.val
  let t := s.begin
  .next (match (t.esc n).wait with
    | some w => if !w.drained && (t.esc n).drainedNow && t.escState n == 4 then t.drainDone n else t
    | none => t).settle

/-- R196: a retarget's stop ends. -/
def execRetargetStopEnd (n : Unit24) (s : State) : Host.Outcome State Fault Refusal := .next (s.begin.stopMotionEnd n.val).settle

/-- R197: a return ends. -/
def execReturnEnd (n : Unit24) (s : State) : Host.Outcome State Fault Refusal := .next (s.begin.returnEnd n.val).settle

/-- R141: the timeline restarts on its beat; the segments enqueued may start from it on. -/
def execTimelineRestart (n : Unit24) (s : State) : Host.Outcome State Fault Refusal :=
  let n := n.val
  let t := s.begin
  .next (match (t.esc n).restart with
    | some r => if r ≤ t.beat then t.modEsc n (fun e => { e with restart := none }) else t
    | none => t).settle

end Sys2Proof.Machine
end

