-- ==== Sys2Proof/Machine/BridgeBeat.lean ====
section
/-! DEFINITION. Hold points and the bridge's beat (R283 to R286, R307, R308): the timeline of an escapement followed to the
hold point before its next laser-on stretch, the evaluation, the phases of one beat. -/
namespace Sys2Proof.Machine

/-- One event of the timeline of `n` ahead of time: the end of what runs, or the commit of the next segment. -/
def State.aheadStep (t : State) (n : Nat) : State :=
  match (t.esc n).line with
  | .seg p => ({ t with beat := p.start + p.beats }).segmentEnd n
  | .stop p _ => ({ t with beat := p.start + p.beats }).stopMotionEnd n
  | .ret p => ({ t with beat := p.start + p.beats }).returnEnd n
  | .idle => ({ t with beat := max t.beat ((t.esc n).restart.getD 0) }).segmentCommit n

/-- The hold point before the next laser-on stretch (R284), no later than `last`: its beat, and the machine as the timeline
stands there. -/
def State.holdAhead (last n : Nat) : Nat → State → Option (Nat × State)
  | 0, _ => none
  | k + 1, t =>
    let e := t.esc n
    match e.line with
    | .seg p => if last < p.start + p.beats then none else State.holdAhead last n k (t.aheadStep n)
    | .stop p _ => if last < p.start + p.beats then none else State.holdAhead last n k (t.aheadStep n)
    | .ret p => if last < p.start + p.beats then none else State.holdAhead last n k (t.aheadStep n)
    | .idle =>
      let h := max t.beat (e.restart.getD 0)
      match e.queue with
      | [] => none
      | g :: _ =>
        if last < h then none
        else if g.kind.on && e.stretch.isNone then some (h, { t with beat := h })
        else
          let u := t.aheadStep n
          if (u.esc n).line == .idle then none else State.holdAhead last n k u

/-- The stretch at the front of the queue is ready (R284): what ends it is there, or the queue is full; an escapement that has
left RUN issues nothing more. -/
def State.stretchReady (s : State) (n : Nat) (pend : List Seg) : Bool :=
  let e := s.esc n
  decide ((frontStretch pend).length < pend.length) || e.wait.isSome || s.escState n != 3 || decide (64 ≤ e.queue.length)

/-- The evaluation of a hold point reached on beat `h`, before the segments `pend` (R284, R285, R307, R308). -/
def State.evalHold (s : State) (n h : Nat) (pend : List Seg) : State :=
  let e := s.esc n
  let old : HoldSt := match e.hold with | some x => { x with h := h } | none => { h := h }
  if old.g.isSome then s.setEsc n { e with hold := some old }
  else
    let front := frontStretch pend
    let ready := s.stretchReady n pend
    let plate := stretchBox front (fun p => p)
    let gas := stretchBox front s.gas
    let zok := match plate with | some b => s.zoneRule n b | none => true
    let pok := match gas with | some b => s.plumeRule n b | none => true
    if ready && zok && pok then
      let len := max h (s.beat + 16) - h
      let resvs := s.liveFlag BRG_CTL_PLUMEEN && (s.live BRG_PMASK_MASK).testBit n
      let s1 := s.setEsc n
        { e with hold := some { old with g := some s.beat, box := plate, resv := if resvs then gas else none } }
      let s2 := (s1.addSat (BRG_HOLD_VALUE n) len).set BRG_RRPTR_PTR n
      if 0 < len ∧ !old.ruled then s2.incSat BRG_LATECNT_COUNT else s2
    else s.setEsc n { e with hold := some { old with ruled := old.ruled || (ready && !(zok && pok)) } }

/-- Phase 4 for one escapement (R284): a hold point is evaluated from 16 beats before the timeline reaches it. -/
def State.bridgeHold (s : State) (n : Nat) : State :=
  let e := s.esc n
  let st := s.escState n
  if !(st == 3 || st == 4 || st == 6) || s.dry then s
  else
    match e.line, e.stretch, e.queue, e.hold with
    | .idle, none, g :: r, some x =>
      if g.kind.on then s.evalHold n x.h (g :: r)
      else match State.holdAhead (s.beat + 16) n 48 s with
        | some (h, t) => s.evalHold n h (t.esc n).waitingSegs
        | none => s
    | _, _, _, _ =>
      match State.holdAhead (s.beat + 16) n 48 s with
      | some (h, t) => s.evalHold n h (t.esc n).waitingSegs
      | none => s

/-- One beat of the bridge (R281, R283). -/
def State.bridgeBeat (s : State) : State :=
  if s.modeCode ≠ mExpose ∨ s.heldInReset 128 then s
  else
    let order := rrOrder (s.get BRG_RRPTR_PTR)
    order.foldl State.bridgeHold (order.foldl State.bridgeDraw (s.bridgeReleases.bridgeGrants order))

end Sys2Proof.Machine
end

