-- ==== Sys2Proof/Machine/BridgeFamily.lean ====
section
/-! DEFINITION. The bridge as rows (R283 to R308). -/
namespace Sys2Proof.Machine

/-- R283: one beat of the bridge. -/
def execBridgeBeat (s : State) : Host.Outcome State Fault Refusal := .next s.begin.bridgeBeat.settle
/-- R301: a pool record arrives. -/
def execPoolRecordArrive (n : Unit24) (ecc : Ecc) (s : State) : Host.Outcome State Fault Refusal :=
  .next (s.begin.recordArrive n.val ecc).settle
/-- R286: a hold has lasted HOLDTO. -/
def execHoldTimeout (n : Unit24) (s : State) : Host.Outcome State Fault Refusal := .next (s.begin.holdTimeout n.val).settle
/-- R308: a reservation's linger has passed. -/
def execReservationExpire (n : Unit24) (s : State) : Host.Outcome State Fault Refusal := .next (s.begin.expireResv n.val).settle

end Sys2Proof.Machine
end

