-- ==== Sys2Proof/Machine/BusFamily.lean ====
section
/-! DEFINITION. Bus accesses as rows (R4 to R9, R24 to R31, R120, R417). -/
namespace Sys2Proof.Machine

/-- R6: a register write. -/
def execRegisterWrite (m : Master) (a : Addr) (v : Word) (s : State) : Host.Outcome State Fault Refusal :=
  .next (s.begin.busAccess m.toNat a.toNat (.write (leBytes v.toNat 4)) .clean).settle
/-- R7: a register read: RC fields clear. -/
def execRcRead (m : Master) (a : Addr) (s : State) : Host.Outcome State Fault Refusal :=
  .next (s.begin.busAccess m.toNat a.toNat (.read 4) .clean).settle
/-- R5: a read of a _LO register: its _HI is latched for the master. -/
def execLoReadLatch (m : Master) (a : Addr) (s : State) : Host.Outcome State Fault Refusal :=
  .next (s.begin.busAccess m.toNat a.toNat (.read 4) .clean).settle
/-- R28: an access of memory under its check bits. -/
def execMemoryAccess (m : Master) (a : Addr) (acc : Access) (ecc : Ecc) (s : State) : Host.Outcome State Fault Refusal :=
  .next (s.begin.busAccess m.toNat a.toNat acc ecc).settle
/-- R417: an access of the fabric window. -/
def execFabricWindowAccess (m : Master) (a : Addr) (acc : Access) (s : State) : Host.Outcome State Fault Refusal :=
  .next (s.begin.busAccess m.toNat a.toNat acc .clean).settle
/-- R418: no response within 10 µs. -/
def execRemoteTimeout (tag : Fin 256) (s : State) : Host.Outcome State Fault Refusal := .next (s.begin.pieceTimeout tag.val).settle
/-- R120: the data of an LD returns. -/
def execLoadComplete (nn : Unit24) (ecc : Ecc) (s : State) : Host.Outcome State Fault Refusal :=
  .next (s.begin.loadDone nn.val ecc).settle
/-- R120: a posted store completes. -/
def execStoreComplete (nn : Unit24) (ecc : Ecc) (s : State) : Host.Outcome State Fault Refusal :=
  .next (s.begin.storeDone nn.val ecc).settle

end Sys2Proof.Machine
end

