-- ==== Sys2Proof/Machine/CalControl.lean ====
section
/-! DEFINITION. Calibre's control instructions that take effect at issue: BR, CALL, RET, LOOP (R111 to R114). -/
namespace Sys2Proof.Machine

/-- The layout of BR and CALL is broken (R111). -/
def branchIllegal (w : Nat) (call : Bool) : Bool :=
  isLong w || (call && dirty w 55 52) || dirty w 51 47 || dirty w 41 32 || (if bit w 56 then dirty w 31 0 else dirty w 46 42)

/-- The target of BR and CALL (R111), none where it raises ALIGN, with the offending target. -/
def State.branchTarget (s : State) (n pc w : Nat) : Except Nat Nat :=
  if bit w 56 then
    let g := s.g n (bits w 46 42)
    let a := (s.pbase n + g) % 2 ^ 40
    if g % 8 = 0 then .ok a else .error a
  else .ok (branchTo pc (bits w 31 0))

/-- R111: BR. An indirect target that is no multiple of 8 raises ALIGN whether the branch is taken or not. -/
def execBr (n : Unit24) (b : BitVec 58) (s : State) : Host.Outcome State Fault Refusal :=
  let n := n.val
  let w := wordOf b
  .next (s.begin.issue n (instrWords 0x28 w 0) (branchIllegal w false) (fun t =>
    match t.branchTarget n (s.pc n) w with
    | .error a => .exc exAlign a
    | .ok a => .ok (if t.condHolds n (bits w 55 52) then t.setPc n a else t))).settle

/-- R111: CALL. -/
def execCall (n : Unit24) (b : BitVec 58) (s : State) : Host.Outcome State Fault Refusal :=
  let n := n.val
  let w := wordOf b
  .next (s.begin.issue n (instrWords 0x29 w 0) (branchIllegal w true) (fun t =>
    match t.branchTarget n (s.pc n) w with
    | .error a => .exc exAlign a
    | .ok a =>
      let d := t.get (ESC_SW_DEPTH n)
      if 16 ≤ d then .exc exStack 0
      else .ok (((t.setPair (ESC_RSTK_LO_VALUE n d) (ESC_RSTK_HI_VALUE n d) ((s.pc n + 8) % 2 ^ 40)).set (ESC_SW_DEPTH n) (d + 1)).setPc
        n a))).settle

/-- R113: RET. -/
def execRet (n : Unit24) (b : BitVec 58) (s : State) : Host.Outcome State Fault Refusal :=
  let n := n.val
  let w := wordOf b
  .next (s.begin.issue n (instrWords 0x2A w 0) (dirty w 57 0) (fun t =>
    let d := t.get (ESC_SW_DEPTH n)
    if d = 0 then .exc exStack 0
    else
      let a := t.pair (ESC_RSTK_LO_VALUE n (d - 1)) (ESC_RSTK_HI_VALUE n (d - 1))
      .ok (((t.setPair (ESC_RSTK_LO_VALUE n (d - 1)) (ESC_RSTK_HI_VALUE n (d - 1)) 0).set (ESC_SW_DEPTH n) (d - 1)).setPc n a))).settle

/-- R114: LOOP. -/
def execLoop (n : Unit24) (b : BitVec 58) (s : State) : Host.Outcome State Fault Refusal :=
  let n := n.val
  let w := wordOf b
  let c := bits w 46 42
  .next (s.begin.issue n (instrWords 0x2B w 0) (isLong w || dirty w 56 47 || dirty w 41 32) (fun t =>
    if c = 0 then .exc exOperand 0
    else
      let r := (t.g n c + 2 ^ 32 - 1) % 2 ^ 32
      let t1 := t.setG n c r
      .ok (if r = 0 then t1 else t1.setPc n (branchTo (s.pc n) (bits w 31 0))))).settle

end Sys2Proof.Machine
end

