-- ==== Sys2Proof/Machine/CalData.lean ====
section
/-! DEFINITION. Calibre's data instructions (R118 to R126) and DIALQ (R108). -/
namespace Sys2Proof.Machine

/-! ### ALU (R123) -/

/-- FN names another instruction of the opcode than the row's, among the `used` codes in use: this row is not the instruction
of the word. -/
def fnOther (w fn used : Nat) : Bool := bits w 55 52 != fn && decide (bits w 55 52 < used)

/-- The ALU's second operand: IMM with I set, else g[RB]. -/
def State.aluB (s : State) (n w : Nat) : Nat := if bit w 56 then bits w 31 0 else s.g n (bits w 41 37)

/-- The ALU layout is broken (R81, R123): L, reserved bits, a reserved FN, RB with I set, IMM with I clear, and
`noRd`: RD must be 0. -/
def aluIllegal (w fn : Nat) (noRd : Bool) : Bool :=
  isLong w || dirty w 36 32 || bits w 55 52 != fn || (if bit w 56 then dirty w 41 37 else dirty w 31 0) ||
  (noRd && dirty w 51 47)

/-- An ALU instruction: result and flags C and V of `f a b`; the result is written unless `noRd`. -/
def State.alu (s : State) (n : Nat) (b : BitVec 58) (fn : Nat) (noRd : Bool) (f : Nat → Nat → Nat × Bool × Bool) : State :=
  let w := wordOf b
  if fnOther w fn 14 then s
  else s.issue n (instrWords 0x34 w 0) (aluIllegal w fn noRd) (fun t =>
    let (r, c, v) := f (t.g n (bits w 46 42)) (t.aluB n w)
    let t1 := if noRd then t else t.setG n (bits w 51 47) r
    .ok (t1.intFlags n r c v))

/-- A result with C = V = 0. -/
def plain (r : Nat) : Nat × Bool × Bool := (r, false, false)

/-- R123: ADD. -/
def execAdd (n : Unit24) (b : BitVec 58) (s : State) : Host.Outcome State Fault Refusal :=
  .next (s.begin.alu n.val b 0x0 false addC).settle
/-- R123: SUB. -/
def execSub (n : Unit24) (b : BitVec 58) (s : State) : Host.Outcome State Fault Refusal :=
  .next (s.begin.alu n.val b 0x1 false subC).settle
/-- R123: AND. -/
def execAnd (n : Unit24) (b : BitVec 58) (s : State) : Host.Outcome State Fault Refusal :=
  .next (s.begin.alu n.val b 0x2 false (fun x y => plain (x &&& y))).settle
/-- R123: OR. -/
def execOr (n : Unit24) (b : BitVec 58) (s : State) : Host.Outcome State Fault Refusal :=
  .next (s.begin.alu n.val b 0x3 false (fun x y => plain (x ||| y))).settle
/-- R123: XOR. -/
def execXor (n : Unit24) (b : BitVec 58) (s : State) : Host.Outcome State Fault Refusal :=
  .next (s.begin.alu n.val b 0x4 false (fun x y => plain (x ^^^ y))).settle
/-- R123: SHL by b[4:0]. -/
def execShl (n : Unit24) (b : BitVec 58) (s : State) : Host.Outcome State Fault Refusal :=
  .next (s.begin.alu n.val b 0x5 false (fun x y => ((shlC x (y % 32)).1, (shlC x (y % 32)).2, false))).settle
/-- R123: SHR by b[4:0]. -/
def execShr (n : Unit24) (b : BitVec 58) (s : State) : Host.Outcome State Fault Refusal :=
  .next (s.begin.alu n.val b 0x6 false (fun x y => ((shrC x (y % 32)).1, (shrC x (y % 32)).2, false))).settle
/-- R123: SRA by b[4:0]. -/
def execSra (n : Unit24) (b : BitVec 58) (s : State) : Host.Outcome State Fault Refusal :=
  .next (s.begin.alu n.val b 0x7 false (fun x y => ((sraC x (y % 32)).1, (sraC x (y % 32)).2, false))).settle
/-- R123: MUL, the low half of the product. -/
def execMul (n : Unit24) (b : BitVec 58) (s : State) : Host.Outcome State Fault Refusal :=
  .next (s.begin.alu n.val b 0x8 false (fun x y => plain (x * y % 2 ^ 32))).settle
/-- R123: MULH, the high half of the signed product. -/
def execMulh (n : Unit24) (b : BitVec 58) (s : State) : Host.Outcome State Fault Refusal :=
  .next (s.begin.alu n.val b 0x9 false (fun x y => plain (enc 32 ((sgn 32 x * sgn 32 y).fdiv ((2 ^ 32 : Nat) : Int))))).settle
/-- R123: MIN, signed. -/
def execMin (n : Unit24) (b : BitVec 58) (s : State) : Host.Outcome State Fault Refusal :=
  .next (s.begin.alu n.val b 0xA false (fun x y => plain (if sgn 32 y < sgn 32 x then y else x))).settle
/-- R123: MAX, signed. -/
def execMax (n : Unit24) (b : BitVec 58) (s : State) : Host.Outcome State Fault Refusal :=
  .next (s.begin.alu n.val b 0xB false (fun x y => plain (if sgn 32 x < sgn 32 y then y else x))).settle
/-- R123: CMP, the flags of SUB. -/
def execCmp (n : Unit24) (b : BitVec 58) (s : State) : Host.Outcome State Fault Refusal :=
  .next (s.begin.alu n.val b 0xC true subC).settle
/-- R123: TST, the flags of AND. -/
def execTst (n : Unit24) (b : BitVec 58) (s : State) : Host.Outcome State Fault Refusal :=
  .next (s.begin.alu n.val b 0xD true (fun x y => plain (x &&& y))).settle

/-! ### Floating point (R124) -/

/-- The FADD and FMUL layout is broken: f indices of 8 and above included (R81). -/
def fpIllegal (w fn : Nat) : Bool :=
  aluIllegal w fn false || decide (8 ≤ bits w 51 47) || decide (8 ≤ bits w 46 42) || decide (8 ≤ bits w 41 37)

/-- FADD and FMUL: an FPE leaves f[RD] and the flags as they were (R124). -/
def State.fp (s : State) (n : Nat) (b : BitVec 58) (op fn : Nat) (f : Nat → Nat → Option Nat) : State :=
  let w := wordOf b
  if fnOther w fn (if op = 0x35 then 4 else 1) then s
  else s.issue n (instrWords op w 0) (fpIllegal w fn) (fun t =>
    let y := if bit w 56 then bits w 31 0 else t.f n (bits w 41 37)
    match f (t.f n (bits w 46 42)) y with
    | some r => .ok ((t.setF n (bits w 51 47) r).floatFlags n r)
    | none => .exc exFpe 0)

/-- R124: FADD. -/
def execFadd (n : Unit24) (b : BitVec 58) (s : State) : Host.Outcome State Fault Refusal :=
  .next (s.begin.fp n.val b 0x35 0x0 f32Add).settle
/-- R124: FADD with FN 1, a − b. -/
def execFaddSub (n : Unit24) (b : BitVec 58) (s : State) : Host.Outcome State Fault Refusal :=
  .next (s.begin.fp n.val b 0x35 0x1 f32Sub).settle
/-- R124: FADD with FN 2, the minimum. -/
def execFaddMin (n : Unit24) (b : BitVec 58) (s : State) : Host.Outcome State Fault Refusal :=
  .next (s.begin.fp n.val b 0x35 0x2 f32Min).settle
/-- R124: FADD with FN 3, the maximum. -/
def execFaddMax (n : Unit24) (b : BitVec 58) (s : State) : Host.Outcome State Fault Refusal :=
  .next (s.begin.fp n.val b 0x35 0x3 f32Max).settle
/-- R124: FMUL. -/
def execFmul (n : Unit24) (b : BitVec 58) (s : State) : Host.Outcome State Fault Refusal :=
  .next (s.begin.fp n.val b 0x36 0x0 f32Mul).settle

/-- FMA: no immediate; bit [56] is reserved and bits [36:32] hold RC (R124). -/
def fmaIllegal (w fn : Nat) : Bool :=
  isLong w || bit w 56 || bits w 55 52 != fn || dirty w 31 0 || decide (8 ≤ bits w 51 47) || decide (8 ≤ bits w 46 42) ||
  decide (8 ≤ bits w 41 37) || decide (8 ≤ bits w 36 32)

/-- FMA and its negated product, rounded once (R124). -/
def State.fmaOp (s : State) (n : Nat) (b : BitVec 58) (fn : Nat) (negate : Bool) : State :=
  let w := wordOf b
  if fnOther w fn 2 then s
  else s.issue n (instrWords 0x37 w 0) (fmaIllegal w fn) (fun t =>
    let x := t.f n (bits w 46 42)
    match f32Fma (if negate then f32Flip x else x) (t.f n (bits w 41 37)) (t.f n (bits w 36 32)) with
    | some r => .ok ((t.setF n (bits w 51 47) r).floatFlags n r)
    | none => .exc exFpe 0)

/-- R124: FMA. -/
def execFma (n : Unit24) (b : BitVec 58) (s : State) : Host.Outcome State Fault Refusal :=
  .next (s.begin.fmaOp n.val b 0x0 false).settle
/-- R124: FMA with FN 1, f[RC] − a × b. -/
def execFmaSub (n : Unit24) (b : BitVec 58) (s : State) : Host.Outcome State Fault Refusal :=
  .next (s.begin.fmaOp n.val b 0x1 true).settle

/-! ### CVT (R125) -/

/-- The CVT layout is broken; `fd`, `fs`: destination and source are f registers. -/
def cvtIllegal (w fn : Nat) (fd fs : Bool) : Bool :=
  isLong w || bit w 56 || dirty w 41 0 || bits w 55 52 != fn || (fd && decide (8 ≤ bits w 51 47)) ||
  (fs && decide (8 ≤ bits w 46 42))

/-- CVT from g to f: the value and V. -/
def State.cvtToF (s : State) (n : Nat) (b : BitVec 58) (fn : Nat) (f : Int → Rat) (v : Int → Bool) : State :=
  let w := wordOf b
  if fnOther w fn 5 then s
  else s.issue n (instrWords 0x38 w 0) (cvtIllegal w fn true false) (fun t =>
    let x := sgn 32 (t.g n (bits w 46 42))
    let r := f32Of (f x)
    .ok ((t.setF n (bits w 51 47) r).setZNCV n (r % 2 ^ 31 == 0) (bit r 31) false (v x)))

/-- CVT from f to g: an integer, saturated to lo and hi (R125). -/
def State.cvtToG (s : State) (n : Nat) (b : BitVec 58) (fn : Nat) (f : Rat → Int) (lo hi : Int) : State :=
  let w := wordOf b
  if fnOther w fn 5 then s
  else s.issue n (instrWords 0x38 w 0) (cvtIllegal w fn false true) (fun t =>
    match f32Val (t.f n (bits w 46 42)) with
    | some q =>
      let z := f q
      let r := enc 32 (clampI lo hi z)
      .ok ((t.setG n (bits w 51 47) r).setZNCV n (r == 0) (bit r 31) false (decide (z < lo) || decide (hi < z)))
    | none => .exc exFpe 0)

/-- Truncation towards zero. -/
def truncQ (q : Rat) : Int := if 0 ≤ q then q.floor else -((-q).floor)

/-- R125: I2F. -/
def execI2f (n : Unit24) (b : BitVec 58) (s : State) : Host.Outcome State Fault Refusal :=
  .next (s.begin.cvtToF n.val b 0x0 (fun x => (x : Rat)) (fun _ => false)).settle
/-- R125: F2I. -/
def execF2i (n : Unit24) (b : BitVec 58) (s : State) : Host.Outcome State Fault Refusal :=
  .next (s.begin.cvtToG n.val b 0x1 truncQ (-2147483648) 2147483647).settle
/-- R125: F2IR. -/
def execF2ir (n : Unit24) (b : BitVec 58) (s : State) : Host.Outcome State Fault Refusal :=
  .next (s.begin.cvtToG n.val b 0x2 roundEven (-2147483648) 2147483647).settle
/-- R125: P2F, g ÷ 20 rounded once. -/
def execP2f (n : Unit24) (b : BitVec 58) (s : State) : Host.Outcome State Fault Refusal :=
  .next (s.begin.cvtToF n.val b 0x3 (fun x => (x : Rat) / 20) (fun x => !inPc24 x)).settle
/-- R125: F2P, f × 20 rounded once, then saturated. -/
def execF2p (n : Unit24) (b : BitVec 58) (s : State) : Host.Outcome State Fault Refusal :=
  .next (s.begin.cvtToG n.val b 0x4 (fun q => roundEven (q * 20)) (-8388608) 8388607).settle

/-! ### LDI, MOV, DIALQ -/

/-- R118: LDI. -/
def execLdi (n : Unit24) (b : BitVec 58) (s : State) : Host.Outcome State Fault Refusal :=
  let w := wordOf b
  let rd := bits w 51 47
  .next (s.begin.issue n.val (instrWords 0x30 w 0)
    (isLong w || dirty w 55 52 || dirty w 46 32 || (bit w 56 && decide (8 ≤ rd))) (fun t =>
      .ok (if bit w 56 then t.setF n.val rd (bits w 31 0) else t.setG n.val rd (bits w 31 0)))).settle

/-- R122: MOV. -/
def execMov (n : Unit24) (b : BitVec 58) (s : State) : Host.Outcome State Fault Refusal :=
  let w := wordOf b
  .next (s.begin.issue n.val (instrWords 0x33 w 0)
    (isLong w || bit w 56 || dirty w 39 0 || !movSource (bits w 47 40) || !movDest (bits w 55 48)) (fun t =>
      match t.movRead n.val (bits w 47 40) with
      | some (v, t1) => (match t1.movWrite n.val (bits w 55 48) v with | some t2 => .ok t2 | none => .exc exIllegal 0)
      | none => .exc exIllegal 0)).settle

/-- Issue stalls for the 48 beats of a dial query (R108, R139). -/
def State.dialStall (s : State) (n : Nat) : State := s.modEsc n (fun e => { e with busyTill := s.beat + 48 })

/-- R108: DIALQ. The result is that of the launch beat; issue goes on 48 beats later. -/
def execDialq (n : Unit24) (b : BitVec 58) (ecc : Ecc) (s : State) : Host.Outcome State Fault Refusal :=
  let w := wordOf b
  .next (s.begin.issue n.val (instrWords 0x20 w 0)
    (isLong w || dirty w 56 53 || decide (8 ≤ bits w 52 48) || dirty w 47 47 || dirty w 36 0) (fun t =>
      let x := sgn 32 (t.g n.val (bits w 46 42))
      let y := sgn 32 (t.g n.val (bits w 41 37))
      if !(inPc24 x && inPc24 y) then .exc exCoord 0
      else
        let ((th, rng), u) := (t.dialStall n.val).dialRead x y t.beat ecc
        let t1 := u.draw.setF n.val (bits w 52 48) (f32Of ((th : Rat) / 16))
        .ok (if rng then t1.set (ESC_SW_RANGE n.val) 1 else t1))).settle

/-! ### LD and ST (R119 to R121) -/

/-- The layout of LD and ST is broken (R119). -/
def memIllegal (w w1 : Nat) : Bool :=
  dirty w 55 52 || dirty w 41 24 || (bit w 56 && decide (8 ≤ bits w 51 47)) ||
  (if isLong w then dirty w 23 0 || dirty w1 63 40 else false)

/-- The load of `len` bytes of instruction at `pc` goes out: the pc waits on the instruction until its data return (R119). -/
def State.postLoad (t : State) (n a rd : Nat) (toF : Bool) (pc word len : Nat) : State :=
  let r := t.winIssue n a false []
  ((r.1.setPc n pc).modEsc n (fun e => { e with load := some { addr := a, data := rd, toF, pc, word, len, answer := r.2 } })).emit
    (.request (0x10 + n) a 4)

/-- The store of the word `v` is posted (R119, R139). -/
def State.postStore (t : State) (n a v pc word len : Nat) : State :=
  let r := t.winIssue n a true (leBytes v 4)
  (r.1.modEsc n (fun e => { e with stores := e.stores ++ [{ addr := a, data := v, toF := false, pc, word, len, answer := r.2 }] })).emit
    (.request (0x10 + n) a 4)

/-- R119: LD issues; it stalls until LOAD_COMPLETE. -/
def execLd (n : Unit24) (b : BitVec 58) (w1 : BitVec 64) (s : State) : Host.Outcome State Fault Refusal :=
  let w := wordOf b
  .next (s.begin.issue n.val (instrWords 0x31 w w1.toNat) (memIllegal w w1.toNat) (fun t =>
    if t.dataAddr n.val w w1.toNat % 4 ≠ 0 then .exc exAlign (t.dataAddr n.val w w1.toNat)
    else .ok (t.postLoad n.val (t.dataAddr n.val w w1.toNat) (bits w 51 47) (bit w 56) (s.pc n.val) (fullWord 0x31 w) (wordLen w)))).settle

/-- R119: ST posts a store, up to 8 at a time (R139). -/
def execSt (n : Unit24) (b : BitVec 58) (w1 : BitVec 64) (s : State) : Host.Outcome State Fault Refusal :=
  let w := wordOf b
  .next (s.begin.issue n.val (instrWords 0x32 w w1.toNat) (memIllegal w w1.toNat) (fun t =>
    if t.dataAddr n.val w w1.toNat % 4 ≠ 0 then .exc exAlign (t.dataAddr n.val w w1.toNat)
    else if 8 ≤ (t.esc n.val).stores.length then .stall
    else .ok (t.postStore n.val (t.dataAddr n.val w w1.toNat) (if bit w 56 then t.f n.val (bits w 51 47) else t.g n.val (bits w 51 47))
      (s.pc n.val) (fullWord 0x32 w) (wordLen w)))).settle

end Sys2Proof.Machine
end

