-- ==== Sys2Proof/Machine/CalMotion.lean ====
section
/-! DEFINITION. Calibre's motion instructions (R83 to R93) and queued-state instructions (R94 to R101, R106, R109, R110):
what enters the segment queue, and with which settings (R75, R138, R141, R142). -/
namespace Sys2Proof.Machine

/-! ### The queue -/

/-- The stretch that a laser-on segment enqueued now joins: false the one in progress, true the one behind a hold point that
has passed. -/
def EscSt.joins (e : EscSt) : Option Bool :=
  if e.stretch.isSome && e.queue.all (fun x => x.kind.on) then some false
  else
    let pend := if e.stretch.isSome then e.queue.dropWhile (fun x => x.kind.on) else e.queue
    let rest := pend.dropWhile (fun x => !x.kind.on)
    if (e.hold.bind HoldSt.g).isSome && !rest.isEmpty && rest.all (fun x => x.kind.on) then some true else none

/-- A box widened by a segment. -/
def widened (o : Option Box) (g : Seg) (f : Rat × Rat → Rat × Rat) : Option Box :=
  match o, g.box f with | some a, some b => some (a.join b) | a, none => a | none, _ => none

/-- A laser-on segment enqueued into a stretch that has passed evaluation widens its box; a reservation that then breaks R309
sets PLOVR (R307, R310). -/
def State.widenBox (s : State) (n : Nat) (g : Seg) : State :=
  let e := s.esc n
  if !g.kind.on then s
  else
    let over_ (t : State) (o r : Option Box) : State :=
      match o, r with
      | some a, some b => if t.plumeRule n a && !t.plumeRule n b then (t.set BRG_STAT_PLOVR 1).pulse 0x017 else t
      | _, _ => t
    match e.joins, e.hold with
    | some false, _ =>
      let r := widened e.resv g s.gas
      over_ (s.setEsc n { e with box := widened e.box g (fun p => p), resv := r }) e.resv r
    | some true, some h =>
      let r := widened h.resv g s.gas
      over_ (s.setEsc n { e with hold := some { h with box := widened h.box g (fun p => p), resv := r } }) h.resv r
    | _, _ => s

/-- The beat on which the timeline may start the segment enqueued now into an empty queue (R141, R142): SW.LATE for a first
segment that comes later than 8 beats before the restart. -/
def State.restartFor (s : State) (n : Nat) : State :=
  let e := s.esc n
  if !e.queue.isEmpty then s
  else
    let at_ := e.restart.getD 0
    let late := e.fresh && decide (at_ < s.beat + 8)
    let s1 := s.setEsc n { e with fresh := false, restart := some (max at_ (s.beat + 8)) }
    if late then s1.set (ESC_SW_LATE n) 1 else s1

/-- A segment enters the queue (R75, R109, R138): the settings in force travel with it, a laser-on segment takes its tag. -/
def State.enqueue (s : State) (n : Nat) (g0 : Seg) (tagged : Bool) : State :=
  let e := s.esc n
  let tag := if !tagged then g0.tag else if e.set.tagFresh || !e.set.tagInc then e.set.tag else (e.set.tag + 1) % 2 ^ 32
  let g := { g0 with set := e.set, tag, enq := s.beat, afterWait := e.fresh }
  let s1 := (s.widenBox n g).restartFor n
  let e1 := s1.esc n
  let st := e1.set.taken
  let st1 := if g.kind.on && tagged then { st with tag, tagFresh := false } else st
  (s1.setEsc n
    { e1 with
      set := st1
      tagLast := if g.kind.on then tag else e1.tagLast
      lastP2 := if g.kind = .spln then some (g.bx, g.by_) else none }).setQueue n (e.queue ++ [g])

/-- The queue is full (R138). -/
def State.queueFull (s : State) (n : Nat) : Bool := decide (64 ≤ (s.esc n).queue.length)

/-! ### MARK and JUMP (R83 to R87) -/

/-- A segment with the settings to be filled in on its enqueue. -/
def newSeg (k : SegKind) (p : Int × Int × Int) (x y z : Int) : Seg :=
  { kind := k, x0 := p.1, y0 := p.2.1, z0 := p.2.2, x1 := x, y1 := y, z1 := z, set := {} }

/-- The layout of MARK and JUMP is broken (R83, R81). -/
def moveIllegal (mark : Bool) (w w1 : Nat) : Bool :=
  dirty w 49 48 || (bit w 55 && (dirty w 47 29 || dirty w 23 5)) || (!mark && (bit w 54 || bit w 53 || bit w 51)) ||
  (if isLong w then (!bit w 52 && dirty w1 63 40) || (!bit w 51 && dirty w1 39 24) || (!bit w 50 && dirty w1 23 0)
   else bit w 52 || bit w 51 || bit w 50)

/-- The target of MARK and JUMP (R84), none where it raises COORD. -/
def State.moveTarget (s : State) (n w w1 : Nat) : Option (Int × Int × Int) :=
  let (px, py, pz) := s.pxyz n
  let rg := bit w 55
  let x0 := if rg then sgn 32 (s.g n (bits w 28 24)) else pc24 w 47 24
  let y0 := if rg then sgn 32 (s.g n (bits w 4 0)) else pc24 w 23 0
  let rel := bit w 56
  let x := if rel then px + x0 else x0
  let y := if rel then py + y0 else y0
  let zv := pc24 w1 63 40
  let z := if bit w 52 then (if rel then pz + zv else zv) else pz
  if inPc24 x0 && inPc24 y0 && inPc24 x && inPc24 y && inPc24 z then some (x, y, z) else none

/-- MARK and JUMP (R84 to R86). A speed of 0 with PS set is a speed that is not set (R70; log entry 132). -/
def State.moveInstr (s : State) (n : Nat) (mark : Bool) (b : BitVec 58) (b1 : BitVec 64) : State :=
  let w := wordOf b
  let w1 := b1.toNat
  s.issue n (instrWords (if mark then 0x01 else 0x02) w w1) (moveIllegal mark w w1) (fun t =>
    let pv := t.flag (ESC_SW_PV n)
    let sp : Option Nat := if bit w 50 then some (bits w1 23 0) else none
    let e := t.esc n
    if (mark && !pv) || (!mark && (bit w 56 || bit w 55) && !pv) then .exc exOperand 0
    else if mark && sp.getD e.set.vMark == 0 then .exc exOperand 0
    else match t.moveTarget n w w1 with
      | none => .exc exCoord 0
      | some (x, y, z) =>
        let p := t.pxyz n
        if pv && decide ((x, y, z) = p) then .ok t
        else if t.queueFull n then .stall
        else
          let g := { newSeg (if mark then .mark else .jump) p x y z with
            ns := bit w 54, nw := bit w 53, pw := if bit w 51 then some (bits w1 39 24) else none, speed := sp }
          let t1 := (t.enqueue n g mark).setPxyz n x y z
          .ok (if !mark && !bit w 56 && !bit w 55 then t1.set (ESC_SW_PV n) 1 else t1))

/-- R83: MARK. -/
def execMark (n : Unit24) (b : BitVec 58) (w1 : BitVec 64) (s : State) : Host.Outcome State Fault Refusal :=
  .next (s.begin.moveInstr n.val true b w1).settle
/-- R83: JUMP. -/
def execJump (n : Unit24) (b : BitVec 58) (w1 : BitVec 64) (s : State) : Host.Outcome State Fault Refusal :=
  .next (s.begin.moveInstr n.val false b w1).settle

/-! ### ARC (R88, R89) -/

/-- The layout of ARC is broken. -/
def arcIllegal (w w1 : Nat) : Bool :=
  !isLong w || dirty w 52 51 || dirty w 49 48 || (bit w 55 && (dirty w 47 29 || dirty w 23 5)) || dirty w1 7 0 ||
  (!bit w 50 && dirty w1 31 8)

/-- Every point of an arc lies in the PC24 range (R89): its ends, and the extreme points it passes. -/
def arcInside (x0 y0 cx cy sweep ex ey : Int) : Bool :=
  let sx : Rat := (x0 - cx : Int)
  let sy : Rat := (y0 - cy : Int)
  let r := sqrtQ (sx * sx + sy * sy)
  let (qx, qy) := arcEnd x0 y0 cx cy sweep
  let rx := qx - cx
  let ry := qy - cy
  let big := decide (16777216 ≤ sweep.natAbs)
  let half := decide (8388608 < sweep.natAbs)
  let pos := decide (0 ≤ sweep)
  -- the direction (dx, dy) lies strictly inside the sweep from the start vector to the end vector
  let cross (ax ay bx by_ : Rat) : Rat := (ax * by_ - ay * bx) * (if pos then 1 else -1)
  let passes (dx dy : Rat) : Bool :=
    let a := decide (0 < cross sx sy dx dy)
    let b := decide (0 < cross dx dy rx ry)
    big || (if half then a || b else a && b)
  let ok (d : Bool) (v : Rat) : Bool := !d || (decide (-8388608 ≤ v) && decide (v ≤ 8388607))
  inPc24 ex && inPc24 ey && ok (passes 1 0) (cx + r) && ok (passes (-1) 0) (cx - r) && ok (passes 0 1) (cy + r) &&
  ok (passes 0 (-1)) (cy - r)

/-- R88: ARC. -/
def execArc (n : Unit24) (b : BitVec 58) (b1 : BitVec 64) (s : State) : Host.Outcome State Fault Refusal :=
  let n := n.val
  let w := wordOf b
  let w1 := b1.toNat
  .next (s.begin.issue n (instrWords 0x03 w w1) (arcIllegal w w1) (fun t =>
    let (px, py, pz) := t.pxyz n
    let c0 := if bit w 55 then sgn 32 (t.g n (bits w 28 24)) else pc24 w 47 24
    let d0 := if bit w 55 then sgn 32 (t.g n (bits w 4 0)) else pc24 w 23 0
    let cx := if bit w 56 then px + c0 else c0
    let cy := if bit w 56 then py + d0 else d0
    let sweep := sgn 32 (bits w1 63 32)
    let sp : Option Nat := if bit w 50 then some (bits w1 31 8) else none
    let r2 := (px - cx) * (px - cx) + (py - cy) * (py - cy)
    if !t.flag (ESC_SW_PV n) || sweep == 0 || decide (r2 < 400) || sp.getD (t.esc n).set.vMark == 0 then .exc exOperand 0
    else
      let (qx, qy) := arcEnd px py cx cy sweep
      let ex := roundAway qx
      let ey := roundAway qy
      if !(inPc24 c0 && inPc24 d0 && inPc24 cx && inPc24 cy && arcInside px py cx cy sweep ex ey) then .exc exCoord 0
      else if t.queueFull n then .stall
      else
        let g := { newSeg .arc (px, py, pz) ex ey pz with ax := cx, ay := cy, sweep, ns := bit w 54, nw := bit w 53, speed := sp }
        .ok ((t.enqueue n g true).setPxyz n ex ey pz))).settle

/-! ### SPLN (R90 to R92) -/

/-- The layout of SPLN is broken. -/
def splnIllegal (w w1 : Nat) : Bool :=
  !isLong w || dirty w 52 48 || dirty w1 5 0 || (bit w 55 && dirty w1 15 6)

/-- R90: SPLN. -/
def execSpln (n : Unit24) (b : BitVec 58) (b1 : BitVec 64) (s : State) : Host.Outcome State Fault Refusal :=
  let n := n.val
  let w := wordOf b
  let w1 := b1.toNat
  .next (s.begin.issue n (instrWords 0x04 w w1) (splnIllegal w w1) (fun t =>
    let (px, py, pz) := t.pxyz n
    let rel := bit w 56
    let e := t.esc n
    let ax (v : Int) : Int := if rel then px + v else v
    let ay (v : Int) : Int := if rel then py + v else v
    let (p1x, p1y) : Int × Int :=
      if bit w 55 then (match e.lastP2 with | some (x, y) => (2 * px - x, 2 * py - y) | none => (px, py))
      else (ax (sgn 32 (t.g n (bits w1 15 11))), ay (sgn 32 (t.g n (bits w1 10 6))))
    let p2x := ax (pc24 w1 63 40)
    let p2y := ay (pc24 w1 39 16)
    let p3x := ax (pc24 w 47 24)
    let p3y := ay (pc24 w 23 0)
    if !t.flag (ESC_SW_PV n) || e.set.vMark == 0 then .exc exOperand 0
    else if !(inPc24 p1x && inPc24 p1y && inPc24 p2x && inPc24 p2y && inPc24 p3x && inPc24 p3y) then .exc exCoord 0
    else if t.queueFull n then .stall
    else
      let g := { newSeg .spln (px, py, pz) p3x p3y pz with
        ax := p1x, ay := p1y, bx := p2x, by_ := p2y, ns := bit w 54, nw := bit w 53 }
      .ok ((t.enqueue n g true).setPxyz n p3x p3y pz))).settle

/-! ### DWELL (R93) -/

/-- R93: DWELL. -/
def execDwell (n : Unit24) (b : BitVec 58) (b1 : BitVec 64) (s : State) : Host.Outcome State Fault Refusal :=
  let n := n.val
  let w := wordOf b
  let w1 := b1.toNat
  .next (s.begin.issue n (instrWords 0x05 w w1)
    (dirty w 55 24 || (isLong w && (dirty w 23 0 || dirty w1 63 48))) (fun t =>
      let k := if isLong w then bits w1 47 0 else bits w 23 0
      if !t.flag (ESC_SW_PV n) then .exc exOperand 0
      else if k = 0 then .ok t
      else if t.queueFull n then .stall
      else
        let p := t.pxyz n
        .ok (t.enqueue n { newSeg (.dwell (bit w 56)) p p.1 p.2.1 p.2.2 with beats := k } true))).settle

/-! ### Queued state -/

/-- A queued-state instruction of one word: it changes the settings of the next segment (R75). -/
def State.queued (s : State) (n op : Nat) (b : BitVec 58) (illegal operand : Bool) (f : Settings → Settings) : State :=
  s.issue n (instrWords op (wordOf b) 0) (isLong (wordOf b) || illegal) (fun t =>
    if operand then .exc exOperand 0 else .ok (t.modEsc n (fun e => { e with set := f e.set })))

/-- R94: SKY. -/
def execSky (n : Unit24) (b : BitVec 58) (s : State) : Host.Outcome State Fault Refusal :=
  let w := wordOf b
  .next (s.begin.queued n.val 0x06 b (bits w 56 55 == 3 || dirty w 54 48 || dirty w 7 0) (decide (180 < bits w 15 8)) (fun t =>
    { t with skyMode := bits w 56 55, skyIn := bits w 47 32, skyOut := bits w 31 16, skyAngle := bits w 15 8 })).settle

/-- R96: POWER. -/
def execPower (n : Unit24) (b : BitVec 58) (s : State) : Host.Outcome State Fault Refusal :=
  let w := wordOf b
  let rg := bit w 56
  .next (s.begin.issue n.val (instrWords 0x10 w 0)
    (isLong w || bits w 55 54 == 3 || dirty w 53 48 || dirty w 31 29 || (if rg then dirty w 47 32 else dirty w 28 24)) (fun t =>
      let v := if rg then t.g n.val (bits w 28 24) else bits w 47 32
      if 65536 ≤ v then .exc exOperand 0
      else .ok (t.modEsc n.val (fun e =>
        { e with set := e.set.withPower v (bits w 23 0) (bits w 55 54) })))).settle

/-- Velocities for MARK and JUMP, cut to the limits in force (R99): 0 keeps the one in force; a cut sets CLAMP. -/
def State.setSpeed (t : State) (n vm vj : Nat) : State :=
  let lm := max 1 (t.live (TRJ_VMARK_VMAX n))
  let lj := max 1 (t.live (TRJ_VJUMP_VMAX n))
  let t1 := t.modEsc n (fun e =>
    { e with set := { e.set with
      vMark := if vm = 0 then e.set.vMark else min vm lm
      vJump := if vj = 0 then e.set.vJump else min vj lj } })
  if lm < vm ∨ lj < vj then t1.set (ESC_SW_CLAMP n) 1 else t1

/-- R99: SPEED: each non-zero speed is clamped to the head's limit. -/
def execSpeed (n : Unit24) (b : BitVec 58) (s : State) : Host.Outcome State Fault Refusal :=
  let w := wordOf b
  .next (s.begin.issue n.val (instrWords 0x11 w 0) (isLong w || dirty w 56 48) (fun t =>
    .ok (t.setSpeed n.val (bits w 47 24) (bits w 23 0)))).settle

/-- R100: WOBBLE. -/
def execWobble (n : Unit24) (b : BitVec 58) (s : State) : Host.Outcome State Fault Refusal :=
  let w := wordOf b
  let sh := bits w 56 55
  let am := bits w 47 32
  let fr := bits w 31 16
  .next (s.begin.queued n.val 0x12 b (dirty w 54 48 || dirty w 15 0 || (sh == 0 && (am != 0 || fr != 0)))
    (sh != 0 && (am == 0 || fr == 0 || decide (5000 < fr))) (fun t => { t with shape := sh, ampl := am, freq := fr })).settle

/-- R101: DELAYS. -/
def execDelays (n : Unit24) (b : BitVec 58) (s : State) : Host.Outcome State Fault Refusal :=
  let w := wordOf b
  .next (s.begin.queued n.val 0x13 b (dirty w 56 48) false (fun t =>
    { t with lon := sgn 16 (bits w 47 32), loff := sgn 16 (bits w 31 16), settle := bits w 15 0 })).settle

/-- R109: TAG. -/
def execTag (n : Unit24) (b : BitVec 58) (s : State) : Host.Outcome State Fault Refusal :=
  let w := wordOf b
  .next (s.begin.queued n.val 0x24 b (dirty w 55 32) false (fun t =>
    { t with tag := bits w 31 0, tagInc := bit w 56, tagFresh := true })).settle

/-- R110: LAYER. -/
def execLayer (n : Unit24) (b : BitVec 58) (s : State) : Host.Outcome State Fault Refusal :=
  let w := wordOf b
  .next (s.begin.queued n.val 0x25 b (dirty w 56 32) false (fun t => { t with layer := bits w 31 0 })).settle

/-- A zone leaves with the last segment enqueued, or at once where none is left (R106). -/
def State.yieldZones (s : State) (n : Nat) (zs : List Nat) : State :=
  let e := s.esc n
  match e.queue.getLast? with
  | some g => s.setEsc n { e with queue := e.queue.dropLast ++ [{ g with yields := g.yields ++ zs }] }
  | none => { s with yieldDue := s.yieldDue ++ zs.map (fun z => (n, z)) }

/-- What YIELD does once it issues (R106): all zones owned, or zone `z`. -/
def State.yieldIss (t : State) (n : Nat) (all : Bool) (z : Nat) : Iss :=
  if all then .ok (if t.dry then t else t.yieldZones n ((List.range 64).filter (fun k => t.zoneOwner k = some n)))
  else if !t.zoneDefined z n then .exc exBridge 0
  else if t.dry then .ok t
  else if t.zoneOwner z = some n then .ok (t.yieldZones n [z])
  else .exc exBridge 0

/-- R106: YIELD. In dry run it releases nothing (R160). -/
def execYield (n : Unit24) (b : BitVec 58) (s : State) : Host.Outcome State Fault Refusal :=
  let w := wordOf b
  .next (s.begin.issue n.val (instrWords 0x1D w 0)
    (isLong w || dirty w 55 48 || dirty w 35 0 || (bit w 56 && bits w 47 36 != 0)) (fun t =>
      t.yieldIss n.val (bit w 56) (bits w 47 36))).settle

end Sys2Proof.Machine
end

