-- ==== Sys2Proof/Machine/CalWait.lean ====
section
/-! DEFINITION. Calibre's wait instructions (R102 to R107, R115, R116) and how their waits end. -/
namespace Sys2Proof.Machine

/-- A wait instruction: its layout, what it raises at issue, and its kind. -/
def State.waitInstr (s : State) (n op : Nat) (b : BitVec 58) (w1 : Nat) (illegal : Bool) (check : State → Option Nat) (k : WaitKind) :
    State :=
  s.issue n (instrWords op (wordOf b) w1) illegal (fun t =>
    match check t with
    | some c => .exc c 0
    | none => .ok (t.issueWait n (s.pc n) (fullWord op (wordOf b)) (wordLen (wordOf b)) k))

/-- R102: WAITT. -/
def execWaitt (n : Unit24) (b : BitVec 58) (b1 : BitVec 64) (s : State) : Host.Outcome State Fault Refusal :=
  let w := wordOf b
  let w1 := b1.toNat
  .next (s.begin.waitInstr n.val 0x18 b w1
    (dirty w 55 24 || (if isLong w then dirty w 23 0 || dirty w1 63 48 else bit w 56)) (fun _ => none)
    (.waitt (bit w 56) (if isLong w then bits w1 47 0 else bits w 23 0))).settle

/-- R102: the beats of a WAITT have passed, or its absolute target is reached. -/
def execWaittEnd (n : Unit24) (s : State) : Host.Outcome State Fault Refusal :=
  let n := n.val
  let t := s.begin
  .next (match (t.esc n).wait with
    | some w =>
      (match w.kind with
      | .waitt abs k =>
        if w.drained && t.escState n == 4 && (if abs then decide (k ≤ t.lbeat) else decide (w.since + k ≤ t.beat)) then t.endWait n
        else t
      | _ => t)
    | none => t).settle

/-- R103: SYNC; an escapement that is no member raises SYNC at issue (R149). -/
def execSync (n : Unit24) (b : BitVec 58) (s : State) : Host.Outcome State Fault Refusal :=
  let w := wordOf b
  let fab := bit w 56
  let g := bits w 55 52
  .next (s.begin.waitInstr n.val 0x19 b 0 (isLong w || dirty w 51 24)
    (fun t => if (t.barMembers (if fab then 16 + g else g)).testBit n.val then none else some exSync)
    (.sync fab g (bits w 23 0))).settle

/-- R104: AWAIT. -/
def execAwait (n : Unit24) (b : BitVec 58) (b1 : BitVec 64) (s : State) : Host.Outcome State Fault Refusal :=
  let w := wordOf b
  let w1 := b1.toNat
  .next (s.begin.waitInstr n.val 0x1A b w1
    (dirty w 54 48 || dirty w 31 24 || (isLong w && (dirty w 23 0 || dirty w1 63 48)))
    (fun _ => if bits w 47 32 = 0 then some exOperand else none)
    (.await (bit w 56) (bit w 55) (bits w 47 32) (if isLong w then bits w1 47 0 else bits w 23 0))).settle

/-- R104: TIMEOUT beats have passed since the drain: TO sets and no bit clears. -/
def execAwaitTimeout (n : Unit24) (s : State) : Host.Outcome State Fault Refusal :=
  let n := n.val
  let t := s.begin
  .next (match (t.esc n).wait with
    | some w =>
      (match w.kind with
      | .await _ _ _ tmo =>
        if w.drained && t.escState n == 4 && tmo != 0 && decide (w.since + tmo ≤ t.beat) then (t.set (ESC_SW_TO n) 1).endWait n
        else t
      | _ => t)
    | none => t).settle

/-- R105: CLAIM; an undefined zone raises BRIDGE. -/
def execClaim (n : Unit24) (b : BitVec 58) (s : State) : Host.Outcome State Fault Refusal :=
  let w := wordOf b
  let z := bits w 47 36
  .next (s.begin.waitInstr n.val 0x1C b 0
    (isLong w || dirty w 55 48 || dirty w 35 24 || (!bit w 56 && dirty w 23 0))
    (fun t => if t.zoneDefined z n.val then none else some exBridge)
    (.claim (bit w 56) z (bits w 23 0))).settle

/-- R105, R289: the TIMEOUT of a waiting CLAIM passes. -/
def execClaimTimeout (n : Unit24) (s : State) : Host.Outcome State Fault Refusal :=
  let n := n.val
  let t := s.begin
  .next (match (t.esc n).wait with
    | some w =>
      (match w.kind with
      | .claim true _ tmo =>
        if w.drained && t.escState n == 4 && tmo != 0 && decide (w.since + tmo ≤ t.beat) then
          (((t.leaveClaims n).set (ESC_SW_GR n) 0).set (ESC_SW_TO n) 1).endWait n
        else t
      | _ => t)
    | none => t).settle

/-- Pool `k` is defined for escapement `n` (R292). -/
def State.poolDefined (s : State) (k n : Nat) : Bool :=
  decide (k < 64) && s.liveFlag (BRG_PCFG_EN k) &&
  ((s.live (BRG_PELIG_ELIG k)).testBit n || (s.live (BRG_PCFG_KIND k) == 1 && (s.live (BRG_PSIDE1_SIDE1 k)).testBit n))

/-- R107: FLOAT; an undefined pool raises BRIDGE, PV clear raises OPERAND. -/
def execFloat (n : Unit24) (b : BitVec 58) (s : State) : Host.Outcome State Fault Refusal :=
  let w := wordOf b
  let k := bits w 47 36
  .next (s.begin.waitInstr n.val 0x1E b 0 (isLong w || dirty w 56 53 || dirty w 35 0)
    (fun t => if !t.flag (ESC_SW_PV n.val) then some exOperand
      else if t.poolDefined k n.val then none else some exBridge)
    (.float (bits w 52 48) k)).settle

/-- R115: HALT. -/
def execHalt (n : Unit24) (b : BitVec 58) (s : State) : Host.Outcome State Fault Refusal :=
  let w := wordOf b
  .next (s.begin.waitInstr n.val 0x2C b 0 (isLong w || dirty w 56 16) (fun _ => none) (.halt (bits w 15 0))).settle

/-- R115, R161, R162: the HALT completes once every posted store has: HALTED with cause 0x00 and its code, the PC after it,
zones released (R291). -/
def execHaltComplete (n : Unit24) (s : State) : Host.Outcome State Fault Refusal :=
  let n := n.val
  let t := s.begin
  .next (match (t.esc n).wait with
    | some w =>
      (match w.kind with
      | .halt code =>
        if w.drained && t.escState n == 4 && (t.esc n).stores.isEmpty then
          let t1 := t.modEsc n (fun e => { e with wait := none, stepping := false, layerDone := true, haltAt := t.beat })
          let t2 := ((t1.set (ESC_TRAP_CAUSE n) 0).set (ESC_TRAP_CODE n) code).setPc n (w.pc + w.len)
          (((t2.set (ESC_INT_HALT n) 1).setEscState n 5).releaseZones n).escLine n
        else t
      | _ => t)
    | none => t).settle

/-- R116: TRAP: with CONT set it reports its code at issue (R163); with CONT clear it drains and stops. -/
def execTrap (n : Unit24) (b : BitVec 58) (s : State) : Host.Outcome State Fault Refusal :=
  let n := n.val
  let w := wordOf b
  let w0 := fullWord 0x2D w
  .next (s.begin.issue n (instrWords 0x2D w 0) (isLong w || dirty w 55 16) (fun t =>
    if bit w 56 then
      let t1 := if t.flag (ESC_INT_CONT n) then t.set (ESC_TCODE_OVF n) 1 else t
      .ok (((t1.set (ESC_TCODE_CODE n) (bits w 15 0)).set (ESC_INT_CONT n) 1).escLine n)
    else .ok (t.issueWait n (s.pc n) w0 8 (.trap (bits w 15 0))))).settle

end Sys2Proof.Machine
end

