-- ==== Sys2Proof/Machine/CalibrationFamily.lean ====
section
/-! DEFINITION. Self-calibration and trim as rows (R513 to R527). -/
namespace Sys2Proof.Machine

/-- R513: the REXT current is measured. -/
def execRextMeasurement (bad : Bool) (s : State) : Host.Outcome State Fault Refusal := .next (s.begin.rextMeasure bad).settle
/-- R516: a step starts. -/
def execCalStepStart (s : State) : Host.Outcome State Fault Refusal := .next (s.begin.calStart).settle
/-- R520: a step completes with its codes. -/
def execCalStepComplete (codes : List Int) (s : State) : Host.Outcome State Fault Refusal := .next (s.begin.calComplete codes).settle
/-- R519: a step has run too long. -/
def execCalStepTimeout (s : State) : Host.Outcome State Fault Refusal := .next (s.begin.calTimeout).settle
/-- R522: SAVE. -/
def execTrimSave (s : State) : Host.Outcome State Fault Refusal := .next (s.begin.trimSave).settle
/-- R523: the save ends. -/
def execTrimSaveComplete (verifyA verifyB : Bool) (s : State) : Host.Outcome State Fault Refusal :=
  .next (s.begin.trimSaveDone verifyA verifyB).settle
/-- R527: RESTART. -/
def execCalRestart (s : State) : Host.Outcome State Fault Refusal := .next (s.begin.calRestart).settle

end Sys2Proof.Machine
end

