-- ==== Sys2Proof/Machine/DialFamily.lean ====
section
/-! DEFINITION. The dial as rows (R253 to R270). -/
namespace Sys2Proof.Machine

/-- R253: deposits commit. -/
def execDepositCommit (ecc : Ecc) (s : State) : Host.Outcome State Fault Refusal := .next (s.begin.depositCommit ecc).settle
/-- R257: a sweep slot. -/
def execSweepSlot (tile : Fin 4096) (ecc : Ecc) (s : State) : Host.Outcome State Fault Refusal :=
  .next (s.begin.sweepSlot tile.val ecc).settle
/-- R262: CLEAR. -/
def execClear (s : State) : Host.Outcome State Fault Refusal :=
  .next (if s.heldInReset 129 then s.begin else s.begin.clearCmd).settle
/-- R264: the clear completes on its beat. -/
def execClearComplete (s : State) : Host.Outcome State Fault Refusal :=
  let t := s.begin
  .next (match t.dial.clear with | some b => if b ≤ t.beat then t.dialClearDone else t | none => t).settle
/-- R262: REBASE. -/
def execRebase (s : State) : Host.Outcome State Fault Refusal :=
  .next (if s.heldInReset 129 then s.begin else s.begin.rebaseCmd).settle
/-- R262: the rebase completes. -/
def execRebaseComplete (s : State) (ecc : Ecc := .clean) : Host.Outcome State Fault Refusal := .next (s.begin.rebaseDone ecc).settle
/-- R260: a master reads DIAL_PEEK_VAL. -/
def execDialPeek (m : Master) (ecc : Ecc) (s : State) : Host.Outcome State Fault Refusal :=
  let t := s.begin
  .next (if t.heldInReset 129 then t.reply m.toNat false 0
    else let u := t.peekDial ecc; u.reply m.toNat true (u.get DIAL_PEEK_VAL_THETA)).settle
/-- R270: a peer's origin arrives, or does not. -/
def execPeerCheckResult (k : Fin 8) (answer : Option Origin) (s : State) : Host.Outcome State Fault Refusal :=
  .next (s.begin.peerResult k.val answer).settle

end Sys2Proof.Machine
end

