-- ==== Sys2Proof/Machine/EncoderFamily.lean ====
section
/-! DEFINITION. Encoders as rows (R499 to R504). -/
namespace Sys2Proof.Machine

/-- R499: the filtered lines. -/
def execEncoderCount (e : Fin 6) (a b : Bool) (s : State) : Host.Outcome State Fault Refusal :=
  .next (s.begin.encCount e.val a b).settle
/-- R500: a 1 ms window ends. -/
def execIllegalWindow (e : Fin 6) (s : State) : Host.Outcome State Fault Refusal := .next (s.begin.encIllegal e.val).settle
/-- R501: a rising edge of Z. -/
def execIndexEdge (e : Fin 6) (s : State) : Host.Outcome State Fault Refusal := .next (s.begin.encIndex e.val).settle
/-- R503: a speed window ends. -/
def execSpeedWindow (e : Fin 6) (s : State) : Host.Outcome State Fault Refusal := .next (s.begin.encSpeed e.val).settle
/-- R501: a write of ENC_POS. -/
def execEncPosWrite (e : Fin 6) (v : Word) (s : State) : Host.Outcome State Fault Refusal :=
  .next (s.begin.encWrite e.val v.toNat).settle

end Sys2Proof.Machine
end

