-- ==== Sys2Proof/Machine/EscControl.lean ====
section
/-! DEFINITION. Commands to escapements, barriers and fetch as rows (R134 to R165). -/
namespace Sys2Proof.Machine

/-- R136: a fetched line returns. -/
def execFetchLineReturn (n : Unit24) (a : Addr) (ecc : Ecc) (s : State) : Host.Outcome State Fault Refusal :=
  .next (s.begin.fetchLine n.val a.toNat ecc).settle
/-- R134: the prefetch is complete. -/
def execPrefetchComplete (n : Unit24) (s : State) : Host.Outcome State Fault Refusal := .next (s.begin.prefetchDone n.val).settle
/-- R144: a write of ESC_GO.GO. -/
def execStartCommand (s : State) : Host.Outcome State Fault Refusal := .next s.begin.startCommand.settle
/-- R150: a device barrier releases. -/
def execDeviceBarrierRelease (g : Fin 16) (s : State) : Host.Outcome State Fault Refusal := .next (s.begin.devRelease g.val).settle
/-- R152: a device barrier times out. -/
def execDeviceBarrierTimeout (g : Fin 16) (s : State) : Host.Outcome State Fault Refusal := .next (s.begin.devTimeout g.val).settle
/-- R151: the timekeeper decides. -/
def execFabricBarrierDecision (g : Fin 16) (s : State) : Host.Outcome State Fault Refusal := .next (s.begin.fabDecision g.val).settle
/-- R153: the timekeeper's timeout. -/
def execFabricBarrierTimeout (g : Fin 16) (s : State) : Host.Outcome State Fault Refusal := .next (s.begin.fabTimeout g.val).settle
/-- R153: the local timeout. -/
def execFabricBarrierLocalTimeout (g : Fin 16) (s : State) : Host.Outcome State Fault Refusal :=
  .next (s.begin.fabLocalTimeout g.val).settle
/-- R155: a write of ESC_EVSET. -/
def execEvset (n : Unit24) (v : Word) (s : State) : Host.Outcome State Fault Refusal :=
  .next (if s.heldInReset n.val then s.begin else s.begin.setEvents n.val v.toNat).settle
/-- R156: a write of ESC_EVFIRE. -/
def execEvfire (v : Word) (s : State) : Host.Outcome State Fault Refusal := .next (s.begin.evFire v.toNat).settle
/-- R155: the layer beat counter equals ESC_ALARM. -/
def execAlarmMatch (n : Unit24) (s : State) : Host.Outcome State Fault Refusal :=
  let n := n.val
  let t := s.begin
  .next (if t.lbeat = t.pair (ESC_ALARM_LO_VALUE n) (ESC_ALARM_HI_VALUE n) ∧ !t.heldInReset n then t.setEvents n 0x1000 else t).settle
/-- A command to one escapement; one held in block reset takes none (R24). -/
def State.escDo (s : State) (n : Nat) (f : State → Nat → State) : State := if s.heldInReset n then s else f s n
/-- R157: START. -/
def execStart (n : Unit24) (s : State) : Host.Outcome State Fault Refusal := .next (s.begin.escDo n.val State.startCmd).settle
/-- R159: STOP. -/
def execStop (n : Unit24) (s : State) : Host.Outcome State Fault Refusal := .next (s.begin.escDo n.val State.stopCmd).settle
/-- R161: RESUME. -/
def execResume (n : Unit24) (s : State) : Host.Outcome State Fault Refusal := .next (s.begin.escDo n.val State.resumeCmd).settle
/-- R164: STEP. -/
def execStep (n : Unit24) (s : State) : Host.Outcome State Fault Refusal := .next (s.begin.escDo n.val State.stepCmd).settle
/-- R157: FLUSH. -/
def execFlush (n : Unit24) (s : State) : Host.Outcome State Fault Refusal := .next (s.begin.escDo n.val State.flushCmd).settle
/-- What a write of ESC_GCMD leaves in its fields (R179). -/
def State.noteGcmd (s : State) (cmd : Nat) (mask : BitVec 24) : State :=
  (s.set ESC_GCMD_CMD cmd).set ESC_GCMD_MASK mask.toNat
/-- R158: ESC_GCMD START. -/
def execGcmdStart (mask : BitVec 24) (s : State) : Host.Outcome State Fault Refusal :=
  .next ((s.begin.noteGcmd 1 mask).forMask mask.toNat State.startCmd).settle
/-- R158: ESC_GCMD STOP. -/
def execGcmdStop (mask : BitVec 24) (s : State) : Host.Outcome State Fault Refusal :=
  .next ((s.begin.noteGcmd 2 mask).forMask mask.toNat State.stopCmd).settle
/-- R158: ESC_GCMD RESUME. -/
def execGcmdResume (mask : BitVec 24) (s : State) : Host.Outcome State Fault Refusal :=
  .next ((s.begin.noteGcmd 3 mask).forMask mask.toNat State.resumeCmd).settle
/-- R165: a write of ESC_CTL. -/
def execEnableWrite (n : Unit24) (v : Word) (s : State) : Host.Outcome State Fault Refusal :=
  .next (s.begin.escDo n.val (fun t k => t.enableWrite k v.toNat)).settle

end Sys2Proof.Machine
end

