-- ==== Sys2Proof/Machine/FaultFamily.lean ====
section
/-! DEFINITION. Faults, injection, NV store, chronograph and split as rows (R557 to R592). -/
namespace Sys2Proof.Machine

/-- R557: a source changes to active. -/
def execFaultSourceAssert (src : Fin 512) (s : State) : Host.Outcome State Fault Refusal := .next (s.begin.srcAssert src.val).settle
/-- R557: a rail fault. -/
def execRailFault (src : Fin 512) (s : State) : Host.Outcome State Fault Refusal := .next (s.begin.railFault src.val).settle
/-- R562: the hold of a chip reset ends. -/
def execChipResetHoldEnd (s : State) : Host.Outcome State Fault Refusal := .next (s.begin.chipHoldEnd).settle
/-- R564: ASSERT. -/
def execAssert (s : State) : Host.Outcome State Fault Refusal := .next (s.begin.hackCmd).settle
/-- R566: RELEASE. -/
def execRelease (s : State) : Host.Outcome State Fault Refusal := .next (s.begin.hackRelease).settle
/-- R568: CLR. -/
def execCaptureClear (s : State) : Host.Outcome State Fault Refusal := .next (s.begin.captureClear).settle
/-- R569: ARM with the word written. -/
def execInjectionArm (v : Word) (s : State) : Host.Outcome State Fault Refusal := .next (s.begin.injArm v.toNat).settle
/-- R571: DISARM. -/
def execInjectionDisarm (s : State) : Host.Outcome State Fault Refusal := .next (s.begin.injDisarm).settle
/-- R571: the re-check. -/
def execInjectionRecheck (active : Bool) (s : State) : Host.Outcome State Fault Refusal := .next (s.begin.injRecheck active).settle
/-- R575: a 64-bit word is written and verified. -/
def execNvWrite (m : Master) (a : Addr) (v : Word64) (result : NvResult) (s : State) : Host.Outcome State Fault Refusal :=
  .next (if s.begin.region a.toNat = .nvData then s.begin.nvWrite m.toNat a.toNat v.toNat result else s.begin).settle
/-- R575: a row's copy completes. -/
def execRowRemapComplete (s : State) : Host.Outcome State Fault Refusal := .next (s.begin.remapDone).settle
/-- R583: the record at the head of the queue is written. -/
def execChronographRecordWrite (result : NvResult) (s : State) : Host.Outcome State Fault Refusal :=
  .next (s.begin.chrWrite result).settle
/-- R579: a write of CHR_SWREC with GO. -/
def execSwrec (v : Word) (s : State) : Host.Outcome State Fault Refusal := .next (s.begin.swRec (v.toNat ||| 2 ^ 31)).settle
/-- R584: a rising edge on SPLIT_IN. -/
def execSplitInEdge (s : State) : Host.Outcome State Fault Refusal := .next (s.begin.splitTrigger true).settle
/-- R584: FIRE. -/
def execFire (s : State) : Host.Outcome State Fault Refusal := .next (s.begin.splitTrigger false).settle
/-- R585: the beat of a local split. -/
def execSplit (s : State) : Host.Outcome State Fault Refusal := .next (s.begin.splitDueNow).settle
/-- R586: the collection ends. -/
def execSplitCollectionDone (s : State) : Host.Outcome State Fault Refusal := .next (s.begin.splitDone).settle
/-- R592: DONECLR. -/
def execDoneclr (s : State) : Host.Outcome State Fault Refusal := .next (s.begin.splitClear).settle

end Sys2Proof.Machine
end

