-- ==== Sys2Proof/Machine/HeadLinkFamily.lean ====
section
/-! DEFINITION. Head links as rows (R353 to R401); camera packets: Machine/ImagingFamily.lean. -/
namespace Sys2Proof.Machine

/-- R365: a TRN slot arrives. -/
def execTrnSlot (nn : Unit24) (slot : TrnSlot) (s : State) : Host.Outcome State Fault Refusal :=
  .next (s.begin.hlTrnSlot nn.val slot).settle
/-- R381: the chosen rate. -/
def execRateSwitch (nn : Unit24) (s : State) : Host.Outcome State Fault Refusal :=
  .next (s.begin.hlRateSwitch nn.val).settle
/-- R382: EQOK both ways. -/
def execEqualiseDone (nn : Unit24) (s : State) : Host.Outcome State Fault Refusal :=
  .next (s.begin.hlEqDone nn.val).settle
/-- R385: a training state times out. -/
def execLinkStateTimeout (nn : Unit24) (s : State) : Host.Outcome State Fault Refusal :=
  .next (s.begin.hlTimeout nn.val).settle
/-- R387: loss of frame. -/
def execLossOfFrame (nn : Unit24) (s : State) : Host.Outcome State Fault Refusal :=
  .next (s.begin.hlLoss nn.val).settle
/-- R374: the exchange repeats. -/
def execTimeTrackExchange (nn : Unit24) (s : State) : Host.Outcome State Fault Refusal :=
  .next (s.begin.hlTrackTime nn.val).settle
/-- R391: CFG entries go again. -/
def execCfgResend (nn : Unit24) (s : State) : Host.Outcome State Fault Refusal :=
  .next (s.begin.hlCfgResend nn.val).settle
/-- R391: no answer in time. -/
def execSvcRetry (nn : Unit24) (s : State) : Host.Outcome State Fault Refusal :=
  .next (s.begin.hlSvcRetry nn.val).settle
/-- R393: the downlink goes idle. -/
def execL0sEntry (nn : Unit24) (s : State) : Host.Outcome State Fault Refusal :=
  .next (s.begin.hlL0s nn.val).settle
/-- R394: a preamble is detected. -/
def execLinkWakeDetect (nn : Unit24) (s : State) : Host.Outcome State Fault Refusal :=
  .next (s.begin.hlWakeDetect nn.val).settle
/-- R377: EN from clear to set. -/
def execLinkEnable (nn : Unit24) (s : State) : Host.Outcome State Fault Refusal :=
  .next (s.begin.hlEnable nn.val).settle
/-- R385: RETRAIN. -/
def execRetrain (nn : Unit24) (s : State) : Host.Outcome State Fault Refusal :=
  .next (s.begin.hlRetrain nn.val).settle
/-- R394: L1REQ. -/
def execL1req (nn : Unit24) (s : State) : Host.Outcome State Fault Refusal :=
  .next (s.begin.hlL1Req nn.val).settle
/-- R394: WAKE. -/
def execWake (nn : Unit24) (s : State) : Host.Outcome State Fault Refusal :=
  .next (s.begin.hlWake nn.val).settle
/-- R365: a TLM slot arrives. -/
def execTlmSlot (nn : Unit24) (slot : TlmSlot) (s : State) : Host.Outcome State Fault Refusal :=
  .next (s.begin.hlTlmSlot nn.val slot).settle
/-- R365: a PD slot arrives. -/
def execPdSlot (nn : Unit24) (slot : PdSlot) (s : State) : Host.Outcome State Fault Refusal :=
  .next (s.begin.hlPdSlot nn.val slot).settle
/-- R366: RESP arrives. -/
def execResp (nn : Unit24) (slot : SvcSlot) (s : State) : Host.Outcome State Fault Refusal :=
  .next (s.begin.hlResp nn.val slot).settle
/-- R373: TRESP arrives. -/
def execHlTresp (nn : Unit24) (slot : TrespSlot) (s : State) : Host.Outcome State Fault Refusal :=
  .next (s.begin.hlTresp nn.val slot).settle
/-- R394: a PM message arrives. -/
def execPm (nn : Unit24) (slot : SvcSlot) (s : State) : Host.Outcome State Fault Refusal :=
  .next (s.begin.hlPm nn.val slot).settle
/-- R383: PEAK tracks. -/
def execEqTrackStep (nn : Unit24) (peak : BitVec 4) (s : State) : Host.Outcome State Fault Refusal :=
  .next (s.begin.hlEqStep nn.val peak.toNat).settle
/-- R401: GO with the word written to HL_SVCCMD. -/
def execSvcGo (nn : Unit24) (v : Word) (s : State) : Host.Outcome State Fault Refusal :=
  .next (s.begin.hlSvcGo nn.val v.toNat).settle

end Sys2Proof.Machine
end

