-- ==== Sys2Proof/Machine/HostFamily.lean ====
section
/-! DEFINITION. Host port, DRAM port and boot as rows (R593 to R613). -/
namespace Sys2Proof.Machine

/-- R594: a memory request of the host. -/
def execHostRequest (bar : Bool) (off : BitVec 32) (acc : Access) (ecc : Ecc) (s : State) : Host.Outcome State Fault Refusal :=
  .next (s.begin.hostRequest bar off.toNat acc ecc).settle
/-- R595: a configuration request. -/
def execConfigRequest (s : State) : Host.Outcome State Fault Refusal := .next (s.begin.configRequest).settle
/-- R610: the link goes up or down. -/
def execPcieLinkChange (up : Bool) (speed : BitVec 3) (width : BitVec 5) (s : State) : Host.Outcome State Fault Refusal :=
  .next (s.begin.pcieLink up speed.toNat width.toNat).settle
/-- R596: a vector is unmasked. -/
def execMsixUnmask (vec : Fin 64) (s : State) : Host.Outcome State Fault Refusal := .next (s.begin.msixUnmask vec.val).settle
/-- R597: GO with the word written. -/
def execDmaGo (ch : Fin 4) (v : Word) (s : State) : Host.Outcome State Fault Refusal := .next (s.begin.dmaGo ch.val v.toNat).settle
/-- R598: STOP. -/
def execDmaStop (ch : Fin 4) (s : State) : Host.Outcome State Fault Refusal :=
  .next (if s.begin.hostLive then s.begin.dmaCut ch.val else s.begin).settle
/-- R597: the last write of a transfer completes. -/
def execDmaDone (ch : Fin 4) (data : List Byte) (ecc : Ecc) (s : State) : Host.Outcome State Fault Refusal :=
  .next (s.begin.dmaDone ch.val data ecc).settle
/-- R598: an error stops a channel. -/
def execDmaError (ch : Fin 4) (hostSide : Bool) (a : Word64) (s : State) : Host.Outcome State Fault Refusal :=
  .next (s.begin.dmaError ch.val hostSide a.toNat).settle
/-- R601, R599: initialisation completes; `d0` and `d1` are the densities of the two channels: 0 for 2 GiB, 1 for 4, 2 for 8. -/
def execDramInitComplete (d0 : Fin 3) (ok : Bool) (s : State) (d1 : Fin 3 := 2) : Host.Outcome State Fault Refusal :=
  .next (s.begin.dramInit (min d0.val d1.val) ok).settle
/-- R603: the ROM reads an image copy. -/
def execFlashBoot (flash : FlashResult) (s : State) : Host.Outcome State Fault Refusal := .next (s.begin.flashBoot flash).settle
/-- R605: SYS_BOOT_CTL.GO. -/
def execBootGo (s : State) : Host.Outcome State Fault Refusal := .next (if s.begin.sysLive then s.begin.bootGo else s.begin).settle
/-- R606: the payload is loaded. -/
def execImageLoaded (s : State) : Host.Outcome State Fault Refusal := .next (s.begin.imageLoaded).settle
/-- R608: a write of SYS_CORE_CTL. -/
def execCoreRun (v : Word) (s : State) : Host.Outcome State Fault Refusal := .next (s.begin.coreRun v.toNat).settle

end Sys2Proof.Machine
end

