-- ==== Sys2Proof/Machine/IlluminationFamily.lean ====
section
/-! DEFINITION. Illumination as rows (R468 to R476). -/
namespace Sys2Proof.Machine

/-- R468: a period starts. -/
def execPwmPeriodStart (ch : Fin 32) (s : State) : Host.Outcome State Fault Refusal := .next (s.begin.pwmStart ch.val).settle
/-- R468: the duty time ends. -/
def execPwmDutyEnd (ch : Fin 32) (s : State) : Host.Outcome State Fault Refusal := .next (s.begin.pwmEnd ch.val).settle
/-- R469: a strobe starts. -/
def execStrobeStart (ch : Fin 32) (s : State) : Host.Outcome State Fault Refusal := .next (s.begin.strobeStart ch.val).settle
/-- R469: a strobe or diagnostic pulse ends. -/
def execStrobeEnd (ch : Fin 32) (s : State) : Host.Outcome State Fault Refusal := .next (s.begin.strobeEnd ch.val).settle
/-- R474: a ball shorted to ground. -/
def execLampShort (ch : Fin 32) (s : State) : Host.Outcome State Fault Refusal := .next (s.begin.lampShort ch.val).settle
/-- R475: a diagnostic pulse. -/
def execDiagPulse (ch : Fin 32) (s : State) : Host.Outcome State Fault Refusal := .next (s.begin.diagPulse ch.val).settle
/-- R475: no valid measurement for 1 s. -/
def execLampUnverified (ch : Fin 32) (s : State) : Host.Outcome State Fault Refusal := .next (s.begin.lampUnverified ch.val).settle
/-- R471: an NTC is converted. -/
def execNtcConversion (c : Fin 4) (ohms : BitVec 32) (s : State) : Host.Outcome State Fault Refusal :=
  .next (s.begin.ntcConvert c.val ohms.toNat).settle
/-- R473: a sink's junction. -/
def execSinkOvertemp (ch : Fin 32) (hot : Bool) (s : State) : Host.Outcome State Fault Refusal :=
  .next (s.begin.sinkTemp ch.val hot).settle
/-- R474: a valid measurement. -/
def execLampMeasurement (ch : Fin 32) (mv : BitVec 16) (s : State) : Host.Outcome State Fault Refusal :=
  .next (s.begin.lampMeasure ch.val mv.toNat).settle
/-- R476: NTEST. -/
def execNtest (s : State) : Host.Outcome State Fault Refusal := .next (s.begin.neighbourTest).settle
/-- R476: the neighbour test ends. -/
def execNeighbourTestDone (shorts : BitVec 31) (s : State) : Host.Outcome State Fault Refusal :=
  .next (s.begin.neighbourDone shorts.toNat).settle

end Sys2Proof.Machine
end

