-- ==== Sys2Proof/Machine/ImagingFamily.lean ====
section
/-! DEFINITION. Imaging as rows (R438 to R458, R368). -/
namespace Sys2Proof.Machine

/-- R368: a packet of the camera stream arrives. -/
def execCameraPacket (nn : Unit24) (pkt : CamPacket) (s : State) : Host.Outcome State Fault Refusal :=
  .next (s.begin.lpePacket nn.val pkt).settle
/-- R441: a Frame Start. -/
def execFrameStart (c : Fin 4) (s : State) : Host.Outcome State Fault Refusal := .next (s.begin.ctxFrameStart c.val).settle
/-- R437: a long packet. -/
def execLinePacket (c : Fin 4) (line : LinePacket) (s : State) : Host.Outcome State Fault Refusal :=
  .next (s.begin.ctxLine c.val line).settle
/-- R437: a Frame End. -/
def execFrameEnd (c : Fin 4) (s : State) : Host.Outcome State Fault Refusal :=
  .next ((if s.begin.imgRuns then s.begin.ctxFrameEnd c.val else s.begin)).settle
/-- R448: an ended frame's outputs are written. -/
def execFrameComplete (c : Fin 4) (ecc : Ecc) (s : State) : Host.Outcome State Fault Refusal :=
  .next (s.begin.ctxComplete c.val ecc).settle
/-- R450: a scheduled trigger. -/
def execCameraTrigger (c : Fin 4) (s : State) : Host.Outcome State Fault Refusal := .next (s.begin.camera c.val false).settle
/-- R450: SOFT. -/
def execSoft (c : Fin 4) (s : State) : Host.Outcome State Fault Refusal := .next (s.begin.camera c.val true).settle
/-- R439: a write of IMG_CTX_REL. -/
def execSlotRelease (c : Fin 4) (v : Word) (s : State) : Host.Outcome State Fault Refusal :=
  .next (s.begin.ctxRelease c.val v.toNat).settle
/-- R462: a write of IMG_CTX_CTL with EN set. -/
def execContextEnable (c : Fin 4) (v : Word) (s : State) : Host.Outcome State Fault Refusal :=
  .next (s.begin.ctxCtlWrite c.val (v.toNat ||| 2 ^ 31)).settle
/-- R458: a record's write completes. -/
def execMprWriteComplete (ecc : Ecc) (s : State) : Host.Outcome State Fault Refusal := .next (s.begin.mprWrite ecc).settle

end Sys2Proof.Machine
end

