-- ==== Sys2Proof/Machine/LaserFamily.lean ====
section
/-! DEFINITION. Setpoint ticks, regulators, laser ports and interlocks as rows (R182, R212 to R239). -/
namespace Sys2Proof.Machine

/-- R182: a setpoint tick: on its beat, in RUN or WAIT; in dry run nothing reaches bridge, heads or dial (R160). -/
def execSetpointTick (n : Unit24) (ecc : Ecc) (s : State) : Host.Outcome State Fault Refusal :=
  let n := n.val
  let t := s.begin
  .next (if t.beat % 200 = 0 && t.sampled n && !t.dry && !t.heldInReset (32 + n) && t.rst.phase == .off then
    t.setpointTick n ecc else t).settle

/-- R227: the fallback that has become due. -/
def execRegulatorFallback (n : Unit24) (s : State) : Host.Outcome State Fault Refusal :=
  let n := n.val
  let t := s.begin
  .next (t.fallNow n).settle

/-- R227: the hand-back of AUTORET that has become due. -/
def execAutoretHandback (n : Unit24) (s : State) : Host.Outcome State Fault Refusal := .next (s.begin.handBack n.val).settle

/-- R233: an open event has reached 0xFFFF ticks. Types: 0 lack of fusion, 1 spatter, 2 overheat. -/
def execEventMaxDuration (n : Unit24) (ty : Fin 3) (s : State) : Host.Outcome State Fault Refusal :=
  let n := n.val
  let t := s.begin
  .next (match (t.reg n).open? (ty.val + 1) with
    | some e => if 0xFFFF ≤ e.dur then t.closeEvent n (ty.val + 1) else t
    | none => t).settle

/-- R234: REG_EVQ_POP.POP. -/
def execEvqPop (n : Unit24) (s : State) : Host.Outcome State Fault Refusal :=
  .next (if s.heldInReset (64 + n.val) then s.begin else s.begin.popEvent n.val).settle

/-- The next DAC update of a port, once due (R214, R237). -/
def State.dacUpdate (s : State) (n : Nat) : State :=
  let p := s.port n
  match p.updates with
  | (b, c) :: t => if b ≤ s.beat then (s.setPort n { p with updates := t }).setDac n c else s
  | [] => s

/-- R214: a DAC update. -/
def execDacUpdate (n : Unit24) (s : State) : Host.Outcome State Fault Refusal := .next (s.begin.dacUpdate n.val).settle

/-- The next gate edge of a port, the timeline's or the field's, once its beat has come (R235, R201). -/
def State.gateEdge (s : State) (n : Nat) : State :=
  let p := s.port n
  let due (t : Nat) : Bool := decide (t ≤ 64 * s.beat + 63)
  let own (t : Nat) (l : Bool) (rest : List (Nat × Bool)) : State :=
    if due t then (s.setPort n { p with edges := rest, want := l }).portRefresh n else s
  let fld (t : Nat) (l : Bool) (rest : List (Nat × Bool)) : State :=
    if due t then (s.setPort n { p with fieldEdges := rest, fieldHeld := !l }).portRefresh n else s
  match p.edges, p.fieldEdges with
  | [], [] => s
  | (t, l) :: rest, [] => own t l rest
  | [], (t, l) :: rest => fld t l rest
  | (t, l) :: rest, (u, k) :: more => if u < t then fld u k more else own t l rest

/-- R235: a gate edge. -/
def execGateEdge (n : Unit24) (s : State) : Host.Outcome State Fault Refusal := .next (s.begin.gateEdge n.val).settle

/-- R238: LALM asserted for 1 µs; a port with EN clear ignores it. -/
def execLaserAlarm (n : Unit24) (s : State) : Host.Outcome State Fault Refusal :=
  let n := n.val
  let t := s.begin.setPin s.sysLive (LP_STAT_ALM n) 1
  .next (if t.flag (LP_CTL_EN n) then (t.set (LP_STAT_ALMSEEN n) 1).raise (laserSrc n 0) else t).settle

/-- R238: the alarm has ended. -/
def execLaserAlarmCleared (n : Unit24) (s : State) : Host.Outcome State Fault Refusal :=
  .next ((s.begin.setPin s.sysLive (LP_STAT_ALM n.val) 0).lower (laserSrc n.val 0)).settle

/-- R238: LRDY deasserted for 1 µs; it raises its source in Expose, on a port with EN set. -/
def execLaserNotReady (n : Unit24) (s : State) : Host.Outcome State Fault Refusal :=
  let n := n.val
  let t := s.begin.setPin s.sysLive (LP_STAT_RDY n) 0
  .next (if t.flag (LP_CTL_EN n) && t.modeCode == mExpose then (t.set (LP_STAT_RDYLOST n) 1).raise (laserSrc n 1) else t).settle

/-- R238: LRDY is asserted again. -/
def execLaserReadyRegained (n : Unit24) (s : State) : Host.Outcome State Fault Refusal :=
  .next ((s.begin.setPin s.sysLive (LP_STAT_RDY n.val) 1).lower (laserSrc n.val 1)).settle

/-- A transition into Armed has been accepted, or the device is in Armed or Expose (R44). -/
def State.armingOrArmed (s : State) : Bool :=
  s.modeCode == mArmed || s.modeCode == mExpose || (match s.mode.trans with | some (r, _) => r.target == mArmed | none => false)

/-- A filtered interlock level changes (R44, R239): FIRST, the sources of A and B, the discrepancy's clock. -/
def State.interlock (s : State) (b level : Bool) : State :=
  let f := if b then LP_ILK_LEVB else LP_ILK_LEVA
  if s.pinLevel f == b2n level then s
  else
    let s1 := s.setPin s.sysLive f (b2n level)
    let code := if b then 2 else 1
    let src := if b then 3 else 2
    -- both channels have dropped on the beat that latched FIRST
    let both := s.ilkFirst == some s.beat && s.get LP_ILK_FIRST == 3 - code
    let s2 := if level then s1.lower src
      else
        let t := if !s.sysLive then s1
          else if s.get LP_ILK_FIRST = 0 then { s1.set LP_ILK_FIRST code with ilkFirst := some s.beat }
          else if both then s1.set LP_ILK_FIRST 3 else s1
        if s.armingOrArmed then t.raise src else t
    if s2.pinLevel LP_ILK_LEVA == s2.pinLevel LP_ILK_LEVB then ({ s2 with ilkDiff := none }).lower 4
    else { s2 with ilkDiff := some s.beat }

/-- R239: the filtered level of LASER_EN_A (false) or LASER_EN_B (true) changes. -/
def execInterlockChange (ch : Bool) (level : Bool) (s : State) : Host.Outcome State Fault Refusal :=
  .next (s.begin.interlock ch level).settle

/-- R238: A and B have differed for longer than DISC. -/
def execInterlockDiscrepancy (s : State) : Host.Outcome State Fault Refusal :=
  let t := s.begin
  let d := t.get LP_ILKCFG_DISC
  .next (match t.ilkDiff with
    | some b => if d ≠ 0 ∧ b + d * beatsPerMs < t.beat then (t.set LP_ILK_DISC 1).raise 4 else t
    | none => t).settle

/-- R239: LP_ILK.CLR. -/
def execIlkClr (s : State) : Host.Outcome State Fault Refusal := .next s.begin.ilkClear.settle

end Sys2Proof.Machine
end

