-- ==== Sys2Proof/Machine/ModeFamily.lean ====
section
/-! DEFINITION. The mode controller as rows (R45 to R58, R146). -/
namespace Sys2Proof.Machine

/-- R45: a write of SYS_MODE_REQ with GO. -/
def execModeRequest (m : Master) (v : Word) (s : State) : Host.Outcome State Fault Refusal :=
  .next (s.begin.modeRequest m.toNat (v.toNat ||| 2 ^ 31)).settle
/-- R47: the completion condition holds. -/
def execModeTransitionComplete (s : State) : Host.Outcome State Fault Refusal := .next (s.begin.transComplete).settle
/-- R47: the pending request starts. -/
def execPendingRequestStart (s : State) : Host.Outcome State Fault Refusal := .next (s.begin.pendingStart).settle
/-- R48: TRANS_TO has passed. -/
def execTransitionTimeout (s : State) : Host.Outcome State Fault Refusal := .next (s.begin.transTimeout).settle
/-- R55: the arming beat. -/
def execArmingBeat (s : State) : Host.Outcome State Fault Refusal := .next (s.begin.armingBeat).settle
/-- R58: every enabled escapement has executed its final HALT. -/
def execLayerComplete (s : State) : Host.Outcome State Fault Refusal := .next (s.begin.layerComplete).settle
/-- R146: a start command reaches its release beat. -/
def execStartBarrierRelease (s : State) : Host.Outcome State Fault Refusal := .next (s.begin.startDueNow).settle

end Sys2Proof.Machine
end

