-- ==== Sys2Proof/Machine/MotionFamily.lean ====
section
/-! DEFINITION. Stepper axes and the barrier link as rows (R483 to R498). -/
namespace Sys2Proof.Machine

/-- R483: MOVE. -/
def execMove (ax : Fin 6) (s : State) : Host.Outcome State Fault Refusal := .next (s.begin.motRow ax.val 1).settle
/-- R483: VEL. -/
def execVel (ax : Fin 6) (s : State) : Host.Outcome State Fault Refusal := .next (s.begin.motRow ax.val 2).settle
/-- R483: STOP. -/
def execAxisStop (ax : Fin 6) (s : State) : Host.Outcome State Fault Refusal := .next (s.begin.motRow ax.val 3).settle
/-- R483: HOME. -/
def execHome (ax : Fin 6) (s : State) : Host.Outcome State Fault Refusal := .next (s.begin.motRow ax.val 4).settle
/-- R483: SETPOS. -/
def execSetpos (ax : Fin 6) (s : State) : Host.Outcome State Fault Refusal := .next (s.begin.motRow ax.val 5).settle
/-- R484: a stamped command's beat. -/
def execStampedStart (ax : Fin 6) (s : State) : Host.Outcome State Fault Refusal := .next (s.begin.motStamped ax.val).settle
/-- R482: the 1 µs profile update. -/
def execProfileUpdate (ax : Fin 6) (s : State) : Host.Outcome State Fault Refusal := .next (s.begin.motUpdate ax.val).settle
/-- R489: a 25 µs PWM period. -/
def execCoilPwmPeriod (ax : Fin 6) (s : State) : Host.Outcome State Fault Refusal := .next (s.begin.coilPeriod ax.val).settle
/-- R491: a load angle measured. -/
def execLoadAngleMeasurement (ax : Fin 6) (lam : BitVec 8) (s : State) : Host.Outcome State Fault Refusal :=
  .next (s.begin.loadAngle ax.val lam.toNat).settle
/-- R492: a stall. -/
def execStall (ax : Fin 6) (s : State) : Host.Outcome State Fault Refusal := .next (s.begin.motStall ax.val).settle
/-- R494: a filtered limit input; `side` is the positive one. -/
def execLimitInput (ax : Fin 6) (side level : Bool) (s : State) : Host.Outcome State Fault Refusal :=
  .next (s.begin.limitInput ax.val side level).settle
/-- R493: a limit input chatters. -/
def execChatterWindow (ax : Fin 6) (_side : Bool) (s : State) : Host.Outcome State Fault Refusal :=
  .next (s.begin.chatterWindow ax.val).settle
/-- R496: HTO passes. -/
def execHomingTimeout (ax : Fin 6) (s : State) : Host.Outcome State Fault Refusal := .next (s.begin.homeTimeout ax.val).settle
/-- R497: a bridge fault. -/
def execDriverFault (ax : Fin 6) (s : State) : Host.Outcome State Fault Refusal := .next (s.begin.driverFault ax.val).settle
/-- R497: the motor bus is measured. -/
def execMotorBusUv (vm : BitVec 16) (s : State) : Host.Outcome State Fault Refusal := .next (s.begin.motorBus vm.toNat).settle
/-- R497: the motor bus is measured. -/
def execMotorBusRestored (vm : BitVec 16) (s : State) : Host.Outcome State Fault Refusal := .next (s.begin.motorBus vm.toNat).settle
/-- R34: the barrier link loses lock. -/
def execBarrierLinkLoss (s : State) : Host.Outcome State Fault Refusal := .next (s.begin.barrierLoss).settle
/-- R34: the barrier link relocks. -/
def execBarrierLinkRelock (s : State) : Host.Outcome State Fault Refusal := .next (s.begin.barrierRelock).settle

end Sys2Proof.Machine
end

