-- ==== Sys2Proof/Machine/ResetFamily.lean ====
section
/-! DEFINITION. Resets, supplies, power states, references as rows (R37, R528 to R556, R631 to R635). -/
namespace Sys2Proof.Machine

/-- A block reset bit of R554 as 32 r + bit. -/
def blockCode (b : BlockId) : Nat := 32 * b.r.val + b.bit.val

/-- A source of R528 asserts or releases with a level. -/
def State.resetLevel (s : State) (k : Nat) (low : Bool) : State := if low then s.assertReset k else s.releaseReset k

/-- A command that a master writes into the system block; outside a reset episode only (R24). -/
def State.sysCmd (s : State) (f : State → State) : State := if s.sysLive then f s else s
/-- R37: REFA is absent. -/
def execRefaFault (s : State) : Host.Outcome State Fault Refusal := .next (s.begin.refA true).settle
/-- R37: REFA is back. -/
def execRefaRestored (s : State) : Host.Outcome State Fault Refusal := .next (s.begin.refA false).settle
/-- R37: REFB is absent. -/
def execRefbFault (s : State) : Host.Outcome State Fault Refusal := .next (s.begin.refB true).settle
/-- R37: REFB is back. -/
def execRefbRestored (s : State) : Host.Outcome State Fault Refusal := .next (s.begin.refB false).settle
/-- R528: VANA or VIO below its power-on level, or not. -/
def execPowerOnReset (level : Bool) (s : State) : Host.Outcome State Fault Refusal := .next (s.begin.resetLevel 0 level).settle
/-- R528: a rail's voltage is below its reset level, or has held `mv` for 50 µs. -/
def execSupplyReset (rr : Fin 8) (level : Bool) (s : State) (mv : BitVec 12 := 0) : Host.Outcome State Fault Refusal :=
  .next (s.begin.railReset rr.val level mv.toNat).settle
/-- R530: the RESET_N ball low, or not. -/
def execResetNInput (level : Bool) (s : State) : Host.Outcome State Fault Refusal := .next (s.begin.resetNInput level).settle
/-- R540: the watchdog expires. -/
def execWatchdogExpiry (s : State) : Host.Outcome State Fault Refusal := .next (s.begin.wdtExpire).settle
/-- R540: KICK. -/
def execKick (s : State) : Host.Outcome State Fault Refusal := .next (s.begin.sysCmd State.wdtKick).settle
/-- R528: WARM. -/
def execWarm (s : State) : Host.Outcome State Fault Refusal := .next (s.begin.sysCmd (fun t => t.rstCmd 1)).settle
/-- R553: CNTCLR. -/
def execCntclr (s : State) : Host.Outcome State Fault Refusal := .next (s.begin.sysCmd (fun t => t.rstCmd 2)).settle
/-- R528: a PCIe hot reset, or its end. -/
def execPcieHotReset (level : Bool) (s : State) : Host.Outcome State Fault Refusal := .next (s.begin.hotReset level).settle
/-- R528: a function-level reset. -/
def execFunctionLevelReset (s : State) : Host.Outcome State Fault Refusal := .next (s.begin.blockReset 139).settle
/-- R528: the backup domain's supply below 1.8 V, or not. -/
def execBackupDomainLoss (level : Bool) (s : State) : Host.Outcome State Fault Refusal := .next (s.begin.backupLoss level).settle
/-- R632: the backup domain starts. -/
def execBackupDomainStart (s : State) : Host.Outcome State Fault Refusal := .next (s.begin.backupStart).settle
/-- R530: the drive of RESET_N ends. -/
def execResetDriveRelease (s : State) : Host.Outcome State Fault Refusal := .next (s.begin.releaseDrive).settle
/-- R531: the internal reset ends. -/
def execResetRelease (s : State) : Host.Outcome State Fault Refusal := .next (s.begin.endReset).settle
/-- R531: the PLLs lock. -/
def execPllLocked (s : State) : Host.Outcome State Fault Refusal := .next (s.begin.pllLock).settle
/-- R524: Load commits. -/
def execLoadCommit (s : State) : Host.Outcome State Fault Refusal := .next (s.begin.commitLoad).settle
/-- R534: a write of SYS_BRST_r. -/
def execBlockReset (r : Fin 5) (v : Word) (s : State) : Host.Outcome State Fault Refusal :=
  .next (s.begin.sysCmd (fun t => t.brstWrite r.val v.toNat)).settle
/-- R534: a block reset ends. -/
def execBlockResetEnd (blk : BlockId) (s : State) : Host.Outcome State Fault Refusal := .next (s.begin.blockEnd (blockCode blk)).settle
/-- R572: a block's sources are unmasked. -/
def execFaultMaskLift (blk : BlockId) (s : State) : Host.Outcome State Fault Refusal := .next (s.begin.maskLift (blockCode blk)).settle
/-- R573: ESCWIN has passed. -/
def execEscalationWindow (blk : BlockId) (s : State) : Host.Outcome State Fault Refusal := .next (s.begin.escOver (blockCode blk)).settle
/-- R542: a rail falls below its warning level. -/
def execRailBelowWarning (rr : Fin 8) (mv : BitVec 12) (s : State) : Host.Outcome State Fault Refusal :=
  .next (s.begin.railBelow rr.val mv.toNat).settle
/-- R542: 2 µs below. -/
def execSupplyDip (rr : Fin 8) (s : State) : Host.Outcome State Fault Refusal := .next (s.begin.railDip rr.val).settle
/-- R542: a rail rises above its warning level. -/
def execRailAboveWarning (rr : Fin 8) (s : State) (mv : BitVec 12 := 0xFFF) : Host.Outcome State Fault Refusal :=
  .next (s.begin.railAbove rr.val mv.toNat).settle
/-- R542: a rail has held `mv` for 50 µs. -/
def execSupplyRecovered (rr : Fin 8) (s : State) (mv : BitVec 12 := 0xFFF) : Host.Outcome State Fault Refusal :=
  .next (s.begin.railRecovered rr.val mv.toNat).settle
/-- R543: RESUME. -/
def execResumeSupply (s : State) : Host.Outcome State Fault Refusal := .next (s.begin.sysCmd State.supResume).settle
/-- R546: a slack report. -/
def execAvsSlackReport (slack : BitVec 16) (s : State) : Host.Outcome State Fault Refusal :=
  .next (s.begin.avsSlack slack.toNat).settle
/-- R545: the regulator answers. -/
def execAvsResponse (ok : Bool) (s : State) : Host.Outcome State Fault Refusal := .next (s.begin.avsAnswer ok).settle
/-- R547: no answer in 10 µs. -/
def execAvsTimeout (s : State) : Host.Outcome State Fault Refusal := .next (s.begin.avsTimeout).settle
/-- R549: the entry completes. -/
def execLpEntryComplete (s : State) : Host.Outcome State Fault Refusal := .next (s.begin.lpEnter).settle
/-- R550: a wake source, filtered. -/
def execWakeEvent (src : WakeSrc) (s : State) : Host.Outcome State Fault Refusal := .next (s.begin.wake (wakeCode src)).settle
/-- R550: SYS_LP_TIMER has passed. -/
def execWakeTimer (s : State) : Host.Outcome State Fault Refusal := .next (s.begin.wakeTimer).settle
/-- R551: the wake is complete. -/
def execWakeComplete (s : State) : Host.Outcome State Fault Refusal := .next (s.begin.wakeDone).settle
/-- R632: the next PWR_EN rises. -/
def execPwrEnRaise (s : State) : Host.Outcome State Fault Refusal := .next (s.begin.pwrRaise).settle
/-- R634: a group misses its levels. -/
def execPowerSequenceTimeout (s : State) : Host.Outcome State Fault Refusal := .next (s.begin.pwrTimeout).settle
/-- R634: sequencing restarts. -/
def execPowerSequenceRestart (s : State) : Host.Outcome State Fault Refusal := .next (s.begin.pwrRestart).settle
/-- R631: a die's temperature. -/
def execTempUpdate (d : Fin 3) (t : BitVec 16) (s : State) : Host.Outcome State Fault Refusal :=
  .next (s.begin.dieTemp d.val t.toNat).settle
/-- R556: a second of AON time. -/
def execHoursCounterTick (s : State) : Host.Outcome State Fault Refusal := .next (s.begin.hoursTick).settle

end Sys2Proof.Machine
end

