-- ==== Sys2Proof/Machine/SkeuzFamily.lean ====
section
/-! DEFINITION. The Skeuz fabric as rows (R404 to R433). -/
namespace Sys2Proof.Machine

/-- The command due now, if its CMD is `cmd`, acts with its CARG (R427). -/
def State.bcast (s : State) (cmd : Nat) (act : State → Nat → State) : State :=
  match s.skDue cmd with
  | some (c, t) => act t c.carg
  | none => s
/-- R404: block lock is held and 64 good flits have come. -/
def execPortUp (p : Fin 4) (s : State) : Host.Outcome State Fault Refusal := .next (s.begin.skPortUp p.val).settle
/-- R404: 50 ms without UP. -/
def execPortTrainTimeout (p : Fin 4) (s : State) : Host.Outcome State Fault Refusal := .next (s.begin.skTrainTimeout p.val).settle
/-- R404: block lock is lost. -/
def execPortDown (p : Fin 4) (s : State) : Host.Outcome State Fault Refusal := .next (s.begin.skLoseLock p.val).settle
/-- R404: RETRAIN. -/
def execPortRetrain (p : Fin 4) (s : State) : Host.Outcome State Fault Refusal := .next (s.begin.skRetrain p.val).settle
/-- R404: a write of SKZ_PCTL with EN set. -/
def execPortEnable (p : Fin 4) (v : Word) (s : State) : Host.Outcome State Fault Refusal :=
  .next (s.begin.skCtlWrite p.val (v.toNat ||| 1)).settle
/-- R407: LACK has not advanced. -/
def execReplay (p : Fin 4) (s : State) : Host.Outcome State Fault Refusal := .next (s.begin.skReplay p.val).settle
/-- R406: an IDLE arrives. -/
def execIdle (p : Fin 4) (h : LinkHead) (s : State) : Host.Outcome State Fault Refusal := .next (s.begin.skIdleArrive p.val h).settle
/-- R411: a HELLO arrives. -/
def execHello (p : Fin 4) (h : LinkHead) (f : HelloFlit) (s : State) : Host.Outcome State Fault Refusal :=
  .next (s.begin.skHello p.val h f).settle
/-- R411: HELLO leaves on every UP port. -/
def execHelloSend (s : State) : Host.Outcome State Fault Refusal := .next (s.begin.helloSend).settle
/-- R412: a TOPO arrives. -/
def execTopo (p : Fin 4) (h : LinkHead) (f : TopoFlit) (s : State) : Host.Outcome State Fault Refusal :=
  .next (s.begin.skTopo p.val h f).settle
/-- R412: the own TOPO leaves. -/
def execTopoSend (s : State) : Host.Outcome State Fault Refusal := .next (s.begin.topoSend).settle
/-- R412: the timekeeper assigns addresses. -/
def execAddressAssign (s : State) : Host.Outcome State Fault Refusal := .next (s.begin.addressAssign).settle
/-- R413: an ASSIGN arrives. -/
def execAssign (p : Fin 4) (h : LinkHead) (f : AssignFlit) (s : State) : Host.Outcome State Fault Refusal :=
  .next (s.begin.skAssign p.val h f).settle
/-- R414: JOINTO has passed. -/
def execJoinTimeout (s : State) : Host.Outcome State Fault Refusal := .next (s.begin.joinTimeout).settle
/-- R417: a read request arrives. -/
def execRreq (p : Fin 4) (h : LinkHead) (f : ReqFlit) (s : State) (ecc : Ecc := .clean) : Host.Outcome State Fault Refusal :=
  .next (s.begin.skRequest false p.val h f ecc).settle
/-- R417: a write request arrives. -/
def execWreq (p : Fin 4) (h : LinkHead) (f : ReqFlit) (s : State) (ecc : Ecc := .clean) : Host.Outcome State Fault Refusal :=
  .next (s.begin.skRequest true p.val h f ecc).settle
/-- R417: a read response arrives. -/
def execRrsp (p : Fin 4) (h : LinkHead) (f : RspFlit) (s : State) : Host.Outcome State Fault Refusal :=
  .next (s.begin.skResponse 0x12 p.val h f).settle
/-- R417: a write response arrives. -/
def execWrsp (p : Fin 4) (h : LinkHead) (f : RspFlit) (s : State) : Host.Outcome State Fault Refusal :=
  .next (s.begin.skResponse 0x13 p.val h f).settle
/-- R421: a TSYNC arrives. -/
def execTsync (p : Fin 4) (h : LinkHead) (f : TimeFlit) (s : State) : Host.Outcome State Fault Refusal :=
  .next (s.begin.skTsync p.val h f).settle
/-- R421: a TRESP arrives. -/
def execTresp (p : Fin 4) (h : LinkHead) (f : TimeFlit) (s : State) : Host.Outcome State Fault Refusal :=
  .next (s.begin.skTresp p.val h f).settle
/-- R423: a TSYNC leaves. -/
def execTimeSyncExchange (s : State) : Host.Outcome State Fault Refusal := .next (s.begin.timeExchange).settle
/-- R425: a BCAST arrives. -/
def execBcast (p : Fin 4) (h : LinkHead) (f : BcastFlit) (s : State) : Host.Outcome State Fault Refusal :=
  .next (s.begin.skBcast p.val h f).settle
/-- R426: START on its stamp. -/
def execBcastStart (s : State) : Host.Outcome State Fault Refusal := .next (s.begin.bcast 1 (fun t _ => t.startRelease)).settle
/-- R51: MODE on its stamp. -/
def execBcastMode (s : State) : Host.Outcome State Fault Refusal := .next (s.begin.bcast 2 State.bcastMode).settle
/-- R426: SPLIT on its stamp. -/
def execBcastSplit (s : State) : Host.Outcome State Fault Refusal := .next (s.begin.bcast 3 (fun t k => t.splitTake (k % 256))).settle
/-- R426: RESET on its stamp: bit n of CARG names device n, and SKZEN enables it. -/
def execBcastReset (s : State) : Host.Outcome State Fault Refusal :=
  .next (s.begin.bcast 4 (fun t k => if t.flag SYS_RST_CFG_SKZEN && k.testBit t.skAddr then t.pulseReset 5 else t)).settle
/-- R151: RELEASE on its stamp. -/
def execBcastRelease (s : State) : Host.Outcome State Fault Refusal :=
  .next (s.begin.bcast 8 (fun t k => t.barRelease (16 + k % 16))).settle
/-- R153: ABORT on its stamp. -/
def execBcastAbort (s : State) : Host.Outcome State Fault Refusal :=
  .next (s.begin.bcast 9 (fun t k => t.barFail (16 + k % 16))).settle
/-- R414: JOINED on its stamp. -/
def execBcastJoined (s : State) : Host.Outcome State Fault Refusal := .next (s.begin.bcast 0xA State.joined).settle
/-- R433: a write of SKZ_BCMD with START. -/
def execBcmdStart (v : Word) (s : State) : Host.Outcome State Fault Refusal := .next (s.begin.bcmdRow 1 v.toNat).settle
/-- R433: a write of SKZ_BCMD with MODE. -/
def execBcmdMode (v : Word) (s : State) : Host.Outcome State Fault Refusal := .next (s.begin.bcmdRow 2 v.toNat).settle
/-- R433: a write of SKZ_BCMD with SPLIT. -/
def execBcmdSplit (v : Word) (s : State) : Host.Outcome State Fault Refusal := .next (s.begin.bcmdRow 3 v.toNat).settle
/-- R433: a write of SKZ_BCMD with RESET. -/
def execBcmdReset (v : Word) (s : State) : Host.Outcome State Fault Refusal := .next (s.begin.bcmdRow 4 v.toNat).settle
/-- R428: a REPORT arrives. -/
def execReportBarrierReady (p : Fin 4) (h : LinkHead) (f : ReportFlit) (s : State) : Host.Outcome State Fault Refusal :=
  .next (s.begin.skReportArrive 1 p.val h f).settle
/-- R428: a REPORT arrives. -/
def execReportLayerJoined (p : Fin 4) (h : LinkHead) (f : ReportFlit) (s : State) : Host.Outcome State Fault Refusal :=
  .next (s.begin.skReportArrive 2 p.val h f).settle
/-- R428: a REPORT arrives. -/
def execReportLayerDone (p : Fin 4) (h : LinkHead) (f : ReportFlit) (s : State) : Host.Outcome State Fault Refusal :=
  .next (s.begin.skReportArrive 3 p.val h f).settle
/-- R414: a REPORT arrives. -/
def execReportJoinReady (p : Fin 4) (h : LinkHead) (f : ReportFlit) (s : State) : Host.Outcome State Fault Refusal :=
  .next (s.begin.skReportArrive 4 p.val h f).settle
/-- R269: a DDEP arrives. -/
def execDdep (p : Fin 4) (h : LinkHead) (f : DdepFlit) (s : State) : Host.Outcome State Fault Refusal :=
  .next (s.begin.skDdep p.val h f).settle
/-- R429: a DDEP leaves. -/
def execDdepFlush (peer : Fin 8) (s : State) : Host.Outcome State Fault Refusal := .next (s.begin.ddepFlush peer.val).settle

end Sys2Proof.Machine
end

