-- ==== Sys2Proof/Machine/Dispatch.lean ====
section
/-! DEFINITION. One arm per command: the direct call of its meaning. -/
namespace Sys2Proof.Machine

/-- The effect of a command on everything but the queue. -/
def exec (i : Instr) (s : State) : Host.Outcome State Fault Refusal :=
  match i with
  | .registerWrite m a v => Sys2Proof.Machine.execRegisterWrite m a v s
  | .rcRead m a => Sys2Proof.Machine.execRcRead m a s
  | .loReadLatch m a => Sys2Proof.Machine.execLoReadLatch m a s
  | .memoryAccess m a acc ecc => Sys2Proof.Machine.execMemoryAccess m a acc ecc s
  | .fabricWindowAccess m a acc => Sys2Proof.Machine.execFabricWindowAccess m a acc s
  | .remoteTimeout tag => Sys2Proof.Machine.execRemoteTimeout tag s
  | .refaFault => Sys2Proof.Machine.execRefaFault s
  | .refbFault => Sys2Proof.Machine.execRefbFault s
  | .barrierLinkLoss => Sys2Proof.Machine.execBarrierLinkLoss s
  | .barrierLinkRelock => Sys2Proof.Machine.execBarrierLinkRelock s
  | .modeRequest m v => Sys2Proof.Machine.execModeRequest m v s
  | .modeTransitionComplete => Sys2Proof.Machine.execModeTransitionComplete s
  | .pendingRequestStart => Sys2Proof.Machine.execPendingRequestStart s
  | .transitionTimeout => Sys2Proof.Machine.execTransitionTimeout s
  | .armingBeat => Sys2Proof.Machine.execArmingBeat s
  | .layerComplete => Sys2Proof.Machine.execLayerComplete s
  | .mark nn b w1 => Sys2Proof.Machine.execMark nn b w1 s
  | .jump nn b w1 => Sys2Proof.Machine.execJump nn b w1 s
  | .arc nn b w1 => Sys2Proof.Machine.execArc nn b w1 s
  | .spln nn b w1 => Sys2Proof.Machine.execSpln nn b w1 s
  | .dwell nn b w1 => Sys2Proof.Machine.execDwell nn b w1 s
  | .sky nn b => Sys2Proof.Machine.execSky nn b s
  | .power nn b => Sys2Proof.Machine.execPower nn b s
  | .speed nn b => Sys2Proof.Machine.execSpeed nn b s
  | .wobble nn b => Sys2Proof.Machine.execWobble nn b s
  | .delays nn b => Sys2Proof.Machine.execDelays nn b s
  | .waitt nn b w1 => Sys2Proof.Machine.execWaitt nn b w1 s
  | .waittEnd nn => Sys2Proof.Machine.execWaittEnd nn s
  | .sync nn b => Sys2Proof.Machine.execSync nn b s
  | .await nn b w1 => Sys2Proof.Machine.execAwait nn b w1 s
  | .awaitTimeout nn => Sys2Proof.Machine.execAwaitTimeout nn s
  | .claim nn b => Sys2Proof.Machine.execClaim nn b s
  | .claimTimeout nn => Sys2Proof.Machine.execClaimTimeout nn s
  | .yield nn b => Sys2Proof.Machine.execYield nn b s
  | .float nn b => Sys2Proof.Machine.execFloat nn b s
  | .dialq nn b ecc => Sys2Proof.Machine.execDialq nn b ecc s
  | .tag nn b => Sys2Proof.Machine.execTag nn b s
  | .layer nn b => Sys2Proof.Machine.execLayer nn b s
  | .br nn b => Sys2Proof.Machine.execBr nn b s
  | .call nn b => Sys2Proof.Machine.execCall nn b s
  | .ret nn b => Sys2Proof.Machine.execRet nn b s
  | .loop nn b => Sys2Proof.Machine.execLoop nn b s
  | .halt nn b => Sys2Proof.Machine.execHalt nn b s
  | .haltComplete nn => Sys2Proof.Machine.execHaltComplete nn s
  | .trap nn b => Sys2Proof.Machine.execTrap nn b s
  | .ldi nn b => Sys2Proof.Machine.execLdi nn b s
  | .ld nn b w1 => Sys2Proof.Machine.execLd nn b w1 s
  | .loadComplete nn ecc => Sys2Proof.Machine.execLoadComplete nn ecc s
  | .st nn b w1 => Sys2Proof.Machine.execSt nn b w1 s
  | .storeComplete nn ecc => Sys2Proof.Machine.execStoreComplete nn ecc s
  | .mov nn b => Sys2Proof.Machine.execMov nn b s
  | .add nn b => Sys2Proof.Machine.execAdd nn b s
  | .sub nn b => Sys2Proof.Machine.execSub nn b s
  | .and nn b => Sys2Proof.Machine.execAnd nn b s
  | .or nn b => Sys2Proof.Machine.execOr nn b s
  | .xor nn b => Sys2Proof.Machine.execXor nn b s
  | .shl nn b => Sys2Proof.Machine.execShl nn b s
  | .shr nn b => Sys2Proof.Machine.execShr nn b s
  | .sra nn b => Sys2Proof.Machine.execSra nn b s
  | .mul nn b => Sys2Proof.Machine.execMul nn b s
  | .mulh nn b => Sys2Proof.Machine.execMulh nn b s
  | .min nn b => Sys2Proof.Machine.execMin nn b s
  | .max nn b => Sys2Proof.Machine.execMax nn b s
  | .cmp nn b => Sys2Proof.Machine.execCmp nn b s
  | .tst nn b => Sys2Proof.Machine.execTst nn b s
  | .fadd nn b => Sys2Proof.Machine.execFadd nn b s
  | .faddSub nn b => Sys2Proof.Machine.execFaddSub nn b s
  | .faddMin nn b => Sys2Proof.Machine.execFaddMin nn b s
  | .faddMax nn b => Sys2Proof.Machine.execFaddMax nn b s
  | .fmul nn b => Sys2Proof.Machine.execFmul nn b s
  | .fma nn b => Sys2Proof.Machine.execFma nn b s
  | .fmaSub nn b => Sys2Proof.Machine.execFmaSub nn b s
  | .i2f nn b => Sys2Proof.Machine.execI2f nn b s
  | .f2i nn b => Sys2Proof.Machine.execF2i nn b s
  | .f2ir nn b => Sys2Proof.Machine.execF2ir nn b s
  | .p2f nn b => Sys2Proof.Machine.execP2f nn b s
  | .f2p nn b => Sys2Proof.Machine.execF2p nn b s
  | .fetchLineReturn nn a ecc => Sys2Proof.Machine.execFetchLineReturn nn a ecc s
  | .prefetchComplete nn => Sys2Proof.Machine.execPrefetchComplete nn s
  | .segmentCommit nn => Sys2Proof.Machine.execSegmentCommit nn s
  | .segmentEnd nn => Sys2Proof.Machine.execSegmentEnd nn s
  | .drainEnd nn => Sys2Proof.Machine.execDrainEnd nn s
  | .retargetStopEnd nn => Sys2Proof.Machine.execRetargetStopEnd nn s
  | .returnEnd nn => Sys2Proof.Machine.execReturnEnd nn s
  | .timelineRestart nn => Sys2Proof.Machine.execTimelineRestart nn s
  | .startCommand => Sys2Proof.Machine.execStartCommand s
  | .startBarrierRelease => Sys2Proof.Machine.execStartBarrierRelease s
  | .deviceBarrierRelease g => Sys2Proof.Machine.execDeviceBarrierRelease g s
  | .deviceBarrierTimeout g => Sys2Proof.Machine.execDeviceBarrierTimeout g s
  | .fabricBarrierDecision g => Sys2Proof.Machine.execFabricBarrierDecision g s
  | .fabricBarrierTimeout g => Sys2Proof.Machine.execFabricBarrierTimeout g s
  | .fabricBarrierLocalTimeout g => Sys2Proof.Machine.execFabricBarrierLocalTimeout g s
  | .evset nn v => Sys2Proof.Machine.execEvset nn v s
  | .evfire v => Sys2Proof.Machine.execEvfire v s
  | .alarmMatch nn => Sys2Proof.Machine.execAlarmMatch nn s
  | .start nn => Sys2Proof.Machine.execStart nn s
  | .stop nn => Sys2Proof.Machine.execStop nn s
  | .resume nn => Sys2Proof.Machine.execResume nn s
  | .step nn => Sys2Proof.Machine.execStep nn s
  | .flush nn => Sys2Proof.Machine.execFlush nn s
  | .gcmdStart mask => Sys2Proof.Machine.execGcmdStart mask s
  | .gcmdStop mask => Sys2Proof.Machine.execGcmdStop mask s
  | .gcmdResume mask => Sys2Proof.Machine.execGcmdResume mask s
  | .enableWrite nn v => Sys2Proof.Machine.execEnableWrite nn v s
  | .setpointTick nn ecc => Sys2Proof.Machine.execSetpointTick nn ecc s
  | .regulatorFallback nn => Sys2Proof.Machine.execRegulatorFallback nn s
  | .autoretHandback nn => Sys2Proof.Machine.execAutoretHandback nn s
  | .eventMaxDuration nn ty => Sys2Proof.Machine.execEventMaxDuration nn ty s
  | .evqPop nn => Sys2Proof.Machine.execEvqPop nn s
  | .dacUpdate nn => Sys2Proof.Machine.execDacUpdate nn s
  | .gateEdge nn => Sys2Proof.Machine.execGateEdge nn s
  | .laserAlarm nn => Sys2Proof.Machine.execLaserAlarm nn s
  | .laserNotReady nn => Sys2Proof.Machine.execLaserNotReady nn s
  | .interlockChange ch level => Sys2Proof.Machine.execInterlockChange ch level s
  | .interlockDiscrepancy => Sys2Proof.Machine.execInterlockDiscrepancy s
  | .ilkClr => Sys2Proof.Machine.execIlkClr s
  | .depositCommit ecc => Sys2Proof.Machine.execDepositCommit ecc s
  | .sweepSlot tile ecc => Sys2Proof.Machine.execSweepSlot tile ecc s
  | .clear => Sys2Proof.Machine.execClear s
  | .clearComplete => Sys2Proof.Machine.execClearComplete s
  | .rebase => Sys2Proof.Machine.execRebase s
  | .rebaseComplete ecc => Sys2Proof.Machine.execRebaseComplete s ecc
  | .dialPeek m ecc => Sys2Proof.Machine.execDialPeek m ecc s
  | .peerCheckResult k answer => Sys2Proof.Machine.execPeerCheckResult k answer s
  | .bridgeBeat => Sys2Proof.Machine.execBridgeBeat s
  | .poolRecordArrive nn ecc => Sys2Proof.Machine.execPoolRecordArrive nn ecc s
  | .holdTimeout nn => Sys2Proof.Machine.execHoldTimeout nn s
  | .reservationExpire nn => Sys2Proof.Machine.execReservationExpire nn s
  | .jobDispatch head => Sys2Proof.Machine.execJobDispatch head s
  | .commandRelease head => Sys2Proof.Machine.execCommandRelease head s
  | .balNop ax pc => Sys2Proof.Machine.execBalNop ax pc s
  | .balFma ax pc => Sys2Proof.Machine.execBalFma ax pc s
  | .balFms ax pc => Sys2Proof.Machine.execBalFms ax pc s
  | .balMulr ax pc => Sys2Proof.Machine.execBalMulr ax pc s
  | .balAdd ax pc => Sys2Proof.Machine.execBalAdd ax pc s
  | .balSub ax pc => Sys2Proof.Machine.execBalSub ax pc s
  | .balMin ax pc => Sys2Proof.Machine.execBalMin ax pc s
  | .balMax ax pc => Sys2Proof.Machine.execBalMax ax pc s
  | .balClmp ax pc => Sys2Proof.Machine.execBalClmp ax pc s
  | .balSel ax pc => Sys2Proof.Machine.execBalSel ax pc s
  | .balTbl ax pc => Sys2Proof.Machine.execBalTbl ax pc s
  | .balSgn ax pc => Sys2Proof.Machine.execBalSgn ax pc s
  | .telemetryLoss head => Sys2Proof.Machine.execTelemetryLoss head s
  | .servoTracking ax => Sys2Proof.Machine.execServoTracking ax s
  | .approachEnd ax => Sys2Proof.Machine.execApproachEnd ax s
  | .axisClose ax => Sys2Proof.Machine.execAxisClose ax s
  | .axisOpen ax => Sys2Proof.Machine.execAxisOpen ax s
  | .swapRequest w v => Sys2Proof.Machine.execSwapRequest w v s
  | .rateWrite v => Sys2Proof.Machine.execRateWrite v s
  | .injectionRun g v => Sys2Proof.Machine.execInjectionRun g v s
  | .injectionStop g => Sys2Proof.Machine.execInjectionStop g s
  | .captureStart c v => Sys2Proof.Machine.execCaptureStart c v s
  | .captureStop c => Sys2Proof.Machine.execCaptureStop c s
  | .captureWriteComplete c ecc => Sys2Proof.Machine.execCaptureWriteComplete c ecc s
  | .trnSlot nn slot => Sys2Proof.Machine.execTrnSlot nn slot s
  | .rateSwitch nn => Sys2Proof.Machine.execRateSwitch nn s
  | .equaliseDone nn => Sys2Proof.Machine.execEqualiseDone nn s
  | .linkStateTimeout nn => Sys2Proof.Machine.execLinkStateTimeout nn s
  | .tlmSlot nn slot => Sys2Proof.Machine.execTlmSlot nn slot s
  | .pdSlot nn slot => Sys2Proof.Machine.execPdSlot nn slot s
  | .cameraPacket nn pkt => Sys2Proof.Machine.execCameraPacket nn pkt s
  | .resp nn slot => Sys2Proof.Machine.execResp nn slot s
  | .hlTresp nn slot => Sys2Proof.Machine.execHlTresp nn slot s
  | .pm nn slot => Sys2Proof.Machine.execPm nn slot s
  | .lossOfFrame nn => Sys2Proof.Machine.execLossOfFrame nn s
  | .timeTrackExchange nn => Sys2Proof.Machine.execTimeTrackExchange nn s
  | .eqTrackStep nn peak => Sys2Proof.Machine.execEqTrackStep nn peak s
  | .cfgResend nn => Sys2Proof.Machine.execCfgResend nn s
  | .svcRetry nn => Sys2Proof.Machine.execSvcRetry nn s
  | .l0sEntry nn => Sys2Proof.Machine.execL0sEntry nn s
  | .linkWakeDetect nn => Sys2Proof.Machine.execLinkWakeDetect nn s
  | .linkEnable nn => Sys2Proof.Machine.execLinkEnable nn s
  | .retrain nn => Sys2Proof.Machine.execRetrain nn s
  | .l1req nn => Sys2Proof.Machine.execL1req nn s
  | .wake nn => Sys2Proof.Machine.execWake nn s
  | .svcGo nn v => Sys2Proof.Machine.execSvcGo nn v s
  | .portUp p => Sys2Proof.Machine.execPortUp p s
  | .portTrainTimeout p => Sys2Proof.Machine.execPortTrainTimeout p s
  | .portDown p => Sys2Proof.Machine.execPortDown p s
  | .replay p => Sys2Proof.Machine.execReplay p s
  | .portRetrain p => Sys2Proof.Machine.execPortRetrain p s
  | .idle p h => Sys2Proof.Machine.execIdle p h s
  | .hello p h f => Sys2Proof.Machine.execHello p h f s
  | .helloSend => Sys2Proof.Machine.execHelloSend s
  | .topo p h f => Sys2Proof.Machine.execTopo p h f s
  | .topoSend => Sys2Proof.Machine.execTopoSend s
  | .addressAssign => Sys2Proof.Machine.execAddressAssign s
  | .assign p h f => Sys2Proof.Machine.execAssign p h f s
  | .joinTimeout => Sys2Proof.Machine.execJoinTimeout s
  | .rreq p h f ecc => Sys2Proof.Machine.execRreq p h f s ecc
  | .wreq p h f ecc => Sys2Proof.Machine.execWreq p h f s ecc
  | .rrsp p h f => Sys2Proof.Machine.execRrsp p h f s
  | .wrsp p h f => Sys2Proof.Machine.execWrsp p h f s
  | .tsync p h f => Sys2Proof.Machine.execTsync p h f s
  | .tresp p h f => Sys2Proof.Machine.execTresp p h f s
  | .timeSyncExchange => Sys2Proof.Machine.execTimeSyncExchange s
  | .bcast p h f => Sys2Proof.Machine.execBcast p h f s
  | .bcastStart => Sys2Proof.Machine.execBcastStart s
  | .bcastMode => Sys2Proof.Machine.execBcastMode s
  | .bcastSplit => Sys2Proof.Machine.execBcastSplit s
  | .bcastReset => Sys2Proof.Machine.execBcastReset s
  | .bcastRelease => Sys2Proof.Machine.execBcastRelease s
  | .bcastAbort => Sys2Proof.Machine.execBcastAbort s
  | .bcastJoined => Sys2Proof.Machine.execBcastJoined s
  | .bcmdStart v => Sys2Proof.Machine.execBcmdStart v s
  | .bcmdMode v => Sys2Proof.Machine.execBcmdMode v s
  | .bcmdSplit v => Sys2Proof.Machine.execBcmdSplit v s
  | .bcmdReset v => Sys2Proof.Machine.execBcmdReset v s
  | .reportBarrierReady p h f => Sys2Proof.Machine.execReportBarrierReady p h f s
  | .reportLayerJoined p h f => Sys2Proof.Machine.execReportLayerJoined p h f s
  | .reportLayerDone p h f => Sys2Proof.Machine.execReportLayerDone p h f s
  | .reportJoinReady p h f => Sys2Proof.Machine.execReportJoinReady p h f s
  | .ddep p h f => Sys2Proof.Machine.execDdep p h f s
  | .ddepFlush peer => Sys2Proof.Machine.execDdepFlush peer s
  | .frameStart c => Sys2Proof.Machine.execFrameStart c s
  | .linePacket c line => Sys2Proof.Machine.execLinePacket c line s
  | .frameEnd c => Sys2Proof.Machine.execFrameEnd c s
  | .frameComplete c ecc => Sys2Proof.Machine.execFrameComplete c ecc s
  | .cameraTrigger c => Sys2Proof.Machine.execCameraTrigger c s
  | .soft c => Sys2Proof.Machine.execSoft c s
  | .slotRelease c v => Sys2Proof.Machine.execSlotRelease c v s
  | .contextEnable c v => Sys2Proof.Machine.execContextEnable c v s
  | .mprWriteComplete ecc => Sys2Proof.Machine.execMprWriteComplete ecc s
  | .pwmPeriodStart ch => Sys2Proof.Machine.execPwmPeriodStart ch s
  | .pwmDutyEnd ch => Sys2Proof.Machine.execPwmDutyEnd ch s
  | .strobeStart ch => Sys2Proof.Machine.execStrobeStart ch s
  | .strobeEnd ch => Sys2Proof.Machine.execStrobeEnd ch s
  | .ntcConversion c ohms => Sys2Proof.Machine.execNtcConversion c ohms s
  | .sinkOvertemp ch hot => Sys2Proof.Machine.execSinkOvertemp ch hot s
  | .lampMeasurement ch mv => Sys2Proof.Machine.execLampMeasurement ch mv s
  | .lampShort ch => Sys2Proof.Machine.execLampShort ch s
  | .diagPulse ch => Sys2Proof.Machine.execDiagPulse ch s
  | .lampUnverified ch => Sys2Proof.Machine.execLampUnverified ch s
  | .ntest => Sys2Proof.Machine.execNtest s
  | .neighbourTestDone shorts => Sys2Proof.Machine.execNeighbourTestDone shorts s
  | .move ax => Sys2Proof.Machine.execMove ax s
  | .vel ax => Sys2Proof.Machine.execVel ax s
  | .axisStop ax => Sys2Proof.Machine.execAxisStop ax s
  | .home ax => Sys2Proof.Machine.execHome ax s
  | .setpos ax => Sys2Proof.Machine.execSetpos ax s
  | .stampedStart ax => Sys2Proof.Machine.execStampedStart ax s
  | .profileUpdate ax => Sys2Proof.Machine.execProfileUpdate ax s
  | .coilPwmPeriod ax => Sys2Proof.Machine.execCoilPwmPeriod ax s
  | .loadAngleMeasurement ax lam => Sys2Proof.Machine.execLoadAngleMeasurement ax lam s
  | .stall ax => Sys2Proof.Machine.execStall ax s
  | .limitInput ax side level => Sys2Proof.Machine.execLimitInput ax side level s
  | .chatterWindow ax side => Sys2Proof.Machine.execChatterWindow ax side s
  | .homingTimeout ax => Sys2Proof.Machine.execHomingTimeout ax s
  | .driverFault ax => Sys2Proof.Machine.execDriverFault ax s
  | .motorBusUv vm => Sys2Proof.Machine.execMotorBusUv vm s
  | .encoderCount e a b => Sys2Proof.Machine.execEncoderCount e a b s
  | .illegalWindow e => Sys2Proof.Machine.execIllegalWindow e s
  | .indexEdge e => Sys2Proof.Machine.execIndexEdge e s
  | .speedWindow e => Sys2Proof.Machine.execSpeedWindow e s
  | .encPosWrite e v => Sys2Proof.Machine.execEncPosWrite e v s
  | .rextMeasurement bad => Sys2Proof.Machine.execRextMeasurement bad s
  | .calStepStart => Sys2Proof.Machine.execCalStepStart s
  | .calStepComplete codes => Sys2Proof.Machine.execCalStepComplete codes s
  | .calStepTimeout => Sys2Proof.Machine.execCalStepTimeout s
  | .trimSave => Sys2Proof.Machine.execTrimSave s
  | .trimSaveComplete verifyA verifyB => Sys2Proof.Machine.execTrimSaveComplete verifyA verifyB s
  | .calRestart => Sys2Proof.Machine.execCalRestart s
  | .powerOnReset level => Sys2Proof.Machine.execPowerOnReset level s
  | .supplyReset rr level mv => Sys2Proof.Machine.execSupplyReset rr level s mv
  | .resetNInput level => Sys2Proof.Machine.execResetNInput level s
  | .watchdogExpiry => Sys2Proof.Machine.execWatchdogExpiry s
  | .kick => Sys2Proof.Machine.execKick s
  | .warm => Sys2Proof.Machine.execWarm s
  | .cntclr => Sys2Proof.Machine.execCntclr s
  | .pcieHotReset level => Sys2Proof.Machine.execPcieHotReset level s
  | .functionLevelReset => Sys2Proof.Machine.execFunctionLevelReset s
  | .backupDomainLoss level => Sys2Proof.Machine.execBackupDomainLoss level s
  | .resetDriveRelease => Sys2Proof.Machine.execResetDriveRelease s
  | .resetRelease => Sys2Proof.Machine.execResetRelease s
  | .pllLocked => Sys2Proof.Machine.execPllLocked s
  | .loadCommit => Sys2Proof.Machine.execLoadCommit s
  | .blockReset r v => Sys2Proof.Machine.execBlockReset r v s
  | .blockResetEnd blk => Sys2Proof.Machine.execBlockResetEnd blk s
  | .faultMaskLift blk => Sys2Proof.Machine.execFaultMaskLift blk s
  | .railBelowWarning rr mv => Sys2Proof.Machine.execRailBelowWarning rr mv s
  | .supplyDip rr => Sys2Proof.Machine.execSupplyDip rr s
  | .railAboveWarning rr mv => Sys2Proof.Machine.execRailAboveWarning rr s mv
  | .supplyRecovered rr mv => Sys2Proof.Machine.execSupplyRecovered rr s mv
  | .resumeSupply => Sys2Proof.Machine.execResumeSupply s
  | .avsSlackReport slack => Sys2Proof.Machine.execAvsSlackReport slack s
  | .avsResponse ok => Sys2Proof.Machine.execAvsResponse ok s
  | .avsTimeout => Sys2Proof.Machine.execAvsTimeout s
  | .lpEntryComplete => Sys2Proof.Machine.execLpEntryComplete s
  | .wakeEvent src => Sys2Proof.Machine.execWakeEvent src s
  | .wakeTimer => Sys2Proof.Machine.execWakeTimer s
  | .wakeComplete => Sys2Proof.Machine.execWakeComplete s
  | .pwrEnRaise => Sys2Proof.Machine.execPwrEnRaise s
  | .powerSequenceTimeout => Sys2Proof.Machine.execPowerSequenceTimeout s
  | .powerSequenceRestart => Sys2Proof.Machine.execPowerSequenceRestart s
  | .faultSourceAssert src => Sys2Proof.Machine.execFaultSourceAssert src s
  | .railFault src => Sys2Proof.Machine.execRailFault src s
  | .chipResetHoldEnd => Sys2Proof.Machine.execChipResetHoldEnd s
  | .escalationWindow blk => Sys2Proof.Machine.execEscalationWindow blk s
  | .assert => Sys2Proof.Machine.execAssert s
  | .release => Sys2Proof.Machine.execRelease s
  | .captureClear => Sys2Proof.Machine.execCaptureClear s
  | .injectionArm v => Sys2Proof.Machine.execInjectionArm v s
  | .injectionDisarm => Sys2Proof.Machine.execInjectionDisarm s
  | .injectionRecheck active => Sys2Proof.Machine.execInjectionRecheck active s
  | .nvWrite m a v result => Sys2Proof.Machine.execNvWrite m a v result s
  | .rowRemapComplete => Sys2Proof.Machine.execRowRemapComplete s
  | .chronographRecordWrite result => Sys2Proof.Machine.execChronographRecordWrite result s
  | .swrec v => Sys2Proof.Machine.execSwrec v s
  | .splitInEdge => Sys2Proof.Machine.execSplitInEdge s
  | .fire => Sys2Proof.Machine.execFire s
  | .split => Sys2Proof.Machine.execSplit s
  | .splitCollectionDone => Sys2Proof.Machine.execSplitCollectionDone s
  | .doneclr => Sys2Proof.Machine.execDoneclr s
  | .hostRequest bar off acc ecc => Sys2Proof.Machine.execHostRequest bar off acc ecc s
  | .configRequest => Sys2Proof.Machine.execConfigRequest s
  | .pcieLinkChange up speed width => Sys2Proof.Machine.execPcieLinkChange up speed width s
  | .msixUnmask vec => Sys2Proof.Machine.execMsixUnmask vec s
  | .dmaGo ch v => Sys2Proof.Machine.execDmaGo ch v s
  | .dmaStop ch => Sys2Proof.Machine.execDmaStop ch s
  | .dmaDone ch data ecc => Sys2Proof.Machine.execDmaDone ch data ecc s
  | .dmaError ch hostSide a => Sys2Proof.Machine.execDmaError ch hostSide a s
  | .dramInitComplete d0 ok d1 => Sys2Proof.Machine.execDramInitComplete d0 ok s d1
  | .flashBoot flash => Sys2Proof.Machine.execFlashBoot flash s
  | .bootGo => Sys2Proof.Machine.execBootGo s
  | .imageLoaded => Sys2Proof.Machine.execImageLoaded s
  | .coreRun v => Sys2Proof.Machine.execCoreRun v s
  | .tempUpdate d t => Sys2Proof.Machine.execTempUpdate d t s
  | .refaRestored => Sys2Proof.Machine.execRefaRestored s
  | .refbRestored => Sys2Proof.Machine.execRefbRestored s
  | .portEnable p v => Sys2Proof.Machine.execPortEnable p v s
  | .backupDomainStart => Sys2Proof.Machine.execBackupDomainStart s
  | .laserAlarmCleared nn => Sys2Proof.Machine.execLaserAlarmCleared nn s
  | .laserReadyRegained nn => Sys2Proof.Machine.execLaserReadyRegained nn s
  | .motorBusRestored vm => Sys2Proof.Machine.execMotorBusRestored vm s
  | .hoursCounterTick => Sys2Proof.Machine.execHoursCounterTick s

end Sys2Proof.Machine
end

