-- ==== Sys2Proof/Machine/Tick.lean ====
section
/-! DEFINITION. One beat of 2.5 ns with no command waiting (log entry 1): what the clocks move by themselves. Everything that
the rules make happen at a set beat has a row of its own; it happens when that row comes. -/
namespace Sys2Proof.Machine

/-- The train beat counter counts (R36, R552): not while a reset is under way, and not in Wound and below. -/
def State.beatRuns (s : State) : Bool :=
  (s.rst.phase == .off || s.rst.phase == .loading) &&
    !(s.modeCode == mLowPower && decide (3 ≤ s.get SYS_MODE_STAT_LPSTATE))

/-- The layer beat counter advances by one (R148). -/
def State.lbeatTick (s : State) : State :=
  if s.lbRun then s.setPair ESC_LBEAT_LO_BEAT ESC_LBEAT_HI_BEAT ((s.lbeat + 1) % 2 ^ 48) else s

/-- The tap credit gains 40 bytes, up to 1 MiB (R457). -/
def State.creditTick (s : State) : State :=
  if s.heldInReset 132 || s.get IMG_RAWCRED_CREDIT == 0x100000 then s
  else s.set IMG_RAWCRED_CREDIT (min 0x100000 (s.get IMG_RAWCRED_CREDIT + 40))

/-- The watchdog counts down; SYS_WDT_STAT shows the milliseconds begun that remain (R540). -/
def State.wdtTick (s : State) : State :=
  if s.wdtRuns && decide (0 < s.rst.wdt) then
    let w := s.rst.wdt - 1
    ({ s with rst := { s.rst with wdt := w } }).set SYS_WDT_STAT_REMAIN ((w + beatsPerMs - 1) / beatsPerMs)
  else s

/-- SPLIT_OUT returns to inactive 400 beats after the split (R585). -/
def State.splitOutTick (s : State) : State :=
  if s.flt.splitOut != 0 && decide (s.flt.splitOut ≤ s.rst.clk) then
    ({ s with flt := { s.flt with splitOut := 0 } }).emit (.pin 1 0)
  else s

/-- The time of the model and, where it counts, the train beat counter advance (R36). -/
def State.clockTick (s : State) : State :=
  let t := { s with rst := { s.rst with clk := s.rst.clk + 1 } }
  if s.beatRuns then (({ t with beat := s.beat + 1 }).lbeatTick.creditTick).illSync else t

/-- Every escapement whose next word no row stands for (R81, R136). -/
def State.dueTraps (s : State) : State := (List.range 24).foldl State.dueTrap s

/-- One beat passes, and what the beat before has set takes effect: a forced Halted (R50), Recoat (R58), a chip reset
(R562). -/
def State.tick (s : State) : State := (s.begin.clockTick.portReturns.skIdles.camEnds.wdtTick.splitOutTick.haltNow.recoatNow.chipHoldEnd.dueTraps).settle

end Sys2Proof.Machine
end

