-- ==== Sys2Proof/Machine/SkLine.lean ====
section
/-! DEFINITION. The line of a Skeuz port (R402): blocks, scrambling, lanes, Gray mapping and precoding. The parity of a
codeword with FEC on is no part of it: no rule gives the code's field (log entry 145). -/
namespace Sys2Proof.Machine

/-- Bits scrambled with the keystream from here (R359, R402). -/
def scrambled (c : Coder) : List Bool → List Bool
  | [] => []
  | d :: t => (d != c.keyBit) :: scrambled c.advance t

/-- The bits of a flit's bytes: ascending, each most significant bit first (R405). -/
def flitBits (bytes : List Nat) : List Bool := bytes.flatMap (natBits 8)

/-- A block with FEC off: the alignment flit of eight sync words, then its flits, scrambled from the block's start. -/
def skBlock (flits : List (List Nat)) : List Bool :=
  (List.replicate 8 syncWord).flatten ++ scrambled ⟨0x7FFFFFFF, false, 0⟩ (flits.flatMap flitBits)

/-- The bits of one lane: 10-bit groups alternately to lane 0 and lane 1, lane 0 first; `n` bounds the groups. -/
def laneBits (lane : Nat) : Nat → Nat → List Bool → List Bool
  | 0, _, _ => []
  | n + 1, k, l => (if k % 2 = lane then l.take 10 else []) ++ laneBits lane n (k + 1) (l.drop 10)

/-- The level of a bit pair, first bit most significant. -/
def grayLevel (a b : Bool) : Nat := if a then (if b then 2 else 3) else if b then 1 else 0

/-- The levels of a lane's bits. -/
def levels : List Bool → List Nat
  | a :: b :: t => grayLevel a b :: levels t
  | _ => []

/-- Precoded levels, from the level sent last, 0 at the start of a block. -/
def precoded : Nat → List Nat → List Nat
  | _, [] => []
  | y, x :: t => let z := (x + 4 - y) % 4; z :: precoded z t

/-- What the receiver makes of precoded levels. -/
def unprecoded : Nat → List Nat → List Nat
  | _, [] => []
  | y, z :: t => (z + y) % 4 :: unprecoded z t

/-- The levels that a block puts on a lane. -/
def skLane (lane : Nat) (precode : Bool) (flits : List (List Nat)) : List Nat :=
  let b := skBlock flits
  let x := levels (laneBits lane (b.length / 10 + 1) 0 b)
  if precode then precoded 0 x else x

end Sys2Proof.Machine
end

