-- ==== Sys2Proof/Safety.lean ====
section
/-! DEFINITION. What counts as a safe state of the block, in the terms the statements use. -/
namespace Sys2Proof.Machine

/-- Nothing of an earlier command is left to do: no chronograph record waits for its snapshot reads, so that the assertions
of the next command are all that `settle` sees (log entry 41), and no arming is under way (R55). -/
def State.restful (s : State) : Bool := s.flt.queue.all (fun (r : ChrRec) => r.todo.isEmpty) && !s.mode.armed

/-- An assertion of source `k` does no more than capture it, mark it pending and raise line 0: it is no laser-safety source,
no reaction of R561 but IRQ and ERR is configured, no record is made of it, its owner is not masked and no injection is armed. -/
def State.mild (s : State) (k : Nat) : Bool :=
  !srcSafety k && !s.flag (FLT_CFG_HACK k) && !s.flag (FLT_CFG_CRST k) && !s.flag (FLT_CFG_NMI k) && !s.flag (FLT_CFG_BRST k) &&
  !s.flag (FLT_CFG_SPLIT k) && !(s.flag CHR_CTL_EN && s.flag (FLT_CFG_CHR k)) && !s.srcMasked k && s.flt.inj.isNone

/-- An assertion of source `k` sets off nothing through other blocks (R561): neither block reset, chip reset nor split is
configured, no record is made of it, its owner is not masked and no injection is armed. The hack line, the trap and forced
Halted may follow. -/
def State.tame (s : State) (k : Nat) : Bool :=
  !s.flag (FLT_CFG_CRST k) && !s.flag (FLT_CFG_BRST k) && !s.flag (FLT_CFG_SPLIT k) && !(s.flag CHR_CTL_EN && s.flag (FLT_CFG_CHR k)) &&
  !s.srcMasked k && s.flt.inj.isNone

/-- A field that no assertion of a mild source writes: outside the collector's status and capture registers, and not the word
that shows line 0 (R588, R596). -/
def offCollector (g : Fld) : Bool := !inAddrs 0x2000E00000 0x2000E01000 g.key && decide (g.key ≠ SYS_CIP_LO_ACT.key)

/-- A field that no assertion of a tame source writes: outside what `offCollector` names, the laser ports' status (R565) and the
calibration controller's registers (R518). -/
def offHack (g : Fld) : Bool :=
  offCollector g && !inAddrs 0x2001300000 0x2001300200 g.key && !inAddrs 0x2000D00000 0x2000D00200 g.key

/-- No laser emits: every gate is inactive and every power DAC at code 0 (R43). -/
def State.lasersOff (s : State) : Bool :=
  (List.range 24).all (fun n => s.get (LP_STAT_GATE n) == 0 && (s.port n).dac == 0)

/-- The hack line, while asserted, holds every laser off (R565). -/
def State.hackHolds (s : State) : Bool := !s.flag FLT_HACK_STATE || s.lasersOff

/-- Escapement `n` comes to issue the instruction of the words `ws`: nothing holds issue back, and the fetch has brought these words
to its PC without an error (R78, R135, R136, R139). -/
def State.fetched (s : State) (n : Nat) (ws : List Nat) : Bool :=
  s.canIssue n && !s.poisoned n (s.pc n) && !(decide (1 < ws.length) && s.poisoned n ((s.pc n + 8) % 2 ^ 40)) &&
  (s.esc n).holds (s.pc n) ws

/-- Escapement `n` issues that instruction to its effect: it is legal, and no STEP is under way (R81, R164). -/
def State.goes (s : State) (n : Nat) (ws : List Nat) (illegal : Bool) : Bool := s.fetched n ws && !illegal && !(s.esc n).stepping

/-- The state in which an instruction of the words `ws` issued takes its effect: the PC has moved past it and its words stand in
the loop window (R79, R134). -/
def State.advanced (s : State) (n : Nat) (ws : List Nat) : State :=
  (s.begin.noteIssue n (s.pc n) ws).setPc n (s.pc n + 8 * ws.length)

/-- The state in which a request of master `m` is carried out: a fault held from it names the master (R17). -/
def State.asks (s : State) (m : Nat) : State := { s.begin with req := some m }

/-- A flit with the head `h` is received whole on port `p`: the fabric block runs, the port is UP and the CRC is right (R405, R407). -/
def State.receives (s : State) (p : Nat) (h : LinkHead) : Bool := s.skLive && s.portUp p && h.crcOk

/-- A sequenced flit is received and is the next of its link (R407). -/
def State.takes (s : State) (p : Nat) (h : LinkHead) : Bool := s.receives p h && h.lseq.toNat == ((s.skp p).rxSeq + 1) % 256

/-- The keys of a table rise strictly: no key is listed twice. -/
def sortedKeys {α : Type} : List (Nat × α) → Bool
  | [] => true
  | [_] => true
  | a :: b :: t => decide (a.1 < b.1) && sortedKeys (b :: t)

/-- The arrays of the state stand in the form the model keeps them in: memory and NV store canonical, the register file with
no field listed twice. -/
def State.inForm (s : State) : Bool := s.memWf && sortedKeys s.regs

end Sys2Proof.Machine
end

