-- ==== Sys2Proof/Certificates/Slice0/Obligations.lean ====
section
/-! DEFINITION. The statements for the provers. Every result statement gives the next state in full (an equation), so that
what a command leaves unchanged is said with it: `s.begin` is the state a command starts from (the record of the last answer
cleared) and `settle` carries out what an assertion of a fault source entails (R561). -/

section
open Sys2Proof Sys2Proof.Machine

/-- For every command c and state s, the step of s with c at the front of its queue is exec of c on s with the queue's
rest; with an empty queue the step answers the state one beat later (the model's choice, log entry 1). -/
def Obligations.StepRunsTheFrontCommand : Prop :=
  (∀ (c : Instr) (l : List Instr) (s : State), step { s with pending := c :: l } = exec c { s with pending := l }) ∧
  (∀ (s : State), s.pending = [] → step s = .next s.tick)

/-- In State.reset no command waits, memory and the NV array list nothing and are in canonical form, every register field
reads its reset value but DIAL_STAT.BUSY (a dial clear is under way), the mode is the reset value of
SYS_MODE_STAT.MODE, the block is in its Load phase, and no laser emits. That the state stands in Load after the
internal reset is the model's choice (log entry 4). -/
def Obligations.ResetStateHolds : Prop :=
  State.reset.pending = [] ∧ State.reset.mem = [] ∧ State.reset.nv = [] ∧ State.reset.inForm = true ∧
  (∀ (f : Fld), f.key ≠ DIAL_STAT_BUSY.key → State.reset.get f = f.rst) ∧ State.reset.flag DIAL_STAT_BUSY = true ∧
  State.reset.modeCode = 0 ∧ State.reset.rst.phase = .loading ∧ State.reset.lasersOff = true

/-- For every command c and every state s whose memory and NV array are in canonical form, exec c s is neither a fault nor
a refusal: it answers a next state, whose queue is that of s and whose memory and NV array are in canonical form
again. -/
def Obligations.EveryCommandAnswersAndKeepsForm : Prop :=
  ∀ (c : Instr) (s : State), s.memWf = true →
    ∃ t : State, exec c s = .next t ∧ t.pending = s.pending ∧ t.memWf = true

/-- For every state s whose memory and NV array are in canonical form, the step answers a next state; its queue is the
queue of s without the front command (empty where it was empty), and its memory and NV array are in canonical form. -/
def Obligations.EveryStepKeepsForm : Prop :=
  ∀ (s : State), s.memWf = true →
    ∃ t : State, step s = .next t ∧ t.pending = s.pending.tail ∧ t.memWf = true

/-- Losing and regaining a clock reference, the power-on reset and the reset requests act as written. For each of
REFA_FAULT, REFA_RESTORED, REFB_FAULT, REFB_RESTORED, POWER_ON_RESET, SUPPLY_RESET, RESET_N_INPUT, PCIE_HOT_RESET,
BACKUP_DOMAIN_LOSS: under the conditions on the state and the operands written before it, `exec` answers a next state,
and it is the one written out (or, where the statement names facts of it, one of which those facts hold). -/
def Obligations.ResetAndReferenceLoss : Prop :=
  -- REFA_FAULT (R37)
  (∀ (s : State), s.restful = true → s.modeCode = mHalted → s.mode.trans = none → s.mode.pend = none → s.tame 0 = true → ∃
    t, exec .refaFault s = .next t ∧ t.rst.refaBad = true ∧ t.modeCode = mHalted) ∧
  -- REFA_RESTORED (R37)
  (∀ (s : State), s.restful = true → exec .refaRestored s = .next
    ({ s.begin with rst := { s.rst with refaBad := false } }.lower 0)) ∧
  -- REFB_FAULT (R37)
  (∀ (s : State), s.restful = true → s.mild 1 = true → (∀ p, p < 4 → s.portUp p = false) → s.flag HP_STAT_LINKUP = false →
    exec .refbFault s = .next (((((((({ s.begin with rst := { s.rst with refbBad := true } }.raise 1).skPortDown
    0).skPortDown 1).skPortDown 2).skPortDown 3).set HP_STAT_LINKUP 0).set HP_STAT_SPEED 0).set HP_STAT_WIDTH 0)) ∧
  -- REFB_RESTORED (R37)
  (∀ (s : State), s.restful = true → (∀ p, p < 4 → s.flag (SKZ_PCTL_EN p) = false) → exec .refbRestored s = .next
    ({ s.begin with rst := { s.rst with refbBad := false } }.lower 1)) ∧
  -- POWER_ON_RESET (R528)
  (∀ (s : State), s.rst.phase = .off → ∃ t, exec (.powerOnReset true) s = .next t ∧ t.rst.phase = .driven ∧ t.get
    SYS_RST_CAUSE_CAUSE = 1 ∧ t.rst.reach = 2) ∧
  -- SUPPLY_RESET (R528)
  (∀ (s : State) (rr : Fin 8) (mv : BitVec 12), rr.val ≠ 7 → s.supervised rr.val = true → mv.toNat < s.rstLevel rr.val →
    s.rst.phase = .off → ∃ t, exec (.supplyReset rr true mv) s = .next t ∧ t.rst.phase = .driven ∧ t.get SYS_RST_CAUSE_CAUSE
    = 2 ∧ t.rst.reach = 2) ∧
  -- RESET_N_INPUT (R530)
  (∀ (s : State), s.modeCode ≠ mLowPower → s.rst.phase = .off → ∃ t, exec (.resetNInput true) s = .next t ∧ t.rst.phase =
    .driven ∧ t.get SYS_RST_CAUSE_CAUSE = 4 ∧ t.rst.reach = 1) ∧
  -- PCIE_HOT_RESET (R528)
  (∀ (s : State), s.flag SYS_RST_CFG_HOTRST = true → s.rst.phase = .off → ∃ t, exec (.pcieHotReset true) s = .next t ∧
    t.rst.phase = .driven ∧ t.get SYS_RST_CAUSE_CAUSE = 64 ∧ t.rst.reach = 1) ∧
  -- BACKUP_DOMAIN_LOSS (R528)
  (∀ (s : State), s.rst.phase = .off → ∃ t, exec (.backupDomainLoss true) s = .next t ∧ t.rst.phase = .driven ∧ t.get
    SYS_RST_CAUSE_CAUSE = 256 ∧ t.rst.reach = 3)

/-- Reset release, PLL lock and the block resets answer the next state the rules give. For each of RESET_DRIVE_RELEASE,
RESET_RELEASE, PLL_LOCKED, FUNCTION_LEVEL_RESET, BACKUP_DOMAIN_START, BLOCK_RESET_END, FAULT_MASK_LIFT,
ESCALATION_WINDOW, BLOCK_RESET: under the conditions on the state and the operands written before it, `exec` answers a
next state, and it is the one written out (or, where the statement names facts of it, one of which those facts hold). -/
def Obligations.ResetReleaseAndBlockResets : Prop :=
  -- RESET_DRIVE_RELEASE (R530)
  (∀ (s : State), s.restful = true → s.rst.phase = .driven → s.rst.active = [] → s.rst.since + max 5 (min 1000 (s.get
    SYS_RST_CFG_STRETCH)) * 4000 ≤ s.rst.clk → exec .resetDriveRelease s = .next
    ({ s.begin with rst := { s.rst with phase := .released, freeAt := s.rst.clk } }.emit (.pin 2 1))) ∧
  -- RESET_RELEASE (R531)
  (∀ (s : State), s.restful = true → s.rst.phase = .released → s.rst.pinLow = false → s.rst.freeAt + 400 ≤ s.rst.clk →
    s.rst.reach = 1 → s.flag SYS_OPT_RSTCNT = false → exec .resetRelease s = .next ({ s.begin.showPins (fun _ => true) with
      beat := 0,
      dial := { clear := some 209716 },
      rst := { s.rst with phase := .loading } }.set DIAL_STAT_BUSY 1)) ∧
  -- PLL_LOCKED (R531)
  (∀ (s : State), s.restful = true → s.rst.phase = .locking → s.railsUp = true → exec .pllLocked s = .next (
      let u := ({ s.begin with rst := { s.rst with avsBase := 30, avsRise := [] } } : State).set AVS_STAT_VSET 30;
      ({ u.showPins (fun _ => true) with
          beat := 0,
          dial := { clear := some 209716 },
          rst := { u.rst with phase := .loading } }).set DIAL_STAT_BUSY 1)) ∧
  -- FUNCTION_LEVEL_RESET (R528)
  (∀ (s : State), s.sysLive = true → ∃ t : State, exec .functionLevelReset s = .next t.settle ∧ t.heldInReset 139 = true ∧
    (139, s.rst.clk + 33) ∈ t.flt.masked) ∧
  -- BACKUP_DOMAIN_START (R632)
  (∀ (s : State), s.rst.pwrEn = 0 → s.rst.pwrSeq = none → s.modeCode ≠ mLowPower → exec .backupDomainStart s = .next
    (((((s.begin.assertReset 8).releaseReset 8).assertReset 0).assertReset 1).raiseGroup 3).settle) ∧
  -- BLOCK_RESET_END (R534)
  (∀ (s : State) (blk : BlockId) (e : Nat), (blockCode blk, e) ∈ s.flt.inReset → e ≤ s.rst.clk → exec (.blockResetEnd blk) s
    = .next ((({ s.begin with
      flt := { s.begin.flt with inReset := s.flt.inReset.filter (fun (x : Nat × Nat) => x.1 != blockCode blk) } }).showPins
    (fun a => blockOf a == some (blockCode blk))).portsFollow).settle) ∧
  -- FAULT_MASK_LIFT (R572)
  (∀ (s : State) (blk : BlockId) (e : Nat), s.heldInReset (blockCode blk) = false → (blockCode blk, e) ∈ s.flt.masked → e ≤
    s.rst.clk → s.collecting = false → exec (.faultMaskLift blk) s = .next ({ s.begin with
      flt := { s.begin.flt with
            masked := s.flt.masked.filter (fun (x : Nat × Nat) => x.1 != blockCode blk),
            fails := s.flt.fails.map (fun (x : Nat × BrstFail) => if x.1 = blockCode blk ∧ x.2.until_.isNone then (x.1,
                { x.2 with until_ := some (s.rst.clk + s.escWindow) }) else x) } }).settle) ∧
  -- ESCALATION_WINDOW (R573)
  (∀ (s : State) (blk : BlockId) (l : List (Nat × BrstFail)) (u n : Nat), s.flt.fails = (blockCode blk, ⟨n, some u⟩) :: l →
    u < s.rst.clk → s.get FLT_BRLAST_BLOCK ≠ blockCode blk → exec (.escalationWindow blk) s = .next ({ s.begin with
      flt := { s.begin.flt with fails := l.filter (fun (x : Nat × BrstFail) => x.1 != blockCode blk) } }).settle) ∧
  -- BLOCK_RESET (R534)
  (∀ (s : State) (r : Fin 5) (i : Nat), (i < if r.val = 4 then 15 else 24) → s.sysLive = true → ∃ t : State, exec
    (.blockReset r (BitVec.ofNat 32 (2 ^ i))) s = .next t.settle ∧ t.heldInReset (32 * r.val + i) = true ∧ (32 * r.val + i,
    s.rst.clk + (blockBeats (32 * r.val + i)).1 + (blockBeats (32 * r.val + i)).2) ∈ t.flt.masked)

/-- The watchdog commands, the warm reset, the reset counter clear and the hours and temperature ticks complete as
written. For each of KICK, WATCHDOG_EXPIRY, WARM, CNTCLR, HOURS_COUNTER_TICK, TEMP_UPDATE, AVS_RESPONSE, AVS_TIMEOUT,
AVS_SLACK_REPORT: under the conditions on the state and the operands written before it, `exec` answers a next state,
and it is the one written out (or, where the statement names facts of it, one of which those facts hold). -/
def Obligations.WatchdogAndWarmReset : Prop :=
  -- KICK (R540)
  (∀ (s : State), s.restful = true → s.sysLive = true → s.flag SYS_WDT_CTL_EN = true → exec .kick s = .next
    ({ s.begin with rst := { s.rst with wdt := max 1 (s.get SYS_WDT_CTL_TIMEOUT) * beatsPerMs } }.set SYS_WDT_STAT_REMAIN
    (max 1 (s.get SYS_WDT_CTL_TIMEOUT)))) ∧
  -- WATCHDOG_EXPIRY (R540)
  (∀ (s : State), s.wdtRuns = true → s.rst.wdt = 0 → s.rst.phase = .off → ∃ t, exec .watchdogExpiry s = .next t ∧
    t.rst.phase = .driven ∧ t.get SYS_RST_CAUSE_CAUSE = 8 ∧ t.rst.reach = 1) ∧
  -- WARM (R528)
  (∀ (s : State), s.rst.phase = .off → ∃ t, exec .warm s = .next t ∧ t.rst.phase = .driven ∧ t.get SYS_RST_CAUSE_CAUSE = 128
    ∧ t.rst.reach = 1) ∧
  -- CNTCLR (R553)
  (∀ (s : State), s.restful = true → s.sysLive = true → exec .cntclr s = .next ((List.range 10).foldl (fun t k => t.set
    (SYS_RST_CNT_COUNT k) 0) s.begin)) ∧
  -- HOURS_COUNTER_TICK (R556)
  (∀ (s : State), s.restful = true → (¬ (s.modeCode = mLowPower ∧ s.get SYS_MODE_STAT_LPSTATE = 5)) → exec .hoursCounterTick
    s = .next (if s.get SYS_HSEC_SECONDS + 1 < 3600 then s.begin.set SYS_HSEC_SECONDS (s.get SYS_HSEC_SECONDS + 1) else
    (s.begin.set SYS_HSEC_SECONDS 0).incWrap SYS_HOURS_OPERATING)) ∧
  -- TEMP_UPDATE (R631)
  (∀ (s : State) (d : Fin 3) (t : BitVec 16), s.restful = true → s.sysLive = true → (d = 2 → s.rst.barrierDown = false) →
    exec (.tempUpdate d t) s = .next ((s.begin.set (SYS_TEMP_T d.val) t.toNat).set (SYS_TEMP_PEAK d.val) (if sgn 16 (s.get
    (SYS_TEMP_PEAK d.val)) < sgn 16 t.toNat then t.toNat else s.get (SYS_TEMP_PEAK d.val)))) ∧
  -- AVS_RESPONSE (R545)
  (∀ (s : State) (v b : Nat), s.restful = true → s.rst.avsWrite = some (v, b) → exec (.avsResponse true) s = .next (
      let base := ((s.rst.avsRise.filter (fun e => decide (e.1 ≤ s.rst.clk))).getLast?.map (·.2)).getD s.rst.avsBase;
      let later := s.rst.avsRise.filter (fun e => decide (s.rst.clk < e.1));
      let rise := if s.get AVS_STAT_VSET < v then later ++ [(s.rst.clk + 20 * beatsPerUs, v)] else later.map (fun e => (e.1,
          min v e.2));
      ({ s.begin with rst := { s.rst with avsWrite := none, avsBase := min base v, avsRise := rise } }).set AVS_STAT_VSET
        v)) ∧
  -- AVS_TIMEOUT (R547)
  (∀ (s : State) (v b : Nat), s.restful = true → s.mild 9 = true → s.rst.avsWrite = some (v, b) → b + 4000 ≤ s.rst.clk →
    exec .avsTimeout s = .next (({ s.begin with rst := { s.rst with avsWrite := none, avsStop := true } }.set
    AVS_STAT_AVSERR 1).pulse 9)) ∧
  -- AVS_SLACK_REPORT (R546)
  (∀ (s : State) (k : BitVec 16), s.restful = true → s.flag AVS_CTL_EN = true → s.rst.phase = .off → s.rst.avsStop = false →
    s.rst.avsWrite = none → (sgn 16 k.toNat < (s.get AVS_SLK_SLKLO : Int) ∨ s.get AVS_STAT_VSET < min (min 40 (s.get
    AVS_CTL_VMAX)) (s.get AVS_CTL_VMIN)) → s.get AVS_STAT_VSET < min 40 (s.get AVS_CTL_VMAX) → exec (.avsSlackReport k) s =
    .next (
      let u := s.begin.set AVS_SLACK_LAST k.toNat;
      { u with
          rst := { s.rst with avsHigh := none, avsWrite := some (s.get AVS_STAT_VSET + 1, s.rst.clk) },
          out := [.path 1 [s.get AVS_STAT_VSET + 1]] }))

/-- Rail crossings, supply dips and recoveries, the power sequence and LowPower wake complete as written. For each of
RAIL_BELOW_WARNING, RAIL_ABOVE_WARNING, SUPPLY_DIP, SUPPLY_RECOVERED, RESUME_SUPPLY, PWR_EN_RAISE,
POWER_SEQUENCE_TIMEOUT, POWER_SEQUENCE_RESTART, LP_ENTRY_COMPLETE, WAKE_EVENT, WAKE_TIMER, WAKE_COMPLETE: under the
conditions on the state and the operands written before it, `exec` answers a next state, and it is the one written out
(or, where the statement names facts of it, one of which those facts hold). -/
def Obligations.SupplyRailsAndPowerStates : Prop :=
  -- RAIL_BELOW_WARNING (R542)
  (∀ (s : State) (rr : Fin 8) (mv : BitVec 12), s.restful = true → s.supervised rr.val = true → exec (.railBelowWarning rr
    mv) s = .next (
      let u := s.begin.set (SUP_MIN_MIN rr.val) (min mv.toNat (s.get (SUP_MIN_MIN rr.val)));
      if s.warnLevel rr.val ≤ mv.toNat then u else if rr.val = 7 then u.set SUP_STAT_VBAKLOW 1 else if !(s.rail
        rr.val).armed || (s.rail rr.val).belowSince.isSome then u else
      let p := u.setPin s.sysLive SUP_STAT_BELOW (putBit (u.pinLevel SUP_STAT_BELOW) rr.val true);
      let w := p.setRail rr.val { p.rail rr.val with belowSince := some s.rst.clk, aboveSince := none };
      if rr.val = 4 then { w with rst := { w.rst with vddqOk := false } } else w)) ∧
  -- RAIL_ABOVE_WARNING (R542)
  (∀ (s : State) (rr : Fin 8) (mv : BitVec 12), s.restful = true → s.supervised rr.val = true → s.warnLevel rr.val ≤
    mv.toNat → (s.rail rr.val).belowSince = none → exec (.railAboveWarning rr mv) s = .next ((s.begin.setPin s.sysLive
    SUP_STAT_BELOW (putBit (s.pinLevel SUP_STAT_BELOW) rr.val false)).setRail rr.val
    { s.rail rr.val with belowSince := none, aboveSince := some s.rst.clk, armed := true }).seqCheck) ∧
  -- SUPPLY_DIP (R542)
  (∀ (s : State) (rr : Fin 8) (b : Nat), rr.val < 7 → s.supervised rr.val = true → (s.rail rr.val).belowSince = some b → b +
    800 ≤ s.rst.clk → exec (.supplyDip rr) s = .next (((s.begin.set SUP_STAT_DIP (putBit (s.get SUP_STAT_DIP) rr.val
    true)).set SUP_STAT_RECOV (putBit (s.get SUP_STAT_RECOV) rr.val false)).raise 5).settle) ∧
  -- SUPPLY_RECOVERED (R542)
  (∀ (s : State) (rr : Fin 8) (mv : BitVec 12) (a : Nat), s.restful = true → (s.get SUP_STAT_DIP).testBit rr.val = true →
    (s.rail rr.val).aboveSince = some a → a + 20000 ≤ s.rst.clk → s.warnLevel rr.val + s.get (supHyst rr.val) ≤ mv.toNat →
    exec (.supplyRecovered rr mv) s = .next (s.begin.set SUP_STAT_RECOV (putBit (s.get SUP_STAT_RECOV) rr.val true))) ∧
  -- RESUME_SUPPLY (R543)
  (∀ (s : State), s.restful = true → s.sysLive = true → exec .resumeSupply s = .next (if (s.get SUP_STAT_DIP &&& s.get
    SUP_STAT_RECOV) = s.get SUP_STAT_DIP then s.begin.lower 5 else s.begin.set SUP_STAT_RESERR 1)) ∧
  -- PWR_EN_RAISE (R632)
  (∀ (s : State) (t g : Nat), s.rst.pwrSeq = some (t, false) → s.lastGroup = some (g + 1) → ((groupRails (g + 1)).all (fun r
    => s.railUp r && (match (s.rail r).aboveSince with | some b => decide (b + 40000 ≤ s.rst.clk) | none => true)) = true) →
    exec .pwrEnRaise s = .next ((s.begin.assertReset 1).raiseGroup g).settle) ∧
  -- POWER_SEQUENCE_TIMEOUT (R634)
  (∀ (s : State) (t g : Nat), s.rst.pwrSeq = some (t, false) → s.lastGroup = some g → t + 4000000 ≤ s.rst.clk → (groupRails
    g).all s.railUp = false → exec .powerSequenceTimeout s = .next (
      let u := s.begin.dropAll;
      ({ u with rst := { u.rst with pwrSeq := some (s.rst.clk, true) } }).assertReset 1).settle) ∧
  -- POWER_SEQUENCE_RESTART (R634)
  (∀ (s : State) (t : Nat), s.restful = true → s.rst.pwrSeq = some (t, true) → t + 40000000 ≤ s.rst.clk → exec
    .powerSequenceRestart s = .next (s.begin.raiseGroup 3)) ∧
  -- LP_ENTRY_COMPLETE (R549)
  (∀ (s : State) (r : ModeReq) (n : Nat), s.mode.trans = some (r, n) → s.mode.haltDue = none → r.target = mLowPower →
    (s.escs.any (fun e => e.2.stores.any (fun q => s.region q.addr == .dram)) = false) → ∃ t : State, exec .lpEntryComplete
    s = .next t.settle ∧ t.modeCode = mLowPower ∧ t.get SYS_LP_STAT_LASTSTATE = r.lpstate % 2 ^ 3 ∧ t.rst.lpSince =
    s.rst.clk ∧ t.rst.waking = none) ∧
  -- WAKE_EVENT (R550)
  (∀ (s : State) (w : WakeSrc), s.restful = true → s.modeCode = mLowPower → s.get SYS_MODE_STAT_LPSTATE ≤ 3 → s.wakeAllowed
    (s.get SYS_MODE_STAT_LPSTATE) (wakeCode w) = true → s.rst.waking = none → w ≠ .resetN → exec (.wakeEvent w) s = .next
    ({ (s.begin.set SYS_LP_STAT_WAKESRC (wakeCode w)) with rst := { s.rst with waking := some 1 } })) ∧
  -- WAKE_TIMER (R550)
  (∀ (s : State), s.restful = true → s.modeCode = mLowPower → s.get SYS_MODE_STAT_LPSTATE ≤ 3 → s.wakeAllowed (s.get
    SYS_MODE_STAT_LPSTATE) 2 = true → s.rst.waking = none → s.get SYS_LP_TIMER_AON ≠ 0 → s.get SYS_LP_TIMER_AON * 400000000
    ≤ (s.rst.clk - s.rst.lpSince) * 32768 → exec .wakeTimer s = .next
    ({ (s.begin.set SYS_LP_STAT_WAKESRC 2) with rst := { s.rst with waking := some 1 } })) ∧
  -- WAKE_COMPLETE (R551)
  (∀ (s : State), s.rst.waking = some 1 → s.get SYS_MODE_STAT_LPSTATE ≤ 1 → ∃ t : State, exec .wakeComplete s = .next
    t.settle ∧ t.modeCode = mIdle ∧ t.rst.waking = none ∧ t.rst.pwrEn = 15)

/-- The setpoint beat, the regulator fallback and hand-back, its event queue and the DAC and gate updates complete as
written. For each of SETPOINT_TICK, REGULATOR_FALLBACK, AUTORET_HANDBACK, EVENT_MAX_DURATION, EVQ_POP, DAC_UPDATE,
GATE_EDGE: under the conditions on the state and the operands written before it, `exec` answers a next state, and it
is the one written out (or, where the statement names facts of it, one of which those facts hold). -/
def Obligations.SetpointAndRegulatorCommands : Prop :=
  -- SETPOINT_TICK (R182)
  (∀ (s : State) (n : Unit24) (ecc : Ecc), s.beat % 200 = 0 → s.sampled n.val = true → s.dry = false → s.heldInReset (32 +
    n.val) = false → s.rst.phase = .off → exec (.setpointTick n ecc) s = .next (s.begin.setpointTick n.val ecc).settle) ∧
  -- REGULATOR_FALLBACK (R227)
  (∀ (s : State) (n : Unit24) (k : Nat), (s.reg n.val).fallDue = some k → exec (.regulatorFallback n) s = .next
    ((((s.begin.setReg n.val { (s.reg n.val).startBlend with fell := true, validRun := 0, holds := 0, fallDue := none }).set
    (REG_STAT_FALLBACK n.val) 1).pulse (laserSrc n.val 5)).pushEvent n.val 4
    { (s.reg n.val).last with value := k, thresh := s.live (REG_CTL_HOLDMAX n.val), dur := 1 }).settle) ∧
  -- AUTORET_HANDBACK (R227)
  (∀ (s : State) (n : Unit24) (m : Nat), s.restful = true → (s.reg n.val).handDue = some m → exec (.autoretHandback n) s =
    .next ((s.begin.setReg n.val { s.reg n.val with loop := 1, fell := false, handDue := none, holds := 0 }).showLoop n.val
    none)) ∧
  -- EVENT_MAX_DURATION (R233)
  (∀ (s : State) (n : Unit24) (ty : Fin 3) (e : OpenEvent), (s.reg n.val).open? (ty.val + 1) = some e → 0xFFFF ≤ e.dur →
    exec (.eventMaxDuration n ty) s = .next ((s.begin.setReg n.val ((s.reg n.val).setOpen (ty.val + 1) none)).pushEvent
    n.val (ty.val + 1) e).settle) ∧
  -- EVQ_POP (R234)
  (∀ (s : State) (n : Unit24) (e : List Nat) (q : List (List Nat)), s.restful = true → s.heldInReset (64 + n.val) = false →
    (s.reg n.val).queue = e :: q → exec (.evqPop n) s = .next ((s.begin.setReg n.val
    { s.reg n.val with queue := q }).showQueue n.val)) ∧
  -- DAC_UPDATE (R214)
  (∀ (s : State) (n : Unit24) (b c : Nat) (l : List (Nat × Nat)), s.restful = true → (s.port n.val).updates = (b, c) :: l →
    b ≤ s.beat → exec (.dacUpdate n) s = .next ((s.begin.setPort n.val { s.port n.val with updates := l }).setDac n.val c)) ∧
  -- GATE_EDGE (R235)
  (∀ (s : State) (n : Unit24) (b : Nat) (w : Bool) (l : List (Nat × Bool)), s.restful = true → (s.port n.val).edges = (b, w)
    :: l → b ≤ 64 * s.beat + 63 → ((s.port n.val).fieldEdges.all (fun e => decide (b ≤ e.1)) = true) → exec (.gateEdge n) s
    = .next ((s.begin.setPort n.val { s.port n.val with edges := l, want := w }).portRefresh n.val)) ∧
  -- GATE_EDGE (R235)
  (∀ (s : State) (n : Unit24) (b : Nat) (w : Bool) (l : List (Nat × Bool)), s.restful = true → (s.port n.val).fieldEdges =
    (b, w) :: l → b ≤ 64 * s.beat + 63 → ((s.port n.val).edges.all (fun e => decide (b < e.1)) = true) → exec (.gateEdge n)
    s = .next ((s.begin.setPort n.val { s.port n.val with fieldEdges := l, fieldHeld := !w }).portRefresh n.val))

/-- Laser alarms, readiness and the interlock inputs leave the next state written out. For each of LASER_ALARM,
LASER_ALARM_CLEARED, LASER_NOT_READY, LASER_READY_REGAINED, INTERLOCK_CHANGE, INTERLOCK_DISCREPANCY, ILK_CLR: under
the conditions on the state and the operands written before it, `exec` answers a next state, and it is the one written
out (or, where the statement names facts of it, one of which those facts hold). -/
def Obligations.LaserPortInputs : Prop :=
  -- LASER_ALARM (R238)
  (∀ (s : State) (n : Unit24), exec (.laserAlarm n) s = .next (
      let u := s.begin.setPin s.sysLive (LP_STAT_ALM n.val) 1;
      if s.flag (LP_CTL_EN n.val) then (u.set (LP_STAT_ALMSEEN n.val) 1).raise (laserSrc n.val 0) else u).settle) ∧
  -- LASER_ALARM_CLEARED (R238)
  (∀ (s : State) (n : Unit24), s.restful = true → exec (.laserAlarmCleared n) s = .next ((s.begin.setPin s.sysLive
    (LP_STAT_ALM n.val) 0).lower (laserSrc n.val 0))) ∧
  -- LASER_NOT_READY (R238)
  (∀ (s : State) (n : Unit24), exec (.laserNotReady n) s = .next (
      let u := s.begin.setPin s.sysLive (LP_STAT_RDY n.val) 0;
      if s.flag (LP_CTL_EN n.val) && s.modeCode == mExpose then (u.set (LP_STAT_RDYLOST n.val) 1).raise (laserSrc n.val 1)
        else u).settle) ∧
  -- LASER_READY_REGAINED (R238)
  (∀ (s : State) (n : Unit24), s.restful = true → exec (.laserReadyRegained n) s = .next ((s.begin.setPin s.sysLive
    (LP_STAT_RDY n.val) 1).lower (laserSrc n.val 1))) ∧
  -- INTERLOCK_CHANGE (R239)
  (∀ (s : State) (ch : Bool), (s.pinLevel (if ch then LP_ILK_LEVB else LP_ILK_LEVA) ≠ 1) → exec (.interlockChange ch true) s
    = .next (
      let u := (s.begin.setPin s.sysLive (if ch then LP_ILK_LEVB else LP_ILK_LEVA) 1).lower (if ch then 3 else 2);
      if u.pinLevel LP_ILK_LEVA == u.pinLevel LP_ILK_LEVB then ({ u with ilkDiff := none }).lower 4 else
        { u with ilkDiff := some u.beat }).settle) ∧
  -- INTERLOCK_CHANGE (R239)
  (∀ (s : State) (ch : Bool), s.restful = true → (s.pinLevel (if ch then LP_ILK_LEVB else LP_ILK_LEVA) = 1) →
    s.armingOrArmed = false → s.sysLive = true → s.get LP_ILK_FIRST = 0 → (s.pinLevel (if ch then LP_ILK_LEVA else
    LP_ILK_LEVB) = 1) → exec (.interlockChange ch false) s = .next ({ ((s.begin.setPin true (if ch then LP_ILK_LEVB else
      LP_ILK_LEVA) 0).set LP_ILK_FIRST (if ch then 2 else 1)) with
      ilkFirst := some s.beat,
      ilkDiff := some s.beat })) ∧
  -- INTERLOCK_DISCREPANCY (R238)
  (∀ (s : State) (b : Nat), s.ilkDiff = some b → s.get LP_ILKCFG_DISC ≠ 0 → b + s.get LP_ILKCFG_DISC * 400000 < s.beat →
    exec .interlockDiscrepancy s = .next ((s.begin.set LP_ILK_DISC 1).raise 4).settle) ∧
  -- ILK_CLR (R239)
  (∀ (s : State), s.restful = true → s.flag LP_ILK_LEVA = true → s.flag LP_ILK_LEVB = true → exec .ilkClr s = .next
    (s.begin.set LP_ILK_FIRST 0))

/-- A mode request, a pending start, the end, timeout and arming of a transition and the layer commands act as written.
For each of MODE_REQUEST, MODE_TRANSITION_COMPLETE, PENDING_REQUEST_START, TRANSITION_TIMEOUT, ARMING_BEAT,
LAYER_COMPLETE, START_BARRIER_RELEASE: under the conditions on the state and the operands written before it, `exec`
answers a next state, and it is the one written out (or, where the statement names facts of it, one of which those
facts hold). -/
def Obligations.ModeMachineCommands : Prop :=
  -- MODE_REQUEST (R45)
  (∀ (s : State) (m : Master) (v : Word), s.sysLive = true → exec (.modeRequest m v) s = .next (((s.begin.set
    SYS_MODE_REQ_TARGET (bits (v.toNat ||| 2 ^ 31) 3 0)).set SYS_MODE_REQ_LPSTATE (bits (v.toNat ||| 2 ^ 31) 7 4)).submit
    ⟨bits (v.toNat ||| 2 ^ 31) 3 0, bits (v.toNat ||| 2 ^ 31) 7 4, m.toNat⟩).settle) ∧
  -- MODE_REQUEST (R45)
  (∀ (s : State) (r : ModeReq), s.mode.haltDue = none → s.mode.trans = none → s.requestCause s.modeCode (s.get
    SYS_MODE_STAT_LPSTATE) r = none → r.target ≠ s.modeCode → s.submit r = { ((s.set SYS_MODE_STAT_REQ_MASTER r.master).set
      SYS_MODE_STAT_BUSY 1) with
      mode := { s.mode with trans := some (r, s.beat), armed := false } }) ∧
  -- MODE_REQUEST (R45)
  (∀ (s : State) (r : ModeReq) (c : Nat), s.mode.haltDue = none → s.mode.trans = none → s.requestCause s.modeCode (s.get
    SYS_MODE_STAT_LPSTATE) r = some c → r.master ≠ 0xFD → s.submit r = (((((s.set SYS_MODE_ERR_REJ_MASTER r.master).set
    SYS_MODE_ERR_REJ_CAUSE c).set SYS_MODE_ERR_REJ_FROM s.modeCode).set SYS_MODE_ERR_REJ_TARGET r.target).set
    SYS_MODE_ERR_REJECT 1)) ∧
  -- MODE_REQUEST (R45)
  (∀ (s : State) (r : ModeReq) (l : List Nat), s.mode.haltDue = some l → r.master ≠ 0xFD → s.submit r = (((((s.set
    SYS_MODE_ERR_REJ_MASTER r.master).set SYS_MODE_ERR_REJ_CAUSE 4).set SYS_MODE_ERR_REJ_FROM mHalted).set
    SYS_MODE_ERR_REJ_TARGET r.target).set SYS_MODE_ERR_REJECT 1)) ∧
  -- MODE_TRANSITION_COMPLETE (R47)
  (∀ (s : State) (r : ModeReq) (b : Nat), s.mode.haltDue = none → s.mode.trans = some (r, b) → s.transDone r.target = true →
    r.target < 16 → ∃ t : State, exec .modeTransitionComplete s = .next t.settle ∧ t.modeCode = r.target ∧
    { t.rst with ballsFree := 0 } = { s.rst with ballsFree := 0 }) ∧
  -- PENDING_REQUEST_START (R47)
  (∀ (s : State) (r : ModeReq), s.mode.haltDue = none → s.mode.pend = some r → s.mode.trans = none → s.mode.since < s.beat →
    s.begin.dropPending.requestCause s.begin.dropPending.modeCode (s.begin.dropPending.get SYS_MODE_STAT_LPSTATE) r = none →
    exec .pendingRequestStart s = .next (s.begin.dropPending.acceptRequest r).settle) ∧
  -- TRANSITION_TIMEOUT (R48)
  (∀ (s : State) (r : ModeReq) (b : Nat), s.mode.trans = some (r, b) → b + s.transLimit ≤ s.beat → exec .transitionTimeout s
    = .next ((((s.begin.set SYS_MODE_ERR_TIMEOUT 1).pulse 7).preemptPending).enterMode mHalted 0 0xFE).settle ∧
    ((((s.begin.set SYS_MODE_ERR_TIMEOUT 1).pulse 7).preemptPending).enterMode mHalted 0 0xFE).modeCode = mHalted) ∧
  -- ARMING_BEAT (R55)
  (∀ (s : State) (r : ModeReq) (b : Nat), s.mode.haltDue = none → s.mode.trans = some (r, b) → r.target = mArmed →
    s.mode.armed = false → (s.modeCode = mIdle ∨ (b < s.beat ∧ s.stepperMoves = false ∧ s.cal.running = none)) → exec
    .armingBeat s = .next
    ({ s.begin.armAll with mode := { s.begin.armAll.mode with armed := true, armAt := s.beat } }).settle) ∧
  -- LAYER_COMPLETE (R58)
  (∀ (s : State), s.modeCode = mExpose → s.mode.trans = none → s.layerOver = true → s.mode.layerTold = false → s.flag
    SYS_MODE_CTL_FAB_LAYER = false → exec .layerComplete s = .next (
      let u := { s.begin.set SYS_MODE_EVT_LAYER 1 with mode := { s.mode with layerTold := true } };
      if s.haltsPast then u.enterMode mRecoat 0 0xFF else { u with mode := { u.mode with recoatDue := true } }).settle ∧
        (({ s.begin.set SYS_MODE_EVT_LAYER 1 with mode := { s.mode with layerTold := true } } : State).enterMode mRecoat 0
        0xFF).modeCode = mRecoat) ∧
  -- START_BARRIER_RELEASE (R146)
  (∀ (s : State) (b : Nat) (l : List Nat), s.starts = b :: l → b ≤ s.beat → exec .startBarrierRelease s = .next
    ({ s.begin with starts := l }).startRelease.settle)

/-- Source assertions, the hack line, the capture registers and fault injection complete as written. For each of
FAULT_SOURCE_ASSERT, RAIL_FAULT, CHIP_RESET_HOLD_END, ASSERT, RELEASE, CAPTURE_CLEAR, INJECTION_ARM, INJECTION_DISARM,
INJECTION_RECHECK: under the conditions on the state and the operands written before it, `exec` answers a next state,
and it is the one written out (or, where the statement names facts of it, one of which those facts hold). -/
def Obligations.FaultCollectorCommands : Prop :=
  -- FAULT_SOURCE_ASSERT (R557)
  (∀ (s : State) (src : Fin 512), srcAssigned src.val = true → exec (.faultSourceAssert src) s = .next (if srcLevel src.val
    then s.begin.draw.raise src.val (s.begin.freeNext % 2 ^ 32) else s.begin.draw.pulse src.val (s.begin.freeNext % 2 ^
    32)).settle) ∧
  -- RAIL_FAULT (R557)
  (∀ (s : State) (src : Fin 512), srcAssigned src.val = true → s.srcActive src.val = false → s.flt.inj = none → exec
    (.railFault src) s = .next ((s.begin.draw.raise src.val (s.begin.freeNext % 2 ^ 32) true).lower src.val).settle) ∧
  -- CHIP_RESET_HOLD_END (R562)
  (∀ (s : State) (d n : Nat), s.flt.hold = some (d, n) → (n = 0 ∨ d ≤ s.rst.clk) → exec .chipResetHoldEnd s = .next
    (({ s.begin with flt := { s.begin.flt with hold := none } }).haltNow.pulseReset 4).settle) ∧
  -- ASSERT (R564)
  (∀ (s : State), s.restful = true → s.sysLive = true → s.flag FLT_HACK_STATE = false → exec .assert s = .next
    (((s.begin.set FLT_HACK_STATE 1).set FLT_HACK_CAUSE 0x200).emit (.pin 0 0)).lasersSafe.calAbort) ∧
  -- RELEASE (R566)
  (∀ (s : State), s.restful = true → s.sysLive = true → (¬ (s.modeCode = 0 ∨ s.modeCode = 1 ∨ s.modeCode = mLowPower)) →
    s.hackBusy = false → s.flag FLT_HACK_STATE = true → s.flag CHR_CTL_EN = false → exec .release s = .next ((s.begin.set
    FLT_HACK_STATE 0).emit (.pin 0 1))) ∧
  -- CAPTURE_CLEAR (R568)
  (∀ (s : State), s.restful = true → s.sysLive = true → exec .captureClear s = .next ({ [FLT_CAP_SRC_VALID,
      FLT_CAP_SRC_RAIL, FLT_CAP_SRC_INJ, FLT_CAP_SRC_PERSIST, FLT_CAP_SRC_SOURCE, FLT_CAP_BEAT_LO_BEAT,
      FLT_CAP_BEAT_HI_BEAT, FLT_CAP_DETAIL_DETAIL, FLT_CAP_CNT_COUNT, FLT_STAT_OVF, FLT_STAT_CAPVALID].foldl (fun t f =>
      t.set f 0) s.begin with
      capMaster := none })) ∧
  -- INJECTION_ARM (R569)
  (∀ (s : State) (v : Word), s.sysLive = true → injMode s.modeCode = true → srcAssigned (bits v.toNat 8 0) = true →
    s.flt.inj = none → exec (.injectionArm v) s = .next (
      let u := (((s.begin.set FLT_INJ_SOURCE (bits v.toNat 8 0)).set FLT_INJ_MODE (bits v.toNat 25 24)).set FLT_INJ_REACT
          (bits v.toNat 20 20)).set FLT_INJ_STAT_ARMED 1;
      { u with
          flt := { s.begin.flt with
                inj := some {
                      source := bits v.toNat 8 0,
                      mode := if bits v.toNat 25 24 = 0 then 1 else bits v.toNat 25 24,
                      react := bit v.toNat 20 } } }).settle) ∧
  -- INJECTION_ARM (R569)
  (∀ (s : State) (v : Word), s.restful = true → s.sysLive = true → (injMode s.modeCode = false ∨ srcAssigned (bits v.toNat 8
    0) = false ∨ s.flt.inj ≠ none) → exec (.injectionArm v) s = .next (s.begin.set FLT_INJ_STAT_REFUSED 1)) ∧
  -- INJECTION_DISARM (R571)
  (∀ (s : State) (i : Injection), s.flt.inj = some i → exec .injectionDisarm s = .next
    (({ s.begin with flt := { s.begin.flt with inj := none, rechecks := s.flt.rechecks ++ [i] } }).set FLT_INJ_STAT_ARMED
    0).settle) ∧
  -- INJECTION_RECHECK (R571)
  (∀ (s : State) (i : Injection) (l : List Injection), s.flt.rechecks = i :: l → exec (.injectionRecheck false) s = .next
    (({ s.begin with flt := { s.begin.flt with rechecks := l } }).lower i.source).settle)

/-- The NV store, row remap, chronograph record and split commands complete as written. For each of NV_WRITE,
ROW_REMAP_COMPLETE, CHRONOGRAPH_RECORD_WRITE, SWREC, SPLIT_IN_EDGE, FIRE, SPLIT, SPLIT_COLLECTION_DONE, DONECLR: under
the conditions on the state and the operands written before it, `exec` answers a next state, and it is the one written
out (or, where the statement names facts of it, one of which those facts hold). -/
def Obligations.ChronographAndSplitCommands : Prop :=
  -- NV_WRITE (R575)
  (∀ (s : State) (m : Master) (a : Addr) (v : Word64), s.restful = true → s.region a.toNat = .nvData → s.nvLive = true →
    s.remapping (s.nvOfs a.toNat / 8 * 8 / 256) = false → s.nvWorn (s.nvOfs a.toNat / 8 * 8 / 2 ^ 20) = false → exec
    (.nvWrite m a v .verified) s = .next ((s.begin.nvStore (s.nvOfs a.toNat / 8 * 8) (leBytes v.toNat 8)).reply m.toNat true
    0)) ∧
  -- ROW_REMAP_COMPLETE (R575)
  (∀ (s : State) (row m o v : Nat) (l : List Remap), s.flt.remaps = ⟨row, some (m, o, v)⟩ :: l → exec .rowRemapComplete s =
    .next ((({ s.begin with flt := { s.begin.flt with remaps := l } }).nvStore o (leBytes v 8)).reply m true 0).settle) ∧
  -- CHRONOGRAPH_RECORD_WRITE (R583)
  (∀ (s : State) (q : ChrRec) (l : List ChrRec) (k : Nat) (w : Bool), s.flt.queue = q :: l → s.chrLive = true → s.chrNext
    (s.get CHR_WPTR_SLOT) 5 = some (k, w) → s.flag CHR_STAT_WRAPPED = false → s.remapping (s.chrSlotOfs k / 256) = false →
    exec (.chronographRecordWrite .verified) s = .next ((((s.begin.nvStore (s.chrSlotOfs k) (q.bytes (s.get NV_PWRCYC_COUNT)
    ((s.get CHR_SEQ_SEQ + 1) % 2 ^ 32))).set CHR_SEQ_SEQ ((s.get CHR_SEQ_SEQ + 1) % 2 ^ 32)).chrPop).chrAdvance k).settle) ∧
  -- SWREC (R579)
  (∀ (s : State) (v : Word), s.heldInReset 137 = false → s.rst.phase = .off → exec (.swrec v) s = .next (((s.begin.set
    CHR_SWREC_SEV (bits (v.toNat ||| 2 ^ 31) 9 8)).set CHR_SWREC_CODE (bits (v.toNat ||| 2 ^ 31) 7 0)).record (0x300 + bits
    (v.toNat ||| 2 ^ 31) 7 0) (bits (v.toNat ||| 2 ^ 31) 9 8) 0 (s.get CHR_TSET_SW) false false false []).settle) ∧
  -- SPLIT_IN_EDGE (R584)
  (∀ (s : State), s.splLive = true → s.flag SPL_CTL_EN = true → s.flag SPL_CTL_INEN = true → s.splitBusy = false → exec
    .splitInEdge s = .next ({ s.begin with
      flt := { s.begin.flt with
            splitId := (s.flt.splitId + 1) % 256,
            splits := s.flt.splits ++ [(⟨s.beat + 128, (s.flt.splitId + 1) % 256⟩ : SplitDue)] } }).settle) ∧
  -- FIRE (R584)
  (∀ (s : State), s.splLive = true → s.flag SPL_CTL_EN = true → s.flag SPL_CTL_FAB = false → s.splitBusy = false → exec
    .fire s = .next ({ s.begin with
      flt := { s.begin.flt with
            splitId := (s.flt.splitId + 1) % 256,
            splits := s.flt.splits ++ [(⟨s.beat + 128, (s.flt.splitId + 1) % 256⟩ : SplitDue)] } }).settle) ∧
  -- FIRE (R584)
  (∀ (s : State), s.restful = true → s.splLive = true → s.flag SPL_CTL_EN = true → s.splitBusy = true → exec .fire s = .next
    ((s.begin.set SPL_STAT_MISSED 1).incSat SPL_MISSCNT_COUNT)) ∧
  -- SPLIT (R585)
  (∀ (s : State) (b id : Nat) (l : List SplitDue), s.flt.splits = ⟨b, id⟩ :: l → b ≤ s.beat → exec .split s = .next
    (({ s.begin with flt := { s.begin.flt with splits := l } }).splitTake id).settle) ∧
  -- SPLIT_COLLECTION_DONE (R586)
  (∀ (s : State), s.splLive = true → s.flag SPL_STAT_BUSY = true → exec .splitCollectionDone s = .next ((((List.range (min
    4096 (s.get SPL_CTL_LEN))).foldl State.splCollect s.begin).set SPL_STAT_BUSY 0).set SPL_STAT_DONE 1).settle) ∧
  -- DONECLR (R592)
  (∀ (s : State), s.restful = true → s.splLive = true → exec .doneclr s = .next (s.begin.set SPL_STAT_DONE 0))

/-- Encoder counting, its illegal-transition and speed windows, the index and a position write complete as written. For
each of ENCODER_COUNT, ILLEGAL_WINDOW, INDEX_EDGE, SPEED_WINDOW, ENC_POS_WRITE: under the conditions on the state and
the operands written before it, `exec` answers a next state, and it is the one written out (or, where the statement
names facts of it, one of which those facts hold). -/
def Obligations.EncoderCommands : Prop :=
  -- ENCODER_COUNT (R499)
  (∀ (s : State) (e : Fin 6) (a b : Bool), s.encLive e.val = true → (quadIx a b + 4 - quadIx (s.en e.val).lineA (s.en
    e.val).lineB) % 4 = 1 → s.flag (ENC_CTL_DIRINV e.val) = false → exec (.encoderCount e a b) s = .next
    (((((((s.begin.setEn e.val { s.en e.val with lineA := a, lineB := b }).set (ENC_POS_VALUE e.val) (enc 32 (s.encPos e.val
    + 1))).setEn e.val { s.en e.val with
      lineA := a,
      lineB := b,
      c1 := (s.en e.val).c0,
      c0 := some s.beat,
      up := true,
      net := (s.en e.val).net + 1 }).encMissing e.val).homeIndexCheck e.val)).encPass e.val a b).settle) ∧
  -- ILLEGAL_WINDOW (R500)
  (∀ (s : State) (e : Fin 6), s.heldInReset 135 = false → s.beat % 400000 = 0 → s.get (ENC_CTL_ILLTHR e.val) < (s.en
    e.val).ill → exec (.illegalWindow e) s = .next (((s.begin.setEn e.val { s.en e.val with ill := 0 }).set
    (ENC_STAT_ILLEGAL e.val) 1).pulse (0x068 + e.val)).settle) ∧
  -- ILLEGAL_WINDOW (R500)
  (∀ (s : State) (e : Fin 6), s.restful = true → s.heldInReset 135 = false → s.beat % 400000 = 0 → (s.en e.val).ill ≤ s.get
    (ENC_CTL_ILLTHR e.val) → exec (.illegalWindow e) s = .next (s.begin.setEn e.val { s.en e.val with ill := 0 })) ∧
  -- INDEX_EDGE (R501)
  (∀ (s : State) (e : Fin 6), s.restful = true → s.encLive e.val = true → s.homeWaiting e.val = [] → s.get (ENC_CPR_VALUE
    e.val) ≠ 0 → s.flag (ENC_STAT_IDXREFOK e.val) = false → exec (.indexEdge e) s = .next ((s.begin.setEn e.val
    { s.en e.val with ref := (s.encPos e.val % (s.get (ENC_CPR_VALUE e.val) : Int)).toNat, last := s.encPos e.val }).set
    (ENC_STAT_IDXREFOK e.val) 1)) ∧
  -- INDEX_EDGE (R501)
  (∀ (s : State) (e : Fin 6) (d : Int), s.restful = true → s.encLive e.val = true → s.homeWaiting e.val = [] → s.get
    (ENC_CPR_VALUE e.val) ≠ 0 → s.flag (ENC_STAT_IDXREFOK e.val) = true → d = (s.encPos e.val - (s.en e.val).ref + (s.get
    (ENC_CPR_VALUE e.val) / 2 : Nat)) % (s.get (ENC_CPR_VALUE e.val) : Int) - (s.get (ENC_CPR_VALUE e.val) / 2 : Nat) →
    d.natAbs ≤ s.get (ENC_ITOL_VALUE e.val) → exec (.indexEdge e) s = .next (((s.begin.set (ENC_IDXLAT_VALUE e.val) (enc 32
    (s.encPos e.val))).set (ENC_IDXDELTA_D e.val) (enc 32 d)).setEn e.val { s.en e.val with last := s.encPos e.val })) ∧
  -- SPEED_WINDOW (R503)
  (∀ (s : State) (e : Fin 6), s.restful = true → s.encLive e.val = true → (s.en e.val).winAt + max 1 (s.get
    (ENC_SPDCFG_SPDWIN e.val)) * 400 ≤ s.beat → s.flag (ENC_STAT_METHOD e.val) = false → absQ (laneQ (s.encPeriod e.val)) ≤
    laneQ (s.get (ENC_VHI_VALUE e.val)) → (s.en e.val).blend = none → exec (.speedWindow e) s = .next ((((s.begin.setEn
    e.val { s.en e.val with net := 0, winAt := s.beat, blend := none }).set (ENC_SPEED_VALUE e.val) (s.encPeriod e.val)).set
    (ENC_STAT_METHOD e.val) 0).set (ENC_STAT_BLENDING e.val) 0)) ∧
  -- ENC_POS_WRITE (R501)
  (∀ (s : State) (e : Fin 6) (v : Word), s.restful = true → s.heldInReset 135 = false → exec (.encPosWrite e v) s = .next
    (((s.begin.set (ENC_POS_VALUE e.val) v.toNat).setEn e.val { s.en e.val with last := sgn 32 v.toNat }).set
    (ENC_STAT_IDXREFOK e.val) 0))

/-- Register, memory and window accesses answer the reply and the state the access rules give. For each of REGISTER_WRITE,
RC_READ, LO_READ_LATCH, MEMORY_ACCESS, FABRIC_WINDOW_ACCESS, REMOTE_TIMEOUT, LOAD_COMPLETE, STORE_COMPLETE: under the
conditions on the state and the operands written before it, `exec` answers a next state, and it is the one written out
(or, where the statement names facts of it, one of which those facts hold). -/
def Obligations.RegisterAndMemoryAccess : Prop :=
  -- REGISTER_WRITE (R6)
  (∀ (s : State) (m : Master) (a : Addr) (v : Word), s.sysLive = true → s.region a.toNat = .reg → a.toNat % 4 = 0 →
    s.blockHeld a.toNat = false → exec (.registerWrite m a v) s = .next (((s.asks m.toNat).regWrite m.toNat a.toNat
    v.toNat).reply m.toNat true 0).settle) ∧
  -- RC_READ (R7)
  (∀ (s : State) (m : Master) (a : Addr), s.sysLive = true → s.region a.toNat = .reg → a.toNat % 4 = 0 → s.blockHeld a.toNat
    = false → exec (.rcRead m a) s = .next (((s.asks m.toNat).regRead m.toNat a.toNat).2.reply m.toNat true ((s.asks
    m.toNat).regRead m.toNat a.toNat).1).settle) ∧
  -- LO_READ_LATCH (R5)
  (∀ (s : State) (m : Master) (a : Addr), s.sysLive = true → s.region a.toNat = .reg → a.toNat % 4 = 0 → s.blockHeld a.toNat
    = false → isLo a.toNat = true → isHi a.toNat = false → (¬ (s.dial.clear.isSome ∧ 0x2000410000 ≤ a.toNat ∧ a.toNat <
    0x2000418000)) → a.toNat ≠ 0x200040020C → a.toNat ≠ 0x2001100010 → exec (.loReadLatch m a) s = .next ((({ s.asks m.toNat with
      hiLatch := Sparse.insert s.hiLatch (m.toNat * 2 ^ 40 + a.toNat) (s.peekReg (a.toNat + 4)) }).clearRc a.toNat).reply
    m.toNat true (s.peekReg a.toNat)).settle) ∧
  -- MEMORY_ACCESS (R28)
  (∀ (s : State) (m : Master) (a : Addr) (l : List Byte), s.sysLive = true → (s.region a.toNat = .dialMem ∨ s.region a.toNat
    = .progMem ∨ s.region a.toNat = .lineBuf) → s.memSpan a.toNat l.length = true → s.dial.clear = none → exec
    (.memoryAccess m a (.write l) .clean) s = .next (((s.asks m.toNat).store a.toNat l).reply m.toNat true 0).settle) ∧
  -- MEMORY_ACCESS (R28)
  (∀ (s : State) (m : Master) (a : Addr) (n : Nat), s.sysLive = true → (s.region a.toNat = .dialMem ∨ s.region a.toNat =
    .progMem ∨ s.region a.toNat = .lineBuf) → s.memSpan a.toNat n = true → s.dial.clear = none → exec (.memoryAccess m a
    (.read n) .clean) s = .next ((s.asks m.toNat).reply m.toNat true (s.load a.toNat n)).settle) ∧
  -- MEMORY_ACCESS (R28)
  (∀ (s : State) (m : Master) (a : Addr) (n : Nat), s.restful = true → s.region a.toNat = .unmapped → exec (.memoryAccess m
    a (.read n) .clean) s = .next ((s.asks m.toNat).reply m.toNat false 0)) ∧
  -- FABRIC_WINDOW_ACCESS (R417)
  (∀ (s : State) (m : Master) (a : Addr) (n : Nat), s.region a.toNat = .fabric → s.ownSlot a.toNat = false → n ≠ 0 →
    s.slotAssigned a.toNat = true → s.skLive = true → exec (.fabricWindowAccess m a (.read n)) s = .next ((s.asks
    m.toNat).remoteStart m.toNat a.toNat false n []).settle) ∧
  -- REMOTE_TIMEOUT (R418)
  (∀ (s : State) (tag : Fin 256), (s.skz.reqs.any (fun r => r.pieces.any (fun p => p.tag == some tag.val && !p.answered &&
    decide (p.sent + 4000 ≤ s.rst.clk))) = true) → exec (.remoteTimeout tag) s = .next (s.begin.pieceDone tag.val false
    []).settle) ∧
  -- LOAD_COMPLETE (R120)
  (∀ (s : State) (n : Unit24) (m : MemReq) (v : Nat), (s.esc n.val).load = some m → s.escState n.val = 3 → s.heldInReset
    n.val = false → m.answer = some (true, v) → (s.esc n.val).stepping = false → ((s.esc n.val).stores.any (fun q =>
    s.target q.addr == s.target m.addr) = false) → exec (.loadComplete n .clean) s = .next (((if m.toF then s.begin.setF
    n.val m.data v else s.begin.setG n.val m.data v).modEsc n.val (fun x => { x with load := none })).setPc n.val (m.pc +
    m.len)).settle) ∧
  -- STORE_COMPLETE (R120)
  (∀ (s : State) (n : Unit24) (m : MemReq) (l : List MemReq) (v : Nat), (s.esc n.val).stores = m :: l → m.answer = some
    (true, v) → exec (.storeComplete n .clean) s = .next (s.begin.modEsc n.val (fun x => { x with stores := l })).settle)

/-- Deposits, the sweep, the clear and rebase of the dial, its peek and the peer check complete as written. For each of
DEPOSIT_COMMIT, SWEEP_SLOT, CLEAR, CLEAR_COMPLETE, REBASE, REBASE_COMPLETE, DIAL_PEEK, PEER_CHECK_RESULT: under the
conditions on the state and the operands written before it, `exec` answers a next state, and it is the one written out
(or, where the statement names facts of it, one of which those facts hold). -/
def Obligations.DialCommands : Prop :=
  -- DEPOSIT_COMMIT (R253)
  (∀ (s : State) (d : Deposit), s.dial.waiting = [d] → d.beat + 120 ≤ s.beat → s.dial.recv = [] → exec (.depositCommit
    .clean) s = .next (({ s.begin with
      dial := { s.dial with waiting := [], recv := [], slot := (s.beat + 80) / 200, slotUsed := 48 - s.fwdRoom } }).commitBegin.commitLocal
    d).settle) ∧
  -- DEPOSIT_COMMIT (R253)
  (∀ (s : State), s.restful = true → (s.dial.waiting.all (fun d => !decide (d.beat + 120 ≤ s.beat)) = true) → s.dial.recv =
    [] → ∀ (ecc : Ecc), exec (.depositCommit ecc) s = .next s.begin) ∧
  -- SWEEP_SLOT (R257)
  (∀ (s : State) (tile : Fin 4096) (t : Nat), s.beat / 32 % 4096 = tile.val → s.sweepRuns = true → s.dial.swept ≠ s.beat /
    32 + 1 → s.beat ≤ s.dial.passAt + 2 ^ 46 → tile.val ≠ 4095 → s.tau = some t → (t : Rat) / 16 ≤ (ageOf (s.beat / 32 * 32
    % 2 ^ 48) (s.stamp tile.val) : Rat) → exec (.sweepSlot tile .clean) s = .next
    (({ s.begin with dial := { s.dial with swept := s.beat / 32 + 1, sweptHit := true } }).rebaseTile tile.val (s.beat / 32
    * 32)).settle) ∧
  -- SWEEP_SLOT (R257)
  (∀ (s : State) (tile : Fin 4096) (ecc : Ecc) (t : Nat), s.restful = true → s.beat / 32 % 4096 = tile.val → s.sweepRuns =
    true → s.dial.swept ≠ s.beat / 32 + 1 → s.beat ≤ s.dial.passAt + 2 ^ 46 → tile.val ≠ 4095 → s.tau = some t → (¬ (t :
    Rat) / 16 ≤ (ageOf (s.beat / 32 * 32 % 2 ^ 48) (s.stamp tile.val) : Rat)) → exec (.sweepSlot tile ecc) s = .next
    { s.begin with dial := { s.dial with swept := s.beat / 32 + 1, sweptHit := false } }) ∧
  -- CLEAR (R262)
  (∀ (s : State), s.restful = true → s.heldInReset 129 = false → exec .clear s = .next (if dialCmdMode s.modeCode &&
    s.dial.clear.isNone && s.dial.rebase.isNone then
    (({ s.begin with dial := { s.dial with clear := some (s.beat + 209716), rebase := none } }).set DIAL_STAT_BUSY 1).set
    DIAL_STAT_REBASING 0 else s.begin.set DIAL_STAT_CMDERR 1)) ∧
  -- CLEAR_COMPLETE (R264)
  (∀ (s : State) (b : Nat), s.restful = true → s.dial.clear = some b → b ≤ s.beat → exec .clearComplete s = .next
    s.begin.dialClearDone) ∧
  -- REBASE (R262)
  (∀ (s : State), s.restful = true → s.heldInReset 129 = false → exec .rebase s = .next (if dialCmdMode s.modeCode &&
    s.dial.clear.isNone && s.dial.rebase.isNone then
    ({ s.begin with dial := { s.dial with rebase := some (s.beat + 32768) } }).set DIAL_STAT_REBASING 1 else s.begin.set
    DIAL_STAT_CMDERR 1)) ∧
  -- REBASE_COMPLETE (R262)
  (∀ (s : State) (b : Nat), s.dial.rebase = some b → b ≤ s.beat → exec (.rebaseComplete .clean) s = .next (
      let u := dialTiles.foldl (fun (u : State) t => u.rebaseTile t b) s.begin;
      ({ u with dial := { u.dial with rebase := none, old := some (b, dialTiles.map (fun t => (t, s.begin.stamp t))) } }).set
        DIAL_STAT_REBASING 0).settle) ∧
  -- REBASE_COMPLETE (R262)
  (∀ (s : State) (b : Nat), s.dial.rebase = some b → b ≤ s.beat → exec (.rebaseComplete .uncorrectable) s = .next
    ((({ s.begin with dial := { s.dial with rebase := none } }).set DIAL_STAT_REBASING 0).dialStop.pulse 0x00B).settle) ∧
  -- DIAL_PEEK (R260)
  (∀ (s : State) (m : Master) (ecc : Ecc), s.heldInReset 129 = false → exec (.dialPeek m ecc) s = .next ((s.begin.peekDial
    ecc).reply m.toNat true ((s.begin.peekDial ecc).get DIAL_PEEK_VAL_THETA)).settle) ∧
  -- PEER_CHECK_RESULT (R270)
  (∀ (s : State) (k : Fin 8), s.restful = true → s.dial.checking.testBit k.val = true → ∀ (o : Origin), sgn 32 o.x.toNat =
    sgn 32 (s.get DIAL_ORG_X_ORG) + 4000 * sgn 16 (s.live (DIAL_POFS_DX k.val)) → sgn 32 o.y.toNat = sgn 32 (s.get
    DIAL_ORG_Y_ORG) + 4000 * sgn 16 (s.live (DIAL_POFS_DY k.val)) → exec (.peerCheckResult k (some o)) s = .next
    ({ s.begin with dial := { s.dial with checking := putBit s.dial.checking k.val false } })) ∧
  -- PEER_CHECK_RESULT (R270)
  (∀ (s : State) (k : Fin 8), s.dial.checking.testBit k.val = true → exec (.peerCheckResult k none) s = .next ((({ s.begin with
      dial := { s.dial with checking := putBit s.dial.checking k.val false, excluded := putBit s.dial.excluded k.val true } }).set
    DIAL_STAT_PEERERR 1).pulse 0x012).settle)

/-- The bridge beat, a pool record, the hold timeout and the expiry of a reservation complete as written. For each of
BRIDGE_BEAT, POOL_RECORD_ARRIVE, HOLD_TIMEOUT, RESERVATION_EXPIRE: under the conditions on the state and the operands
written before it, `exec` answers a next state, and it is the one written out (or, where the statement names facts of
it, one of which those facts hold). -/
def Obligations.BridgeCommands : Prop :=
  -- BRIDGE_BEAT (R283)
  (∀ (s : State), s.modeCode = mExpose → s.heldInReset 128 = false → exec .bridgeBeat s = .next ((rrOrder (s.get
    BRG_RRPTR_PTR)).foldl State.bridgeHold ((rrOrder (s.get BRG_RRPTR_PTR)).foldl State.bridgeDraw
    (s.begin.bridgeReleases.bridgeGrants (rrOrder (s.get BRG_RRPTR_PTR))))).settle) ∧
  -- BRIDGE_BEAT (R283)
  (∀ (s : State), s.restful = true → s.modeCode ≠ mExpose → exec .bridgeBeat s = .next s.begin) ∧
  -- POOL_RECORD_ARRIVE (R301)
  (∀ (s : State) (n : Unit24) (f : FloatSt) (i j a : Nat), (s.esc n.val).float = some f → f.fetch = some (i, j) → a =
    s.begin.pair (BRG_PBASE_LO_ADDR f.pool).copy (BRG_PBASE_HI_ADDR f.pool).copy + 32 * i → s.region a = .progMem → exec
    (.poolRecordArrive n .clean) s = .next (s.begin.recordUse n.val f i ((List.range 8).map (fun k => s.begin.load (a + 4 *
    k) 4)) (s.live (BRG_PCFG_KIND f.pool) == 1) false).settle) ∧
  -- HOLD_TIMEOUT (R286)
  (∀ (s : State) (n : Unit24) (x : HoldSt), (s.esc n.val).hold = some x → (∀ g, x.g = some g → x.h + s.live
    BRG_HOLDTO_HOLDTO * 400 ≤ g + 16) → x.timedOut = false → s.live BRG_HOLDTO_HOLDTO ≠ 0 → x.h + s.live BRG_HOLDTO_HOLDTO *
    400 ≤ s.beat → s.modeCode = mExpose → exec (.holdTimeout n) s = .next (((s.begin.setEsc n.val
    { s.esc n.val with hold := some { x with timedOut := true } }).set BRG_STAT_HOLDTO 1).pulse 0x014).settle) ∧
  -- RESERVATION_EXPIRE (R308)
  (∀ (s : State) (n : Unit24) (b : Nat), s.restful = true → s.modeCode = mExpose → (s.esc n.val).resvEnd = some b → b ≤
    s.beat → exec (.reservationExpire n) s = .next (s.begin.setEsc n.val { s.esc n.val with
      linger := (s.esc n.val).linger.filter (fun x => decide (s.beat < x.2)),
      resv := none,
      resvEnd := none }))

/-- Program fetch, START and the device and fabric barriers leave the next state written out. For each of
FETCH_LINE_RETURN, PREFETCH_COMPLETE, START_COMMAND, DEVICE_BARRIER_RELEASE, DEVICE_BARRIER_TIMEOUT,
FABRIC_BARRIER_DECISION, FABRIC_BARRIER_TIMEOUT, FABRIC_BARRIER_LOCAL_TIMEOUT: under the conditions on the state and
the operands written before it, `exec` answers a next state, and it is the one written out (or, where the statement
names facts of it, one of which those facts hold). -/
def Obligations.EscapementStartAndBarriers : Prop :=
  -- FETCH_LINE_RETURN (R136)
  (∀ (s : State) (n : Unit24) (a : Addr), (s.escState n.val = 2 ∨ s.escState n.val = 3 ∨ s.escState n.val = 4) →
    s.heldInReset n.val = false → ((s.esc n.val).buf.any (fun l => l.addr == a.toNat / 64 * 64) = false) → (s.esc
    n.val).buf.length < 64 → s.region (a.toNat / 64 * 64) = .progMem → s.restful = true → exec (.fetchLineReturn n a .clean)
    s = .next ((({ s.begin with req := some (0x10 + n.val) } : State).setEsc n.val { s.esc n.val with
      buf := (s.esc n.val).buf ++ [⟨a.toNat / 64 * 64, false, s.begin.lineWords (a.toNat / 64 * 64)⟩],
      lineAt := s.beat }).set (ESC_STAT_BUFVALID n.val) 1)) ∧
  -- PREFETCH_COMPLETE (R134)
  (∀ (s : State) (n : Unit24), s.restful = true → s.escState n.val = 1 → (s.esc n.val).lineAt < s.beat → (s.prefetchStopped
    n.val = true ∨ s.pfDepth n.val ≤ (s.prefetched n.val).2) → exec (.prefetchComplete n) s = .next (s.begin.setEscState
    n.val 2)) ∧
  -- START_COMMAND (R144)
  (∀ (s : State), s.restful = true → s.modeCode = mArmed → exec .startCommand s = .next (State.startEnter (s.begin.startDue
    (s.pair ESC_GOSTAMP_LO_STAMP ESC_GOSTAMP_HI_STAMP)))) ∧
  -- START_COMMAND (R144)
  (∀ (s : State), s.restful = true → s.modeCode ≠ mArmed → exec .startCommand s = .next (s.begin.set ESC_GSTAT_GOERR 1)) ∧
  -- DEVICE_BARRIER_RELEASE (R150)
  (∀ (s : State) (g : Fin 16), s.restful = true → s.barFull g.val = true → (s.bar g.val).ready ≤ s.beat → exec
    (.deviceBarrierRelease g) s = .next (((s.bar g.val).arrived.foldl (fun t e => t.endWait e.1) (s.begin.setBar g.val
    { s.bar g.val with arrived := [], reported := none })))) ∧
  -- DEVICE_BARRIER_TIMEOUT (R152)
  (∀ (s : State) (g : Fin 16) (a b c : Nat), (s.bar g.val).arrived = [(a, b, c)] → s.get ESC_SYNCTO_DEV_TO ≠ 0 → b + usBeats
    (s.get ESC_SYNCTO_DEV_TO) ≤ s.beat → exec (.deviceBarrierTimeout g) s = .next (s.begin.barFail g.val).settle) ∧
  -- FABRIC_BARRIER_DECISION (R151)
  (∀ (s : State) (g : Fin 16), s.flag SKZ_STAT_TK = true → (s.bar (16 + g.val)).reports ≠ [] → ((List.range 16).all (fun d
    => !(s.bar (16 + g.val)).devices.testBit d || (s.bar (16 + g.val)).reports.any (fun r => r.1 == d)) = true) → exec
    (.fabricBarrierDecision g) s = .next ((s.begin.setBar (16 + g.val)
    { s.bar (16 + g.val) with reports := [] }).skBroadcast 8 g.val (max ((s.bar (16 + g.val)).reports.foldl (fun t r => max
    t r.2) 0) (s.beat + s.get ESC_FLEAD_LEAD))).settle) ∧
  -- FABRIC_BARRIER_TIMEOUT (R153)
  (∀ (s : State) (g : Fin 16), s.flag SKZ_STAT_TK = true → (s.bar (16 + g.val)).reports ≠ [] → s.get ESC_SYNCTO_FAB_TO ≠ 0 →
    (s.bar (16 + g.val)).firstReport + usBeats (s.get ESC_SYNCTO_FAB_TO) ≤ s.beat → exec (.fabricBarrierTimeout g) s = .next
    ((s.begin.setBar (16 + g.val) { s.bar (16 + g.val) with reports := [] }).skBroadcast 9 g.val (s.beat + s.get
    ESC_FLEAD_LEAD)).settle) ∧
  -- FABRIC_BARRIER_LOCAL_TIMEOUT (R153)
  (∀ (s : State) (g : Fin 16) (r : Nat), (s.bar (16 + g.val)).reported = some r → s.get ESC_SYNCTO_FAB_TO ≠ 0 → r + usBeats
    (s.get ESC_SYNCTO_FAB_TO + 10) ≤ s.beat → s.fabTold g.val = false → exec (.fabricBarrierLocalTimeout g) s = .next
    (s.begin.barFail (16 + g.val)).settle)

/-- Event fire and set, alarms, START, STOP, RESUME, STEP and FLUSH with their group forms complete as written. For each
of EVSET, EVFIRE, ALARM_MATCH, START, STOP, RESUME, STEP, FLUSH, GCMD_START, GCMD_STOP, GCMD_RESUME, ENABLE_WRITE:
under the conditions on the state and the operands written before it, `exec` answers a next state, and it is the one
written out (or, where the statement names facts of it, one of which those facts hold). -/
def Obligations.EscapementControlCommands : Prop :=
  -- EVSET (R155)
  (∀ (s : State) (n : Unit24) (v : Word), s.restful = true → s.heldInReset n.val = false → exec (.evset n v) s = .next
    (((s.begin.modEsc n.val (fun e =>
    { e with evAt := s.beat, evBits := (if e.evAt = s.beat then e.evBits else 0) ||| (v.toNat % 65536) })).set
    (ESC_EVENT_EVENT n.val) (s.get (ESC_EVENT_EVENT n.val) ||| (v.toNat % 65536))).awaitWake n.val)) ∧
  -- EVFIRE (R156)
  (∀ (s : State) (v : Word), s.restful = true → exec (.evfire v) s = .next (s.begin.forMask (s.get ESC_EVMASK_MASK) (fun t n
    => t.setEvents n v.toNat))) ∧
  -- ALARM_MATCH (R155)
  (∀ (s : State) (n : Unit24), s.restful = true → s.lbeat = s.pair (ESC_ALARM_LO_VALUE n.val) (ESC_ALARM_HI_VALUE n.val) →
    s.heldInReset n.val = false → exec (.alarmMatch n) s = .next (((s.begin.modEsc n.val (fun e =>
    { e with evAt := s.beat, evBits := (if e.evAt = s.beat then e.evBits else 0) ||| (0x1000 % 65536) })).set
    (ESC_EVENT_EVENT n.val) (s.get (ESC_EVENT_EVENT n.val) ||| (0x1000 % 65536))).awaitWake n.val)) ∧
  -- START (R157)
  (∀ (s : State) (n : Unit24), s.heldInReset n.val = false → stoppedCode (s.escState n.val) = true → startMode s.modeCode =
    true → exec (.start n) s = .next (((((((s.begin.closeEvents n.val).cutGate n.val).stopMotion n.val false).endStretch
    n.val).orphanAll n.val).flushBuf n.val).startEsc n.val).settle) ∧
  -- START (R157)
  (∀ (s : State) (n : Unit24), s.heldInReset n.val = false → (stoppedCode (s.escState n.val) = false ∨ startMode s.modeCode
    = false) → exec (.start n) s = .next (s.begin.cmdErr n.val).settle) ∧
  -- STOP (R159)
  (∀ (s : State) (n : Unit24), s.heldInReset n.val = false → s.escState n.val ≠ 0 → exec (.stop n) s = .next
    ((s.begin.closeEvents n.val).stopEsc n.val).settle) ∧
  -- RESUME (R161)
  (∀ (s : State) (n : Unit24), s.restful = true → s.heldInReset n.val = false → (s.escState n.val = 5 ∨ s.escState n.val =
    6) → startMode s.modeCode = true → exec (.resume n) s = .next ((((s.begin.breakStretch n.val).setPc n.val (s.resumePc
    n.val)).modEsc n.val (fun e => { e with storeTrap := none, layerDone := false })).resumeIssue n.val)) ∧
  -- STEP (R164)
  (∀ (s : State) (n : Unit24), s.restful = true → s.heldInReset n.val = false → (s.escState n.val = 5 ∨ s.escState n.val =
    6) → stepMode s.modeCode = true → exec (.step n) s = .next (((((s.begin.breakStretch n.val).setPc n.val (s.resumePc
    n.val)).modEsc n.val (fun e => { e with storeTrap := none, layerDone := false })).resumeIssue n.val).modEsc n.val (fun e
    => { e with stepping := true }))) ∧
  -- STEP (R164)
  (∀ (s : State) (n : Unit24), s.heldInReset n.val = false → s.escState n.val = 0 → stepMode s.modeCode = true → exec (.step
    n) s = .next ((s.begin.startEsc n.val).modEsc n.val (fun e => { e with stepping := true })).settle) ∧
  -- FLUSH (R157)
  (∀ (s : State) (n : Unit24), s.restful = true → s.heldInReset n.val = false → stoppedCode (s.escState n.val) = true → exec
    (.flush n) s = .next (s.begin.flushBuf n.val)) ∧
  -- GCMD_START (R158)
  (∀ (s : State) (mask : BitVec 24), exec (.gcmdStart mask) s = .next (((s.begin.set ESC_GCMD_CMD 1).set ESC_GCMD_MASK
    mask.toNat).forMask mask.toNat State.startCmd).settle) ∧
  -- GCMD_STOP (R158)
  (∀ (s : State) (mask : BitVec 24), exec (.gcmdStop mask) s = .next (((s.begin.set ESC_GCMD_CMD 2).set ESC_GCMD_MASK
    mask.toNat).forMask mask.toNat State.stopCmd).settle) ∧
  -- GCMD_RESUME (R158)
  (∀ (s : State) (mask : BitVec 24), exec (.gcmdResume mask) s = .next (((s.begin.set ESC_GCMD_CMD 3).set ESC_GCMD_MASK
    mask.toNat).forMask mask.toNat State.resumeCmd).settle) ∧
  -- ENABLE_WRITE (R165)
  (∀ (s : State) (n : Unit24) (v : Word), s.restful = true → s.heldInReset n.val = false → stoppedCode (s.escState n.val) =
    true → s.escState n.val ≠ 6 → s.flag (ESC_CTL_ENABLE n.val) ≠ bit v.toNat 0 → exec (.enableWrite n v) s = .next
    ((s.begin.set (ESC_CTL_PFDEPTH n.val) (bits v.toNat 15 8)).set (ESC_CTL_ENABLE n.val) (b2n (bit v.toNat 0))))

/-- Segment commits and ends, the end of a drain, retargeting and return complete as written. For each of SEGMENT_COMMIT,
SEGMENT_END, DRAIN_END, RETARGET_STOP_END, RETURN_END, TIMELINE_RESTART: under the conditions on the state and the
operands written before it, `exec` answers a next state, and it is the one written out (or, where the statement names
facts of it, one of which those facts hold). -/
def Obligations.TimelineCommands : Prop :=
  -- SEGMENT_COMMIT (R189)
  (∀ (s : State) (n : Unit24) (g : Seg) (l : List Seg), s.restful = true → (s.esc n.val).queue = g :: l → s.mayCommit n.val
    g = true → g.kind.on = false → (s.esc n.val).stretch = none → g.set.powNew = false → ((s.esc n.val).planSeg (s.limits
    n.val) s.beat g l ((s.esc n.val).zeroPower g) (s.esc n.val).wait.isSome).2 = false → exec (.segmentCommit n) s = .next
    (s.begin.setEsc n.val { s.esc n.val with
      line := .seg ((s.esc n.val).planSeg (s.limits n.val) s.beat g l ((s.esc n.val).zeroPower g) (s.esc
          n.val).wait.isSome).1,
      restart := none,
      fresh := false,
      junction := none })) ∧
  -- SEGMENT_END (R140)
  (∀ (s : State) (n : Unit24) (p : Plan) (g x : Seg) (l : List Seg), (s.esc n.val).line = .seg p → (s.esc n.val).queue = g
    :: x :: l → p.start + p.beats ≤ s.beat → s.escState n.val = 3 → g.kind.on = false → (p.vExit ≤ 0 ∨ continues (s.limits
    n.val) g x p.vExit = true) → g.piece = none → exec (.segmentEnd n) s = .next (
      let q := p.sample (p.start + p.beats) { x := (s.esc n.val).px, y := (s.esc n.val).py, z := (s.esc n.val).pz };
      let u := (s.begin.setEsc n.val { s.esc n.val with
            px := q.x,
            py := q.y,
            pz := q.z,
            v := p.vExit,
            dirX := p.dirX,
            dirY := p.dirY,
            dirZ := p.dirZ,
            line := .idle,
            idleAt := p.start + p.beats,
            prev := 0,
            wobX := 0,
            wobY := 0,
            wobT := 0,
            env := 0 }).setQueue n.val (x :: l);
      (({ u with yieldDue := s.yieldDue ++ g.yields.map (fun z => (n.val, z)) }).floatCheck n.val).storeCheck n.val).settle) ∧
  -- DRAIN_END (R76)
  (∀ (s : State) (n : Unit24) (w : Wait), (s.esc n.val).wait = some w → w.drained = false → (s.esc n.val).drainedNow = true
    → s.escState n.val = 4 → exec (.drainEnd n) s = .next (s.begin.drainDone n.val).settle) ∧
  -- DRAIN_END (R76)
  (∀ (s : State) (n : Unit24) (w : Wait), s.restful = true → (s.esc n.val).wait = some w → w.drained = false → (s.esc
    n.val).drainedNow = true → s.escState n.val = 4 → ∀ (k : Nat), k ≠ 0 → w.kind = .waitt false k → exec (.drainEnd n) s =
    .next ((s.begin.breakStretch n.val).modEsc n.val (fun e =>
    { e with prev := 0, wait := some { w with drained := true, since := s.beat } }))) ∧
  -- RETARGET_STOP_END (R196)
  (∀ (s : State) (n : Unit24) (p : Plan), s.restful = true → (s.esc n.val).line = .stop p true → p.start + p.beats ≤ s.beat
    → ∀ (g : Seg) (l : List Seg), (s.esc n.val).queue = g :: l → exec (.retargetStopEnd n) s = .next (
      let q := p.sample (p.start + p.beats) { x := (s.esc n.val).px, y := (s.esc n.val).py, z := (s.esc n.val).pz };
      s.begin.setEsc n.val { s.esc n.val with
          px := q.x + (s.esc n.val).wobX,
          py := q.y + (s.esc n.val).wobY,
          pz := q.z,
          wobX := 0,
          wobY := 0,
          v := 0,
          idleAt := p.start + p.beats,
          line := .ret (returnPlan (s.limits n.val) (p.start + p.beats) g.set.vJump (q.x + (s.esc n.val).wobX) (q.y + (s.esc
              n.val).wobY) q.z g.x0 g.y0 g.z0) })) ∧
  -- RETURN_END (R197)
  (∀ (s : State) (n : Unit24) (p : Plan), (s.esc n.val).line = .ret p → p.start + p.beats ≤ s.beat → exec (.returnEnd n) s =
    .next (
      let q := p.sample (p.start + p.beats) { x := (s.esc n.val).px, y := (s.esc n.val).py, z := (s.esc n.val).pz };
      ((s.begin.setEsc n.val
        { s.esc n.val with px := q.x, py := q.y, pz := q.z, line := .idle, idleAt := p.start + p.beats }).floatCheck
        n.val).storeCheck n.val).settle) ∧
  -- TIMELINE_RESTART (R141)
  (∀ (s : State) (n : Unit24) (r : Nat), s.restful = true → (s.esc n.val).restart = some r → r ≤ s.beat → exec
    (.timelineRestart n) s = .next (s.begin.setEsc n.val { s.esc n.val with restart := none }))

/-- The Calibre integer instructions write their destination and the integer flags and nothing else. For each of ADD, SUB,
AND, OR, XOR, SHL, SHR, SRA, MUL, MULH, MIN, MAX, CMP, TST: under the conditions on the state and the operands written
before it, `exec` answers a next state, and it is the one written out (or, where the statement names facts of it, one
of which those facts hold). -/
def Obligations.CalibreIntegerInstructions : Prop :=
  -- ADD (R123)
  (∀ (s : State) (n : Unit24) (b : BitVec 58), s.restful = true → s.goes n.val (instrWords 0x34 (wordOf b) 0) (aluIllegal
    (wordOf b) 0x0 false) = true → exec (.add n b) s = .next (
      let x := s.g n.val (bits (wordOf b) 46 42);
      let y := s.aluB n.val (wordOf b);
      let r := (x + y) % 2 ^ 32;
      ((s.advanced n.val (instrWords 0x34 (wordOf b) 0)).setG n.val (bits (wordOf b) 51 47) r).intFlags n.val r (decide (2 ^
        32 ≤ x + y)) (decide (sgn 32 x + sgn 32 y ≠ sgn 32 ((x + y) % 2 ^ 32))))) ∧
  -- SUB (R123)
  (∀ (s : State) (n : Unit24) (b : BitVec 58), s.restful = true → s.goes n.val (instrWords 0x34 (wordOf b) 0) (aluIllegal
    (wordOf b) 0x1 false) = true → exec (.sub n b) s = .next (
      let x := s.g n.val (bits (wordOf b) 46 42);
      let y := s.aluB n.val (wordOf b);
      let r := (x + 2 ^ 32 - y) % 2 ^ 32;
      ((s.advanced n.val (instrWords 0x34 (wordOf b) 0)).setG n.val (bits (wordOf b) 51 47) r).intFlags n.val r (decide (y ≤
        x)) (decide (sgn 32 x - sgn 32 y ≠ sgn 32 ((x + 2 ^ 32 - y) % 2 ^ 32))))) ∧
  -- AND (R123)
  (∀ (s : State) (n : Unit24) (b : BitVec 58), s.restful = true → s.goes n.val (instrWords 0x34 (wordOf b) 0) (aluIllegal
    (wordOf b) 0x2 false) = true → exec (.and n b) s = .next (
      let x := s.g n.val (bits (wordOf b) 46 42);
      let y := s.aluB n.val (wordOf b);
      let r := x &&& y;
      ((s.advanced n.val (instrWords 0x34 (wordOf b) 0)).setG n.val (bits (wordOf b) 51 47) r).intFlags n.val r (false)
        (false))) ∧
  -- OR (R123)
  (∀ (s : State) (n : Unit24) (b : BitVec 58), s.restful = true → s.goes n.val (instrWords 0x34 (wordOf b) 0) (aluIllegal
    (wordOf b) 0x3 false) = true → exec (.or n b) s = .next (
      let x := s.g n.val (bits (wordOf b) 46 42);
      let y := s.aluB n.val (wordOf b);
      let r := x ||| y;
      ((s.advanced n.val (instrWords 0x34 (wordOf b) 0)).setG n.val (bits (wordOf b) 51 47) r).intFlags n.val r (false)
        (false))) ∧
  -- XOR (R123)
  (∀ (s : State) (n : Unit24) (b : BitVec 58), s.restful = true → s.goes n.val (instrWords 0x34 (wordOf b) 0) (aluIllegal
    (wordOf b) 0x4 false) = true → exec (.xor n b) s = .next (
      let x := s.g n.val (bits (wordOf b) 46 42);
      let y := s.aluB n.val (wordOf b);
      let r := x ^^^ y;
      ((s.advanced n.val (instrWords 0x34 (wordOf b) 0)).setG n.val (bits (wordOf b) 51 47) r).intFlags n.val r (false)
        (false))) ∧
  -- SHL (R123)
  (∀ (s : State) (n : Unit24) (b : BitVec 58), s.restful = true → s.goes n.val (instrWords 0x34 (wordOf b) 0) (aluIllegal
    (wordOf b) 0x5 false) = true → exec (.shl n b) s = .next (
      let x := s.g n.val (bits (wordOf b) 46 42);
      let y := s.aluB n.val (wordOf b);
      let r := x * 2 ^ (y % 32) % 2 ^ 32;
      ((s.advanced n.val (instrWords 0x34 (wordOf b) 0)).setG n.val (bits (wordOf b) 51 47) r).intFlags n.val r (decide (y %
        32 ≠ 0) && bit x (32 - y % 32)) (false))) ∧
  -- SHR (R123)
  (∀ (s : State) (n : Unit24) (b : BitVec 58), s.restful = true → s.goes n.val (instrWords 0x34 (wordOf b) 0) (aluIllegal
    (wordOf b) 0x6 false) = true → exec (.shr n b) s = .next (
      let x := s.g n.val (bits (wordOf b) 46 42);
      let y := s.aluB n.val (wordOf b);
      let r := x / 2 ^ (y % 32);
      ((s.advanced n.val (instrWords 0x34 (wordOf b) 0)).setG n.val (bits (wordOf b) 51 47) r).intFlags n.val r (decide (y %
        32 ≠ 0) && bit x (y % 32 - 1)) (false))) ∧
  -- SRA (R123)
  (∀ (s : State) (n : Unit24) (b : BitVec 58), s.restful = true → s.goes n.val (instrWords 0x34 (wordOf b) 0) (aluIllegal
    (wordOf b) 0x7 false) = true → exec (.sra n b) s = .next (
      let x := s.g n.val (bits (wordOf b) 46 42);
      let y := s.aluB n.val (wordOf b);
      let r := enc 32 ((sgn 32 x).fdiv ((2 ^ (y % 32) : Nat) : Int));
      ((s.advanced n.val (instrWords 0x34 (wordOf b) 0)).setG n.val (bits (wordOf b) 51 47) r).intFlags n.val r (decide (y %
        32 ≠ 0) && bit x (y % 32 - 1)) (false))) ∧
  -- MUL (R123)
  (∀ (s : State) (n : Unit24) (b : BitVec 58), s.restful = true → s.goes n.val (instrWords 0x34 (wordOf b) 0) (aluIllegal
    (wordOf b) 0x8 false) = true → exec (.mul n b) s = .next (
      let x := s.g n.val (bits (wordOf b) 46 42);
      let y := s.aluB n.val (wordOf b);
      let r := x * y % 2 ^ 32;
      ((s.advanced n.val (instrWords 0x34 (wordOf b) 0)).setG n.val (bits (wordOf b) 51 47) r).intFlags n.val r (false)
        (false))) ∧
  -- MULH (R123)
  (∀ (s : State) (n : Unit24) (b : BitVec 58), s.restful = true → s.goes n.val (instrWords 0x34 (wordOf b) 0) (aluIllegal
    (wordOf b) 0x9 false) = true → exec (.mulh n b) s = .next (
      let x := s.g n.val (bits (wordOf b) 46 42);
      let y := s.aluB n.val (wordOf b);
      let r := enc 32 ((sgn 32 x * sgn 32 y).fdiv ((2 ^ 32 : Nat) : Int));
      ((s.advanced n.val (instrWords 0x34 (wordOf b) 0)).setG n.val (bits (wordOf b) 51 47) r).intFlags n.val r (false)
        (false))) ∧
  -- MIN (R123)
  (∀ (s : State) (n : Unit24) (b : BitVec 58), s.restful = true → s.goes n.val (instrWords 0x34 (wordOf b) 0) (aluIllegal
    (wordOf b) 0xA false) = true → exec (.min n b) s = .next (
      let x := s.g n.val (bits (wordOf b) 46 42);
      let y := s.aluB n.val (wordOf b);
      let r := if sgn 32 y < sgn 32 x then y else x;
      ((s.advanced n.val (instrWords 0x34 (wordOf b) 0)).setG n.val (bits (wordOf b) 51 47) r).intFlags n.val r (false)
        (false))) ∧
  -- MAX (R123)
  (∀ (s : State) (n : Unit24) (b : BitVec 58), s.restful = true → s.goes n.val (instrWords 0x34 (wordOf b) 0) (aluIllegal
    (wordOf b) 0xB false) = true → exec (.max n b) s = .next (
      let x := s.g n.val (bits (wordOf b) 46 42);
      let y := s.aluB n.val (wordOf b);
      let r := if sgn 32 x < sgn 32 y then y else x;
      ((s.advanced n.val (instrWords 0x34 (wordOf b) 0)).setG n.val (bits (wordOf b) 51 47) r).intFlags n.val r (false)
        (false))) ∧
  -- CMP (R123)
  (∀ (s : State) (n : Unit24) (b : BitVec 58), s.restful = true → s.goes n.val (instrWords 0x34 (wordOf b) 0) (aluIllegal
    (wordOf b) 0xC true) = true → exec (.cmp n b) s = .next (
      let x := s.g n.val (bits (wordOf b) 46 42);
      let y := s.aluB n.val (wordOf b);
      let r := (x + 2 ^ 32 - y) % 2 ^ 32;
      (s.advanced n.val (instrWords 0x34 (wordOf b) 0)).intFlags n.val r (decide (y ≤ x)) (decide (sgn 32 x - sgn 32 y ≠ sgn
        32 ((x + 2 ^ 32 - y) % 2 ^ 32))))) ∧
  -- TST (R123)
  (∀ (s : State) (n : Unit24) (b : BitVec 58), s.restful = true → s.goes n.val (instrWords 0x34 (wordOf b) 0) (aluIllegal
    (wordOf b) 0xD true) = true → exec (.tst n b) s = .next (
      let x := s.g n.val (bits (wordOf b) 46 42);
      let y := s.aluB n.val (wordOf b);
      let r := x &&& y;
      (s.advanced n.val (instrWords 0x34 (wordOf b) 0)).intFlags n.val r (false) (false)))

/-- The Calibre floating-point and conversion instructions write their destination and the flags the rules give and
nothing else. For each of FADD, FADD_SUB, FADD_MIN, FADD_MAX, FMUL, FMA, FMA_SUB, I2F, P2F, F2I, F2IR, F2P: under the
conditions on the state and the operands written before it, `exec` answers a next state, and it is the one written out
(or, where the statement names facts of it, one of which those facts hold). -/
def Obligations.CalibreFloatInstructions : Prop :=
  -- FADD (R124)
  (∀ (s : State) (n : Unit24) (b : BitVec 58) (r : Nat), s.restful = true → s.goes n.val (instrWords 0x35 (wordOf b) 0)
    (fpIllegal (wordOf b) 0x0) = true → (f32Add (s.f n.val (bits (wordOf b) 46 42)) (if bit (wordOf b) 56 then bits (wordOf
    b) 31 0 else s.f n.val (bits (wordOf b) 41 37)) = some r) → exec (.fadd n b) s = .next (((s.advanced n.val (instrWords
    0x35 (wordOf b) 0)).setF n.val (bits (wordOf b) 51 47) r).floatFlags n.val r)) ∧
  -- FADD_SUB (R124)
  (∀ (s : State) (n : Unit24) (b : BitVec 58) (r : Nat), s.restful = true → s.goes n.val (instrWords 0x35 (wordOf b) 0)
    (fpIllegal (wordOf b) 0x1) = true → (f32Sub (s.f n.val (bits (wordOf b) 46 42)) (if bit (wordOf b) 56 then bits (wordOf
    b) 31 0 else s.f n.val (bits (wordOf b) 41 37)) = some r) → exec (.faddSub n b) s = .next (((s.advanced n.val
    (instrWords 0x35 (wordOf b) 0)).setF n.val (bits (wordOf b) 51 47) r).floatFlags n.val r)) ∧
  -- FADD_MIN (R124)
  (∀ (s : State) (n : Unit24) (b : BitVec 58) (r : Nat), s.restful = true → s.goes n.val (instrWords 0x35 (wordOf b) 0)
    (fpIllegal (wordOf b) 0x2) = true → (f32Min (s.f n.val (bits (wordOf b) 46 42)) (if bit (wordOf b) 56 then bits (wordOf
    b) 31 0 else s.f n.val (bits (wordOf b) 41 37)) = some r) → exec (.faddMin n b) s = .next (((s.advanced n.val
    (instrWords 0x35 (wordOf b) 0)).setF n.val (bits (wordOf b) 51 47) r).floatFlags n.val r)) ∧
  -- FADD_MAX (R124)
  (∀ (s : State) (n : Unit24) (b : BitVec 58) (r : Nat), s.restful = true → s.goes n.val (instrWords 0x35 (wordOf b) 0)
    (fpIllegal (wordOf b) 0x3) = true → (f32Max (s.f n.val (bits (wordOf b) 46 42)) (if bit (wordOf b) 56 then bits (wordOf
    b) 31 0 else s.f n.val (bits (wordOf b) 41 37)) = some r) → exec (.faddMax n b) s = .next (((s.advanced n.val
    (instrWords 0x35 (wordOf b) 0)).setF n.val (bits (wordOf b) 51 47) r).floatFlags n.val r)) ∧
  -- FMUL (R124)
  (∀ (s : State) (n : Unit24) (b : BitVec 58) (r : Nat), s.restful = true → s.goes n.val (instrWords 0x36 (wordOf b) 0)
    (fpIllegal (wordOf b) 0x0) = true → (f32Mul (s.f n.val (bits (wordOf b) 46 42)) (if bit (wordOf b) 56 then bits (wordOf
    b) 31 0 else s.f n.val (bits (wordOf b) 41 37)) = some r) → exec (.fmul n b) s = .next (((s.advanced n.val (instrWords
    0x36 (wordOf b) 0)).setF n.val (bits (wordOf b) 51 47) r).floatFlags n.val r)) ∧
  -- FADD (R124)
  (∀ (s : State) (n : Unit24) (b : BitVec 58), s.goes n.val (instrWords 0x35 (wordOf b) 0) (fpIllegal (wordOf b) 0x0) = true
    → (f32Add (s.f n.val (bits (wordOf b) 46 42)) (if bit (wordOf b) 56 then bits (wordOf b) 31 0 else s.f n.val (bits
    (wordOf b) 41 37)) = none) → exec (.fadd n b) s = .next (s.begin.trap n.val exFpe 0 (s.pc n.val) 0 (fullWord 0x35
    (wordOf b))).settle) ∧
  -- FMA (R124)
  (∀ (s : State) (n : Unit24) (b : BitVec 58) (r : Nat), s.restful = true → s.goes n.val (instrWords 0x37 (wordOf b) 0)
    (fmaIllegal (wordOf b) 0x0) = true → f32Fma ((s.f n.val (bits (wordOf b) 46 42))) (s.f n.val (bits (wordOf b) 41 37))
    (s.f n.val (bits (wordOf b) 36 32)) = some r → exec (.fma n b) s = .next (((s.advanced n.val (instrWords 0x37 (wordOf b)
    0)).setF n.val (bits (wordOf b) 51 47) r).floatFlags n.val r)) ∧
  -- FMA_SUB (R124)
  (∀ (s : State) (n : Unit24) (b : BitVec 58) (r : Nat), s.restful = true → s.goes n.val (instrWords 0x37 (wordOf b) 0)
    (fmaIllegal (wordOf b) 0x1) = true → f32Fma (f32Flip (s.f n.val (bits (wordOf b) 46 42))) (s.f n.val (bits (wordOf b) 41
    37)) (s.f n.val (bits (wordOf b) 36 32)) = some r → exec (.fmaSub n b) s = .next (((s.advanced n.val (instrWords 0x37
    (wordOf b) 0)).setF n.val (bits (wordOf b) 51 47) r).floatFlags n.val r)) ∧
  -- I2F (R125)
  (∀ (s : State) (n : Unit24) (b : BitVec 58), s.restful = true → s.goes n.val (instrWords 0x38 (wordOf b) 0) (cvtIllegal
    (wordOf b) 0x0 true false) = true → exec (.i2f n b) s = .next (
      let x := sgn 32 (s.g n.val (bits (wordOf b) 46 42));
      let r := f32Of ((x : Rat));
      ((s.advanced n.val (instrWords 0x38 (wordOf b) 0)).setF n.val (bits (wordOf b) 51 47) r).setZNCV n.val (r % 2 ^ 31 ==
        0) (bit r 31) false (false))) ∧
  -- P2F (R125)
  (∀ (s : State) (n : Unit24) (b : BitVec 58), s.restful = true → s.goes n.val (instrWords 0x38 (wordOf b) 0) (cvtIllegal
    (wordOf b) 0x3 true false) = true → exec (.p2f n b) s = .next (
      let x := sgn 32 (s.g n.val (bits (wordOf b) 46 42));
      let r := f32Of ((x : Rat) / 20);
      ((s.advanced n.val (instrWords 0x38 (wordOf b) 0)).setF n.val (bits (wordOf b) 51 47) r).setZNCV n.val (r % 2 ^ 31 ==
        0) (bit r 31) false (!inPc24 x))) ∧
  -- F2I (R125)
  (∀ (s : State) (n : Unit24) (b : BitVec 58) (q : Rat), s.restful = true → s.goes n.val (instrWords 0x38 (wordOf b) 0)
    (cvtIllegal (wordOf b) 0x1 false true) = true → f32Val (s.f n.val (bits (wordOf b) 46 42)) = some q → exec (.f2i n b) s
    = .next (
      let z := truncQ q;
      let r := enc 32 (clampI (-2147483648) 2147483647 z);
      ((s.advanced n.val (instrWords 0x38 (wordOf b) 0)).setG n.val (bits (wordOf b) 51 47) r).setZNCV n.val (r == 0) (bit r
        31) false (decide (z < -2147483648) || decide (2147483647 < z)))) ∧
  -- F2IR (R125)
  (∀ (s : State) (n : Unit24) (b : BitVec 58) (q : Rat), s.restful = true → s.goes n.val (instrWords 0x38 (wordOf b) 0)
    (cvtIllegal (wordOf b) 0x2 false true) = true → f32Val (s.f n.val (bits (wordOf b) 46 42)) = some q → exec (.f2ir n b) s
    = .next (
      let z := roundEven q;
      let r := enc 32 (clampI (-2147483648) 2147483647 z);
      ((s.advanced n.val (instrWords 0x38 (wordOf b) 0)).setG n.val (bits (wordOf b) 51 47) r).setZNCV n.val (r == 0) (bit r
        31) false (decide (z < -2147483648) || decide (2147483647 < z)))) ∧
  -- F2P (R125)
  (∀ (s : State) (n : Unit24) (b : BitVec 58) (q : Rat), s.restful = true → s.goes n.val (instrWords 0x38 (wordOf b) 0)
    (cvtIllegal (wordOf b) 0x4 false true) = true → f32Val (s.f n.val (bits (wordOf b) 46 42)) = some q → exec (.f2p n b) s
    = .next (
      let z := roundEven (q * 20);
      let r := enc 32 (clampI (-8388608) 8388607 z);
      ((s.advanced n.val (instrWords 0x38 (wordOf b) 0)).setG n.val (bits (wordOf b) 51 47) r).setZNCV n.val (r == 0) (bit r
        31) false (decide (z < -8388608) || decide (8388607 < z))))

/-- LDI, MOV, DIALQ, LD and ST complete with the register or the memory word the rules name. For each of LDI, MOV, DIALQ,
LD, ST: under the conditions on the state and the operands written before it, `exec` answers a next state, and it is
the one written out (or, where the statement names facts of it, one of which those facts hold). -/
def Obligations.CalibreMoveAndMemoryInstructions : Prop :=
  -- LDI (R118)
  (∀ (s : State) (n : Unit24) (b : BitVec 58), s.restful = true → s.goes n.val (instrWords 0x30 (wordOf b) 0) (isLong
    (wordOf b) || dirty (wordOf b) 55 52 || dirty (wordOf b) 46 32 || (bit (wordOf b) 56 && decide (8 ≤ bits (wordOf b) 51
    47))) = true → exec (.ldi n b) s = .next (if bit (wordOf b) 56 then (s.advanced n.val (instrWords 0x30 (wordOf b)
    0)).setF n.val (bits (wordOf b) 51 47) (bits (wordOf b) 31 0) else (s.advanced n.val (instrWords 0x30 (wordOf b)
    0)).setG n.val (bits (wordOf b) 51 47) (bits (wordOf b) 31 0))) ∧
  -- MOV (R122)
  (∀ (s : State) (n : Unit24) (b : BitVec 58) (v : Nat) (t u : State), s.goes n.val (instrWords 0x33 (wordOf b) 0) (isLong
    (wordOf b) || bit (wordOf b) 56 || dirty (wordOf b) 39 0 || !movSource (bits (wordOf b) 47 40) || !movDest (bits (wordOf
    b) 55 48)) = true → (s.advanced n.val (instrWords 0x33 (wordOf b) 0)).movRead n.val (bits (wordOf b) 47 40) = some (v,
    t) → t.movWrite n.val (bits (wordOf b) 55 48) v = some u → (u.esc n.val).stepping = false → exec (.mov n b) s = .next
    u.settle) ∧
  -- MOV (R122)
  (∀ (s : State) (n : Unit24) (b : BitVec 58), s.restful = true → s.goes n.val (instrWords 0x33 (wordOf b) 0) (isLong
    (wordOf b) || bit (wordOf b) 56 || dirty (wordOf b) 39 0 || !movSource (bits (wordOf b) 47 40) || !movDest (bits (wordOf
    b) 55 48)) = true → bits (wordOf b) 47 40 < 0x20 → bits (wordOf b) 55 48 < 0x20 → exec (.mov n b) s = .next ((s.advanced
    n.val (instrWords 0x33 (wordOf b) 0)).setG n.val (bits (wordOf b) 55 48) (s.g n.val (bits (wordOf b) 47 40)))) ∧
  -- DIALQ (R108)
  (∀ (s : State) (n : Unit24) (b : BitVec 58), s.restful = true → s.goes n.val (instrWords 0x20 (wordOf b) 0) (isLong
    (wordOf b) || dirty (wordOf b) 56 53 || decide (8 ≤ bits (wordOf b) 52 48) || dirty (wordOf b) 47 47 || dirty (wordOf b)
    36 0) = true → inPc24 (sgn 32 (s.g n.val (bits (wordOf b) 46 42))) = true → inPc24 (sgn 32 (s.g n.val (bits (wordOf b)
    41 37))) = true → exec (.dialq n b .clean) s = .next (
      let q := ((s.advanced n.val (instrWords 0x20 (wordOf b) 0)).dialStall n.val).dialQuery (sgn 32 (s.g n.val (bits
          (wordOf b) 46 42))) (sgn 32 (s.g n.val (bits (wordOf b) 41 37))) s.beat;
      let u := ((s.advanced n.val (instrWords 0x20 (wordOf b) 0)).dialStall n.val).draw.setF n.val (bits (wordOf b) 52 48)
          (f32Of ((q.1 : Rat) / 16));
      if q.2 then u.set (ESC_SW_RANGE n.val) 1 else u)) ∧
  -- LD (R119)
  (∀ (s : State) (n : Unit24) (b : BitVec 58) (w1 : BitVec 64), s.goes n.val (instrWords 0x31 (wordOf b) w1.toNat)
    (memIllegal (wordOf b) w1.toNat) = true → (s.advanced n.val (instrWords 0x31 (wordOf b) w1.toNat)).dataAddr n.val
    (wordOf b) w1.toNat % 4 = 0 → exec (.ld n b w1) s = .next ((s.advanced n.val (instrWords 0x31 (wordOf b)
    w1.toNat)).postLoad n.val ((s.advanced n.val (instrWords 0x31 (wordOf b) w1.toNat)).dataAddr n.val (wordOf b) w1.toNat)
    (bits (wordOf b) 51 47) (bit (wordOf b) 56) (s.pc n.val) (fullWord 0x31 (wordOf b)) (wordLen (wordOf b))).settle) ∧
  -- ST (R119)
  (∀ (s : State) (n : Unit24) (b : BitVec 58) (w1 : BitVec 64), s.goes n.val (instrWords 0x32 (wordOf b) w1.toNat)
    (memIllegal (wordOf b) w1.toNat) = true → (s.advanced n.val (instrWords 0x32 (wordOf b) w1.toNat)).dataAddr n.val
    (wordOf b) w1.toNat % 4 = 0 → (s.esc n.val).stores.length < 8 → exec (.st n b w1) s = .next ((s.advanced n.val
    (instrWords 0x32 (wordOf b) w1.toNat)).postStore n.val ((s.advanced n.val (instrWords 0x32 (wordOf b)
    w1.toNat)).dataAddr n.val (wordOf b) w1.toNat) (if bit (wordOf b) 56 then s.f n.val (bits (wordOf b) 51 47) else s.g
    n.val (bits (wordOf b) 51 47)) (s.pc n.val) (fullWord 0x32 (wordOf b)) (wordLen (wordOf b))).settle) ∧
  -- LD (R119)
  (∀ (s : State) (n : Unit24) (b : BitVec 58) (w1 : BitVec 64), s.goes n.val (instrWords 0x31 (wordOf b) w1.toNat)
    (memIllegal (wordOf b) w1.toNat) = true → (s.advanced n.val (instrWords 0x31 (wordOf b) w1.toNat)).dataAddr n.val
    (wordOf b) w1.toNat % 4 ≠ 0 → exec (.ld n b w1) s = .next (s.begin.trap n.val exAlign 0 (s.pc n.val) ((s.advanced n.val
    (instrWords 0x31 (wordOf b) w1.toNat)).dataAddr n.val (wordOf b) w1.toNat) (fullWord 0x31 (wordOf b))).settle)

/-- Branches, calls, returns and loops leave the pc and the call stack as written. For each of BR, CALL, RET, LOOP: under
the conditions on the state and the operands written before it, `exec` answers a next state, and it is the one written
out (or, where the statement names facts of it, one of which those facts hold). -/
def Obligations.CalibreControlInstructions : Prop :=
  -- BR (R111)
  (∀ (s : State) (n : Unit24) (b : BitVec 58) (a : Nat), s.restful = true → s.goes n.val (instrWords 0x28 (wordOf b) 0)
    (branchIllegal (wordOf b) false) = true → (s.advanced n.val (instrWords 0x28 (wordOf b) 0)).branchTarget n.val (s.pc
    n.val) (wordOf b) = .ok a → exec (.br n b) s = .next (if (s.advanced n.val (instrWords 0x28 (wordOf b) 0)).condHolds
    n.val (bits (wordOf b) 55 52) then (s.advanced n.val (instrWords 0x28 (wordOf b) 0)).setPc n.val a else s.advanced n.val
    (instrWords 0x28 (wordOf b) 0))) ∧
  -- BR (R111)
  (∀ (s : State) (n : Nat) (pc w : Nat), bit w 56 = false → s.branchTarget n pc w = .ok (((pc : Int) + 8 * sgn 32 (bits w 31
    0)) % ((2 ^ 40 : Nat) : Int)).toNat) ∧
  -- CALL (R111)
  (∀ (s : State) (n : Unit24) (b : BitVec 58) (a : Nat), s.restful = true → s.goes n.val (instrWords 0x29 (wordOf b) 0)
    (branchIllegal (wordOf b) true) = true → (s.advanced n.val (instrWords 0x29 (wordOf b) 0)).branchTarget n.val (s.pc
    n.val) (wordOf b) = .ok a → s.get (ESC_SW_DEPTH n.val) < 16 → exec (.call n b) s = .next ((((s.advanced n.val
    (instrWords 0x29 (wordOf b) 0)).setPair (ESC_RSTK_LO_VALUE n.val (s.get (ESC_SW_DEPTH n.val))) (ESC_RSTK_HI_VALUE n.val
    (s.get (ESC_SW_DEPTH n.val))) ((s.pc n.val + 8) % 2 ^ 40)).set (ESC_SW_DEPTH n.val) (s.get (ESC_SW_DEPTH n.val) +
    1)).setPc n.val a)) ∧
  -- CALL (R111)
  (∀ (s : State) (n : Unit24) (b : BitVec 58) (a : Nat), s.goes n.val (instrWords 0x29 (wordOf b) 0) (branchIllegal (wordOf
    b) true) = true → (s.advanced n.val (instrWords 0x29 (wordOf b) 0)).branchTarget n.val (s.pc n.val) (wordOf b) = .ok a →
    16 ≤ s.get (ESC_SW_DEPTH n.val) → exec (.call n b) s = .next (s.begin.trap n.val exStack 0 (s.pc n.val) 0 (fullWord 0x29
    (wordOf b))).settle) ∧
  -- RET (R113)
  (∀ (s : State) (n : Unit24) (b : BitVec 58), s.restful = true → s.goes n.val (instrWords 0x2A (wordOf b) 0) (dirty (wordOf
    b) 57 0) = true → ∀ (d : Nat), s.get (ESC_SW_DEPTH n.val) = d + 1 → exec (.ret n b) s = .next ((((s.advanced n.val
    (instrWords 0x2A (wordOf b) 0)).setPair (ESC_RSTK_LO_VALUE n.val d) (ESC_RSTK_HI_VALUE n.val d) 0).set (ESC_SW_DEPTH
    n.val) d).setPc n.val ((s.advanced n.val (instrWords 0x2A (wordOf b) 0)).pair (ESC_RSTK_LO_VALUE n.val d)
    (ESC_RSTK_HI_VALUE n.val d)))) ∧
  -- LOOP (R114)
  (∀ (s : State) (n : Unit24) (b : BitVec 58), s.restful = true → s.goes n.val (instrWords 0x2B (wordOf b) 0) (isLong
    (wordOf b) || dirty (wordOf b) 56 47 || dirty (wordOf b) 41 32) = true → bits (wordOf b) 46 42 ≠ 0 → exec (.loop n b) s
    = .next (
      let r := (s.g n.val (bits (wordOf b) 46 42) + 2 ^ 32 - 1) % 2 ^ 32;
      let u := (s.advanced n.val (instrWords 0x2B (wordOf b) 0)).setG n.val (bits (wordOf b) 46 42) r;
      if r = 0 then u else u.setPc n.val (branchTo (s.pc n.val) (bits (wordOf b) 31 0))))

/-- MARK, JUMP, SKY, WOBBLE, DELAYS, TAG, LAYER, POWER, ARC, SPLN, DWELL, SPEED and YIELD complete as written. For each of
MARK, JUMP, SKY, WOBBLE, DELAYS, TAG, LAYER, POWER, ARC, SPLN, DWELL, SPEED, YIELD: under the conditions on the state
and the operands written before it, `exec` answers a next state, and it is the one written out (or, where the
statement names facts of it, one of which those facts hold). -/
def Obligations.CalibreMotionInstructions : Prop :=
  -- MARK (R83)
  (∀ (s : State) (n : Unit24) (b : BitVec 58) (w1 : BitVec 64) (x y z : Int), s.goes n.val (instrWords 0x01 (wordOf b)
    w1.toNat) (moveIllegal true (wordOf b) w1.toNat) = true → s.flag (ESC_SW_PV n.val) = true → ((if bit (wordOf b) 50 then
    bits w1.toNat 23 0 else (s.esc n.val).set.vMark) ≠ 0) → (s.advanced n.val (instrWords 0x01 (wordOf b)
    w1.toNat)).moveTarget n.val (wordOf b) w1.toNat = some (x, y, z) → (x, y, z) ≠ (s.advanced n.val (instrWords 0x01
    (wordOf b) w1.toNat)).pxyz n.val → (s.esc n.val).queue.length < 64 → exec (.mark n b w1) s = .next (((s.advanced n.val
    (instrWords 0x01 (wordOf b) w1.toNat)).enqueue n.val { newSeg .mark ((s.advanced n.val (instrWords 0x01 (wordOf b)
      w1.toNat)).pxyz n.val) x y z with
      ns := bit (wordOf b) 54,
      nw := bit (wordOf b) 53,
      pw := if bit (wordOf b) 51 then some (bits w1.toNat 39 24) else none,
      speed := if bit (wordOf b) 50 then some (bits w1.toNat 23 0) else none } true).setPxyz n.val x y z).settle) ∧
  -- JUMP (R83)
  (∀ (s : State) (n : Unit24) (b : BitVec 58) (w1 : BitVec 64) (x y z : Int), s.goes n.val (instrWords 0x02 (wordOf b)
    w1.toNat) (moveIllegal false (wordOf b) w1.toNat) = true → s.flag (ESC_SW_PV n.val) = true → (s.advanced n.val
    (instrWords 0x02 (wordOf b) w1.toNat)).moveTarget n.val (wordOf b) w1.toNat = some (x, y, z) → (x, y, z) ≠ (s.advanced
    n.val (instrWords 0x02 (wordOf b) w1.toNat)).pxyz n.val → (s.esc n.val).queue.length < 64 → exec (.jump n b w1) s =
    .next (
      let u := ((s.advanced n.val (instrWords 0x02 (wordOf b) w1.toNat)).enqueue n.val { newSeg .jump ((s.advanced n.val
            (instrWords 0x02 (wordOf b) w1.toNat)).pxyz n.val) x y z with
            ns := bit (wordOf b) 54,
            nw := bit (wordOf b) 53,
            pw := if bit (wordOf b) 51 then some (bits w1.toNat 39 24) else none,
            speed := if bit (wordOf b) 50 then some (bits w1.toNat 23 0) else none } false).setPxyz n.val x y z;
      if !bit (wordOf b) 56 && !bit (wordOf b) 55 then u.set (ESC_SW_PV n.val) 1 else u).settle) ∧
  -- SKY (R94)
  (∀ (s : State) (n : Unit24) (b : BitVec 58), s.restful = true → s.goes n.val (instrWords 0x06 (wordOf b) 0) (isLong
    (wordOf b) || (bits (wordOf b) 56 55 == 3 || dirty (wordOf b) 54 48 || dirty (wordOf b) 7 0)) = true → bits (wordOf b)
    15 8 ≤ 180 → exec (.sky n b) s = .next ((s.advanced n.val (instrWords 0x06 (wordOf b) 0)).modEsc n.val (fun e => { e with
      set := { e.set with
            skyMode := bits (wordOf b) 56 55,
            skyIn := bits (wordOf b) 47 32,
            skyOut := bits (wordOf b) 31 16,
            skyAngle := bits (wordOf b) 15 8 } }))) ∧
  -- WOBBLE (R100)
  (∀ (s : State) (n : Unit24) (b : BitVec 58), s.restful = true → s.goes n.val (instrWords 0x12 (wordOf b) 0) (isLong
    (wordOf b) || (dirty (wordOf b) 54 48 || dirty (wordOf b) 15 0 || (bits (wordOf b) 56 55 == 0 && (bits (wordOf b) 47 32
    != 0 || bits (wordOf b) 31 16 != 0)))) = true → (bits (wordOf b) 56 55 = 0 ∨ (bits (wordOf b) 47 32 ≠ 0 ∧ bits (wordOf
    b) 31 16 ≠ 0 ∧ bits (wordOf b) 31 16 ≤ 5000)) → exec (.wobble n b) s = .next ((s.advanced n.val (instrWords 0x12 (wordOf
    b) 0)).modEsc n.val (fun e => { e with
      set := { e.set with shape := bits (wordOf b) 56 55, ampl := bits (wordOf b) 47 32, freq := bits (wordOf b) 31 16 } }))) ∧
  -- DELAYS (R101)
  (∀ (s : State) (n : Unit24) (b : BitVec 58), s.restful = true → s.goes n.val (instrWords 0x13 (wordOf b) 0) (isLong
    (wordOf b) || dirty (wordOf b) 56 48) = true → exec (.delays n b) s = .next ((s.advanced n.val (instrWords 0x13 (wordOf
    b) 0)).modEsc n.val (fun e => { e with
      set := { e.set with
            lon := sgn 16 (bits (wordOf b) 47 32),
            loff := sgn 16 (bits (wordOf b) 31 16),
            settle := bits (wordOf b) 15 0 } }))) ∧
  -- TAG (R109)
  (∀ (s : State) (n : Unit24) (b : BitVec 58), s.restful = true → s.goes n.val (instrWords 0x24 (wordOf b) 0) (isLong
    (wordOf b) || dirty (wordOf b) 55 32) = true → exec (.tag n b) s = .next ((s.advanced n.val (instrWords 0x24 (wordOf b)
    0)).modEsc n.val (fun e =>
    { e with set := { e.set with tag := bits (wordOf b) 31 0, tagInc := bit (wordOf b) 56, tagFresh := true } }))) ∧
  -- LAYER (R110)
  (∀ (s : State) (n : Unit24) (b : BitVec 58), s.restful = true → s.goes n.val (instrWords 0x25 (wordOf b) 0) (isLong
    (wordOf b) || dirty (wordOf b) 56 32) = true → exec (.layer n b) s = .next ((s.advanced n.val (instrWords 0x25 (wordOf
    b) 0)).modEsc n.val (fun e => { e with set := { e.set with layer := bits (wordOf b) 31 0 } }))) ∧
  -- POWER (R96)
  (∀ (s : State) (n : Unit24) (b : BitVec 58), s.restful = true → (s.goes n.val (instrWords 0x10 (wordOf b) 0) (isLong
    (wordOf b) || bits (wordOf b) 55 54 == 3 || dirty (wordOf b) 53 48 || dirty (wordOf b) 31 29 || (if bit (wordOf b) 56
    then dirty (wordOf b) 47 32 else dirty (wordOf b) 28 24)) = true) → ((if bit (wordOf b) 56 then s.g n.val (bits (wordOf
    b) 28 24) else bits (wordOf b) 47 32) < 65536) → exec (.power n b) s = .next ((s.advanced n.val (instrWords 0x10 (wordOf
    b) 0)).modEsc n.val (fun e => { e with
      set := e.set.withPower (if bit (wordOf b) 56 then s.g n.val (bits (wordOf b) 28 24) else bits (wordOf b) 47 32) (bits
          (wordOf b) 23 0) (bits (wordOf b) 55 54) }))) ∧
  -- ARC (R88)
  (∀ (s : State) (n : Unit24) (b : BitVec 58) (w1 : BitVec 64) (px py pz c0 d0 cx cy : Int), s.goes n.val (instrWords 0x03
    (wordOf b) w1.toNat) (arcIllegal (wordOf b) w1.toNat) = true → s.flag (ESC_SW_PV n.val) = true → (s.advanced n.val
    (instrWords 0x03 (wordOf b) w1.toNat)).pxyz n.val = (px, py, pz) → (c0 = if bit (wordOf b) 55 then sgn 32 (s.g n.val
    (bits (wordOf b) 28 24)) else pc24 (wordOf b) 47 24) → (d0 = if bit (wordOf b) 55 then sgn 32 (s.g n.val (bits (wordOf
    b) 4 0)) else pc24 (wordOf b) 23 0) → (cx = if bit (wordOf b) 56 then px + c0 else c0) → (cy = if bit (wordOf b) 56 then
    py + d0 else d0) → sgn 32 (bits w1.toNat 63 32) ≠ 0 → 400 ≤ (px - cx) * (px - cx) + (py - cy) * (py - cy) → ((if bit
    (wordOf b) 50 then some (bits w1.toNat 31 8) else none : Option Nat).getD (s.esc n.val).set.vMark ≠ 0) → (s.esc
    n.val).queue.length < 64 → (inPc24 c0 && inPc24 d0 && inPc24 cx && inPc24 cy && arcInside px py cx cy (sgn 32 (bits
    w1.toNat 63 32)) (roundAway (arcEnd px py cx cy (sgn 32 (bits w1.toNat 63 32))).1) (roundAway (arcEnd px py cx cy (sgn
    32 (bits w1.toNat 63 32))).2)) = true → exec (.arc n b w1) s = .next (
      let q := arcEnd px py cx cy (sgn 32 (bits w1.toNat 63 32));
      ((s.advanced n.val (instrWords 0x03 (wordOf b) w1.toNat)).enqueue n.val { newSeg .arc (px, py, pz) (roundAway q.1)
          (roundAway q.2) pz with
          ax := cx,
          ay := cy,
          sweep := sgn 32 (bits w1.toNat 63 32),
          ns := bit (wordOf b) 54,
          nw := bit (wordOf b) 53,
          speed := if bit (wordOf b) 50 then some (bits w1.toNat 31 8) else none } true).setPxyz n.val (roundAway q.1)
        (roundAway q.2) pz).settle) ∧
  -- SPLN (R90)
  (∀ (s : State) (n : Unit24) (b : BitVec 58) (w1 : BitVec 64) (px py pz ox oy p1x p1y : Int), s.goes n.val (instrWords 0x04
    (wordOf b) w1.toNat) (splnIllegal (wordOf b) w1.toNat) = true → s.flag (ESC_SW_PV n.val) = true → (s.advanced n.val
    (instrWords 0x04 (wordOf b) w1.toNat)).pxyz n.val = (px, py, pz) → (ox = if bit (wordOf b) 56 then px else 0) → (oy = if
    bit (wordOf b) 56 then py else 0) → ((bit (wordOf b) 55 = true ∧ ∃ x y, (s.esc n.val).lastP2 = some (x, y) ∧ p1x = 2 *
    px - x ∧ p1y = 2 * py - y) ∨ (bit (wordOf b) 55 = true ∧ (s.esc n.val).lastP2 = none ∧ p1x = px ∧ p1y = py) ∨ (bit
    (wordOf b) 55 = false ∧ p1x = ox + sgn 32 (s.g n.val (bits w1.toNat 15 11)) ∧ p1y = oy + sgn 32 (s.g n.val (bits
    w1.toNat 10 6)))) → (s.esc n.val).set.vMark ≠ 0 → (s.esc n.val).queue.length < 64 → (inPc24 p1x && inPc24 p1y && inPc24
    (ox + pc24 w1.toNat 63 40) && inPc24 (oy + pc24 w1.toNat 39 16) && inPc24 (ox + pc24 (wordOf b) 47 24) && inPc24 (oy +
    pc24 (wordOf b) 23 0)) = true → exec (.spln n b w1) s = .next (((s.advanced n.val (instrWords 0x04 (wordOf b)
    w1.toNat)).enqueue n.val { newSeg .spln (px, py, pz) (ox + pc24 (wordOf b) 47 24) (oy + pc24 (wordOf b) 23 0) pz with
      ax := p1x,
      ay := p1y,
      bx := ox + pc24 w1.toNat 63 40,
      by_ := oy + pc24 w1.toNat 39 16,
      ns := bit (wordOf b) 54,
      nw := bit (wordOf b) 53 } true).setPxyz n.val (ox + pc24 (wordOf b) 47 24) (oy + pc24 (wordOf b) 23 0) pz).settle) ∧
  -- DWELL (R93)
  (∀ (s : State) (n : Unit24) (b : BitVec 58) (w1 : BitVec 64) (k : Nat), s.goes n.val (instrWords 0x05 (wordOf b) w1.toNat)
    (dirty (wordOf b) 55 24 || (isLong (wordOf b) && (dirty (wordOf b) 23 0 || dirty w1.toNat 63 48))) = true → (k = if
    isLong (wordOf b) then bits w1.toNat 47 0 else bits (wordOf b) 23 0) → s.flag (ESC_SW_PV n.val) = true → k ≠ 0 → (s.esc
    n.val).queue.length < 64 → exec (.dwell n b w1) s = .next (
      let p := (s.advanced n.val (instrWords 0x05 (wordOf b) w1.toNat)).pxyz n.val;
      (s.advanced n.val (instrWords 0x05 (wordOf b) w1.toNat)).enqueue n.val
        { newSeg (.dwell (bit (wordOf b) 56)) p p.1 p.2.1 p.2.2 with beats := k } true).settle) ∧
  -- SPEED (R99)
  (∀ (s : State) (n : Unit24) (b : BitVec 58), s.restful = true → s.goes n.val (instrWords 0x11 (wordOf b) 0) (isLong
    (wordOf b) || dirty (wordOf b) 56 48) = true → exec (.speed n b) s = .next ((s.advanced n.val (instrWords 0x11 (wordOf
    b) 0)).setSpeed n.val (bits (wordOf b) 47 24) (bits (wordOf b) 23 0))) ∧
  -- SPEED (R99)
  (∀ (t : State) (n vm vj : Nat), vm ≤ max 1 (t.live (TRJ_VMARK_VMAX n)) → vj ≤ max 1 (t.live (TRJ_VJUMP_VMAX n)) → vm ≠ 0 →
    vj ≠ 0 → t.setSpeed n vm vj = t.modEsc n (fun e => { e with set := { e.set with vMark := vm, vJump := vj } })) ∧
  -- YIELD (R106)
  (∀ (s : State) (n : Unit24) (b : BitVec 58), s.restful = true → s.goes n.val (instrWords 0x1D (wordOf b) 0) (isLong
    (wordOf b) || dirty (wordOf b) 55 48 || dirty (wordOf b) 35 0 || (bit (wordOf b) 56 && bits (wordOf b) 47 36 != 0)) =
    true → bit (wordOf b) 56 = false → (s.advanced n.val (instrWords 0x1D (wordOf b) 0)).zoneDefined (bits (wordOf b) 47 36)
    n.val = true → (s.advanced n.val (instrWords 0x1D (wordOf b) 0)).dry = false → (s.advanced n.val (instrWords 0x1D
    (wordOf b) 0)).zoneOwner (bits (wordOf b) 47 36) = some n.val → exec (.yield n b) s = .next ((s.advanced n.val
    (instrWords 0x1D (wordOf b) 0)).yieldZones n.val [bits (wordOf b) 47 36]))

/-- The waiting instructions enter their wait and the ends and timeouts of waits resume as written. For each of WAITT,
SYNC, AWAIT, CLAIM, FLOAT, HALT, TRAP, WAITT_END, AWAIT_TIMEOUT, CLAIM_TIMEOUT, HALT_COMPLETE: under the conditions on
the state and the operands written before it, `exec` answers a next state, and it is the one written out (or, where
the statement names facts of it, one of which those facts hold). -/
def Obligations.CalibreWaitInstructions : Prop :=
  -- WAITT (R102)
  (∀ (s : State) (n : Unit24) (b : BitVec 58) (w1 : BitVec 64), s.restful = true → (s.goes n.val (instrWords 0x18 (wordOf b)
    w1.toNat) (dirty (wordOf b) 55 24 || (if isLong (wordOf b) then dirty (wordOf b) 23 0 || dirty w1.toNat 63 48 else bit
    (wordOf b) 56)) = true) → exec (.waitt n b w1) s = .next ((s.advanced n.val (instrWords 0x18 (wordOf b)
    w1.toNat)).issueWait n.val (s.pc n.val) (fullWord 0x18 (wordOf b)) (wordLen (wordOf b)) (.waitt (bit (wordOf b) 56) (if
    isLong (wordOf b) then bits w1.toNat 47 0 else bits (wordOf b) 23 0)))) ∧
  -- SYNC (R103)
  (∀ (s : State) (n : Unit24) (b : BitVec 58), s.restful = true → s.goes n.val (instrWords 0x19 (wordOf b) 0) (isLong
    (wordOf b) || dirty (wordOf b) 51 24) = true → (((s.advanced n.val (instrWords 0x19 (wordOf b) 0)).barMembers (if bit
    (wordOf b) 56 then 16 + bits (wordOf b) 55 52 else bits (wordOf b) 55 52)).testBit n.val = true) → exec (.sync n b) s =
    .next ((s.advanced n.val (instrWords 0x19 (wordOf b) 0)).issueWait n.val (s.pc n.val) (fullWord 0x19 (wordOf b))
    (wordLen (wordOf b)) (.sync (bit (wordOf b) 56) (bits (wordOf b) 55 52) (bits (wordOf b) 23 0)))) ∧
  -- AWAIT (R104)
  (∀ (s : State) (n : Unit24) (b : BitVec 58) (w1 : BitVec 64), s.restful = true → s.goes n.val (instrWords 0x1A (wordOf b)
    w1.toNat) (dirty (wordOf b) 54 48 || dirty (wordOf b) 31 24 || (isLong (wordOf b) && (dirty (wordOf b) 23 0 || dirty
    w1.toNat 63 48))) = true → bits (wordOf b) 47 32 ≠ 0 → exec (.await n b w1) s = .next ((s.advanced n.val (instrWords
    0x1A (wordOf b) w1.toNat)).issueWait n.val (s.pc n.val) (fullWord 0x1A (wordOf b)) (wordLen (wordOf b)) (.await (bit
    (wordOf b) 56) (bit (wordOf b) 55) (bits (wordOf b) 47 32) (if isLong (wordOf b) then bits w1.toNat 47 0 else bits
    (wordOf b) 23 0)))) ∧
  -- CLAIM (R105)
  (∀ (s : State) (n : Unit24) (b : BitVec 58), s.restful = true → s.goes n.val (instrWords 0x1C (wordOf b) 0) (isLong
    (wordOf b) || dirty (wordOf b) 55 48 || dirty (wordOf b) 35 24 || (!bit (wordOf b) 56 && dirty (wordOf b) 23 0)) = true
    → (s.advanced n.val (instrWords 0x1C (wordOf b) 0)).zoneDefined (bits (wordOf b) 47 36) n.val = true → exec (.claim n b)
    s = .next ((s.advanced n.val (instrWords 0x1C (wordOf b) 0)).issueWait n.val (s.pc n.val) (fullWord 0x1C (wordOf b))
    (wordLen (wordOf b)) (.claim (bit (wordOf b) 56) (bits (wordOf b) 47 36) (bits (wordOf b) 23 0)))) ∧
  -- FLOAT (R107)
  (∀ (s : State) (n : Unit24) (b : BitVec 58), s.restful = true → s.goes n.val (instrWords 0x1E (wordOf b) 0) (isLong
    (wordOf b) || dirty (wordOf b) 56 53 || dirty (wordOf b) 35 0) = true → (s.advanced n.val (instrWords 0x1E (wordOf b)
    0)).flag (ESC_SW_PV n.val) = true → (s.advanced n.val (instrWords 0x1E (wordOf b) 0)).poolDefined (bits (wordOf b) 47
    36) n.val = true → exec (.float n b) s = .next ((s.advanced n.val (instrWords 0x1E (wordOf b) 0)).issueWait n.val (s.pc
    n.val) (fullWord 0x1E (wordOf b)) (wordLen (wordOf b)) (.float (bits (wordOf b) 52 48) (bits (wordOf b) 47 36)))) ∧
  -- HALT (R115)
  (∀ (s : State) (n : Unit24) (b : BitVec 58), s.restful = true → s.goes n.val (instrWords 0x2C (wordOf b) 0) (isLong
    (wordOf b) || dirty (wordOf b) 56 16) = true → exec (.halt n b) s = .next ((s.advanced n.val (instrWords 0x2C (wordOf b)
    0)).issueWait n.val (s.pc n.val) (fullWord 0x2C (wordOf b)) (wordLen (wordOf b)) (.halt (bits (wordOf b) 15 0)))) ∧
  -- TRAP (R116)
  (∀ (s : State) (n : Unit24) (b : BitVec 58), s.restful = true → s.goes n.val (instrWords 0x2D (wordOf b) 0) (isLong
    (wordOf b) || dirty (wordOf b) 55 16) = true → bit (wordOf b) 56 = false → exec (.trap n b) s = .next ((s.advanced n.val
    (instrWords 0x2D (wordOf b) 0)).issueWait n.val (s.pc n.val) (fullWord 0x2D (wordOf b)) 8 (.trap (bits (wordOf b) 15
    0)))) ∧
  -- WAITT_END (R102)
  (∀ (s : State) (n : Unit24) (w : Wait) (a : Bool) (k : Nat), s.restful = true → (s.esc n.val).wait = some w → w.kind =
    .waitt a k → w.drained = true → s.escState n.val = 4 → (if a then k ≤ s.lbeat else w.since + k ≤ s.beat) → exec
    (.waittEnd n) s = .next (s.begin.endWait n.val)) ∧
  -- AWAIT_TIMEOUT (R104)
  (∀ (s : State) (n : Unit24) (w : Wait) (a c : Bool) (m t : Nat), s.restful = true → (s.esc n.val).wait = some w → w.kind =
    .await a c m t → w.drained = true → s.escState n.val = 4 → t ≠ 0 → w.since + t ≤ s.beat → exec (.awaitTimeout n) s =
    .next ((s.begin.set (ESC_SW_TO n.val) 1).endWait n.val)) ∧
  -- CLAIM_TIMEOUT (R289)
  (∀ (s : State) (n : Unit24) (w : Wait) (z t : Nat), s.restful = true → (s.esc n.val).wait = some w → w.kind = .claim true
    z t → w.drained = true → s.escState n.val = 4 → t ≠ 0 → w.since + t ≤ s.beat → exec (.claimTimeout n) s = .next
    ((((s.begin.leaveClaims n.val).set (ESC_SW_GR n.val) 0).set (ESC_SW_TO n.val) 1).endWait n.val)) ∧
  -- HALT_COMPLETE (R162)
  (∀ (s : State) (n : Unit24) (w : Wait) (c : Nat), (s.esc n.val).wait = some w → w.kind = .halt c → w.drained = true →
    s.escState n.val = 4 → (s.esc n.val).stores = [] → exec (.haltComplete n) s = .next (
      let u := (((s.begin.modEsc n.val (fun e =>
          { e with wait := none, stepping := false, layerDone := true, haltAt := s.begin.beat })).set (ESC_TRAP_CAUSE n.val)
          0).set (ESC_TRAP_CODE n.val) c).setPc n.val (w.pc + w.len);
      (((u.set (ESC_INT_HALT n.val) 1).setEscState n.val 5).releaseZones n.val).escLine n.val).settle)

/-- The trim measurement, the calibration steps and the trim saves complete as written. For each of REXT_MEASUREMENT,
CAL_STEP_START, CAL_STEP_COMPLETE, CAL_STEP_TIMEOUT, TRIM_SAVE, TRIM_SAVE_COMPLETE, CAL_RESTART: under the conditions
on the state and the operands written before it, `exec` answers a next state, and it is the one written out (or, where
the statement names facts of it, one of which those facts hold). -/
def Obligations.CalibrationCommands : Prop :=
  -- REXT_MEASUREMENT (R513)
  (∀ (s : State), s.restful = true → s.calLive = true → exec (.rextMeasurement false) s = .next
    (({ s.begin with cal := { s.cal with rextBad := 0 } }).lower 6)) ∧
  -- REXT_MEASUREMENT (R513)
  (∀ (s : State), s.calLive = true → 2 ≤ s.cal.rextBad → exec (.rextMeasurement true) s = .next
    ((({ s.begin with cal := { s.cal with rextBad := 3 } }).set CAL_STAT_REXTERR 1).raise 6).settle) ∧
  -- CAL_STEP_START (R516)
  (∀ (s : State) (k u : Nat), s.restful = true → s.calLive = true → s.cal.running = none → s.mode.trans = none → (firstStep
    (s.modeCode == mExpose) ((s.begin.calGap.calPass.cal.pass.getD []).filter (fun c => s.begin.calGap.calPass.stepAllowed
    c.1 c.2 && !s.begin.calGap.calPass.cal.tried.contains c)) = some (k, u)) → exec .calStepStart s = .next (
      let w := s.begin.calGap.calPass;
      ((({ w with cal := { w.cal with running := some (k, u, s.beat), tried := w.cal.tried ++ [(k, u)] } }).set
        CAL_STAT_BUSY 1).set CAL_STAT_UNIT u).set CAL_SEQ_KIND k)) ∧
  -- CAL_STEP_COMPLETE (R520)
  (∀ (s : State) (k u b : Nat) (codes : List Int), s.calLive = true → s.cal.running = some (k, u, b) → k ≠ 3 → codes.length
    = (stepTrims k u).length → (codes.any (fun c => decide (c < 0) || decide (255 < c)) = false) → ((((((stepTrims k u).zip
    codes).foldl (fun (t : State) (p : Nat × Int) => t.setTrim p.1 p.2.toNat) s.begin).cal.pass.getD []).filter (fun c => c
    != (k, u))).isEmpty = false) → exec (.calStepComplete codes) s = .next (
      let w := ((stepTrims k u).zip codes).foldl (fun (t : State) (p : Nat × Int) => t.setTrim p.1 p.2.toNat) s.begin;
      ((({ w with cal := { w.cal with pass := some ((w.cal.pass.getD []).filter (fun c => c != (k, u))) } }).calOver).incSat
        CAL_CNT_DONE)).settle) ∧
  -- CAL_STEP_TIMEOUT (R519)
  (∀ (s : State) (k u b : Nat), s.restful = true → s.calLive = true → s.cal.running = some (k, u, b) → b + max 1 (s.get
    CAL_CTL_TOMUL) * stepBeats_ k < s.beat → exec .calStepTimeout s = .next (s.begin.calOver.incSat CAL_CNT_TIMEOUT)) ∧
  -- TRIM_SAVE (R522)
  (∀ (s : State), s.restful = true → s.calLive = true → s.cal.save = none → exec .trimSave s = .next (if s.get
    CAL_NVLOC_BANKA = s.get CAL_NVLOC_BANKB then s.begin.set CAL_STAT_CFGERR 1 else ({ s.begin with
      cal := { s.cal with
            save := some ((s.get CAL_GEN_GEN + 1) % 2 ^ 32, s.begin.trimRecord ((s.get CAL_GEN_GEN + 1) % 2 ^ 32)) } }).set
    CAL_STAT_SAVING 1)) ∧
  -- TRIM_SAVE_COMPLETE (R523)
  (∀ (s : State) (g : Nat) (r : List Byte) (va vb : Bool), s.calLive = true → s.cal.save = some (g, r) → exec
    (.trimSaveComplete va vb) s = .next (
      let u := ({ s.begin with cal := { s.cal with save := none } }).set CAL_STAT_SAVING 0;
      let p := u.trimCopy false va r;
      let q := p.1.trimCopy true vb r;
      if p.2 || q.2 then q.1.set CAL_GEN_GEN g else q.1).settle) ∧
  -- CAL_RESTART (R527)
  (∀ (s : State), s.restful = true → s.calLive = true → exec .calRestart s = .next ({ s.begin with
      cal := { s.cal with pass := some (passOf (s.get CAL_SEQ_MASK)), tried := [], gap := s.mode.since, ended := false } }))

/-- The end of Load enters Configure, counts a power cycle after a power-on reset and starts core 0 at the boot ROM. For
each of LOAD_COMMIT: under the conditions on the state and the operands written before it, `exec` answers a next
state, and it is the one written out (or, where the statement names facts of it, one of which those facts hold). -/
def Obligations.LoadCommit : Prop :=
  -- LOAD_COMMIT (R524)
  (∀ (s t u : State), s.rst.phase = .loading → s.rst.reach < 2 → t = s.begin.trimCommit.chrUsable → t.flag SYS_OPT_WDTON =
    false → u = (({ t with
      rst := { t.rst with phase := .off, ballsIn := true, ballsFree := 0 },
      host := { t.host with boot := .rom, copy := 1, image := none, coresRun := 1 } }).enterMode 1 0 0xFF).emit (.coreStart
    0 0x20000F0000 0) → ∀ (v : State), v = (u.record 0x0202 2 (u.peekReg 0x2000000208) (u.get CHR_TSET_RESET) false false
    false []).assertActive → v.cal.missing = false → exec .loadCommit s = .next v.settle) ∧
  -- LOAD_COMMIT (R524)
  (∀ (s t u : State), s.rst.phase = .loading → s.rst.reach = 3 → t = s.begin.trimCommit.chrUsable.incWrap NV_PWRCYC_COUNT →
    t.flag SYS_OPT_WDTON = false → u = (({ t with
      rst := { t.rst with phase := .off, ballsIn := true, ballsFree := 0 },
      host := { t.host with boot := .rom, copy := 1, image := none, coresRun := 1 } }).enterMode 1 0 0xFF).emit (.coreStart
    0 0x20000F0000 0) → ∀ (v : State), v = (u.record 0x0202 3 (u.peekReg 0x2000000208) (u.get CHR_TSET_RESET) false false
    false []).assertActive → v.cal.missing = false → exec .loadCommit s = .next v.settle)

/-- A fabric port comes up, goes down, trains, replays and answers its idle and HELLO exchanges as written. For each of
PORT_UP, PORT_TRAIN_TIMEOUT, PORT_DOWN, PORT_RETRAIN, PORT_ENABLE, REPLAY, IDLE, HELLO, HELLO_SEND: under the
conditions on the state and the operands written before it, `exec` answers a next state, and it is the one written out
(or, where the statement names facts of it, one of which those facts hold). -/
def Obligations.FabricPortCommands : Prop :=
  -- PORT_UP (R404)
  (∀ (s : State) (p : Fin 4), s.restful = true → s.skLive = true → s.get (SKZ_PSTAT_STATE p.val) = 1 → s.rst.refbBad = false
    → exec (.portUp p) s = .next (((((s.begin.setSkp p.val { hello := (s.skp p.val).hello, since := s.beat }).draw.set
    (SKZ_PSTAT_STATE p.val) 2).set (SKZ_PSTAT_FECON p.val) (b2n (s.flag (SKZ_PCTL_FEC p.val) || bit s.freeNext 0))).set
    (SKZ_PSTAT_PRECON p.val) (b2n (s.flag (SKZ_PCTL_PRECODE p.val) || bit s.freeNext 1))))) ∧
  -- PORT_TRAIN_TIMEOUT (R404)
  (∀ (s : State) (p : Fin 4), s.restful = true → s.skLive = true → s.get (SKZ_PSTAT_STATE p.val) = 1 → (s.skp p.val).since +
    50 * beatsPerMs ≤ s.beat → exec (.portTrainTimeout p) s = .next (if (s.skp p.val).restarts < 4 then s.begin.setSkp p.val
    { s.skp p.val with restarts := (s.skp p.val).restarts + 1, since := s.beat } else s.begin.set (SKZ_PSTAT_STATE p.val)
    3)) ∧
  -- PORT_DOWN (R404)
  (∀ (s : State) (p : Fin 4), s.skLive = true → s.portUp p.val = true → s.flag (SKZ_PCTL_EN p.val) = true → s.rst.refbBad =
    false → exec (.portDown p) s = .next (
      let t := (((s.begin.setSkp p.val { hello := (s.skp p.val).hello, since := s.beat }).set (SKZ_PSTAT_STATE p.val) 1).set
          (SKZ_PSTAT_FECON p.val) 0).set (SKZ_PSTAT_PRECON p.val) 0;
      let u := t.set (SKZ_PSTAT_INJOIN p.val) 0;
      let w := (({ u with skz := { u.skz with kids := putBit u.skz.kids p.val false } }).set (SKZ_PSTAT_DOWNEV p.val)
          1).pulse (0x01C + p.val);
      if w.flag SKZ_STAT_JOINED && w.parent == some p.val then w.reparent else w).settle) ∧
  -- PORT_RETRAIN (R404)
  (∀ (s : State) (p : Fin 4), s.restful = true → s.skLive = true → s.portUp p.val = false → s.flag (SKZ_PCTL_EN p.val) =
    true → s.rst.refbBad = false → exec (.portRetrain p) s = .next ((s.begin.setSkp p.val
    { hello := (s.skp p.val).hello, since := s.beat }).set (SKZ_PSTAT_STATE p.val) 1)) ∧
  -- PORT_ENABLE (R404)
  (∀ (s : State) (p : Fin 4) (v : Word), s.restful = true → s.skLive = true → s.flag (SKZ_PCTL_EN p.val) = false →
    s.rst.refbBad = false → bit (v.toNat ||| 1) 3 = false → exec (.portEnable p v) s = .next (((((s.begin.set
    (SKZ_PCTL_PRECODE p.val) (b2n (bit (v.toNat ||| 1) 2))).set (SKZ_PCTL_FEC p.val) (b2n (bit (v.toNat ||| 1) 1))).set
    (SKZ_PCTL_EN p.val) 1).setSkp p.val { hello := (s.skp p.val).hello, since := s.beat }).set (SKZ_PSTAT_STATE p.val) 1)) ∧
  -- REPLAY (R407)
  (∀ (s : State) (p : Fin 4), s.restful = true → s.skLive = true → s.portUp p.val = true → (s.skp p.val).unacked ≠ [] →
    (s.skp p.val).replays + 1 < 16 → exec (.replay p) s = .next ((s.skp p.val).unacked.foldl (fun (t : State) (e : Nat ×
    Flit) => t.sendFlit p.val e.2 e.1 (s.skp p.val).rxSeq) ((s.begin.setSkp p.val
    { s.skp p.val with replays := (s.skp p.val).replays + 1 }).incSat (SKZ_PERR_REPLAY p.val)))) ∧
  -- IDLE (R406)
  (∀ (s t : State) (p : Fin 4) (f : LinkHead), s.restful = true → s.receives p.val f = true → t = (s.begin.skArrive p.val
    f).1 → exec (.idle p f) s = .next ((t.setSkp p.val { t.skp p.val with
      credit := (List.range 3).map (fun k => min 32 (nth0 (t.skp p.val).credit k + f.arg.toNat / 16 ^ k % 16)) }).skPump
    p.val)) ∧
  -- HELLO (R411)
  (∀ (s t : State) (p : Fin 4) (h : LinkHead) (f : HelloFlit), s.restful = true → s.receives p.val h = true → t =
    (s.begin.skArrive p.val h).1 → t.modeCode = mJoin → exec (.hello p h f) s = .next (((((t.setSkp p.val
    { t.skp p.val with hello := some ⟨f.uid.toNat, f.root.toNat, f.dist.toNat, f.port.val, f.inJoin, t.beat⟩ }).set
    (SKZ_PPEER_LO_PEER p.val) (f.uid.toNat % 2 ^ 32)).set (SKZ_PPEER_HI_PEER p.val) (f.uid.toNat / 2 ^
    32)).showInJoin).elect)) ∧
  -- HELLO_SEND (R411)
  (∀ (s : State), s.restful = true → s.modeCode = mJoin → s.skLive = true → exec .helloSend s = .next ((List.range 4).foldl
    (fun (u : State) (p : Nat) => if u.portUp p then u.skSend p {
      cls := 3,
      typ := 1,
      dst := 0,
      src := u.skAddr,
      hops := 0,
      tag := 0,
      arg := 0,
      data := [u.uid, u.skz.root, u.skz.dist, p + 128] } else u) s.begin.showInJoin.elect))

/-- Topology flits, address assignment and the join timeout complete as written; a flit for a later hop is sent on. For
each of TOPO, TOPO_SEND, ADDRESS_ASSIGN, ASSIGN, JOIN_TIMEOUT: under the conditions on the state and the operands
written before it, `exec` answers a next state, and it is the one written out (or, where the statement names facts of
it, one of which those facts hold). -/
def Obligations.FabricJoinCommands : Prop :=
  -- TOPO (R412)
  (∀ (s t : State) (p : Fin 4) (h : LinkHead) (f : TopoFlit), s.restful = true → s.takes p.val h = true → t =
    (s.begin.skAccept p.val h 2).1 → t.modeCode = mJoin → t.get SKZ_STAT_JSTATE ≤ 2 → t.skz.root = t.uid → exec (.topo p h
    f) s = .next (({ t with skz := { t.skz with kids := putBit t.skz.kids p.val true } }).collect f.uid.toNat f.pref.val
    f.prefEn [f.peers.1.toNat, f.peers.2.1.toNat, f.peers.2.2.1.toNat, f.peers.2.2.2.toNat])) ∧
  -- TOPO (R412)
  (∀ (s t : State) (p : Fin 4) (h : LinkHead) (f : TopoFlit) (q : Nat), s.restful = true → s.takes p.val h = true → t =
    (s.begin.skAccept p.val h 2).1 → t.modeCode = mJoin → t.get SKZ_STAT_JSTATE ≤ 2 → t.skz.root ≠ t.uid → t.parent = some q
    → exec (.topo p h f) s = .next (({ t with skz := { t.skz with kids := putBit t.skz.kids p.val true } }).skSend q {
      cls := 2,
      typ := 2,
      dst := h.dst.val,
      src := h.src.val,
      hops := (h.hops.val + 1) % 16,
      tag := h.tag.toNat,
      arg := h.arg.toNat,
      data := [f.uid.toNat, f.pref.val + 128 * b2n f.prefEn] ++ [f.peers.1.toNat, f.peers.2.1.toNat, f.peers.2.2.1.toNat,
          f.peers.2.2.2.toNat] })) ∧
  -- TOPO_SEND (R412)
  (∀ (s : State), s.restful = true → s.modeCode = mJoin → s.skLive = true → s.get SKZ_STAT_JSTATE = 1 → s.skz.stable + 40000
    ≤ s.beat → s.skz.root = s.uid → exec .topoSend s = .next ((s.begin.set SKZ_STAT_JSTATE 2).collect s.uid (s.get
    SKZ_CTL_PREF) (s.flag SKZ_CTL_PREFEN) s.peerUids)) ∧
  -- TOPO_SEND (R412)
  (∀ (s : State) (q : Nat), s.restful = true → s.modeCode = mJoin → s.skLive = true → s.get SKZ_STAT_JSTATE = 1 →
    s.skz.stable + 40000 ≤ s.beat → s.skz.root ≠ s.uid → s.parent = some q → exec .topoSend s = .next ((s.begin.set
    SKZ_STAT_JSTATE 2).skSend q {
      cls := 2,
      typ := 2,
      dst := 0,
      src := s.skAddr,
      hops := 0,
      tag := 0,
      arg := 0,
      data := [s.uid, s.get SKZ_CTL_PREF + 128 * s.get SKZ_CTL_PREFEN] ++ s.peerUids })) ∧
  -- ADDRESS_ASSIGN (R412)
  (∀ (s : State), s.modeCode = mJoin → s.skLive = true → s.get SKZ_STAT_JSTATE = 2 → s.skz.root = s.uid → s.skz.topoAt +
    40000 ≤ s.beat → min 16 (s.get SKZ_CTL_EXPECT) ≤ s.skz.topos.length → exec .addressAssign s = .next ((s.skz.topos.foldr
    insertUid []).foldl (fun (t : State) (e : Nat × (Nat × (Bool × List Nat))) =>
      let addrs := assignAddrs s.skz.topos;
      let a := (addrs.find? (fun x => x.1 == e.1)).map (·.2);
      let peers := e.2.2.2.map (fun u => if u = 0 then none else (addrs.find? (fun x => x.1 == u)).map (·.2));
      (t.skTree none {
          cls := 2,
          typ := 3,
          dst := 15,
          src := a.getD 0,
          hops := 0,
          tag := 0,
          arg := 0,
          data := assignWords e.1 (a.getD 0) a.isSome addrs.length peers }).assignAct e.1 (a.getD 0) a.isSome addrs.length
        peers) (s.begin.set SKZ_STAT_JSTATE 3)).settle) ∧
  -- ASSIGN (R413)
  (∀ (s t : State) (p : Fin 4) (h : LinkHead) (f : AssignFlit), s.takes p.val h = true → t = (s.begin.skAccept p.val h 2).1
    → t.modeCode = mJoin → exec (.assign p h f) s = .next (
      let peers := (List.range 4).map (fun k => if f.peerValid.toNat.testBit k then some (f.peers.toNat / 16 ^ k % 16) else
          none);
      (t.skTree (some p.val) {
          cls := 2,
          typ := 3,
          dst := 15,
          src := h.src.val,
          hops := (h.hops.val + 1) % 16,
          tag := h.tag.toNat,
          arg := h.arg.toNat,
          data := assignWords f.uid.toNat f.addr.val f.valid f.ndev.toNat peers }).assignAct f.uid.toNat f.addr.val f.valid
        f.ndev.toNat peers).settle) ∧
  -- JOIN_TIMEOUT (R414)
  (∀ (s : State), s.modeCode = mJoin → s.mode.since + max 1 (s.get SKZ_CTL_JOINTO) * beatsPerMs ≤ s.beat → ∃ t : State, exec
    .joinTimeout s = .next t.settle ∧ t = ((s.begin.unjoin.set SKZ_STAT_JOINERR 1).pulse 0x020).enterMode mIdle 0 0xFF ∧
    t.modeCode = mIdle)

/-- Remote reads, writes and their responses and the time exchange complete as written. For each of RREQ, WREQ, RRSP,
WRSP, TSYNC, TRESP, TIME_SYNC_EXCHANGE: under the conditions on the state and the operands written before it, `exec`
answers a next state, and it is the one written out (or, where the statement names facts of it, one of which those
facts hold). -/
def Obligations.FabricRequestCommands : Prop :=
  -- RREQ (R417)
  (∀ (s t u : State) (p : Fin 4) (h : LinkHead) (f : ReqFlit) (e : Ecc) (r : Bool × Nat), s.takes p.val h = true → t =
    (s.begin.skAccept p.val h 0).1 → h.dst.val = t.skAddr → 0 < h.arg.toNat → h.arg.toNat ≤ 32 → t.localAccess 5
    f.addr.toNat (.read h.arg.toNat) e = (r, u) → u.skLive = true → exec (.rreq p h f e) s = .next (u.skUnicast 1 0x12
    h.src.val h.tag.toNat 0 (if r.1 then 0 :: (leBytes r.2 h.arg.toNat).map BitVec.toNat else [1])).settle) ∧
  -- WREQ (R417)
  (∀ (s t u : State) (p : Fin 4) (h : LinkHead) (f : ReqFlit) (e : Ecc) (r : Bool × Nat), s.takes p.val h = true → t =
    (s.begin.skAccept p.val h 0).1 → h.dst.val = t.skAddr → 0 < h.arg.toNat → h.arg.toNat ≤ 32 → t.localAccess 5
    f.addr.toNat (.write ((f.data ++ List.replicate 32 0).take h.arg.toNat)) e = (r, u) → u.skLive = true → exec (.wreq p h
    f e) s = .next (u.skUnicast 1 0x13 h.src.val h.tag.toNat 0 [if r.1 then 0 else 1]).settle) ∧
  -- RRSP (R417)
  (∀ (s t : State) (p : Fin 4) (h : LinkHead) (f : RspFlit) (i : Nat) (r : SkReq), s.takes p.val h = true → t =
    (s.begin.skAccept p.val h 1).1 → h.dst.val = t.skAddr → (t.skz.reqs.findIdx? (fun r => r.pieces.any (fun q => q.tag ==
    some h.tag.toNat && !q.answered)) = some i) → t.skz.reqs[i]? = some r → ((r.pieces.map (fun (q : SkPiece) => if q.tag ==
    some h.tag.toNat && !q.answered then { q with answered := true, data := f.data } else q)).all (fun q => q.answered) =
    true) → exec (.rrsp p h f) s = .next (({ t with skz := { t.skz with reqs := t.skz.reqs.eraseIdx i } }).remoteDone { r with
      ok := r.ok && (f.status.toNat == 0),
      pieces := r.pieces.map (fun (q : SkPiece) => if q.tag == some h.tag.toNat && !q.answered then
          { q with answered := true, data := f.data } else q) }).tagRequests.settle) ∧
  -- WRSP (R417)
  (∀ (s t : State) (p : Fin 4) (h : LinkHead) (f : RspFlit) (i : Nat) (r : SkReq), s.takes p.val h = true → t =
    (s.begin.skAccept p.val h 1).1 → h.dst.val = t.skAddr → (t.skz.reqs.findIdx? (fun r => r.pieces.any (fun q => q.tag ==
    some h.tag.toNat && !q.answered)) = some i) → t.skz.reqs[i]? = some r → ((r.pieces.map (fun (q : SkPiece) => if q.tag ==
    some h.tag.toNat && !q.answered then { q with answered := true, data := f.data } else q)).all (fun q => q.answered) =
    true) → exec (.wrsp p h f) s = .next (({ t with skz := { t.skz with reqs := t.skz.reqs.eraseIdx i } }).remoteDone { r with
      ok := r.ok && (f.status.toNat == 0),
      pieces := r.pieces.map (fun (q : SkPiece) => if q.tag == some h.tag.toNat && !q.answered then
          { q with answered := true, data := f.data } else q) }).tagRequests.settle) ∧
  -- TSYNC (R421)
  (∀ (s t : State) (p : Fin 4) (h : LinkHead) (f : TimeFlit), s.restful = true → s.receives p.val h = true → t =
    (s.begin.skArrive p.val h).1 → exec (.tsync p h f) s = .next (t.draw.skSend p.val {
      cls := 3,
      typ := 0x21,
      dst := 0,
      src := t.skAddr,
      hops := 0,
      tag := 0,
      arg := 0,
      data := [t.arrivalTs h, t.freeNext % 2 ^ 54, b2n (t.flag SKZ_STAT_TK || t.skz.aligned)] })) ∧
  -- TRESP (R421)
  (∀ (s t : State) (p : Fin 4) (h : LinkHead) (f : TimeFlit) (t1 : Nat) (e : Int × Int), s.receives p.val h = true → t =
    (s.begin.skArrive p.val h).1 → t.skz.t1 = some t1 → t.parent = some p.val → f.synced = true → exchange t1 f.ta.toNat
    f.tb.toNat (t.arrivalTs h) = e → t.modeCode ≠ mJoin → exec (.tresp p h f) s = .next
    ((((({ t with skz := { t.skz with t1 := none, fails := 0 } }).set SKZ_TSTAT_THETA (enc 16 (satInt 16 e.1))).set
    SKZ_TDELAY_DELAY (enc 24 e.2)).trackCorrect e.1)).settle) ∧
  -- TIME_SYNC_EXCHANGE (R423)
  (∀ (s : State) (q : Nat), s.restful = true → s.skLive = true → s.flag SKZ_STAT_JOINED = true → s.modeCode ≠ mJoin → s.flag
    SKZ_STAT_TK = false → s.get SKZ_TSYNC_PERIOD ≠ 0 → s.skz.syncAt ≤ s.beat → s.skz.t1 = none → s.parent = some q → exec
    .timeSyncExchange s = .next ((({ s.begin with
      skz := { s.skz with t1 := some (s.freeNext % 2 ^ 54), syncAt := s.beat + s.get SKZ_TSYNC_PERIOD * beatsPerUs } }).draw).skSend
    q { cls := 3, typ := 0x20, dst := 0, src := s.skAddr, hops := 0, tag := 0, arg := 0, data := [s.freeNext % 2 ^ 54] }))

/-- The broadcasts and the commands to the master complete as written. For each of BCAST, BCAST_START, BCAST_MODE,
BCAST_SPLIT, BCAST_RESET, BCAST_RELEASE, BCAST_ABORT, BCAST_JOINED, BCMD_START, BCMD_MODE, BCMD_SPLIT, BCMD_RESET:
under the conditions on the state and the operands written before it, `exec` answers a next state, and it is the one
written out (or, where the statement names facts of it, one of which those facts hold). -/
def Obligations.FabricBroadcastCommands : Prop :=
  -- BCAST (R425)
  (∀ (s t : State) (p : Fin 4) (h : LinkHead) (f : BcastFlit), s.takes p.val h = true → t = (s.begin.skAccept p.val h 2).1 →
    exec (.bcast p h f) s = .next ((t.skTree (some p.val) {
      cls := 2,
      typ := 0x30,
      dst := 15,
      src := h.src.val,
      hops := (h.hops.val + 1) % 16,
      tag := h.tag.toNat,
      arg := h.arg.toNat,
      data := [f.stamp.toNat, f.cmd.toNat, f.carg.toNat] }).skSchedule f.cmd.toNat f.carg.toNat f.stamp.toNat).settle) ∧
  -- BCAST_START (R426)
  (∀ (s : State) (c : Sched) (l : List Sched), s.skz.sched = c :: l → c.cmd = 1 → c.due ≤ s.beat → s.modeCode = mArmed →
    s.mode.trans = none → ((List.range 24).all (fun n => !s.flag (ESC_CTL_ENABLE n) || s.flag (ESC_STAT_READY n)) = true) →
    exec .bcastStart s = .next ((List.range 24).foldl (fun (t : State) (n : Nat) => if s.flag (ESC_STAT_READY n) then
    t.startEsc n else t) ((({ s.begin with skz := { s.skz with sched := l }, lbRun := true }).setPair ESC_LBEAT_LO_BEAT
    ESC_LBEAT_HI_BEAT 0).enterMode mExpose 0 0xFF)).settle) ∧
  -- BCAST_MODE (R51)
  (∀ (s : State) (c : Sched) (l : List Sched), s.skz.sched = c :: l → c.cmd = 2 → c.due ≤ s.beat → c.carg % 16 = mRecoat →
    s.modeCode = mExpose → s.mode.trans = none → ∃ t : State, exec .bcastMode s = .next t.settle ∧ t =
    ({ s.begin with skz := { s.skz with sched := l } }).enterMode mRecoat 0 0xFD ∧ t.modeCode = mRecoat) ∧
  -- BCAST_SPLIT (R426)
  (∀ (s : State) (c : Sched) (l : List Sched), s.skz.sched = c :: l → c.cmd = 3 → c.due ≤ s.beat → exec .bcastSplit s =
    .next (({ s.begin with skz := { s.skz with sched := l } }).splitTake (c.carg % 256)).settle) ∧
  -- BCAST_RESET (R426)
  (∀ (s : State) (c : Sched) (l : List Sched), s.skz.sched = c :: l → c.cmd = 4 → c.due ≤ s.beat → s.flag SYS_RST_CFG_SKZEN
    = true → c.carg.testBit s.skAddr = true → s.rst.phase = .off → ∃ t : State, exec .bcastReset s = .next t ∧ t.rst.phase =
    .driven ∧ t.get SYS_RST_CAUSE_CAUSE = 32 ∧ t.rst.reach = 1) ∧
  -- BCAST_RELEASE (R151)
  (∀ (s : State) (c : Sched) (l : List Sched), s.skz.sched = c :: l → c.cmd = 8 → c.due ≤ s.beat → exec .bcastRelease s =
    .next (
      let t : State := { s.begin with skz := { s.skz with sched := l } };
      (t.bar (16 + c.carg % 16)).arrived.foldl (fun (u : State) (e : Nat × Nat × Nat) => u.endWait e.1) (t.setBar (16 +
        c.carg % 16) { t.bar (16 + c.carg % 16) with arrived := [], reported := none })).settle) ∧
  -- BCAST_ABORT (R153)
  (∀ (s : State) (c : Sched) (l : List Sched), s.skz.sched = c :: l → c.cmd = 9 → c.due ≤ s.beat → exec .bcastAbort s =
    .next (({ s.begin with skz := { s.skz with sched := l } }).barFail (16 + c.carg % 16)).settle) ∧
  -- BCAST_JOINED (R414)
  (∀ (s : State) (c : Sched) (l : List Sched), s.skz.sched = c :: l → c.cmd = 0xA → c.due ≤ s.beat → s.modeCode = mJoin →
    s.skz.turnedAway = false → 4 ≤ s.get SKZ_STAT_JSTATE → ∃ t : State, exec .bcastJoined s = .next t.settle ∧ t =
    (((({ s.begin with skz := { s.skz with sched := l } } : State).set SKZ_STAT_JOINED 1).set SKZ_STAT_NDEV c.carg).set
    SKZ_STAT_JSTATE 0).enterMode mIdle 0 0xFF ∧ t.modeCode = mIdle) ∧
  -- BCMD_START (R433)
  (∀ (s : State) (v : Word) (w : Nat), s.skLive = true → w = v.toNat % 2 ^ 31 / 256 * 256 + 1 + 2 ^ 31 → s.get
    SKZ_STAT_JSTATE = 0 → exec (.bcmdStart v) s = .next ((((s.begin.set SKZ_BCMD_AUTO (bits w 30 30)).set SKZ_BCMD_CARG
    (bits w 23 8)).set SKZ_BCMD_CMD 1).skBroadcast 1 (bits w 23 8) (if bit w 30 then s.beat + s.get SKZ_CMDLEAD_LEAD else
    s.pair SKZ_BSTAMP_LO_STAMP SKZ_BSTAMP_HI_STAMP)).settle) ∧
  -- BCMD_MODE (R433)
  (∀ (s : State) (v : Word) (w : Nat), s.skLive = true → w = v.toNat % 2 ^ 31 / 256 * 256 + 2 + 2 ^ 31 → s.get
    SKZ_STAT_JSTATE = 0 → (bits w 23 8 % 16 ≠ 5 ∧ bits w 23 8 % 16 ≠ 6) → exec (.bcmdMode v) s = .next ((((s.begin.set
    SKZ_BCMD_AUTO (bits w 30 30)).set SKZ_BCMD_CARG (bits w 23 8)).set SKZ_BCMD_CMD 2).skBroadcast 2 (bits w 23 8) (if bit w
    30 then s.beat + s.get SKZ_CMDLEAD_LEAD else s.pair SKZ_BSTAMP_LO_STAMP SKZ_BSTAMP_HI_STAMP)).settle) ∧
  -- BCMD_SPLIT (R433)
  (∀ (s : State) (v : Word) (w : Nat), s.skLive = true → w = v.toNat % 2 ^ 31 / 256 * 256 + 3 + 2 ^ 31 → s.get
    SKZ_STAT_JSTATE = 0 → exec (.bcmdSplit v) s = .next ((((s.begin.set SKZ_BCMD_AUTO (bits w 30 30)).set SKZ_BCMD_CARG
    (bits w 23 8)).set SKZ_BCMD_CMD 3).skBroadcast 3 (bits w 23 8) (if bit w 30 then s.beat + s.get SKZ_CMDLEAD_LEAD else
    s.pair SKZ_BSTAMP_LO_STAMP SKZ_BSTAMP_HI_STAMP)).settle) ∧
  -- BCMD_RESET (R433)
  (∀ (s : State) (v : Word) (w : Nat), s.skLive = true → w = v.toNat % 2 ^ 31 / 256 * 256 + 4 + 2 ^ 31 → s.get
    SKZ_STAT_JSTATE = 0 → exec (.bcmdReset v) s = .next ((((s.begin.set SKZ_BCMD_AUTO (bits w 30 30)).set SKZ_BCMD_CARG
    (bits w 23 8)).set SKZ_BCMD_CMD 4).skBroadcast 4 (bits w 23 8) (if bit w 30 then s.beat + s.get SKZ_CMDLEAD_LEAD else
    s.pair SKZ_BSTAMP_LO_STAMP SKZ_BSTAMP_HI_STAMP)).settle)

/-- The reports to the master and the deposit flits complete as written. For each of REPORT_BARRIER_READY,
REPORT_LAYER_JOINED, REPORT_LAYER_DONE, REPORT_JOIN_READY, DDEP, DDEP_FLUSH: under the conditions on the state and the
operands written before it, `exec` answers a next state, and it is the one written out (or, where the statement names
facts of it, one of which those facts hold). -/
def Obligations.FabricReportsAndDeposits : Prop :=
  -- REPORT_BARRIER_READY (R428)
  (∀ (s t : State) (p : Fin 4) (h : LinkHead) (f : ReportFlit), s.takes p.val h = true → t = (s.begin.skAccept p.val h 2).1
    → h.dst.val = t.skAddr → t.flag SKZ_STAT_TK = true → ∀ (d : Nat), aheadBy f.beat.toNat t.beat = some d → exec
    (.reportBarrierReady p h f) s = .next (({ t with
      bars := Sparse.put {} t.bars (16 + f.group.toNat % 16) { t.bar (16 + f.group.toNat % 16) with
            reports := (t.bar (16 + f.group.toNat % 16)).reports.filter (fun (r : Nat × Nat) => r.1 != h.src.val) ++
                [(h.src.val, t.beat + d)],
            firstReport := if (t.bar (16 + f.group.toNat % 16)).reports.isEmpty then t.beat else (t.bar (16 + f.group.toNat
                % 16)).firstReport,
            devices := if (t.bar (16 + f.group.toNat % 16)).reports.isEmpty then t.get (ESC_FDEV_DEVICES (f.group.toNat %
                16)) else (t.bar (16 + f.group.toNat % 16)).devices } })).settle) ∧
  -- REPORT_LAYER_JOINED (R428)
  (∀ (s t : State) (p : Fin 4) (h : LinkHead) (f : ReportFlit), s.takes p.val h = true → t = (s.begin.skAccept p.val h 2).1
    → h.dst.val = t.skAddr → t.flag SKZ_STAT_TK = true → exec (.reportLayerJoined p h f) s = .next (t.set SKZ_LAYSTAT_SET
    (t.get SKZ_LAYSTAT_SET ||| 2 ^ h.src.val)).settle) ∧
  -- REPORT_LAYER_DONE (R428)
  (∀ (s t : State) (p : Fin 4) (h : LinkHead) (f : ReportFlit), s.takes p.val h = true → t = (s.begin.skAccept p.val h 2).1
    → h.dst.val = t.skAddr → t.flag SKZ_STAT_TK = true → exec (.reportLayerDone p h f) s = .next (((t.set SKZ_LAYSTAT_SET
    (t.get SKZ_LAYSTAT_SET ||| 2 ^ h.src.val)).set SKZ_LAYSTAT_DONE (t.get SKZ_LAYSTAT_DONE ||| 2 ^
    h.src.val)).layerCheck).settle) ∧
  -- REPORT_JOIN_READY (R414)
  (∀ (s t : State) (p : Fin 4) (h : LinkHead) (f : ReportFlit), s.takes p.val h = true → t = (s.begin.skAccept p.val h 2).1
    → h.dst.val = t.skAddr → t.flag SKZ_STAT_TK = true → exec (.reportJoinReady p h f) s = .next (t.joinReport
    h.src.val).settle) ∧
  -- DDEP (R269)
  (∀ (s t : State) (p : Fin 4) (h : LinkHead) (f : DdepFlit), s.takes p.val h = true → t = (s.begin.skAccept p.val h 2).1 →
    h.dst.val = t.skAddr → exec (.ddep p h f) s = .next (((f.recs.take 3).take h.arg.toNat).foldl State.ddepRecord
    t).settle) ∧
  -- DDEP_FLUSH (R429)
  (∀ (s : State) (k : Fin 8) (q : Nat) (e : Nat × Nat × Deposit) (l : List (Nat × Nat × Deposit)), s.restful = true →
    (s.dial.send.filter (fun e => e.1 == k.val) = e :: l) → (3 ≤ (e :: l).length ∨ e.2.1 + 20 ≤ s.beat) → s.upPort (s.get
    (SKZ_ROUTE_MASK (s.live (DIAL_PEER_DEV k.val)))) = some q → nth0 (s.skp q).credit 2 ≠ 0 → exec (.ddepFlush k) s = .next ((({
      s.begin with
      dial := { s.dial with
            send := (((e :: l).take 3).foldl (fun (l : List (Nat × Nat × Deposit)) r => l.erase r) s.dial.send) } }).skUnicast
    2 0x40 (s.live (DIAL_PEER_DEV k.val)) 0 ((e :: l).take 3).length (((e :: l).take 3).flatMap (fun (r : Nat × Nat ×
    Deposit) => r.2.2.words))).set DIAL_FWDTX_COUNT (s.get DIAL_FWDTX_COUNT + ((e :: l).take 3).length)))

/-- Each instruction of a balance job writes the accumulator or word the rule names and nothing else. For each of BAL_NOP,
BAL_FMA, BAL_FMS, BAL_MULR, BAL_ADD, BAL_SUB, BAL_MIN, BAL_MAX, BAL_CLMP, BAL_SEL, BAL_TBL, BAL_SGN: under the
conditions on the state and the operands written before it, `exec` answers a next state, and it is the one written out
(or, where the statement names facts of it, one of which those facts hold). -/
def Obligations.BalanceInstructions : Prop :=
  -- BAL_NOP (R327)
  (∀ (s : State) (ax : Axis72) (pc : BitVec 12) (j : Job) (w : Nat), s.restful = true → (s.ax ax.val).job = some j →
    s.balLive = true → j.left ≠ 0 → j.pc = pc.toNat → s.get (BAL_PSTORE_WORD pc.toNat) = w → bits w 31 28 = 0 → exec
    (.balNop ax pc) s = .next (s.begin.setAx ax.val
    { s.ax ax.val with job := some { j with pc := j.pc + 1, left := j.left - 1 } })) ∧
  -- BAL_FMA (R327)
  (∀ (s : State) (ax : Axis72) (pc : BitVec 12) (j : Job) (w : Nat), s.restful = true → (s.ax ax.val).job = some j →
    s.balLive = true → j.left ≠ 0 → j.pc = pc.toNat → s.get (BAL_PSTORE_WORD pc.toNat) = w → ∀ (v : Nat) (r : AxSt × Job),
    bits w 31 28 = 1 → v = laneFma s.freeNext (jobReg (s.ax ax.val) j (bits w 21 16)) (s.get (BAL_K_K (bankIx ax.val j.bank)
    (bits w 15 8))) (jobReg (s.ax ax.val) j (bits w 7 2)) → r = jobWrite (s.ax ax.val)
    { j with pc := j.pc + 1, left := j.left - 1 } (bits w 27 22) v → exec (.balFma ax pc) s = .next (s.begin.setAx ax.val
    { r.1 with job := some r.2 }).draw) ∧
  -- BAL_FMS (R327)
  (∀ (s : State) (ax : Axis72) (pc : BitVec 12) (j : Job) (w : Nat), s.restful = true → (s.ax ax.val).job = some j →
    s.balLive = true → j.left ≠ 0 → j.pc = pc.toNat → s.get (BAL_PSTORE_WORD pc.toNat) = w → ∀ (v : Nat) (r : AxSt × Job),
    bits w 31 28 = 2 → v = laneFma s.freeNext (f32Flip (jobReg (s.ax ax.val) j (bits w 21 16))) (s.get (BAL_K_K (bankIx
    ax.val j.bank) (bits w 15 8))) (jobReg (s.ax ax.val) j (bits w 7 2)) → r = jobWrite (s.ax ax.val)
    { j with pc := j.pc + 1, left := j.left - 1 } (bits w 27 22) v → exec (.balFms ax pc) s = .next (s.begin.setAx ax.val
    { r.1 with job := some r.2 }).draw) ∧
  -- BAL_MULR (R327)
  (∀ (s : State) (ax : Axis72) (pc : BitVec 12) (j : Job) (w : Nat), s.restful = true → (s.ax ax.val).job = some j →
    s.balLive = true → j.left ≠ 0 → j.pc = pc.toNat → s.get (BAL_PSTORE_WORD pc.toNat) = w → ∀ (v : Nat) (r : AxSt × Job),
    bits w 31 28 = 3 → v = laneMul s.freeNext (jobReg (s.ax ax.val) j (bits w 21 16)) (jobReg (s.ax ax.val) j (bits w 7 2))
    → r = jobWrite (s.ax ax.val) { j with pc := j.pc + 1, left := j.left - 1 } (bits w 27 22) v → exec (.balMulr ax pc) s =
    .next (s.begin.setAx ax.val { r.1 with job := some r.2 }).draw) ∧
  -- BAL_ADD (R327)
  (∀ (s : State) (ax : Axis72) (pc : BitVec 12) (j : Job) (w : Nat), s.restful = true → (s.ax ax.val).job = some j →
    s.balLive = true → j.left ≠ 0 → j.pc = pc.toNat → s.get (BAL_PSTORE_WORD pc.toNat) = w → ∀ (v : Nat) (r : AxSt × Job),
    bits w 31 28 = 4 → v = laneAdd s.freeNext (jobReg (s.ax ax.val) j (bits w 21 16)) (jobReg (s.ax ax.val) j (bits w 7 2))
    → r = jobWrite (s.ax ax.val) { j with pc := j.pc + 1, left := j.left - 1 } (bits w 27 22) v → exec (.balAdd ax pc) s =
    .next (s.begin.setAx ax.val { r.1 with job := some r.2 }).draw) ∧
  -- BAL_SUB (R327)
  (∀ (s : State) (ax : Axis72) (pc : BitVec 12) (j : Job) (w : Nat), s.restful = true → (s.ax ax.val).job = some j →
    s.balLive = true → j.left ≠ 0 → j.pc = pc.toNat → s.get (BAL_PSTORE_WORD pc.toNat) = w → ∀ (v : Nat) (r : AxSt × Job),
    bits w 31 28 = 5 → v = laneSub s.freeNext (jobReg (s.ax ax.val) j (bits w 21 16)) (jobReg (s.ax ax.val) j (bits w 7 2))
    → r = jobWrite (s.ax ax.val) { j with pc := j.pc + 1, left := j.left - 1 } (bits w 27 22) v → exec (.balSub ax pc) s =
    .next (s.begin.setAx ax.val { r.1 with job := some r.2 }).draw) ∧
  -- BAL_MIN (R327)
  (∀ (s : State) (ax : Axis72) (pc : BitVec 12) (j : Job) (w : Nat), s.restful = true → (s.ax ax.val).job = some j →
    s.balLive = true → j.left ≠ 0 → j.pc = pc.toNat → s.get (BAL_PSTORE_WORD pc.toNat) = w → ∀ (v : Nat) (r : AxSt × Job),
    bits w 31 28 = 6 → v = laneMin s.freeNext (jobReg (s.ax ax.val) j (bits w 21 16)) (jobReg (s.ax ax.val) j (bits w 7 2))
    → r = jobWrite (s.ax ax.val) { j with pc := j.pc + 1, left := j.left - 1 } (bits w 27 22) v → exec (.balMin ax pc) s =
    .next (s.begin.setAx ax.val { r.1 with job := some r.2 }).draw) ∧
  -- BAL_MAX (R327)
  (∀ (s : State) (ax : Axis72) (pc : BitVec 12) (j : Job) (w : Nat), s.restful = true → (s.ax ax.val).job = some j →
    s.balLive = true → j.left ≠ 0 → j.pc = pc.toNat → s.get (BAL_PSTORE_WORD pc.toNat) = w → ∀ (v : Nat) (r : AxSt × Job),
    bits w 31 28 = 7 → v = laneMax s.freeNext (jobReg (s.ax ax.val) j (bits w 21 16)) (jobReg (s.ax ax.val) j (bits w 7 2))
    → r = jobWrite (s.ax ax.val) { j with pc := j.pc + 1, left := j.left - 1 } (bits w 27 22) v → exec (.balMax ax pc) s =
    .next (s.begin.setAx ax.val { r.1 with job := some r.2 }).draw) ∧
  -- BAL_CLMP (R327)
  (∀ (s : State) (ax : Axis72) (pc : BitVec 12) (j : Job) (w : Nat), s.restful = true → (s.ax ax.val).job = some j →
    s.balLive = true → j.left ≠ 0 → j.pc = pc.toNat → s.get (BAL_PSTORE_WORD pc.toNat) = w → ∀ (v : Nat) (r : AxSt × Job),
    bits w 31 28 = 8 → v = laneMin s.freeNext (laneMax s.freeNext (jobReg (s.ax ax.val) j (bits w 21 16)) (f32Flip (s.get
    (BAL_K_K (bankIx ax.val j.bank) (bits w 15 8))))) (s.get (BAL_K_K (bankIx ax.val j.bank) (bits w 15 8))) → r = jobWrite
    (s.ax ax.val) { j with pc := j.pc + 1, left := j.left - 1 } (bits w 27 22) v → exec (.balClmp ax pc) s = .next
    (s.begin.setAx ax.val { r.1 with job := some r.2 }).draw) ∧
  -- BAL_SEL (R327)
  (∀ (s : State) (ax : Axis72) (pc : BitVec 12) (j : Job) (w : Nat), s.restful = true → (s.ax ax.val).job = some j →
    s.balLive = true → j.left ≠ 0 → j.pc = pc.toNat → s.get (BAL_PSTORE_WORD pc.toNat) = w → ∀ (v : Nat) (r : AxSt × Job),
    bits w 31 28 = 9 → (v = if j.flags.testBit (bits w 15 8) then (jobReg (s.ax ax.val) j (bits w 21 16)) else (jobReg (s.ax
    ax.val) j (bits w 7 2))) → r = jobWrite (s.ax ax.val) { j with pc := j.pc + 1, left := j.left - 1 } (bits w 27 22) v →
    exec (.balSel ax pc) s = .next (s.begin.setAx ax.val { r.1 with job := some r.2 }).draw) ∧
  -- BAL_TBL (R337)
  (∀ (s : State) (ax : Axis72) (pc : BitVec 12) (j : Job) (w : Nat), s.restful = true → (s.ax ax.val).job = some j →
    s.balLive = true → j.left ≠ 0 → j.pc = pc.toNat → s.get (BAL_PSTORE_WORD pc.toNat) = w → ∀ (v : Nat) (r : AxSt × Job),
    bits w 31 28 = 10 → v = s.tbl s.freeNext (bankIx ax.val j.bank) (bits w 15 8) (jobReg (s.ax ax.val) j (bits w 21 16)) →
    r = jobWrite (s.ax ax.val) { j with pc := j.pc + 1, left := j.left - 1 } (bits w 27 22) v → exec (.balTbl ax pc) s =
    .next (s.begin.setAx ax.val { r.1 with job := some r.2 }).draw) ∧
  -- BAL_SGN (R327)
  (∀ (s : State) (ax : Axis72) (pc : BitVec 12) (j : Job) (w : Nat), s.restful = true → (s.ax ax.val).job = some j →
    s.balLive = true → j.left ≠ 0 → j.pc = pc.toNat → s.get (BAL_PSTORE_WORD pc.toNat) = w → ∀ (v : Nat) (r : AxSt × Job),
    bits w 31 28 = 11 → (v = if isNaN32 (jobReg (s.ax ax.val) j (bits w 21 16)) then nanWord s.freeNext else laneMul
    s.freeNext (if laneQ (jobReg (s.ax ax.val) j (bits w 21 16)) = 0 then 0 else if f32Neg (jobReg (s.ax ax.val) j (bits w
    21 16)) then f32OfInt (-1) else f32OfInt 1) (jobReg (s.ax ax.val) j (bits w 7 2))) → r = jobWrite (s.ax ax.val)
    { j with pc := j.pc + 1, left := j.left - 1 } (bits w 27 22) v → exec (.balSgn ax pc) s = .next (s.begin.setAx ax.val
    { r.1 with job := some r.2 }).draw)

/-- The job dispatch, the loop closing, opening and tracking of the axes complete as written. For each of JOB_DISPATCH,
COMMAND_RELEASE, TELEMETRY_LOSS, SERVO_TRACKING, APPROACH_END, AXIS_CLOSE, AXIS_OPEN, SWAP_REQUEST, RATE_WRITE: under
the conditions on the state and the operands written before it, `exec` answers a next state, and it is the one written
out (or, where the statement names facts of it, one of which those facts hold). -/
def Obligations.AxisCommands : Prop :=
  -- JOB_DISPATCH (R323)
  (∀ (s : State) (n : Unit24) (bs : Nat), s.restful = true → s.balLive = true → s.sampleNow n.val = some bs → exec
    (.jobDispatch n) s = .next (
      let t : State := (List.range 3).foldl (fun (t : State) (k : Nat) => t.axDispatch n.val (3 * n.val + k) bs s.beat
          ((List.range 3).any (fun k => s.axClosed (3 * n.val + k)))) s.begin;
      (({ t with bal := { t.bal with open_ := Sparse.insert t.bal.open_ n.val bs } } : State).hlPmUpdate n.val))) ∧
  -- COMMAND_RELEASE (R323)
  (∀ (s t : State) (n : Unit24) (bs : Nat), (s.bal.open_.find? (fun e => e.1 == n.val) = some (n.val, bs)) → s.balLive =
    true → bs + s.headUp n.val + s.servoC ≤ s.beat → (t = (List.range 3).foldl (fun (t : State) (k : Nat) => t.axOutput
    n.val (3 * n.val + k)) { s.begin with bal := { s.bal with open_ := Sparse.erase s.bal.open_ n.val } }) → t.inL0 n.val =
    true → exec (.commandRelease n) s = .next (t.sendSlot n.val slotCmd ([(((bs + t.headA n.val) / 1000 % 256 : Nat) : Int),
    1] ++ (List.range 3).map (fun k => sgn 16 (t.get (BAL_OUT_CODE (3 * n.val + k)))))).settle) ∧
  -- TELEMETRY_LOSS (R324)
  (∀ (s : State) (n : Unit24), s.balLive = true → ((([3 * n.val, 3 * n.val + 1, 3 * n.val + 2].filter (fun a => s.axClosed
    a))) ≠ []) → ([3 * n.val, 3 * n.val + 1, 3 * n.val + 2].any (fun a => decide (3 ≤ (s.ax a).missRun)) = true) → exec
    (.telemetryLoss n) s = .next (([3 * n.val, 3 * n.val + 1, 3 * n.val + 2].filter (fun a => s.axClosed a)).foldl (fun (t :
    State) (a : Nat) => t.capTrigger 3 (· == a)) ((s.begin.pulse (laserSrc n.val 9)).headFault n.val)).settle) ∧
  -- SERVO_TRACKING (R340)
  (∀ (s : State) (a : Axis72), s.balLive = true → s.axClosed a.val = true → max 1 (s.axUse a.val (BAL_AXCTL_TRKN a.val)) ≤
    (s.ax a.val).trkRun → exec (.servoTracking a) s = .next ((((s.begin.setAx a.val { s.ax a.val with trkRun := 0 }).set
    (BAL_AXSTAT_TRK a.val) 1).pulse (laserSrc (a.val / 3) 7)).capTrigger 3 (· == a.val)).settle) ∧
  -- APPROACH_END (R332)
  (∀ (s : State) (a : Axis72) (m : AxMove), s.restful = true → s.balLive = true → (s.ax a.val).move = some m → m.start +
    moveBeats ≤ s.beat → exec (.approachEnd a) s = .next ((s.begin.setAx a.val { s.ax a.val with move := none }).set
    (BAL_AXSTAT_APPROACH a.val) 0)) ∧
  -- AXIS_CLOSE (R333)
  (∀ (s : State) (a : Axis72), s.restful = true → s.balLive = true → axCmdMode s.modeCode = true → s.flag (BAL_AXCTL_EN
    a.val) = true → s.inL0 (a.val / 3) = true → s.bankValid a.val (s.actBank a.val) = true → (s.axState a.val ≠ 4 ∨ (s.ax
    a.val).openDue = true) → exec (.axisClose a) s = .next (s.begin.setAx a.val
    { s.ax a.val with closeDue := some (s.beat + 2000) })) ∧
  -- AXIS_CLOSE (R333)
  (∀ (s : State) (a : Axis72), s.restful = true → s.balLive = true → axCmdMode s.modeCode = false → exec (.axisClose a) s =
    .next (s.begin.set (BAL_AXSTAT_CMDERR a.val) 1)) ∧
  -- AXIS_OPEN (R333)
  (∀ (s : State) (a : Axis72), s.restful = true → s.balLive = true → exec (.axisOpen a) s = .next (if axCmdMode s.modeCode
    then s.begin.setAx a.val { s.ax a.val with openDue := true } else s.begin.set (BAL_AXSTAT_CMDERR a.val) 1)) ∧
  -- SWAP_REQUEST (R334)
  (∀ (s : State) (w : Fin 3) (v : Word), s.restful = true → s.balLive = true → exec (.swapRequest w v) s = .next
    ((List.range 32).foldl (fun (t : State) (j : Nat) => if bit v.toNat j && decide (32 * w.val + j < 72) then t.swapAxis
    (32 * w.val + j) else t) s.begin)) ∧
  -- RATE_WRITE (R321)
  (∀ (s : State) (v : Word), s.restful = true → s.balLive = true → bits v.toNat 1 0 ≠ 3 → s.flag BAL_STAT_CLOSED = false →
    exec (.rateWrite v) s = .next ((List.range 24).foldl (fun (t : State) (n : Nat) => if t.inL0 n then t.hlTime n else t)
    (s.begin.set BAL_CTL_RATE (bits v.toNat 1 0)))) ∧
  -- RATE_WRITE (R321)
  (∀ (s : State) (v : Word), s.restful = true → s.balLive = true → (bits v.toNat 1 0 = 3 ∨ s.flag BAL_STAT_CLOSED = true) →
    exec (.rateWrite v) s = .next (s.begin.set BAL_STAT_RATEERR 1))

/-- Starting and stopping an injection and a capture and the write of a capture record complete as written. For each of
INJECTION_RUN, INJECTION_STOP, CAPTURE_START, CAPTURE_STOP, CAPTURE_WRITE_COMPLETE: under the conditions on the state
and the operands written before it, `exec` answers a next state, and it is the one written out (or, where the
statement names facts of it, one of which those facts hold). -/
def Obligations.InjectionAndCaptureCommands : Prop :=
  -- INJECTION_RUN (R342)
  (∀ (s t : State) (g : Fin 4) (v : Word), s.restful = true → s.balLive = true → t = s.begin.injCtl g.val v.toNat →
    t.modeCode = mTune → t.genOk g.val = true → exec (.injectionRun g v) s = .next ((((t.setGen g.val
    { active := true, lfsr := t.get (BAL_INJPRBS_SEED g.val) }).set (BAL_INJSTAT_ACTIVE g.val) 1).set (BAL_INJSTAT_STEP
    g.val) 0).capTrigger 1 (· == t.get (BAL_INJCTL_AXIS g.val)))) ∧
  -- INJECTION_STOP (R342)
  (∀ (s : State) (g : Fin 4), s.restful = true → (s.gen g.val).active = true → exec (.injectionStop g) s = .next
    ((s.begin.setGen g.val {}).set (BAL_INJSTAT_ACTIVE g.val) 0)) ∧
  -- CAPTURE_START (R345)
  (∀ (s t : State) (c : Fin 4) (v : Word), s.restful = true → s.balLive = true → t = s.begin.capCtl c.val v.toNat → t.get
    (BAL_CAPCTL_AXIS c.val) ≤ 71 → t.get (BAL_CAPLEN_LEN c.val) ≠ 0 → t.get (BAL_CAPCTL_TRIG c.val) ≠ 0 → exec
    (.captureStart c v) s = .next (((((t.setCap c.val {}).set (BAL_CAPSTAT_WPTR c.val) 0).set (BAL_CAPSTAT_TRIGD c.val)
    0).set (BAL_CAPSTAT_DONE c.val) 0).set (BAL_CAPSTAT_ARMED c.val) 1)) ∧
  -- CAPTURE_STOP (R345)
  (∀ (s : State) (c : Fin 4), s.restful = true → exec (.captureStop c) s = .next ((s.begin.setCap c.val {}).set
    (BAL_CAPSTAT_ARMED c.val) 0)) ∧
  -- CAPTURE_WRITE_COMPLETE (R345)
  (∀ (s u : State) (c : Fin 4) (i a : Nat) (ws : List Nat) (q : List (Nat × List Nat)), s.restful = true → s.balLive = true
    → (s.cap c.val).queue = (i, ws) :: q → (s.cap c.val).far = false → (s.skz.reqs.any (fun r => r.own == some (2 + c.val))
    = false) → a = (s.pair (BAL_CAPBASE_LO_ADDR c.val) (BAL_CAPBASE_HI_ADDR c.val) + 32 * i) % 2 ^ 40 → s.region a = .dram →
    s.sysLive = true → (s.memSpan a (ws.flatMap (fun (w : Nat) => leBytes w 4)).length = true) → (u =
    ({ s.begin.setCap c.val { s.cap c.val with far := true } with req := some 7, rst := { s.rst with dramFresh := false } }
    : State).store a (ws.flatMap (fun (w : Nat) => leBytes w 4))) → exec (.captureWriteComplete c .clean) s = .next
    (((u.setCap c.val { s.cap c.val with queue := q, far := false }).set (BAL_CAPSTAT_WPTR c.val) ((i + 1) % s.get
    (BAL_CAPLEN_LEN c.val))).capCheck c.val))

/-- The training, telemetry, photodiode and response slots and the time exchange of a head link complete as written. For
each of TRN_SLOT, TLM_SLOT, PD_SLOT, RESP, HL_TRESP, PM, TIME_TRACK_EXCHANGE: under the conditions on the state and
the operands written before it, `exec` answers a next state, and it is the one written out (or, where the statement
names facts of it, one of which those facts hold). -/
def Obligations.HeadLinkSlots : Prop :=
  -- TRN_SLOT (R365)
  (∀ (s u : State) (n : Unit24) (t : TrnSlot), s.restful = true → s.hlLive n.val = true → s.hlState n.val = 2 → trnOk t =
    true → (u = ((((s.begin.set (HL_TRAIN_HVMIN n.val) t.vmin.val).set (HL_TRAIN_HVMAX n.val) t.vmax.val).set
    (HL_TRAIN_HRATES n.val) t.rates.toNat).set (HL_HEADMODEL_MODEL n.val) t.model.toNat).modHl n.val (fun (x : HlSt) =>
    { x with ack := true, good := x.good + 1, headEq := t.eqok })) → exec (.trnSlot n t) s = .next ((u.setHl n.val { u.hl
      n.val with
      cd := if t.ack && t.chv.val == (u.hl n.val).chv && t.chr.val == (u.hl n.val).chr then (u.hl n.val).cd - 1 else 7 }).hlSendTrn
    n.val)) ∧
  -- TRN_SLOT (R365)
  (∀ (s : State) (n : Unit24) (t : TrnSlot), s.restful = true → s.hlLive n.val = true → (s.hlState n.val = 1 ∨ s.hlState
    n.val = 2 ∨ s.hlState n.val = 3) → trnOk t = false → exec (.trnSlot n t) s = .next (((s.begin.hlSlotBad n.val
    t.stuf).modHl n.val (fun (x : HlSt) => { x with ack := false, good := 0, cd := 7 })).hlSendTrn n.val)) ∧
  -- TLM_SLOT (R365)
  (∀ (s : State) (n : Unit24) (t : TlmSlot), s.restful = true → s.hlLive n.val = true → s.hlState n.val = 4 → t.overflow =
    false → tlmOk t = true → exec (.tlmSlot n t) s = .next (((s.begin.modHl n.val (fun (x : HlSt) =>
    { x with good := if t.seq.toNat == s.hlUpStart n.val / 1000 % 256 && t.onTime then x.good + 1 else 0 })).hlCfgAck n.val
    t.cfgack.toNat).hlL0Check n.val)) ∧
  -- TLM_SLOT (R365)
  (∀ (s u : State) (n : Unit24) (t : TlmSlot), s.restful = true → s.hlLive n.val = true → s.hlState n.val = 5 → t.overflow =
    false → tlmOk t = true → t.seq.toNat = s.hlUpStart n.val / 1000 % 256 → t.miss = false → t.camdrop = false → t.hot =
    false → t.hfault = false → (u = ((s.begin.modHl n.val (fun (x : HlSt) =>
    { x with good := if t.onTime then x.good + 1 else 0 })).hlCfgAck n.val t.cfgack.toNat).modHl n.val (fun (x : HlSt) =>
    { x with seqBad := 0 })) → u.flag (HL_STAT_HFAULT n.val) = false → u.balLive = true → exec (.tlmSlot n t) s = .next ({ u with
      bal := { u.bal with
            tlm := Sparse.insert u.bal.tlm n.val ⟨s.hlUpStart n.val - 16, [posCode t.posX, posCode t.posY, posCode t.posZ],
                [sgn 16 t.ix.toNat, sgn 16 t.iy.toNat, sgn 16 t.iz.toNat]⟩ } })) ∧
  -- TLM_SLOT (R365)
  (∀ (s : State) (n : Unit24) (t : TlmSlot), s.hlLive n.val = true → s.hlState n.val = 5 → t.overflow = true → exec
    (.tlmSlot n t) s = .next (s.begin.pulse (laserSrc n.val 9)).settle) ∧
  -- PD_SLOT (R365)
  (∀ (s : State) (n : Unit24) (p : PdSlot), s.restful = true → s.hlLive n.val = true → s.inL0 n.val = true → p.overflow =
    false → pdOk p = true → s.heldInReset (64 + n.val) = false → exec (.pdSlot n p) s = .next (s.begin.pdTriple n.val
    p.pd0.toNat p.pd1.toNat p.pd2.toNat)) ∧
  -- PD_SLOT (R365)
  (∀ (s : State) (n : Unit24) (p : PdSlot), s.restful = true → s.hlLive n.val = true → s.inL0 n.val = true → p.overflow =
    false → pdOk p = false → exec (.pdSlot n p) s = .next (s.begin.hlSlotBad n.val p.stuf)) ∧
  -- PD_SLOT (R365)
  (∀ (s : State) (n : Unit24) (p : PdSlot), s.hlLive n.val = true → s.inL0 n.val = true → p.overflow = true → exec (.pdSlot
    n p) s = .next (s.begin.pulse (laserSrc n.val 6)).settle) ∧
  -- RESP (R366)
  (∀ (s : State) (n : Unit24) (r : SvcSlot) (m : SvcTx), s.restful = true → s.hlLive n.val = true → (4 ≤ s.hlState n.val ∧
    s.hlState n.val ≤ 7) → svcOk 3 r = true → (s.hl n.val).svc = some m → m.typ = 2 → m.tag = r.tag.toNat → exec (.resp n r)
    s = .next ((((s.begin.set (HL_SVCSTAT_RSTAT n.val) r.status.toNat).set (HL_SVCSTAT_BUSY n.val) 0).set (HL_SVCSTAT_DONE
    n.val) 1).hlSvcEnd n.val)) ∧
  -- HL_TRESP (R373)
  (∀ (s : State) (n : Unit24) (r : TrespSlot) (t1 : Nat) (m : SvcTx) (th : Rat) (up dn : Int), s.restful = true → s.hlLive
    n.val = true → s.hlState n.val = 5 → svcOk 0x11 r.svc = true → (s.hl n.val).t1 = some t1 → (s.hl n.val).svc = some m →
    m.typ = 0x10 → m.tag = r.svc.tag.toNat → up = sgn 64 ((dword r.svc.d0 r.svc.d1) + 2 ^ 64 - t1) → dn = sgn 64 (r.t4.toNat
    + 2 ^ 64 - (dword r.svc.d2 r.svc.d3)) → th = mkRat (up - dn) 2 → absQ th < 2 → exec (.hlTresp n r) s = .next
    (((s.begin.set (HL_TIME_DELAY n.val) (enc 16 (roundEven (mkRat (up + dn) 2)))).modHl n.val (fun (x : HlSt) =>
    { x with t1 := none })).hlSvcEnd n.val)) ∧
  -- PM (R394)
  (∀ (s : State) (n : Unit24) (x : SvcSlot), s.restful = true → s.hlLive n.val = true → s.hlState n.val = 5 → svcOk 0x18 x =
    true → x.d0.toNat % 16 = 1 → 2 ≤ s.get (HL_STAT_VERSION n.val) → (s.hl n.val).pm = true → s.hlMaySleep n.val = true →
    exec (.pm n x) s = .next ((s.begin.hlTo n.val 6).set (HL_STAT_UPPS n.val) 1)) ∧
  -- TIME_TRACK_EXCHANGE (R374)
  (∀ (s : State) (n : Unit24), s.restful = true → s.hlLive n.val = true → s.inL0 n.val = true → s.get (HL_STAT_VERSION
    n.val) = 3 → (s.hl n.val).syncAt + 4096 * frameBeats ≤ s.beat → (s.hl n.val).t1 = none → exec (.timeTrackExchange n) s =
    .next ((s.begin.modHl n.val (fun (x : HlSt) => { x with syncAt := s.beat })).hlSvcQueue n.val { typ := 0x10 }))

/-- Enabling, training, equalising and losing a head link complete as written. For each of LINK_ENABLE, RETRAIN,
RATE_SWITCH, EQUALISE_DONE, LINK_STATE_TIMEOUT, LOSS_OF_FRAME, EQ_TRACK_STEP: under the conditions on the state and
the operands written before it, `exec` answers a next state, and it is the one written out (or, where the statement
names facts of it, one of which those facts hold). -/
def Obligations.HeadLinkTraining : Prop :=
  -- LINK_ENABLE (R377)
  (∀ (s : State) (n : Unit24), s.restful = true → s.hlLive n.val = true → s.flag (HL_CTL_EN n.val) = false → exec
    (.linkEnable n) s = .next (if (s.begin.set (HL_CTL_EN n.val) 1).hlPowered then (s.begin.set (HL_CTL_EN n.val) 1).hlTrain
    n.val else s.begin.set (HL_CTL_EN n.val) 1)) ∧
  -- RETRAIN (R385)
  (∀ (s : State) (n : Unit24), s.restful = true → s.hlLive n.val = true → s.flag (HL_CTL_EN n.val) = true → s.hlPowered =
    true → exec (.retrain n) s = .next (((((s.begin.hlDetect n.val).modHl n.val (fun (x : HlSt) =>
    { x with tries := 0 })).set (HL_TRAIN_ATTEMPTS n.val) 0).set (HL_TRAIN_RATEFAIL n.val) 0).set (HL_TRAIN_FAILCAUSE n.val)
    0)) ∧
  -- RATE_SWITCH (R381)
  (∀ (s : State) (n : Unit24), s.restful = true → s.hlLive n.val = true → s.hlState n.val = 2 → (s.hl n.val).cd = 0 → exec
    (.rateSwitch n) s = .next (((s.begin.hlTo n.val 3).set (HL_STAT_RATE n.val) (s.hl n.val).chr).set (HL_STAT_VERSION
    n.val) (s.hl n.val).chv)) ∧
  -- EQUALISE_DONE (R382)
  (∀ (s : State) (n : Unit24), s.restful = true → s.hlLive n.val = true → s.hlState n.val = 3 → s.hlEqOk n.val = true →
    (s.hl n.val).headEq = true → exec (.equaliseDone n) s = .next (((s.begin.hlTrnOut n.val 4 true).draw.set (HL_EQ_PEAK
    n.val) (if s.flag (HL_CTL_EQFIX n.val) then s.get (HL_EQ_PEAKFIX n.val) else s.freeNext % 16)).hlTime n.val)) ∧
  -- LINK_STATE_TIMEOUT (R385)
  (∀ (s : State) (n : Unit24), s.hlLive n.val = true → s.hlState n.val = 3 → (s.hl n.val).since + 4 * beatsPerMs ≤ s.beat →
    exec (.linkStateTimeout n) s = .next ((s.begin.set (HL_TRAIN_RATEFAIL n.val) (s.get (HL_TRAIN_RATEFAIL n.val) ||| 2 ^
    s.get (HL_STAT_RATE n.val))).hlNegotiate n.val true).settle) ∧
  -- LINK_STATE_TIMEOUT (R385)
  (∀ (s : State) (n : Unit24), s.hlLive n.val = true → (s.hlState n.val = 2 ∨ s.hlState n.val = 4) → (s.hl n.val).since +
    beatsPerMs ≤ s.beat → (s.hl n.val).tries + 1 < max 1 (s.get (HL_CTL_MAXTRY n.val)) → exec (.linkStateTimeout n) s =
    .next (((s.begin.incSat (HL_TRAIN_ATTEMPTS n.val)).modHl n.val (fun (y : HlSt) =>
    { y with tries := y.tries + 1 })).hlDetect n.val).settle) ∧
  -- LOSS_OF_FRAME (R387)
  (∀ (s : State) (n : Unit24), s.hlLive n.val = true → 4 ≤ s.hlState n.val → s.hlState n.val ≤ 6 → s.get (HL_STAT_UPPS
    n.val) = 0 → exec (.lossOfFrame n) s = .next (
      let t : State := ((s.begin.set (HL_STAT_LOF n.val) 1).set (HL_STAT_DOWN n.val) 1).pulse (laserSrc n.val 0xA);
      if t.flag (HL_CTL_AUTORT n.val) then t.hlDetect n.val else t.hlIdle n.val 0).settle) ∧
  -- EQ_TRACK_STEP (R383)
  (∀ (s : State) (n : Unit24) (p : BitVec 4), s.restful = true → s.hlLive n.val = true → s.inL0 n.val = true → s.flag
    (HL_CTL_EQFIX n.val) = false → (s.hl n.val).eqAt + 4096 * frameBeats ≤ s.beat → p.toNat ≤ s.get (HL_EQ_PEAK n.val) + 1 →
    s.get (HL_EQ_PEAK n.val) ≤ p.toNat + 1 → exec (.eqTrackStep n p) s = .next ((s.begin.set (HL_EQ_PEAK n.val)
    p.toNat).modHl n.val (fun (x : HlSt) => { x with eqAt := s.beat })))

/-- The power states of a head link, its service requests and its configuration resend complete as written. For each of
L0S_ENTRY, LINK_WAKE_DETECT, L1REQ, WAKE, SVC_GO, SVC_RETRY, CFG_RESEND: under the conditions on the state and the
operands written before it, `exec` answers a next state, and it is the one written out (or, where the statement names
facts of it, one of which those facts hold). -/
def Obligations.HeadLinkPowerAndServices : Prop :=
  -- L0S_ENTRY (R393)
  (∀ (s : State) (n : Unit24), s.restful = true → s.hlLive n.val = true → s.hlState n.val = 5 → s.get (HL_STAT_DNPS n.val) =
    0 → s.flag (HL_CTL_L0SDNEN n.val) = true → 2 ≤ s.get (HL_STAT_VERSION n.val) → s.hlMaySleep n.val = true → (s.hl
    n.val).cfg = [] → (s.hl n.val).cfgWait = [] → (s.hl n.val).svc = none → (s.hl n.val).svcQueue = [] → (s.hl
    n.val).traffic + 16 * frameBeats ≤ s.beat → (s.hl n.val).since + 16 * frameBeats ≤ s.beat → exec (.l0sEntry n) s = .next
    (((s.begin.hlSvcSlot n.val { typ := 0x18, data := [1] }).hlTo n.val 6).set (HL_STAT_DNPS n.val) 1)) ∧
  -- LINK_WAKE_DETECT (R394)
  (∀ (s : State) (n : Unit24), s.restful = true → s.hlLive n.val = true → s.hlState n.val = 6 → s.get (HL_STAT_DNPS n.val) =
    0 → exec (.linkWakeDetect n) s = .next ((s.begin.set (HL_STAT_UPPS n.val) 0).hlTo n.val 5)) ∧
  -- L1REQ (R394)
  (∀ (s : State) (n : Unit24), s.restful = true → s.flag (HL_CTL_L1EN n.val) = true → s.hlLive n.val = true → s.hlState
    n.val = 5 → s.get (HL_STAT_VERSION n.val) = 3 → s.hlMaySleep n.val = true → (s.hl n.val).l1Req = false → exec (.l1req n)
    s = .next ((s.begin.modHl n.val (fun (x : HlSt) => { x with l1Req := true })).hlSvcQueue n.val
    { typ := 0x18, data := [2] })) ∧
  -- WAKE (R394)
  (∀ (s : State) (n : Unit24), s.restful = true → s.hlLive n.val = true → s.hlState n.val = 7 → (s.hl n.val).waking = false
    → exec (.wake n) s = .next (((s.begin.set (HL_STAT_UPPS n.val) 0).set (HL_STAT_DNPS n.val) 0).modHl n.val (fun (x :
    HlSt) => { x with waking := true, good := 0 }))) ∧
  -- SVC_GO (R401)
  (∀ (s : State) (n : Unit24) (v : Word) (l0 len : Nat), s.restful = true → s.hlLive n.val = true → s.flag (HL_SVCSTAT_BUSY
    n.val) = false → s.inL0 n.val = true → l0 = bits v.toNat 2 0 → (len = if l0 = 0 then 1 else min l0 4) → exec (.svcGo n
    v) s = .next ((((s.begin.set (HL_SVCCMD_WRITE n.val) (b2n (bit v.toNat 8))).set (HL_SVCCMD_LEN n.val) l0).set
    (HL_SVCSTAT_BUSY n.val) 1).hlSvcQueue n.val {
      typ := if bit v.toNat 8 then 2 else 1,
      len := len,
      addr := s.get (HL_SVCADDR_ADDR n.val),
      data := if bit v.toNat 8 then (List.range len).map (fun k => s.get (HL_SVCDATA_DATA n.val k)) else [] })) ∧
  -- SVC_GO (R401)
  (∀ (s : State) (n : Unit24) (v : Word), s.restful = true → s.hlLive n.val = true → (s.flag (HL_SVCSTAT_BUSY n.val) = true
    ∨ s.inL0 n.val = false) → exec (.svcGo n v) s = .next (s.begin.set (HL_SVCSTAT_ERR n.val) 1)) ∧
  -- SVC_RETRY (R391)
  (∀ (s : State) (n : Unit24) (m : SvcTx), s.restful = true → s.hlLive n.val = true → (s.hl n.val).svc = some m → m.sentAt +
    8 * frameBeats ≤ s.beat → m.tries < 3 → exec (.svcRetry n) s = .next (s.begin.hlSvcSend n.val
    { m with tries := m.tries + 1 })) ∧
  -- SVC_RETRY (R391)
  (∀ (s : State) (n : Unit24) (m : SvcTx), s.restful = true → s.hlLive n.val = true → (s.hl n.val).svc = some m → m.sentAt +
    8 * frameBeats ≤ s.beat → 3 ≤ m.tries → (m.typ = 1 ∨ m.typ = 2) → exec (.svcRetry n) s = .next ((((s.begin.set
    (HL_SVCSTAT_ERR n.val) 1).set (HL_SVCSTAT_RSTAT n.val) 0xFF).set (HL_SVCSTAT_BUSY n.val) 0).hlSvcEnd n.val)) ∧
  -- CFG_RESEND (R391)
  (∀ (s : State) (n : Unit24), s.restful = true → s.hlLive n.val = true → (s.hl n.val).cfg ≠ [] → (s.hl n.val).ackAt + 8 *
    frameBeats ≤ s.beat → exec (.cfgResend n) s = .next ((s.hl n.val).cfg.foldl (fun (t : State) e => t.hlCfgSlot n.val e)
    (s.begin.setHl n.val { s.hl n.val with ackAt := s.beat })))

/-- MOVE, VEL, STOP, HOME and SETPOS of an axis, refused, stamped and run, complete as written. For each of MOVE, VEL,
AXIS_STOP, HOME, SETPOS, STAMPED_START: under the conditions on the state and the operands written before it, `exec`
answers a next state, and it is the one written out (or, where the statement names facts of it, one of which those
facts hold). -/
def Obligations.MotionCommands : Prop :=
  -- MOVE (R486)
  (∀ (s u : State) (m : Fin 6), s.restful = true → s.motLive = true → s.rst.barrierDown = false → (s.begin.set
    (MOT_AX_CMD_OP m.val) 1).motCheck m.val 1 = 0 → s.flag (MOT_AX_CMD_STAMPED m.val) = false → u = ((s.begin.set
    (MOT_AX_CMD_OP m.val) 1).set (MOT_AX_STAT_CMDERR m.val) 0).motOn m.val → u.motState m.val ≠ mtHoming → exec (.move m) s
    = .next ((u.motRetarget m.val (sgn 32 (s.get (MOT_AX_TGT_VALUE m.val)))).setMotState m.val mtMove)) ∧
  -- MOVE (R486)
  (∀ (s : State) (m : Fin 6) (c : Nat), s.restful = true → s.motLive = true → s.rst.barrierDown = false → (s.begin.set
    (MOT_AX_CMD_OP m.val) 1).motCheck m.val 1 = c → c ≠ 0 → exec (.move m) s = .next (((s.begin.set (MOT_AX_CMD_OP m.val)
    1).set (MOT_AX_STAT_CMDERR m.val) c).set (MOT_AX_STAT_CMDREJ m.val) 1)) ∧
  -- MOVE (R486)
  (∀ (s : State) (m : Fin 6) (q : Bool × Nat) (u : State), s.restful = true → s.motLive = true → s.rst.barrierDown = false →
    u = s.begin.set (MOT_AX_CMD_OP m.val) 1 → u.motCheck m.val 1 = 0 → s.flag (MOT_AX_CMD_STAMPED m.val) = true → q = motDue
    s.beat (aheadBy (u.pair (MOT_AX_STAMP_LO_STAMP m.val) (MOT_AX_STAMP_HI_STAMP m.val)) s.beat) → q.1 = false → exec (.move
    m) s = .next ((u.set (MOT_AX_STAT_CMDERR m.val) 0).setMx m.val
    { s.mx m.val with stamped := some ⟨1, u.get (MOT_AX_TGT_VALUE m.val), q.2⟩ })) ∧
  -- VEL (R487)
  (∀ (s u : State) (m : Fin 6), s.restful = true → s.motLive = true → s.rst.barrierDown = false → (s.begin.set
    (MOT_AX_CMD_OP m.val) 2).motCheck m.val 2 = 0 → s.flag (MOT_AX_CMD_STAMPED m.val) = false → u = ((s.begin.set
    (MOT_AX_CMD_OP m.val) 2).set (MOT_AX_STAT_CMDERR m.val) 0).motOn m.val → u.motState m.val ≠ mtHoming → exec (.vel m) s =
    .next ((u.motGo m.val (.run (sgn 32 (s.get (MOT_AX_TGT_VALUE m.val))))).setMotState m.val mtVel)) ∧
  -- AXIS_STOP (R485)
  (∀ (s u : State) (m : Fin 6), s.restful = true → s.motLive = true → s.rst.barrierDown = false → (s.begin.set
    (MOT_AX_CMD_OP m.val) 3).motCheck m.val 3 = 0 → s.flag (MOT_AX_CMD_STAMPED m.val) = false → u = ((s.begin.set
    (MOT_AX_CMD_OP m.val) 3).set (MOT_AX_STAT_CMDERR m.val) 0).motOn m.val → u.motRest m.val = false → exec (.axisStop m) s
    = .next (((u.setMx m.val { u.mx m.val with phases := u.stopPhases m.val, done := 0, next := none }).setMotState m.val
    mtStopping).set (MOT_AX_STAT_HPHASE m.val) 0)) ∧
  -- AXIS_STOP (R485)
  (∀ (s u : State) (m : Fin 6), s.restful = true → s.motLive = true → s.rst.barrierDown = false → (s.begin.set
    (MOT_AX_CMD_OP m.val) 3).motCheck m.val 3 = 0 → s.flag (MOT_AX_CMD_STAMPED m.val) = false → u = ((s.begin.set
    (MOT_AX_CMD_OP m.val) 3).set (MOT_AX_STAT_CMDERR m.val) 0).motOn m.val → u.motRest m.val = true → exec (.axisStop m) s =
    .next u) ∧
  -- HOME (R495)
  (∀ (s u : State) (m : Fin 6), s.restful = true → s.motLive = true → s.rst.barrierDown = false → (s.begin.set
    (MOT_AX_CMD_OP m.val) 4).motCheck m.val 4 = 0 → s.flag (MOT_AX_CMD_STAMPED m.val) = false → u = ((s.begin.set
    (MOT_AX_CMD_OP m.val) 4).set (MOT_AX_STAT_CMDERR m.val) 0).motOn m.val → u.flag (MOT_AX_CTL_IDXEN m.val) = false → ∀ (t
    : State), t = (u.setMotState m.val mtHoming).setMx m.val { u.mx m.val with hStart := u.beat } → exec (.home m) s = .next
    (t.homePhase m.val (if u.homeOn m.val then 2 else 1))) ∧
  -- SETPOS (R483)
  (∀ (s u : State) (m : Fin 6), s.restful = true → s.motLive = true → s.rst.barrierDown = false → (s.begin.set
    (MOT_AX_CMD_OP m.val) 5).motCheck m.val 5 = 0 → s.flag (MOT_AX_CMD_STAMPED m.val) = false → u = ((s.begin.set
    (MOT_AX_CMD_OP m.val) 5).set (MOT_AX_STAT_CMDERR m.val) 0).motOn m.val → exec (.setpos m) s = .next ((((u.setMx m.val
    { u.mx m.val with p := ((sgn 32 (s.get (MOT_AX_TGT_VALUE m.val))) : Rat), stalls := 0 }).set (MOT_AX_STAT_POSVALID
    m.val) 1).setMotState m.val mtHold).motShow m.val)) ∧
  -- STAMPED_START (R484)
  (∀ (s : State) (m : Fin 6) (c : MotStamp), s.motLive = true → (s.mx m.val).stamped = some c → c.due ≤ s.beat →
    s.rst.barrierDown = false → s.motCan m.val = true → motFullMode s.modeCode = true → exec (.stampedStart m) s = .next
    ((s.begin.setMx m.val { s.mx m.val with stamped := none }).motDo m.val c.op (sgn 32 c.tgt)).settle)

/-- The profile update, the coil PWM, the load angle, stall, limits and the chatter window of an axis complete as written.
For each of PROFILE_UPDATE, COIL_PWM_PERIOD, LOAD_ANGLE_MEASUREMENT, STALL, LIMIT_INPUT, CHATTER_WINDOW,
HOMING_TIMEOUT: under the conditions on the state and the operands written before it, `exec` answers a next state, and
it is the one written out (or, where the statement names facts of it, one of which those facts hold). -/
def Obligations.MotionUpdates : Prop :=
  -- PROFILE_UPDATE (R482)
  (∀ (s : State) (m : Fin 6), s.restful = true → s.motLive = true → (s.mx m.val).updAt + 400 ≤ s.beat → s.motRest m.val =
    true → exec (.profileUpdate m) s = .next ((s.begin.setMx m.val { s.mx m.val with updAt := s.beat }).motCurrent m.val)) ∧
  -- PROFILE_UPDATE (R482)
  (∀ (s t u : State) (m : Fin 6), s.motLive = true → (s.mx m.val).updAt + 400 ≤ s.beat → s.motRest m.val = false → t =
    ((s.begin.setMx m.val { s.mx m.val with updAt := s.beat }).motSoft m.val).motAdvance m.val → (t.mx m.val).hEdge = none →
    u = t.motRes m.val (s.mx m.val).pos (t.mx m.val).pos → (u.mx m.val).phases ≠ [] → exec (.profileUpdate m) s = .next
    ((u.motCurrent m.val).motShow m.val).settle) ∧
  -- COIL_PWM_PERIOD (R489)
  (∀ (s : State) (m : Fin 6) (w : Bool), s.restful = true → s.motLive = true → s.motState m.val ≠ mtOff → (s.mx m.val).pwmAt
    + 10000 ≤ s.beat → (w = if s.flag (MOT_AX_STAT_CURMODE m.val) then !decide (absQ (s.mx m.val).v < 7 * s.speed16
    (MOT_AX_QS_VSTRONG m.val) / 8) else decide (s.speed16 (MOT_AX_QS_VSTRONG m.val) < absQ (s.mx m.val).v)) → exec
    (.coilPwmPeriod m) s = .next (if w != s.flag (MOT_AX_STAT_CURMODE m.val) then ((s.begin.setMx m.val
    { s.mx m.val with pwmAt := s.beat, hov := some (0, s.freeNext % 65536) }).set (MOT_AX_STAT_CURMODE m.val) (b2n w)).draw
    else s.begin.setMx m.val { s.mx m.val with
      pwmAt := s.beat,
      hov := (s.mx m.val).hov.bind (fun (q : Nat × Nat) => if q.1 + 1 < max 1 (s.get (MOT_AX_CTL_HOV m.val)) then some (q.1
          + 1, q.2) else none) })) ∧
  -- LOAD_ANGLE_MEASUREMENT (R491)
  (∀ (s : State) (m : Fin 6) (lam : BitVec 8), s.restful = true → s.motLive = true → s.motRest m.val = false → absQ (s.mx
    m.val).v < s.speed16 (MOT_AX_QS_VBEMF m.val) → exec (.loadAngleMeasurement m lam) s = .next (((s.begin.set
    (MOT_AX_LOAD_LOAD m.val) lam.toNat).setMx m.val { s.mx m.val with
      amp := (s.mx m.val).amp,
      stalls := if decide ((s.mx m.val).amp = (s.get (MOT_AX_CUR_IMAX m.val) : Rat)) && decide (lam.toNat < s.get
          (MOT_AX_LA_LASTALL m.val)) then (s.mx m.val).stalls + 1 else 0 }).set (MOT_AX_LOAD_I m.val) (roundUp (s.mx
    m.val).amp).toNat)) ∧
  -- STALL (R492)
  (∀ (s t : State) (m : Fin 6), s.motLive = true → s.motRest m.val = false → max 1 (s.get (MOT_AX_LA_NSTALL m.val)) ≤ (s.mx
    m.val).stalls → t = (s.begin.setMx m.val { s.mx m.val with
      p := ((s.mx m.val).pos : Rat),
      v := 0,
      a := 0,
      phases := [],
      done := 0,
      next := none,
      stalls := 0,
      restAt := s.beat,
      hEdge := none,
      hIdx := none }).setMotState m.val mtStalled → exec (.stall m) s = .next ((((((((t.incSat (MOT_AX_CNT_STALLCNT
    m.val)).motCurrent m.val).set (MOT_AX_STAT_STALL m.val) 1).set (MOT_AX_STAT_POSVALID m.val) 0).set (MOT_AX_STAT_HOMED
    m.val) 0).set (MOT_AX_STAT_HPHASE m.val) 0).motShow m.val).pulse (0x040 + m.val)).settle) ∧
  -- LIMIT_INPUT (R493)
  (∀ (s : State) (m : Fin 6) (side : Bool) (f : Fld), s.motLive = true → (f = if side then MOT_AX_STAT_LIMP m.val else
    MOT_AX_STAT_LIMN m.val) → s.flag f = false → s.motState m.val ≠ mtHoming → ((if side then 0 < (s.mx m.val).v else (s.mx
    m.val).v < 0)) → s.motRest m.val = false → exec (.limitInput m side true) s = .next ((((((s.begin.setPin s.motShown f
    1).motStop m.val).set (MOT_AX_STAT_LIMTRIP m.val) 1).incSat (MOT_AX_CNT_TRIPCNT m.val)).pulse (0x048 + m.val))).settle) ∧
  -- LIMIT_INPUT (R493)
  (∀ (s : State) (m : Fin 6) (side : Bool) (f : Fld), s.restful = true → s.motLive = true → (f = if side then
    MOT_AX_STAT_LIMP m.val else MOT_AX_STAT_LIMN m.val) → s.flag f = true → s.motState m.val ≠ mtHoming → exec (.limitInput
    m side false) s = .next (s.begin.setPin s.motShown f 0)) ∧
  -- CHATTER_WINDOW (R493)
  (∀ (s : State) (m : Fin 6) (side : Bool), s.motLive = true → s.get (MOT_AX_LIMCFG_CHWIN m.val) ≠ 0 → exec (.chatterWindow
    m side) s = .next (((s.begin.set (MOT_AX_STAT_CHATTER m.val) 1).pulse (0x050 + m.val)).homeFail m.val).settle) ∧
  -- HOMING_TIMEOUT (R496)
  (∀ (s : State) (m : Fin 6), s.motLive = true → s.motState m.val = mtHoming → s.get (MOT_AX_HTO_HTO m.val) ≠ 0 → (s.mx
    m.val).hStart + s.get (MOT_AX_HTO_HTO m.val) * 10 * beatsPerMs ≤ s.beat → exec (.homingTimeout m) s = .next
    (s.begin.homeFail m.val).settle)

/-- A driver fault, the motor bus supply and the loss and relock of the barrier link complete as written. For each of
DRIVER_FAULT, MOTOR_BUS_UV, MOTOR_BUS_RESTORED, BARRIER_LINK_LOSS, BARRIER_LINK_RELOCK: under the conditions on the
state and the operands written before it, `exec` answers a next state, and it is the one written out (or, where the
statement names facts of it, one of which those facts hold). -/
def Obligations.DriverAndBarrierEvents : Prop :=
  -- DRIVER_FAULT (R497)
  (∀ (s : State) (m : Fin 6), s.motLive = true → exec (.driverFault m) s = .next (((((s.begin.motOff m.val).set
    (MOT_AX_STAT_POSVALID m.val) 0).set (MOT_AX_STAT_HOMED m.val) 0).set (MOT_AX_STAT_DRVFLT m.val) 1).pulse (0x060 +
    m.val)).settle) ∧
  -- MOTOR_BUS_UV (R497)
  (∀ (s t : State) (vm : BitVec 16), s.motShown = true → (vm.toNat < 100 * (if s.get MOT_CTL_VMUV = 0 then 10 else s.get
    MOT_CTL_VMUV)) → t = s.begin.setPin true MOT_VM_VM vm.toNat → exec (.motorBusUv vm) s = .next
    (((({ t with mot := { t.mot with vmBad := true } }).setPin true MOT_STAT_VMOK 0).motAllOff.set MOT_STAT_VMUV 1).raise
    0x046).settle) ∧
  -- MOTOR_BUS_RESTORED (R497)
  (∀ (s t : State) (vm : BitVec 16), s.restful = true → (100 * (if s.get MOT_CTL_VMUV = 0 then 10 else s.get MOT_CTL_VMUV) ≤
    vm.toNat) → t = s.begin.setPin s.motShown MOT_VM_VM vm.toNat → exec (.motorBusRestored vm) s = .next
    ((({ t with mot := { t.mot with vmBad := false } }).setPin s.motShown MOT_STAT_VMOK 1).lower 0x046)) ∧
  -- BARRIER_LINK_LOSS (R34)
  (∀ (s : State), exec .barrierLinkLoss s = .next ((((List.range 6).foldl (fun (t : State) (m : Nat) => t.motStop m)
    { s.begin with rst := { s.rst with barrierDown := true } }).set MOT_STAT_LINKLOST 1).raise 0x00D).settle) ∧
  -- BARRIER_LINK_RELOCK (R498)
  (∀ (s : State), s.restful = true → (∀ m, m < 6 → (s.mx m).stamped = none) → exec .barrierLinkRelock s = .next
    ({ s.begin with rst := { s.rst with barrierDown := false } }.lower 0x00D))

/-- Host requests, the link state, MSI-X unmasking and the DMA channels act as written. For each of HOST_REQUEST,
PCIE_LINK_CHANGE, MSIX_UNMASK, DMA_GO, DMA_STOP, DMA_DONE, DMA_ERROR: under the conditions on the state and the
operands written before it, `exec` answers a next state, and it is the one written out (or, where the statement names
facts of it, one of which those facts hold). -/
def Obligations.HostInterfaceCommands : Prop :=
  -- HOST_REQUEST (R594)
  (∀ (s : State) (bar : Bool) (off : BitVec 32) (v : Word) (a : Nat), s.hostLive = true → s.flag HP_STAT_LINKUP = true → (a
    = if bar then s.get HP_WIN_BASE * 2 ^ 32 + off.toNat else 0x2000000000 + off.toNat % 2 ^ 25) → s.region a = .reg → a % 4
    = 0 → s.blockHeld a = false → exec (.hostRequest bar off (.write (leBytes v.toNat 4)) .clean) s = .next (((s.asks
    4).regWrite 4 a v.toNat).reply 4 true 0).settle) ∧
  -- PCIE_LINK_CHANGE (R610)
  (∀ (s : State) (n : BitVec 3) (w : BitVec 5), s.restful = true → s.hostLive = true → s.rst.refbBad = false → 1 ≤ n.toNat →
    n.toNat ≤ 4 → (w.toNat = 1 ∨ w.toNat = 2 ∨ w.toNat = 4) → exec (.pcieLinkChange true n w) s = .next (((s.begin.set
    HP_STAT_LINKUP 1).set HP_STAT_SPEED n.toNat).set HP_STAT_WIDTH w.toNat)) ∧
  -- PCIE_LINK_CHANGE (R610)
  (∀ (s : State) (n : BitVec 3) (w : BitVec 5), s.flag HP_STAT_LINKUP = true → exec (.pcieLinkChange false n w) s = .next
    ((((s.begin.set HP_STAT_LINKUP 0).set HP_STAT_SPEED 0).set HP_STAT_WIDTH 0).pulse 0x078).settle) ∧
  -- MSIX_UNMASK (R596)
  (∀ (s : State) (v : Fin 64), s.restful = true → s.host.msixPend.testBit v.val = false → exec (.msixUnmask v) s = .next {
      s.begin with
      host := { s.begin.host with
            msixMask := putBit s.host.msixMask v.val false,
            msixPend := putBit s.host.msixPend v.val false } }) ∧
  -- MSIX_UNMASK (R596)
  (∀ (s : State) (v : Fin 64), s.restful = true → s.host.msixPend.testBit v.val = true → (s.get (cipField v.val)).testBit
    (v.val % 32) = true → exec (.msixUnmask v) s = .next ({ s.begin with
      host := { s.begin.host with
            msixMask := putBit s.host.msixMask v.val false,
            msixPend := putBit s.host.msixPend v.val false } }.emit (.msix v.val))) ∧
  -- DMA_GO (R597)
  (∀ (s t : State) (ch : Fin 4) (v : Word), s.restful = true → s.hostLive = true → s.flag (HP_DMA_STAT_BUSY ch.val) = false
    → t = s.begin.set (HP_DMA_CTL_DIR ch.val) (bits v.toNat 0 0) → t.get (HP_DMA_LEN_VALUE ch.val) ≠ 0 → exec (.dmaGo ch v)
    s = .next (t.set (HP_DMA_STAT_BUSY ch.val) 1)) ∧
  -- DMA_GO (R597)
  (∀ (s : State) (ch : Fin 4) (v : Word), s.restful = true → s.hostLive = true → s.flag (HP_DMA_STAT_BUSY ch.val) = true →
    exec (.dmaGo ch v) s = .next (s.begin.set (HP_DMA_STAT_CMDERR ch.val) 1)) ∧
  -- DMA_STOP (R598)
  (∀ (s : State) (ch : Fin 4), s.restful = true → s.hostLive = true → s.flag (HP_DMA_STAT_BUSY ch.val) = true → s.flag
    (HP_DMA_CTL_DIR ch.val) = true → exec (.dmaStop ch) s = .next ((s.begin.set (HP_DMA_STAT_BUSY ch.val) 0).set
    (HP_DMA_STAT_ABORT ch.val) 1)) ∧
  -- DMA_DONE (R597)
  (∀ (s u : State) (ch : Fin 4) (data l : List Byte) (e : Ecc) (x : Nat), s.hostLive = true → s.flag (HP_DMA_STAT_BUSY
    ch.val) = true → s.flag (HP_DMA_CTL_DIR ch.val) = false → s.get (HP_DMA_LEN_VALUE ch.val) ≤ data.length → split8 (s.pair
    (HP_DMA_TADDR_LO_ADDR ch.val) (HP_DMA_TADDR_HI_ADDR ch.val)) (data.take (s.get (HP_DMA_LEN_VALUE ch.val))) = [(x, l)] →
    s.begin.dmaPut e x l = (none, u) → u.flag (HP_DMA_STAT_BUSY ch.val) = true → exec (.dmaDone ch data e) s = .next
    (((u.set (HP_DMA_STAT_BUSY ch.val) 0).set (HP_DMA_STAT_DONE ch.val) 1).refreshLine (30 + ch.val)).settle) ∧
  -- DMA_ERROR (R598)
  (∀ (s : State) (ch : Fin 4) (g : Bool) (a : Word64), s.hostLive = true → s.flag (HP_DMA_STAT_BUSY ch.val) = true → s.flag
    (HP_DMA_CTL_DIR ch.val) = true → exec (.dmaError ch g a) s = .next (s.begin.dmaFail ch.val g a.toNat).settle)

/-- The DRAM initialisation, the flash and host boot, the loaded image and the start of a core complete as written. For
each of DRAM_INIT_COMPLETE, FLASH_BOOT, BOOT_GO, IMAGE_LOADED, CORE_RUN: under the conditions on the state and the
operands written before it, `exec` answers a next state, and it is the one written out (or, where the statement names
facts of it, one of which those facts hold). -/
def Obligations.MemoryInitAndBoot : Prop :=
  -- DRAM_INIT_COMPLETE (R601)
  (∀ (s : State) (c d : Fin 3), s.heldInReset 140 = false → s.rst.phase = .off → s.flag DRC_STAT_INIT = false → s.modeCode ≠
    mLowPower → exec (.dramInitComplete c false d) s = .next ((s.begin.set DRC_STAT_TRAINERR 1).pulse 0x07D).settle) ∧
  -- DRAM_INIT_COMPLETE (R601)
  (∀ (s t : State) (c d : Fin 3), s.restful = true → s.heldInReset 140 = false → s.rst.phase = .off → s.flag DRC_STAT_INIT =
    false → s.modeCode ≠ mLowPower → (s.rst.dramSr && s.rst.vddqOk && s.rst.keepCase) = true → t = (((s.begin.set
    DRC_STAT_CAP (min c.val d.val)).set DRC_STAT_INIT 1).set DRC_STAT_SR 0).set DRC_STAT_KEPT 1 → t.modeCode ≠ 1 → exec
    (.dramInitComplete c true d) s = .next
    { t with rst := { t.rst with dramFresh := true, dramSr := false, keepCase := false } }) ∧
  -- FLASH_BOOT (R603)
  (∀ (s : State) (f : FlashResult) (im : Image), s.restful = true → s.host.boot = .flash → s.modeCode = 1 → s.sysLive = true
    → f.responds = true → s.hdrCheck f.header = 0 → im = hdrImage f.header s.host.copy f.offset.toNat → im.len ≤
    f.payload.length → exec (.flashBoot f) s = .next (((s.begin.ballUse 9).ballUse 10).bootLoad im (f.payload.take im.len))) ∧
  -- FLASH_BOOT (R603)
  (∀ (s : State) (f : FlashResult), s.host.boot = .flash → s.modeCode = 1 → s.sysLive = true → f.responds = false → exec
    (.flashBoot f) s = .next (((s.begin.ballUse 9).ballUse 10).bootFail 4 s.host.copy).settle) ∧
  -- BOOT_GO (R605)
  (∀ (s : State) (hdr : Nat) (im : Image), s.restful = true → s.sysLive = true → s.flag SYS_BOOT_STAT_WAITHOST = true →
    s.host.boot = .waitHost → hdr = s.pair SYS_BOOT_HDR_LO_ADDR SYS_BOOT_HDR_HI_ADDR → s.region hdr = .progMem → s.region
    (hdr + 64 - 1) = .progMem → s.hdrCheck (s.bytesAt hdr 64) = 0 → im = hdrImage (s.bytesAt hdr 64) 3 hdr → s.region (hdr +
    64) = .progMem → s.region (hdr + 64 + im.len - 1) = .progMem → exec .bootGo s = .next ((s.begin.dramTouched
    hdr).bootLoad im (s.bytesAt (hdr + 64) im.len))) ∧
  -- IMAGE_LOADED (R606)
  (∀ (s t : State) (im : Image), s.restful = true → s.host.image = some im → s.host.boot = .loading → s.modeCode = 1 →
    s.sysLive = true → crc32 (s.bytesAt im.load im.len) = im.crc → bit im.flags 1 = false → t = ((s.begin.set
    SYS_BOOT_STAT_USED im.src).set SYS_BOOT_STAT_RUNNING 1).set SYS_BOOT_STAT_WAITHOST 0 → exec .imageLoaded s = .next
    ({ t with host := { t.host with boot := .running, image := none } }.emit (.coreStart 0 im.entry im.at_))) ∧
  -- IMAGE_LOADED (R606)
  (∀ (s : State) (im : Image), s.host.image = some im → s.host.boot = .loading → s.modeCode = 1 → s.sysLive = true → crc32
    (s.bytesAt im.load im.len) ≠ im.crc → exec .imageLoaded s = .next (s.begin.bootFail 2 im.src).settle) ∧
  -- CORE_RUN (R608)
  (∀ (s : State) (v : Word), s.restful = true → s.rst.phase = .off → v.toNat % 16 / 2 = 1 → s.host.coresRun.testBit 1 =
    false → s.host.nmiPend.testBit 1 = false → exec (.coreRun v) s = .next ({ s.begin with
      host := { s.begin.host with coresRun := putBit s.host.coresRun 1 true, nmiPend := putBit s.host.nmiPend 1 false } }.emit
    (.coreStart 1 (s.pair SYS_CORE_ENTRY_LO_ADDR SYS_CORE_ENTRY_HI_ADDR) 0)))

/-- PWM periods and strobes start, end and overlap as written. For each of PWM_PERIOD_START, PWM_DUTY_END, STROBE_START,
STROBE_END, DIAG_PULSE: under the conditions on the state and the operands written before it, `exec` answers a next
state, and it is the one written out (or, where the statement names facts of it, one of which those facts hold). -/
def Obligations.IlluminationDrive : Prop :=
  -- PWM_PERIOD_START (R468)
  (∀ (s t : State) (ch : Fin 32) (n : Nat), s.restful = true → s.ill.globalDue = none → s.heldInReset 133 = false →
    s.begin.pwmBoundary ch.val = true → s.illMode ch.val = 1 → t = (s.begin.illOff ch.val).illCommit ch.val → n = (roundUp
    (mkRat (t.live (ILL_DUTY_DUTY ch.val) * t.illPeriod) 65536)).toNat → t.illMode ch.val = 1 → t.illMay ch.val = true → n ≠
    0 → exec (.pwmPeriodStart ch) s = .next (t.illOn ch.val (t.beat + n) false)) ∧
  -- PWM_PERIOD_START (R468)
  (∀ (s : State) (ch : Fin 32), s.restful = true → s.ill.globalDue = none → s.begin.pwmBoundary ch.val = false → exec
    (.pwmPeriodStart ch) s = .next s.begin) ∧
  -- PWM_DUTY_END (R468)
  (∀ (s : State) (ch : Fin 32), s.restful = true → s.flag (ILL_DIAG_ON ch.val) = true → s.illMode ch.val = 1 → (s.illCh
    ch.val).until_ ≤ s.beat → exec (.pwmDutyEnd ch) s = .next (s.begin.illOff ch.val)) ∧
  -- STROBE_START (R469)
  (∀ (s t : State) (ch : Fin 32) (b : Nat) (rest : List Nat), s.restful = true → s.ill.globalDue = none → s.heldInReset 133
    = false → (s.illCh ch.val).due = b :: rest → b ≤ s.beat → s.flag (ILL_DIAG_ON ch.val) = false → t = ((s.begin.setIllCh
    ch.val { s.begin.illCh ch.val with due := rest }).illOff ch.val).illCommit ch.val → t.illMode ch.val = 2 → t.illMay
    ch.val = true → t.live (ILL_STRB_SWIDTH ch.val) ≠ 0 → exec (.strobeStart ch) s = .next (t.illOn ch.val (t.beat + t.live
    (ILL_STRB_SWIDTH ch.val)) false)) ∧
  -- STROBE_START (R469)
  (∀ (s t : State) (ch : Fin 32) (b : Nat) (rest : List Nat), s.restful = true → s.ill.globalDue = none → s.heldInReset 133
    = false → (s.illCh ch.val).due = b :: rest → b ≤ s.beat → t = s.begin.setIllCh ch.val
    { s.begin.illCh ch.val with due := rest } → s.flag (ILL_DIAG_ON ch.val) = true → s.illMode ch.val = 2 → exec
    (.strobeStart ch) s = .next (t.set (ILL_DIAG_STRBOVL ch.val) 1)) ∧
  -- STROBE_END (R469)
  (∀ (s : State) (ch : Fin 32), s.restful = true → s.flag (ILL_DIAG_ON ch.val) = true → s.illMode ch.val = 2 → (s.illCh
    ch.val).until_ ≤ s.beat → exec (.strobeEnd ch) s = .next (s.begin.illOff ch.val)) ∧
  -- DIAG_PULSE (R475)
  (∀ (s : State) (ch : Fin 32), s.restful = true → s.illMay ch.val = true → s.illMode ch.val = 2 → s.liveFlag (ILL_CH_DIAGP
    ch.val) = true → s.flag (ILL_DIAG_ON ch.val) = false → (s.illCh ch.val).measured + 100 * beatsPerMs ≤ s.beat → (s.ctx
    (s.live (ILL_CH_SRC ch.val))).trigUntil + 4000 = s.beat → s.nextTrigger (s.live (ILL_CH_SRC ch.val)) s.beat = none →
    exec (.diagPulse ch) s = .next (s.begin.illOn ch.val (s.beat + 960) true))

/-- The NTC conversion, the sink temperature, lamp measurements and the neighbour test complete as written. For each of
NTC_CONVERSION, SINK_OVERTEMP, LAMP_MEASUREMENT, LAMP_SHORT, LAMP_UNVERIFIED, NTEST, NEIGHBOUR_TEST_DONE: under the
conditions on the state and the operands written before it, `exec` answers a next state, and it is the one written out
(or, where the statement names facts of it, one of which those facts hold). -/
def Obligations.IlluminationDiagnostics : Prop :=
  -- NTC_CONVERSION (R471)
  (∀ (s u v w : State) (c : Fin 4) (o : BitVec 32) (x : Rat), s.restful = true → s.ill.globalDue = none → s.heldInReset 133
    = false → s.rst.phase = .off → (¬ (o.toNat < 100 ∨ 2000000 < o.toNat)) → x = ntcTemp (s.get (ILL_NTC_BETA c.val)) (s.get
    (ILL_NTC_RNOM c.val)) o.toNat → u = (s.begin.set (ILL_TEMP_T c.val) (enc 16 (roundFree (10 * x) s.begin.freeNext))).draw
    → v = { u with ill := { u.ill with kc := Sparse.put 0x4000 u.ill.kc c.val (s.begin.illK c.val x) } } → (w = (List.range
    8).foldl (fun y g => if y.illMode (4 * g + c.val) = 3 then y.illCommit (4 * g + c.val) else y) v) → (¬ (((s.get
    (ILL_TCFG_TMAX c.val) : Nat) : Rat) < x)) → s.flag (ILL_CSTAT_OVT c.val) = false → exec (.ntcConversion c o) s = .next
    w) ∧
  -- NTC_CONVERSION (R471)
  (∀ (s : State) (c : Fin 4) (o : BitVec 32), s.ill.globalDue = none → s.heldInReset 133 = false → s.rst.phase = .off →
    (o.toNat < 100 ∨ 2000000 < o.toNat) → s.flag (ILL_CSTAT_SENSE c.val) = false → exec (.ntcConversion c o) s = .next
    ((s.begin.set (ILL_CSTAT_SENSE c.val) 1).pulse 0x033 (2 ^ c.val)).settle) ∧
  -- SINK_OVERTEMP (R473)
  (∀ (s : State) (ch : Fin 32), s.heldInReset 133 = false → exec (.sinkOvertemp ch true) s = .next (((s.begin.illOff
    ch.val).set (ILL_DIAG_SINKOT ch.val) 1).illHeat).settle) ∧
  -- SINK_OVERTEMP (R473)
  (∀ (s t : State) (ch : Fin 32), s.heldInReset 133 = false → t = (s.begin.set (ILL_DIAG_SINKOT ch.val) 0).illHeat →
    t.illMode ch.val ≠ 3 → exec (.sinkOvertemp ch false) s = .next t.settle) ∧
  -- LAMP_MEASUREMENT (R474)
  (∀ (s : State) (ch : Fin 32) (mv : BitVec 16), s.restful = true → s.heldInReset 133 = false → s.flag (ILL_DIAG_ON ch.val)
    = true → 800 ≤ s.begin.illQual ch.val → 150 ≤ mv.toNat → exec (.lampMeasurement ch mv) s = .next ((s.begin.setIllCh
    ch.val { s.begin.illCh ch.val with acc := 0, onAt := s.beat - 80, measured := s.beat }).set (ILL_DIAG_UNVER ch.val) 0)) ∧
  -- LAMP_MEASUREMENT (R474)
  (∀ (s u t : State) (ch : Fin 32) (mv : BitVec 16), s.heldInReset 133 = false → s.flag (ILL_DIAG_ON ch.val) = true → 800 ≤
    s.begin.illQual ch.val → mv.toNat < 150 → u = (s.begin.setIllCh ch.val
    { s.begin.illCh ch.val with acc := 0, onAt := s.beat - 80, measured := s.beat }).set (ILL_DIAG_UNVER ch.val) 0 → t =
    (u.illOff ch.val).set (ILL_DIAG_OPEN ch.val) 1 → exec (.lampMeasurement ch mv) s = .next ((t.setIllCh ch.val
    { t.illCh ch.val with stopped := true, acc := 0 }).pulse 0x030 (2 ^ ch.val)).settle) ∧
  -- LAMP_SHORT (R474)
  (∀ (s : State) (ch : Fin 32), s.heldInReset 133 = false → s.flag (ILL_DIAG_ON ch.val) = false → s.flag ILL_CTL_SUPOK =
    true → s.flag (ILL_DIAG_SHORT ch.val) = false → (s.illCh ch.val).offAt + 800 ≤ s.beat → exec (.lampShort ch) s = .next
    ((s.begin.set (ILL_DIAG_SHORT ch.val) 1).pulse 0x030 (2 ^ ch.val)).settle) ∧
  -- LAMP_UNVERIFIED (R475)
  (∀ (s : State) (ch : Fin 32), s.heldInReset 133 = false → s.illMode ch.val ≠ 0 → s.flag (ILL_DIAG_UNVER ch.val) = false →
    (s.illCh ch.val).measured + 1000 * beatsPerMs ≤ s.beat → exec (.lampUnverified ch) s = .next ((s.begin.set
    (ILL_DIAG_UNVER ch.val) 1).pulse 0x031 (2 ^ ch.val)).settle) ∧
  -- NTEST (R476)
  (∀ (s : State), s.restful = true → s.heldInReset 133 = false → (s.modeCode = mConfigure ∨ s.modeCode = mIdle ∨ s.modeCode
    = mCalibrate) → ((List.range 32).all (fun ch => !s.flag (ILL_DIAG_ON ch)) = true) → s.ill.ntest = none → exec .ntest s =
    .next ({ s.begin with ill := { s.begin.ill with ntest := some s.beat } }.set ILL_STAT_NBUSY 1)) ∧
  -- NTEST (R476)
  (∀ (s : State) (b : Nat), s.restful = true → s.heldInReset 133 = false → s.ill.ntest = some b → exec .ntest s = .next
    (s.begin.set ILL_STAT_CMDERR 1)) ∧
  -- NEIGHBOUR_TEST_DONE (R476)
  (∀ (s : State) (b : Nat), s.restful = true → s.ill.ntest = some b → b + 620 * beatsPerUs ≤ s.beat → exec
    (.neighbourTestDone 0) s = .next ((({ s.begin with ill := { s.begin.ill with ntest := none } }.set ILL_STAT_NBUSY 0).set
    ILL_STAT_NDONE 1).set ILL_NBR_SHORTED 0).illResume) ∧
  -- NEIGHBOUR_TEST_DONE (R476)
  (∀ (s : State) (x : BitVec 31) (b : Nat), s.ill.ntest = some b → b + 620 * beatsPerUs ≤ s.beat → x.toNat ≠ 0 → exec
    (.neighbourTestDone x) s = .next (((({ s.begin with ill := { s.begin.ill with ntest := none } }.set ILL_STAT_NBUSY
    0).set ILL_STAT_NDONE 1).set ILL_NBR_SHORTED x.toNat).pulse 0x034).illResume.settle)

/-- Camera packets, frames, lines and their end, triggers, slots, context enable and the record stream complete as
written. For each of CAMERA_PACKET, FRAME_START, LINE_PACKET, FRAME_END, FRAME_COMPLETE, CAMERA_TRIGGER, SOFT,
SLOT_RELEASE, CONTEXT_ENABLE, MPR_WRITE_COMPLETE: under the conditions on the state and the operands written before
it, `exec` answers a next state, and it is the one written out (or, where the statement names facts of it, one of
which those facts hold). -/
def Obligations.ImagingCommands : Prop :=
  -- CAMERA_PACKET (R368)
  (∀ (s : State) (n : Unit24) (p : CamPacket) (w hh : Nat), s.restful = true → s.hlLive n.val = true → s.inL0 n.val = true →
    2 ≤ s.get (HL_STAT_VERSION n.val) → p.overflow = false → camOk p = true → s.imgRuns = true → s.flag (LPE_CTL_EN n.val) =
    true → p.typ = 0x4C → p.flags.toNat.testBit 0 = false → (s.lpe n.val).active = true → (s.lpe n.val).frame =
    p.frame.toNat → s.lpeGeom n.val = (w, hh) → p.line.toNat < hh → p.count.toNat = w → (s.lpe n.val).rows.isEmpty = false →
    exec (.cameraPacket n p) s = .next (s.begin.setLpe n.val { s.begin.lpe n.val with
      last := (p.line.toNat, s.beat),
      rows := (s.lpe n.val).rows.filter (fun r => r.1 != p.line.toNat) ++ [(p.line.toNat, p.pixels.map BitVec.toNat)] })) ∧
  -- CAMERA_PACKET (R368)
  (∀ (s : State) (n : Unit24) (p : CamPacket), s.restful = true → s.hlLive n.val = true → s.inL0 n.val = true → 2 ≤ s.get
    (HL_STAT_VERSION n.val) → p.overflow = false → camOk p = false → exec (.cameraPacket n p) s = .next (s.begin.incSat
    (HL_ERRCNT_CAMCRC n.val))) ∧
  -- CAMERA_PACKET (R368)
  (∀ (s : State) (n : Unit24) (p : CamPacket), s.hlLive n.val = true → s.inL0 n.val = true → 2 ≤ s.get (HL_STAT_VERSION
    n.val) → p.overflow = true → exec (.cameraPacket n p) s = .next (s.begin.pulse 0x02D).settle) ∧
  -- FRAME_START (R441)
  (∀ (s t : State) (c : Fin 4), s.imgRuns = true → s.flag (IMG_CTX_CTL_EN c.val) = true → t = (s.begin.ctxFrameEnd
    c.val).incWrap (IMG_CTX_FRAME_FRAME c.val) → (t.get (IMG_CTX_SLOTS_FREE c.val)).testBit ((t.ctx c.val).next % t.ctxBufs
    c.val) = true → ∀ (u : State), u = t.setCtx c.val { t.ctx c.val with port := true, portLines := 0, latched := false } →
    u.ctxDecide c.val = some [] → exec (.frameStart c) s = .next (((u.setCtx c.val { u.ctx c.val with
      cur := some {
            frame := t.get (IMG_CTX_FRAME_FRAME c.val),
            gen := t.get (IMG_CTX_STAT_GEN c.val),
            fs := t.beat48,
            slot := (t.ctx c.val).next % t.ctxBufs c.val,
            set := t.ctxSet c.val },
      next := ((t.ctx c.val).next % t.ctxBufs c.val + 1) % t.ctxBufs c.val,
      lineFirst := 0,
      lineLast := 0 }).set (IMG_CTX_SLOTS_FREE c.val) (putBit (t.get (IMG_CTX_SLOTS_FREE c.val)) ((t.ctx c.val).next %
    t.ctxBufs c.val) false)).set (IMG_CTX_STAT_ACTIVE c.val) 1).settle) ∧
  -- FRAME_START (R441)
  (∀ (s t : State) (c : Fin 4), s.imgRuns = true → s.flag (IMG_CTX_CTL_EN c.val) = true → t = (s.begin.ctxFrameEnd
    c.val).incWrap (IMG_CTX_FRAME_FRAME c.val) → (t.get (IMG_CTX_SLOTS_FREE c.val)).testBit ((t.ctx c.val).next % t.ctxBufs
    c.val) = false → exec (.frameStart c) s = .next ((t.setCtx c.val
    { t.ctx c.val with port := true, portLines := 0, latched := false }).incSat (IMG_CTX_DROP_BUFDROP c.val)).settle) ∧
  -- LINE_PACKET (R437)
  (∀ (s t : State) (c : Fin 4) (p : LinePacket) (f : ImgFrame), s.restful = true → s.imgRuns = true → s.flag (IMG_CTX_CTL_EN
    c.val) = true → p.headOk = true → (s.ctx c.val).port = true → p.vc.val = s.get (IMG_CTX_CTL_VC c.val) → p.dt.toNat =
    s.get (IMG_CTX_CTL_DT c.val) → (s.ctx c.val).latched = true → p.overflow = false → p.crcOk = true → (s.ctx c.val).cur =
    some f → f.lines.length < f.set.height → (t = s.begin.setCtx c.val { s.begin.ctx c.val with
      portLines := (s.ctx c.val).portLines + 1,
      lineFirst := if (s.ctx c.val).portLines = 0 then s.beat else (s.ctx c.val).lineFirst,
      lineLast := s.beat }) → exec (.linePacket c p) s = .next (t.setCtx c.val
    { t.ctx c.val with cur := some { f with lines := f.lines ++ [some (p.pixels.map BitVec.toNat)], bad := f.bad } })) ∧
  -- FRAME_END (R437)
  (∀ (s t : State) (c : Fin 4) (f : ImgFrame) (r : Rat), s.restful = true → s.imgRuns = true → (s.ctx c.val).port = true →
    (s.ctx c.val).latched = true → (s.ctx c.val).cur = some f → f.set.height ≤ f.lines.length → 2 ≤ (s.ctx c.val).portLines
    → (s.ctx c.val).lineFirst < (s.ctx c.val).lineLast → r = (f.set.width : Rat) * 400000000 * (((s.ctx c.val).portLines - 1
    : Nat) : Rat) / (((s.ctx c.val).lineLast - (s.ctx c.val).lineFirst : Nat) : Rat) → t = (s.begin.set (IMG_CTX_MRATE_R_C
    c.val) (roundIn (r / 1000000) s.begin.freeNext 4095)).draw → exec (.frameEnd c) s = .next ((t.setCtx c.val { s.begin.ctx
      c.val with
      port := false,
      cur := none,
      done := (s.ctx c.val).done ++ [{ f with short := false }],
      rate := some r }).set (IMG_CTX_STAT_ACTIVE c.val) 0)) ∧
  -- FRAME_END (R437)
  (∀ (s : State) (c : Fin 4), s.restful = true → s.imgRuns = true → (s.ctx c.val).port = true → (s.ctx c.val).latched = true
    → (s.ctx c.val).cur = none → exec (.frameEnd c) s = .next (s.begin.setCtx c.val
    { s.begin.ctx c.val with port := false })) ∧
  -- FRAME_COMPLETE (R448)
  (∀ (s : State) (c : Fin 4) (e : Ecc) (f : ImgFrame) (l : List ImgFrame) (a : Nat), s.imgRuns = true → (s.ctx c.val).done =
    f :: l → a = s.pair (IMG_CTX_BASE_LO_ADDR c.val) (IMG_CTX_BASE_HI_ADDR c.val) + f.slot * (64 * s.get
    (IMG_CTX_STRIDE_VALUE c.val)) → f.set.disp = true → f.set.code = false → f.set.mv = false → f.set.stat = false → exec
    (.frameComplete c e) s = .next
    (((({ s.begin.setCtx c.val { s.begin.ctx c.val with done := l } with free := s.begin.free + pixDraws }).imgWrite e
    (f.display s.begin.pixFree (a + 64 * s.get (IMG_CTX_DISPOFS_VALUE c.val)))).set (IMG_CTX_SLOTS_LASTSLOT c.val)
    f.slot).pulseLine (26 + c.val)).settle) ∧
  -- CAMERA_TRIGGER (R450)
  (∀ (s : State) (c : Fin 4), s.restful = true → s.imgRuns = true → s.flag (IMG_CTX_TRIG_TRIGEN c.val) = true → (s.ctx
    c.val).trigWait = false → s.camDue c.val = true → s.camReady c.val = true → exec (.cameraTrigger c) s = .next
    ((s.begin.camPulse c.val s.beat).illTrigger c.val s.beat)) ∧
  -- CAMERA_TRIGGER (R450)
  (∀ (s : State) (c : Fin 4), s.restful = true → s.imgRuns = true → s.flag (IMG_CTX_TRIG_TRIGEN c.val) = true → (s.ctx
    c.val).trigWait = false → s.camDue c.val = true → s.camReady c.val = false → exec (.cameraTrigger c) s = .next
    (s.begin.setCtx c.val { s.begin.ctx c.val with trigWait := true })) ∧
  -- SOFT (R450)
  (∀ (s : State) (c : Fin 4), s.restful = true → s.imgRuns = true → exec (.soft c) s = .next ((s.begin.camPulse c.val
    (s.beat + 1)).illTrigger c.val (s.beat + 1))) ∧
  -- SLOT_RELEASE (R439)
  (∀ (s : State) (c : Fin 4) (v : Word), s.restful = true → s.heldInReset 132 = false → exec (.slotRelease c v) s = .next
    (s.begin.set (IMG_CTX_SLOTS_FREE c.val) (s.get (IMG_CTX_SLOTS_FREE c.val) ||| v.toNat % 65536))) ∧
  -- CONTEXT_ENABLE (R462)
  (∀ (s u : State) (c : Fin 4) (v : Word), s.restful = true → s.heldInReset 132 = false → s.flag (IMG_CTX_CTL_EN c.val) =
    false → u = ((s.begin.ctxCtlFields c.val (v.toNat ||| 2 ^ 31)).set (IMG_CTX_CTL_CFA c.val) (bits (v.toNat ||| 2 ^ 31) 5
    4)).set (IMG_CTX_CTL_PHASE c.val) (bits (v.toNat ||| 2 ^ 31) 3 0) → u.get (IMG_CTX_CTL_CFA c.val) = s.get
    (IMG_CTX_CTL_CFA c.val) → u.get (IMG_CTX_CTL_PHASE c.val) = s.get (IMG_CTX_CTL_PHASE c.val) → exec (.contextEnable c v)
    s = .next ((((((u.ctxCommit c.val).setCtx c.val {}).set (IMG_CTX_CTL_EN c.val) 1).set (IMG_CTX_SLOTS_FREE c.val) (2 ^
    u.ctxBufs c.val - 1)).set (IMG_CTX_FRAME_FRAME c.val) 0).ctxShowRate c.val)) ∧
  -- MPR_WRITE_COMPLETE (R458)
  (∀ (s u : State) (k a : Nat) (r : List Nat), s.restful = true → s.heldInReset 132 = false → s.flag IMG_CTL_MPREN = true →
    s.mprRoom ≠ 0 → s.img.mprFar = false → (s.skz.reqs.any (fun r => r.own == some 1) = false) → (((List.range 48).map (fun
    i => (s.img.rr + i) % 48)).find? (fun k => (s.mprSource k).isSome) = some k) → s.mprSource k = some r → a = (s.pair
    IMG_MPR_BASE_LO_ADDR IMG_MPR_BASE_HI_ADDR + 32 * s.get IMG_MPR_WPTR_WPTR) % 2 ^ 40 → (s.begin.mprPop k).region a = .dram
    → (s.begin.mprPop k).sysLive = true → (s.begin.mprPop k).memSpan a (words32 r).length = true → u = ({ s.begin.mprPop k with
      img := { (s.begin.mprPop k).img with rr := (k + 1) % 48, mprFar := true },
      req := some 6,
      rst := { (s.begin.mprPop k).rst with dramFresh := false } } : State).store a (words32 r) → exec (.mprWriteComplete
    .clean) s = .next (({ u with img := { u.img with mprFar := false } }).set IMG_MPR_WPTR_WPTR ((u.get IMG_MPR_WPTR_WPTR +
    1) % u.mprSize)))

/-- With the split recorder enabled, and BUSY set or DONE set with HOLD set: FIRE, an edge of SPLIT_IN (with INEN) and a
split that falls due change nothing but that MISSED is set and SPL_MISSCNT counts one more (up to its maximum); the
due split leaves the list of those to come. -/
def Obligations.SplitWhileBusyIsMissed : Prop :=
  ∀ (s : State), s.restful = true → s.splLive = true → s.flag SPL_CTL_EN = true →
    (s.flag SPL_STAT_BUSY = true ∨ (s.flag SPL_STAT_DONE = true ∧ s.flag SPL_CTL_HOLD = true)) →
    exec .fire s = .next ((s.begin.set SPL_STAT_MISSED 1).incSat SPL_MISSCNT_COUNT) ∧
    (s.flag SPL_CTL_INEN = true → exec .splitInEdge s = .next ((s.begin.set SPL_STAT_MISSED 1).incSat SPL_MISSCNT_COUNT)) ∧
    (∀ (b id : Nat) (l : List SplitDue), s.flt.splits = ⟨b, id⟩ :: l → b ≤ s.beat →
      exec .split s =
        .next ((({ s.begin with flt := { s.begin.flt with splits := l } }).set SPL_STAT_MISSED 1).incSat SPL_MISSCNT_COUNT))

/-- For an escapement that issues a RET: with its reserved bits (and L) clear and DEPTH not 0, the PC is the top entry of
the return stack, which leaves it, and DEPTH is one less; with DEPTH 0 it takes the STACK exception at its own
address; with a reserved bit set it takes ILLEGAL. -/
def Obligations.ReturnPopsTheStack : Prop :=
  ∀ (s : State) (n : Unit24) (b : BitVec 58) (ws : List Nat), s.restful = true → ws = instrWords 0x2A (wordOf b) 0 →
    (∀ (d : Nat), s.goes n.val ws (dirty (wordOf b) 57 0) = true → s.get (ESC_SW_DEPTH n.val) = d + 1 → exec (.ret n b) s =
      .next ((((s.advanced n.val ws).setPair (ESC_RSTK_LO_VALUE n.val d) (ESC_RSTK_HI_VALUE n.val d) 0).set (ESC_SW_DEPTH n.val) d).setPc
        n.val ((s.advanced n.val ws).pair (ESC_RSTK_LO_VALUE n.val d) (ESC_RSTK_HI_VALUE n.val d)))) ∧
    (s.goes n.val ws (dirty (wordOf b) 57 0) = true → s.get (ESC_SW_DEPTH n.val) = 0 → exec (.ret n b) s =
      .next (s.begin.trap n.val exStack 0 (s.pc n.val) 0 (fullWord 0x2A (wordOf b))).settle) ∧
    (s.fetched n.val ws = true → dirty (wordOf b) 57 0 = true → exec (.ret n b) s =
      .next (s.begin.trap n.val exIllegal 0 (s.pc n.val) 0 (fullWord 0x2A (wordOf b))).settle)

/-- While the release sequence or Load runs, CONFIG_REQUEST is answered with Configuration Request Retry Status and
changes nothing else; once Load has ended (and the host block is not held in reset) it is answered normally. -/
def Obligations.ConfigurationRequestsRetryUntilLoadEnds : Prop :=
  ∀ (s : State), s.restful = true →
    ((s.rst.phase = .locking ∨ s.rst.phase = .loading) → exec .configRequest s = .next (s.begin.emit (.config true))) ∧
    (s.rst.phase = .off → s.heldInReset 139 = false → exec .configRequest s = .next (s.begin.emit (.config false)))

/-- For an escapement that issues an LDI: with F clear the next state is the advanced one with g[RD] at the immediate
(g[0] discards the write), with F set the one with f[RD] at the immediate; Z, N, C and V read as before in it. With a
reserved bit set (or L, or F and RD above 7, there being f[0] to f[7] only) it takes ILLEGAL at its own address. -/
def Obligations.LdiWritesOneRegister : Prop :=
  ∀ (s : State) (n : Unit24) (b : BitVec 58) (ws : List Nat), s.restful = true → ws = instrWords 0x30 (wordOf b) 0 →
    (s.goes n.val ws (isLong (wordOf b) || dirty (wordOf b) 55 52 || dirty (wordOf b) 46 32 ||
        (bit (wordOf b) 56 && decide (8 ≤ bits (wordOf b) 51 47))) = true →
      ∃ t : State, exec (.ldi n b) s = .next t ∧
        (bit (wordOf b) 56 = false → t = (s.advanced n.val ws).setG n.val (bits (wordOf b) 51 47) (bits (wordOf b) 31 0)) ∧
        (bit (wordOf b) 56 = true → t = (s.advanced n.val ws).setF n.val (bits (wordOf b) 51 47) (bits (wordOf b) 31 0)) ∧
        t.get (ESC_SW_Z n.val) = s.get (ESC_SW_Z n.val) ∧ t.get (ESC_SW_N n.val) = s.get (ESC_SW_N n.val) ∧
        t.get (ESC_SW_C n.val) = s.get (ESC_SW_C n.val) ∧ t.get (ESC_SW_V n.val) = s.get (ESC_SW_V n.val)) ∧
    (s.fetched n.val ws = true →
      (isLong (wordOf b) || dirty (wordOf b) 55 52 || dirty (wordOf b) 46 32 ||
        (bit (wordOf b) 56 && decide (8 ≤ bits (wordOf b) 51 47))) = true →
      exec (.ldi n b) s = .next (s.begin.trap n.val exIllegal 0 (s.pc n.val) 0 (fullWord 0x30 (wordOf b))).settle)

/-- For an escapement that issues a LOOP: with GC not 0, g[GC] takes its value less 1 modulo 2^32 (from 0 it takes 2^32 -
1, so the loop runs 2^32 times), the PC goes to PC + 8 × OFFS where that result is not 0 and to the next instruction
where it is, and Z, N, C and V read as before; with GC = 0 it takes OPERAND; with a reserved bit set it takes ILLEGAL. -/
def Obligations.LoopCountsDown : Prop :=
  ∀ (s : State) (n : Unit24) (b : BitVec 58) (ws : List Nat), s.restful = true → ws = instrWords 0x2B (wordOf b) 0 →
    (s.goes n.val ws (isLong (wordOf b) || dirty (wordOf b) 56 47 || dirty (wordOf b) 41 32) = true → bits (wordOf b) 46 42 ≠ 0 →
      ∃ t u : State, exec (.loop n b) s = .next t ∧
        u = (s.advanced n.val ws).setG n.val (bits (wordOf b) 46 42) ((s.g n.val (bits (wordOf b) 46 42) + 2 ^ 32 - 1) % 2 ^ 32) ∧
        t = (if (s.g n.val (bits (wordOf b) 46 42) + 2 ^ 32 - 1) % 2 ^ 32 = 0 then u
          else u.setPc n.val (branchTo (s.pc n.val) (bits (wordOf b) 31 0))) ∧
        t.get (ESC_SW_Z n.val) = s.get (ESC_SW_Z n.val) ∧ t.get (ESC_SW_N n.val) = s.get (ESC_SW_N n.val) ∧
        t.get (ESC_SW_C n.val) = s.get (ESC_SW_C n.val) ∧ t.get (ESC_SW_V n.val) = s.get (ESC_SW_V n.val)) ∧
    (s.goes n.val ws (isLong (wordOf b) || dirty (wordOf b) 56 47 || dirty (wordOf b) 41 32) = true → bits (wordOf b) 46 42 = 0 →
      exec (.loop n b) s = .next (s.begin.trap n.val exOperand 0 (s.pc n.val) 0 (fullWord 0x2B (wordOf b))).settle) ∧
    (s.fetched n.val ws = true →
      (isLong (wordOf b) || dirty (wordOf b) 56 47 || dirty (wordOf b) 41 32) = true →
      exec (.loop n b) s = .next (s.begin.trap n.val exIllegal 0 (s.pc n.val) 0 (fullWord 0x2B (wordOf b))).settle)

/-- For an escapement that issues a TRAP with CONT set: the PC advances and issue continues (its state stays Run),
ESC_TCODE.CODE takes the code in bits [15:0] and ESC_INT.CONT is set; where ESC_INT.CONT was already set,
ESC_TCODE.OVF is set too, and where it was clear OVF keeps its value. The interrupt line follows. -/
def Obligations.ContinuingTrapReportsAndGoesOn : Prop :=
  ∀ (s : State) (n : Unit24) (b : BitVec 58) (ws : List Nat), s.restful = true → ws = instrWords 0x2D (wordOf b) 0 →
    s.goes n.val ws (isLong (wordOf b) || dirty (wordOf b) 55 16) = true → bit (wordOf b) 56 = true →
      (s.flag (ESC_INT_CONT n.val) = false → exec (.trap n b) s = .next
        ((((s.advanced n.val ws).set (ESC_TCODE_CODE n.val) (bits (wordOf b) 15 0)).set (ESC_INT_CONT n.val) 1).escLine n.val)) ∧
      (s.flag (ESC_INT_CONT n.val) = true → exec (.trap n b) s = .next
        (((((s.advanced n.val ws).set (ESC_TCODE_OVF n.val) 1).set (ESC_TCODE_CODE n.val) (bits (wordOf b) 15 0)).set
          (ESC_INT_CONT n.val) 1).escLine n.val))

/-- While the mode is Armed or Expose and the laser ports are not held in reset, a register write of LP_CTL_nn by any
master is discarded and sets LP_STAT_nn.WERR, and one of LP_ILKCFG is discarded and sets LP_STAT_00.WERR; the write is
answered without error and nothing else changes (R246; that the answer carries no error is R9's rule for a discarded
write). -/
def Obligations.LaserPortControlLockedWhileArmed : Prop :=
  ∀ (s : State) (m : Master) (v : Word), s.restful = true → s.sysLive = true → s.armedOrExpose = true → s.heldInReset 141 = false →
    (∀ n : Unit24, exec (.registerWrite m (BitVec.ofNat 40 (0x2001300000 + 0x10 * n.val)) v) s =
      .next (((s.asks m.toNat).set (LP_STAT_WERR n.val) 1).reply m.toNat true 0)) ∧
    exec (.registerWrite m 0x2001300204 v) s = .next (((s.asks m.toNat).set (LP_STAT_WERR 0) 1).reply m.toNat true 0)

/-- For every address in register space, every access by any master that is not four bytes at a multiple of four is
answered with an error response to that master; nothing else changes (a write by the host, whose errors are logged by
the host port under R24, is stated apart: its log is the only change). -/
def Obligations.MisalignedRegisterAccessFails : Prop :=
  ∀ (s : State) (m : Master) (a : Addr) (acc : Access) (e : Ecc), s.restful = true → s.region a.toNat = .reg →
    regAccessOk a.toNat (accLen acc) = false →
    (¬ (m.toNat = 4 ∧ accWrites acc = true) → exec (.memoryAccess m a acc e) s = .next ((s.asks m.toNat).reply m.toNat false 0)) ∧
    (m.toNat = 4 ∧ accWrites acc = true →
      exec (.memoryAccess m a acc e) s = .next (((s.asks 4).hostDropped a.toNat).reply 4 false 0).settle)

/-- For every coder state in which at most 24 equal bits have passed, every payload and every number n of payload
positions: the coder sends n line bits, k of them payload (idle zeros where none are left), and takes those k off the
payload; after them at most 24 equal bits have passed again; and a receiver in the same state takes exactly those k
payload bits, each marked only by a stuffing error from before, ends in the coder's state, and leaves the line bits
that follow. -/
def Obligations.LineCodingRoundTrip : Prop :=
  ∀ (n : Nat) (c : Coder) (d : List Bool) (bad : Bool) (r : List Bool), c.run ≤ 24 →
    ∃ k : Nat, k ≤ n ∧ (Coder.send n c d).1.length = n ∧ (Coder.send n c d).2.1.run ≤ 24 ∧ (Coder.send n c d).2.2 = d.drop k ∧
      Coder.take n c bad ((Coder.send n c d).1 ++ r) =
        ((List.range k).map (fun i => (d.getD i false, bad)), (Coder.send n c d).2.1, r)

/-- Forced Halted outside the mode code 0 (the reset) becomes due with its sources, unless the mode is Halted already with
no transition and no request pending, where nothing changes. The beat on which it is due leaves the device in Halted;
where it was in another mode, the sources recorded as forcing are those due; where it was in Halted already, they are
added to those recorded, and BUSY reads 0. -/
def Obligations.ForcedHaltedOnTheNextBeat : Prop :=
  (∀ (s : State) (l : List Nat), s.modeCode ≠ 0 → (s.modeCode ≠ mHalted ∨ s.mode.trans.isSome = true ∨ s.mode.pend.isSome = true) →
    s.forceHalted l = { s with mode := { s.mode with haltDue := some (s.mode.haltDue.getD [] ++ l) } }) ∧
  (∀ (s : State) (l : List Nat), s.modeCode = mHalted → s.mode.trans = none → s.mode.pend = none → s.forceHalted l = s) ∧
  (∀ (s : State) (l : List Nat), s.mode.haltDue = some l →
    s.haltNow.modeCode = mHalted ∧ (s.modeCode ≠ mHalted → s.haltNow.mode.forcers = l) ∧
    (s.modeCode = mHalted → s.haltNow.mode.trans = none ∧ s.haltNow.get SYS_MODE_STAT_BUSY = 0))

/-- In every state, asserting the hack line for any cause leaves FLT_HACK.STATE set and no laser emitting; the collector's
reaction to a source with HACK configured, and the command ASSERT, go through this operation. -/
def Obligations.HackLineTurnsEveryLaserOff : Prop :=
  ∀ (s : State) (c : Nat), (s.hackAssert c).flag FLT_HACK_STATE = true ∧ (s.hackAssert c).lasersOff = true ∧
    (s.hackAssert c).hackHolds = true

/-- A block with FEC off opens with eight repetitions of the sync word, unscrambled, and goes on with the bits of its
flits scrambled from the seed; scrambling once more from the same state gives the bits back, however many; precoded
levels are levels again, and the receiver recovers the levels that were precoded, from every previous level. -/
def Obligations.SkeuzLineRoundTrip : Prop :=
  (∀ flits : List (List Nat), (skBlock flits).take 512 = (List.replicate 8 syncWord).flatten ∧
    scrambled ⟨0x7FFFFFFF, false, 0⟩ ((skBlock flits).drop 512) = flits.flatMap flitBits) ∧
  (∀ (c : Coder) (l : List Bool), scrambled c (scrambled c l) = l) ∧
  (∀ (y : Nat) (l : List Nat), y < 4 → (∀ x ∈ l, x < 4) →
    (∀ z ∈ precoded y l, z < 4) ∧ unprecoded y (precoded y l) = l)

end
end

