-- ==== Sys2Proof/Laws/Sparse.lean ====
section
/-! SUPPORT. What reading and writing a sparse table do to each other, and that every write keeps the canonical form. -/
namespace Sys2Proof.Machine

theorem Sparse.get_insert_same {α : Type} (d : α) (m : List (Nat × α)) (k : Nat) (v : α) :
    Sparse.get d (Sparse.insert m k v) k = v := by
  induction m with
  | nil => simp [Sparse.insert, Sparse.get]
  | cons c t ih =>
    obtain ⟨j, w⟩ := c
    unfold Sparse.insert
    split
    · simp [Sparse.get]
    · split
      · simp [Sparse.get]
      · simp [Sparse.get, *]

theorem Sparse.get_insert_ne {α : Type} (d : α) (m : List (Nat × α)) (k i : Nat) (v : α) (h : i ≠ k) :
    Sparse.get d (Sparse.insert m k v) i = Sparse.get d m i := by
  induction m with
  | nil => simp [Sparse.insert, Sparse.get, Ne.symm h]
  | cons c t ih =>
    obtain ⟨j, w⟩ := c
    unfold Sparse.insert
    split
    · simp [Sparse.get, Ne.symm h]
    · split
      · rename_i hj
        subst hj
        simp [Sparse.get, Ne.symm h]
      · simp [Sparse.get, ih]

theorem Sparse.get_erase_same {α : Type} (d : α) (m : List (Nat × α)) (k : Nat) : Sparse.get d (Sparse.erase m k) k = d := by
  induction m with
  | nil => rfl
  | cons c t ih =>
    obtain ⟨j, w⟩ := c
    unfold Sparse.erase
    split
    · exact ih
    · simp [Sparse.get, *]

theorem Sparse.get_erase_ne {α : Type} (d : α) (m : List (Nat × α)) (k i : Nat) (h : i ≠ k) :
    Sparse.get d (Sparse.erase m k) i = Sparse.get d m i := by
  induction m with
  | nil => rfl
  | cons c t ih =>
    obtain ⟨j, w⟩ := c
    unfold Sparse.erase
    split
    · rename_i hj
      subst hj
      simp [Sparse.get, Ne.symm h, ih]
    · simp [Sparse.get, ih]

/-- A key written reads as what was written. -/
theorem Sparse.get_put_same {α : Type} [DecidableEq α] (d : α) (m : List (Nat × α)) (k : Nat) (v : α) :
    Sparse.get d (Sparse.put d m k v) k = v := by
  unfold Sparse.put
  split
  · rename_i h
    rw [Sparse.get_erase_same, h]
  · exact Sparse.get_insert_same ..

/-- Another key reads as before. -/
theorem Sparse.get_put_ne {α : Type} [DecidableEq α] (d : α) (m : List (Nat × α)) (k i : Nat) (v : α) (h : i ≠ k) :
    Sparse.get d (Sparse.put d m k v) i = Sparse.get d m i := by
  unfold Sparse.put
  split
  · exact Sparse.get_erase_ne _ _ _ _ h
  · exact Sparse.get_insert_ne _ _ _ _ _ h

theorem Sparse.wfFrom_weaken {α : Type} [DecidableEq α] (d : Nat → α) (m : List (Nat × α)) (lo lo' : Option Nat)
    (hl : ∀ l, lo' = some l → ∃ k, lo = some k ∧ l ≤ k) (h : Sparse.wfFrom d lo m = true) : Sparse.wfFrom d lo' m = true := by
  cases m with
  | nil => rfl
  | cons c t =>
    obtain ⟨j, v⟩ := c
    cases lo' with
    | none => simp [Sparse.wfFrom] at h ⊢; exact ⟨h.1.2, h.2⟩
    | some l =>
      obtain ⟨k, rfl, hk⟩ := hl l rfl
      simp [Sparse.wfFrom] at h ⊢
      exact ⟨⟨by omega, h.1.2⟩, h.2⟩

theorem Sparse.wfFrom_insert {α : Type} [DecidableEq α] (d : Nat → α) (m : List (Nat × α)) (lo : Option Nat) (k : Nat) (v : α)
    (hv : v ≠ d k) (hk : ∀ l, lo = some l → l < k) (h : Sparse.wfFrom d lo m = true) :
    Sparse.wfFrom d lo (Sparse.insert m k v) = true := by
  induction m generalizing lo with
  | nil => cases lo <;> simp_all [Sparse.insert, Sparse.wfFrom]
  | cons c t ih =>
    obtain ⟨j, w⟩ := c
    unfold Sparse.insert
    split
    · rename_i hj
      cases lo <;> simp_all [Sparse.wfFrom]
    · split
      · rename_i hj
        subst hj
        cases lo <;> simp_all [Sparse.wfFrom]
      · have := ih (some j) (by intro l hl; cases hl; omega) (by cases lo <;> simp_all [Sparse.wfFrom])
        cases lo <;> simp_all [Sparse.wfFrom]

theorem Sparse.wfFrom_filter {α : Type} [DecidableEq α] (d : Nat → α) (p : Nat × α → Bool) (m : List (Nat × α)) (lo : Option Nat)
    (h : Sparse.wfFrom d lo m = true) : Sparse.wfFrom d lo (m.filter p) = true := by
  induction m generalizing lo with
  | nil => rfl
  | cons c t ih =>
    obtain ⟨j, w⟩ := c
    have ht : Sparse.wfFrom d (some j) t = true := by cases lo <;> simp_all [Sparse.wfFrom]
    rw [List.filter_cons]
    split
    · have := ih _ ht
      cases lo <;> simp_all [Sparse.wfFrom]
    · refine ih _ (Sparse.wfFrom_weaken d t (some j) lo ?_ ht)
      intro l hl
      subst hl
      exact ⟨j, rfl, by simp [Sparse.wfFrom] at h; omega⟩

theorem Sparse.erase_eq_filter {α : Type} (m : List (Nat × α)) (k : Nat) : Sparse.erase m k = m.filter (fun c => c.1 != k) := by
  induction m with
  | nil => rfl
  | cons c t ih =>
    obtain ⟨j, w⟩ := c
    unfold Sparse.erase
    by_cases hj : j = k <;> simp [hj, ih]

/-- Writing a key keeps the canonical form. -/
theorem Sparse.wf_put {α : Type} [DecidableEq α] (d : α) (m : List (Nat × α)) (k : Nat) (v : α)
    (h : Sparse.wf (fun _ => d) m = true) : Sparse.wf (fun _ => d) (Sparse.put d m k v) = true := by
  unfold Sparse.put
  split
  · rw [Sparse.erase_eq_filter]
    exact Sparse.wfFrom_filter _ _ _ _ h
  · exact Sparse.wfFrom_insert _ _ _ _ _ ‹_› (by simp) h

/-- Taking keys out of a table keeps the canonical form. -/
theorem Sparse.wf_filter {α : Type} [DecidableEq α] (d : Nat → α) (p : Nat × α → Bool) (m : List (Nat × α))
    (h : Sparse.wf d m = true) : Sparse.wf d (m.filter p) = true := Sparse.wfFrom_filter _ _ _ _ h

end Sys2Proof.Machine
end

