-- ==== Sys2Proof/Laws/Kept.lean ====
section
/-! SUPPORT. What no command touches by accident: the queue of commands, memory and the NV array. -/
namespace Sys2Proof.Machine

/-- The queue, memory and the NV array of a state. -/
def State.kept (s : State) : List Instr × List Host.Cell × List Host.Cell := (s.pending, s.mem, s.nv)

theorem State.kept_mk (a0 a1 a2 a3 a4 a5 a6 a7 a8 a9 a10 a11 a12 a13 a14 a15 a16 a17 a18 a19 a20 a21 a22 a23 a24 a25 a26 a27 a28 a29 a30 a31 a32 a33 a34 a35 a36 a37 a38 a39) : State.kept ⟨a0, a1, a2, a3, a4, a5, a6, a7, a8, a9, a10, a11, a12, a13, a14, a15, a16, a17, a18, a19, a20, a21, a22, a23, a24, a25, a26, a27, a28, a29, a30, a31, a32, a33, a34, a35, a36, a37, a38, a39⟩ = (a0, a8, a9) := rfl

theorem State.kept_eta (s : State) : (s.pending, s.mem, s.nv) = s.kept := rfl

theorem State.kept_foldl {α : Type} (f : State → α → State) (h : ∀ s x, (f s x).kept = s.kept) (l : List α) (s : State) :
    (l.foldl f s).kept = s.kept := by
  induction l generalizing s with
  | nil => rfl
  | cons x l ih => rw [List.foldl_cons, ih, h]

/-- The queue is `q`, memory and the NV array are in canonical form. -/
def Form (q : List Instr) (k : List Instr × List Host.Cell × List Host.Cell) : Prop :=
  k.1 = q ∧ Memory.wf k.2.1 = true ∧ Memory.wf k.2.2 = true

theorem Form.foldl {α : Type} {q : List Instr} (f : State → α → State) (hf : ∀ s x, Form q s.kept → Form q (f s x).kept)
    (l : List α) (s : State) (h : Form q s.kept) : Form q (l.foldl f s).kept := by
  induction l generalizing s with
  | nil => exact h
  | cons x l ih => exact ih _ (hf _ _ h)

theorem Form.fold {α β : Type} {q : List Instr} (π : β → State) (f : β → α → β)
    (hf : ∀ b x, Form q (π b).kept → Form q (π (f b x)).kept) (l : List α) (b : β) (h : Form q (π b).kept) :
    Form q (π (l.foldl f b)).kept := by
  induction l generalizing b with
  | nil => exact h
  | cons x l ih => exact ih _ (hf _ _ h)

theorem Form.same {q : List Instr} {s t : State} (e : t.kept = s.kept) (h : Form q s.kept) : Form q t.kept := by
  rw [e]; exact h

theorem Form.ite {q : List Instr} {c : Prop} [Decidable c] {s t : State} (hs : Form q s.kept) (ht : Form q t.kept) :
    Form q (if c then s else t).kept := by
  split
  · exact hs
  · exact ht

end Sys2Proof.Machine
end

