-- ==== Sys2Proof/Laws/KeptCore.lean ====
section
/-! SUPPORT. What the registers, the fault sources, the escapement state, the ports and the shared operations of the links and the dial leave of the queue, memory and the NV array (`kept`), and that what they store keeps
the canonical form (`form`). -/
namespace Sys2Proof.Machine

theorem State.set_kept (s : State) (a2 : _) (a3 : _) : (State.set s a2 a3).kept = s.kept := by
  unfold State.set; simp only [State.kept_mk, State.kept_eta]
theorem State.setPair_kept (s : State) (a2 : _) (a3 : _) (a4 : _) : (State.setPair s a2 a3 a4).kept = s.kept := by
  unfold State.setPair; simp only [State.kept_mk, State.kept_eta, State.set_kept]
theorem State.setByte_form {q : List Instr} (s : State) (a2 a3 : _) (h : Form q s.kept) : Form q (State.setByte s a2 a3).kept :=
  ⟨h.1, Sparse.wf_put _ _ _ _ h.2.1, h.2.2⟩

theorem State.writeField_kept (s : State) (a2 : _) (a3 : _) (a4 : _) : (State.writeField s a2 a3 a4).kept = s.kept := by
  unfold State.writeField; (repeat' split) <;> first | with_reducible rfl | simp only [State.kept_mk, State.kept_eta, State.set_kept] | rfl
theorem State.incSat_kept (s : State) (a2 : _) : (State.incSat s a2).kept = s.kept := by
  unfold State.incSat; (repeat' split) <;> first | with_reducible rfl | simp only [State.kept_mk, State.kept_eta, State.set_kept] | rfl
theorem State.incWrap_kept (s : State) (a2 : _) : (State.incWrap s a2).kept = s.kept := by
  unfold State.incWrap; simp only [State.kept_mk, State.kept_eta, State.set_kept]
theorem State.nvStore_form {q : List Instr} (s : State) (a2 a3 : _) (h : Form q s.kept) : Form q (State.nvStore s a2 a3).kept := by
  induction a3 generalizing s a2 with
  | nil => exact h
  | cons b t ih =>
    unfold State.nvStore
    exact ih _ _ ⟨h.1, h.2.1, Sparse.wf_put _ _ _ _ h.2.2⟩

theorem State.showPins_kept (s : State) (a2 : _) : (State.showPins s a2).kept = s.kept := by
  unfold State.showPins; simp only [State.kept_mk, State.kept_eta]
theorem State.zeroMem_form {q : List Instr} (s : State) (a2 a3 : _) (h : Form q s.kept) : Form q (State.zeroMem s a2 a3).kept :=
  ⟨h.1, Sparse.wf_filter _ _ _ h.2.1, h.2.2⟩

theorem State.reply_kept (s : State) (a2 : _) (a3 : _) (a4 : _) : (State.reply s a2 a3 a4).kept = s.kept := by
  unfold State.reply; simp only [State.kept_mk, State.kept_eta]
theorem State.commitShadow_kept (s : State) (a2 : _) (a3 : _) : (State.commitShadow s a2 a3).kept = s.kept := by
  unfold State.commitShadow; simp only [State.kept_mk, State.kept_eta]
theorem State.ballUse_kept (s : State) (a2 : _) : (State.ballUse s a2).kept = s.kept := by
  unfold State.ballUse; simp only [State.kept_mk, State.kept_eta]
theorem State.clearRc_kept (s : State) (a2 : _) : (State.clearRc s a2).kept = s.kept := by
  unfold State.clearRc; (try dsimp only); (repeat' split) <;> (repeat (first | rw [State.kept_foldl] | simp only [State.kept_mk, State.kept_eta, State.set_kept])) <;> (try intros) <;> (try dsimp only) <;> (repeat' split) <;> first | with_reducible rfl | simp only [State.kept_mk, State.kept_eta, State.kept_foldl, implies_true, State.set_kept, apply_ite State.kept, ite_self] | simp only [State.kept_mk, State.kept_eta, State.kept_foldl, implies_true, State.set_kept, apply_ite State.kept, ite_self, *] | rfl
theorem State.emit_kept (s : State) (a2 : _) : (State.emit s a2).kept = s.kept := by
  unfold State.emit; simp only [State.kept_mk, State.kept_eta]
theorem State.drivePin_kept (s : State) (a2 : _) (a3 : _) : (State.drivePin s a2 a3).kept = s.kept := by
  unfold State.drivePin; simp only [State.kept_mk, State.kept_eta, State.emit_kept, State.ballUse_kept]
theorem State.store_form {q : List Instr} (s : State) (a2 a3 : _) (h : Form q s.kept) : Form q (State.store s a2 a3).kept := by
  induction a3 generalizing s a2 with
  | nil => exact h
  | cons b t ih =>
    unfold State.store
    exact ih _ _ (State.setByte_form _ _ _ h)

theorem State.writeFields_kept (s : State) (a2 : _) (a3 : _) : (State.writeFields s a2 a3).kept = s.kept := by
  unfold State.writeFields; (repeat' split) <;> first | with_reducible rfl | simp only [State.kept_mk, State.kept_eta, State.kept_foldl, implies_true, State.writeField_kept] | rfl
theorem State.addSat_kept (s : State) (a2 : _) (a3 : _) : (State.addSat s a2 a3).kept = s.kept := by
  unfold State.addSat; simp only [State.kept_mk, State.kept_eta, State.set_kept]
theorem State.setPin_kept (s : State) (a2 : _) (a3 : _) (a4 : _) : (State.setPin s a2 a3 a4).kept = s.kept := by
  unfold State.setPin; (repeat' split) <;> first | with_reducible rfl | simp only [State.kept_mk, State.kept_eta, State.set_kept] | rfl
theorem State.draw_kept (s : State) : (State.draw s).kept = s.kept := by
  unfold State.draw; simp only [State.kept_mk, State.kept_eta]
theorem State.resetRegs_kept (s : State) (a2 : _) (a3 : _) : (State.resetRegs s a2 a3).kept = s.kept := by
  unfold State.resetRegs; simp only [State.kept_mk, State.kept_eta]
theorem State.begin_kept (s : State) : (State.begin s).kept = s.kept := by
  unfold State.begin; simp only [State.kept_mk, State.kept_eta]
theorem State.injectionHit_kept (s : State) (a2 : _) (a3 : _) : (State.injectionHit s a2 a3).kept = s.kept := by
  unfold State.injectionHit; (repeat' split) <;> first | with_reducible rfl | simp only [State.kept_mk, State.kept_eta, State.set_kept] | rfl
theorem State.trapCores_kept (s : State) : (State.trapCores s).kept = s.kept := by
  unfold State.trapCores; simp only [State.kept_mk, State.kept_eta, State.emit_kept]
theorem State.clearSrcBit_kept (s : State) (a2 : _) (a3 : _) : (State.clearSrcBit s a2 a3).kept = s.kept := by
  unfold State.clearSrcBit; (repeat' split) <;> first | with_reducible rfl | simp only [State.kept_mk, State.kept_eta, State.set_kept] | rfl
theorem State.lower_kept (s : State) (a2 : _) : (State.lower s a2).kept = s.kept := by
  unfold State.lower; simp only [State.kept_mk, State.kept_eta, State.clearSrcBit_kept]
theorem State.setSrcBit_kept (s : State) (a2 : _) (a3 : _) : (State.setSrcBit s a2 a3).kept = s.kept := by
  unfold State.setSrcBit; simp only [State.kept_mk, State.kept_eta, State.set_kept]
theorem State.calAbort_kept (s : State) : (State.calAbort s).kept = s.kept := by
  unfold State.calAbort; (repeat' split) <;> first | with_reducible rfl | simp only [State.kept_mk, State.kept_eta, State.set_kept, State.incSat_kept] | rfl
theorem State.lasersSafe_kept (s : State) : (State.lasersSafe s).kept = s.kept := by
  unfold State.lasersSafe; simp only [State.kept_mk, State.kept_eta, State.kept_foldl, implies_true, State.set_kept]
theorem State.hackAssert_kept (s : State) (a2 : _) : (State.hackAssert s a2).kept = s.kept := by
  unfold State.hackAssert; (repeat' split) <;> first | with_reducible rfl | simp only [State.kept_mk, State.kept_eta, State.emit_kept, State.set_kept, State.calAbort_kept, State.lasersSafe_kept] | rfl
theorem State.capture_kept (s : State) (a2 : _) (a3 : _) (a4 : _) (a5 : _) (a6 : _) : (State.capture s a2 a3 a4 a5 a6).kept = s.kept := by
  unfold State.capture; grind only [State.kept_mk, State.kept_eta, State.incSat_kept, State.set_kept, State.setPair_kept]
theorem State.fireReactions_kept (s : State) (a2 : _) : (State.fireReactions s a2).kept = s.kept := by
  unfold State.fireReactions; (repeat' split) <;> first | with_reducible rfl | simp only [State.kept_mk, State.kept_eta, State.hackAssert_kept, State.trapCores_kept] | rfl
theorem State.record_kept (s : State) (a2 : _) (a3 : _) (a4 : _) (a5 : _) (a6 : _) (a7 : _) (a8 : _) (a9 : _) : (State.record s a2 a3 a4 a5 a6 a7 a8 a9).kept = s.kept := by
  unfold State.record; (repeat' split) <;> first | with_reducible rfl | simp only [State.kept_mk, State.kept_eta, State.set_kept, State.incSat_kept] | rfl
theorem State.msixFire_kept (s : State) (a2 : _) : (State.msixFire s a2).kept = s.kept := by
  unfold State.msixFire; (repeat' split) <;> first | with_reducible rfl | simp only [State.kept_mk, State.kept_eta, State.emit_kept] | rfl
theorem State.refreshLine_kept (s : State) (a2 : _) : (State.refreshLine s a2).kept = s.kept := by
  unfold State.refreshLine; grind only [State.kept_mk, State.kept_eta, State.msixFire_kept, State.set_kept]
theorem State.assertSrc_kept (s : State) (a2 : _) (a3 : _) (a4 : _) : (State.assertSrc s a2 a3 a4).kept = s.kept := by
  unfold State.assertSrc; grind only [State.kept_mk, State.kept_eta, State.incSat_kept, State.hackAssert_kept, State.capture_kept, State.setSrcBit_kept, State.fireReactions_kept, State.record_kept, State.refreshLine_kept, State.injectionHit_kept]
theorem State.raise_kept (s : State) (a2 : _) (a3 : _) (a4 : _) : (State.raise s a2 a3 a4).kept = s.kept := by
  unfold State.raise; (repeat' split) <;> first | with_reducible rfl | simp only [State.kept_mk, State.kept_eta, State.setSrcBit_kept, State.assertSrc_kept] | rfl
theorem State.pulse_kept (s : State) (a2 : _) (a3 : _) : (State.pulse s a2 a3).kept = s.kept := by
  unfold State.pulse; simp only [State.kept_mk, State.kept_eta, State.lower_kept, State.raise_kept]
theorem State.modeRecord_kept (s : State) (a2 : _) : (State.modeRecord s a2).kept = s.kept := by
  unfold State.modeRecord; simp only [State.kept_mk, State.kept_eta, State.record_kept]
theorem State.pulseLine_kept (s : State) (a2 : _) : (State.pulseLine s a2).kept = s.kept := by
  unfold State.pulseLine; simp only [State.kept_mk, State.kept_eta, State.msixFire_kept]
theorem State.setEsc_kept (s : State) (a2 : _) (a3 : _) : (State.setEsc s a2 a3).kept = s.kept := by
  unfold State.setEsc; simp only [State.kept_mk, State.kept_eta]
theorem State.modEsc_kept (s : State) (a2 : _) (a3 : _) : (State.modEsc s a2 a3).kept = s.kept := by
  unfold State.modEsc; simp only [State.kept_mk, State.kept_eta, State.setEsc_kept]
theorem State.regCommit_kept (s : State) (a2 : _) : (State.regCommit s a2).kept = s.kept := by
  unfold State.regCommit; (repeat' split) <;> first | with_reducible rfl | simp only [State.kept_mk, State.kept_eta, State.set_kept, State.commitShadow_kept] | rfl
theorem State.trjCommit_kept (s : State) (a2 : _) : (State.trjCommit s a2).kept = s.kept := by
  unfold State.trjCommit; (repeat' split) <;> first | with_reducible rfl | simp only [State.kept_mk, State.kept_eta, State.set_kept, State.commitShadow_kept] | rfl
theorem State.setEscState_kept (s : State) (a2 : _) (a3 : _) : (State.setEscState s a2 a3).kept = s.kept := by
  unfold State.setEscState; (repeat' split) <;> first | with_reducible rfl | simp only [State.kept_mk, State.kept_eta, State.set_kept, State.regCommit_kept, State.trjCommit_kept] | rfl
theorem State.setPc_kept (s : State) (a2 : _) (a3 : _) : (State.setPc s a2 a3).kept = s.kept := by
  unfold State.setPc; simp only [State.kept_mk, State.kept_eta, State.setPair_kept]
theorem State.endStep_kept (s : State) (a2 : _) (a3 : _) (a4 : _) : (State.endStep s a2 a3 a4).kept = s.kept := by
  unfold State.endStep; simp only [State.kept_mk, State.kept_eta, State.modEsc_kept, State.setPair_kept, State.set_kept, State.setEscState_kept]
theorem State.resumeIssue_kept (s : State) (a2 : _) : (State.resumeIssue s a2).kept = s.kept := by
  unfold State.resumeIssue; simp only [State.kept_mk, State.kept_eta, State.setEscState_kept, State.modEsc_kept]
theorem State.endWait_kept (s : State) (a2 : _) : (State.endWait s a2).kept = s.kept := by
  unfold State.endWait; grind only [State.kept_mk, State.kept_eta, State.setPc_kept, State.endStep_kept, State.resumeIssue_kept]
theorem State.setPxyz_kept (s : State) (a2 : _) (a3 : _) (a4 : _) (a5 : _) : (State.setPxyz s a2 a3 a4 a5).kept = s.kept := by
  unfold State.setPxyz; simp only [State.kept_mk, State.kept_eta, State.set_kept]
theorem State.freePoint_kept (s : State) (a2 : _) : (State.freePoint s a2).kept = s.kept := by
  unfold State.freePoint; grind only [State.kept_mk, State.kept_eta, State.setPxyz_kept]
theorem State.setF_kept (s : State) (a2 : _) (a3 : _) (a4 : _) : (State.setF s a2 a3 a4).kept = s.kept := by
  unfold State.setF; simp only [State.kept_mk, State.kept_eta, State.set_kept]
theorem State.setQueue_kept (s : State) (a2 : _) (a3 : _) : (State.setQueue s a2 a3).kept = s.kept := by
  unfold State.setQueue; simp only [State.kept_mk, State.kept_eta, State.set_kept, State.modEsc_kept]
theorem State.trapRegs_kept (s : State) (a2 : _) (a3 : _) (a4 : _) (a5 : _) (a6 : _) (a7 : _) : (State.trapRegs s a2 a3 a4 a5 a6 a7).kept = s.kept := by
  unfold State.trapRegs; simp only [State.kept_mk, State.kept_eta, State.setPair_kept, State.set_kept]
theorem State.clearProgram_kept (s : State) (a2 : _) : (State.clearProgram s a2).kept = s.kept := by
  unfold State.clearProgram; simp only [State.kept_mk, State.kept_eta, State.kept_foldl, implies_true, State.set_kept, State.modEsc_kept, State.freePoint_kept]
theorem State.programStart_kept (s : State) (a2 : _) : (State.programStart s a2).kept = s.kept := by
  unfold State.programStart; simp only [State.kept_mk, State.kept_eta, State.setQueue_kept, State.clearProgram_kept, State.modEsc_kept, State.resumeIssue_kept, State.trjCommit_kept, State.setPc_kept]
theorem State.flushBuf_kept (s : State) (a2 : _) : (State.flushBuf s a2).kept = s.kept := by
  unfold State.flushBuf; simp only [State.kept_mk, State.kept_eta, State.set_kept, State.modEsc_kept]
theorem State.escLine_kept (s : State) (a2 : _) : (State.escLine s a2).kept = s.kept := by
  unfold State.escLine; simp only [State.kept_mk, State.kept_eta, State.refreshLine_kept]
theorem State.trap_kept (s : State) (a2 : _) (a3 : _) (a4 : _) (a5 : _) (a6 : _) (a7 : _) : (State.trap s a2 a3 a4 a5 a6 a7).kept = s.kept := by
  unfold State.trap; (repeat' split) <;> first | with_reducible rfl | simp only [State.kept_mk, State.kept_eta, State.modEsc_kept, State.setEscState_kept, State.trapRegs_kept, State.set_kept, State.pulse_kept, State.escLine_kept] | rfl
theorem State.setG_kept (s : State) (a2 : _) (a3 : _) (a4 : _) : (State.setG s a2 a3 a4).kept = s.kept := by
  unfold State.setG; (repeat' split) <;> first | with_reducible rfl | simp only [State.kept_mk, State.kept_eta, State.set_kept] | rfl
theorem State.releaseZone_kept (s : State) (a2 : _) : (State.releaseZone s a2).kept = s.kept := by
  unfold State.releaseZone; grind only [State.kept_mk, State.kept_eta, State.set_kept]
theorem State.endStretch_kept (s : State) (a2 : _) : (State.endStretch s a2).kept = s.kept := by
  unfold State.endStretch; simp only [State.kept_mk, State.kept_eta, State.setEsc_kept]
theorem State.leaveClaims_kept (s : State) (a2 : _) : (State.leaveClaims s a2).kept = s.kept := by
  unfold State.leaveClaims; simp only [State.kept_mk, State.kept_eta]
theorem State.setZoneQueue_kept (s : State) (a2 : _) (a3 : _) : (State.setZoneQueue s a2 a3).kept = s.kept := by
  unfold State.setZoneQueue; simp only [State.kept_mk, State.kept_eta]
theorem State.releaseZones_kept (s : State) (a2 : _) : (State.releaseZones s a2).kept = s.kept := by
  unfold State.releaseZones; simp only [State.kept_mk, State.kept_eta, State.kept_foldl, implies_true, State.releaseZone_kept, apply_ite State.kept, ite_self]
theorem State.releaseEveryZone_kept (s : State) : (State.releaseEveryZone s).kept = s.kept := by
  unfold State.releaseEveryZone; simp only [State.kept_mk, State.kept_eta, State.kept_foldl, implies_true, State.set_kept]
theorem State.breakStretch_kept (s : State) (a2 : _) : (State.breakStretch s a2).kept = s.kept := by
  unfold State.breakStretch; grind only [State.kept_mk, State.kept_eta, State.endStretch_kept]
theorem State.dropHold_kept (s : State) (a2 : _) : (State.dropHold s a2).kept = s.kept := by
  unfold State.dropHold; simp only [State.kept_mk, State.kept_eta, State.modEsc_kept]
theorem State.orphan_kept (s : State) (a2 : _) (a3 : _) (a4 : _) : (State.orphan s a2 a3 a4).kept = s.kept := by
  unfold State.orphan; (repeat' split) <;> first | with_reducible rfl | simp only [State.kept_mk, State.kept_eta, State.set_kept, State.pulse_kept] | rfl
theorem State.grantZone_kept (s : State) (a2 : _) (a3 : _) : (State.grantZone s a2 a3).kept = s.kept := by
  unfold State.grantZone; simp only [State.kept_mk, State.kept_eta, State.set_kept, State.endWait_kept]
theorem State.orphanAll_kept (s : State) (a2 : _) : (State.orphanAll s a2).kept = s.kept := by
  unfold State.orphanAll; (repeat' split) <;> first | with_reducible rfl | simp only [State.kept_mk, State.kept_eta, State.kept_foldl, implies_true, State.orphan_kept, State.modEsc_kept] | rfl
theorem State.calDisturb_kept (s : State) (a2 : _) : (State.calDisturb s a2).kept = s.kept := by
  unfold State.calDisturb; (repeat' split) <;> first | with_reducible rfl | simp only [State.kept_mk, State.kept_eta, State.calAbort_kept] | rfl
theorem State.setPort_kept (s : State) (a2 : _) (a3 : _) : (State.setPort s a2 a3).kept = s.kept := by
  unfold State.setPort; simp only [State.kept_mk, State.kept_eta]
theorem State.cutNote_kept (s : State) (a2 : _) (a3 : _) (a4 : _) : (State.cutNote s a2 a3 a4).kept = s.kept := by
  unfold State.cutNote; (repeat' split) <;> first | with_reducible rfl | simp only [State.kept_mk, State.kept_eta, State.set_kept] | rfl
theorem State.placeField_kept (s : State) (a2 : _) (a3 : _) (a4 : _) : (State.placeField s a2 a3 a4).kept = s.kept := by
  unfold State.placeField; simp only [State.kept_mk, State.kept_eta, State.cutNote_kept, State.setPort_kept]
theorem State.idleNote_kept (s : State) (a2 : _) : (State.idleNote s a2).kept = s.kept := by
  unfold State.idleNote; grind only [State.kept_mk, State.kept_eta]
theorem State.portRefresh_kept (s : State) (a2 : _) : (State.portRefresh s a2).kept = s.kept := by
  unfold State.portRefresh; grind only [State.kept_mk, State.kept_eta, State.set_kept, State.incWrap_kept, State.idleNote_kept]
theorem State.setDac_kept (s : State) (a2 : _) (a3 : _) : (State.setDac s a2 a3).kept = s.kept := by
  unfold State.setDac; grind only [State.kept_mk, State.kept_eta, State.idleNote_kept, State.set_kept, State.setPort_kept]
theorem State.placeEdge_kept (s : State) (a2 : _) (a3 : _) (a4 : _) : (State.placeEdge s a2 a3 a4).kept = s.kept := by
  unfold State.placeEdge; grind only [State.kept_mk, State.kept_eta, State.cutNote_kept, State.setPort_kept]
theorem State.gateOff_kept (s : State) (a2 : _) : (State.gateOff s a2).kept = s.kept := by
  unfold State.gateOff; simp only [State.kept_mk, State.kept_eta, State.portRefresh_kept, State.setPort_kept]
theorem State.ilkClear_kept (s : State) : (State.ilkClear s).kept = s.kept := by
  unfold State.ilkClear; (repeat' split) <;> first | with_reducible rfl | simp only [State.kept_mk, State.kept_eta, State.set_kept] | rfl
theorem State.countRetarget_kept (s : State) (a2 : _) : (State.countRetarget s a2).kept = s.kept := by
  unfold State.countRetarget; simp only [State.kept_mk, State.kept_eta, State.incSat_kept, State.set_kept]
theorem State.stopMotion_kept (s : State) (a2 : _) (a3 : _) : (State.stopMotion s a2 a3).kept = s.kept := by
  unfold State.stopMotion; grind only [State.kept_mk, State.kept_eta, State.setEsc_kept, State.countRetarget_kept]
theorem State.withdraw_kept (s : State) (a2 : _) : (State.withdraw s a2).kept = s.kept := by
  unfold State.withdraw; simp only [State.kept_mk, State.kept_eta]
theorem State.armEsc_kept (s : State) (a2 : _) : (State.armEsc s a2).kept = s.kept := by
  unfold State.armEsc; (repeat' split) <;> first | with_reducible rfl | simp only [State.kept_mk, State.kept_eta, State.setEscState_kept, State.modEsc_kept] | rfl
theorem State.disarmEsc_kept (s : State) (a2 : _) : (State.disarmEsc s a2).kept = s.kept := by
  unfold State.disarmEsc; (repeat' split) <;> first | with_reducible rfl | simp only [State.kept_mk, State.kept_eta, State.setEscState_kept] | rfl
theorem State.awaitWake_kept (s : State) (a2 : _) : (State.awaitWake s a2).kept = s.kept := by
  unfold State.awaitWake; grind only [State.kept_mk, State.kept_eta, State.set_kept, State.endWait_kept]
theorem State.unfreezeEsc_kept (s : State) (a2 : _) : (State.unfreezeEsc s a2).kept = s.kept := by
  unfold State.unfreezeEsc; (repeat' split) <;> first | with_reducible rfl | simp only [State.kept_mk, State.kept_eta, State.dropHold_kept, State.endStretch_kept, State.setQueue_kept, State.setEsc_kept, State.setEscState_kept, State.set_kept, State.orphanAll_kept] | rfl
theorem State.unfreezeAll_kept (s : State) : (State.unfreezeAll s).kept = s.kept := by
  unfold State.unfreezeAll; simp only [State.kept_mk, State.kept_eta, State.kept_foldl, implies_true, State.unfreezeEsc_kept]
theorem State.setDryRun_kept (s : State) : (State.setDryRun s).kept = s.kept := by
  unfold State.setDryRun; simp only [State.kept_mk, State.kept_eta, State.kept_foldl, implies_true, State.set_kept]
theorem State.cutGate_kept (s : State) (a2 : _) : (State.cutGate s a2).kept = s.kept := by
  unfold State.cutGate; simp only [State.kept_mk, State.kept_eta, State.modEsc_kept, State.gateOff_kept]
theorem State.disarmAll_kept (s : State) : (State.disarmAll s).kept = s.kept := by
  unfold State.disarmAll; simp only [State.kept_mk, State.kept_eta, State.kept_foldl, implies_true, State.disarmEsc_kept]
theorem State.armAll_kept (s : State) : (State.armAll s).kept = s.kept := by
  unfold State.armAll; simp only [State.kept_mk, State.kept_eta, State.kept_foldl, implies_true, State.armEsc_kept]
theorem State.resetTrj_kept (s : State) (a2 : _) : (State.resetTrj s a2).kept = s.kept := by
  unfold State.resetTrj; simp only [State.kept_mk, State.kept_eta, State.lower_kept, State.resetRegs_kept]
theorem State.setEvents_kept (s : State) (a2 : _) (a3 : _) : (State.setEvents s a2 a3).kept = s.kept := by
  unfold State.setEvents; simp only [State.kept_mk, State.kept_eta, State.awaitWake_kept, State.set_kept, State.modEsc_kept]
theorem State.freezeEsc_kept (s : State) (a2 : _) : (State.freezeEsc s a2).kept = s.kept := by
  unfold State.freezeEsc; grind only [State.kept_mk, State.kept_eta, State.setEscState_kept, State.leaveClaims_kept, State.withdraw_kept, State.cutGate_kept, State.modEsc_kept, State.setPair_kept, State.set_kept]
theorem State.freezeAll_kept (s : State) : (State.freezeAll s).kept = s.kept := by
  unfold State.freezeAll; simp only [State.kept_mk, State.kept_eta, State.kept_foldl, implies_true, State.freezeEsc_kept]
theorem State.stopEsc_kept (s : State) (a2 : _) : (State.stopEsc s a2).kept = s.kept := by
  unfold State.stopEsc; grind only [State.kept_mk, State.kept_eta, State.modEsc_kept, State.leaveClaims_kept, State.withdraw_kept, State.flushBuf_kept, State.stopMotion_kept, State.cutGate_kept, State.dropHold_kept, State.endStretch_kept, State.setQueue_kept, State.releaseZones_kept, State.setEscState_kept, State.set_kept, State.orphanAll_kept]
theorem State.resetEsc_kept (s : State) (a2 : _) : (State.resetEsc s a2).kept = s.kept := by
  unfold State.resetEsc; simp only [State.kept_mk, State.kept_eta, State.stopEsc_kept, State.resetRegs_kept, State.setEsc_kept, State.set_kept, State.refreshLine_kept]
theorem State.hostDropped_kept (s : State) (a2 : _) : (State.hostDropped s a2).kept = s.kept := by
  unfold State.hostDropped; (repeat' split) <;> first | with_reducible rfl | simp only [State.kept_mk, State.kept_eta, State.setPair_kept, State.pulse_kept, State.incSat_kept] | rfl
theorem State.eccFix_kept (s : State) (a2 : _) : (State.eccFix s a2).kept = s.kept := by
  unfold State.eccFix; (repeat' split) <;> first | with_reducible rfl | simp only [State.kept_mk, State.kept_eta, State.incSat_kept] | rfl
theorem State.linkFix_kept (s : State) (a2 : _) : (State.linkFix s a2).kept = s.kept := by
  unfold State.linkFix; (repeat' split) <;> first | with_reducible rfl | simp only [State.kept_mk, State.kept_eta, State.incSat_kept, State.eccFix_kept] | rfl
theorem State.freeLoad_kept (s : State) (a2 : _) : (State.freeLoad s a2).2.kept = s.kept := by
  induction a2 generalizing s with
  | zero => rfl
  | succ k ih => unfold State.freeLoad; exact (ih s.draw).trans (State.draw_kept s)

theorem State.eccFail_kept (s : State) (a2 : _) : (State.eccFail s a2).kept = s.kept := by
  unfold State.eccFail; (repeat' split) <;> first | with_reducible rfl | simp only [State.kept_mk, State.kept_eta, State.pulse_kept, State.set_kept] | rfl
theorem State.eccEvent_kept (s : State) (a2 : _) (a3 : _) : (State.eccEvent s a2 a3).kept = s.kept := by
  unfold State.eccEvent; (repeat' split) <;> first | with_reducible rfl | simp only [State.kept_mk, State.kept_eta, State.eccFail_kept, State.eccFix_kept, State.linkFix_kept] | rfl
theorem State.setStamp_kept (s : State) (a2 : _) (a3 : _) : (State.setStamp s a2 a3).kept = s.kept := by
  unfold State.setStamp; simp only [State.kept_mk, State.kept_eta, State.setPair_kept]
theorem State.dialReset_form {q : List Instr} (s : State) (h : Form q s.kept) : Form q (State.dialReset s).kept := by
  unfold State.dialReset
  cases s.dial.clear with
  | none => exact h
  | some _ =>
    have hz := State.zeroMem_form s 0x1000000000 (0x1000000000 + s.freeNext % 2 ^ 25) h
    dsimp only
    generalize s.zeroMem 0x1000000000 (0x1000000000 + s.freeNext % 2 ^ 25) = u at hz ⊢
    rw [State.kept_mk, State.kept_eta]
    generalize dialTiles.filter _ = l
    exact Form.foldl (fun (u : State) t => (u.setStamp t u.freeNext).draw)
      (fun u t hu => Form.same ((State.draw_kept _).trans (State.setStamp_kept ..)) hu) l u.draw (Form.same (State.draw_kept _) hz)

theorem State.setCell_form {q : List Instr} (s : State) (a2 : _) (a3 : _) (a4 : _) (h : Form q s.kept) : Form q (State.setCell s a2 a3 a4).kept := by
  unfold State.setCell; simp only [State.kept_mk, State.kept_eta, State.store_form, h]
theorem State.keepCell_kept (s : State) (a2 : _) (a3 : _) : (State.keepCell s a2 a3).kept = s.kept := by
  unfold State.keepCell; grind only [State.kept_mk, State.kept_eta]
theorem State.depositCell_form {q : List Instr} (s : State) (a2 : _) (a3 : _) (a4 : _) (h : Form q s.kept) : Form q (State.depositCell s a2 a3 a4).1.kept := by
  unfold State.depositCell; dsimp only; (repeat' split) <;> first | exact h | simp only [State.kept_mk, State.kept_eta, State.keepCell_kept, State.setCell_form, h]
theorem State.commitDeposit_form {q : List Instr} (s : State) (a2 a3 : _) (h : Form q s.kept) : Form q (State.commitDeposit s a2 a3).kept := by
  unfold State.commitDeposit
  generalize (if a3 then s.fwdStamp else s.stamp) = st
  generalize List.range 25 = l
  dsimp only
  have h2 : Form q (l.foldl (fun (acc : State × Bool) kk =>
      ((acc.1.depositCell a2 st kk).1, acc.2 || (acc.1.depositCell a2 st kk).2)) (s, false)).1.kept :=
    Form.fold (fun p : State × Bool => p.1) (fun (acc : State × Bool) kk =>
      ((acc.1.depositCell a2 st kk).1, acc.2 || (acc.1.depositCell a2 st kk).2))
      (fun b x hb => State.depositCell_form b.1 a2 st x hb) l (s, false) h
  generalize (l.foldl (fun (acc : State × Bool) kk =>
      ((acc.1.depositCell a2 st kk).1, acc.2 || (acc.1.depositCell a2 st kk).2)) (s, false)) = p at h2 ⊢
  rw [State.draw_kept]
  (repeat' split) <;> first | with_reducible exact h2 | (simp only [State.pulse_kept, State.incSat_kept, State.set_kept]; exact h2)

theorem State.rebaseTile_form {q : List Instr} (s : State) (a2 : _) (a3 : _) (h : Form q s.kept) : Form q (State.rebaseTile s a2 a3).kept := by
  unfold State.rebaseTile; (repeat' split) <;> first | exact h | simp +contextual only [State.kept_foldl, implies_true, Form.foldl, State.kept_mk, State.kept_eta, State.draw_kept, State.setStamp_kept, State.setCell_form, h, apply_ite State.kept, ite_self]
theorem State.dialStop_kept (s : State) : (State.dialStop s).kept = s.kept := by
  unfold State.dialStop; simp only [State.kept_mk, State.kept_eta, State.set_kept]
theorem State.dialEcc_kept (s : State) (a2 : _) : (State.dialEcc s a2).kept = s.kept := by
  unfold State.dialEcc; (repeat' split) <;> first | with_reducible rfl | simp only [State.kept_mk, State.kept_eta, State.pulse_kept, State.dialStop_kept, State.eccEvent_kept] | rfl
theorem State.dialRead_kept (s : State) (a2 : _) (a3 : _) (a4 : _) (a5 : _) : (State.dialRead s a2 a3 a4 a5).2.kept = s.kept := by
  unfold State.dialRead; (repeat' split) <;> first | with_reducible rfl | simp only [State.kept_mk, State.kept_eta, State.dialEcc_kept] | rfl
theorem State.dialClearStart_kept (s : State) : (State.dialClearStart s).kept = s.kept := by
  unfold State.dialClearStart; simp only [State.kept_mk, State.kept_eta, State.set_kept]
theorem State.dialCommit_kept (s : State) : (State.dialCommit s).kept = s.kept := by
  unfold State.dialCommit; (repeat' split) <;> first | with_reducible rfl | simp only [State.kept_mk, State.kept_eta, State.set_kept, State.commitShadow_kept] | rfl
theorem State.loseDeposit_kept (s : State) : (State.loseDeposit s).kept = s.kept := by
  unfold State.loseDeposit; simp only [State.kept_mk, State.kept_eta, State.incSat_kept]
theorem State.fwdDrop_kept (s : State) : (State.fwdDrop s).kept = s.kept := by
  unfold State.fwdDrop; simp only [State.kept_mk, State.kept_eta, State.pulse_kept, State.incSat_kept]
theorem State.dialClearDone_form {q : List Instr} (s : State) (h : Form q s.kept) : Form q (State.dialClearDone s).kept := by
  unfold State.dialClearDone
  have hz := State.zeroMem_form s 0x1000000000 0x1002000000 h
  generalize s.zeroMem 0x1000000000 0x1002000000 = u at hz ⊢
  dsimp only
  rw [State.set_kept, State.set_kept, State.kept_mk, State.kept_eta]
  exact Form.foldl (fun (u : State) t => u.setStamp t s.beat48) (fun u t hu => Form.same (State.setStamp_kept ..) hu) dialTiles u hz

theorem State.sendSlot_kept (s : State) (a2 : _) (a3 : _) (a4 : _) : (State.sendSlot s a2 a3 a4).kept = s.kept := by
  unfold State.sendSlot; simp only [State.kept_mk, State.kept_eta, State.emit_kept]
theorem State.fecCount_kept (s : State) (a2 : _) (a3 : _) : (State.fecCount s a2 a3).kept = s.kept := by
  unfold State.fecCount; (repeat' split) <;> first | with_reducible rfl | simp only [State.kept_mk, State.kept_eta, State.addSat_kept] | rfl
theorem State.sendFlit_kept (s : State) (a2 : _) (a3 : _) (a4 : _) (a5 : _) : (State.sendFlit s a2 a3 a4 a5).kept = s.kept := by
  unfold State.sendFlit; simp only [State.kept_mk, State.kept_eta, State.emit_kept]
theorem State.setSkp_kept (s : State) (a2 : _) (a3 : _) : (State.setSkp s a2 a3).kept = s.kept := by
  unfold State.setSkp; simp only [State.kept_mk, State.kept_eta]
theorem State.skPump_kept (s : State) (a2 : _) : (State.skPump s a2).kept = s.kept := by
  unfold State.skPump; simp only [State.kept_mk, State.kept_eta, State.kept_foldl, implies_true, State.sendFlit_kept, State.setSkp_kept, apply_ite State.kept, ite_self]
theorem State.skArrive_kept (s : State) (a2 : _) (a3 : _) : (State.skArrive s a2 a3).1.kept = s.kept := by
  unfold State.skArrive; grind only [State.kept_mk, State.kept_eta, State.fecCount_kept, State.incSat_kept, State.skPump_kept, State.setSkp_kept]
theorem State.skSend_kept (s : State) (a2 : _) (a3 : _) : (State.skSend s a2 a3).kept = s.kept := by
  unfold State.skSend; (repeat' split) <;> first | with_reducible rfl | simp only [State.kept_mk, State.kept_eta, State.sendFlit_kept, State.skPump_kept, State.setSkp_kept] | rfl
theorem State.skIdle_kept (s : State) (a2 : _) : (State.skIdle s a2).kept = s.kept := by
  unfold State.skIdle; simp only [State.kept_mk, State.kept_eta, State.skSend_kept, State.setSkp_kept]
theorem State.skAccept_kept (s : State) (a2 : _) (a3 : _) (a4 : _) : (State.skAccept s a2 a3 a4).1.kept = s.kept := by
  unfold State.skAccept; grind only [State.kept_mk, State.kept_eta, State.skArrive_kept, State.setSkp_kept, State.skIdle_kept]
theorem State.remoteOwn_kept (s : State) (a2 : _) : (State.remoteOwn s a2).kept = s.kept := by
  unfold State.remoteOwn; simp only [State.kept_mk, State.kept_eta]
theorem State.startAhead_kept (s : State) (a2 : _) : (State.startAhead s a2).1.kept = s.kept := by
  cases a2 with
  | none => exact State.set_kept ..
  | some d =>
    unfold State.startAhead
    dsimp only
    split
    · rfl
    · exact State.set_kept ..

theorem State.startDue_kept (s : State) (a2 : _) : (State.startDue s a2).1.kept = s.kept := by
  unfold State.startDue; simp only [State.kept_mk, State.kept_eta, State.startAhead_kept]
theorem State.skAdd_kept (s : State) (a2 : _) (a3 : _) (a4 : _) : (State.skAdd s a2 a3 a4).kept = s.kept := by
  unfold State.skAdd; simp only [State.kept_mk, State.kept_eta]
theorem State.skLate_kept (s : State) (a2 : _) (a3 : _) : (State.skLate s a2 a3).kept = s.kept := by
  unfold State.skLate; simp only [State.kept_mk, State.kept_eta, State.skAdd_kept, State.pulse_kept, State.incSat_kept, State.set_kept]
theorem State.skAhead_kept (s : State) (a2 : _) (a3 : _) (a4 : _) : (State.skAhead s a2 a3 a4).kept = s.kept := by
  unfold State.skAhead; (repeat' split) <;> first | with_reducible rfl | simp only [State.kept_mk, State.kept_eta, State.skAdd_kept, State.skLate_kept] | rfl
theorem State.skAddStart_kept (c : Nat) (p : State × Nat) : (State.skAddStart c p).kept = p.1.kept := rfl

theorem State.skSchedule_kept (s : State) (a2 a3 a4 : _) : (State.skSchedule s a2 a3 a4).kept = s.kept := by
  unfold State.skSchedule
  split
  · exact State.set_kept ..
  · split
    · split
      · exact State.set_kept ..
      · rw [State.skAddStart_kept, State.startDue_kept]
    · exact State.skAhead_kept ..

theorem State.skTree_kept (s : State) (a2 : _) (a3 : _) : (State.skTree s a2 a3).kept = s.kept := by
  unfold State.skTree; simp only [State.kept_mk, State.kept_eta, State.kept_foldl, implies_true, State.skSend_kept, apply_ite State.kept, ite_self]
theorem State.skBroadcast_kept (s : State) (a2 : _) (a3 : _) (a4 : _) : (State.skBroadcast s a2 a3 a4).kept = s.kept := by
  unfold State.skBroadcast; simp only [State.kept_mk, State.kept_eta, State.skSchedule_kept, State.skTree_kept]
theorem State.layerCheck_kept (s : State) : (State.layerCheck s).kept = s.kept := by
  unfold State.layerCheck; grind only [State.kept_mk, State.kept_eta, State.skBroadcast_kept, State.set_kept]
theorem State.reparent_kept (s : State) : (State.reparent s).kept = s.kept := by
  unfold State.reparent; grind only [State.kept_mk, State.kept_eta, State.set_kept, State.pulse_kept]
theorem State.exchangeFailed_kept (s : State) : (State.exchangeFailed s).kept = s.kept := by
  unfold State.exchangeFailed; grind only [State.kept_mk, State.kept_eta, State.reparent_kept]
theorem State.skRoute_kept (s : State) (a2 : _) : (State.skRoute s a2).kept = s.kept := by
  unfold State.skRoute; (repeat' split) <;> first | with_reducible rfl | simp only [State.kept_mk, State.kept_eta, State.skSend_kept, State.set_kept] | rfl
theorem State.skUnicast_kept (s : State) (a2 : _) (a3 : _) (a4 : _) (a5 : _) (a6 : _) (a7 : _) : (State.skUnicast s a2 a3 a4 a5 a6 a7).kept = s.kept := by
  unfold State.skUnicast; simp only [State.kept_mk, State.kept_eta, State.skRoute_kept]
theorem State.sendPiece_kept (s : State) (a2 : _) (a3 : _) (a4 : _) : (State.sendPiece s a2 a3 a4).kept = s.kept := by
  unfold State.sendPiece; simp only [State.kept_mk, State.kept_eta, State.skUnicast_kept]
theorem State.tagRequests_kept (s : State) : (State.tagRequests s).kept = s.kept := by
  unfold State.tagRequests; (try dsimp only); (repeat' split) <;> (repeat (first | rw [State.kept_foldl] | simp only [State.kept_mk, State.kept_eta, State.sendPiece_kept])) <;> (try intros) <;> (try dsimp only) <;> (repeat' split) <;> first | with_reducible rfl | simp only [State.kept_mk, State.kept_eta, State.kept_foldl, implies_true, State.sendPiece_kept, apply_ite State.kept, ite_self] | simp only [State.kept_mk, State.kept_eta, State.kept_foldl, implies_true, State.sendPiece_kept, apply_ite State.kept, ite_self, *] | rfl
theorem State.remoteDone_kept (s : State) (a2 : _) : (State.remoteDone s a2).kept = s.kept := by
  unfold State.remoteDone; (repeat' split) <;> first | with_reducible rfl | simp only [State.kept_mk, State.kept_eta, State.modEsc_kept, State.reply_kept, State.hostDropped_kept] | rfl
theorem State.pieceDone_kept (s : State) (a2 : _) (a3 : _) (a4 : _) : (State.pieceDone s a2 a3 a4).kept = s.kept := by
  unfold State.pieceDone; grind only [State.kept_mk, State.kept_eta, State.tagRequests_kept, State.remoteDone_kept]
theorem State.pieceTimeout_kept (s : State) (a2 : _) : (State.pieceTimeout s a2).kept = s.kept := by
  unfold State.pieceTimeout; (repeat' split) <;> first | with_reducible rfl | simp only [State.kept_mk, State.kept_eta, State.pieceDone_kept] | rfl
theorem State.joinReport_kept (s : State) (a2 : _) : (State.joinReport s a2).kept = s.kept := by
  unfold State.joinReport; grind only [State.kept_mk, State.kept_eta, State.skBroadcast_kept]
theorem State.remoteAbort_kept (s : State) : (State.remoteAbort s).kept = s.kept := by
  unfold State.remoteAbort; simp only [State.kept_mk, State.kept_eta, State.kept_foldl, implies_true, State.remoteDone_kept]
theorem State.skPortDown_kept (s : State) (a2 : _) : (State.skPortDown s a2).kept = s.kept := by
  unfold State.skPortDown; grind only [State.kept_mk, State.kept_eta, State.set_kept, State.setSkp_kept, State.pulse_kept, State.reparent_kept]
theorem State.unjoin_kept (s : State) : (State.unjoin s).kept = s.kept := by
  unfold State.unjoin; simp only [State.kept_mk, State.kept_eta, State.kept_foldl, implies_true, State.set_kept]
theorem State.remoteStart_kept (s : State) (a2 : _) (a3 : _) (a4 : _) (a5 : _) (a6 : _) : (State.remoteStart s a2 a3 a4 a5 a6).kept = s.kept := by
  unfold State.remoteStart; simp only [State.kept_mk, State.kept_eta, State.tagRequests_kept]
theorem State.skIdles_kept (s : State) : (State.skIdles s).kept = s.kept := by
  unfold State.skIdles; simp only [State.kept_mk, State.kept_eta, State.kept_foldl, implies_true, State.skIdle_kept, apply_ite State.kept, ite_self]
theorem State.barReport_kept (s : State) (a2 : _) (a3 : _) (a4 : _) : (State.barReport s a2 a3 a4).kept = s.kept := by
  unfold State.barReport; simp only [State.kept_mk, State.kept_eta]
theorem State.reportAct_kept (s : State) (a2 : _) (a3 : _) (a4 : _) (a5 : _) : (State.reportAct s a2 a3 a4 a5).kept = s.kept := by
  unfold State.reportAct; (repeat' split) <;> first | with_reducible rfl | simp only [State.kept_mk, State.kept_eta, State.barReport_kept, State.set_kept, State.layerCheck_kept, State.joinReport_kept] | rfl
theorem State.skReport_kept (s : State) (a2 : _) (a3 : _) (a4 : _) : (State.skReport s a2 a3 a4).kept = s.kept := by
  unfold State.skReport; (repeat' split) <;> first | with_reducible rfl | simp only [State.kept_mk, State.kept_eta, State.reportAct_kept, State.skUnicast_kept] | rfl
theorem State.buildRoutes_kept (s : State) : (State.buildRoutes s).kept = s.kept := by
  unfold State.buildRoutes; (try dsimp only); (repeat' split) <;> (repeat (first | rw [State.kept_foldl] | simp only [State.kept_mk, State.kept_eta, State.set_kept])) <;> (try intros) <;> (try dsimp only) <;> (repeat' split) <;> first | with_reducible rfl | simp only [State.kept_mk, State.kept_eta, State.kept_foldl, implies_true, State.set_kept, apply_ite State.kept, ite_self] | simp only [State.kept_mk, State.kept_eta, State.kept_foldl, implies_true, State.set_kept, apply_ite State.kept, ite_self, *] | rfl
theorem State.skForward_kept (s : State) (a2 : _) (a3 : _) (a4 : _) (a5 : _) : (State.skForward s a2 a3 a4 a5).kept = s.kept := by
  unfold State.skForward; (repeat' split) <;> first | with_reducible rfl | simp only [State.kept_mk, State.kept_eta, State.set_kept, State.skRoute_kept] | rfl
theorem State.stepBeats_kept (s : State) (a2 : _) : (State.stepBeats s a2).kept = s.kept := by
  unfold State.stepBeats; simp only [State.kept_mk, State.kept_eta, State.kept_foldl, implies_true, State.setStamp_kept, apply_ite State.kept, ite_self]
theorem State.winIssue_kept (s : State) (a2 : _) (a3 : _) (a4 : _) (a5 : _) : (State.winIssue s a2 a3 a4 a5).1.kept = s.kept := by
  unfold State.winIssue; grind only [State.kept_mk, State.kept_eta, State.remoteStart_kept]
theorem State.resetSkz_kept (s : State) : (State.resetSkz s).kept = s.kept := by
  unfold State.resetSkz; simp only [State.kept_mk, State.kept_eta, State.remoteAbort_kept, State.resetRegs_kept]

end Sys2Proof.Machine
end

