-- ==== Sys2Proof/Laws/KeptUnits.lean ====
section
/-! SUPPORT. What the units around the escapements leave of the queue, memory and the NV array (`kept`), and that what they store keeps
the canonical form (`form`). -/
namespace Sys2Proof.Machine

theorem State.setAx_kept (s : State) (a2 : _) (a3 : _) : (State.setAx s a2 a3).kept = s.kept := by
  unfold State.setAx; simp only [State.kept_mk, State.kept_eta]
theorem State.showClosed_kept (s : State) : (State.showClosed s).kept = s.kept := by
  unfold State.showClosed; simp only [State.kept_mk, State.kept_eta, State.set_kept]
theorem State.setAxState_kept (s : State) (a2 : _) (a3 : _) : (State.setAxState s a2 a3).kept = s.kept := by
  unfold State.setAxState; simp only [State.kept_mk, State.kept_eta, State.showClosed_kept, State.set_kept]
theorem State.axStop_kept (s : State) (a2 : _) (a3 : _) : (State.axStop s a2 a3).kept = s.kept := by
  unfold State.axStop; simp only [State.kept_mk, State.kept_eta, State.setAx_kept, State.setAxState_kept, State.set_kept]
theorem State.startMove_kept (s : State) (a2 : _) (a3 : _) (a4 : _) (a5 : _) (a6 : _) : (State.startMove s a2 a3 a4 a5 a6).kept = s.kept := by
  unfold State.startMove; simp only [State.kept_mk, State.kept_eta, State.set_kept, State.setAx_kept]
theorem State.axCommands_kept (s : State) (a2 : _) (a3 : _) (a4 : _) (a5 : _) (a6 : _) : (State.axCommands s a2 a3 a4 a5 a6).kept = s.kept := by
  unfold State.axCommands; grind only [State.kept_mk, State.kept_eta, State.axStop_kept, State.setAx_kept, State.setAxState_kept, State.set_kept, State.startMove_kept]
theorem State.endMove_kept (s : State) (a2 : _) : (State.endMove s a2).kept = s.kept := by
  unfold State.endMove; simp only [State.kept_mk, State.kept_eta, State.set_kept, State.setAx_kept]
theorem State.axTo_kept (s : State) (a2 : _) (a3 : _) (a4 : _) : (State.axTo s a2 a3 a4).kept = s.kept := by
  unfold State.axTo; grind only [State.kept_mk, State.kept_eta, State.axStop_kept, State.setAxState_kept, State.setAx_kept, State.endMove_kept, State.startMove_kept]
theorem State.setGen_kept (s : State) (a2 : _) (a3 : _) : (State.setGen s a2 a3).kept = s.kept := by
  unfold State.setGen; simp only [State.kept_mk, State.kept_eta]
theorem State.genStop_kept (s : State) (a2 : _) : (State.genStop s a2).kept = s.kept := by
  unfold State.genStop; (repeat' split) <;> first | with_reducible rfl | simp only [State.kept_mk, State.kept_eta, State.set_kept, State.setGen_kept] | rfl
theorem State.genSample_kept (s : State) (a2 : _) : (State.genSample s a2).2.kept = s.kept := by
  unfold State.genSample; grind only [State.kept_mk, State.kept_eta, State.genStop_kept, State.setGen_kept, State.draw_kept, State.set_kept]
theorem State.injSample_kept (s : State) (a2 : _) : (State.injSample s a2).2.kept = s.kept := by
  unfold State.injSample
  suffices h : ∀ (l : List Nat) (p : InjSum × State), (l.foldl (fun (p : InjSum × State) g =>
      let (i, t) := p
      if (t.gen g).active && t.get (BAL_INJCTL_AXIS g) == a2 then
        let (v, t1) := t.genSample g
        let fr := t1.freeNext
        let i1 := { i with total := laneAdd fr i.total v, on := true }
        (match t.get (BAL_INJCTL_POINT g) with
          | 0 => { i1 with ref := laneAdd fr i.ref v }
          | 1 => { i1 with out := laneAdd fr i.out v }
          | _ => { i1 with inp := laneAdd fr i.inp v }, t1.draw)
      else p) p).2.kept = p.2.kept from h _ _
  intro l
  induction l with
  | nil => intro p; rfl
  | cons g l ih =>
    intro p
    rw [List.foldl_cons, ih]
    have hg := State.genSample_kept p.2 g
    dsimp only
    split
    · simpa only [State.draw_kept] using hg
    · rfl

theorem State.axRef_kept (s : State) (a2 : _) (a3 : _) (a4 : _) (a5 : _) : (State.axRef s a2 a3 a4 a5).2.kept = s.kept := by
  unfold State.axRef; grind only [State.kept_mk, State.kept_eta, State.setAx_kept, State.draw_kept, State.endMove_kept]
theorem State.axTrack_kept (s : State) (a2 : _) (a3 : _) (a4 : _) : (State.axTrack s a2 a3 a4).kept = s.kept := by
  unfold State.axTrack; grind only [State.kept_mk, State.kept_eta, State.setAx_kept]
theorem State.setCap_kept (s : State) (a2 : _) (a3 : _) : (State.setCap s a2 a3).kept = s.kept := by
  unfold State.setCap; simp only [State.kept_mk, State.kept_eta]
theorem State.capOne_kept (s : State) (a2 : _) (a3 : _) : (State.capOne s a2 a3).kept = s.kept := by
  unfold State.capOne; grind only [State.kept_mk, State.kept_eta, State.setCap_kept, State.set_kept, State.incSat_kept, State.draw_kept]
theorem State.capSample_kept (s : State) (a2 : _) (a3 : _) : (State.capSample s a2 a3).kept = s.kept := by
  unfold State.capSample; simp only [State.kept_mk, State.kept_eta, State.kept_foldl, implies_true, State.capOne_kept, apply_ite State.kept, ite_self]
theorem State.axDispatch_kept (s : State) (a2 : _) (a3 : _) (a4 : _) (a5 : _) (a6 : _) : (State.axDispatch s a2 a3 a4 a5 a6).kept = s.kept := by
  unfold State.axDispatch; grind only [State.kept_mk, State.kept_eta, State.set_kept, State.setAx_kept, State.axCommands_kept, State.axTo_kept, State.incSat_kept, State.injSample_kept, State.axRef_kept, State.axTrack_kept, State.draw_kept, State.capSample_kept]
theorem State.jobDispatch_kept (s : State) (a2 : _) : (State.jobDispatch s a2).kept = s.kept := by
  unfold State.jobDispatch; (try dsimp only); (repeat' split) <;> (repeat (first | rw [State.kept_foldl] | simp only [State.kept_mk, State.kept_eta, State.axDispatch_kept])) <;> (try intros) <;> (try dsimp only) <;> (repeat' split) <;> first | with_reducible rfl | simp only [State.kept_mk, State.kept_eta, State.kept_foldl, implies_true, State.axDispatch_kept, apply_ite State.kept, ite_self] | simp only [State.kept_mk, State.kept_eta, State.kept_foldl, implies_true, State.axDispatch_kept, apply_ite State.kept, ite_self, *] | rfl
theorem State.balWord_kept (s : State) (a2 : _) (a3 : _) (a4 : _) : (State.balWord s a2 a3 a4).kept = s.kept := by
  unfold State.balWord; grind only [State.kept_mk, State.kept_eta, State.setAx_kept, State.draw_kept]
theorem State.capCheck_kept (s : State) (a2 : _) : (State.capCheck s a2).kept = s.kept := by
  unfold State.capCheck; (repeat' split) <;> first | with_reducible rfl | simp only [State.kept_mk, State.kept_eta, State.set_kept] | rfl
theorem State.axFault_kept (s : State) (a2 : _) : (State.axFault s a2).kept = s.kept := by
  unfold State.axFault; simp only [State.kept_mk, State.kept_eta, State.axStop_kept]
theorem State.axWrites_kept (s : State) (a2 : _) (a3 : _) : (State.axWrites s a2 a3).kept = s.kept := by
  unfold State.axWrites; simp only [State.kept_mk, State.kept_eta, State.setAx_kept]
theorem State.resetBal_kept (s : State) : (State.resetBal s).kept = s.kept := by
  unfold State.resetBal; simp only [State.kept_mk, State.kept_eta, State.resetRegs_kept]
theorem State.capWrite_kept (s : State) (a2 : _) (a3 : _) : (State.capWrite s a2 a3).kept = s.kept := by
  unfold State.capWrite; dsimp only; (repeat' split) <;> first | with_reducible rfl | simp only [State.kept_mk, State.kept_eta, State.kept_foldl, implies_true, State.setCap_kept] | rfl
theorem State.swapAxis_kept (s : State) (a2 : _) : (State.swapAxis s a2).kept = s.kept := by
  unfold State.swapAxis; grind only [State.kept_mk, State.kept_eta, State.set_kept, State.setAx_kept]
theorem State.capTrigger_kept (s : State) (a2 : _) (a3 : _) : (State.capTrigger s a2 a3).kept = s.kept := by
  unfold State.capTrigger; simp only [State.kept_mk, State.kept_eta, State.kept_foldl, implies_true, State.capCheck_kept, State.set_kept, State.setCap_kept, apply_ite State.kept, ite_self]
theorem State.capCtl_kept (s : State) (a2 : _) (a3 : _) : (State.capCtl s a2 a3).kept = s.kept := by
  unfold State.capCtl; simp only [State.kept_mk, State.kept_eta, State.set_kept]
theorem State.capStart_kept (s : State) (a2 : _) (a3 : _) : (State.capStart s a2 a3).kept = s.kept := by
  unfold State.capStart; simp only [State.kept_mk, State.kept_eta, State.kept_foldl, implies_true, State.capCtl_kept, State.set_kept, State.setCap_kept, State.capCheck_kept, apply_ite State.kept, ite_self]
theorem State.balOp_kept (s : State) (a2 : _) (a3 : _) (a4 : _) : (State.balOp s a2 a3 a4).kept = s.kept := by
  unfold State.balOp; (repeat' split) <;> first | with_reducible rfl | simp only [State.kept_mk, State.kept_eta, State.balWord_kept] | rfl
theorem State.capStop_kept (s : State) (a2 : _) : (State.capStop s a2).kept = s.kept := by
  unfold State.capStop; simp only [State.kept_mk, State.kept_eta, State.set_kept, State.setCap_kept]
theorem State.capEnded_kept (s : State) (a2 : _) (a3 : _) : (State.capEnded s a2 a3).kept = s.kept := by
  unfold State.capEnded; (repeat' split) <;> first | with_reducible rfl | simp only [State.kept_mk, State.kept_eta, State.setCap_kept, State.capCheck_kept, State.set_kept, State.pulse_kept, State.capStop_kept] | rfl
theorem State.injCtl_kept (s : State) (a2 : _) (a3 : _) : (State.injCtl s a2 a3).kept = s.kept := by
  unfold State.injCtl; simp only [State.kept_mk, State.kept_eta, State.set_kept]
theorem State.servoTracking_kept (s : State) (a2 : _) : (State.servoTracking s a2).kept = s.kept := by
  unfold State.servoTracking; grind only [State.kept_mk, State.kept_eta, State.capTrigger_kept, State.pulse_kept, State.set_kept, State.setAx_kept]
theorem State.approachEnd_kept (s : State) (a2 : _) : (State.approachEnd s a2).kept = s.kept := by
  unfold State.approachEnd; (repeat' split) <;> first | with_reducible rfl | simp only [State.kept_mk, State.kept_eta, State.endMove_kept] | rfl
theorem State.balRest_kept (s : State) (a2 a3 : _) : (State.balRest s a2 a3).kept = s.kept := by
  induction a3 generalizing s with
  | zero => rfl
  | succ k ih =>
    unfold State.balRest
    split
    · split
      · rfl
      · rw [ih, State.balWord_kept]
    · rfl

theorem State.axNumeric_kept (s : State) (a2 : _) (a3 : _) : (State.axNumeric s a2 a3).kept = s.kept := by
  unfold State.axNumeric; simp only [State.kept_mk, State.kept_eta, State.capTrigger_kept, State.pulse_kept, State.axFault_kept, State.set_kept]
theorem State.axOutput_kept (s : State) (a2 : _) (a3 : _) : (State.axOutput s a2 a3).kept = s.kept := by
  unfold State.axOutput; grind only [State.kept_mk, State.kept_eta, State.balRest_kept, State.set_kept, State.setAx_kept, State.draw_kept, State.incSat_kept, State.capSample_kept, State.axNumeric_kept]
theorem State.commandRelease_kept (s : State) (a2 : _) : (State.commandRelease s a2).kept = s.kept := by
  unfold State.commandRelease; dsimp only; (repeat' split) <;> first | with_reducible rfl | simp only [State.kept_mk, State.kept_eta, State.kept_foldl, implies_true, State.axOutput_kept, State.sendSlot_kept] | rfl
theorem State.axCtlWrite_kept (s : State) (a2 : _) (a3 : _) : (State.axCtlWrite s a2 a3).kept = s.kept := by
  unfold State.axCtlWrite; (repeat' split) <;> first | with_reducible rfl | simp only [State.kept_mk, State.kept_eta, State.set_kept] | rfl
theorem State.injRun_kept (s : State) (a2 : _) (a3 : _) : (State.injRun s a2 a3).kept = s.kept := by
  unfold State.injRun; grind only [State.kept_mk, State.kept_eta, State.injCtl_kept, State.capTrigger_kept, State.set_kept, State.setGen_kept]
theorem State.headFault_kept (s : State) (a2 : _) : (State.headFault s a2).kept = s.kept := by
  unfold State.headFault; simp only [State.kept_mk, State.kept_eta, State.kept_foldl, implies_true, State.axFault_kept, apply_ite State.kept, ite_self]
theorem State.axOpen_kept (s : State) (a2 : _) : (State.axOpen s a2).kept = s.kept := by
  unfold State.axOpen; (repeat' split) <;> first | with_reducible rfl | simp only [State.kept_mk, State.kept_eta, State.setAx_kept, State.set_kept] | rfl
theorem State.axClose_kept (s : State) (a2 : _) : (State.axClose s a2).kept = s.kept := by
  unfold State.axClose; (repeat' split) <;> first | with_reducible rfl | simp only [State.kept_mk, State.kept_eta, State.setAx_kept, State.set_kept] | rfl
theorem State.injStopAll_kept (s : State) : (State.injStopAll s).kept = s.kept := by
  unfold State.injStopAll; simp only [State.kept_mk, State.kept_eta, State.kept_foldl, implies_true, State.genStop_kept]
theorem State.axesOff_kept (s : State) : (State.axesOff s).kept = s.kept := by
  unfold State.axesOff; simp only [State.kept_mk, State.kept_eta, State.kept_foldl, implies_true, State.axStop_kept, apply_ite State.kept, ite_self]
theorem State.telemetryLoss_kept (s : State) (a2 : _) : (State.telemetryLoss s a2).kept = s.kept := by
  unfold State.telemetryLoss; dsimp only; (repeat' split) <;> first | with_reducible rfl | simp only [State.kept_mk, State.kept_eta, State.kept_foldl, implies_true, State.capTrigger_kept, State.headFault_kept, State.pulse_kept] | rfl
theorem State.swapRequest_kept (s : State) (a2 : _) (a3 : _) : (State.swapRequest s a2 a3).kept = s.kept := by
  unfold State.swapRequest; simp only [State.kept_mk, State.kept_eta, State.kept_foldl, implies_true, State.swapAxis_kept, apply_ite State.kept, ite_self]
theorem State.showLoop_kept (s : State) (a2 : _) (a3 : _) : (State.showLoop s a2 a3).kept = s.kept := by
  unfold State.showLoop; simp only [State.kept_mk, State.kept_eta, State.set_kept]
theorem State.setReg_kept (s : State) (a2 : _) (a3 : _) : (State.setReg s a2 a3).kept = s.kept := by
  unfold State.setReg; simp only [State.kept_mk, State.kept_eta]
theorem State.sendCode_kept (s : State) (a2 : _) (a3 : _) (a4 : _) : (State.sendCode s a2 a3 a4).kept = s.kept := by
  unfold State.sendCode; simp only [State.kept_mk, State.kept_eta, State.setReg_kept, State.setPort_kept, State.set_kept]
theorem State.regFinish_kept (s : State) (a2 : _) (a3 : _) (a4 : _) (a5 : _) (a6 : _) : (State.regFinish s a2 a3 a4 a5 a6).kept = s.kept := by
  unfold State.regFinish; grind only [State.kept_mk, State.kept_eta, State.setReg_kept, State.set_kept, State.incSat_kept, State.showLoop_kept, State.sendCode_kept]
theorem State.numericHold_kept (s : State) (a2 : _) (a3 : _) (a4 : _) (a5 : _) : (State.numericHold s a2 a3 a4 a5).kept = s.kept := by
  unfold State.numericHold; simp only [State.kept_mk, State.kept_eta, State.regFinish_kept, State.setReg_kept, State.set_kept]
theorem State.openLaw_kept (s : State) (a2 : _) (a3 : _) (a4 : _) : (State.openLaw s a2 a3 a4).kept = s.kept := by
  unfold State.openLaw; grind only [State.kept_mk, State.kept_eta, State.setReg_kept, State.regFinish_kept, State.numericHold_kept]
theorem State.regLaw_kept (s : State) (a2 : _) (a3 : _) (a4 : _) : (State.regLaw s a2 a3 a4).kept = s.kept := by
  unfold State.regLaw; grind only [State.kept_mk, State.kept_eta, State.setReg_kept, State.set_kept, State.numericHold_kept, State.regFinish_kept, State.openLaw_kept]
theorem State.showQueue_kept (s : State) (a2 : _) : (State.showQueue s a2).kept = s.kept := by
  unfold State.showQueue; simp only [State.kept_mk, State.kept_eta, State.kept_foldl, implies_true, State.set_kept]
theorem State.pushEvent_kept (s : State) (a2 : _) (a3 : _) (a4 : _) : (State.pushEvent s a2 a3 a4).kept = s.kept := by
  unfold State.pushEvent; grind only [State.kept_mk, State.kept_eta, State.pulse_kept, State.set_kept, State.incSat_kept, State.showQueue_kept, State.setReg_kept, State.setEvents_kept]
theorem State.fallback_kept (s : State) (a2 : _) (a3 : _) : (State.fallback s a2 a3).kept = s.kept := by
  unfold State.fallback; simp only [State.kept_mk, State.kept_eta, State.setReg_kept, State.pulse_kept, State.set_kept, State.pushEvent_kept]
theorem State.idleLaw_kept (s : State) (a2 : _) (a3 : _) : (State.idleLaw s a2 a3).kept = s.kept := by
  unfold State.idleLaw; simp only [State.kept_mk, State.kept_eta, State.showLoop_kept, State.sendCode_kept, State.setReg_kept]
theorem State.showBkg_kept (s : State) (a2 : _) : (State.showBkg s a2).kept = s.kept := by
  unfold State.showBkg; simp only [State.kept_mk, State.kept_eta, State.set_kept]
theorem State.regTrack_kept (s : State) (a2 : _) (a3 : _) : (State.regTrack s a2 a3).kept = s.kept := by
  unfold State.regTrack; simp only [State.kept_mk, State.kept_eta, State.showBkg_kept, State.setReg_kept]
theorem State.popEvent_kept (s : State) (a2 : _) : (State.popEvent s a2).kept = s.kept := by
  unfold State.popEvent; grind only [State.kept_mk, State.kept_eta, State.showQueue_kept, State.setReg_kept]
theorem State.loopRequest_kept (s : State) (a2 : _) (a3 : _) : (State.loopRequest s a2 a3).kept = s.kept := by
  unfold State.loopRequest; (repeat' split) <;> first | with_reducible rfl | simp only [State.kept_mk, State.kept_eta, State.setReg_kept] | rfl
theorem State.checkFallback_kept (s : State) (a2 : _) : (State.checkFallback s a2).kept = s.kept := by
  unfold State.checkFallback; grind only [State.kept_mk, State.kept_eta, State.setReg_kept]
theorem State.fallNow_kept (s : State) (a2 : _) : (State.fallNow s a2).kept = s.kept := by
  unfold State.fallNow; (repeat' split) <;> first | with_reducible rfl | simp only [State.kept_mk, State.kept_eta, State.fallback_kept] | rfl
theorem State.closeEvent_kept (s : State) (a2 : _) (a3 : _) : (State.closeEvent s a2 a3).kept = s.kept := by
  unfold State.closeEvent; (repeat' split) <;> first | with_reducible rfl | simp only [State.kept_mk, State.kept_eta, State.pushEvent_kept, State.setReg_kept] | rfl
theorem State.eventTick_kept (s : State) (a2 : _) (a3 : _) (a4 : _) (a5 : _) (a6 : _) (a7 : _) : (State.eventTick s a2 a3 a4 a5 a6 a7).kept = s.kept := by
  unfold State.eventTick; grind only [State.kept_mk, State.kept_eta, State.setReg_kept, State.closeEvent_kept]
theorem State.regEvents_kept (s : State) (a2 : _) (a3 : _) (a4 : _) (a5 : _) (a6 : _) : (State.regEvents s a2 a3 a4 a5 a6).kept = s.kept := by
  unfold State.regEvents; (repeat' split) <;> first | with_reducible rfl | simp only [State.kept_mk, State.kept_eta, State.setReg_kept, State.eventTick_kept] | rfl
theorem State.pdTriple_kept (s : State) (a2 : _) (a3 : _) (a4 : _) (a5 : _) : (State.pdTriple s a2 a3 a4 a5).kept = s.kept := by
  unfold State.pdTriple; grind only [State.kept_mk, State.kept_eta, State.setReg_kept, State.set_kept]
theorem State.closeEvents_kept (s : State) (a2 : _) : (State.closeEvents s a2).kept = s.kept := by
  unfold State.closeEvents; simp only [State.kept_mk, State.kept_eta, State.closeEvent_kept]
theorem State.closeAll_kept (s : State) : (State.closeAll s).kept = s.kept := by
  unfold State.closeAll; simp only [State.kept_mk, State.kept_eta, State.kept_foldl, implies_true, State.closeEvents_kept, apply_ite State.kept, ite_self]
theorem State.handBack_kept (s : State) (a2 : _) : (State.handBack s a2).kept = s.kept := by
  unfold State.handBack; grind only [State.kept_mk, State.kept_eta, State.showLoop_kept, State.setReg_kept]
theorem State.regProgramStart_kept (s : State) (a2 : _) : (State.regProgramStart s a2).kept = s.kept := by
  unfold State.regProgramStart; simp only [State.kept_mk, State.kept_eta, State.showLoop_kept, State.regCommit_kept, State.showBkg_kept, State.setReg_kept]
theorem State.resetReg_kept (s : State) (a2 : _) : (State.resetReg s a2).kept = s.kept := by
  unfold State.resetReg; simp only [State.kept_mk, State.kept_eta, State.resetRegs_kept, State.setReg_kept]
theorem State.stretchTick_kept (s : State) (a2 : _) : (State.stretchTick s a2).kept = s.kept := by
  unfold State.stretchTick; grind only [State.kept_mk, State.kept_eta, State.regCommit_kept, State.setReg_kept]
theorem State.regTick_kept (s : State) (a2 : _) (a3 : _) : (State.regTick s a2 a3).kept = s.kept := by
  unfold State.regTick; grind only [State.kept_mk, State.kept_eta, State.handBack_kept, State.fallNow_kept, State.set_kept, State.setReg_kept, State.stretchTick_kept, State.draw_kept, State.idleLaw_kept, State.regLaw_kept, State.regEvents_kept, State.regTrack_kept, State.checkFallback_kept]
theorem State.setHl_kept (s : State) (a2 : _) (a3 : _) : (State.setHl s a2 a3).kept = s.kept := by
  unfold State.setHl; simp only [State.kept_mk, State.kept_eta]
theorem State.modHl_kept (s : State) (a2 : _) (a3 : _) : (State.modHl s a2 a3).kept = s.kept := by
  unfold State.modHl; simp only [State.kept_mk, State.kept_eta, State.setHl_kept]
theorem State.hlSvcSlot_kept (s : State) (a2 : _) (a3 : _) : (State.hlSvcSlot s a2 a3).kept = s.kept := by
  unfold State.hlSvcSlot; simp only [State.kept_mk, State.kept_eta, State.sendSlot_kept, State.modHl_kept]
theorem State.hlSvcSend_kept (s : State) (a2 : _) (a3 : _) : (State.hlSvcSend s a2 a3).kept = s.kept := by
  unfold State.hlSvcSend; simp only [State.kept_mk, State.kept_eta, State.hlSvcSlot_kept, State.modHl_kept]
theorem State.hlSvcPump_kept (s : State) (a2 : _) : (State.hlSvcPump s a2).kept = s.kept := by
  unfold State.hlSvcPump; grind only [State.kept_mk, State.kept_eta, State.hlSvcSend_kept, State.setHl_kept]
theorem State.hlSvcQueue_kept (s : State) (a2 : _) (a3 : _) : (State.hlSvcQueue s a2 a3).kept = s.kept := by
  unfold State.hlSvcQueue; simp only [State.kept_mk, State.kept_eta, State.hlSvcPump_kept, State.modHl_kept]
theorem State.hlExchange_kept (s : State) (a2 : _) : (State.hlExchange s a2).kept = s.kept := by
  unfold State.hlExchange; simp only [State.kept_mk, State.kept_eta, State.hlSvcQueue_kept, State.modHl_kept]
theorem State.hlAskL1_kept (s : State) (a2 : _) : (State.hlAskL1 s a2).kept = s.kept := by
  unfold State.hlAskL1; (repeat' split) <;> first | with_reducible rfl | simp only [State.kept_mk, State.kept_eta, State.hlSvcQueue_kept, State.modHl_kept] | rfl
theorem State.hlPower_kept (s : State) (a2 : _) (a3 : _) (a4 : _) : (State.hlPower s a2 a3 a4).kept = s.kept := by
  unfold State.hlPower; simp only [State.kept_mk, State.kept_eta, State.set_kept]
theorem State.hlLeaveL0_kept (s : State) (a2 : _) : (State.hlLeaveL0 s a2).kept = s.kept := by
  unfold State.hlLeaveL0; (repeat' split) <;> first | with_reducible rfl | simp only [State.kept_mk, State.kept_eta, State.headFault_kept, State.setEvents_kept] | rfl
theorem State.hlTo_kept (s : State) (a2 : _) (a3 : _) : (State.hlTo s a2 a3).kept = s.kept := by
  unfold State.hlTo; (repeat' split) <;> first | with_reducible rfl | simp only [State.kept_mk, State.kept_eta, State.hlLeaveL0_kept, State.set_kept, State.modHl_kept] | rfl
theorem State.hlL0Check_kept (s : State) (a2 : _) : (State.hlL0Check s a2).kept = s.kept := by
  unfold State.hlL0Check; grind only [State.kept_mk, State.kept_eta, State.hlPower_kept, State.set_kept, State.modHl_kept, State.hlTo_kept]
theorem State.hlTrnOut_kept (s : State) (a2 : _) (a3 : _) (a4 : _) : (State.hlTrnOut s a2 a3 a4).kept = s.kept := by
  unfold State.hlTrnOut; simp only [State.kept_mk, State.kept_eta, State.sendSlot_kept]
theorem State.hlSendTrn_kept (s : State) (a2 : _) : (State.hlSendTrn s a2).kept = s.kept := by
  unfold State.hlSendTrn; simp only [State.kept_mk, State.kept_eta, State.hlTrnOut_kept]
theorem State.hlSlotBad_kept (s : State) (a2 : _) (a3 : _) : (State.hlSlotBad s a2 a3).kept = s.kept := by
  unfold State.hlSlotBad; (repeat' split) <;> first | with_reducible rfl | simp only [State.kept_mk, State.kept_eta, State.incSat_kept, State.set_kept] | rfl
theorem State.hlIdle_kept (s : State) (a2 : _) (a3 : _) : (State.hlIdle s a2 a3).kept = s.kept := by
  unfold State.hlIdle; simp only [State.kept_mk, State.kept_eta, State.modHl_kept, State.set_kept, State.hlPower_kept, State.hlTo_kept]
theorem State.hlFail_kept (s : State) (a2 : _) (a3 : _) : (State.hlFail s a2 a3).kept = s.kept := by
  unfold State.hlFail; simp only [State.kept_mk, State.kept_eta, State.pulse_kept, State.set_kept, State.hlIdle_kept]
theorem State.hlNegotiate_kept (s : State) (a2 : _) (a3 : _) : (State.hlNegotiate s a2 a3).kept = s.kept := by
  unfold State.hlNegotiate; grind only [State.kept_mk, State.kept_eta, State.hlFail_kept, State.modHl_kept, State.set_kept, State.hlPower_kept, State.hlTo_kept]
theorem State.hlTrnSlot_kept (s : State) (a2 : _) (a3 : _) : (State.hlTrnSlot s a2 a3).kept = s.kept := by
  unfold State.hlTrnSlot; simp only [State.kept_mk, State.kept_eta, State.kept_foldl, implies_true, State.hlSendTrn_kept, State.modHl_kept, State.hlSlotBad_kept, State.set_kept, State.hlNegotiate_kept, State.setHl_kept, apply_ite State.kept, ite_self]
theorem State.hlRateSwitch_kept (s : State) (a2 : _) : (State.hlRateSwitch s a2).kept = s.kept := by
  unfold State.hlRateSwitch; (repeat' split) <;> first | with_reducible rfl | simp only [State.kept_mk, State.kept_eta, State.set_kept, State.hlTo_kept] | rfl
theorem State.hlWakeDown_kept (s : State) (a2 : _) : (State.hlWakeDown s a2).kept = s.kept := by
  unfold State.hlWakeDown; grind only [State.kept_mk, State.kept_eta, State.set_kept, State.hlTo_kept]
theorem State.hlWake_kept (s : State) (a2 : _) : (State.hlWake s a2).kept = s.kept := by
  unfold State.hlWake; (repeat' split) <;> first | with_reducible rfl | simp only [State.kept_mk, State.kept_eta, State.hlWakeDown_kept, State.modHl_kept, State.hlPower_kept] | rfl
theorem State.hlCfgSlot_kept (s : State) (a2 : _) (a3 : _) : (State.hlCfgSlot s a2 a3).kept = s.kept := by
  unfold State.hlCfgSlot; simp only [State.kept_mk, State.kept_eta, State.sendSlot_kept, State.modHl_kept]
theorem State.hlCfgPump_kept (s : State) (a2 a3 : _) : (State.hlCfgPump s a2 a3).kept = s.kept := by
  induction a3 generalizing s with
  | zero => rfl
  | succ k ih =>
    unfold State.hlCfgPump
    dsimp only
    split
    · split
      · rfl
      · rw [ih, State.hlCfgSlot_kept, State.setHl_kept]
    · rfl

theorem State.hlTime_kept (s : State) (a2 : _) : (State.hlTime s a2).kept = s.kept := by
  unfold State.hlTime; simp only [State.kept_mk, State.kept_eta, State.set_kept, State.hlTo_kept, State.modHl_kept, State.hlExchange_kept, State.hlCfgPump_kept]
theorem State.hlEqDone_kept (s : State) (a2 : _) : (State.hlEqDone s a2).kept = s.kept := by
  unfold State.hlEqDone; grind only [State.kept_mk, State.kept_eta, State.hlTime_kept, State.set_kept, State.draw_kept, State.hlTrnOut_kept]
theorem State.hlDetect_kept (s : State) (a2 : _) : (State.hlDetect s a2).kept = s.kept := by
  unfold State.hlDetect; simp only [State.kept_mk, State.kept_eta, State.modHl_kept, State.set_kept, State.hlPower_kept, State.hlTo_kept]
theorem State.hlTrain_kept (s : State) (a2 : _) : (State.hlTrain s a2).kept = s.kept := by
  unfold State.hlTrain; simp only [State.kept_mk, State.kept_eta, State.set_kept, State.modHl_kept, State.hlDetect_kept]
theorem State.hlEnable_kept (s : State) (a2 : _) : (State.hlEnable s a2).kept = s.kept := by
  unfold State.hlEnable; grind only [State.kept_mk, State.kept_eta, State.set_kept, State.hlTrain_kept]
theorem State.hlRest_kept (s : State) : (State.hlRest s).kept = s.kept := by
  unfold State.hlRest; simp only [State.kept_mk, State.kept_eta, State.kept_foldl, implies_true, State.hlPower_kept, State.hlTo_kept, State.hlIdle_kept, apply_ite State.kept, ite_self]
theorem State.hlSvcGo_kept (s : State) (a2 : _) (a3 : _) : (State.hlSvcGo s a2 a3).kept = s.kept := by
  unfold State.hlSvcGo; (repeat' split) <;> first | with_reducible rfl | simp only [State.kept_mk, State.kept_eta, State.set_kept, State.hlSvcQueue_kept] | rfl
theorem State.hlFclr_kept (s : State) (a2 : _) : (State.hlFclr s a2).kept = s.kept := by
  unfold State.hlFclr; (repeat' split) <;> first | with_reducible rfl | simp only [State.kept_mk, State.kept_eta, State.hlSvcSlot_kept] | rfl
theorem State.hlSvcEnd_kept (s : State) (a2 : _) : (State.hlSvcEnd s a2).kept = s.kept := by
  unfold State.hlSvcEnd; simp only [State.kept_mk, State.kept_eta, State.hlSvcPump_kept, State.modHl_kept]
theorem State.hlResp_kept (s : State) (a2 : _) (a3 : _) : (State.hlResp s a2 a3).kept = s.kept := by
  unfold State.hlResp; (repeat' split) <;> first | with_reducible rfl | simp only [State.kept_mk, State.kept_eta, State.kept_foldl, implies_true, State.hlSlotBad_kept, State.set_kept, State.hlSvcEnd_kept] | rfl
theorem State.hlRetrain_kept (s : State) (a2 : _) : (State.hlRetrain s a2).kept = s.kept := by
  unfold State.hlRetrain; (repeat' split) <;> first | with_reducible rfl | simp only [State.kept_mk, State.kept_eta, State.hlTrain_kept] | rfl
theorem State.hlL1Req_kept (s : State) (a2 : _) : (State.hlL1Req s a2).kept = s.kept := by
  unfold State.hlL1Req; (repeat' split) <;> first | with_reducible rfl | simp only [State.kept_mk, State.kept_eta, State.hlAskL1_kept] | rfl
theorem State.hlCfgSend_kept (s : State) (a2 : _) (a3 : _) (a4 : _) : (State.hlCfgSend s a2 a3 a4).kept = s.kept := by
  unfold State.hlCfgSend; simp only [State.kept_mk, State.kept_eta, State.hlCfgPump_kept, State.modHl_kept]
theorem State.hlPmUpdate_kept (s : State) (a2 : _) : (State.hlPmUpdate s a2).kept = s.kept := by
  unfold State.hlPmUpdate; grind only [State.kept_mk, State.kept_eta, State.hlCfgSend_kept, State.hlWakeDown_kept, State.modHl_kept]
theorem State.hlCtlWrite_kept (s : State) (a2 : _) (a3 : _) : (State.hlCtlWrite s a2 a3).kept = s.kept := by
  unfold State.hlCtlWrite; grind only [State.kept_mk, State.kept_eta, State.set_kept, State.writeFields_kept, State.hlEnable_kept, State.hlIdle_kept, State.hlRetrain_kept, State.hlWake_kept, State.hlL1Req_kept, State.hlPmUpdate_kept]
theorem State.hlTrainAll_kept (s : State) : (State.hlTrainAll s).kept = s.kept := by
  unfold State.hlTrainAll; simp only [State.kept_mk, State.kept_eta, State.kept_foldl, implies_true, State.hlTrain_kept, apply_ite State.kept, ite_self]
theorem State.hlAllOff_kept (s : State) : (State.hlAllOff s).kept = s.kept := by
  unfold State.hlAllOff; simp only [State.kept_mk, State.kept_eta, State.kept_foldl, implies_true, State.hlIdle_kept, apply_ite State.kept, ite_self]
theorem State.hlL0s_kept (s : State) (a2 : _) : (State.hlL0s s a2).kept = s.kept := by
  unfold State.hlL0s; grind only [State.kept_mk, State.kept_eta, State.set_kept, State.hlTo_kept, State.hlSvcSlot_kept]
theorem State.hlTimeout_kept (s : State) (a2 : _) : (State.hlTimeout s a2).kept = s.kept := by
  unfold State.hlTimeout; grind only [State.kept_mk, State.kept_eta, State.hlNegotiate_kept, State.set_kept, State.modHl_kept, State.incSat_kept, State.hlFail_kept, State.hlDetect_kept]
theorem State.hlLoss_kept (s : State) (a2 : _) : (State.hlLoss s a2).kept = s.kept := by
  unfold State.hlLoss; grind only [State.kept_mk, State.kept_eta, State.set_kept, State.pulse_kept, State.hlDetect_kept, State.hlIdle_kept]
theorem State.hlPmAll_kept (s : State) : (State.hlPmAll s).kept = s.kept := by
  unfold State.hlPmAll; simp only [State.kept_mk, State.kept_eta, State.kept_foldl, implies_true, State.hlPmUpdate_kept]
theorem State.rateWrite_kept (s : State) (a2 : _) : (State.rateWrite s a2).kept = s.kept := by
  unfold State.rateWrite; simp only [State.kept_mk, State.kept_eta, State.kept_foldl, implies_true, State.set_kept, State.hlTime_kept, apply_ite State.kept, ite_self]
theorem State.hlPm_kept (s : State) (a2 : _) (a3 : _) : (State.hlPm s a2 a3).kept = s.kept := by
  unfold State.hlPm; grind only [State.kept_mk, State.kept_eta, State.hlSlotBad_kept, State.set_kept, State.hlTo_kept, State.hlSvcEnd_kept, State.modHl_kept, State.hlPower_kept]
theorem State.hlWakeDetect_kept (s : State) (a2 : _) : (State.hlWakeDetect s a2).kept = s.kept := by
  unfold State.hlWakeDetect; grind only [State.kept_mk, State.kept_eta, State.set_kept, State.hlTo_kept, State.hlWake_kept]
theorem State.resetHl_kept (s : State) (a2 : _) : (State.resetHl s a2).kept = s.kept := by
  unfold State.resetHl; simp only [State.kept_mk, State.kept_eta, State.lower_kept, State.hlIdle_kept, State.resetRegs_kept, State.setHl_kept]
theorem State.hlPdSlot_kept (s : State) (a2 : _) (a3 : _) : (State.hlPdSlot s a2 a3).kept = s.kept := by
  unfold State.hlPdSlot; (repeat' split) <;> first | with_reducible rfl | simp only [State.kept_mk, State.kept_eta, State.pulse_kept, State.hlSlotBad_kept, State.pdTriple_kept] | rfl
theorem State.hlCfgResend_kept (s : State) (a2 : _) : (State.hlCfgResend s a2).kept = s.kept := by
  unfold State.hlCfgResend; dsimp only; (repeat' split) <;> first | with_reducible rfl | simp only [State.kept_mk, State.kept_eta, State.kept_foldl, implies_true, State.hlCfgSlot_kept, State.setHl_kept] | rfl
theorem State.hlTresp_kept (s : State) (a2 : _) (a3 : _) : (State.hlTresp s a2 a3).kept = s.kept := by
  unfold State.hlTresp; (try dsimp only); (repeat' split) <;> (repeat (first | rw [State.kept_foldl] | simp only [State.kept_mk, State.kept_eta, State.hlSlotBad_kept, State.modHl_kept, State.set_kept, State.hlSvcSlot_kept, State.incWrap_kept, State.hlExchange_kept, State.hlL0Check_kept, State.hlSvcPump_kept, State.pulse_kept, State.hlSvcEnd_kept])) <;> (try intros) <;> (try dsimp only) <;> (repeat' split) <;> first | with_reducible rfl | simp only [State.kept_mk, State.kept_eta, State.kept_foldl, implies_true, State.hlSlotBad_kept, State.modHl_kept, State.set_kept, State.hlSvcSlot_kept, State.incWrap_kept, State.hlExchange_kept, State.hlL0Check_kept, State.hlSvcPump_kept, State.pulse_kept, State.hlSvcEnd_kept, apply_ite State.kept, ite_self] | simp only [State.kept_mk, State.kept_eta, State.kept_foldl, implies_true, State.hlSlotBad_kept, State.modHl_kept, State.set_kept, State.hlSvcSlot_kept, State.incWrap_kept, State.hlExchange_kept, State.hlL0Check_kept, State.hlSvcPump_kept, State.pulse_kept, State.hlSvcEnd_kept, apply_ite State.kept, ite_self, *] | rfl
theorem State.hlTrackTime_kept (s : State) (a2 : _) : (State.hlTrackTime s a2).kept = s.kept := by
  unfold State.hlTrackTime; grind only [State.kept_mk, State.kept_eta, State.hlExchange_kept]
theorem State.hlSvcRetry_kept (s : State) (a2 : _) : (State.hlSvcRetry s a2).kept = s.kept := by
  unfold State.hlSvcRetry; (repeat' split) <;> first | with_reducible rfl | simp only [State.kept_mk, State.kept_eta, State.hlSvcSend_kept, State.set_kept, State.modHl_kept, State.hlSvcEnd_kept] | rfl
theorem State.hlCfgAck_kept (s : State) (a2 : _) (a3 : _) : (State.hlCfgAck s a2 a3).kept = s.kept := by
  unfold State.hlCfgAck; grind only [State.kept_mk, State.kept_eta, State.hlCfgPump_kept, State.setHl_kept]
theorem State.hlHfault_kept (s : State) (a2 : _) (a3 : _) : (State.hlHfault s a2 a3).kept = s.kept := by
  unfold State.hlHfault; (repeat' split) <;> first | with_reducible rfl | simp only [State.kept_mk, State.kept_eta, State.headFault_kept, State.raise_kept, State.set_kept, State.lower_kept] | rfl
theorem State.hlTlmSlot_kept (s : State) (a2 : _) (a3 : _) : (State.hlTlmSlot s a2 a3).kept = s.kept := by
  unfold State.hlTlmSlot; simp only [State.kept_mk, State.kept_eta, State.kept_foldl, implies_true, State.pulse_kept, State.modHl_kept, State.hlSlotBad_kept, State.hlCfgAck_kept, State.hlL0Check_kept, State.hlTo_kept, State.set_kept, State.incSat_kept, State.hlHfault_kept, State.hlFclr_kept, apply_ite State.kept, ite_self]
theorem State.hlEqStep_kept (s : State) (a2 : _) (a3 : _) : (State.hlEqStep s a2 a3).kept = s.kept := by
  unfold State.hlEqStep; grind only [State.kept_mk, State.kept_eta, State.modHl_kept, State.set_kept]
theorem State.imgWrite_kept (s : State) (a2 : _) (a3 : _) : (State.imgWrite s a2 a3).kept = s.kept := by
  unfold State.imgWrite; simp only [State.kept_mk, State.kept_eta]
theorem State.setLpe_kept (s : State) (a2 : _) (a3 : _) : (State.setLpe s a2 a3).kept = s.kept := by
  unfold State.setLpe; simp only [State.kept_mk, State.kept_eta]
theorem State.lpeCtlWrite_kept (s : State) (a2 : _) (a3 : _) : (State.lpeCtlWrite s a2 a3).kept = s.kept := by
  unfold State.lpeCtlWrite; grind only [State.kept_mk, State.kept_eta, State.set_kept, State.setLpe_kept]
theorem State.mprPop_kept (s : State) (a2 : _) : (State.mprPop s a2).kept = s.kept := by
  unfold State.mprPop; (repeat' split) <;> first | with_reducible rfl | simp only [State.kept_mk, State.kept_eta, State.popEvent_kept] | rfl
theorem State.mprWrite_kept (s : State) (a2 : _) : (State.mprWrite s a2).kept = s.kept := by
  unfold State.mprWrite; dsimp only; (repeat' split) <;> first | with_reducible rfl | simp only [State.kept_mk, State.kept_eta, State.kept_foldl, implies_true, State.mprPop_kept] | rfl
theorem State.mprEnded_kept (s : State) (a2 : _) : (State.mprEnded s a2).kept = s.kept := by
  unfold State.mprEnded; (repeat' split) <;> first | with_reducible rfl | simp only [State.kept_mk, State.kept_eta, State.set_kept, State.pulse_kept] | rfl
theorem State.ctxCommit_kept (s : State) (a2 : _) : (State.ctxCommit s a2).kept = s.kept := by
  unfold State.ctxCommit; simp only [State.kept_mk, State.kept_eta, State.set_kept, State.commitShadow_kept]
theorem State.setCtx_kept (s : State) (a2 : _) (a3 : _) : (State.setCtx s a2 a3).kept = s.kept := by
  unfold State.setCtx; simp only [State.kept_mk, State.kept_eta]
theorem State.ctxLatch_kept (s : State) (a2 : _) : (State.ctxLatch s a2).kept = s.kept := by
  unfold State.ctxLatch; grind only [State.kept_mk, State.kept_eta, State.incWrap_kept, State.ctxCommit_kept, State.setCtx_kept]
theorem State.mprPush_kept (s : State) (a2 : _) (a3 : _) : (State.mprPush s a2 a3).kept = s.kept := by
  unfold State.mprPush; dsimp only; (repeat' split) <;> first | with_reducible rfl | simp only [State.kept_mk, State.kept_eta, State.kept_foldl, implies_true, State.incSat_kept, State.pulse_kept, State.set_kept] | rfl
theorem State.lpeEnd_kept (s : State) (a2 : _) : (State.lpeEnd s a2).kept = s.kept := by
  unfold State.lpeEnd; grind only [State.kept_mk, State.kept_eta, State.setLpe_kept, State.set_kept, State.mprPush_kept, State.imgWrite_kept]
theorem State.lpeCommit_kept (s : State) (a2 : _) : (State.lpeCommit s a2).kept = s.kept := by
  unfold State.lpeCommit; simp only [State.kept_mk, State.kept_eta, State.set_kept, State.commitShadow_kept]
theorem State.lpeBegin_kept (s : State) (a2 : _) (a3 : _) : (State.lpeBegin s a2 a3).kept = s.kept := by
  unfold State.lpeBegin; grind only [State.kept_mk, State.kept_eta, State.lpeCommit_kept, State.set_kept, State.incSat_kept, State.setLpe_kept, State.addSat_kept]
theorem State.lpePacket_kept (s : State) (a2 : _) (a3 : _) : (State.lpePacket s a2 a3).kept = s.kept := by
  unfold State.lpePacket; grind only [State.kept_mk, State.kept_eta, State.pulse_kept, State.incSat_kept, State.lpeEnd_kept, State.lpeBegin_kept, State.set_kept, State.setLpe_kept]
theorem State.camPulse_kept (s : State) (a2 : _) (a3 : _) : (State.camPulse s a2 a3).kept = s.kept := by
  unfold State.camPulse; simp only [State.kept_mk, State.kept_eta, State.drivePin_kept, State.setCtx_kept]
theorem State.camTrigger_kept (s : State) (a2 : _) : (State.camTrigger s a2).2.kept = s.kept := by
  unfold State.camTrigger; grind only [State.kept_mk, State.kept_eta, State.set_kept, State.camPulse_kept, State.setCtx_kept]
theorem State.ctxShowRate_kept (s : State) (a2 : _) : (State.ctxShowRate s a2).kept = s.kept := by
  unfold State.ctxShowRate; (repeat' split) <;> first | with_reducible rfl | simp only [State.kept_mk, State.kept_eta, State.set_kept] | rfl
theorem State.ctxAbortHeader_kept (s : State) (a2 : _) (a3 : _) (a4 : _) : (State.ctxAbortHeader s a2 a3 a4).kept = s.kept := by
  unfold State.ctxAbortHeader; (repeat' split) <;> first | with_reducible rfl | simp only [State.kept_mk, State.kept_eta, State.imgWrite_kept] | rfl
theorem State.ctxAbort_kept (s : State) (a2 : _) (a3 : _) (a4 : _) : (State.ctxAbort s a2 a3 a4).kept = s.kept := by
  unfold State.ctxAbort; (repeat' split) <;> first | with_reducible rfl | simp only [State.kept_mk, State.kept_eta, State.ctxAbortHeader_kept, State.set_kept, State.setCtx_kept, State.incSat_kept] | rfl
theorem State.camIdle_kept (s : State) (a2 : _) : (State.camIdle s a2).kept = s.kept := by
  unfold State.camIdle; simp only [State.kept_mk, State.kept_eta, State.emit_kept]
theorem State.camEnds_kept (s : State) : (State.camEnds s).kept = s.kept := by
  unfold State.camEnds; simp only [State.kept_mk, State.kept_eta, State.kept_foldl, implies_true, State.camIdle_kept, apply_ite State.kept, ite_self]
theorem State.ctxLine_kept (s : State) (a2 : _) (a3 : _) : (State.ctxLine s a2 a3).kept = s.kept := by
  unfold State.ctxLine; grind only [State.kept_mk, State.kept_eta, State.ctxLatch_kept, State.setCtx_kept, State.pulse_kept, State.set_kept, State.ctxAbort_kept]
theorem State.ctxComplete_kept (s : State) (a2 : _) (a3 : _) : (State.ctxComplete s a2 a3).kept = s.kept := by
  unfold State.ctxComplete; grind only [State.kept_mk, State.kept_eta, State.setCtx_kept, State.pulseLine_kept, State.set_kept, State.imgWrite_kept]
theorem State.ctxFrameEnd_kept (s : State) (a2 : _) : (State.ctxFrameEnd s a2).kept = s.kept := by
  unfold State.ctxFrameEnd; grind only [State.kept_mk, State.kept_eta, State.ctxLatch_kept, State.setCtx_kept, State.set_kept, State.draw_kept]
theorem State.ctxFrameStart_kept (s : State) (a2 : _) : (State.ctxFrameStart s a2).kept = s.kept := by
  unfold State.ctxFrameStart; dsimp only; (repeat' split) <;> first | with_reducible rfl | simp only [State.kept_mk, State.kept_eta, State.kept_foldl, implies_true, State.incWrap_kept, State.ctxFrameEnd_kept, State.setCtx_kept, State.incSat_kept, State.ctxAbort_kept, State.set_kept] | rfl
theorem State.ctxRelease_kept (s : State) (a2 : _) (a3 : _) : (State.ctxRelease s a2 a3).kept = s.kept := by
  unfold State.ctxRelease; (repeat' split) <;> first | with_reducible rfl | simp only [State.kept_mk, State.kept_eta, State.set_kept] | rfl
theorem State.ctxCtlFields_kept (s : State) (a2 : _) (a3 : _) : (State.ctxCtlFields s a2 a3).kept = s.kept := by
  unfold State.ctxCtlFields; dsimp only; (repeat' split) <;> first | with_reducible rfl | simp only [State.kept_mk, State.kept_eta, State.kept_foldl, implies_true, State.set_kept] | rfl
theorem State.lpeRws_kept (s : State) (a2 : _) : (State.lpeRws s a2).kept = s.kept := by
  unfold State.lpeRws; (repeat' split) <;> first | with_reducible rfl | simp only [State.kept_mk, State.kept_eta, State.set_kept, State.lpeCommit_kept] | rfl
theorem State.resetImg_kept (s : State) : (State.resetImg s).kept = s.kept := by
  unfold State.resetImg; simp only [State.kept_mk, State.kept_eta, State.kept_foldl, implies_true, State.ctxAbort_kept, State.resetRegs_kept]
theorem State.camSoft_kept (s : State) (a2 : _) : (State.camSoft s a2).2.kept = s.kept := by
  unfold State.camSoft; (repeat' split) <;> first | with_reducible rfl | simp only [State.kept_mk, State.kept_eta, State.camPulse_kept] | rfl
theorem State.camOff_kept (s : State) : (State.camOff s).kept = s.kept := by
  unfold State.camOff; simp only [State.kept_mk, State.kept_eta, State.kept_foldl, implies_true, State.setCtx_kept, State.camIdle_kept, apply_ite State.kept, ite_self]
theorem State.ctxRws_kept (s : State) (a2 : _) : (State.ctxRws s a2).kept = s.kept := by
  unfold State.ctxRws; (repeat' split) <;> first | with_reducible rfl | simp only [State.kept_mk, State.kept_eta, State.set_kept, State.setCtx_kept, State.ctxCommit_kept] | rfl
theorem State.ctxCtlWrite_kept (s : State) (a2 : _) (a3 : _) : (State.ctxCtlWrite s a2 a3).kept = s.kept := by
  unfold State.ctxCtlWrite; grind only [State.kept_mk, State.kept_eta, State.set_kept, State.ctxCtlFields_kept, State.ctxRws_kept, State.ctxShowRate_kept, State.setCtx_kept, State.ctxCommit_kept]
theorem State.strobeBall_kept (s : State) : (State.strobeBall s).kept = s.kept := by
  unfold State.strobeBall; simp only [State.kept_mk, State.kept_eta, State.drivePin_kept]
theorem State.setIllCh_kept (s : State) (a2 : _) (a3 : _) : (State.setIllCh s a2 a3).kept = s.kept := by
  unfold State.setIllCh; simp only [State.kept_mk, State.kept_eta]
theorem State.illOff_kept (s : State) (a2 : _) : (State.illOff s a2).kept = s.kept := by
  unfold State.illOff; (repeat' split) <;> first | with_reducible rfl | simp only [State.kept_mk, State.kept_eta, State.strobeBall_kept, State.set_kept, State.setIllCh_kept] | rfl
theorem State.illAllOff_kept (s : State) : (State.illAllOff s).kept = s.kept := by
  unfold State.illAllOff; simp only [State.kept_mk, State.kept_eta, State.kept_foldl, implies_true, State.illOff_kept, State.setIllCh_kept]
theorem State.resetIll_kept (s : State) : (State.resetIll s).kept = s.kept := by
  unfold State.resetIll; simp only [State.kept_mk, State.kept_eta, State.illAllOff_kept, State.lower_kept, State.resetRegs_kept]
theorem State.illOn_kept (s : State) (a2 : _) (a3 : _) (a4 : _) : (State.illOn s a2 a3 a4).kept = s.kept := by
  unfold State.illOn; simp only [State.kept_mk, State.kept_eta, State.strobeBall_kept, State.set_kept, State.setIllCh_kept]
theorem State.illResume_kept (s : State) : (State.illResume s).kept = s.kept := by
  unfold State.illResume; simp only [State.kept_mk, State.kept_eta, State.kept_foldl, implies_true, State.illOn_kept, apply_ite State.kept, ite_self]
theorem State.illLevel_kept (s : State) (a2 : _) : (State.illLevel s a2).kept = s.kept := by
  unfold State.illLevel; simp only [State.kept_mk, State.kept_eta, State.draw_kept, State.setIllCh_kept]
theorem State.illCommit_kept (s : State) (a2 : _) : (State.illCommit s a2).kept = s.kept := by
  unfold State.illCommit; grind only [State.kept_mk, State.kept_eta, State.set_kept, State.commitShadow_kept, State.setIllCh_kept, State.illLevel_kept]
theorem State.illSync_kept (s : State) : (State.illSync s).kept = s.kept := by
  unfold State.illSync; (repeat' split) <;> first | with_reducible rfl | simp only [State.kept_mk, State.kept_eta, State.kept_foldl, implies_true, State.illLevel_kept, State.commitShadow_kept] | rfl
theorem State.strobeStart_kept (s : State) (a2 : _) : (State.strobeStart s a2).kept = s.kept := by
  unfold State.strobeStart; grind only [State.kept_mk, State.kept_eta, State.illSync_kept, State.setIllCh_kept, State.set_kept, State.illCommit_kept, State.illOff_kept, State.illOn_kept]
theorem State.neighbourDone_kept (s : State) (a2 : _) : (State.neighbourDone s a2).kept = s.kept := by
  unfold State.neighbourDone; (repeat' split) <;> first | with_reducible rfl | simp only [State.kept_mk, State.kept_eta, State.set_kept, State.illResume_kept, State.pulse_kept] | rfl
theorem State.lampUnverified_kept (s : State) (a2 : _) : (State.lampUnverified s a2).kept = s.kept := by
  unfold State.lampUnverified; (repeat' split) <;> first | with_reducible rfl | simp only [State.kept_mk, State.kept_eta, State.pulse_kept, State.set_kept] | rfl
theorem State.illHeat_kept (s : State) : (State.illHeat s).kept = s.kept := by
  unfold State.illHeat; grind only [State.kept_mk, State.kept_eta, State.lower_kept, State.raise_kept]
theorem State.illEnable_kept (s : State) : (State.illEnable s).kept = s.kept := by
  unfold State.illEnable; simp only [State.kept_mk, State.kept_eta, State.kept_foldl, implies_true, State.illResume_kept, State.illAllOff_kept, apply_ite State.kept, ite_self]
theorem State.ntcConvert_kept (s : State) (a2 : _) (a3 : _) : (State.ntcConvert s a2 a3).kept = s.kept := by
  unfold State.ntcConvert; simp only [State.kept_mk, State.kept_eta, State.kept_foldl, implies_true, State.illSync_kept, State.pulse_kept, State.set_kept, State.draw_kept, State.illCommit_kept, State.illHeat_kept, State.illOff_kept, State.illEnable_kept, apply_ite State.kept, ite_self]
theorem State.lampShort_kept (s : State) (a2 : _) : (State.lampShort s a2).kept = s.kept := by
  unfold State.lampShort; (repeat' split) <;> first | with_reducible rfl | simp only [State.kept_mk, State.kept_eta, State.pulse_kept, State.set_kept] | rfl
theorem State.pwmStart_kept (s : State) (a2 : _) : (State.pwmStart s a2).kept = s.kept := by
  unfold State.pwmStart; grind only [State.kept_mk, State.kept_eta, State.illSync_kept, State.illCommit_kept, State.illOff_kept, State.illOn_kept]
theorem State.illChWrite_kept (s : State) (a2 : _) (a3 : _) : (State.illChWrite s a2 a3).kept = s.kept := by
  unfold State.illChWrite; grind only [State.kept_mk, State.kept_eta, State.setIllCh_kept, State.illCommit_kept, State.illOff_kept, State.illOn_kept, State.set_kept]
theorem State.diagPulse_kept (s : State) (a2 : _) : (State.diagPulse s a2).kept = s.kept := by
  unfold State.diagPulse; grind only [State.kept_mk, State.kept_eta, State.illOn_kept]
theorem State.illTrigger_kept (s : State) (a2 : _) (a3 : _) : (State.illTrigger s a2 a3).kept = s.kept := by
  unfold State.illTrigger; simp only [State.kept_mk, State.kept_eta, State.kept_foldl, implies_true, State.setIllCh_kept, apply_ite State.kept, ite_self]
theorem State.sinkTemp_kept (s : State) (a2 : _) (a3 : _) : (State.sinkTemp s a2 a3).kept = s.kept := by
  unfold State.sinkTemp; grind only [State.kept_mk, State.kept_eta, State.illHeat_kept, State.set_kept, State.illOff_kept, State.illOn_kept]
theorem State.pwmEnd_kept (s : State) (a2 : _) : (State.pwmEnd s a2).kept = s.kept := by
  unfold State.pwmEnd; (repeat' split) <;> first | with_reducible rfl | simp only [State.kept_mk, State.kept_eta, State.illOff_kept] | rfl
theorem State.neighbourTest_kept (s : State) : (State.neighbourTest s).kept = s.kept := by
  unfold State.neighbourTest; grind only [State.kept_mk, State.kept_eta, State.set_kept]
theorem State.camera_kept (s : State) (a2 : _) (a3 : _) : (State.camera s a2 a3).kept = s.kept := by
  unfold State.camera; grind only [State.kept_mk, State.kept_eta, State.camSoft_kept, State.illTrigger_kept, State.camTrigger_kept]
theorem State.illGlobalWrite_kept (s : State) : (State.illGlobalWrite s).kept = s.kept := by
  unfold State.illGlobalWrite; simp only [State.kept_mk, State.kept_eta]
theorem State.strobeEnd_kept (s : State) (a2 : _) : (State.strobeEnd s a2).kept = s.kept := by
  unfold State.strobeEnd; (repeat' split) <;> first | with_reducible rfl | simp only [State.kept_mk, State.kept_eta, State.illOff_kept] | rfl
theorem State.lampMeasure_kept (s : State) (a2 : _) (a3 : _) : (State.lampMeasure s a2 a3).kept = s.kept := by
  unfold State.lampMeasure; (repeat' split) <;> first | with_reducible rfl | simp only [State.kept_mk, State.kept_eta, State.set_kept, State.setIllCh_kept, State.illOff_kept, State.pulse_kept] | rfl
theorem State.setMotState_kept (s : State) (a2 : _) (a3 : _) : (State.setMotState s a2 a3).kept = s.kept := by
  unfold State.setMotState; simp only [State.kept_mk, State.kept_eta, State.set_kept]
theorem State.setMx_kept (s : State) (a2 : _) (a3 : _) : (State.setMx s a2 a3).kept = s.kept := by
  unfold State.setMx; simp only [State.kept_mk, State.kept_eta]
theorem State.motPlan_kept (s : State) (a2 : _) (a3 : _) (a4 : _) : (State.motPlan s a2 a3 a4).kept = s.kept := by
  unfold State.motPlan; simp only [State.kept_mk, State.kept_eta, State.setMx_kept]
theorem State.motStop_kept (s : State) (a2 : _) : (State.motStop s a2).kept = s.kept := by
  unfold State.motStop; (repeat' split) <;> first | with_reducible rfl | simp only [State.kept_mk, State.kept_eta, State.set_kept, State.setMotState_kept, State.motPlan_kept] | rfl
theorem State.homeFail_kept (s : State) (a2 : _) : (State.homeFail s a2).kept = s.kept := by
  unfold State.homeFail; (repeat' split) <;> first | with_reducible rfl | simp only [State.kept_mk, State.kept_eta, State.pulse_kept, State.set_kept, State.motStop_kept] | rfl
theorem State.homeTimeout_kept (s : State) (a2 : _) : (State.homeTimeout s a2).kept = s.kept := by
  unfold State.homeTimeout; grind only [State.kept_mk, State.kept_eta, State.homeFail_kept]
theorem State.motShow_kept (s : State) (a2 : _) : (State.motShow s a2).kept = s.kept := by
  unfold State.motShow; simp only [State.kept_mk, State.kept_eta, State.set_kept]
theorem State.motOff_kept (s : State) (a2 : _) : (State.motOff s a2).kept = s.kept := by
  unfold State.motOff; grind only [State.kept_mk, State.kept_eta, State.set_kept, State.setMotState_kept, State.setMx_kept, State.motShow_kept]
theorem State.motAllOff_kept (s : State) : (State.motAllOff s).kept = s.kept := by
  unfold State.motAllOff; simp only [State.kept_mk, State.kept_eta, State.kept_foldl, implies_true, State.motOff_kept]
theorem State.motorBus_kept (s : State) (a2 : _) : (State.motorBus s a2).kept = s.kept := by
  unfold State.motorBus; grind only [State.kept_mk, State.kept_eta, State.setPin_kept, State.raise_kept, State.set_kept, State.motAllOff_kept, State.lower_kept]
theorem State.motMode_kept (s : State) : (State.motMode s).kept = s.kept := by
  unfold State.motMode; simp only [State.kept_mk, State.kept_eta, State.kept_foldl, implies_true, State.motAllOff_kept, State.motStop_kept, apply_ite State.kept, ite_self]
theorem State.homeHalt_kept (s : State) (a2 : _) : (State.homeHalt s a2).kept = s.kept := by
  unfold State.homeHalt; simp only [State.kept_mk, State.kept_eta, State.motPlan_kept, State.setMx_kept]
theorem State.homeLatch_kept (s : State) (a2 : _) : (State.homeLatch s a2).kept = s.kept := by
  unfold State.homeLatch; simp only [State.kept_mk, State.kept_eta, State.homeHalt_kept, State.setMx_kept, State.set_kept]
theorem State.homeEdge_kept (s : State) (a2 : _) (a3 : _) : (State.homeEdge s a2 a3).kept = s.kept := by
  unfold State.homeEdge; grind only [State.kept_mk, State.kept_eta, State.homeHalt_kept, State.setMx_kept, State.homeLatch_kept]
theorem State.motSoft_kept (s : State) (a2 : _) : (State.motSoft s a2).kept = s.kept := by
  unfold State.motSoft; grind only [State.kept_mk, State.kept_eta, State.setMotState_kept, State.motPlan_kept]
theorem State.motGo_kept (s : State) (a2 : _) (a3 : _) : (State.motGo s a2 a3).kept = s.kept := by
  unfold State.motGo; grind only [State.kept_mk, State.kept_eta, State.motPlan_kept]
theorem State.homePhase_kept (s : State) (a2 : _) (a3 : _) : (State.homePhase s a2 a3).kept = s.kept := by
  unfold State.homePhase; simp only [State.kept_mk, State.kept_eta, State.setMx_kept, State.motGo_kept, State.set_kept]
theorem State.homeNext_kept (s : State) (a2 : _) : (State.homeNext s a2).kept = s.kept := by
  unfold State.homeNext; grind only [State.kept_mk, State.kept_eta, State.homePhase_kept, State.set_kept, State.setMotState_kept]
theorem State.motOn_kept (s : State) (a2 : _) : (State.motOn s a2).kept = s.kept := by
  unfold State.motOn; (repeat' split) <;> first | with_reducible rfl | simp only [State.kept_mk, State.kept_eta, State.setMotState_kept, State.setMx_kept] | rfl
theorem State.motRetarget_kept (s : State) (a2 : _) (a3 : _) : (State.motRetarget s a2 a3).kept = s.kept := by
  unfold State.motRetarget; grind only [State.kept_mk, State.kept_eta, State.setMx_kept, State.motGo_kept]
theorem State.homeStart_kept (s : State) (a2 : _) : (State.homeStart s a2).kept = s.kept := by
  unfold State.homeStart; grind only [State.kept_mk, State.kept_eta, State.setMx_kept, State.setMotState_kept, State.homeFail_kept, State.homePhase_kept]
theorem State.motDo_kept (s : State) (a2 : _) (a3 : _) (a4 : _) : (State.motDo s a2 a3 a4).kept = s.kept := by
  unfold State.motDo; grind only [State.kept_mk, State.kept_eta, State.motOn_kept, State.set_kept, State.setMotState_kept, State.motRetarget_kept, State.motGo_kept, State.motStop_kept, State.homeStart_kept, State.setMx_kept, State.motShow_kept]
theorem State.motStamped_kept (s : State) (a2 : _) : (State.motStamped s a2).kept = s.kept := by
  unfold State.motStamped; grind only [State.kept_mk, State.kept_eta, State.setMx_kept, State.set_kept, State.motDo_kept]
theorem State.motRes_kept (s : State) (a2 : _) (a3 : _) (a4 : _) : (State.motRes s a2 a3 a4).kept = s.kept := by
  unfold State.motRes; grind only [State.kept_mk, State.kept_eta, State.set_kept]
theorem State.loadAngle_kept (s : State) (a2 : _) (a3 : _) : (State.loadAngle s a2 a3).kept = s.kept := by
  unfold State.loadAngle; (repeat' split) <;> first | with_reducible rfl | simp only [State.kept_mk, State.kept_eta, State.set_kept, State.setMx_kept] | rfl
theorem State.setEn_kept (s : State) (a2 : _) (a3 : _) : (State.setEn s a2 a3).kept = s.kept := by
  unfold State.setEn; simp only [State.kept_mk, State.kept_eta]
theorem State.encSpeed_kept (s : State) (a2 : _) : (State.encSpeed s a2).kept = s.kept := by
  unfold State.encSpeed; grind only [State.kept_mk, State.kept_eta, State.set_kept, State.setEn_kept]
theorem State.motArrived_kept (s : State) (a2 : _) : (State.motArrived s a2).kept = s.kept := by
  unfold State.motArrived; grind only [State.kept_mk, State.kept_eta, State.setMx_kept, State.motGo_kept, State.homeNext_kept, State.setMotState_kept]
theorem State.resetMot_kept (s : State) : (State.resetMot s).kept = s.kept := by
  unfold State.resetMot; simp only [State.kept_mk, State.kept_eta, State.motAllOff_kept, State.resetRegs_kept]
theorem State.barrierLoss_kept (s : State) : (State.barrierLoss s).kept = s.kept := by
  unfold State.barrierLoss; simp only [State.kept_mk, State.kept_eta, State.kept_foldl, implies_true, State.motStop_kept, State.raise_kept, State.set_kept]
theorem State.resetEnc_kept (s : State) : (State.resetEnc s).kept = s.kept := by
  unfold State.resetEnc; simp only [State.kept_mk, State.kept_eta, State.resetRegs_kept]
theorem State.motCurrent_kept (s : State) (a2 : _) : (State.motCurrent s a2).kept = s.kept := by
  unfold State.motCurrent; simp only [State.kept_mk, State.kept_eta, State.set_kept, State.setMx_kept]
theorem State.motAdvance_kept (s : State) (a2 : _) : (State.motAdvance s a2).kept = s.kept := by
  unfold State.motAdvance; grind only [State.kept_mk, State.kept_eta, State.setMx_kept]
theorem State.motUpdate_kept (s : State) (a2 : _) : (State.motUpdate s a2).kept = s.kept := by
  unfold State.motUpdate; grind only [State.kept_mk, State.kept_eta, State.setMx_kept, State.motCurrent_kept, State.motAdvance_kept, State.motSoft_kept, State.motRes_kept, State.homeHalt_kept, State.motArrived_kept, State.motShow_kept]
theorem State.driverFault_kept (s : State) (a2 : _) : (State.driverFault s a2).kept = s.kept := by
  unfold State.driverFault; grind only [State.kept_mk, State.kept_eta, State.pulse_kept, State.set_kept, State.motOff_kept]
theorem State.motStamp_kept (s : State) (a2 : _) (a3 : _) (a4 : _) (a5 : _) : (State.motStamp s a2 a3 a4 a5).kept = s.kept := by
  unfold State.motStamp; (repeat' split) <;> first | with_reducible rfl | simp only [State.kept_mk, State.kept_eta, State.set_kept, State.setMx_kept] | rfl
theorem State.motCmd_kept (s : State) (a2 : _) (a3 : _) (a4 : _) : (State.motCmd s a2 a3 a4).kept = s.kept := by
  unfold State.motCmd; grind only [State.kept_mk, State.kept_eta, State.set_kept, State.motStamp_kept, State.motDo_kept]
theorem State.motRow_kept (s : State) (a2 : _) (a3 : _) : (State.motRow s a2 a3).kept = s.kept := by
  unfold State.motRow; (repeat' split) <;> first | with_reducible rfl | simp only [State.kept_mk, State.kept_eta, State.motCmd_kept, State.set_kept] | rfl
theorem State.motCtlWrite_kept (s : State) (a2 : _) (a3 : _) : (State.motCtlWrite s a2 a3).kept = s.kept := by
  unfold State.motCtlWrite; grind only [State.kept_mk, State.kept_eta, State.motOff_kept, State.set_kept, State.writeFields_kept, State.motOn_kept]
theorem State.encMissing_kept (s : State) (a2 : _) : (State.encMissing s a2).kept = s.kept := by
  unfold State.encMissing; grind only [State.kept_mk, State.kept_eta, State.incSat_kept, State.set_kept, State.setEn_kept, State.pulse_kept]
theorem State.encPass_kept (s : State) (a2 : _) (a3 : _) (a4 : _) : (State.encPass s a2 a3 a4).kept = s.kept := by
  unfold State.encPass; (repeat' split) <;> first | with_reducible rfl | simp only [State.kept_mk, State.kept_eta, State.drivePin_kept] | rfl
theorem State.homeIndexCheck_kept (s : State) (a2 : _) : (State.homeIndexCheck s a2).kept = s.kept := by
  unfold State.homeIndexCheck; (try dsimp only); (repeat' split) <;> (repeat (first | rw [State.kept_foldl] | simp only [State.kept_mk, State.kept_eta, State.homeFail_kept])) <;> (try intros) <;> (try dsimp only) <;> (repeat' split) <;> first | with_reducible rfl | simp only [State.kept_mk, State.kept_eta, State.kept_foldl, implies_true, State.homeFail_kept, apply_ite State.kept, ite_self] | simp only [State.kept_mk, State.kept_eta, State.kept_foldl, implies_true, State.homeFail_kept, apply_ite State.kept, ite_self, *] | rfl
theorem State.encCount_kept (s : State) (a2 : _) (a3 : _) (a4 : _) : (State.encCount s a2 a3 a4).kept = s.kept := by
  unfold State.encCount; grind only [State.kept_mk, State.kept_eta, State.setEn_kept, State.incSat_kept, State.encPass_kept, State.pulse_kept, State.set_kept, State.homeIndexCheck_kept, State.encMissing_kept]
theorem State.barrierRelock_kept (s : State) : (State.barrierRelock s).kept = s.kept := by
  unfold State.barrierRelock; (try dsimp only); (repeat' split) <;> (repeat (first | rw [State.kept_foldl] | simp only [State.kept_mk, State.kept_eta, State.setMx_kept, State.lower_kept])) <;> (try intros) <;> (try dsimp only) <;> (repeat' split) <;> first | with_reducible rfl | simp only [State.kept_mk, State.kept_eta, State.kept_foldl, implies_true, State.setMx_kept, State.lower_kept, apply_ite State.kept, ite_self] | simp only [State.kept_mk, State.kept_eta, State.kept_foldl, implies_true, State.setMx_kept, State.lower_kept, apply_ite State.kept, ite_self, *] | rfl
theorem State.encWrite_kept (s : State) (a2 : _) (a3 : _) : (State.encWrite s a2 a3).kept = s.kept := by
  unfold State.encWrite; (repeat' split) <;> first | with_reducible rfl | simp only [State.kept_mk, State.kept_eta, State.set_kept, State.setEn_kept] | rfl
theorem State.motStall_kept (s : State) (a2 : _) : (State.motStall s a2).kept = s.kept := by
  unfold State.motStall; dsimp only; (repeat' split) <;> first | with_reducible rfl | simp only [State.kept_mk, State.kept_eta, State.kept_foldl, implies_true, State.setMotState_kept, State.setMx_kept, State.pulse_kept, State.motShow_kept, State.set_kept, State.motCurrent_kept, State.incSat_kept] | rfl
theorem State.limitInput_kept (s : State) (a2 : _) (a3 : _) (a4 : _) : (State.limitInput s a2 a3 a4).kept = s.kept := by
  unfold State.limitInput; grind only [State.kept_mk, State.kept_eta, State.setPin_kept, State.homeEdge_kept, State.homeFail_kept, State.pulse_kept, State.incSat_kept, State.set_kept, State.motStop_kept]
theorem State.encIndex_kept (s : State) (a2 : _) : (State.encIndex s a2).kept = s.kept := by
  unfold State.encIndex; dsimp only; (repeat' split) <;> first | with_reducible rfl | simp only [State.kept_mk, State.kept_eta, State.kept_foldl, implies_true, State.homeLatch_kept, State.set_kept, State.setEn_kept, State.incSat_kept, State.pulse_kept] | rfl
theorem State.encIllegal_kept (s : State) (a2 : _) : (State.encIllegal s a2).kept = s.kept := by
  unfold State.encIllegal; grind only [State.kept_mk, State.kept_eta, State.setEn_kept, State.pulse_kept, State.set_kept]
theorem State.coilPeriod_kept (s : State) (a2 : _) : (State.coilPeriod s a2).kept = s.kept := by
  unfold State.coilPeriod; grind only [State.kept_mk, State.kept_eta, State.draw_kept, State.set_kept, State.setMx_kept]
theorem State.encCtlWrite_kept (s : State) (a2 : _) (a3 : _) : (State.encCtlWrite s a2 a3).kept = s.kept := by
  unfold State.encCtlWrite; grind only [State.kept_mk, State.kept_eta, State.writeFields_kept, State.setEn_kept, State.set_kept]
theorem State.chatterWindow_kept (s : State) (a2 : _) : (State.chatterWindow s a2).kept = s.kept := by
  unfold State.chatterWindow; (repeat' split) <;> first | with_reducible rfl | simp only [State.kept_mk, State.kept_eta, State.homeFail_kept, State.pulse_kept, State.set_kept] | rfl
theorem State.chrUsable_kept (s : State) : (State.chrUsable s).kept = s.kept := by
  unfold State.chrUsable; simp only [State.kept_mk, State.kept_eta, State.set_kept]
theorem State.resetChr_kept (s : State) : (State.resetChr s).kept = s.kept := by
  unfold State.resetChr; simp only [State.kept_mk, State.kept_eta, State.chrUsable_kept, State.resetRegs_kept]
theorem State.resetNv_kept (s : State) : (State.resetNv s).kept = s.kept := by
  unfold State.resetNv; (try dsimp only); (repeat' split) <;> (repeat (first | rw [State.kept_foldl] | simp only [State.kept_mk, State.kept_eta, State.reply_kept, State.resetRegs_kept])) <;> (try intros) <;> (try dsimp only) <;> (repeat' split) <;> first | with_reducible rfl | simp only [State.kept_mk, State.kept_eta, State.kept_foldl, implies_true, State.reply_kept, State.resetRegs_kept, apply_ite State.kept, ite_self] | simp only [State.kept_mk, State.kept_eta, State.kept_foldl, implies_true, State.reply_kept, State.resetRegs_kept, apply_ite State.kept, ite_self, *] | rfl
theorem State.nvWriteErr_kept (s : State) : (State.nvWriteErr s).kept = s.kept := by
  unfold State.nvWriteErr; simp only [State.kept_mk, State.kept_eta, State.set_kept, State.incSat_kept]
theorem State.chrAdvance_kept (s : State) (a2 : _) : (State.chrAdvance s a2).kept = s.kept := by
  unfold State.chrAdvance; (repeat' split) <;> first | with_reducible rfl | simp only [State.kept_mk, State.kept_eta, State.set_kept] | rfl
theorem State.swRec_kept (s : State) (a2 : _) : (State.swRec s a2).kept = s.kept := by
  unfold State.swRec; (repeat' split) <;> first | with_reducible rfl | simp only [State.kept_mk, State.kept_eta, State.set_kept, State.record_kept] | rfl
theorem State.chrPop_kept (s : State) : (State.chrPop s).kept = s.kept := by
  unfold State.chrPop; simp only [State.kept_mk, State.kept_eta, State.set_kept]
theorem State.nvWear_kept (s : State) (a2 : _) : (State.nvWear s a2).kept = s.kept := by
  unfold State.nvWear; (repeat' split) <;> first | with_reducible rfl | simp only [State.kept_mk, State.kept_eta, State.pulse_kept, State.chrUsable_kept, State.set_kept] | rfl
theorem State.nvFree_form {q : List Instr} (s : State) (a2 a3 : _) (h : Form q s.kept) : Form q (State.nvFree s a2 a3).kept := by
  induction a3 generalizing s a2 with
  | zero => exact h
  | succ k ih =>
    unfold State.nvFree
    exact ih _ _ (Form.same (State.draw_kept _) (State.nvStore_form _ _ _ h))

theorem State.chrPut_form {q : List Instr} (s : State) (a2 : _) (a3 : _) (a4 : _) (h : Form q s.kept) : Form q (State.chrPut s a2 a3 a4).kept := by
  unfold State.chrPut; dsimp only; (repeat' split) <;> first | exact h | simp only [State.kept_mk, State.kept_eta, State.chrAdvance_kept, State.chrPop_kept, State.set_kept, State.nvWriteErr_kept, State.nvWear_kept, State.draw_kept, State.nvStore_form, State.nvFree_form, h]
theorem State.chrWrite_form {q : List Instr} (s : State) (a2 : _) (h : Form q s.kept) : Form q (State.chrWrite s a2).kept := by
  unfold State.chrWrite; (repeat' split) <;> first | exact h | simp only [State.kept_mk, State.kept_eta, State.chrPop_kept, State.set_kept, State.incSat_kept, State.chrPut_form, h]
theorem State.nvReply_kept (s : State) (a2 : _) (a3 : _) (a4 : _) : (State.nvReply s a2 a3 a4).kept = s.kept := by
  unfold State.nvReply; (repeat' split) <;> first | with_reducible rfl | simp only [State.kept_mk, State.kept_eta, State.reply_kept, State.hostDropped_kept] | rfl
theorem State.nvWrite_form {q : List Instr} (s : State) (a2 : _) (a3 : _) (a4 : _) (a5 : _) (h : Form q s.kept) : Form q (State.nvWrite s a2 a3 a4 a5).kept := by
  unfold State.nvWrite; dsimp only; (repeat' split) <;> first | exact h | simp only [State.kept_mk, State.kept_eta, State.nvReply_kept, State.nvWriteErr_kept, State.set_kept, State.nvWear_kept, State.nvStore_form, State.nvFree_form, h]
theorem State.remapDone_form {q : List Instr} (s : State) (h : Form q s.kept) : Form q (State.remapDone s).kept := by
  unfold State.remapDone; grind only [State.kept_mk, State.kept_eta, State.reply_kept, State.nvStore_form]
theorem State.setTrim_kept (s : State) (a2 : _) (a3 : _) : (State.setTrim s a2 a3).kept = s.kept := by
  unfold State.setTrim; (repeat' split) <;> first | with_reducible rfl | simp only [State.kept_mk, State.kept_eta, State.set_kept] | rfl
theorem State.calWrite_kept (s : State) (a2 : _) (a3 : _) : (State.calWrite s a2 a3).kept = s.kept := by
  unfold State.calWrite; grind only [State.kept_mk, State.kept_eta, State.set_kept, State.writeFields_kept]
theorem State.calPass_kept (s : State) : (State.calPass s).kept = s.kept := by
  unfold State.calPass; (repeat' split) <;> first | with_reducible rfl | simp only [State.kept_mk, State.kept_eta] | rfl
theorem State.calOver_kept (s : State) : (State.calOver s).kept = s.kept := by
  unfold State.calOver; simp only [State.kept_mk, State.kept_eta, State.set_kept]
theorem State.calTimeout_kept (s : State) : (State.calTimeout s).kept = s.kept := by
  unfold State.calTimeout; (repeat' split) <;> first | with_reducible rfl | simp only [State.kept_mk, State.kept_eta, State.incSat_kept, State.calOver_kept] | rfl
theorem State.trimCopy_form {q : List Instr} (s : State) (a2 : _) (a3 : _) (a4 : _) (h : Form q s.kept) : Form q (State.trimCopy s a2 a3 a4).1.kept := by
  unfold State.trimCopy; dsimp only; (repeat' split) <;> first | exact h | simp only [State.kept_mk, State.kept_eta, State.pulse_kept, State.set_kept, State.nvWriteErr_kept, State.nvStore_form, State.nvFree_form, h]
theorem State.setGskew_kept (s : State) (a2 : _) (a3 : _) : (State.setGskew s a2 a3).kept = s.kept := by
  unfold State.setGskew; simp only [State.kept_mk, State.kept_eta, State.set_kept]
theorem State.setTrims_kept (s : State) (f h : _) : (State.setTrims s f h).kept = s.kept := by
  unfold State.setTrims
  rw [State.kept_foldl _ (fun t k => State.setGskew_kept t k _), State.kept_foldl _ (fun t k => State.setTrim_kept t k _)]

theorem State.trimUse_kept (s : State) (a2 : _) : (State.trimUse s a2).kept = s.kept := by
  unfold State.trimUse; grind only [State.kept_mk, State.kept_eta, State.setTrims_kept, State.set_kept]
theorem State.trimCut_form {q : List Instr} (s : State) (h : Form q s.kept) : Form q (State.trimCut s).kept := by
  unfold State.trimCut; dsimp only; (repeat' split) <;> first | exact h | simp only [State.kept_mk, State.kept_eta, State.draw_kept, State.nvStore_form, h]
theorem State.trimSave_kept (s : State) : (State.trimSave s).kept = s.kept := by
  unfold State.trimSave; (repeat' split) <;> first | with_reducible rfl | simp only [State.kept_mk, State.kept_eta, State.set_kept] | rfl
theorem State.calComplete_kept (s : State) (a2 : _) : (State.calComplete s a2).kept = s.kept := by
  unfold State.calComplete; dsimp only; (repeat' split) <;> first | with_reducible rfl | simp only [State.kept_mk, State.kept_eta, State.kept_foldl, implies_true, State.pulse_kept, State.set_kept, State.incSat_kept, State.calOver_kept, State.setGskew_kept, State.setTrim_kept, State.trimSave_kept] | rfl
theorem State.calGap_kept (s : State) : (State.calGap s).kept = s.kept := by
  unfold State.calGap; (repeat' split) <;> first | with_reducible rfl | simp only [State.kept_mk, State.kept_eta] | rfl
theorem State.calStart_kept (s : State) : (State.calStart s).kept = s.kept := by
  unfold State.calStart; grind only [State.kept_mk, State.kept_eta, State.calGap_kept, State.calPass_kept, State.set_kept]
theorem State.trimSaveDone_form {q : List Instr} (s : State) (a2 : _) (a3 : _) (h : Form q s.kept) : Form q (State.trimSaveDone s a2 a3).kept := by
  unfold State.trimSaveDone; dsimp only; (repeat' split) <;> first | exact h | simp only [State.kept_mk, State.kept_eta, State.set_kept, State.trimCopy_form, h]
theorem State.calEnter_kept (s : State) : (State.calEnter s).kept = s.kept := by
  unfold State.calEnter; simp only [State.kept_mk, State.kept_eta]
theorem State.rextMeasure_kept (s : State) (a2 : _) : (State.rextMeasure s a2).kept = s.kept := by
  unfold State.rextMeasure; grind only [State.kept_mk, State.kept_eta, State.raise_kept, State.set_kept, State.lower_kept]
theorem State.resetCal_form {q : List Instr} (s : State) (h : Form q s.kept) : Form q (State.resetCal s).kept := by
  unfold State.resetCal; simp only [State.kept_mk, State.kept_eta, State.calAbort_kept, State.resetRegs_kept, State.trimCut_form, h]
theorem State.trimCommit_kept (s : State) : (State.trimCommit s).kept = s.kept := by
  unfold State.trimCommit; simp only [State.kept_mk, State.kept_eta, State.trimUse_kept]
theorem State.calRestart_kept (s : State) : (State.calRestart s).kept = s.kept := by
  unfold State.calRestart; (repeat' split) <;> first | with_reducible rfl | simp only [State.kept_mk, State.kept_eta] | rfl
theorem State.portReturn_kept (s : State) (a2 : _) : (State.portReturn s a2).kept = s.kept := by
  unfold State.portReturn; (repeat' split) <;> first | with_reducible rfl | simp only [State.kept_mk, State.kept_eta, State.setPort_kept] | rfl
theorem State.fieldTick_kept (s : State) (a2 : _) (a3 : _) (a4 : _) (a5 : _) : (State.fieldTick s a2 a3 a4 a5).kept = s.kept := by
  unfold State.fieldTick; grind only [State.kept_mk, State.kept_eta, State.setPort_kept, State.placeField_kept, State.closeEvents_kept, State.setReg_kept, State.raise_kept, State.incSat_kept, State.set_kept, State.lower_kept]
theorem State.makeDeposit_kept (s : State) (a2 : _) (a3 : _) (a4 : _) (a5 : _) (a6 : _) (a7 : _) : (State.makeDeposit s a2 a3 a4 a5 a6 a7).kept = s.kept := by
  unfold State.makeDeposit; (repeat' split) <;> first | with_reducible rfl | simp only [State.kept_mk, State.kept_eta] | rfl
theorem State.setpointTick_kept (s : State) (a2 : _) (a3 : _) : (State.setpointTick s a2 a3).kept = s.kept := by
  unfold State.setpointTick; grind only [State.kept_mk, State.kept_eta, State.portReturn_kept, State.draw_kept, State.fieldTick_kept, State.set_kept, State.dialRead_kept, State.regTick_kept, State.calDisturb_kept, State.makeDeposit_kept]
theorem State.portReturns_kept (s : State) : (State.portReturns s).kept = s.kept := by
  unfold State.portReturns; simp only [State.kept_mk, State.kept_eta, State.kept_foldl, implies_true, State.portReturn_kept]
theorem State.startEsc_kept (s : State) (a2 : _) : (State.startEsc s a2).kept = s.kept := by
  unfold State.startEsc; simp only [State.kept_mk, State.kept_eta, State.regProgramStart_kept, State.programStart_kept]
theorem State.setZNCV_kept (s : State) (a2 : _) (a3 : _) (a4 : _) (a5 : _) (a6 : _) : (State.setZNCV s a2 a3 a4 a5 a6).kept = s.kept := by
  unfold State.setZNCV; simp only [State.kept_mk, State.kept_eta, State.set_kept]
theorem State.floatFlags_kept (s : State) (a2 : _) (a3 : _) : (State.floatFlags s a2 a3).kept = s.kept := by
  unfold State.floatFlags; simp only [State.kept_mk, State.kept_eta, State.setZNCV_kept]
theorem State.intFlags_kept (s : State) (a2 : _) (a3 : _) (a4 : _) (a5 : _) : (State.intFlags s a2 a3 a4 a5).kept = s.kept := by
  unfold State.intFlags; simp only [State.kept_mk, State.kept_eta, State.setZNCV_kept]
theorem State.setSw_kept (s : State) (a2 : _) (a3 : _) : (State.setSw s a2 a3).kept = s.kept := by
  unfold State.setSw; simp only [State.kept_mk, State.kept_eta, State.kept_foldl, implies_true, State.set_kept]
theorem State.noteIssue_kept (s : State) (a2 : _) (a3 : _) (a4 : _) : (State.noteIssue s a2 a3 a4).kept = s.kept := by
  unfold State.noteIssue; simp only [State.kept_mk, State.kept_eta, State.modEsc_kept]
theorem State.issue_kept (s : State) (n : _) (ws : _) (ill : _) (body : State → Iss)
    (h : ∀ t u, body t = .ok u → u.kept = t.kept) : (State.issue s n ws ill body).kept = s.kept := by
  unfold State.issue
  dsimp only
  split
  · rfl
  · split
    · exact State.trap_kept ..
    · split
      · rfl
      · split
        · exact State.trap_kept ..
        · split
          · rfl
          · split
            · exact State.trap_kept ..
            · split
              · exact State.trap_kept ..
              · rfl
              · rename_i t ht
                have hk := h _ _ ht
                rw [State.setPc_kept, State.noteIssue_kept] at hk
                split
                · rw [State.endStep_kept, hk]
                · exact hk

theorem State.dueTrap_kept (s : State) (a2 : _) : (State.dueTrap s a2).kept = s.kept := by
  unfold State.dueTrap; grind only [State.kept_mk, State.kept_eta, State.trap_kept]
theorem State.setBar_kept (s : State) (a2 : _) (a3 : _) : (State.setBar s a2 a3).kept = s.kept := by
  unfold State.setBar; simp only [State.kept_mk, State.kept_eta]
theorem State.barFail_kept (s : State) (a2 : _) : (State.barFail s a2).kept = s.kept := by
  unfold State.barFail; (try dsimp only); (repeat' split) <;> (repeat (first | rw [State.kept_foldl] | simp only [State.kept_mk, State.kept_eta, State.trap_kept, State.setBar_kept])) <;> (try intros) <;> (try dsimp only) <;> (repeat' split) <;> first | with_reducible rfl | simp only [State.kept_mk, State.kept_eta, State.kept_foldl, implies_true, State.trap_kept, State.setBar_kept, apply_ite State.kept, ite_self] | simp only [State.kept_mk, State.kept_eta, State.kept_foldl, implies_true, State.trap_kept, State.setBar_kept, apply_ite State.kept, ite_self, *] | rfl
theorem State.arrive_kept (s : State) (a2 : _) (a3 : _) (a4 : _) : (State.arrive s a2 a3 a4).kept = s.kept := by
  unfold State.arrive; grind only [State.kept_mk, State.kept_eta, State.setBar_kept, State.skReport_kept]
theorem State.barRelease_kept (s : State) (a2 : _) : (State.barRelease s a2).kept = s.kept := by
  unfold State.barRelease; simp only [State.kept_mk, State.kept_eta, State.kept_foldl, implies_true, State.endWait_kept, State.setBar_kept]
theorem State.issueWait_kept (s : State) (a2 : _) (a3 : _) (a4 : _) (a5 : _) (a6 : _) : (State.issueWait s a2 a3 a4 a5 a6).kept = s.kept := by
  unfold State.issueWait; simp only [State.kept_mk, State.kept_eta, State.setEscState_kept, State.modEsc_kept, State.setPc_kept]
theorem State.drainDone_kept (s : State) (a2 : _) : (State.drainDone s a2).kept = s.kept := by
  unfold State.drainDone; (repeat' split) <;> first | with_reducible rfl | simp only [State.kept_mk, State.kept_eta, State.modEsc_kept, State.breakStretch_kept, State.endWait_kept, State.set_kept, State.arrive_kept, State.awaitWake_kept, State.setG_kept, State.trap_kept] | rfl
theorem State.storeCheck_kept (s : State) (a2 : _) : (State.storeCheck s a2).kept = s.kept := by
  unfold State.storeCheck; grind only [State.kept_mk, State.kept_eta, State.trap_kept, State.modEsc_kept]
theorem State.floatCheck_kept (s : State) (a2 : _) : (State.floatCheck s a2).kept = s.kept := by
  unfold State.floatCheck; (repeat' split) <;> first | with_reducible rfl | simp only [State.kept_mk, State.kept_eta, State.endWait_kept, State.set_kept, State.setG_kept, State.modEsc_kept] | rfl
theorem State.cmdErr_kept (s : State) (a2 : _) : (State.cmdErr s a2).kept = s.kept := by
  unfold State.cmdErr; simp only [State.kept_mk, State.kept_eta, State.set_kept]
theorem State.stopCmd_kept (s : State) (a2 : _) : (State.stopCmd s a2).kept = s.kept := by
  unfold State.stopCmd; grind only [State.kept_mk, State.kept_eta, State.cmdErr_kept, State.stopEsc_kept, State.closeEvents_kept]
theorem State.fetchLine_kept (s : State) (a2 : _) (a3 : _) (a4 : _) : (State.fetchLine s a2 a3 a4).kept = s.kept := by
  unfold State.fetchLine; grind only [State.kept_mk, State.kept_eta, State.eccEvent_kept, State.set_kept, State.modEsc_kept, State.dueTrap_kept]
theorem State.forMask_kept (s : State) (a2 : _) (f : State → Nat → State) (h : ∀ t n, (f t n).kept = t.kept) :
    (State.forMask s a2 f).kept = s.kept := by
  unfold State.forMask
  refine State.kept_foldl _ (fun t n => ?_) _ _
  split
  · exact h t n
  · rfl

theorem State.evFire_kept (s : State) (a2 : _) : (State.evFire s a2).kept = s.kept := by
  unfold State.evFire; simp only [State.kept_mk, State.kept_eta, State.kept_foldl, implies_true, State.forMask_kept, State.setEvents_kept]
theorem State.enableWrite_kept (s : State) (a2 : _) (a3 : _) : (State.enableWrite s a2 a3).kept = s.kept := by
  unfold State.enableWrite; grind only [State.kept_mk, State.kept_eta, State.set_kept, State.cmdErr_kept, State.releaseZones_kept, State.orphanAll_kept]
theorem State.startCmd_kept (s : State) (a2 : _) : (State.startCmd s a2).kept = s.kept := by
  unfold State.startCmd; (repeat' split) <;> first | with_reducible rfl | simp only [State.kept_mk, State.kept_eta, State.cmdErr_kept, State.startEsc_kept, State.flushBuf_kept, State.orphanAll_kept, State.endStretch_kept, State.stopMotion_kept, State.cutGate_kept, State.closeEvents_kept] | rfl
theorem State.reissue_kept (s : State) (a2 : _) : (State.reissue s a2).kept = s.kept := by
  unfold State.reissue; simp only [State.kept_mk, State.kept_eta, State.resumeIssue_kept, State.modEsc_kept, State.setPc_kept, State.breakStretch_kept]
theorem State.resumeCmd_kept (s : State) (a2 : _) : (State.resumeCmd s a2).kept = s.kept := by
  unfold State.resumeCmd; grind only [State.kept_mk, State.kept_eta, State.cmdErr_kept, State.reissue_kept]
theorem State.stepCmd_kept (s : State) (a2 : _) : (State.stepCmd s a2).kept = s.kept := by
  unfold State.stepCmd; grind only [State.kept_mk, State.kept_eta, State.cmdErr_kept, State.startEsc_kept, State.setEscState_kept, State.modEsc_kept, State.setPc_kept, State.reissue_kept]
theorem State.flushCmd_kept (s : State) (a2 : _) : (State.flushCmd s a2).kept = s.kept := by
  unfold State.flushCmd; (repeat' split) <;> first | with_reducible rfl | simp only [State.kept_mk, State.kept_eta, State.flushBuf_kept, State.cmdErr_kept] | rfl
theorem State.escCmd_kept (s : State) (a2 : _) (a3 : _) : (State.escCmd s a2 a3).kept = s.kept := by
  unfold State.escCmd; (repeat' split) <;> first | with_reducible rfl | simp only [State.kept_mk, State.kept_eta, State.stopCmd_kept, State.startCmd_kept, State.resumeCmd_kept, State.stepCmd_kept, State.flushCmd_kept] | rfl
theorem State.fabLocalTimeout_kept (s : State) (a2 : _) : (State.fabLocalTimeout s a2).kept = s.kept := by
  unfold State.fabLocalTimeout; grind only [State.kept_mk, State.kept_eta, State.barFail_kept]
theorem State.prefetchDone_kept (s : State) (a2 : _) : (State.prefetchDone s a2).kept = s.kept := by
  unfold State.prefetchDone; (repeat' split) <;> first | with_reducible rfl | simp only [State.kept_mk, State.kept_eta, State.setEscState_kept] | rfl
theorem State.devRelease_kept (s : State) (a2 : _) : (State.devRelease s a2).kept = s.kept := by
  unfold State.devRelease; (repeat' split) <;> first | with_reducible rfl | simp only [State.kept_mk, State.kept_eta, State.barRelease_kept] | rfl
theorem State.startEnter_kept (p : State × Nat) : (State.startEnter p).kept = p.1.kept := rfl

theorem State.startCommand_kept (s : State) : (State.startCommand s).kept = s.kept := by
  unfold State.startCommand
  split
  · exact State.set_kept ..
  · rw [State.startEnter_kept, State.startDue_kept]

theorem State.devTimeout_kept (s : State) (a2 : _) : (State.devTimeout s a2).kept = s.kept := by
  unfold State.devTimeout; grind only [State.kept_mk, State.kept_eta, State.barFail_kept]
theorem State.fabDecision_kept (s : State) (a2 : _) : (State.fabDecision s a2).kept = s.kept := by
  unfold State.fabDecision; grind only [State.kept_mk, State.kept_eta, State.skBroadcast_kept, State.setBar_kept]
theorem State.fabTimeout_kept (s : State) (a2 : _) : (State.fabTimeout s a2).kept = s.kept := by
  unfold State.fabTimeout; grind only [State.kept_mk, State.kept_eta, State.skBroadcast_kept, State.setBar_kept]
theorem State.peerResult_kept (s : State) (a2 : _) (a3 : _) : (State.peerResult s a2 a3).kept = s.kept := by
  unfold State.peerResult; grind only [State.kept_mk, State.kept_eta, State.pulse_kept, State.set_kept]
theorem State.sweepServe_form {q : List Instr} (s : State) (a2 : _) (h : Form q s.kept) : Form q (State.sweepServe s a2).kept := by
  unfold State.sweepServe; dsimp only; (repeat' split) <;> first | exact h | simp only [State.kept_mk, State.kept_eta, State.dialClearStart_kept, State.dialEcc_kept, State.rebaseTile_form, h]
theorem State.sweepDue_form {q : List Instr} (s : State) (h : Form q s.kept) : Form q (State.sweepDue s).kept := by
  unfold State.sweepDue; (repeat' split) <;> first | exact h | simp only [State.kept_mk, State.kept_eta, State.sweepServe_form, h]
theorem State.rebaseDone_form {q : List Instr} (s : State) (a2 : _) (h : Form q s.kept) : Form q (State.rebaseDone s a2).kept := by
  unfold State.rebaseDone
  generalize s.dial.rebase = o
  cases o with
  | none => exact h
  | some tc =>
    dsimp only
    split
    · exact h
    · split
      · rw [State.dialEcc_kept, State.set_kept, State.kept_mk, State.kept_eta]; exact h
      · rw [State.set_kept, State.kept_mk, State.kept_eta]
        exact Form.foldl (fun (u : State) t => u.rebaseTile t tc) (fun u t hu => State.rebaseTile_form _ _ _ hu) dialTiles _
          (Form.same (State.dialEcc_kept ..) h)

theorem State.commitBegin_form {q : List Instr} (s : State) (h : Form q s.kept) : Form q (State.commitBegin s).kept := by
  unfold State.commitBegin; grind only [State.kept_mk, State.kept_eta, State.sweepDue_form, State.rebaseDone_form]
theorem State.ddepRecord_kept (s : State) (a2 : _) : (State.ddepRecord s a2).kept = s.kept := by
  unfold State.ddepRecord; (repeat' split) <;> first | with_reducible rfl | simp only [State.kept_mk, State.kept_eta, State.fwdDrop_kept, State.set_kept] | rfl
theorem State.fwdQueue_kept (s : State) (a2 : _) (a3 : _) : (State.fwdQueue s a2 a3).kept = s.kept := by
  unfold State.fwdQueue; (repeat' split) <;> first | with_reducible rfl | simp only [State.kept_mk, State.kept_eta, State.fwdDrop_kept, State.set_kept] | rfl
theorem State.commitLocal_form {q : List Instr} (s : State) (a2 : _) (h : Form q s.kept) : Form q (State.commitLocal s a2).kept := by
  unfold State.commitLocal
  split
  · rw [State.loseDeposit_kept]; exact h
  · simp only
    split
    · exact Form.foldl _ (fun u t hu => Form.same (State.fwdQueue_kept ..) hu) _ _ (State.commitDeposit_form _ _ _ h)
    · exact State.commitDeposit_form _ _ _ h

theorem State.commitForwarded_form {q : List Instr} (s : State) (a2 : _) (h : Form q s.kept) : Form q (State.commitForwarded s a2).kept := by
  unfold State.commitForwarded; simp only [apply_ite State.kept, apply_ite (Form q), State.kept_mk, State.kept_eta, State.loseDeposit_kept, State.fwdDrop_kept, State.set_kept, State.incWrap_kept, State.commitDeposit_form, h, ite_self]
theorem State.depositCommit_form {q : List Instr} (s : State) (a2 : _) (h : Form q s.kept) : Form q (State.depositCommit s a2).kept := by
  unfold State.depositCommit
  dsimp only
  split
  · exact h
  · refine Form.foldl _ (fun u t hu => State.commitForwarded_form _ _ hu) _ _ ?_
    refine Form.foldl _ (fun u t hu => State.commitLocal_form _ _ hu) _ _ ?_
    refine Form.ite ?_ (Form.same (State.dialEcc_kept ..) ?_) <;> refine State.commitBegin_form _ ?_ <;> rw [State.kept_mk, State.kept_eta] <;>
      exact h

theorem State.peekDial_kept (s : State) (a2 : _) : (State.peekDial s a2).kept = s.kept := by
  unfold State.peekDial; simp only [State.kept_mk, State.kept_eta, State.dialRead_kept, State.draw_kept, State.set_kept]
theorem State.rebaseCmd_kept (s : State) : (State.rebaseCmd s).kept = s.kept := by
  unfold State.rebaseCmd; (repeat' split) <;> first | with_reducible rfl | simp only [State.kept_mk, State.kept_eta, State.set_kept] | rfl
theorem State.clearCmd_kept (s : State) : (State.clearCmd s).kept = s.kept := by
  unfold State.clearCmd; (repeat' split) <;> first | with_reducible rfl | simp only [State.kept_mk, State.kept_eta, State.dialClearStart_kept, State.set_kept] | rfl
theorem State.sweepSlot_form {q : List Instr} (s : State) (a2 : _) (a3 : _) (h : Form q s.kept) : Form q (State.sweepSlot s a2 a3).kept := by
  unfold State.sweepSlot; (repeat' split) <;> first | exact h | simp only [State.kept_mk, State.kept_eta, State.dialEcc_kept, State.sweepServe_form, h]
theorem State.peerRead_kept (s : State) (a2 : _) : (State.peerRead s a2).kept = s.kept := by
  unfold State.peerRead; dsimp only; (repeat' split) <;> first | with_reducible rfl | simp only [State.kept_mk, State.kept_eta, State.kept_foldl, implies_true, State.remoteOwn_kept, State.remoteStart_kept] | rfl
theorem State.peerCheckStart_kept (s : State) : (State.peerCheckStart s).kept = s.kept := by
  unfold State.peerCheckStart; simp only [State.kept_mk, State.kept_eta, State.kept_foldl, implies_true, State.peerRead_kept]
theorem State.ddepFlush_kept (s : State) (a2 : _) : (State.ddepFlush s a2).kept = s.kept := by
  unfold State.ddepFlush; grind only [State.kept_mk, State.kept_eta, State.skUnicast_kept, State.set_kept]
theorem State.brgCommit_kept (s : State) : (State.brgCommit s).kept = s.kept := by
  unfold State.brgCommit; (repeat' split) <;> first | with_reducible rfl | simp only [State.kept_mk, State.kept_eta, State.set_kept, State.commitShadow_kept] | rfl
theorem State.pieceOver_kept (s : State) (a2 : _) (a3 : _) : (State.pieceOver s a2 a3).kept = s.kept := by
  unfold State.pieceOver; simp only [State.kept_mk, State.kept_eta, State.floatCheck_kept, State.modEsc_kept]
theorem State.lateRecord_kept (s : State) (a2 : _) (a3 : _) : (State.lateRecord s a2 a3).kept = s.kept := by
  unfold State.lateRecord; grind only [State.kept_mk, State.kept_eta, State.incSat_kept, State.addSat_kept]
theorem State.enqueuePiece_kept (s : State) (a2 : _) (a3 : _) (a4 : _) (a5 : _) (a6 : _) (a7 : _) (a8 : _) (a9 : _) (a10 : _) (a11 : _) (a12 : _) : (State.enqueuePiece s a2 a3 a4 a5 a6 a7 a8 a9 a10 a11 a12).kept = s.kept := by
  unfold State.enqueuePiece; simp only [State.kept_mk, State.kept_eta, State.lateRecord_kept, State.setPxyz_kept, State.setQueue_kept, State.setEsc_kept]
theorem State.recordPiece_kept (s : State) (a2 : _) (a3 : _) (a4 : _) (a5 : _) (a6 : _) : (State.recordPiece s a2 a3 a4 a5 a6).kept = s.kept := by
  unfold State.recordPiece; grind only [State.kept_mk, State.kept_eta, State.pieceOver_kept, State.enqueuePiece_kept]
theorem State.recordUse_kept (s : State) (a2 : _) (a3 : _) (a4 : _) (a5 : _) (a6 : _) (a7 : _) : (State.recordUse s a2 a3 a4 a5 a6 a7).kept = s.kept := by
  unfold State.recordUse; (repeat' split) <;> first | with_reducible rfl | simp only [State.kept_mk, State.kept_eta, State.pieceOver_kept, State.orphan_kept, State.set_kept, State.recordPiece_kept] | rfl
theorem State.claimGrant_kept (s : State) (a2 : _) : (State.claimGrant s a2).kept = s.kept := by
  unfold State.claimGrant; (repeat' split) <;> first | with_reducible rfl | simp only [State.kept_mk, State.kept_eta, State.grantZone_kept, State.setZoneQueue_kept] | rfl
theorem State.recordArrive_kept (s : State) (a2 : _) (a3 : _) : (State.recordArrive s a2 a3).kept = s.kept := by
  unfold State.recordArrive; dsimp only; (repeat' split) <;> first | with_reducible rfl | simp only [State.kept_mk, State.kept_eta, State.kept_foldl, implies_true, State.eccEvent_kept, State.recordUse_kept] | rfl
theorem State.bridgeClear_kept (s : State) : (State.bridgeClear s).kept = s.kept := by
  unfold State.bridgeClear; simp only [State.kept_mk, State.kept_eta, State.releaseEveryZone_kept]
theorem State.resetBridge_kept (s : State) : (State.resetBridge s).kept = s.kept := by
  unfold State.resetBridge; (try dsimp only); (repeat' split) <;> (repeat (first | rw [State.kept_foldl] | simp only [State.kept_mk, State.kept_eta, State.releaseZone_kept, State.modEsc_kept, State.orphan_kept, State.bridgeClear_kept, State.resetRegs_kept])) <;> (try intros) <;> (try dsimp only) <;> (repeat' split) <;> first | with_reducible rfl | simp only [State.kept_mk, State.kept_eta, State.kept_foldl, implies_true, State.releaseZone_kept, State.modEsc_kept, State.orphan_kept, State.bridgeClear_kept, State.resetRegs_kept, apply_ite State.kept, ite_self] | simp only [State.kept_mk, State.kept_eta, State.kept_foldl, implies_true, State.releaseZone_kept, State.modEsc_kept, State.orphan_kept, State.bridgeClear_kept, State.resetRegs_kept, apply_ite State.kept, ite_self, *] | rfl
theorem State.undrawnCheck_kept (s : State) : (State.undrawnCheck s).kept = s.kept := by
  unfold State.undrawnCheck; grind only [State.kept_mk, State.kept_eta, State.pulse_kept, State.set_kept]
theorem State.bridgeDraw_kept (s : State) (a2 : _) : (State.bridgeDraw s a2).kept = s.kept := by
  unfold State.bridgeDraw; grind only [State.kept_mk, State.kept_eta, State.floatCheck_kept, State.setEsc_kept, State.set_kept]
theorem State.claimJoin_kept (s : State) (a2 : _) : (State.claimJoin s a2).kept = s.kept := by
  unfold State.claimJoin; (repeat' split) <;> first | with_reducible rfl | simp only [State.kept_mk, State.kept_eta, State.setZoneQueue_kept] | rfl
theorem State.holdTimeout_kept (s : State) (a2 : _) : (State.holdTimeout s a2).kept = s.kept := by
  unfold State.holdTimeout; grind only [State.kept_mk, State.kept_eta, State.pulse_kept, State.set_kept, State.setEsc_kept]
theorem State.claimRefuse_kept (s : State) (a2 : _) : (State.claimRefuse s a2).kept = s.kept := by
  unfold State.claimRefuse; (repeat' split) <;> first | with_reducible rfl | simp only [State.kept_mk, State.kept_eta, State.endWait_kept, State.set_kept, State.leaveClaims_kept] | rfl
theorem State.bridgeGrants_kept (s : State) (a2 : _) : (State.bridgeGrants s a2).kept = s.kept := by
  unfold State.bridgeGrants; simp only [State.kept_mk, State.kept_eta, State.kept_foldl, implies_true, State.claimRefuse_kept, State.claimGrant_kept, State.claimJoin_kept]
theorem State.bridgeArm_kept (s : State) : (State.bridgeArm s).kept = s.kept := by
  unfold State.bridgeArm; simp only [State.kept_mk, State.kept_eta, State.kept_foldl, implies_true, State.set_kept, apply_ite State.kept, ite_self]
theorem State.expireResv_kept (s : State) (a2 : _) : (State.expireResv s a2).kept = s.kept := by
  unfold State.expireResv; grind only [State.kept_mk, State.kept_eta, State.setEsc_kept]
theorem State.bridgeReleases_kept (s : State) : (State.bridgeReleases s).kept = s.kept := by
  unfold State.bridgeReleases; simp only [State.kept_mk, State.kept_eta, State.kept_foldl, implies_true, State.breakStretch_kept, State.releaseZone_kept, State.expireResv_kept, apply_ite State.kept, ite_self]

end Sys2Proof.Machine
end

