-- ==== Sys2Proof/Laws/KeptMachine.lean ====
section
/-! SUPPORT. What modes, resets, faults and accesses leave of the queue, memory and the NV array (`kept`), and that what they store keeps
the canonical form (`form`). -/
namespace Sys2Proof.Machine

theorem State.pendRequest_kept (s : State) (a2 : _) : (State.pendRequest s a2).kept = s.kept := by
  unfold State.pendRequest; (repeat' split) <;> first | with_reducible rfl | simp only [State.kept_mk, State.kept_eta, State.set_kept] | rfl
theorem State.readyCheck_kept (s : State) : (State.readyCheck s).kept = s.kept := by
  unfold State.readyCheck; simp only [State.kept_mk, State.kept_eta, State.kept_foldl, implies_true, State.raise_kept, State.set_kept, apply_ite State.kept, ite_self]
theorem State.joinStart_kept (s : State) : (State.joinStart s).kept = s.kept := by
  unfold State.joinStart; simp only [State.kept_mk, State.kept_eta, State.unjoin_kept, State.set_kept]
theorem State.enterBlocks_kept (s : State) (a2 : _) : (State.enterBlocks s a2).kept = s.kept := by
  unfold State.enterBlocks; grind only [State.kept_mk, State.kept_eta, State.peerCheckStart_kept, State.bridgeArm_kept, State.calAbort_kept, State.skReport_kept, State.readyCheck_kept, State.set_kept, State.undrawnCheck_kept, State.bridgeClear_kept, State.calEnter_kept, State.freezeAll_kept, State.illAllOff_kept, State.joinStart_kept, State.camOff_kept, State.axesOff_kept, State.hackAssert_kept, State.setDryRun_kept, State.brgCommit_kept, State.dialCommit_kept, State.hlPmAll_kept, State.motMode_kept]
theorem State.leaveMode_kept (s : State) (a2 : _) (a3 : _) : (State.leaveMode s a2 a3).kept = s.kept := by
  unfold State.leaveMode; simp only [State.kept_mk, State.kept_eta, State.kept_foldl, implies_true, State.disarmAll_kept, State.lasersSafe_kept, State.lower_kept, State.portRefresh_kept, State.injStopAll_kept, State.bridgeClear_kept, State.unfreezeAll_kept, State.closeAll_kept, State.unjoin_kept, State.illResume_kept, apply_ite State.kept, ite_self]
theorem State.enterMode_kept (s : State) (a2 : _) (a3 : _) (a4 : _) : (State.enterMode s a2 a3 a4).kept = s.kept := by
  unfold State.enterMode; simp only [State.kept_mk, State.kept_eta, State.kept_foldl, implies_true, State.set_kept, State.incWrap_kept, State.enterBlocks_kept, State.leaveMode_kept, State.modeRecord_kept, State.skBroadcast_kept, State.refreshLine_kept, apply_ite State.kept, ite_self]
theorem State.startRelease_kept (s : State) : (State.startRelease s).kept = s.kept := by
  unfold State.startRelease; simp only [State.kept_mk, State.kept_eta, State.kept_foldl, implies_true, State.set_kept, State.enterMode_kept, State.setPair_kept, State.startEsc_kept, State.pulse_kept, apply_ite State.kept, ite_self]
theorem State.reject_kept (s : State) (a2 : _) (a3 : _) (a4 : _) : (State.reject s a2 a3 a4).kept = s.kept := by
  unfold State.reject; (repeat' split) <;> first | with_reducible rfl | simp only [State.kept_mk, State.kept_eta, State.kept_foldl, implies_true, State.set_kept, State.pulse_kept] | rfl
theorem State.acceptRequest_kept (s : State) (a2 : _) : (State.acceptRequest s a2).kept = s.kept := by
  unfold State.acceptRequest; (repeat' split) <;> first | with_reducible rfl | simp only [State.kept_mk, State.kept_eta, State.set_kept] | rfl
theorem State.submit_kept (s : State) (a2 : _) : (State.submit s a2).kept = s.kept := by
  unfold State.submit; grind only [State.kept_mk, State.kept_eta, State.reject_kept, State.pendRequest_kept, State.acceptRequest_kept]
theorem State.modeRequest_kept (s : State) (a2 : _) (a3 : _) : (State.modeRequest s a2 a3).kept = s.kept := by
  unfold State.modeRequest; (repeat' split) <;> first | with_reducible rfl | simp only [State.kept_mk, State.kept_eta, State.set_kept, State.submit_kept] | rfl
theorem State.armingBeat_kept (s : State) : (State.armingBeat s).kept = s.kept := by
  unfold State.armingBeat; grind only [State.kept_mk, State.kept_eta, State.armAll_kept]
theorem State.bcastMode_kept (s : State) (a2 : _) : (State.bcastMode s a2).kept = s.kept := by
  unfold State.bcastMode; grind only [State.kept_mk, State.kept_eta, State.enterMode_kept, State.submit_kept]
theorem State.layerComplete_kept (s : State) : (State.layerComplete s).kept = s.kept := by
  unfold State.layerComplete; grind only [State.kept_mk, State.kept_eta, State.set_kept, State.skReport_kept, State.refreshLine_kept, State.enterMode_kept]
theorem State.joinFail_kept (s : State) : (State.joinFail s).kept = s.kept := by
  unfold State.joinFail; grind only [State.kept_mk, State.kept_eta, State.pulse_kept, State.set_kept, State.unjoin_kept, State.enterMode_kept]
theorem State.joined_kept (s : State) (a2 : _) : (State.joined s a2).kept = s.kept := by
  unfold State.joined; grind only [State.kept_mk, State.kept_eta, State.joinFail_kept, State.enterMode_kept, State.set_kept]
theorem State.dropPending_kept (s : State) : (State.dropPending s).kept = s.kept := by
  unfold State.dropPending; simp only [State.kept_mk, State.kept_eta, State.set_kept]
theorem State.pendingStart_kept (s : State) : (State.pendingStart s).kept = s.kept := by
  unfold State.pendingStart; grind only [State.kept_mk, State.kept_eta, State.dropPending_kept, State.reject_kept, State.acceptRequest_kept]
theorem State.startDueNow_kept (s : State) : (State.startDueNow s).kept = s.kept := by
  unfold State.startDueNow; (repeat' split) <;> first | with_reducible rfl | simp only [State.kept_mk, State.kept_eta, State.startRelease_kept] | rfl
theorem State.forceHalted_kept (s : State) (a2 : _) : (State.forceHalted s a2).kept = s.kept := by
  unfold State.forceHalted; grind only [State.kept_mk, State.kept_eta]
theorem State.preemptPending_kept (s : State) : (State.preemptPending s).kept = s.kept := by
  unfold State.preemptPending; (repeat' split) <;> first | with_reducible rfl | simp only [State.kept_mk, State.kept_eta, State.set_kept, State.dropPending_kept] | rfl
theorem State.haltNow_kept (s : State) : (State.haltNow s).kept = s.kept := by
  unfold State.haltNow; grind only [State.kept_mk, State.kept_eta, State.preemptPending_kept, State.set_kept, State.enterMode_kept]
theorem State.recoatNow_kept (s : State) : (State.recoatNow s).kept = s.kept := by
  unfold State.recoatNow; (repeat' split) <;> first | with_reducible rfl | simp only [State.kept_mk, State.kept_eta, State.enterMode_kept] | rfl
theorem State.joinTimeout_kept (s : State) : (State.joinTimeout s).kept = s.kept := by
  unfold State.joinTimeout; (repeat' split) <;> first | with_reducible rfl | simp only [State.kept_mk, State.kept_eta, State.joinFail_kept] | rfl
theorem State.transTimeout_kept (s : State) : (State.transTimeout s).kept = s.kept := by
  unfold State.transTimeout; grind only [State.kept_mk, State.kept_eta, State.enterMode_kept, State.preemptPending_kept, State.pulse_kept, State.set_kept]
theorem State.transComplete_kept (s : State) : (State.transComplete s).kept = s.kept := by
  unfold State.transComplete; grind only [State.kept_mk, State.kept_eta, State.enterMode_kept]
theorem State.skLoseLock_kept (s : State) (a2 : _) : (State.skLoseLock s a2).kept = s.kept := by
  unfold State.skLoseLock; (repeat' split) <;> first | with_reducible rfl | simp only [State.kept_mk, State.kept_eta, State.skPortDown_kept] | rfl
theorem State.skDdep_kept (s : State) (a2 : _) (a3 : _) (a4 : _) : (State.skDdep s a2 a3 a4).kept = s.kept := by
  unfold State.skDdep; dsimp only; (repeat' split) <;> first | with_reducible rfl | simp only [State.kept_mk, State.kept_eta, State.kept_foldl, implies_true, State.skAccept_kept, State.ddepRecord_kept, State.skForward_kept] | rfl
theorem State.elect_kept (s : State) : (State.elect s).kept = s.kept := by
  unfold State.elect; simp only [State.kept_mk, State.kept_eta, State.kept_foldl, implies_true, State.set_kept, apply_ite State.kept, ite_self]
theorem State.showInJoin_kept (s : State) : (State.showInJoin s).kept = s.kept := by
  unfold State.showInJoin; simp only [State.kept_mk, State.kept_eta, State.kept_foldl, implies_true, State.set_kept]
theorem State.helloSend_kept (s : State) : (State.helloSend s).kept = s.kept := by
  unfold State.helloSend; simp only [State.kept_mk, State.kept_eta, State.kept_foldl, implies_true, State.elect_kept, State.showInJoin_kept, State.skSend_kept, apply_ite State.kept, ite_self]
theorem State.timeExchange_kept (s : State) : (State.timeExchange s).kept = s.kept := by
  unfold State.timeExchange; grind only [State.kept_mk, State.kept_eta, State.exchangeFailed_kept, State.draw_kept, State.skSend_kept]
theorem State.moveTimes_kept (s : State) (a2 : _) : (State.moveTimes s a2).kept = s.kept := by
  unfold State.moveTimes; simp only [State.kept_mk, State.kept_eta]
theorem State.joinCorrect_kept (s : State) (a2 : _) : (State.joinCorrect s a2).kept = s.kept := by
  unfold State.joinCorrect; simp only [State.kept_mk, State.kept_eta, State.kept_foldl, implies_true, State.skReport_kept, State.set_kept, State.stepBeats_kept, State.moveTimes_kept, State.hlTime_kept, apply_ite State.kept, ite_self]
theorem State.trackCorrect_kept (s : State) (a2 : _) : (State.trackCorrect s a2).kept = s.kept := by
  unfold State.trackCorrect; (repeat' split) <;> first | with_reducible rfl | simp only [State.kept_mk, State.kept_eta, State.pulse_kept, State.set_kept] | rfl
theorem State.skTresp_kept (s : State) (a2 : _) (a3 : _) (a4 : _) : (State.skTresp s a2 a3 a4).kept = s.kept := by
  unfold State.skTresp; dsimp only; (repeat' split) <;> first | with_reducible rfl | simp only [State.kept_mk, State.kept_eta, State.kept_foldl, implies_true, State.skArrive_kept, State.exchangeFailed_kept, State.set_kept, State.joinCorrect_kept, State.trackCorrect_kept, apply_ite State.kept, ite_self] | simp only [State.kept_mk, State.kept_eta, State.kept_foldl, implies_true, State.skArrive_kept, State.exchangeFailed_kept, State.set_kept, State.joinCorrect_kept, State.trackCorrect_kept, apply_ite State.kept, ite_self, *] | rfl
theorem State.skIdleArrive_kept (s : State) (a2 : _) (a3 : _) : (State.skIdleArrive s a2 a3).kept = s.kept := by
  unfold State.skIdleArrive; grind only [State.kept_mk, State.kept_eta, State.skArrive_kept, State.skPump_kept, State.setSkp_kept]
theorem State.collect_kept (s : State) (a2 : _) (a3 : _) (a4 : _) (a5 : _) : (State.collect s a2 a3 a4 a5).kept = s.kept := by
  unfold State.collect; simp only [State.kept_mk, State.kept_eta]
theorem State.skReportArrive_kept (s : State) (a2 : _) (a3 : _) (a4 : _) (a5 : _) : (State.skReportArrive s a2 a3 a4 a5).kept = s.kept := by
  unfold State.skReportArrive; grind only [State.kept_mk, State.kept_eta, State.skAccept_kept, State.reportAct_kept, State.skForward_kept]
theorem State.topoSend_kept (s : State) : (State.topoSend s).kept = s.kept := by
  unfold State.topoSend; (repeat' split) <;> first | with_reducible rfl | simp only [State.kept_mk, State.kept_eta, State.set_kept, State.collect_kept, State.skSend_kept] | rfl
theorem State.skBcast_kept (s : State) (a2 : _) (a3 : _) (a4 : _) : (State.skBcast s a2 a3 a4).kept = s.kept := by
  unfold State.skBcast; grind only [State.kept_mk, State.kept_eta, State.skAccept_kept, State.skSchedule_kept, State.skTree_kept]
theorem State.skTrain_kept (s : State) (a2 : _) : (State.skTrain s a2).kept = s.kept := by
  unfold State.skTrain; simp only [State.kept_mk, State.kept_eta, State.set_kept, State.setSkp_kept]
theorem State.skRetrain_kept (s : State) (a2 : _) : (State.skRetrain s a2).kept = s.kept := by
  unfold State.skRetrain; (repeat' split) <;> first | with_reducible rfl | simp only [State.kept_mk, State.kept_eta, State.skPortDown_kept, State.skTrain_kept] | rfl
theorem State.skHello_kept (s : State) (a2 : _) (a3 : _) (a4 : _) : (State.skHello s a2 a3 a4).kept = s.kept := by
  unfold State.skHello; grind only [State.kept_mk, State.kept_eta, State.skArrive_kept, State.elect_kept, State.showInJoin_kept, State.set_kept, State.setSkp_kept]
theorem State.bcmdWrite_kept (s : State) (a2 : _) : (State.bcmdWrite s a2).kept = s.kept := by
  unfold State.bcmdWrite; grind only [State.kept_mk, State.kept_eta, State.set_kept, State.skBroadcast_kept]
theorem State.mapDone_kept (s : State) : (State.mapDone s).kept = s.kept := by
  unfold State.mapDone; grind only [State.kept_mk, State.kept_eta, State.buildRoutes_kept, State.skReport_kept, State.set_kept]
theorem State.assignAct_kept (s : State) (a2 : _) (a3 : _) (a4 : _) (a5 : _) (a6 : _) : (State.assignAct s a2 a3 a4 a5 a6).kept = s.kept := by
  unfold State.assignAct; grind only [State.kept_mk, State.kept_eta, State.set_kept, State.mapDone_kept]
theorem State.addressAssign_kept (s : State) : (State.addressAssign s).kept = s.kept := by
  unfold State.addressAssign; dsimp only; (repeat' split) <;> first | with_reducible rfl | simp only [State.kept_mk, State.kept_eta, State.kept_foldl, implies_true, State.assignAct_kept, State.skTree_kept, State.set_kept] | rfl
theorem State.bcmdRow_kept (s : State) (a2 : _) (a3 : _) : (State.bcmdRow s a2 a3).kept = s.kept := by
  unfold State.bcmdRow; simp only [State.kept_mk, State.kept_eta, State.bcmdWrite_kept]
theorem State.skPortUp_kept (s : State) (a2 : _) : (State.skPortUp s a2).kept = s.kept := by
  unfold State.skPortUp; (repeat' split) <;> first | with_reducible rfl | simp only [State.kept_mk, State.kept_eta, State.draw_kept, State.setSkp_kept, State.set_kept] | rfl
theorem State.skTopo_kept (s : State) (a2 : _) (a3 : _) (a4 : _) : (State.skTopo s a2 a3 a4).kept = s.kept := by
  unfold State.skTopo; grind only [State.kept_mk, State.kept_eta, State.skAccept_kept, State.collect_kept, State.skSend_kept]
theorem State.skResponse_kept (s : State) (a2 : _) (a3 : _) (a4 : _) (a5 : _) : (State.skResponse s a2 a3 a4 a5).kept = s.kept := by
  unfold State.skResponse; grind only [State.kept_mk, State.kept_eta, State.skAccept_kept, State.pieceDone_kept, State.skForward_kept]
theorem State.skCtlWrite_kept (s : State) (a2 : _) (a3 : _) : (State.skCtlWrite s a2 a3).kept = s.kept := by
  unfold State.skCtlWrite; grind only [State.kept_mk, State.kept_eta, State.set_kept, State.skTrain_kept, State.skPortDown_kept, State.skRetrain_kept]
theorem State.skReplay_kept (s : State) (a2 : _) : (State.skReplay s a2).kept = s.kept := by
  unfold State.skReplay; dsimp only; (repeat' split) <;> first | with_reducible rfl | simp only [State.kept_mk, State.kept_eta, State.kept_foldl, implies_true, State.incSat_kept, State.setSkp_kept, State.skPortDown_kept, State.sendFlit_kept] | rfl
theorem State.skTrainTimeout_kept (s : State) (a2 : _) : (State.skTrainTimeout s a2).kept = s.kept := by
  unfold State.skTrainTimeout; grind only [State.kept_mk, State.kept_eta, State.setSkp_kept, State.set_kept]
theorem State.skTsync_kept (s : State) (a2 : _) (a3 : _) (a4 : _) : (State.skTsync s a2 a3 a4).kept = s.kept := by
  unfold State.skTsync; grind only [State.kept_mk, State.kept_eta, State.skArrive_kept, State.skSend_kept, State.draw_kept]
theorem State.skAssign_kept (s : State) (a2 : _) (a3 : _) (a4 : _) : (State.skAssign s a2 a3 a4).kept = s.kept := by
  unfold State.skAssign; grind only [State.kept_mk, State.kept_eta, State.skAccept_kept, State.assignAct_kept, State.skTree_kept]
theorem State.avsFail_kept (s : State) : (State.avsFail s).kept = s.kept := by
  unfold State.avsFail; simp only [State.kept_mk, State.kept_eta, State.pulse_kept, State.set_kept]
theorem State.avsTimeout_kept (s : State) : (State.avsTimeout s).kept = s.kept := by
  unfold State.avsTimeout; (repeat' split) <;> first | with_reducible rfl | simp only [State.kept_mk, State.kept_eta, State.avsFail_kept] | rfl
theorem State.dramRefresh_kept (s : State) (a2 : _) : (State.dramRefresh s a2).kept = s.kept := by
  unfold State.dramRefresh; simp only [State.kept_mk, State.kept_eta, State.set_kept]
theorem State.resetDrc_kept (s : State) : (State.resetDrc s).kept = s.kept := by
  unfold State.resetDrc; simp only [State.kept_mk, State.kept_eta, State.set_kept, State.resetRegs_kept, State.dramRefresh_kept]
theorem State.nvCut_form {q : List Instr} (s : State) (h : Form q s.kept) : Form q (State.nvCut s).kept := by
  unfold State.nvCut
  refine Form.foldl _ (fun u r hu => ?_) _ _ (State.trimCut_form _ h)
  split
  · rw [State.draw_kept]
    split
    · exact State.nvStore_form _ _ _ hu
    · exact hu
  · exact hu

theorem State.freeBytes_form {q : List Instr} (s : State) (a2 : _) (h : Form q s.kept) : Form q (State.freeBytes s a2).kept := by
  induction a2 generalizing s with
  | nil => exact h
  | cons a t ih =>
    unfold State.freeBytes
    exact ih _ (Form.same (State.draw_kept _) (State.setByte_form _ _ _ h))

theorem State.dmaCut_form {q : List Instr} (s : State) (a2 : _) (h : Form q s.kept) : Form q (State.dmaCut s a2).kept := by
  unfold State.dmaCut; (repeat' split) <;> first | exact h | simp only [State.kept_mk, State.kept_eta, State.draw_kept, State.set_kept, State.freeBytes_form, h]
theorem State.resetHost_form {q : List Instr} (s : State) (h : Form q s.kept) : Form q (State.resetHost s).kept := by
  unfold State.resetHost
  refine Form.foldl _ (fun u c hu => Form.same (State.refreshLine_kept ..) hu) _ _ ?_
  rw [State.resetRegs_kept, State.kept_mk, State.kept_eta]
  exact Form.foldl (fun (u : State) c => u.dmaCut c) (fun u c hu => State.dmaCut_form _ _ hu) (List.range 4) s h

theorem State.resetPorts_kept (s : State) : (State.resetPorts s).kept = s.kept := by
  unfold State.resetPorts; simp only [State.kept_mk, State.kept_eta]
theorem State.resetSpl_kept (s : State) : (State.resetSpl s).kept = s.kept := by
  unfold State.resetSpl; simp only [State.kept_mk, State.kept_eta, State.resetRegs_kept]
theorem State.resetBlock_form {q : List Instr} (s : State) (a2 : _) (h : Form q s.kept) : Form q (State.resetBlock s a2).kept := by
  unfold State.resetBlock
  refine Form.ite (Form.same (State.resetEsc_kept ..) (Form.same (State.closeEvents_kept ..) h)) ?_
  refine Form.ite (Form.same (State.resetTrj_kept ..) h) ?_
  refine Form.ite (Form.same (State.resetReg_kept ..) h) ?_
  refine Form.ite (Form.same (State.resetHl_kept ..) h) ?_
  refine Form.ite (Form.same (State.resetBridge_kept ..) h) ?_
  refine Form.ite (show Form q (s.dialReset.resetRegs 0 (fun a => decide (0x2000400000 ≤ a) && decide (a < 0x2000410000))).kept from
    Form.same (State.resetRegs_kept ..) (State.dialReset_form _ h)) ?_
  refine Form.ite (Form.same (State.resetBal_kept ..) h) ?_
  refine Form.ite (Form.same (State.resetSkz_kept ..) h) ?_
  refine Form.ite (Form.same (State.resetImg_kept ..) h) ?_
  refine Form.ite (Form.same (State.resetIll_kept ..) h) ?_
  refine Form.ite (Form.same (State.resetMot_kept ..) h) ?_
  refine Form.ite (Form.same (State.resetEnc_kept ..) h) ?_
  refine Form.ite (State.resetCal_form _ h) ?_
  refine Form.ite (Form.same (State.resetChr_kept ..) h) ?_
  refine Form.ite (Form.same (State.resetNv_kept ..) h) ?_
  refine Form.ite (State.resetHost_form _ h) ?_
  refine Form.ite (Form.same (State.resetDrc_kept ..) h) ?_
  refine Form.ite (Form.same (State.resetPorts_kept ..) h) ?_
  exact Form.same (State.resetSpl_kept ..) h

theorem State.dramLost_form {q : List Instr} (s : State) (h : Form q s.kept) : Form q (State.dramLost s).kept := by
  unfold State.dramLost; simp only [State.kept_mk, State.kept_eta, State.freeBytes_form, h]
theorem State.setRail_kept (s : State) (a2 : _) (a3 : _) : (State.setRail s a2 a3).kept = s.kept := by
  unfold State.setRail; simp only [State.kept_mk, State.kept_eta]
theorem State.dropAll_kept (s : State) : (State.dropAll s).kept = s.kept := by
  unfold State.dropAll; simp only [State.kept_mk, State.kept_eta, State.kept_foldl, implies_true, State.emit_kept, apply_ite State.kept, ite_self]
theorem State.clearReach_form {q : List Instr} (s : State) (a2 : _) (h : Form q s.kept) : Form q (State.clearReach s a2).kept := by
  unfold State.clearReach
  dsimp only
  rw [State.set_kept, State.kept_foldl _ (fun u k => State.setSrcBit_kept ..)]
  split
  · simp only [State.kept_mk, State.kept_eta]
    refine State.zeroMem_form _ _ _ ?_
    simp only [State.resetRegs_kept]
    exact State.zeroMem_form _ _ _ h
  · simp only [State.resetRegs_kept]
    exact State.zeroMem_form _ _ _ h

theorem State.assertReset_form {q : List Instr} (s : State) (a2 : _) (h : Form q s.kept) : Form q (State.assertReset s a2).kept := by
  unfold State.assertReset; grind only [State.kept_mk, State.kept_eta, State.set_kept, State.dramRefresh_kept, State.emit_kept, State.clearReach_form, State.nvCut_form]
theorem State.releaseReset_kept (s : State) (a2 : _) : (State.releaseReset s a2).kept = s.kept := by
  unfold State.releaseReset; simp only [State.kept_mk, State.kept_eta]
theorem State.backupLoss_form {q : List Instr} (s : State) (a2 : _) (h : Form q s.kept) : Form q (State.backupLoss s a2).kept := by
  unfold State.backupLoss; (repeat' split) <;> first | exact h | simp only [State.kept_mk, State.kept_eta, State.dropAll_kept, State.releaseReset_kept, State.assertReset_form, h]
theorem State.seqCheck_kept (s : State) : (State.seqCheck s).kept = s.kept := by
  unfold State.seqCheck; (repeat' split) <;> first | with_reducible rfl | simp only [State.kept_mk, State.kept_eta] | rfl
theorem State.portsFollow_kept (s : State) : (State.portsFollow s).kept = s.kept := by
  unfold State.portsFollow; simp only [State.kept_mk, State.kept_eta, State.kept_foldl, implies_true, State.portRefresh_kept, State.setDac_kept, apply_ite State.kept, ite_self]
theorem State.blockEnd_kept (s : State) (a2 : _) : (State.blockEnd s a2).kept = s.kept := by
  unfold State.blockEnd; grind only [State.kept_mk, State.kept_eta, State.portsFollow_kept, State.showPins_kept]
theorem State.railAbove_kept (s : State) (a2 : _) (a3 : _) : (State.railAbove s a2 a3).kept = s.kept := by
  unfold State.railAbove; grind only [State.kept_mk, State.kept_eta, State.incSat_kept, State.seqCheck_kept, State.setRail_kept, State.setPin_kept]
theorem State.pwrTimeout_form {q : List Instr} (s : State) (h : Form q s.kept) : Form q (State.pwrTimeout s).kept := by
  unfold State.pwrTimeout; (repeat' split) <;> first | exact h | simp only [State.kept_mk, State.kept_eta, State.dropAll_kept, State.assertReset_form, h]
theorem State.linksDown_kept (s : State) : (State.linksDown s).kept = s.kept := by
  unfold State.linksDown; simp only [State.kept_mk, State.kept_eta, State.kept_foldl, implies_true, State.unjoin_kept, State.set_kept, State.setSkp_kept]
theorem State.lpEnter_form {q : List Instr} (s : State) (h : Form q s.kept) : Form q (State.lpEnter s).kept := by
  unfold State.lpEnter
  split
  · extract_lets posted lp s1 s2 s3 s4 t s5 src s6
    refine Form.ite h ?_
    have h1 : Form q s1.kept := by simp only [s1, State.motAllOff_kept]; exact h
    have h2 : Form q s2.kept := Form.ite (Form.same (State.hlRest_kept ..) h1)
      (Form.ite (Form.same ((State.linksDown_kept ..).trans (State.hlAllOff_kept ..)) h1) h1)
    have h3 : Form q s3.kept := Form.ite (Form.same ((State.set_kept ..).trans (State.dramRefresh_kept ..)) h2) h2
    have h4 : Form q s4.kept := Form.same (State.enterMode_kept ..) h3
    have h5 : Form q s5.kept := Form.ite (Form.foldl _ (fun u n hu => Form.same (State.setQueue_kept ..) hu) _ _
      (by rw [State.kept_mk, State.kept_eta]; exact State.zeroMem_form _ _ _ h4)) h4
    have h6 : Form q s6.kept := Form.ite (Form.same (State.dropAll_kept ..) h5) (Form.ite (by rw [State.kept_mk, State.kept_eta]; exact h5) h5)
    rw [State.set_kept, State.kept_mk, State.kept_eta]
    exact h6
  · exact h

theorem State.blockReset_form {q : List Instr} (s : State) (a2 : _) (h : Form q s.kept) : Form q (State.blockReset s a2).kept := by
  unfold State.blockReset; grind only [State.kept_mk, State.kept_eta, State.portsFollow_kept, State.resetBlock_form]
theorem State.brstWrite_form {q : List Instr} (s : State) (a2 a3 : _) (h : Form q s.kept) : Form q (State.brstWrite s a2 a3).kept := by
  unfold State.brstWrite
  refine Form.foldl _ (fun u c hu => ?_) _ _ h
  split
  · exact State.blockReset_form _ _ hu
  · exact hu

theorem State.resetPin_form {q : List Instr} (s : State) (a2 : _) (h : Form q s.kept) : Form q (State.resetPin s a2).kept := by
  unfold State.resetPin
  split
  · exact h
  · simp only
    split
    · exact h
    · split
      · exact State.assertReset_form _ _ h
      · exact h
    · exact State.assertReset_form _ _ h

theorem State.raiseGroup_kept (s : State) (a2 : _) : (State.raiseGroup s a2).kept = s.kept := by
  unfold State.raiseGroup; simp only [State.kept_mk, State.kept_eta, State.kept_foldl, implies_true, State.emit_kept, State.setRail_kept]
theorem State.wake_form {q : List Instr} (s : State) (a2 : _) (h : Form q s.kept) : Form q (State.wake s a2).kept := by
  unfold State.wake
  split
  · exact h
  · rename_i lp entered _
    split
    · exact h
    · split
      · exact State.resetPin_form _ _ h
      · simp only
        split
        · simp only [State.kept_mk, State.kept_eta, State.set_kept]; exact h
        · split
          · simp only [State.kept_mk, State.kept_eta, State.set_kept]; exact h
          · simp only [State.kept_mk, State.kept_eta]
            have h2 : ∀ (p : Prop) [Decidable p], Form q (if p then (s.set SYS_LP_STAT_WAKESRC a2).raiseGroup 3
                else { s.set SYS_LP_STAT_WAKESRC a2 with rst := { (s.set SYS_LP_STAT_WAKESRC a2).rst with pwrSeq := some ((s.set SYS_LP_STAT_WAKESRC a2).rst.clk, false) } }).kept := by
              intro p _
              split
              · rw [State.raiseGroup_kept, State.set_kept]; exact h
              · simp only [State.kept_mk, State.kept_eta, State.set_kept]; exact h
            split
            · exact State.assertReset_form _ _ (State.assertReset_form _ _ (by rw [State.raiseGroup_kept, State.set_kept]; exact h))
            · exact State.assertReset_form _ _ (by simp only [State.kept_mk, State.kept_eta, State.set_kept]; exact h)

theorem State.hotReset_form {q : List Instr} (s : State) (a2 : _) (h : Form q s.kept) : Form q (State.hotReset s a2).kept := by
  unfold State.hotReset; (repeat' split) <;> first | exact h | simp +contextual only [State.kept_foldl, implies_true, Form.foldl, State.kept_mk, State.kept_eta, State.releaseReset_kept, State.portsFollow_kept, State.assertReset_form, State.blockReset_form, h, apply_ite State.kept, ite_self]
theorem State.startLoad_kept (s : State) : (State.startLoad s).kept = s.kept := by
  unfold State.startLoad; simp only [State.kept_mk, State.kept_eta, State.set_kept, State.showPins_kept]
theorem State.pllLock_kept (s : State) : (State.pllLock s).kept = s.kept := by
  unfold State.pllLock; (repeat' split) <;> first | with_reducible rfl | simp only [State.kept_mk, State.kept_eta, State.startLoad_kept, State.set_kept] | rfl
theorem State.avsSend_kept (s : State) (a2 : _) : (State.avsSend s a2).kept = s.kept := by
  unfold State.avsSend; simp only [State.kept_mk, State.kept_eta, State.emit_kept]
theorem State.assertActive_kept (s : State) : (State.assertActive s).kept = s.kept := by
  unfold State.assertActive; simp only [State.kept_mk, State.kept_eta, State.kept_foldl, implies_true, State.assertSrc_kept]
theorem State.avsConfirm_kept (s : State) (a2 : _) : (State.avsConfirm s a2).kept = s.kept := by
  unfold State.avsConfirm; simp only [State.kept_mk, State.kept_eta, State.set_kept]
theorem State.avsAnswer_kept (s : State) (a2 : _) : (State.avsAnswer s a2).kept = s.kept := by
  unfold State.avsAnswer; (repeat' split) <;> first | with_reducible rfl | simp only [State.kept_mk, State.kept_eta, State.avsConfirm_kept, State.avsFail_kept] | rfl
theorem State.wdtStart_kept (s : State) : (State.wdtStart s).kept = s.kept := by
  unfold State.wdtStart; simp only [State.kept_mk, State.kept_eta, State.set_kept]
theorem State.wdtKick_kept (s : State) : (State.wdtKick s).kept = s.kept := by
  unfold State.wdtKick; (repeat' split) <;> first | with_reducible rfl | simp only [State.kept_mk, State.kept_eta, State.wdtStart_kept] | rfl
theorem State.wdtWrite_kept (s : State) (a2 : _) : (State.wdtWrite s a2).kept = s.kept := by
  unfold State.wdtWrite; (repeat' split) <;> first | with_reducible rfl | simp only [State.kept_mk, State.kept_eta, State.set_kept, State.wdtStart_kept] | rfl
theorem State.refA_kept (s : State) (a2 : _) : (State.refA s a2).kept = s.kept := by
  unfold State.refA; (repeat' split) <;> first | with_reducible rfl | simp only [State.kept_mk, State.kept_eta, State.raise_kept, State.lower_kept] | rfl
theorem State.hoursTick_kept (s : State) : (State.hoursTick s).kept = s.kept := by
  unfold State.hoursTick; (repeat' split) <;> first | with_reducible rfl | simp only [State.kept_mk, State.kept_eta, State.set_kept, State.incWrap_kept] | rfl
theorem State.commitLoad_kept (s : State) : (State.commitLoad s).kept = s.kept := by
  unfold State.commitLoad; grind only [State.kept_mk, State.kept_eta, State.chrUsable_kept, State.trimCommit_kept, State.incWrap_kept, State.wdtStart_kept, State.set_kept, State.emit_kept, State.enterMode_kept, State.record_kept, State.assertActive_kept, State.pulse_kept]
theorem State.pwrRaise_form {q : List Instr} (s : State) (h : Form q s.kept) : Form q (State.pwrRaise s).kept := by
  unfold State.pwrRaise; dsimp only; (repeat' split) <;> first | exact h | simp only [State.kept_mk, State.kept_eta, State.raiseGroup_kept, State.assertReset_form, h]
theorem State.railMin_kept (s : State) (a2 : _) (a3 : _) : (State.railMin s a2 a3).kept = s.kept := by
  unfold State.railMin; simp only [State.kept_mk, State.kept_eta, State.set_kept]
theorem State.supSource_kept (s : State) : (State.supSource s).kept = s.kept := by
  unfold State.supSource; (repeat' split) <;> first | with_reducible rfl | simp only [State.kept_mk, State.kept_eta, State.releaseReset_kept] | rfl
theorem State.railReset_form {q : List Instr} (s : State) (a2 a3 a4 : _) (h : Form q s.kept) : Form q (State.railReset s a2 a3 a4).kept := by
  unfold State.railReset
  dsimp only
  have h1 : ∀ (b : Bool) (x : Rail), Form q ((if b then s.railMin a2 a4 else s).setRail a2 x).kept := by
    intro b x; rw [State.setRail_kept]; cases b
    · exact h
    · rw [if_pos rfl, State.railMin_kept]; exact h
  refine Form.ite h (Form.ite (State.assertReset_form _ _ (Form.ite ?_ (h1 _ _))) ?_)
  · rw [State.kept_mk, State.kept_eta]; exact h1 _ _
  · rw [State.supSource_kept]; exact h1 _ _

theorem State.pwrRestart_kept (s : State) : (State.pwrRestart s).kept = s.kept := by
  have h : ∀ (p : Prop) [Decidable p], (if p then s.raiseGroup 3 else s).kept = s.kept := by
    intro p _
    split
    · exact State.raiseGroup_kept ..
    · rfl
  unfold State.pwrRestart
  split
  · exact h _
  · rfl

theorem State.refB_kept (s : State) (a2 : _) : (State.refB s a2).kept = s.kept := by
  unfold State.refB; simp only [State.kept_mk, State.kept_eta, State.kept_foldl, implies_true, State.skPortDown_kept, State.raise_kept, State.set_kept, State.pulse_kept, State.lower_kept, State.skTrain_kept, apply_ite State.kept, ite_self]
theorem State.avsSlack_kept (s : State) (a2 : _) : (State.avsSlack s a2).kept = s.kept := by
  have hs : (s.set AVS_SLACK_LAST a2).kept = s.kept := State.set_kept ..
  unfold State.avsSlack
  dsimp only
  generalize s.set AVS_SLACK_LAST a2 = u at hs
  split
  · rfl
  · split
    · split
      · rw [State.avsSend_kept]; exact hs
      · exact hs
    · split
      · split
        · exact hs
        · split
          · rw [State.avsSend_kept]; exact hs
          · exact hs
      · exact hs

theorem State.pulseReset_form {q : List Instr} (s : State) (a2 : _) (h : Form q s.kept) : Form q (State.pulseReset s a2).kept := by
  unfold State.pulseReset; simp only [State.kept_mk, State.kept_eta, State.releaseReset_kept, State.assertReset_form, h]
theorem State.railBelow_kept (s : State) (a2 : _) (a3 : _) : (State.railBelow s a2 a3).kept = s.kept := by
  unfold State.railBelow; (repeat' split) <;> first | with_reducible rfl | simp only [State.kept_mk, State.kept_eta, State.railMin_kept, State.set_kept, State.setPin_kept, State.setRail_kept] | rfl
theorem State.wakeDone_kept (s : State) : (State.wakeDone s).kept = s.kept := by
  unfold State.wakeDone; (try dsimp only); (repeat' split) <;> (repeat (first | rw [State.kept_foldl] | simp only [State.kept_mk, State.kept_eta, State.releaseReset_kept, State.enterMode_kept, State.hlTrainAll_kept, State.hlWake_kept, State.skTrain_kept, State.dialClearStart_kept, State.wdtStart_kept])) <;> (try intros) <;> (try dsimp only) <;> (repeat' split) <;> first | with_reducible rfl | simp only [State.kept_mk, State.kept_eta, State.kept_foldl, implies_true, State.releaseReset_kept, State.enterMode_kept, State.hlTrainAll_kept, State.hlWake_kept, State.skTrain_kept, State.dialClearStart_kept, State.wdtStart_kept, apply_ite State.kept, ite_self] | simp only [State.kept_mk, State.kept_eta, State.kept_foldl, implies_true, State.releaseReset_kept, State.enterMode_kept, State.hlTrainAll_kept, State.hlWake_kept, State.skTrain_kept, State.dialClearStart_kept, State.wdtStart_kept, apply_ite State.kept, ite_self, *] | rfl
theorem State.backupStart_form {q : List Instr} (s : State) (h : Form q s.kept) : Form q (State.backupStart s).kept := by
  unfold State.backupStart; grind only [State.kept_mk, State.kept_eta, State.raiseGroup_kept, State.releaseReset_kept, State.assertReset_form]
theorem State.releaseDrive_kept (s : State) : (State.releaseDrive s).kept = s.kept := by
  unfold State.releaseDrive; grind only [State.kept_mk, State.kept_eta, State.emit_kept]
theorem State.resetNInput_form {q : List Instr} (s : State) (a2 : _) (h : Form q s.kept) : Form q (State.resetNInput s a2).kept := by
  unfold State.resetNInput; grind only [State.kept_mk, State.kept_eta, State.resetPin_form, State.wake_form]
theorem State.avsCtlWrite_kept (s : State) (a2 : _) : (State.avsCtlWrite s a2).kept = s.kept := by
  unfold State.avsCtlWrite; simp only [State.kept_mk, State.kept_eta, State.writeFields_kept]
theorem State.endReset_kept (s : State) : (State.endReset s).kept = s.kept := by
  unfold State.endReset; simp only [State.kept_mk, State.kept_eta, State.kept_foldl, implies_true, State.incSat_kept, State.startLoad_kept, apply_ite State.kept, ite_self]
theorem State.dieTemp_kept (s : State) (a2 : _) (a3 : _) : (State.dieTemp s a2 a3).kept = s.kept := by
  unfold State.dieTemp; (repeat' split) <;> first | with_reducible rfl | simp only [State.kept_mk, State.kept_eta, State.set_kept] | rfl
theorem State.maskLift_kept (s : State) (a2 : _) : (State.maskLift s a2).kept = s.kept := by
  unfold State.maskLift; simp only [State.kept_mk, State.kept_eta, State.kept_foldl, implies_true, State.assertSrc_kept, apply_ite State.kept, ite_self]
theorem State.escOver_kept (s : State) (a2 : _) : (State.escOver s a2).kept = s.kept := by
  unfold State.escOver; grind only [State.kept_mk, State.kept_eta, State.set_kept]
theorem State.wdtExpire_form {q : List Instr} (s : State) (h : Form q s.kept) : Form q (State.wdtExpire s).kept := by
  unfold State.wdtExpire; (repeat' split) <;> first | exact h | simp only [State.kept_mk, State.kept_eta, State.pulseReset_form, h]
theorem State.railDip_kept (s : State) (a2 : _) : (State.railDip s a2).kept = s.kept := by
  unfold State.railDip; (repeat' split) <;> first | with_reducible rfl | simp only [State.kept_mk, State.kept_eta, State.raise_kept, State.set_kept] | rfl
theorem State.wakeTimer_form {q : List Instr} (s : State) (h : Form q s.kept) : Form q (State.wakeTimer s).kept := by
  unfold State.wakeTimer; dsimp only; (repeat' split) <;> first | exact h | simp only [State.kept_mk, State.kept_eta, State.wake_form, h]
theorem State.supResume_kept (s : State) : (State.supResume s).kept = s.kept := by
  unfold State.supResume; grind only [State.kept_mk, State.kept_eta, State.lower_kept, State.set_kept]
theorem State.railRecovered_kept (s : State) (a2 : _) (a3 : _) : (State.railRecovered s a2 a3).kept = s.kept := by
  unfold State.railRecovered; (repeat' split) <;> first | with_reducible rfl | simp only [State.kept_mk, State.kept_eta, State.set_kept] | rfl
theorem State.regRead_kept (s : State) (a2 : _) (a3 : _) : (State.regRead s a2 a3).2.kept = s.kept := by
  unfold State.regRead; (repeat' split) <;> first | with_reducible rfl | simp only [State.kept_mk, State.kept_eta, State.peekDial_kept, State.clearRc_kept, State.set_kept] | rfl
theorem State.dramTouched_kept (s : State) (a2 : _) : (State.dramTouched s a2).kept = s.kept := by
  unfold State.dramTouched; (repeat' split) <;> first | with_reducible rfl | simp only [State.kept_mk, State.kept_eta] | rfl
theorem State.nvEcc_kept (s : State) (a2 : _) : (State.nvEcc s a2).2.kept = s.kept := by
  unfold State.nvEcc; (repeat' split) <;> first | with_reducible rfl | simp only [State.kept_mk, State.kept_eta, State.incSat_kept, State.pulse_kept, State.set_kept] | rfl
theorem State.localRead_kept (s : State) (a2 : _) (a3 : _) (a4 : _) (a5 : _) : (State.localRead s a2 a3 a4 a5).2.kept = s.kept := by
  unfold State.localRead; grind only [State.kept_mk, State.kept_eta, State.regRead_kept, State.eccEvent_kept, State.dramTouched_kept, State.freeLoad_kept, State.nvEcc_kept]
theorem State.chipReset_kept (s : State) : (State.chipReset s).kept = s.kept := by
  unfold State.chipReset; (repeat' split) <;> first | with_reducible rfl | simp only [State.kept_mk, State.kept_eta] | rfl
theorem State.hackCmd_kept (s : State) : (State.hackCmd s).kept = s.kept := by
  unfold State.hackCmd; (repeat' split) <;> first | with_reducible rfl | simp only [State.kept_mk, State.kept_eta, State.hackAssert_kept] | rfl
theorem State.splitMiss_kept (s : State) : (State.splitMiss s).kept = s.kept := by
  unfold State.splitMiss; simp only [State.kept_mk, State.kept_eta, State.incSat_kept, State.set_kept]
theorem State.railFault_kept (s : State) (a2 : _) : (State.railFault s a2).kept = s.kept := by
  unfold State.railFault; grind only [State.kept_mk, State.kept_eta, State.raise_kept, State.draw_kept, State.lower_kept]
theorem State.chipHoldEnd_form {q : List Instr} (s : State) (h : Form q s.kept) : Form q (State.chipHoldEnd s).kept := by
  unfold State.chipHoldEnd
  split
  · refine Form.ite (State.pulseReset_form _ _ ?_) h
    rw [State.haltNow_kept]; exact h
  · exact h

theorem State.splitTrigger_kept (s : State) (a2 : _) : (State.splitTrigger s a2).kept = s.kept := by
  unfold State.splitTrigger; (repeat' split) <;> first | with_reducible rfl | simp only [State.kept_mk, State.kept_eta, State.splitMiss_kept, State.skBroadcast_kept] | rfl
theorem State.setFails_kept (s : State) (a2 : _) (a3 : _) : (State.setFails s a2 a3).kept = s.kept := by
  unfold State.setFails; simp only [State.kept_mk, State.kept_eta, State.set_kept]
theorem State.brstReact_form {q : List Instr} (s : State) (a2 : _) (h : Form q s.kept) : Form q (State.brstReact s a2).kept := by
  unfold State.brstReact; dsimp only; (repeat' split) <;> first | exact h | simp only [State.kept_mk, State.kept_eta, State.setFails_kept, State.set_kept, State.record_kept, State.chipReset_kept, State.hackAssert_kept, State.blockReset_form, h]
theorem State.react_form {q : List Instr} (s : State) (a2 : _) (h : Form q s.kept) : Form q (State.react s a2).kept := by
  unfold State.react; dsimp only; (repeat' split) <;> first | exact h | simp only [State.kept_mk, State.kept_eta, State.splitTrigger_kept, State.chipReset_kept, State.brstReact_form, h]
theorem State.splitTake_kept (s : State) (a2 : _) : (State.splitTake s a2).kept = s.kept := by
  unfold State.splitTake; simp only [State.kept_mk, State.kept_eta, State.kept_foldl, implies_true, State.splitMiss_kept, State.peekDial_kept, State.setPair_kept, State.set_kept, State.setEvents_kept, State.drivePin_kept, State.capTrigger_kept, State.record_kept, apply_ite State.kept, ite_self]
theorem State.splitDueNow_kept (s : State) : (State.splitDueNow s).kept = s.kept := by
  unfold State.splitDueNow; (repeat' split) <;> first | with_reducible rfl | simp only [State.kept_mk, State.kept_eta, State.splitTake_kept] | rfl
theorem State.snapRead_kept (s : State) (a2 : _) : (State.snapRead s a2).2.kept = s.kept := by
  unfold State.snapRead; grind only [State.kept_mk, State.kept_eta, State.localRead_kept, State.pulse_kept]
theorem State.splCollect_kept (s : State) (a2 : _) : (State.splCollect s a2).kept = s.kept := by
  unfold State.splCollect; dsimp only; (repeat' split) <;> first | with_reducible rfl | simp only [State.kept_mk, State.kept_eta, State.kept_foldl, implies_true, State.set_kept, State.snapRead_kept] | rfl
theorem State.splitClear_kept (s : State) : (State.splitClear s).kept = s.kept := by
  unfold State.splitClear; (repeat' split) <;> first | with_reducible rfl | simp only [State.kept_mk, State.kept_eta, State.set_kept] | rfl
theorem State.injArm_kept (s : State) (a2 : _) : (State.injArm s a2).kept = s.kept := by
  unfold State.injArm; grind only [State.kept_mk, State.kept_eta, State.set_kept]
theorem State.injRecheck_kept (s : State) (a2 : _) : (State.injRecheck s a2).kept = s.kept := by
  unfold State.injRecheck; grind only [State.kept_mk, State.kept_eta, State.lower_kept, State.set_kept, State.setSrcBit_kept, State.incSat_kept, State.fireReactions_kept, State.record_kept]
theorem State.captureClear_kept (s : State) : (State.captureClear s).kept = s.kept := by
  unfold State.captureClear; simp only [State.kept_mk, State.kept_eta, State.kept_foldl, implies_true, State.set_kept, apply_ite State.kept, ite_self]
theorem State.injDisarm_kept (s : State) : (State.injDisarm s).kept = s.kept := by
  unfold State.injDisarm; (repeat' split) <;> first | with_reducible rfl | simp only [State.kept_mk, State.kept_eta, State.set_kept] | rfl
theorem State.splitDone_kept (s : State) : (State.splitDone s).kept = s.kept := by
  unfold State.splitDone; (repeat' split) <;> first | with_reducible rfl | simp only [State.kept_mk, State.kept_eta, State.kept_foldl, implies_true, State.set_kept, State.splCollect_kept] | rfl
theorem State.hackRelease_kept (s : State) : (State.hackRelease s).kept = s.kept := by
  unfold State.hackRelease; (repeat' split) <;> first | with_reducible rfl | simp only [State.kept_mk, State.kept_eta, State.set_kept, State.record_kept, State.emit_kept] | rfl
theorem State.srcAssert_kept (s : State) (a2 : _) : (State.srcAssert s a2).kept = s.kept := by
  unfold State.srcAssert; (repeat' split) <;> first | with_reducible rfl | simp only [State.kept_mk, State.kept_eta, State.raise_kept, State.draw_kept, State.pulse_kept] | rfl
theorem State.dmaFail_kept (s : State) (a2 : _) (a3 : _) (a4 : _) : (State.dmaFail s a2 a3 a4).kept = s.kept := by
  unfold State.dmaFail; (repeat' split) <;> first | with_reducible rfl | simp only [State.kept_mk, State.kept_eta, State.setPair_kept, State.pulse_kept, State.set_kept] | rfl
theorem State.setIecc_kept (s : State) (a2 : _) : (State.setIecc s a2).kept = s.kept := by
  unfold State.setIecc; (repeat' split) <;> first | with_reducible rfl | simp only [State.kept_mk, State.kept_eta, State.set_kept] | rfl
theorem State.waitHost_kept (s : State) : (State.waitHost s).kept = s.kept := by
  unfold State.waitHost; simp only [State.kept_mk, State.kept_eta, State.set_kept]
theorem State.startCores_kept (s : State) (a2 : _) (a3 : _) (a4 : _) : (State.startCores s a2 a3 a4).kept = s.kept := by
  unfold State.startCores; simp only [State.kept_mk, State.kept_eta, State.kept_foldl, implies_true, State.emit_kept, apply_ite State.kept, ite_self]
theorem State.bootFail_kept (s : State) (a2 : _) (a3 : _) : (State.bootFail s a2 a3).kept = s.kept := by
  unfold State.bootFail; (repeat' split) <;> first | with_reducible rfl | simp only [State.kept_mk, State.kept_eta, State.set_kept, State.waitHost_kept, State.pulse_kept] | rfl
theorem State.dmaError_form {q : List Instr} (s : State) (a2 : _) (a3 : _) (a4 : _) (h : Form q s.kept) : Form q (State.dmaError s a2 a3 a4).kept := by
  unfold State.dmaError; (repeat' split) <;> first | exact h | simp only [State.kept_mk, State.kept_eta, State.dmaFail_kept, State.freeBytes_form, h]
theorem State.bootLoad_form {q : List Instr} (s : State) (a2 : _) (a3 : _) (h : Form q s.kept) : Form q (State.bootLoad s a2 a3).kept := by
  unfold State.bootLoad; (repeat' split) <;> first | exact h | simp only [State.kept_mk, State.kept_eta, State.setIecc_kept, State.dramTouched_kept, State.store_form, h]
theorem State.flashRead_form {q : List Instr} (s : State) (a2 : _) (h : Form q s.kept) : Form q (State.flashRead s a2).kept := by
  unfold State.flashRead; dsimp only; (repeat' split) <;> first | exact h | simp only [State.kept_mk, State.kept_eta, State.bootFail_kept, State.bootLoad_form, h]
theorem State.flashBoot_form {q : List Instr} (s : State) (a2 : _) (h : Form q s.kept) : Form q (State.flashBoot s a2).kept := by
  unfold State.flashBoot; (repeat' split) <;> first | exact h | simp only [State.kept_mk, State.kept_eta, State.ballUse_kept, State.flashRead_form, h]
theorem State.dmaGo_kept (s : State) (a2 : _) (a3 : _) : (State.dmaGo s a2 a3).kept = s.kept := by
  unfold State.dmaGo; grind only [State.kept_mk, State.kept_eta, State.set_kept]
theorem State.dramInit_form {q : List Instr} (s : State) (a2 : _) (a3 : _) (h : Form q s.kept) : Form q (State.dramInit s a2 a3).kept := by
  unfold State.dramInit; simp only [apply_ite State.kept, apply_ite (Form q), State.kept_mk, State.kept_eta, State.pulse_kept, State.set_kept, State.dramLost_form, h, ite_self]
theorem State.pcieLink_kept (s : State) (a2 : _) (a3 : _) (a4 : _) : (State.pcieLink s a2 a3 a4).kept = s.kept := by
  unfold State.pcieLink; (repeat' split) <;> first | with_reducible rfl | simp only [State.kept_mk, State.kept_eta, State.set_kept, State.pulse_kept] | rfl
theorem State.coreRun_kept (s : State) (a2 : _) : (State.coreRun s a2).kept = s.kept := by
  unfold State.coreRun; (repeat' split) <;> first | with_reducible rfl | simp only [State.kept_mk, State.kept_eta, State.startCores_kept] | rfl
theorem State.bootGo_form {q : List Instr} (s : State) (h : Form q s.kept) : Form q (State.bootGo s).kept := by
  unfold State.bootGo; simp only [apply_ite State.kept, apply_ite (Form q), State.kept_mk, State.kept_eta, State.bootFail_kept, State.dramTouched_kept, State.bootLoad_form, h, ite_self]
theorem State.msixUnmask_kept (s : State) (a2 : _) : (State.msixUnmask s a2).kept = s.kept := by
  unfold State.msixUnmask; grind only [State.kept_mk, State.kept_eta, State.emit_kept]
theorem State.imageLoaded_kept (s : State) : (State.imageLoaded s).kept = s.kept := by
  unfold State.imageLoaded; (repeat' split) <;> first | with_reducible rfl | simp only [State.kept_mk, State.kept_eta, State.bootFail_kept, State.set_kept, State.emit_kept, State.startCores_kept] | rfl
theorem State.configRequest_kept (s : State) : (State.configRequest s).kept = s.kept := by
  unfold State.configRequest; (repeat' split) <;> first | with_reducible rfl | simp only [State.kept_mk, State.kept_eta, State.emit_kept] | rfl
theorem State.writeBrg_kept (s : State) (a2 : _) (a3 : _) : (State.writeBrg s a2 a3).kept = s.kept := by
  unfold State.writeBrg; dsimp only; (repeat' split) <;> first | with_reducible rfl | simp only [State.kept_mk, State.kept_eta, State.kept_foldl, implies_true, State.writeFields_kept, State.set_kept, State.brgCommit_kept] | rfl
theorem State.rstCmd_form {q : List Instr} (s : State) (a2 : _) (h : Form q s.kept) : Form q (State.rstCmd s a2).kept := by
  unfold State.rstCmd
  have h1 : Form q ((List.range 10).foldl (fun t k => t.set (SYS_RST_CNT_COUNT k) 0) s).kept := by
    rw [State.kept_foldl _ (fun t k => State.set_kept ..)]; exact h
  dsimp only
  split
  · refine State.pulseReset_form _ _ ?_
    split
    · exact h1
    · exact h
  · split
    · exact h1
    · exact h

theorem State.writeSys_form {q : List Instr} (s : State) (a2 a3 a4 : _) (h : Form q s.kept) : Form q (State.writeSys s a2 a3 a4).kept := by
  unfold State.writeSys
  simp only
  (repeat' split) <;> first
    | with_reducible exact h
    | with_reducible exact State.rstCmd_form _ _ h
    | with_reducible exact State.brstWrite_form _ _ _ h
    | with_reducible exact State.bootGo_form _ h
    | (simp only [State.modeRequest_kept, State.refreshLine_kept, State.writeFields_kept, State.wdtWrite_kept, State.wdtKick_kept,
        State.supResume_kept, State.avsCtlWrite_kept, State.set_kept, State.coreRun_kept]; exact h)

theorem State.lpCtlWrite_kept (s : State) (a2 : _) (a3 : _) : (State.lpCtlWrite s a2 a3).kept = s.kept := by
  unfold State.lpCtlWrite; grind only [State.kept_mk, State.kept_eta, State.set_kept, State.writeFields_kept, State.raise_kept, State.lower_kept, State.portRefresh_kept]
theorem State.writePorts_kept (s : State) (a2 : _) (a3 : _) : (State.writePorts s a2 a3).kept = s.kept := by
  unfold State.writePorts; (repeat' split) <;> first | with_reducible rfl | simp only [State.kept_mk, State.kept_eta, State.lpCtlWrite_kept, State.set_kept, State.writeFields_kept, State.ilkClear_kept] | rfl
theorem State.writeCtx_kept (s : State) (a2 : _) (a3 : _) (a4 : _) : (State.writeCtx s a2 a3 a4).kept = s.kept := by
  unfold State.writeCtx; dsimp only; (repeat' split) <;> first | with_reducible rfl | simp only [State.kept_mk, State.kept_eta, State.kept_foldl, implies_true, State.ctxCtlWrite_kept, State.set_kept, State.writeFields_kept, State.camera_kept, State.ctxShowRate_kept, State.ctxRelease_kept, State.ctxRws_kept] | rfl
theorem State.writeFlt_kept (s : State) (a2 : _) (a3 : _) : (State.writeFlt s a2 a3).kept = s.kept := by
  unfold State.writeFlt; (repeat' split) <;> first | with_reducible rfl | simp only [State.kept_mk, State.kept_eta, State.writeFields_kept, State.hackRelease_kept, State.hackCmd_kept, State.captureClear_kept, State.injDisarm_kept, State.injArm_kept, State.refreshLine_kept] | rfl
theorem State.writeLpe_kept (s : State) (a2 : _) (a3 : _) (a4 : _) : (State.writeLpe s a2 a3 a4).kept = s.kept := by
  unfold State.writeLpe; dsimp only; (repeat' split) <;> first | with_reducible rfl | simp only [State.kept_mk, State.kept_eta, State.kept_foldl, implies_true, State.lpeCtlWrite_kept, State.lpeRws_kept, State.set_kept, State.writeFields_kept] | rfl
theorem State.writeSpl_kept (s : State) (a2 : _) (a3 : _) : (State.writeSpl s a2 a3).kept = s.kept := by
  unfold State.writeSpl; (repeat' split) <;> first | with_reducible rfl | simp only [State.kept_mk, State.kept_eta, State.splitClear_kept, State.splitTrigger_kept, State.writeFields_kept] | rfl
theorem State.writeDrc_kept (s : State) (a2 : _) (a3 : _) : (State.writeDrc s a2 a3).kept = s.kept := by
  unfold State.writeDrc; (repeat' split) <;> first | with_reducible rfl | simp only [State.kept_mk, State.kept_eta, State.setIecc_kept, State.set_kept, State.writeFields_kept] | rfl
theorem State.writeEsc_kept (s : State) (a2 : _) (a3 : _) (a4 : _) : (State.writeEsc s a2 a3 a4).kept = s.kept := by
  unfold State.writeEsc; (repeat' split) <;> first | with_reducible rfl | simp only [State.kept_mk, State.kept_eta, State.writeFields_kept, State.enableWrite_kept, State.escCmd_kept, State.flushBuf_kept, State.setEvents_kept, State.escLine_kept] | rfl
theorem State.writeTrj_kept (s : State) (a2 : _) (a3 : _) (a4 : _) : (State.writeTrj s a2 a3 a4).kept = s.kept := by
  unfold State.writeTrj; (repeat' split) <;> first | with_reducible rfl | simp only [State.kept_mk, State.kept_eta, State.set_kept, State.writeFields_kept, State.trjCommit_kept] | rfl
theorem State.gcmdWrite_kept (s : State) (a2 : _) : (State.gcmdWrite s a2).kept = s.kept := by
  unfold State.gcmdWrite; (repeat' split) <;> first | with_reducible rfl | simp only [State.kept_mk, State.kept_eta, State.kept_foldl, implies_true, State.set_kept, State.forMask_kept, State.startCmd_kept, State.stopCmd_kept, State.resumeCmd_kept] | rfl
theorem State.writeEscc_kept (s : State) (a2 : _) (a3 : _) : (State.writeEscc s a2 a3).kept = s.kept := by
  unfold State.writeEscc; (repeat' split) <;> first | with_reducible rfl | simp only [State.kept_mk, State.kept_eta, State.startCommand_kept, State.evFire_kept, State.gcmdWrite_kept, State.writeFields_kept] | rfl
theorem State.writeDial_kept (s : State) (a2 : _) (a3 : _) : (State.writeDial s a2 a3).kept = s.kept := by
  unfold State.writeDial; dsimp only; (repeat' split) <;> first | with_reducible rfl | simp only [State.kept_mk, State.kept_eta, State.kept_foldl, implies_true, State.clearCmd_kept, State.rebaseCmd_kept, State.set_kept, State.writeFields_kept, State.dialCommit_kept] | rfl
theorem State.writeReg_kept (s : State) (a2 : _) (a3 : _) (a4 : _) : (State.writeReg s a2 a3 a4).kept = s.kept := by
  unfold State.writeReg; dsimp only; (repeat' split) <;> first | with_reducible rfl | simp only [State.kept_mk, State.kept_eta, State.kept_foldl, implies_true, State.popEvent_kept, State.writeFields_kept, State.set_kept, State.regCommit_kept] | rfl
theorem State.writeBal_kept (s : State) (a2 : _) (a3 : _) : (State.writeBal s a2 a3).kept = s.kept := by
  unfold State.writeBal; grind only [State.kept_mk, State.kept_eta, State.writeFields_kept, State.rateWrite_kept, State.swapRequest_kept, State.genStop_kept, State.injCtl_kept, State.injRun_kept, State.capStop_kept, State.capCtl_kept, State.capStart_kept, State.axCtlWrite_kept, State.axWrites_kept, State.axClose_kept, State.axOpen_kept, State.set_kept]
theorem State.writeHl_kept (s : State) (a2 : _) (a3 : _) (a4 : _) : (State.writeHl s a2 a3 a4).kept = s.kept := by
  unfold State.writeHl; (repeat' split) <;> first | with_reducible rfl | simp only [State.kept_mk, State.kept_eta, State.hlCtlWrite_kept, State.hlSvcGo_kept, State.set_kept, State.writeFields_kept] | rfl
theorem State.writeSkz_kept (s : State) (a2 : _) (a3 : _) : (State.writeSkz s a2 a3).kept = s.kept := by
  unfold State.writeSkz; (repeat' split) <;> first | with_reducible rfl | simp only [State.kept_mk, State.kept_eta, State.bcmdWrite_kept, State.skCtlWrite_kept, State.writeFields_kept] | rfl
theorem State.writeImg_kept (s : State) (a2 : _) (a3 : _) : (State.writeImg s a2 a3).kept = s.kept := by
  unfold State.writeImg; (repeat' split) <;> first | with_reducible rfl | simp only [State.kept_mk, State.kept_eta, State.writeCtx_kept, State.writeLpe_kept, State.set_kept, State.writeFields_kept] | rfl
theorem State.writeIll_kept (s : State) (a2 : _) (a3 : _) : (State.writeIll s a2 a3).kept = s.kept := by
  unfold State.writeIll; grind only [State.kept_mk, State.kept_eta, State.writeFields_kept, State.illGlobalWrite_kept, State.illEnable_kept, State.neighbourTest_kept, State.illChWrite_kept]
theorem State.writeMot_kept (s : State) (a2 : _) (a3 : _) : (State.writeMot s a2 a3).kept = s.kept := by
  unfold State.writeMot; grind only [State.kept_mk, State.kept_eta, State.writeFields_kept, State.motCtlWrite_kept, State.set_kept, State.motCmd_kept]
theorem State.writeEnc_kept (s : State) (a2 : _) (a3 : _) : (State.writeEnc s a2 a3).kept = s.kept := by
  unfold State.writeEnc; (repeat' split) <;> first | with_reducible rfl | simp only [State.kept_mk, State.kept_eta, State.encCtlWrite_kept, State.encWrite_kept, State.writeFields_kept] | rfl
theorem State.writeCal_kept (s : State) (a2 : _) (a3 : _) : (State.writeCal s a2 a3).kept = s.kept := by
  unfold State.writeCal; (repeat' split) <;> first | with_reducible rfl | simp only [State.kept_mk, State.kept_eta, State.calRestart_kept, State.trimSave_kept, State.calWrite_kept, State.writeFields_kept] | rfl
theorem State.writeChr_kept (s : State) (a2 : _) (a3 : _) : (State.writeChr s a2 a3).kept = s.kept := by
  unfold State.writeChr; (repeat' split) <;> first | with_reducible rfl | simp only [State.kept_mk, State.kept_eta, State.swRec_kept, State.writeFields_kept, State.chrUsable_kept] | rfl
theorem State.writeHost_form {q : List Instr} (s : State) (a2 : _) (a3 : _) (h : Form q s.kept) : Form q (State.writeHost s a2 a3).kept := by
  unfold State.writeHost; (repeat' split) <;> first | exact h | simp only [State.kept_mk, State.kept_eta, State.writeFields_kept, State.dmaGo_kept, State.set_kept, State.refreshLine_kept, State.dmaCut_form, h]
theorem State.regWrite_form {q : List Instr} (s : State) (a2 : _) (a3 : _) (a4 : _) (h : Form q s.kept) : Form q (State.regWrite s a2 a3 a4).kept := by
  unfold State.regWrite; simp only [apply_ite State.kept, apply_ite (Form q), State.kept_mk, State.kept_eta, State.writeEsc_kept, State.writeTrj_kept, State.writeEscc_kept, State.writeBrg_kept, State.writeDial_kept, State.writeReg_kept, State.writeBal_kept, State.writeHl_kept, State.writeSkz_kept, State.writeImg_kept, State.writeIll_kept, State.writeMot_kept, State.writeEnc_kept, State.writeCal_kept, State.writeFlt_kept, State.writeChr_kept, State.writeFields_kept, State.writeDrc_kept, State.writePorts_kept, State.writeSpl_kept, State.writeSys_form, State.writeHost_form, h, ite_self]
theorem State.storeWhole_form {q : List Instr} (s : State) (a2 : _) (a3 : _) (h : Form q s.kept) : Form q (State.storeWhole s a2 a3).kept := by
  unfold State.storeWhole; (repeat' split) <;> first | exact h | simp +contextual only [State.kept_foldl, implies_true, Form.foldl, State.kept_mk, State.kept_eta, State.store_form, h, apply_ite State.kept, ite_self]
theorem State.nvPart_form {q : List Instr} (s : State) (a2 : _) (a3 : _) (a4 : _) (h : Form q s.kept) : Form q (State.nvPart s a2 a3 a4).2.kept := by
  unfold State.nvPart; dsimp only; (repeat' split) <;> first | exact h | simp only [State.kept_mk, State.kept_eta, State.nvEcc_kept, State.nvWrite_form, h]
theorem State.localWrite_form {q : List Instr} (s : State) (a2 a3 a4 a5 : _) (h : Form q s.kept) : Form q (State.localWrite s a2 a3 a4 a5).2.kept := by
  unfold State.localWrite
  simp only
  have hd : Form q (s.dramTouched a3).kept := by rw [State.dramTouched_kept]; exact h
  have he : ∀ (b : Bool), Form q (if b then (s.dramTouched a3).eccEvent a3 a5 else s.dramTouched a3).kept := by
    intro b; cases b
    · exact hd
    · rw [if_pos rfl, State.eccEvent_kept]; exact hd
  split
  · exact h
  · split
    · split
      · exact State.regWrite_form _ _ _ _ h
      · exact h
    iterate 4
      split
      · exact h
      · split
        · exact h
        · split
          · exact State.storeWhole_form _ _ _ (he _)
          · exact State.store_form _ _ _ (he _)
    · exact h
    · split
      · exact Form.fold (fun p : Bool × State => p.2) (fun (p : Bool × State) (w : Nat × List Byte) => (p.1 && (p.2.nvPart w.1 w.2 a5).1, (p.2.nvPart w.1 w.2 a5).2))
          (fun (b : Bool × State) (x : Nat × List Byte) hb => State.nvPart_form b.2 x.1 x.2 a5 hb) (split8 a3 a4) (true, s) h
      · exact h
    · exact h
    · exact h

theorem State.localAccess_form {q : List Instr} (s : State) (a2 a3 a4 a5 : _) (h : Form q s.kept) : Form q (State.localAccess s a2 a3 a4 a5).2.kept := by
  unfold State.localAccess
  have h0 : Form q ({ s with req := some a2 } : State).kept := h
  generalize ({ s with req := some a2 } : State) = u at h0 ⊢
  dsimp only
  split
  · rename_i n
    have hr := State.localRead_kept u a2 a3 n a5
    split <;> rename_i heq <;> rw [heq] at hr <;> exact Form.same hr h0
  · exact State.localWrite_form _ _ _ _ _ h0

theorem State.access_form {q : List Instr} (s : State) (a2 a3 a4 a5 : _) (h : Form q s.kept) : Form q (State.access s a2 a3 a4 a5).2.kept := by
  unfold State.access
  have h0 : Form q ({ s with req := some a2 } : State).kept := h
  generalize ({ s with req := some a2 } : State) = u at h0 ⊢
  dsimp only
  split
  · exact State.localAccess_form _ _ _ _ _ h
  · split
    · exact State.localAccess_form _ _ _ _ _ h
    · split
      · exact h0
      · split
        · simp only [State.remoteStart_kept]; exact h0
        · simp only [State.remoteStart_kept]; exact h0

theorem State.storeFail_kept (s : State) (a2 : _) (a3 : _) : (State.storeFail s a2 a3).kept = s.kept := by
  unfold State.storeFail; grind only [State.kept_mk, State.kept_eta, State.set_kept, State.leaveClaims_kept, State.withdraw_kept, State.storeCheck_kept, State.modEsc_kept]
theorem State.escAnswer_form {q : List Instr} (s : State) (a2 a3 a4 a5 : _) (h : Form q s.kept) (r : (Bool × Nat) × State)
    (hr : State.escAnswer s a2 a3 a4 a5 = some r) : Form q r.2.kept := by
  unfold State.escAnswer at hr
  split at hr
  · cases hr; exact h
  · split at hr
    · split at hr
      · cases hr
      · cases hr; exact h
    · cases hr
      exact State.localAccess_form _ _ _ _ _ h

theorem State.storeDone_form {q : List Instr} (s : State) (a2 a3 : _) (h : Form q s.kept) : Form q (State.storeDone s a2 a3).kept := by
  unfold State.storeDone
  split
  · exact h
  · split
    · exact h
    · simp only
      split
      · exact h
      · rename_i hr
        have hu := State.escAnswer_form _ _ _ _ _ (Form.same (State.modEsc_kept ..) h) _ hr
        split
        · exact hu
        · rw [State.storeFail_kept]; exact hu

theorem State.dmaPut_form {q : List Instr} (s : State) (a2 a3 a4 : _) (h : Form q s.kept) : Form q (State.dmaPut s a2 a3 a4).2.kept := by
  unfold State.dmaPut
  have ha := State.access_form s 4 (a3 % 2 ^ 40) (.write a4) a2 h
  generalize s.access 4 (a3 % 2 ^ 40) (.write a4) a2 = p at ha ⊢
  split <;> exact ha

theorem State.dmaGet_form {q : List Instr} (s : State) (a2 a3 a4 a5 : _) (h : Form q s.kept) : Form q (State.dmaGet s a2 a3 a4 a5).2.kept := by
  unfold State.dmaGet
  have ha := State.access_form s 4 (a3 % 2 ^ 40) (.read a4) a2 h
  dsimp only
  split
  · exact h
  · generalize s.access 4 (a3 % 2 ^ 40) (.read a4) a2 = p at ha ⊢
    split <;> exact ha

theorem State.dmaDone_form {q : List Instr} (s : State) (a2 a3 a4 : _) (h : Form q s.kept) : Form q (State.dmaDone s a2 a3 a4).kept := by
  unfold State.dmaDone
  simp only
  split
  · exact h
  · rename_i hbusy
    clear hbusy
    let f := fun (p : Option Nat × (List Byte × State)) (w : Nat × List Byte) =>
      match p with
      | (some x, q) => (some x, q)
      | (none, (l, u)) =>
        if s.flag (HP_DMA_CTL_DIR a2) then
          match u.dmaGet a4 w.1 w.2.length (a3.drop (w.1 - s.pair (HP_DMA_TADDR_LO_ADDR a2) (HP_DMA_TADDR_HI_ADDR a2))) with
          | (some b, u1) => (none, (l ++ b, u1))
          | (none, u1) => (some (w.1 % 2 ^ 40), (l, u1))
        else let (x, u1) := u.dmaPut a4 w.1 w.2; (x, (l, u1))
    have hf : ∀ (l : List (Nat × List Byte)) (p : Option Nat × (List Byte × State)), Form q p.2.2.kept → Form q (l.foldl f p).2.2.kept :=
      fun l p hp => Form.fold (fun p : Option Nat × (List Byte × State) => p.2.2) f (fun b w hb => by
        obtain ⟨o, l, u⟩ := b
        cases o with
        | some x => exact hb
        | none =>
          show Form q (f (none, (l, u)) w).2.2.kept
          simp only [f]
          split
          · have hg := State.dmaGet_form u a4 w.1 w.2.length (a3.drop (w.1 - s.pair (HP_DMA_TADDR_LO_ADDR a2) (HP_DMA_TADDR_HI_ADDR a2))) hb
            split <;> rename_i heq <;> rw [heq] at hg <;> exact hg
          · exact State.dmaPut_form u a4 w.1 w.2 hb) l p hp
    have hp := hf (split8 (s.pair (HP_DMA_TADDR_LO_ADDR a2) (HP_DMA_TADDR_HI_ADDR a2))
      ((if s.flag (HP_DMA_CTL_DIR a2) then List.replicate (s.get (HP_DMA_LEN_VALUE a2)) 0 else a3).take (s.get (HP_DMA_LEN_VALUE a2)))) (none, ([], s)) h
    dsimp only [f] at hp ⊢
    generalize List.foldl _ _ (split8 _ _) = p at hp ⊢
    obtain ⟨bad, got, t⟩ := p
    simp only at hp ⊢
    have h1 : ∀ (b : Bool) (x : Out), Form q (if b then t else t.emit x).kept := by
      intro b x; cases b
      · rw [if_neg (by simp), State.emit_kept]; exact hp
      · rw [if_pos rfl]; exact hp
    have h2 := h1 got.isEmpty (.hostWrite (s.pair (HP_DMA_HADDR_LO_ADDR a2) (HP_DMA_HADDR_HI_ADDR a2)) got)
    generalize (if got.isEmpty = true then t else t.emit (.hostWrite (s.pair (HP_DMA_HADDR_LO_ADDR a2) (HP_DMA_HADDR_HI_ADDR a2)) got)) = u at h2 ⊢
    split
    · exact h2
    · split
      · rw [State.dmaFail_kept]; exact h2
      · rw [State.refreshLine_kept, State.set_kept, State.set_kept]; exact h2

theorem State.skRequest_form {q : List Instr} (s : State) (a2 : _) (a3 : _) (a4 : _) (a5 : _) (a6 : _) (h : Form q s.kept) : Form q (State.skRequest s a2 a3 a4 a5 a6).kept := by
  unfold State.skRequest; dsimp only; (repeat' split) <;> first | exact h | simp only [State.kept_mk, State.kept_eta, State.skAccept_kept, State.skUnicast_kept, State.skForward_kept, State.localAccess_form, h]
theorem State.loadDone_form {q : List Instr} (s : State) (a2 a3 : _) (h : Form q s.kept) : Form q (State.loadDone s a2 a3).kept := by
  unfold State.loadDone
  split
  · exact h
  · split
    · exact h
    · split
      · exact h
      · rename_i hr
        have hu := State.escAnswer_form _ _ _ _ _ h _ hr
        split
        · exact hu
        · split
          · rw [State.trap_kept]; exact hu
          · simp only
            (repeat' split) <;> simp only [State.endStep_kept, State.setPc_kept, State.modEsc_kept, State.setF_kept, State.setG_kept] <;> exact hu

theorem State.busAccess_form {q : List Instr} (s : State) (a2 a3 a4 a5 : _) (h : Form q s.kept) : Form q (State.busAccess s a2 a3 a4 a5).kept := by
  unfold State.busAccess
  have ha := State.access_form s a2 a3 a4 a5 h
  generalize s.access a2 a3 a4 a5 = p at ha ⊢
  split
  · exact ha
  · rw [State.reply_kept]
    split
    · rw [State.hostDropped_kept]; exact ha
    · exact ha

theorem State.hostRequest_form {q : List Instr} (s : State) (a2 : _) (a3 : _) (a4 : _) (a5 : _) (h : Form q s.kept) : Form q (State.hostRequest s a2 a3 a4 a5).kept := by
  unfold State.hostRequest; (repeat' split) <;> first | exact h | simp only [State.kept_mk, State.kept_eta, State.busAccess_form, h]
theorem State.ownEnded_kept (s : State) (a2 : _) (a3 : _) : (State.ownEnded s a2 a3).kept = s.kept := by
  unfold State.ownEnded; (repeat' split) <;> first | with_reducible rfl | simp only [State.kept_mk, State.kept_eta, State.pulse_kept, State.mprEnded_kept, State.capEnded_kept] | rfl
theorem State.ownWrite_form {q : List Instr} (s : State) (a2 : _) (h : Form q s.kept) : Form q (State.ownWrite s a2).kept := by
  unfold State.ownWrite; grind only [State.kept_mk, State.kept_eta, State.ownEnded_kept, State.remoteOwn_kept, State.access_form]
theorem State.snapFill_kept (s : State) : (State.snapFill s).kept = s.kept := by
  have h : ∀ (l : List Nat) (p : List Nat × State), (l.foldl (fun (p : List Nat × State) o =>
      let (v, t) := p.2.snapRead (0x2000000000 + o); (p.1 ++ [v], t)) p).2.kept = p.2.kept := by
    intro l
    induction l with
    | nil => intro p; rfl
    | cons o l ih => intro p; rw [List.foldl_cons, ih]; exact State.snapRead_kept p.2 _
  unfold State.snapFill
  split
  · rfl
  · split
    · rfl
    · exact h _ _

theorem State.settleOnce_form {q : List Instr} (s : State) (h : Form q s.kept) : Form q (State.settleOnce s).kept := by
  unfold State.settleOnce
  have h1 : Form q (s.own.foldl State.ownWrite { s with own := [] }).kept :=
    Form.foldl _ (fun u w hu => State.ownWrite_form _ _ hu) _ _ h
  generalize s.own.foldl State.ownWrite { s with own := [] } = t at h1 ⊢
  simp only [State.snapFill_kept]
  refine Form.foldl _ (fun u r hu => State.react_form _ _ hu) _ _ ?_
  split
  · exact h1
  · rw [State.forceHalted_kept]; exact h1

theorem State.settleN_form {q : List Instr} (a1 : _) (s : State) (h : Form q s.kept) : Form q (State.settleN a1 s).kept := by
  induction a1 generalizing s with
  | zero => exact h
  | succ k ih =>
    unfold State.settleN
    split
    · exact h
    · exact ih _ (State.settleOnce_form _ h)

theorem State.armingGoesOn_kept (s : State) : (State.armingGoesOn s).kept = s.kept := by
  unfold State.armingGoesOn; grind only [State.kept_mk, State.kept_eta, State.armAll_kept]
theorem State.settle_form {q : List Instr} (s : State) (h : Form q s.kept) : Form q (State.settle s).kept := by
  unfold State.settle; simp only [State.kept_mk, State.kept_eta, State.armingGoesOn_kept, State.settleN_form, h]
theorem State.stretchEdge_kept (s : State) (a2 : _) (a3 : _) (a4 : _) (a5 : _) : (State.stretchEdge s a2 a3 a4 a5).kept = s.kept := by
  unfold State.stretchEdge; (repeat' split) <;> first | with_reducible rfl | simp only [State.kept_mk, State.kept_eta, State.placeEdge_kept] | rfl
theorem State.segmentCommit_kept (s : State) (a2 : _) : (State.segmentCommit s a2).kept = s.kept := by
  unfold State.segmentCommit; dsimp only; (repeat' split) <;> first | with_reducible rfl | simp only [State.kept_mk, State.kept_eta, State.kept_foldl, implies_true, State.endStretch_kept, State.set_kept, State.setEsc_kept, State.loopRequest_kept, State.modEsc_kept, State.setReg_kept, State.stretchEdge_kept, State.closeEvents_kept, apply_ite State.kept, ite_self] | simp only [State.kept_mk, State.kept_eta, State.kept_foldl, implies_true, State.endStretch_kept, State.set_kept, State.setEsc_kept, State.loopRequest_kept, State.modEsc_kept, State.setReg_kept, State.stretchEdge_kept, State.closeEvents_kept, apply_ite State.kept, ite_self, *] | rfl
theorem State.segmentEnd_kept (s : State) (a2 : _) : (State.segmentEnd s a2).kept = s.kept := by
  unfold State.segmentEnd; dsimp only; (repeat' split) <;> first | with_reducible rfl | simp only [State.kept_mk, State.kept_eta, State.kept_foldl, implies_true, State.setQueue_kept, State.setEsc_kept, State.modEsc_kept, State.closeEvents_kept, State.stretchEdge_kept, State.pulse_kept, State.escLine_kept, State.set_kept, State.incWrap_kept, State.endStretch_kept, State.countRetarget_kept, State.storeCheck_kept, State.floatCheck_kept, apply_ite State.kept, ite_self] | simp only [State.kept_mk, State.kept_eta, State.kept_foldl, implies_true, State.setQueue_kept, State.setEsc_kept, State.modEsc_kept, State.closeEvents_kept, State.stretchEdge_kept, State.pulse_kept, State.escLine_kept, State.set_kept, State.incWrap_kept, State.endStretch_kept, State.countRetarget_kept, State.storeCheck_kept, State.floatCheck_kept, apply_ite State.kept, ite_self, *] | rfl
theorem State.returnEnd_kept (s : State) (a2 : _) : (State.returnEnd s a2).kept = s.kept := by
  unfold State.returnEnd; grind only [State.kept_mk, State.kept_eta, State.storeCheck_kept, State.floatCheck_kept, State.setEsc_kept]
theorem State.stopMotionEnd_kept (s : State) (a2 : _) : (State.stopMotionEnd s a2).kept = s.kept := by
  unfold State.stopMotionEnd; grind only [State.kept_mk, State.kept_eta, State.setEsc_kept, State.storeCheck_kept, State.floatCheck_kept]
theorem State.evalHold_kept (s : State) (a2 : _) (a3 : _) (a4 : _) : (State.evalHold s a2 a3 a4).kept = s.kept := by
  unfold State.evalHold; grind only [State.kept_mk, State.kept_eta, State.setEsc_kept, State.set_kept, State.addSat_kept, State.incSat_kept]
theorem State.aheadStep_kept (s : State) (a2 : _) : (State.aheadStep s a2).kept = s.kept := by
  unfold State.aheadStep; (repeat' split) <;> first | with_reducible rfl | simp only [State.kept_mk, State.kept_eta, State.segmentEnd_kept, State.stopMotionEnd_kept, State.returnEnd_kept, State.segmentCommit_kept] | rfl
theorem State.bridgeHold_kept (s : State) (a2 : _) : (State.bridgeHold s a2).kept = s.kept := by
  unfold State.bridgeHold; grind only [State.kept_mk, State.kept_eta, State.evalHold_kept]
theorem State.bridgeBeat_kept (s : State) : (State.bridgeBeat s).kept = s.kept := by
  unfold State.bridgeBeat; simp only [State.kept_mk, State.kept_eta, State.kept_foldl, implies_true, State.bridgeHold_kept, State.bridgeDraw_kept, State.bridgeGrants_kept, State.bridgeReleases_kept, apply_ite State.kept, ite_self]
theorem State.cvtToG_kept (s : State) (a2 : _) (a3 : _) (a4 : _) (a5 : _) (a6 : _) (a7 : _) : (State.cvtToG s a2 a3 a4 a5 a6 a7).kept = s.kept := by
  unfold State.cvtToG; grind only [State.kept_mk, State.kept_eta, State.issue_kept, State.setZNCV_kept, State.setG_kept]
theorem State.alu_kept (s : State) (a2 : _) (a3 : _) (a4 : _) (a5 : _) (a6 : _) : (State.alu s a2 a3 a4 a5 a6).kept = s.kept := by
  unfold State.alu; grind only [State.kept_mk, State.kept_eta, State.issue_kept, State.setG_kept, State.intFlags_kept]
theorem State.postStore_kept (s : State) (a2 : _) (a3 : _) (a4 : _) (a5 : _) (a6 : _) (a7 : _) : (State.postStore s a2 a3 a4 a5 a6 a7).kept = s.kept := by
  unfold State.postStore; simp only [State.kept_mk, State.kept_eta, State.winIssue_kept, State.emit_kept, State.modEsc_kept]
theorem State.cvtToF_kept (s : State) (a2 : _) (a3 : _) (a4 : _) (a5 : _) (a6 : _) : (State.cvtToF s a2 a3 a4 a5 a6).kept = s.kept := by
  unfold State.cvtToF; grind only [State.kept_mk, State.kept_eta, State.issue_kept, State.setZNCV_kept, State.setF_kept]
theorem State.dialStall_kept (s : State) (a2 : _) : (State.dialStall s a2).kept = s.kept := by
  unfold State.dialStall; simp only [State.kept_mk, State.kept_eta, State.modEsc_kept]
theorem State.fmaOp_kept (s : State) (a2 : _) (a3 : _) (a4 : _) (a5 : _) : (State.fmaOp s a2 a3 a4 a5).kept = s.kept := by
  unfold State.fmaOp; grind only [State.kept_mk, State.kept_eta, State.issue_kept, State.floatFlags_kept, State.setF_kept]
theorem State.postLoad_kept (s : State) (a2 : _) (a3 : _) (a4 : _) (a5 : _) (a6 : _) (a7 : _) (a8 : _) : (State.postLoad s a2 a3 a4 a5 a6 a7 a8).kept = s.kept := by
  unfold State.postLoad; simp only [State.kept_mk, State.kept_eta, State.winIssue_kept, State.emit_kept, State.modEsc_kept, State.setPc_kept]
theorem State.fp_kept (s : State) (a2 : _) (a3 : _) (a4 : _) (a5 : _) (a6 : _) : (State.fp s a2 a3 a4 a5 a6).kept = s.kept := by
  unfold State.fp; grind only [State.kept_mk, State.kept_eta, State.issue_kept, State.floatFlags_kept, State.setF_kept]
theorem State.restartFor_kept (s : State) (a2 : _) : (State.restartFor s a2).kept = s.kept := by
  unfold State.restartFor; grind only [State.kept_mk, State.kept_eta, State.setEsc_kept, State.set_kept]
theorem State.widenBox_kept (s : State) (a2 : _) (a3 : _) : (State.widenBox s a2 a3).kept = s.kept := by
  unfold State.widenBox; grind only [State.kept_mk, State.kept_eta, State.pulse_kept, State.set_kept, State.setEsc_kept]
theorem State.enqueue_kept (s : State) (a2 : _) (a3 : _) (a4 : _) : (State.enqueue s a2 a3 a4).kept = s.kept := by
  unfold State.enqueue; simp only [State.kept_mk, State.kept_eta, State.restartFor_kept, State.widenBox_kept, State.setQueue_kept, State.setEsc_kept]
theorem State.moveInstr_kept (s : State) (a2 : _) (a3 : _) (a4 : _) (a5 : _) : (State.moveInstr s a2 a3 a4 a5).kept = s.kept := by
  unfold State.moveInstr; grind only [State.kept_mk, State.kept_eta, State.issue_kept, State.setPxyz_kept, State.enqueue_kept, State.set_kept]
theorem State.yieldZones_kept (s : State) (a2 : _) (a3 : _) : (State.yieldZones s a2 a3).kept = s.kept := by
  unfold State.yieldZones; grind only [State.kept_mk, State.kept_eta, State.setEsc_kept]
theorem State.setSpeed_kept (s : State) (a2 : _) (a3 : _) (a4 : _) : (State.setSpeed s a2 a3 a4).kept = s.kept := by
  unfold State.setSpeed; grind only [State.kept_mk, State.kept_eta, State.modEsc_kept, State.set_kept]
theorem State.queued_kept (s : State) (a2 : _) (a3 : _) (a4 : _) (a5 : _) (a6 : _) (a7 : _) : (State.queued s a2 a3 a4 a5 a6 a7).kept = s.kept := by
  unfold State.queued; grind only [State.kept_mk, State.kept_eta, State.issue_kept, State.modEsc_kept]
theorem State.waitInstr_kept (s : State) (a2 : _) (a3 : _) (a4 : _) (a5 : _) (a6 : _) (a7 : _) (a8 : _) : (State.waitInstr s a2 a3 a4 a5 a6 a7 a8).kept = s.kept := by
  unfold State.waitInstr; grind only [State.kept_mk, State.kept_eta, State.issue_kept, State.issueWait_kept]
theorem State.noteGcmd_kept (s : State) (a2 : _) (a3 : _) : (State.noteGcmd s a2 a3).kept = s.kept := by
  unfold State.noteGcmd; simp only [State.kept_mk, State.kept_eta, State.set_kept]
theorem State.escDo_kept (s : State) (n : _) (f : State → Nat → State) (h : (f s n).kept = s.kept) :
    (State.escDo s n f).kept = s.kept := by
  unfold State.escDo; split
  · rfl
  · exact h

theorem State.interlock_kept (s : State) (a2 : _) (a3 : _) : (State.interlock s a2 a3).kept = s.kept := by
  unfold State.interlock; grind only [State.kept_mk, State.kept_eta, State.setPin_kept, State.lower_kept, State.set_kept, State.raise_kept]
theorem State.dacUpdate_kept (s : State) (a2 : _) : (State.dacUpdate s a2).kept = s.kept := by
  unfold State.dacUpdate; grind only [State.kept_mk, State.kept_eta, State.setDac_kept, State.setPort_kept]
theorem State.gateEdge_kept (s : State) (a2 : _) : (State.gateEdge s a2).kept = s.kept := by
  unfold State.gateEdge; grind only [State.kept_mk, State.kept_eta, State.portRefresh_kept, State.setPort_kept]
theorem State.sysCmd_kept (s : State) (f : State → State) (h : (f s).kept = s.kept) : (State.sysCmd s f).kept = s.kept := by
  unfold State.sysCmd; split
  · exact h
  · rfl

theorem State.resetLevel_form {q : List Instr} (s : State) (a2 : _) (a3 : _) (h : Form q s.kept) : Form q (State.resetLevel s a2 a3).kept := by
  unfold State.resetLevel; (repeat' split) <;> first | exact h | simp only [State.kept_mk, State.kept_eta, State.releaseReset_kept, State.assertReset_form, h]
theorem State.skDue_kept (s : State) (cmd : _) (c : Sched) (t : State) (h : State.skDue s cmd = some (c, t)) : t.kept = s.kept := by
  unfold State.skDue at h
  split at h
  · split at h
    · cases h; rfl
    · cases h
  · cases h

theorem State.bcast_kept (s : State) (cmd : _) (f : State → Nat → State) (h : ∀ t n, (f t n).kept = t.kept) :
    (State.bcast s cmd f).kept = s.kept := by
  unfold State.bcast; split
  · rename_i c t hd
    rw [h, State.skDue_kept s cmd c t hd]
  · rfl

theorem State.creditTick_kept (s : State) : (State.creditTick s).kept = s.kept := by
  unfold State.creditTick; (repeat' split) <;> first | with_reducible rfl | simp only [State.kept_mk, State.kept_eta, State.set_kept] | rfl
theorem State.wdtTick_kept (s : State) : (State.wdtTick s).kept = s.kept := by
  unfold State.wdtTick; (repeat' split) <;> first | with_reducible rfl | simp only [State.kept_mk, State.kept_eta, State.set_kept] | rfl
theorem State.dueTraps_kept (s : State) : (State.dueTraps s).kept = s.kept := by
  unfold State.dueTraps; simp only [State.kept_mk, State.kept_eta, State.kept_foldl, implies_true, State.dueTrap_kept]
theorem State.splitOutTick_kept (s : State) : (State.splitOutTick s).kept = s.kept := by
  unfold State.splitOutTick; (repeat' split) <;> first | with_reducible rfl | simp only [State.kept_mk, State.kept_eta, State.emit_kept] | rfl
theorem State.lbeatTick_kept (s : State) : (State.lbeatTick s).kept = s.kept := by
  unfold State.lbeatTick; grind only [State.kept_mk, State.kept_eta, State.setPair_kept]
theorem State.clockTick_kept (s : State) : (State.clockTick s).kept = s.kept := by
  unfold State.clockTick; (repeat' split) <;> first | with_reducible rfl | simp only [State.kept_mk, State.kept_eta, State.illSync_kept, State.creditTick_kept, State.lbeatTick_kept] | rfl
theorem State.tick_form {q : List Instr} (s : State) (h : Form q s.kept) : Form q (State.tick s).kept := by
  unfold State.tick
  refine State.settle_form _ (Form.same (State.dueTraps_kept ..) (State.chipHoldEnd_form _ ?_))
  simp only [State.recoatNow_kept, State.haltNow_kept, State.splitOutTick_kept, State.wdtTick_kept, State.camEnds_kept, State.skIdles_kept,
    State.portReturns_kept, State.clockTick_kept, State.begin_kept]
  exact h

end Sys2Proof.Machine
end

