-- ==== Sys2Proof/Laws/KeptCommands.lean ====
section
/-! SUPPORT. Every command answers a next state, takes nothing from the queue and leaves memory and the NV array in
canonical form. -/
namespace Sys2Proof.Machine

theorem execBalAdd_form {q : List Instr} (a1 : _) (a2 : _) (s : State) (h : Form q s.kept) : ∃ t, execBalAdd a1 a2 s = .next t ∧ Form q t.kept := by
  unfold execBalAdd; exact ⟨_, rfl, State.settle_form _ (by simp only [State.begin_kept, State.kept_mk, State.kept_eta, State.balOp_kept, h])⟩
theorem execBalClmp_form {q : List Instr} (a1 : _) (a2 : _) (s : State) (h : Form q s.kept) : ∃ t, execBalClmp a1 a2 s = .next t ∧ Form q t.kept := by
  unfold execBalClmp; exact ⟨_, rfl, State.settle_form _ (by simp only [State.begin_kept, State.kept_mk, State.kept_eta, State.balOp_kept, h])⟩
theorem execBalMax_form {q : List Instr} (a1 : _) (a2 : _) (s : State) (h : Form q s.kept) : ∃ t, execBalMax a1 a2 s = .next t ∧ Form q t.kept := by
  unfold execBalMax; exact ⟨_, rfl, State.settle_form _ (by simp only [State.begin_kept, State.kept_mk, State.kept_eta, State.balOp_kept, h])⟩
theorem execBalSub_form {q : List Instr} (a1 : _) (a2 : _) (s : State) (h : Form q s.kept) : ∃ t, execBalSub a1 a2 s = .next t ∧ Form q t.kept := by
  unfold execBalSub; exact ⟨_, rfl, State.settle_form _ (by simp only [State.begin_kept, State.kept_mk, State.kept_eta, State.balOp_kept, h])⟩
theorem execCaptureWriteComplete_form {q : List Instr} (a1 : _) (a2 : _) (s : State) (h : Form q s.kept) : ∃ t, execCaptureWriteComplete a1 a2 s = .next t ∧ Form q t.kept := by
  unfold execCaptureWriteComplete; exact ⟨_, rfl, State.settle_form _ (by simp only [State.begin_kept, State.kept_mk, State.kept_eta, State.capWrite_kept, h])⟩
theorem execBalTbl_form {q : List Instr} (a1 : _) (a2 : _) (s : State) (h : Form q s.kept) : ∃ t, execBalTbl a1 a2 s = .next t ∧ Form q t.kept := by
  unfold execBalTbl; exact ⟨_, rfl, State.settle_form _ (by simp only [State.begin_kept, State.kept_mk, State.kept_eta, State.balOp_kept, h])⟩
theorem execAxisClose_form {q : List Instr} (a1 : _) (s : State) (h : Form q s.kept) : ∃ t, execAxisClose a1 s = .next t ∧ Form q t.kept := by
  unfold execAxisClose; exact ⟨_, rfl, State.settle_form _ (by simp only [State.begin_kept, State.kept_mk, State.kept_eta, State.axClose_kept, h])⟩
theorem execAxisOpen_form {q : List Instr} (a1 : _) (s : State) (h : Form q s.kept) : ∃ t, execAxisOpen a1 s = .next t ∧ Form q t.kept := by
  unfold execAxisOpen; exact ⟨_, rfl, State.settle_form _ (by simp only [State.begin_kept, State.kept_mk, State.kept_eta, State.axOpen_kept, h])⟩
theorem execBalNop_form {q : List Instr} (a1 : _) (a2 : _) (s : State) (h : Form q s.kept) : ∃ t, execBalNop a1 a2 s = .next t ∧ Form q t.kept := by
  unfold execBalNop; exact ⟨_, rfl, State.settle_form _ (by simp only [State.begin_kept, State.kept_mk, State.kept_eta, State.balOp_kept, h])⟩
theorem execBalMin_form {q : List Instr} (a1 : _) (a2 : _) (s : State) (h : Form q s.kept) : ∃ t, execBalMin a1 a2 s = .next t ∧ Form q t.kept := by
  unfold execBalMin; exact ⟨_, rfl, State.settle_form _ (by simp only [State.begin_kept, State.kept_mk, State.kept_eta, State.balOp_kept, h])⟩
theorem execInjectionStop_form {q : List Instr} (a1 : _) (s : State) (h : Form q s.kept) : ∃ t, execInjectionStop a1 s = .next t ∧ Form q t.kept := by
  unfold execInjectionStop; exact ⟨_, rfl, State.settle_form _ (by simp only [State.begin_kept, State.kept_mk, State.kept_eta, State.genStop_kept, h])⟩
theorem execTelemetryLoss_form {q : List Instr} (a1 : _) (s : State) (h : Form q s.kept) : ∃ t, execTelemetryLoss a1 s = .next t ∧ Form q t.kept := by
  unfold execTelemetryLoss; exact ⟨_, rfl, State.settle_form _ (by simp only [State.begin_kept, State.kept_mk, State.kept_eta, State.telemetryLoss_kept, h])⟩
theorem execBalFms_form {q : List Instr} (a1 : _) (a2 : _) (s : State) (h : Form q s.kept) : ∃ t, execBalFms a1 a2 s = .next t ∧ Form q t.kept := by
  unfold execBalFms; exact ⟨_, rfl, State.settle_form _ (by simp only [State.begin_kept, State.kept_mk, State.kept_eta, State.balOp_kept, h])⟩
theorem execRateWrite_form {q : List Instr} (a1 : _) (s : State) (h : Form q s.kept) : ∃ t, execRateWrite a1 s = .next t ∧ Form q t.kept := by
  unfold execRateWrite; exact ⟨_, rfl, State.settle_form _ (by simp only [State.begin_kept, State.kept_mk, State.kept_eta, State.rateWrite_kept, h])⟩
theorem execBalSel_form {q : List Instr} (a1 : _) (a2 : _) (s : State) (h : Form q s.kept) : ∃ t, execBalSel a1 a2 s = .next t ∧ Form q t.kept := by
  unfold execBalSel; exact ⟨_, rfl, State.settle_form _ (by simp only [State.begin_kept, State.kept_mk, State.kept_eta, State.balOp_kept, h])⟩
theorem execJobDispatch_form {q : List Instr} (a1 : _) (s : State) (h : Form q s.kept) : ∃ t, execJobDispatch a1 s = .next t ∧ Form q t.kept := by
  unfold execJobDispatch; exact ⟨_, rfl, State.settle_form _ (by simp only [State.begin_kept, State.kept_mk, State.kept_eta, State.hlPmUpdate_kept, State.jobDispatch_kept, h])⟩
theorem execCommandRelease_form {q : List Instr} (a1 : _) (s : State) (h : Form q s.kept) : ∃ t, execCommandRelease a1 s = .next t ∧ Form q t.kept := by
  unfold execCommandRelease; exact ⟨_, rfl, State.settle_form _ (by simp only [State.begin_kept, State.kept_mk, State.kept_eta, State.commandRelease_kept, h])⟩
theorem execCaptureStart_form {q : List Instr} (a1 : _) (a2 : _) (s : State) (h : Form q s.kept) : ∃ t, execCaptureStart a1 a2 s = .next t ∧ Form q t.kept := by
  unfold execCaptureStart; exact ⟨_, rfl, State.settle_form _ (by simp only [State.begin_kept, State.kept_mk, State.kept_eta, State.capStart_kept, h])⟩
theorem execBalMulr_form {q : List Instr} (a1 : _) (a2 : _) (s : State) (h : Form q s.kept) : ∃ t, execBalMulr a1 a2 s = .next t ∧ Form q t.kept := by
  unfold execBalMulr; exact ⟨_, rfl, State.settle_form _ (by simp only [State.begin_kept, State.kept_mk, State.kept_eta, State.balOp_kept, h])⟩
theorem execCaptureStop_form {q : List Instr} (a1 : _) (s : State) (h : Form q s.kept) : ∃ t, execCaptureStop a1 s = .next t ∧ Form q t.kept := by
  unfold execCaptureStop; exact ⟨_, rfl, State.settle_form _ (by simp only [State.begin_kept, State.kept_mk, State.kept_eta, State.capStop_kept, h])⟩
theorem execBalSgn_form {q : List Instr} (a1 : _) (a2 : _) (s : State) (h : Form q s.kept) : ∃ t, execBalSgn a1 a2 s = .next t ∧ Form q t.kept := by
  unfold execBalSgn; exact ⟨_, rfl, State.settle_form _ (by simp only [State.begin_kept, State.kept_mk, State.kept_eta, State.balOp_kept, h])⟩
theorem execSwapRequest_form {q : List Instr} (a1 : _) (a2 : _) (s : State) (h : Form q s.kept) : ∃ t, execSwapRequest a1 a2 s = .next t ∧ Form q t.kept := by
  unfold execSwapRequest; exact ⟨_, rfl, State.settle_form _ (by simp only [State.begin_kept, State.kept_mk, State.kept_eta, State.swapRequest_kept, h])⟩
theorem execApproachEnd_form {q : List Instr} (a1 : _) (s : State) (h : Form q s.kept) : ∃ t, execApproachEnd a1 s = .next t ∧ Form q t.kept := by
  unfold execApproachEnd; exact ⟨_, rfl, State.settle_form _ (by simp only [State.begin_kept, State.kept_mk, State.kept_eta, State.approachEnd_kept, h])⟩
theorem execBalFma_form {q : List Instr} (a1 : _) (a2 : _) (s : State) (h : Form q s.kept) : ∃ t, execBalFma a1 a2 s = .next t ∧ Form q t.kept := by
  unfold execBalFma; exact ⟨_, rfl, State.settle_form _ (by simp only [State.begin_kept, State.kept_mk, State.kept_eta, State.balOp_kept, h])⟩
theorem execServoTracking_form {q : List Instr} (a1 : _) (s : State) (h : Form q s.kept) : ∃ t, execServoTracking a1 s = .next t ∧ Form q t.kept := by
  unfold execServoTracking; exact ⟨_, rfl, State.settle_form _ (by simp only [State.begin_kept, State.kept_mk, State.kept_eta, State.servoTracking_kept, h])⟩
theorem execInjectionRun_form {q : List Instr} (a1 : _) (a2 : _) (s : State) (h : Form q s.kept) : ∃ t, execInjectionRun a1 a2 s = .next t ∧ Form q t.kept := by
  unfold execInjectionRun; exact ⟨_, rfl, State.settle_form _ (by simp only [State.begin_kept, State.kept_mk, State.kept_eta, State.injRun_kept, h])⟩
theorem execReturnEnd_form {q : List Instr} (a1 : _) (s : State) (h : Form q s.kept) : ∃ t, execReturnEnd a1 s = .next t ∧ Form q t.kept := by
  unfold execReturnEnd; exact ⟨_, rfl, State.settle_form _ (by simp only [State.begin_kept, State.kept_mk, State.kept_eta, State.returnEnd_kept, h])⟩
theorem execDrainEnd_form {q : List Instr} (a1 : _) (s : State) (h : Form q s.kept) : ∃ t, execDrainEnd a1 s = .next t ∧ Form q t.kept := by
  unfold execDrainEnd; exact ⟨_, rfl, State.settle_form _ (by (repeat' split) <;> first | (with_reducible exact h) | simp only [State.begin_kept, State.kept_mk, State.kept_eta, State.drainDone_kept, h] | simp only [apply_ite State.kept, ite_self, State.begin_kept, State.kept_foldl, implies_true, Form.foldl, State.kept_mk, State.kept_eta, State.drainDone_kept, h])⟩
theorem execTimelineRestart_form {q : List Instr} (a1 : _) (s : State) (h : Form q s.kept) : ∃ t, execTimelineRestart a1 s = .next t ∧ Form q t.kept := by
  unfold execTimelineRestart; exact ⟨_, rfl, State.settle_form _ (by (repeat' split) <;> first | (with_reducible exact h) | simp only [State.begin_kept, State.kept_mk, State.kept_eta, State.modEsc_kept, h] | simp only [apply_ite State.kept, ite_self, State.begin_kept, State.kept_foldl, implies_true, Form.foldl, State.kept_mk, State.kept_eta, State.modEsc_kept, h])⟩
theorem execRetargetStopEnd_form {q : List Instr} (a1 : _) (s : State) (h : Form q s.kept) : ∃ t, execRetargetStopEnd a1 s = .next t ∧ Form q t.kept := by
  unfold execRetargetStopEnd; exact ⟨_, rfl, State.settle_form _ (by simp only [State.begin_kept, State.kept_mk, State.kept_eta, State.stopMotionEnd_kept, h])⟩
theorem execSegmentEnd_form {q : List Instr} (a1 : _) (s : State) (h : Form q s.kept) : ∃ t, execSegmentEnd a1 s = .next t ∧ Form q t.kept := by
  unfold execSegmentEnd; exact ⟨_, rfl, State.settle_form _ (by simp only [State.begin_kept, State.kept_mk, State.kept_eta, State.segmentEnd_kept, h])⟩
theorem execSegmentCommit_form {q : List Instr} (a1 : _) (s : State) (h : Form q s.kept) : ∃ t, execSegmentCommit a1 s = .next t ∧ Form q t.kept := by
  unfold execSegmentCommit; exact ⟨_, rfl, State.settle_form _ (by simp only [State.begin_kept, State.kept_mk, State.kept_eta, State.segmentCommit_kept, h])⟩
theorem execPoolRecordArrive_form {q : List Instr} (a1 : _) (a2 : _) (s : State) (h : Form q s.kept) : ∃ t, execPoolRecordArrive a1 a2 s = .next t ∧ Form q t.kept := by
  unfold execPoolRecordArrive; exact ⟨_, rfl, State.settle_form _ (by simp only [State.begin_kept, State.kept_mk, State.kept_eta, State.recordArrive_kept, h])⟩
theorem execHoldTimeout_form {q : List Instr} (a1 : _) (s : State) (h : Form q s.kept) : ∃ t, execHoldTimeout a1 s = .next t ∧ Form q t.kept := by
  unfold execHoldTimeout; exact ⟨_, rfl, State.settle_form _ (by simp only [State.begin_kept, State.kept_mk, State.kept_eta, State.holdTimeout_kept, h])⟩
theorem execReservationExpire_form {q : List Instr} (a1 : _) (s : State) (h : Form q s.kept) : ∃ t, execReservationExpire a1 s = .next t ∧ Form q t.kept := by
  unfold execReservationExpire; exact ⟨_, rfl, State.settle_form _ (by simp only [State.begin_kept, State.kept_mk, State.kept_eta, State.expireResv_kept, h])⟩
theorem execBridgeBeat_form {q : List Instr} (s : State) (h : Form q s.kept) : ∃ t, execBridgeBeat s = .next t ∧ Form q t.kept := by
  unfold execBridgeBeat; exact ⟨_, rfl, State.settle_form _ (by simp only [State.begin_kept, State.kept_mk, State.kept_eta, State.bridgeBeat_kept, h])⟩
theorem execRemoteTimeout_form {q : List Instr} (a1 : _) (s : State) (h : Form q s.kept) : ∃ t, execRemoteTimeout a1 s = .next t ∧ Form q t.kept := by
  unfold execRemoteTimeout; exact ⟨_, rfl, State.settle_form _ (by simp only [State.begin_kept, State.kept_mk, State.kept_eta, State.pieceTimeout_kept, h])⟩
theorem execFabricWindowAccess_form {q : List Instr} (a1 : _) (a2 : _) (a3 : _) (s : State) (h : Form q s.kept) : ∃ t, execFabricWindowAccess a1 a2 a3 s = .next t ∧ Form q t.kept := by
  unfold execFabricWindowAccess; exact ⟨_, rfl, State.settle_form _ (by simp only [State.begin_kept, State.kept_mk, State.kept_eta, State.busAccess_form, h])⟩
theorem execLoReadLatch_form {q : List Instr} (a1 : _) (a2 : _) (s : State) (h : Form q s.kept) : ∃ t, execLoReadLatch a1 a2 s = .next t ∧ Form q t.kept := by
  unfold execLoReadLatch; exact ⟨_, rfl, State.settle_form _ (by simp only [State.begin_kept, State.kept_mk, State.kept_eta, State.busAccess_form, h])⟩
theorem execRcRead_form {q : List Instr} (a1 : _) (a2 : _) (s : State) (h : Form q s.kept) : ∃ t, execRcRead a1 a2 s = .next t ∧ Form q t.kept := by
  unfold execRcRead; exact ⟨_, rfl, State.settle_form _ (by simp only [State.begin_kept, State.kept_mk, State.kept_eta, State.busAccess_form, h])⟩
theorem execLoadComplete_form {q : List Instr} (a1 : _) (a2 : _) (s : State) (h : Form q s.kept) : ∃ t, execLoadComplete a1 a2 s = .next t ∧ Form q t.kept := by
  unfold execLoadComplete; exact ⟨_, rfl, State.settle_form _ (by simp only [State.begin_kept, State.kept_mk, State.kept_eta, State.loadDone_form, h])⟩
theorem execStoreComplete_form {q : List Instr} (a1 : _) (a2 : _) (s : State) (h : Form q s.kept) : ∃ t, execStoreComplete a1 a2 s = .next t ∧ Form q t.kept := by
  unfold execStoreComplete; exact ⟨_, rfl, State.settle_form _ (by simp only [State.begin_kept, State.kept_mk, State.kept_eta, State.storeDone_form, h])⟩
theorem execMemoryAccess_form {q : List Instr} (a1 : _) (a2 : _) (a3 : _) (a4 : _) (s : State) (h : Form q s.kept) : ∃ t, execMemoryAccess a1 a2 a3 a4 s = .next t ∧ Form q t.kept := by
  unfold execMemoryAccess; exact ⟨_, rfl, State.settle_form _ (by simp only [State.begin_kept, State.kept_mk, State.kept_eta, State.busAccess_form, h])⟩
theorem execRegisterWrite_form {q : List Instr} (a1 : _) (a2 : _) (a3 : _) (s : State) (h : Form q s.kept) : ∃ t, execRegisterWrite a1 a2 a3 s = .next t ∧ Form q t.kept := by
  unfold execRegisterWrite; exact ⟨_, rfl, State.settle_form _ (by simp only [State.begin_kept, State.kept_mk, State.kept_eta, State.busAccess_form, h])⟩
theorem execCall_form {q : List Instr} (a1 : _) (a2 : _) (s : State) (h : Form q s.kept) : ∃ t, execCall a1 a2 s = .next t ∧ Form q t.kept := by
  unfold execCall; refine ⟨_, rfl, State.settle_form _ (Form.same (State.issue_kept _ _ _ _ _ (fun t u hu => ?_)) (Form.same (State.begin_kept _) h))⟩; (try dsimp only at hu); (repeat' split at hu) <;> cases hu <;> (repeat' split) <;> first | with_reducible rfl | simp only [State.kept_mk, State.kept_eta, State.issue_kept, State.setPc_kept, State.set_kept, State.setPair_kept]
theorem execLoop_form {q : List Instr} (a1 : _) (a2 : _) (s : State) (h : Form q s.kept) : ∃ t, execLoop a1 a2 s = .next t ∧ Form q t.kept := by
  unfold execLoop; refine ⟨_, rfl, State.settle_form _ (Form.same (State.issue_kept _ _ _ _ _ (fun t u hu => ?_)) (Form.same (State.begin_kept _) h))⟩; (try dsimp only at hu); (repeat' split at hu) <;> cases hu <;> (repeat' split) <;> first | with_reducible rfl | simp only [State.kept_mk, State.kept_eta, State.issue_kept, State.setG_kept, State.setPc_kept]
theorem execBr_form {q : List Instr} (a1 : _) (a2 : _) (s : State) (h : Form q s.kept) : ∃ t, execBr a1 a2 s = .next t ∧ Form q t.kept := by
  unfold execBr; refine ⟨_, rfl, State.settle_form _ (Form.same (State.issue_kept _ _ _ _ _ (fun t u hu => ?_)) (Form.same (State.begin_kept _) h))⟩; (try dsimp only at hu); (repeat' split at hu) <;> cases hu <;> (repeat' split) <;> first | with_reducible rfl | simp only [State.kept_mk, State.kept_eta, State.issue_kept, State.setPc_kept]
theorem execRet_form {q : List Instr} (a1 : _) (a2 : _) (s : State) (h : Form q s.kept) : ∃ t, execRet a1 a2 s = .next t ∧ Form q t.kept := by
  unfold execRet; refine ⟨_, rfl, State.settle_form _ (Form.same (State.issue_kept _ _ _ _ _ (fun t u hu => ?_)) (Form.same (State.begin_kept _) h))⟩; (try dsimp only at hu); (repeat' split at hu) <;> cases hu <;> (repeat' split) <;> first | with_reducible rfl | simp only [State.kept_mk, State.kept_eta, State.issue_kept, State.setPc_kept, State.set_kept, State.setPair_kept]
theorem execF2ir_form {q : List Instr} (a1 : _) (a2 : _) (s : State) (h : Form q s.kept) : ∃ t, execF2ir a1 a2 s = .next t ∧ Form q t.kept := by
  unfold execF2ir; exact ⟨_, rfl, State.settle_form _ (by simp only [State.begin_kept, State.kept_mk, State.kept_eta, State.cvtToG_kept, h])⟩
theorem execShl_form {q : List Instr} (a1 : _) (a2 : _) (s : State) (h : Form q s.kept) : ∃ t, execShl a1 a2 s = .next t ∧ Form q t.kept := by
  unfold execShl; exact ⟨_, rfl, State.settle_form _ (by simp only [State.begin_kept, State.kept_mk, State.kept_eta, State.alu_kept, h])⟩
theorem execFmul_form {q : List Instr} (a1 : _) (a2 : _) (s : State) (h : Form q s.kept) : ∃ t, execFmul a1 a2 s = .next t ∧ Form q t.kept := by
  unfold execFmul; exact ⟨_, rfl, State.settle_form _ (by simp only [State.begin_kept, State.kept_mk, State.kept_eta, State.fp_kept, h])⟩
theorem execI2f_form {q : List Instr} (a1 : _) (a2 : _) (s : State) (h : Form q s.kept) : ∃ t, execI2f a1 a2 s = .next t ∧ Form q t.kept := by
  unfold execI2f; exact ⟨_, rfl, State.settle_form _ (by simp only [State.begin_kept, State.kept_mk, State.kept_eta, State.cvtToF_kept, h])⟩
theorem execF2p_form {q : List Instr} (a1 : _) (a2 : _) (s : State) (h : Form q s.kept) : ∃ t, execF2p a1 a2 s = .next t ∧ Form q t.kept := by
  unfold execF2p; exact ⟨_, rfl, State.settle_form _ (by simp only [State.begin_kept, State.kept_mk, State.kept_eta, State.cvtToG_kept, h])⟩
theorem execSt_form {q : List Instr} (a1 : _) (a2 : _) (a3 : _) (s : State) (h : Form q s.kept) : ∃ t, execSt a1 a2 a3 s = .next t ∧ Form q t.kept := by
  unfold execSt; refine ⟨_, rfl, State.settle_form _ (Form.same (State.issue_kept _ _ _ _ _ (fun t u hu => ?_)) (Form.same (State.begin_kept _) h))⟩; (try dsimp only at hu); (repeat' split at hu) <;> cases hu <;> (repeat' split) <;> first | with_reducible rfl | simp only [State.kept_mk, State.kept_eta, State.issue_kept, State.postStore_kept]
theorem execFaddMax_form {q : List Instr} (a1 : _) (a2 : _) (s : State) (h : Form q s.kept) : ∃ t, execFaddMax a1 a2 s = .next t ∧ Form q t.kept := by
  unfold execFaddMax; exact ⟨_, rfl, State.settle_form _ (by simp only [State.begin_kept, State.kept_mk, State.kept_eta, State.fp_kept, h])⟩
theorem execFmaSub_form {q : List Instr} (a1 : _) (a2 : _) (s : State) (h : Form q s.kept) : ∃ t, execFmaSub a1 a2 s = .next t ∧ Form q t.kept := by
  unfold execFmaSub; exact ⟨_, rfl, State.settle_form _ (by simp only [State.begin_kept, State.kept_mk, State.kept_eta, State.fmaOp_kept, h])⟩
theorem execMin_form {q : List Instr} (a1 : _) (a2 : _) (s : State) (h : Form q s.kept) : ∃ t, execMin a1 a2 s = .next t ∧ Form q t.kept := by
  unfold execMin; exact ⟨_, rfl, State.settle_form _ (by simp only [State.begin_kept, State.kept_mk, State.kept_eta, State.alu_kept, h])⟩
theorem State.movRead_kept (s : State) (n sel : Nat) (r : Nat × State) (h : State.movRead s n sel = some r) : r.2.kept = s.kept := by
  unfold State.movRead at h
  dsimp only at h
  split at h
  · cases h; rfl
  · split at h
    · cases h; rfl
    · split at h <;> cases h <;> rfl

theorem State.movWrite_kept (s t : State) (n sel v : Nat) (h : State.movWrite s n sel v = some t) : t.kept = s.kept := by
  unfold State.movWrite at h
  (repeat' split at h) <;> cases h
  · exact State.setG_kept ..
  · exact State.setF_kept ..
  · exact State.setSw_kept ..

theorem execMov_form {q : List Instr} (n : _) (b : _) (s : State) (h : Form q s.kept) : ∃ t, execMov n b s = .next t ∧ Form q t.kept := by
  refine ⟨_, rfl, State.settle_form _ (Form.same (State.issue_kept _ _ _ _ _ (fun t u hu => ?_)) (Form.same (State.begin_kept _) h))⟩
  split at hu
  · rename_i hr
    split at hu
    · rename_i hw
      cases hu
      exact (State.movWrite_kept _ _ _ _ _ hw).trans (State.movRead_kept _ _ _ _ hr)
    · cases hu
  · cases hu

theorem execP2f_form {q : List Instr} (a1 : _) (a2 : _) (s : State) (h : Form q s.kept) : ∃ t, execP2f a1 a2 s = .next t ∧ Form q t.kept := by
  unfold execP2f; exact ⟨_, rfl, State.settle_form _ (by simp only [State.begin_kept, State.kept_mk, State.kept_eta, State.cvtToF_kept, h])⟩
theorem execSub_form {q : List Instr} (a1 : _) (a2 : _) (s : State) (h : Form q s.kept) : ∃ t, execSub a1 a2 s = .next t ∧ Form q t.kept := by
  unfold execSub; exact ⟨_, rfl, State.settle_form _ (by simp only [State.begin_kept, State.kept_mk, State.kept_eta, State.alu_kept, h])⟩
theorem execOr_form {q : List Instr} (a1 : _) (a2 : _) (s : State) (h : Form q s.kept) : ∃ t, execOr a1 a2 s = .next t ∧ Form q t.kept := by
  unfold execOr; exact ⟨_, rfl, State.settle_form _ (by simp only [State.begin_kept, State.kept_mk, State.kept_eta, State.alu_kept, h])⟩
theorem execFadd_form {q : List Instr} (a1 : _) (a2 : _) (s : State) (h : Form q s.kept) : ∃ t, execFadd a1 a2 s = .next t ∧ Form q t.kept := by
  unfold execFadd; exact ⟨_, rfl, State.settle_form _ (by simp only [State.begin_kept, State.kept_mk, State.kept_eta, State.fp_kept, h])⟩
theorem execMax_form {q : List Instr} (a1 : _) (a2 : _) (s : State) (h : Form q s.kept) : ∃ t, execMax a1 a2 s = .next t ∧ Form q t.kept := by
  unfold execMax; exact ⟨_, rfl, State.settle_form _ (by simp only [State.begin_kept, State.kept_mk, State.kept_eta, State.alu_kept, h])⟩
theorem execLdi_form {q : List Instr} (a1 : _) (a2 : _) (s : State) (h : Form q s.kept) : ∃ t, execLdi a1 a2 s = .next t ∧ Form q t.kept := by
  unfold execLdi; refine ⟨_, rfl, State.settle_form _ (Form.same (State.issue_kept _ _ _ _ _ (fun t u hu => ?_)) (Form.same (State.begin_kept _) h))⟩; (try dsimp only at hu); (repeat' split at hu) <;> cases hu <;> (repeat' split) <;> first | with_reducible rfl | simp only [State.kept_mk, State.kept_eta, State.issue_kept, State.setF_kept, State.setG_kept]
theorem execShr_form {q : List Instr} (a1 : _) (a2 : _) (s : State) (h : Form q s.kept) : ∃ t, execShr a1 a2 s = .next t ∧ Form q t.kept := by
  unfold execShr; exact ⟨_, rfl, State.settle_form _ (by simp only [State.begin_kept, State.kept_mk, State.kept_eta, State.alu_kept, h])⟩
theorem execFaddMin_form {q : List Instr} (a1 : _) (a2 : _) (s : State) (h : Form q s.kept) : ∃ t, execFaddMin a1 a2 s = .next t ∧ Form q t.kept := by
  unfold execFaddMin; exact ⟨_, rfl, State.settle_form _ (by simp only [State.begin_kept, State.kept_mk, State.kept_eta, State.fp_kept, h])⟩
theorem execLd_form {q : List Instr} (a1 : _) (a2 : _) (a3 : _) (s : State) (h : Form q s.kept) : ∃ t, execLd a1 a2 a3 s = .next t ∧ Form q t.kept := by
  unfold execLd; refine ⟨_, rfl, State.settle_form _ (Form.same (State.issue_kept _ _ _ _ _ (fun t u hu => ?_)) (Form.same (State.begin_kept _) h))⟩; (try dsimp only at hu); (repeat' split at hu) <;> cases hu <;> (repeat' split) <;> first | with_reducible rfl | simp only [State.kept_mk, State.kept_eta, State.issue_kept, State.postLoad_kept]
theorem execSra_form {q : List Instr} (a1 : _) (a2 : _) (s : State) (h : Form q s.kept) : ∃ t, execSra a1 a2 s = .next t ∧ Form q t.kept := by
  unfold execSra; exact ⟨_, rfl, State.settle_form _ (by simp only [State.begin_kept, State.kept_mk, State.kept_eta, State.alu_kept, h])⟩
theorem execMul_form {q : List Instr} (a1 : _) (a2 : _) (s : State) (h : Form q s.kept) : ∃ t, execMul a1 a2 s = .next t ∧ Form q t.kept := by
  unfold execMul; exact ⟨_, rfl, State.settle_form _ (by simp only [State.begin_kept, State.kept_mk, State.kept_eta, State.alu_kept, h])⟩
theorem execFma_form {q : List Instr} (a1 : _) (a2 : _) (s : State) (h : Form q s.kept) : ∃ t, execFma a1 a2 s = .next t ∧ Form q t.kept := by
  unfold execFma; exact ⟨_, rfl, State.settle_form _ (by simp only [State.begin_kept, State.kept_mk, State.kept_eta, State.fmaOp_kept, h])⟩
theorem execXor_form {q : List Instr} (a1 : _) (a2 : _) (s : State) (h : Form q s.kept) : ∃ t, execXor a1 a2 s = .next t ∧ Form q t.kept := by
  unfold execXor; exact ⟨_, rfl, State.settle_form _ (by simp only [State.begin_kept, State.kept_mk, State.kept_eta, State.alu_kept, h])⟩
theorem execTst_form {q : List Instr} (a1 : _) (a2 : _) (s : State) (h : Form q s.kept) : ∃ t, execTst a1 a2 s = .next t ∧ Form q t.kept := by
  unfold execTst; exact ⟨_, rfl, State.settle_form _ (by simp only [State.begin_kept, State.kept_mk, State.kept_eta, State.alu_kept, h])⟩
theorem execF2i_form {q : List Instr} (a1 : _) (a2 : _) (s : State) (h : Form q s.kept) : ∃ t, execF2i a1 a2 s = .next t ∧ Form q t.kept := by
  unfold execF2i; exact ⟨_, rfl, State.settle_form _ (by simp only [State.begin_kept, State.kept_mk, State.kept_eta, State.cvtToG_kept, h])⟩
theorem execAnd_form {q : List Instr} (a1 : _) (a2 : _) (s : State) (h : Form q s.kept) : ∃ t, execAnd a1 a2 s = .next t ∧ Form q t.kept := by
  unfold execAnd; exact ⟨_, rfl, State.settle_form _ (by simp only [State.begin_kept, State.kept_mk, State.kept_eta, State.alu_kept, h])⟩
theorem execCmp_form {q : List Instr} (a1 : _) (a2 : _) (s : State) (h : Form q s.kept) : ∃ t, execCmp a1 a2 s = .next t ∧ Form q t.kept := by
  unfold execCmp; exact ⟨_, rfl, State.settle_form _ (by simp only [State.begin_kept, State.kept_mk, State.kept_eta, State.alu_kept, h])⟩
theorem execFaddSub_form {q : List Instr} (a1 : _) (a2 : _) (s : State) (h : Form q s.kept) : ∃ t, execFaddSub a1 a2 s = .next t ∧ Form q t.kept := by
  unfold execFaddSub; exact ⟨_, rfl, State.settle_form _ (by simp only [State.begin_kept, State.kept_mk, State.kept_eta, State.fp_kept, h])⟩
theorem execDialq_form {q : List Instr} (a1 : _) (a2 : _) (a3 : _) (s : State) (h : Form q s.kept) : ∃ t, execDialq a1 a2 a3 s = .next t ∧ Form q t.kept := by
  unfold execDialq; refine ⟨_, rfl, State.settle_form _ (Form.same (State.issue_kept _ _ _ _ _ (fun t u hu => ?_)) (Form.same (State.begin_kept _) h))⟩; (try dsimp only at hu); (repeat' split at hu) <;> cases hu <;> (repeat' split) <;> first | with_reducible rfl | simp only [State.kept_mk, State.kept_eta, State.issue_kept, State.dialRead_kept, State.dialStall_kept, State.setF_kept, State.draw_kept, State.set_kept]
theorem execAdd_form {q : List Instr} (a1 : _) (a2 : _) (s : State) (h : Form q s.kept) : ∃ t, execAdd a1 a2 s = .next t ∧ Form q t.kept := by
  unfold execAdd; exact ⟨_, rfl, State.settle_form _ (by simp only [State.begin_kept, State.kept_mk, State.kept_eta, State.alu_kept, h])⟩
theorem execMulh_form {q : List Instr} (a1 : _) (a2 : _) (s : State) (h : Form q s.kept) : ∃ t, execMulh a1 a2 s = .next t ∧ Form q t.kept := by
  unfold execMulh; exact ⟨_, rfl, State.settle_form _ (by simp only [State.begin_kept, State.kept_mk, State.kept_eta, State.alu_kept, h])⟩
theorem execDwell_form {q : List Instr} (a1 : _) (a2 : _) (a3 : _) (s : State) (h : Form q s.kept) : ∃ t, execDwell a1 a2 a3 s = .next t ∧ Form q t.kept := by
  unfold execDwell; refine ⟨_, rfl, State.settle_form _ (Form.same (State.issue_kept _ _ _ _ _ (fun t u hu => ?_)) (Form.same (State.begin_kept _) h))⟩; (try dsimp only at hu); (repeat' split at hu) <;> cases hu <;> (repeat' split) <;> first | with_reducible rfl | simp only [State.kept_mk, State.kept_eta, State.issue_kept, State.enqueue_kept]
theorem execSpeed_form {q : List Instr} (a1 : _) (a2 : _) (s : State) (h : Form q s.kept) : ∃ t, execSpeed a1 a2 s = .next t ∧ Form q t.kept := by
  unfold execSpeed; refine ⟨_, rfl, State.settle_form _ (Form.same (State.issue_kept _ _ _ _ _ (fun t u hu => ?_)) (Form.same (State.begin_kept _) h))⟩; (try dsimp only at hu); (repeat' split at hu) <;> cases hu <;> (repeat' split) <;> first | with_reducible rfl | simp only [State.kept_mk, State.kept_eta, State.issue_kept, State.setSpeed_kept]
theorem State.yieldIss_kept (s u : State) (n z : Nat) (all : Bool) (h : s.yieldIss n all z = .ok u) : u.kept = s.kept := by
  unfold State.yieldIss at h
  (repeat' split at h) <;> cases h <;> (repeat' split) <;> first | rfl | exact State.yieldZones_kept ..

theorem execYield_form {q : List Instr} (n : _) (b : _) (s : State) (h : Form q s.kept) : ∃ t, execYield n b s = .next t ∧ Form q t.kept :=
  ⟨_, rfl, State.settle_form _ (Form.same (State.issue_kept _ _ _ _ _ (fun _ _ hu => State.yieldIss_kept _ _ _ _ _ hu)) (Form.same (State.begin_kept _) h))⟩

theorem execArc_form {q : List Instr} (a1 : _) (a2 : _) (a3 : _) (s : State) (h : Form q s.kept) : ∃ t, execArc a1 a2 a3 s = .next t ∧ Form q t.kept := by
  unfold execArc; refine ⟨_, rfl, State.settle_form _ (Form.same (State.issue_kept _ _ _ _ _ (fun t u hu => ?_)) (Form.same (State.begin_kept _) h))⟩; (try dsimp only at hu); (repeat' split at hu) <;> cases hu <;> (repeat' split) <;> first | with_reducible rfl | simp only [State.kept_mk, State.kept_eta, State.issue_kept, State.setPxyz_kept, State.enqueue_kept]
theorem execSpln_form {q : List Instr} (a1 : _) (a2 : _) (a3 : _) (s : State) (h : Form q s.kept) : ∃ t, execSpln a1 a2 a3 s = .next t ∧ Form q t.kept := by
  unfold execSpln; refine ⟨_, rfl, State.settle_form _ (Form.same (State.issue_kept _ _ _ _ _ (fun t u hu => ?_)) (Form.same (State.begin_kept _) h))⟩; (try dsimp only at hu); (repeat' split at hu) <;> cases hu <;> (repeat' split) <;> first | with_reducible rfl | simp only [State.kept_mk, State.kept_eta, State.issue_kept, State.setPxyz_kept, State.enqueue_kept]
theorem execLayer_form {q : List Instr} (a1 : _) (a2 : _) (s : State) (h : Form q s.kept) : ∃ t, execLayer a1 a2 s = .next t ∧ Form q t.kept := by
  unfold execLayer; exact ⟨_, rfl, State.settle_form _ (by simp only [State.begin_kept, State.kept_mk, State.kept_eta, State.queued_kept, h])⟩
theorem execWobble_form {q : List Instr} (a1 : _) (a2 : _) (s : State) (h : Form q s.kept) : ∃ t, execWobble a1 a2 s = .next t ∧ Form q t.kept := by
  unfold execWobble; exact ⟨_, rfl, State.settle_form _ (by simp only [State.begin_kept, State.kept_mk, State.kept_eta, State.queued_kept, h])⟩
theorem execTag_form {q : List Instr} (a1 : _) (a2 : _) (s : State) (h : Form q s.kept) : ∃ t, execTag a1 a2 s = .next t ∧ Form q t.kept := by
  unfold execTag; exact ⟨_, rfl, State.settle_form _ (by simp only [State.begin_kept, State.kept_mk, State.kept_eta, State.queued_kept, h])⟩
theorem execSky_form {q : List Instr} (a1 : _) (a2 : _) (s : State) (h : Form q s.kept) : ∃ t, execSky a1 a2 s = .next t ∧ Form q t.kept := by
  unfold execSky; exact ⟨_, rfl, State.settle_form _ (by simp only [State.begin_kept, State.kept_mk, State.kept_eta, State.queued_kept, h])⟩
theorem execJump_form {q : List Instr} (a1 : _) (a2 : _) (a3 : _) (s : State) (h : Form q s.kept) : ∃ t, execJump a1 a2 a3 s = .next t ∧ Form q t.kept := by
  unfold execJump; exact ⟨_, rfl, State.settle_form _ (by simp only [State.begin_kept, State.kept_mk, State.kept_eta, State.moveInstr_kept, h])⟩
theorem execDelays_form {q : List Instr} (a1 : _) (a2 : _) (s : State) (h : Form q s.kept) : ∃ t, execDelays a1 a2 s = .next t ∧ Form q t.kept := by
  unfold execDelays; exact ⟨_, rfl, State.settle_form _ (by simp only [State.begin_kept, State.kept_mk, State.kept_eta, State.queued_kept, h])⟩
theorem execPower_form {q : List Instr} (a1 : _) (a2 : _) (s : State) (h : Form q s.kept) : ∃ t, execPower a1 a2 s = .next t ∧ Form q t.kept := by
  unfold execPower; refine ⟨_, rfl, State.settle_form _ (Form.same (State.issue_kept _ _ _ _ _ (fun t u hu => ?_)) (Form.same (State.begin_kept _) h))⟩; (try dsimp only at hu); (repeat' split at hu) <;> cases hu <;> (repeat' split) <;> first | with_reducible rfl | simp only [State.kept_mk, State.kept_eta, State.issue_kept, State.modEsc_kept]
theorem execMark_form {q : List Instr} (a1 : _) (a2 : _) (a3 : _) (s : State) (h : Form q s.kept) : ∃ t, execMark a1 a2 a3 s = .next t ∧ Form q t.kept := by
  unfold execMark; exact ⟨_, rfl, State.settle_form _ (by simp only [State.begin_kept, State.kept_mk, State.kept_eta, State.moveInstr_kept, h])⟩
theorem execAwait_form {q : List Instr} (a1 : _) (a2 : _) (a3 : _) (s : State) (h : Form q s.kept) : ∃ t, execAwait a1 a2 a3 s = .next t ∧ Form q t.kept := by
  unfold execAwait; exact ⟨_, rfl, State.settle_form _ (by simp only [State.begin_kept, State.kept_mk, State.kept_eta, State.waitInstr_kept, h])⟩
theorem execHaltComplete_form {q : List Instr} (a1 : _) (s : State) (h : Form q s.kept) : ∃ t, execHaltComplete a1 s = .next t ∧ Form q t.kept := by
  unfold execHaltComplete; exact ⟨_, rfl, State.settle_form _ (by (repeat' split) <;> first | (with_reducible exact h) | simp only [State.begin_kept, State.kept_mk, State.kept_eta, State.modEsc_kept, State.setPc_kept, State.set_kept, State.escLine_kept, State.releaseZones_kept, State.setEscState_kept, h] | simp only [apply_ite State.kept, ite_self, State.begin_kept, State.kept_foldl, implies_true, Form.foldl, State.kept_mk, State.kept_eta, State.modEsc_kept, State.setPc_kept, State.set_kept, State.escLine_kept, State.releaseZones_kept, State.setEscState_kept, h])⟩
theorem execHalt_form {q : List Instr} (a1 : _) (a2 : _) (s : State) (h : Form q s.kept) : ∃ t, execHalt a1 a2 s = .next t ∧ Form q t.kept := by
  unfold execHalt; exact ⟨_, rfl, State.settle_form _ (by simp only [State.begin_kept, State.kept_mk, State.kept_eta, State.waitInstr_kept, h])⟩
theorem execFloat_form {q : List Instr} (a1 : _) (a2 : _) (s : State) (h : Form q s.kept) : ∃ t, execFloat a1 a2 s = .next t ∧ Form q t.kept := by
  unfold execFloat; exact ⟨_, rfl, State.settle_form _ (by simp only [State.begin_kept, State.kept_mk, State.kept_eta, State.waitInstr_kept, h])⟩
theorem execWaittEnd_form {q : List Instr} (a1 : _) (s : State) (h : Form q s.kept) : ∃ t, execWaittEnd a1 s = .next t ∧ Form q t.kept := by
  unfold execWaittEnd; exact ⟨_, rfl, State.settle_form _ (by (repeat' split) <;> first | (with_reducible exact h) | simp only [State.begin_kept, State.kept_mk, State.kept_eta, State.endWait_kept, h] | simp only [apply_ite State.kept, ite_self, State.begin_kept, State.kept_foldl, implies_true, Form.foldl, State.kept_mk, State.kept_eta, State.endWait_kept, h])⟩
theorem execClaim_form {q : List Instr} (a1 : _) (a2 : _) (s : State) (h : Form q s.kept) : ∃ t, execClaim a1 a2 s = .next t ∧ Form q t.kept := by
  unfold execClaim; exact ⟨_, rfl, State.settle_form _ (by simp only [State.begin_kept, State.kept_mk, State.kept_eta, State.waitInstr_kept, h])⟩
theorem execWaitt_form {q : List Instr} (a1 : _) (a2 : _) (a3 : _) (s : State) (h : Form q s.kept) : ∃ t, execWaitt a1 a2 a3 s = .next t ∧ Form q t.kept := by
  unfold execWaitt; exact ⟨_, rfl, State.settle_form _ (by simp only [State.begin_kept, State.kept_mk, State.kept_eta, State.waitInstr_kept, h])⟩
theorem execSync_form {q : List Instr} (a1 : _) (a2 : _) (s : State) (h : Form q s.kept) : ∃ t, execSync a1 a2 s = .next t ∧ Form q t.kept := by
  unfold execSync; exact ⟨_, rfl, State.settle_form _ (by simp only [State.begin_kept, State.kept_mk, State.kept_eta, State.waitInstr_kept, h])⟩
theorem execTrap_form {q : List Instr} (a1 : _) (a2 : _) (s : State) (h : Form q s.kept) : ∃ t, execTrap a1 a2 s = .next t ∧ Form q t.kept := by
  unfold execTrap; refine ⟨_, rfl, State.settle_form _ (Form.same (State.issue_kept _ _ _ _ _ (fun t u hu => ?_)) (Form.same (State.begin_kept _) h))⟩; (try dsimp only at hu); (repeat' split at hu) <;> cases hu <;> (repeat' split) <;> first | with_reducible rfl | simp only [State.kept_mk, State.kept_eta, State.issue_kept, State.set_kept, State.escLine_kept, State.issueWait_kept]
theorem execClaimTimeout_form {q : List Instr} (a1 : _) (s : State) (h : Form q s.kept) : ∃ t, execClaimTimeout a1 s = .next t ∧ Form q t.kept := by
  unfold execClaimTimeout; exact ⟨_, rfl, State.settle_form _ (by (repeat' split) <;> first | (with_reducible exact h) | simp only [State.begin_kept, State.kept_mk, State.kept_eta, State.endWait_kept, State.set_kept, State.leaveClaims_kept, h] | simp only [apply_ite State.kept, ite_self, State.begin_kept, State.kept_foldl, implies_true, Form.foldl, State.kept_mk, State.kept_eta, State.endWait_kept, State.set_kept, State.leaveClaims_kept, h])⟩
theorem execAwaitTimeout_form {q : List Instr} (a1 : _) (s : State) (h : Form q s.kept) : ∃ t, execAwaitTimeout a1 s = .next t ∧ Form q t.kept := by
  unfold execAwaitTimeout; exact ⟨_, rfl, State.settle_form _ (by (repeat' split) <;> first | (with_reducible exact h) | simp only [State.begin_kept, State.kept_mk, State.kept_eta, State.endWait_kept, State.set_kept, h] | simp only [apply_ite State.kept, ite_self, State.begin_kept, State.kept_foldl, implies_true, Form.foldl, State.kept_mk, State.kept_eta, State.endWait_kept, State.set_kept, h])⟩
theorem execRextMeasurement_form {q : List Instr} (a1 : _) (s : State) (h : Form q s.kept) : ∃ t, execRextMeasurement a1 s = .next t ∧ Form q t.kept := by
  unfold execRextMeasurement; exact ⟨_, rfl, State.settle_form _ (by simp only [State.begin_kept, State.kept_mk, State.kept_eta, State.rextMeasure_kept, h])⟩
theorem execCalStepStart_form {q : List Instr} (s : State) (h : Form q s.kept) : ∃ t, execCalStepStart s = .next t ∧ Form q t.kept := by
  unfold execCalStepStart; exact ⟨_, rfl, State.settle_form _ (by simp only [State.begin_kept, State.kept_mk, State.kept_eta, State.calStart_kept, h])⟩
theorem execTrimSave_form {q : List Instr} (s : State) (h : Form q s.kept) : ∃ t, execTrimSave s = .next t ∧ Form q t.kept := by
  unfold execTrimSave; exact ⟨_, rfl, State.settle_form _ (by simp only [State.begin_kept, State.kept_mk, State.kept_eta, State.trimSave_kept, h])⟩
theorem execCalStepComplete_form {q : List Instr} (a1 : _) (s : State) (h : Form q s.kept) : ∃ t, execCalStepComplete a1 s = .next t ∧ Form q t.kept := by
  unfold execCalStepComplete; exact ⟨_, rfl, State.settle_form _ (by simp only [State.begin_kept, State.kept_mk, State.kept_eta, State.calComplete_kept, h])⟩
theorem execCalRestart_form {q : List Instr} (s : State) (h : Form q s.kept) : ∃ t, execCalRestart s = .next t ∧ Form q t.kept := by
  unfold execCalRestart; exact ⟨_, rfl, State.settle_form _ (by simp only [State.begin_kept, State.kept_mk, State.kept_eta, State.calRestart_kept, h])⟩
theorem execTrimSaveComplete_form {q : List Instr} (a1 : _) (a2 : _) (s : State) (h : Form q s.kept) : ∃ t, execTrimSaveComplete a1 a2 s = .next t ∧ Form q t.kept := by
  unfold execTrimSaveComplete; exact ⟨_, rfl, State.settle_form _ (by simp only [State.begin_kept, State.kept_mk, State.kept_eta, State.trimSaveDone_form, h])⟩
theorem execCalStepTimeout_form {q : List Instr} (s : State) (h : Form q s.kept) : ∃ t, execCalStepTimeout s = .next t ∧ Form q t.kept := by
  unfold execCalStepTimeout; exact ⟨_, rfl, State.settle_form _ (by simp only [State.begin_kept, State.kept_mk, State.kept_eta, State.calTimeout_kept, h])⟩
theorem execRebase_form {q : List Instr} (s : State) (h : Form q s.kept) : ∃ t, execRebase s = .next t ∧ Form q t.kept := by
  unfold execRebase; exact ⟨_, rfl, State.settle_form _ (by (repeat' split) <;> first | (with_reducible exact h) | simp only [State.begin_kept, State.kept_mk, State.kept_eta, State.rebaseCmd_kept, h] | simp only [apply_ite State.kept, ite_self, State.begin_kept, State.kept_foldl, implies_true, Form.foldl, State.kept_mk, State.kept_eta, State.rebaseCmd_kept, h])⟩
theorem execSweepSlot_form {q : List Instr} (a1 : _) (a2 : _) (s : State) (h : Form q s.kept) : ∃ t, execSweepSlot a1 a2 s = .next t ∧ Form q t.kept := by
  unfold execSweepSlot; exact ⟨_, rfl, State.settle_form _ (by simp only [State.begin_kept, State.kept_mk, State.kept_eta, State.sweepSlot_form, h])⟩
theorem execDialPeek_form {q : List Instr} (a1 : _) (a2 : _) (s : State) (h : Form q s.kept) : ∃ t, execDialPeek a1 a2 s = .next t ∧ Form q t.kept := by
  unfold execDialPeek; exact ⟨_, rfl, State.settle_form _ (by (repeat' split) <;> first | (with_reducible exact h) | simp only [State.begin_kept, State.kept_mk, State.kept_eta, State.reply_kept, State.peekDial_kept, h] | simp only [apply_ite State.kept, ite_self, State.begin_kept, State.kept_foldl, implies_true, Form.foldl, State.kept_mk, State.kept_eta, State.reply_kept, State.peekDial_kept, h])⟩
theorem execDepositCommit_form {q : List Instr} (a1 : _) (s : State) (h : Form q s.kept) : ∃ t, execDepositCommit a1 s = .next t ∧ Form q t.kept := by
  unfold execDepositCommit; exact ⟨_, rfl, State.settle_form _ (by simp only [State.begin_kept, State.kept_mk, State.kept_eta, State.depositCommit_form, h])⟩
theorem execClear_form {q : List Instr} (s : State) (h : Form q s.kept) : ∃ t, execClear s = .next t ∧ Form q t.kept := by
  unfold execClear; exact ⟨_, rfl, State.settle_form _ (by (repeat' split) <;> first | (with_reducible exact h) | simp only [State.begin_kept, State.kept_mk, State.kept_eta, State.clearCmd_kept, h] | simp only [apply_ite State.kept, ite_self, State.begin_kept, State.kept_foldl, implies_true, Form.foldl, State.kept_mk, State.kept_eta, State.clearCmd_kept, h])⟩
theorem execClearComplete_form {q : List Instr} (s : State) (h : Form q s.kept) : ∃ t, execClearComplete s = .next t ∧ Form q t.kept := by
  unfold execClearComplete; exact ⟨_, rfl, State.settle_form _ (by (repeat' split) <;> first | (with_reducible exact h) | simp only [State.begin_kept, State.kept_mk, State.kept_eta, State.dialClearDone_form, h] | simp only [apply_ite State.kept, ite_self, State.begin_kept, State.kept_foldl, implies_true, Form.foldl, State.kept_mk, State.kept_eta, State.dialClearDone_form, h])⟩
theorem execPeerCheckResult_form {q : List Instr} (a1 : _) (a2 : _) (s : State) (h : Form q s.kept) : ∃ t, execPeerCheckResult a1 a2 s = .next t ∧ Form q t.kept := by
  unfold execPeerCheckResult; exact ⟨_, rfl, State.settle_form _ (by simp only [State.begin_kept, State.kept_mk, State.kept_eta, State.peerResult_kept, h])⟩
theorem execRebaseComplete_form {q : List Instr} (a1 : _) (s : State) (h : Form q s.kept) : ∃ t, execRebaseComplete s a1 = .next t ∧ Form q t.kept := by
  unfold execRebaseComplete; exact ⟨_, rfl, State.settle_form _ (by simp only [State.begin_kept, State.kept_mk, State.kept_eta, State.rebaseDone_form, h])⟩
theorem execIndexEdge_form {q : List Instr} (a1 : _) (s : State) (h : Form q s.kept) : ∃ t, execIndexEdge a1 s = .next t ∧ Form q t.kept := by
  unfold execIndexEdge; exact ⟨_, rfl, State.settle_form _ (by simp only [State.begin_kept, State.kept_mk, State.kept_eta, State.encIndex_kept, h])⟩
theorem execEncoderCount_form {q : List Instr} (a1 : _) (a2 : _) (a3 : _) (s : State) (h : Form q s.kept) : ∃ t, execEncoderCount a1 a2 a3 s = .next t ∧ Form q t.kept := by
  unfold execEncoderCount; exact ⟨_, rfl, State.settle_form _ (by simp only [State.begin_kept, State.kept_mk, State.kept_eta, State.encCount_kept, h])⟩
theorem execSpeedWindow_form {q : List Instr} (a1 : _) (s : State) (h : Form q s.kept) : ∃ t, execSpeedWindow a1 s = .next t ∧ Form q t.kept := by
  unfold execSpeedWindow; exact ⟨_, rfl, State.settle_form _ (by simp only [State.begin_kept, State.kept_mk, State.kept_eta, State.encSpeed_kept, h])⟩
theorem execIllegalWindow_form {q : List Instr} (a1 : _) (s : State) (h : Form q s.kept) : ∃ t, execIllegalWindow a1 s = .next t ∧ Form q t.kept := by
  unfold execIllegalWindow; exact ⟨_, rfl, State.settle_form _ (by simp only [State.begin_kept, State.kept_mk, State.kept_eta, State.encIllegal_kept, h])⟩
theorem execEncPosWrite_form {q : List Instr} (a1 : _) (a2 : _) (s : State) (h : Form q s.kept) : ∃ t, execEncPosWrite a1 a2 s = .next t ∧ Form q t.kept := by
  unfold execEncPosWrite; exact ⟨_, rfl, State.settle_form _ (by simp only [State.begin_kept, State.kept_mk, State.kept_eta, State.encWrite_kept, h])⟩
theorem execDeviceBarrierRelease_form {q : List Instr} (a1 : _) (s : State) (h : Form q s.kept) : ∃ t, execDeviceBarrierRelease a1 s = .next t ∧ Form q t.kept := by
  unfold execDeviceBarrierRelease; exact ⟨_, rfl, State.settle_form _ (by simp only [State.begin_kept, State.kept_mk, State.kept_eta, State.devRelease_kept, h])⟩
theorem execResume_form {q : List Instr} (a1 : _) (s : State) (h : Form q s.kept) : ∃ t, execResume a1 s = .next t ∧ Form q t.kept := by
  unfold execResume; exact ⟨_, rfl, State.settle_form _ (by simp only [State.begin_kept, State.kept_mk, State.kept_eta, State.escDo_kept, State.resumeCmd_kept, h])⟩
theorem execStop_form {q : List Instr} (a1 : _) (s : State) (h : Form q s.kept) : ∃ t, execStop a1 s = .next t ∧ Form q t.kept := by
  unfold execStop; exact ⟨_, rfl, State.settle_form _ (by simp only [State.begin_kept, State.kept_mk, State.kept_eta, State.escDo_kept, State.stopCmd_kept, h])⟩
theorem execGcmdResume_form {q : List Instr} (a1 : _) (s : State) (h : Form q s.kept) : ∃ t, execGcmdResume a1 s = .next t ∧ Form q t.kept := by
  unfold execGcmdResume; exact ⟨_, rfl, State.settle_form _ (by (repeat' split) <;> first | (with_reducible exact h) | simp only [State.begin_kept, State.kept_mk, State.kept_eta, State.forMask_kept, State.noteGcmd_kept, State.resumeCmd_kept, h] | simp only [apply_ite State.kept, ite_self, State.begin_kept, State.kept_foldl, implies_true, Form.foldl, State.kept_mk, State.kept_eta, State.forMask_kept, State.noteGcmd_kept, State.resumeCmd_kept, h])⟩
theorem execPrefetchComplete_form {q : List Instr} (a1 : _) (s : State) (h : Form q s.kept) : ∃ t, execPrefetchComplete a1 s = .next t ∧ Form q t.kept := by
  unfold execPrefetchComplete; exact ⟨_, rfl, State.settle_form _ (by simp only [State.begin_kept, State.kept_mk, State.kept_eta, State.prefetchDone_kept, h])⟩
theorem execFabricBarrierDecision_form {q : List Instr} (a1 : _) (s : State) (h : Form q s.kept) : ∃ t, execFabricBarrierDecision a1 s = .next t ∧ Form q t.kept := by
  unfold execFabricBarrierDecision; exact ⟨_, rfl, State.settle_form _ (by simp only [State.begin_kept, State.kept_mk, State.kept_eta, State.fabDecision_kept, h])⟩
theorem execGcmdStart_form {q : List Instr} (a1 : _) (s : State) (h : Form q s.kept) : ∃ t, execGcmdStart a1 s = .next t ∧ Form q t.kept := by
  unfold execGcmdStart; exact ⟨_, rfl, State.settle_form _ (by (repeat' split) <;> first | (with_reducible exact h) | simp only [State.begin_kept, State.kept_mk, State.kept_eta, State.forMask_kept, State.noteGcmd_kept, State.startCmd_kept, h] | simp only [apply_ite State.kept, ite_self, State.begin_kept, State.kept_foldl, implies_true, Form.foldl, State.kept_mk, State.kept_eta, State.forMask_kept, State.noteGcmd_kept, State.startCmd_kept, h])⟩
theorem execStartCommand_form {q : List Instr} (s : State) (h : Form q s.kept) : ∃ t, execStartCommand s = .next t ∧ Form q t.kept := by
  unfold execStartCommand; exact ⟨_, rfl, State.settle_form _ (by simp only [State.begin_kept, State.kept_mk, State.kept_eta, State.startCommand_kept, h])⟩
theorem execStep_form {q : List Instr} (a1 : _) (s : State) (h : Form q s.kept) : ∃ t, execStep a1 s = .next t ∧ Form q t.kept := by
  unfold execStep; exact ⟨_, rfl, State.settle_form _ (by simp only [State.begin_kept, State.kept_mk, State.kept_eta, State.escDo_kept, State.stepCmd_kept, h])⟩
theorem execFlush_form {q : List Instr} (a1 : _) (s : State) (h : Form q s.kept) : ∃ t, execFlush a1 s = .next t ∧ Form q t.kept := by
  unfold execFlush; exact ⟨_, rfl, State.settle_form _ (by simp only [State.begin_kept, State.kept_mk, State.kept_eta, State.escDo_kept, State.flushCmd_kept, h])⟩
theorem execGcmdStop_form {q : List Instr} (a1 : _) (s : State) (h : Form q s.kept) : ∃ t, execGcmdStop a1 s = .next t ∧ Form q t.kept := by
  unfold execGcmdStop; exact ⟨_, rfl, State.settle_form _ (by (repeat' split) <;> first | (with_reducible exact h) | simp only [State.begin_kept, State.kept_mk, State.kept_eta, State.forMask_kept, State.noteGcmd_kept, State.stopCmd_kept, h] | simp only [apply_ite State.kept, ite_self, State.begin_kept, State.kept_foldl, implies_true, Form.foldl, State.kept_mk, State.kept_eta, State.forMask_kept, State.noteGcmd_kept, State.stopCmd_kept, h])⟩
theorem execFetchLineReturn_form {q : List Instr} (a1 : _) (a2 : _) (a3 : _) (s : State) (h : Form q s.kept) : ∃ t, execFetchLineReturn a1 a2 a3 s = .next t ∧ Form q t.kept := by
  unfold execFetchLineReturn; exact ⟨_, rfl, State.settle_form _ (by simp only [State.begin_kept, State.kept_mk, State.kept_eta, State.fetchLine_kept, h])⟩
theorem execFabricBarrierLocalTimeout_form {q : List Instr} (a1 : _) (s : State) (h : Form q s.kept) : ∃ t, execFabricBarrierLocalTimeout a1 s = .next t ∧ Form q t.kept := by
  unfold execFabricBarrierLocalTimeout; exact ⟨_, rfl, State.settle_form _ (by simp only [State.begin_kept, State.kept_mk, State.kept_eta, State.fabLocalTimeout_kept, h])⟩
theorem execDeviceBarrierTimeout_form {q : List Instr} (a1 : _) (s : State) (h : Form q s.kept) : ∃ t, execDeviceBarrierTimeout a1 s = .next t ∧ Form q t.kept := by
  unfold execDeviceBarrierTimeout; exact ⟨_, rfl, State.settle_form _ (by simp only [State.begin_kept, State.kept_mk, State.kept_eta, State.devTimeout_kept, h])⟩
theorem execEvset_form {q : List Instr} (a1 : _) (a2 : _) (s : State) (h : Form q s.kept) : ∃ t, execEvset a1 a2 s = .next t ∧ Form q t.kept := by
  unfold execEvset; exact ⟨_, rfl, State.settle_form _ (by (repeat' split) <;> first | (with_reducible exact h) | simp only [State.begin_kept, State.kept_mk, State.kept_eta, State.setEvents_kept, h] | simp only [apply_ite State.kept, ite_self, State.begin_kept, State.kept_foldl, implies_true, Form.foldl, State.kept_mk, State.kept_eta, State.setEvents_kept, h])⟩
theorem execEvfire_form {q : List Instr} (a1 : _) (s : State) (h : Form q s.kept) : ∃ t, execEvfire a1 s = .next t ∧ Form q t.kept := by
  unfold execEvfire; exact ⟨_, rfl, State.settle_form _ (by simp only [State.begin_kept, State.kept_mk, State.kept_eta, State.evFire_kept, h])⟩
theorem execStart_form {q : List Instr} (a1 : _) (s : State) (h : Form q s.kept) : ∃ t, execStart a1 s = .next t ∧ Form q t.kept := by
  unfold execStart; exact ⟨_, rfl, State.settle_form _ (by simp only [State.begin_kept, State.kept_mk, State.kept_eta, State.escDo_kept, State.startCmd_kept, h])⟩
theorem execEnableWrite_form {q : List Instr} (a1 : _) (a2 : _) (s : State) (h : Form q s.kept) : ∃ t, execEnableWrite a1 a2 s = .next t ∧ Form q t.kept := by
  unfold execEnableWrite; exact ⟨_, rfl, State.settle_form _ (by simp only [State.begin_kept, State.kept_mk, State.kept_eta, State.escDo_kept, State.enableWrite_kept, h])⟩
theorem execFabricBarrierTimeout_form {q : List Instr} (a1 : _) (s : State) (h : Form q s.kept) : ∃ t, execFabricBarrierTimeout a1 s = .next t ∧ Form q t.kept := by
  unfold execFabricBarrierTimeout; exact ⟨_, rfl, State.settle_form _ (by simp only [State.begin_kept, State.kept_mk, State.kept_eta, State.fabTimeout_kept, h])⟩
theorem execAlarmMatch_form {q : List Instr} (a1 : _) (s : State) (h : Form q s.kept) : ∃ t, execAlarmMatch a1 s = .next t ∧ Form q t.kept := by
  unfold execAlarmMatch; exact ⟨_, rfl, State.settle_form _ (by (repeat' split) <;> first | (with_reducible exact h) | simp only [State.begin_kept, State.kept_mk, State.kept_eta, State.setEvents_kept, h] | simp only [apply_ite State.kept, ite_self, State.begin_kept, State.kept_foldl, implies_true, Form.foldl, State.kept_mk, State.kept_eta, State.setEvents_kept, h])⟩
theorem execNvWrite_form {q : List Instr} (a1 : _) (a2 : _) (a3 : _) (a4 : _) (s : State) (h : Form q s.kept) : ∃ t, execNvWrite a1 a2 a3 a4 s = .next t ∧ Form q t.kept := by
  unfold execNvWrite; exact ⟨_, rfl, State.settle_form _ (by (repeat' split) <;> first | (with_reducible exact h) | simp only [State.begin_kept, State.kept_mk, State.kept_eta, State.nvWrite_form, h] | simp only [apply_ite State.kept, ite_self, State.begin_kept, State.kept_foldl, implies_true, Form.foldl, State.kept_mk, State.kept_eta, State.nvWrite_form, h])⟩
theorem execSwrec_form {q : List Instr} (a1 : _) (s : State) (h : Form q s.kept) : ∃ t, execSwrec a1 s = .next t ∧ Form q t.kept := by
  unfold execSwrec; exact ⟨_, rfl, State.settle_form _ (by simp only [State.begin_kept, State.kept_mk, State.kept_eta, State.swRec_kept, h])⟩
theorem execInjectionDisarm_form {q : List Instr} (s : State) (h : Form q s.kept) : ∃ t, execInjectionDisarm s = .next t ∧ Form q t.kept := by
  unfold execInjectionDisarm; exact ⟨_, rfl, State.settle_form _ (by simp only [State.begin_kept, State.kept_mk, State.kept_eta, State.injDisarm_kept, h])⟩
theorem execChronographRecordWrite_form {q : List Instr} (a1 : _) (s : State) (h : Form q s.kept) : ∃ t, execChronographRecordWrite a1 s = .next t ∧ Form q t.kept := by
  unfold execChronographRecordWrite; exact ⟨_, rfl, State.settle_form _ (by simp only [State.begin_kept, State.kept_mk, State.kept_eta, State.chrWrite_form, h])⟩
theorem execRailFault_form {q : List Instr} (a1 : _) (s : State) (h : Form q s.kept) : ∃ t, execRailFault a1 s = .next t ∧ Form q t.kept := by
  unfold execRailFault; exact ⟨_, rfl, State.settle_form _ (by simp only [State.begin_kept, State.kept_mk, State.kept_eta, State.railFault_kept, h])⟩
theorem execSplitInEdge_form {q : List Instr} (s : State) (h : Form q s.kept) : ∃ t, execSplitInEdge s = .next t ∧ Form q t.kept := by
  unfold execSplitInEdge; exact ⟨_, rfl, State.settle_form _ (by simp only [State.begin_kept, State.kept_mk, State.kept_eta, State.splitTrigger_kept, h])⟩
theorem execInjectionArm_form {q : List Instr} (a1 : _) (s : State) (h : Form q s.kept) : ∃ t, execInjectionArm a1 s = .next t ∧ Form q t.kept := by
  unfold execInjectionArm; exact ⟨_, rfl, State.settle_form _ (by simp only [State.begin_kept, State.kept_mk, State.kept_eta, State.injArm_kept, h])⟩
theorem execFaultSourceAssert_form {q : List Instr} (a1 : _) (s : State) (h : Form q s.kept) : ∃ t, execFaultSourceAssert a1 s = .next t ∧ Form q t.kept := by
  unfold execFaultSourceAssert; exact ⟨_, rfl, State.settle_form _ (by simp only [State.begin_kept, State.kept_mk, State.kept_eta, State.srcAssert_kept, h])⟩
theorem execChipResetHoldEnd_form {q : List Instr} (s : State) (h : Form q s.kept) : ∃ t, execChipResetHoldEnd s = .next t ∧ Form q t.kept := by
  unfold execChipResetHoldEnd; exact ⟨_, rfl, State.settle_form _ (by simp only [State.begin_kept, State.kept_mk, State.kept_eta, State.chipHoldEnd_form, h])⟩
theorem execSplit_form {q : List Instr} (s : State) (h : Form q s.kept) : ∃ t, execSplit s = .next t ∧ Form q t.kept := by
  unfold execSplit; exact ⟨_, rfl, State.settle_form _ (by simp only [State.begin_kept, State.kept_mk, State.kept_eta, State.splitDueNow_kept, h])⟩
theorem execSplitCollectionDone_form {q : List Instr} (s : State) (h : Form q s.kept) : ∃ t, execSplitCollectionDone s = .next t ∧ Form q t.kept := by
  unfold execSplitCollectionDone; exact ⟨_, rfl, State.settle_form _ (by simp only [State.begin_kept, State.kept_mk, State.kept_eta, State.splitDone_kept, h])⟩
theorem execAssert_form {q : List Instr} (s : State) (h : Form q s.kept) : ∃ t, execAssert s = .next t ∧ Form q t.kept := by
  unfold execAssert; exact ⟨_, rfl, State.settle_form _ (by simp only [State.begin_kept, State.kept_mk, State.kept_eta, State.hackCmd_kept, h])⟩
theorem execInjectionRecheck_form {q : List Instr} (a1 : _) (s : State) (h : Form q s.kept) : ∃ t, execInjectionRecheck a1 s = .next t ∧ Form q t.kept := by
  unfold execInjectionRecheck; exact ⟨_, rfl, State.settle_form _ (by simp only [State.begin_kept, State.kept_mk, State.kept_eta, State.injRecheck_kept, h])⟩
theorem execRowRemapComplete_form {q : List Instr} (s : State) (h : Form q s.kept) : ∃ t, execRowRemapComplete s = .next t ∧ Form q t.kept := by
  unfold execRowRemapComplete; exact ⟨_, rfl, State.settle_form _ (by simp only [State.begin_kept, State.kept_mk, State.kept_eta, State.remapDone_form, h])⟩
theorem execFire_form {q : List Instr} (s : State) (h : Form q s.kept) : ∃ t, execFire s = .next t ∧ Form q t.kept := by
  unfold execFire; exact ⟨_, rfl, State.settle_form _ (by simp only [State.begin_kept, State.kept_mk, State.kept_eta, State.splitTrigger_kept, h])⟩
theorem execCaptureClear_form {q : List Instr} (s : State) (h : Form q s.kept) : ∃ t, execCaptureClear s = .next t ∧ Form q t.kept := by
  unfold execCaptureClear; exact ⟨_, rfl, State.settle_form _ (by simp only [State.begin_kept, State.kept_mk, State.kept_eta, State.captureClear_kept, h])⟩
theorem execRelease_form {q : List Instr} (s : State) (h : Form q s.kept) : ∃ t, execRelease s = .next t ∧ Form q t.kept := by
  unfold execRelease; exact ⟨_, rfl, State.settle_form _ (by simp only [State.begin_kept, State.kept_mk, State.kept_eta, State.hackRelease_kept, h])⟩
theorem execDoneclr_form {q : List Instr} (s : State) (h : Form q s.kept) : ∃ t, execDoneclr s = .next t ∧ Form q t.kept := by
  unfold execDoneclr; exact ⟨_, rfl, State.settle_form _ (by simp only [State.begin_kept, State.kept_mk, State.kept_eta, State.splitClear_kept, h])⟩
theorem execEqTrackStep_form {q : List Instr} (a1 : _) (a2 : _) (s : State) (h : Form q s.kept) : ∃ t, execEqTrackStep a1 a2 s = .next t ∧ Form q t.kept := by
  unfold execEqTrackStep; exact ⟨_, rfl, State.settle_form _ (by simp only [State.begin_kept, State.kept_mk, State.kept_eta, State.hlEqStep_kept, h])⟩
theorem execCfgResend_form {q : List Instr} (a1 : _) (s : State) (h : Form q s.kept) : ∃ t, execCfgResend a1 s = .next t ∧ Form q t.kept := by
  unfold execCfgResend; exact ⟨_, rfl, State.settle_form _ (by simp only [State.begin_kept, State.kept_mk, State.kept_eta, State.hlCfgResend_kept, h])⟩
theorem execSvcRetry_form {q : List Instr} (a1 : _) (s : State) (h : Form q s.kept) : ∃ t, execSvcRetry a1 s = .next t ∧ Form q t.kept := by
  unfold execSvcRetry; exact ⟨_, rfl, State.settle_form _ (by simp only [State.begin_kept, State.kept_mk, State.kept_eta, State.hlSvcRetry_kept, h])⟩
theorem execLinkEnable_form {q : List Instr} (a1 : _) (s : State) (h : Form q s.kept) : ∃ t, execLinkEnable a1 s = .next t ∧ Form q t.kept := by
  unfold execLinkEnable; exact ⟨_, rfl, State.settle_form _ (by simp only [State.begin_kept, State.kept_mk, State.kept_eta, State.hlEnable_kept, h])⟩
theorem execLossOfFrame_form {q : List Instr} (a1 : _) (s : State) (h : Form q s.kept) : ∃ t, execLossOfFrame a1 s = .next t ∧ Form q t.kept := by
  unfold execLossOfFrame; exact ⟨_, rfl, State.settle_form _ (by simp only [State.begin_kept, State.kept_mk, State.kept_eta, State.hlLoss_kept, h])⟩
theorem execEqualiseDone_form {q : List Instr} (a1 : _) (s : State) (h : Form q s.kept) : ∃ t, execEqualiseDone a1 s = .next t ∧ Form q t.kept := by
  unfold execEqualiseDone; exact ⟨_, rfl, State.settle_form _ (by simp only [State.begin_kept, State.kept_mk, State.kept_eta, State.hlEqDone_kept, h])⟩
theorem execTrnSlot_form {q : List Instr} (a1 : _) (a2 : _) (s : State) (h : Form q s.kept) : ∃ t, execTrnSlot a1 a2 s = .next t ∧ Form q t.kept := by
  unfold execTrnSlot; exact ⟨_, rfl, State.settle_form _ (by simp only [State.begin_kept, State.kept_mk, State.kept_eta, State.hlTrnSlot_kept, h])⟩
theorem execSvcGo_form {q : List Instr} (a1 : _) (a2 : _) (s : State) (h : Form q s.kept) : ∃ t, execSvcGo a1 a2 s = .next t ∧ Form q t.kept := by
  unfold execSvcGo; exact ⟨_, rfl, State.settle_form _ (by simp only [State.begin_kept, State.kept_mk, State.kept_eta, State.hlSvcGo_kept, h])⟩
theorem execL0sEntry_form {q : List Instr} (a1 : _) (s : State) (h : Form q s.kept) : ∃ t, execL0sEntry a1 s = .next t ∧ Form q t.kept := by
  unfold execL0sEntry; exact ⟨_, rfl, State.settle_form _ (by simp only [State.begin_kept, State.kept_mk, State.kept_eta, State.hlL0s_kept, h])⟩
theorem execRateSwitch_form {q : List Instr} (a1 : _) (s : State) (h : Form q s.kept) : ∃ t, execRateSwitch a1 s = .next t ∧ Form q t.kept := by
  unfold execRateSwitch; exact ⟨_, rfl, State.settle_form _ (by simp only [State.begin_kept, State.kept_mk, State.kept_eta, State.hlRateSwitch_kept, h])⟩
theorem execTlmSlot_form {q : List Instr} (a1 : _) (a2 : _) (s : State) (h : Form q s.kept) : ∃ t, execTlmSlot a1 a2 s = .next t ∧ Form q t.kept := by
  unfold execTlmSlot; exact ⟨_, rfl, State.settle_form _ (by simp only [State.begin_kept, State.kept_mk, State.kept_eta, State.hlTlmSlot_kept, h])⟩
theorem execRetrain_form {q : List Instr} (a1 : _) (s : State) (h : Form q s.kept) : ∃ t, execRetrain a1 s = .next t ∧ Form q t.kept := by
  unfold execRetrain; exact ⟨_, rfl, State.settle_form _ (by simp only [State.begin_kept, State.kept_mk, State.kept_eta, State.hlRetrain_kept, h])⟩
theorem execTimeTrackExchange_form {q : List Instr} (a1 : _) (s : State) (h : Form q s.kept) : ∃ t, execTimeTrackExchange a1 s = .next t ∧ Form q t.kept := by
  unfold execTimeTrackExchange; exact ⟨_, rfl, State.settle_form _ (by simp only [State.begin_kept, State.kept_mk, State.kept_eta, State.hlTrackTime_kept, h])⟩
theorem execResp_form {q : List Instr} (a1 : _) (a2 : _) (s : State) (h : Form q s.kept) : ∃ t, execResp a1 a2 s = .next t ∧ Form q t.kept := by
  unfold execResp; exact ⟨_, rfl, State.settle_form _ (by simp only [State.begin_kept, State.kept_mk, State.kept_eta, State.hlResp_kept, h])⟩
theorem execLinkWakeDetect_form {q : List Instr} (a1 : _) (s : State) (h : Form q s.kept) : ∃ t, execLinkWakeDetect a1 s = .next t ∧ Form q t.kept := by
  unfold execLinkWakeDetect; exact ⟨_, rfl, State.settle_form _ (by simp only [State.begin_kept, State.kept_mk, State.kept_eta, State.hlWakeDetect_kept, h])⟩
theorem execL1req_form {q : List Instr} (a1 : _) (s : State) (h : Form q s.kept) : ∃ t, execL1req a1 s = .next t ∧ Form q t.kept := by
  unfold execL1req; exact ⟨_, rfl, State.settle_form _ (by simp only [State.begin_kept, State.kept_mk, State.kept_eta, State.hlL1Req_kept, h])⟩
theorem execWake_form {q : List Instr} (a1 : _) (s : State) (h : Form q s.kept) : ∃ t, execWake a1 s = .next t ∧ Form q t.kept := by
  unfold execWake; exact ⟨_, rfl, State.settle_form _ (by simp only [State.begin_kept, State.kept_mk, State.kept_eta, State.hlWake_kept, h])⟩
theorem execPdSlot_form {q : List Instr} (a1 : _) (a2 : _) (s : State) (h : Form q s.kept) : ∃ t, execPdSlot a1 a2 s = .next t ∧ Form q t.kept := by
  unfold execPdSlot; exact ⟨_, rfl, State.settle_form _ (by simp only [State.begin_kept, State.kept_mk, State.kept_eta, State.hlPdSlot_kept, h])⟩
theorem execHlTresp_form {q : List Instr} (a1 : _) (a2 : _) (s : State) (h : Form q s.kept) : ∃ t, execHlTresp a1 a2 s = .next t ∧ Form q t.kept := by
  unfold execHlTresp; exact ⟨_, rfl, State.settle_form _ (by simp only [State.begin_kept, State.kept_mk, State.kept_eta, State.hlTresp_kept, h])⟩
theorem execLinkStateTimeout_form {q : List Instr} (a1 : _) (s : State) (h : Form q s.kept) : ∃ t, execLinkStateTimeout a1 s = .next t ∧ Form q t.kept := by
  unfold execLinkStateTimeout; exact ⟨_, rfl, State.settle_form _ (by simp only [State.begin_kept, State.kept_mk, State.kept_eta, State.hlTimeout_kept, h])⟩
theorem execPm_form {q : List Instr} (a1 : _) (a2 : _) (s : State) (h : Form q s.kept) : ∃ t, execPm a1 a2 s = .next t ∧ Form q t.kept := by
  unfold execPm; exact ⟨_, rfl, State.settle_form _ (by simp only [State.begin_kept, State.kept_mk, State.kept_eta, State.hlPm_kept, h])⟩
theorem execConfigRequest_form {q : List Instr} (s : State) (h : Form q s.kept) : ∃ t, execConfigRequest s = .next t ∧ Form q t.kept := by
  unfold execConfigRequest; exact ⟨_, rfl, State.settle_form _ (by simp only [State.begin_kept, State.kept_mk, State.kept_eta, State.configRequest_kept, h])⟩
theorem execDmaGo_form {q : List Instr} (a1 : _) (a2 : _) (s : State) (h : Form q s.kept) : ∃ t, execDmaGo a1 a2 s = .next t ∧ Form q t.kept := by
  unfold execDmaGo; exact ⟨_, rfl, State.settle_form _ (by simp only [State.begin_kept, State.kept_mk, State.kept_eta, State.dmaGo_kept, h])⟩
theorem execCoreRun_form {q : List Instr} (a1 : _) (s : State) (h : Form q s.kept) : ∃ t, execCoreRun a1 s = .next t ∧ Form q t.kept := by
  unfold execCoreRun; exact ⟨_, rfl, State.settle_form _ (by simp only [State.begin_kept, State.kept_mk, State.kept_eta, State.coreRun_kept, h])⟩
theorem execDmaDone_form {q : List Instr} (a1 : _) (a2 : _) (a3 : _) (s : State) (h : Form q s.kept) : ∃ t, execDmaDone a1 a2 a3 s = .next t ∧ Form q t.kept := by
  unfold execDmaDone; exact ⟨_, rfl, State.settle_form _ (by simp only [State.begin_kept, State.kept_mk, State.kept_eta, State.dmaDone_form, h])⟩
theorem execImageLoaded_form {q : List Instr} (s : State) (h : Form q s.kept) : ∃ t, execImageLoaded s = .next t ∧ Form q t.kept := by
  unfold execImageLoaded; exact ⟨_, rfl, State.settle_form _ (by simp only [State.begin_kept, State.kept_mk, State.kept_eta, State.imageLoaded_kept, h])⟩
theorem execBootGo_form {q : List Instr} (s : State) (h : Form q s.kept) : ∃ t, execBootGo s = .next t ∧ Form q t.kept := by
  unfold execBootGo; exact ⟨_, rfl, State.settle_form _ (by (repeat' split) <;> first | (with_reducible exact h) | simp only [State.begin_kept, State.kept_mk, State.kept_eta, State.bootGo_form, h] | simp only [apply_ite State.kept, ite_self, State.begin_kept, State.kept_foldl, implies_true, Form.foldl, State.kept_mk, State.kept_eta, State.bootGo_form, h])⟩
theorem execDmaStop_form {q : List Instr} (a1 : _) (s : State) (h : Form q s.kept) : ∃ t, execDmaStop a1 s = .next t ∧ Form q t.kept := by
  unfold execDmaStop; exact ⟨_, rfl, State.settle_form _ (by (repeat' split) <;> first | (with_reducible exact h) | simp only [State.begin_kept, State.kept_mk, State.kept_eta, State.dmaCut_form, h] | simp only [apply_ite State.kept, ite_self, State.begin_kept, State.kept_foldl, implies_true, Form.foldl, State.kept_mk, State.kept_eta, State.dmaCut_form, h])⟩
theorem execDramInitComplete_form {q : List Instr} (a1 : _) (a2 : _) (a3 : _) (s : State) (h : Form q s.kept) : ∃ t, execDramInitComplete a1 a2 s a3 = .next t ∧ Form q t.kept := by
  unfold execDramInitComplete; exact ⟨_, rfl, State.settle_form _ (by simp only [State.begin_kept, State.kept_mk, State.kept_eta, State.dramInit_form, h])⟩
theorem execMsixUnmask_form {q : List Instr} (a1 : _) (s : State) (h : Form q s.kept) : ∃ t, execMsixUnmask a1 s = .next t ∧ Form q t.kept := by
  unfold execMsixUnmask; exact ⟨_, rfl, State.settle_form _ (by simp only [State.begin_kept, State.kept_mk, State.kept_eta, State.msixUnmask_kept, h])⟩
theorem execDmaError_form {q : List Instr} (a1 : _) (a2 : _) (a3 : _) (s : State) (h : Form q s.kept) : ∃ t, execDmaError a1 a2 a3 s = .next t ∧ Form q t.kept := by
  unfold execDmaError; exact ⟨_, rfl, State.settle_form _ (by simp only [State.begin_kept, State.kept_mk, State.kept_eta, State.dmaError_form, h])⟩
theorem execFlashBoot_form {q : List Instr} (a1 : _) (s : State) (h : Form q s.kept) : ∃ t, execFlashBoot a1 s = .next t ∧ Form q t.kept := by
  unfold execFlashBoot; exact ⟨_, rfl, State.settle_form _ (by simp only [State.begin_kept, State.kept_mk, State.kept_eta, State.flashBoot_form, h])⟩
theorem execHostRequest_form {q : List Instr} (a1 : _) (a2 : _) (a3 : _) (a4 : _) (s : State) (h : Form q s.kept) : ∃ t, execHostRequest a1 a2 a3 a4 s = .next t ∧ Form q t.kept := by
  unfold execHostRequest; exact ⟨_, rfl, State.settle_form _ (by simp only [State.begin_kept, State.kept_mk, State.kept_eta, State.hostRequest_form, h])⟩
theorem execPcieLinkChange_form {q : List Instr} (a1 : _) (a2 : _) (a3 : _) (s : State) (h : Form q s.kept) : ∃ t, execPcieLinkChange a1 a2 a3 s = .next t ∧ Form q t.kept := by
  unfold execPcieLinkChange; exact ⟨_, rfl, State.settle_form _ (by simp only [State.begin_kept, State.kept_mk, State.kept_eta, State.pcieLink_kept, h])⟩
theorem execNeighbourTestDone_form {q : List Instr} (a1 : _) (s : State) (h : Form q s.kept) : ∃ t, execNeighbourTestDone a1 s = .next t ∧ Form q t.kept := by
  unfold execNeighbourTestDone; exact ⟨_, rfl, State.settle_form _ (by simp only [State.begin_kept, State.kept_mk, State.kept_eta, State.neighbourDone_kept, h])⟩
theorem execNtcConversion_form {q : List Instr} (a1 : _) (a2 : _) (s : State) (h : Form q s.kept) : ∃ t, execNtcConversion a1 a2 s = .next t ∧ Form q t.kept := by
  unfold execNtcConversion; exact ⟨_, rfl, State.settle_form _ (by simp only [State.begin_kept, State.kept_mk, State.kept_eta, State.ntcConvert_kept, h])⟩
theorem execLampUnverified_form {q : List Instr} (a1 : _) (s : State) (h : Form q s.kept) : ∃ t, execLampUnverified a1 s = .next t ∧ Form q t.kept := by
  unfold execLampUnverified; exact ⟨_, rfl, State.settle_form _ (by simp only [State.begin_kept, State.kept_mk, State.kept_eta, State.lampUnverified_kept, h])⟩
theorem execLampMeasurement_form {q : List Instr} (a1 : _) (a2 : _) (s : State) (h : Form q s.kept) : ∃ t, execLampMeasurement a1 a2 s = .next t ∧ Form q t.kept := by
  unfold execLampMeasurement; exact ⟨_, rfl, State.settle_form _ (by simp only [State.begin_kept, State.kept_mk, State.kept_eta, State.lampMeasure_kept, h])⟩
theorem execStrobeStart_form {q : List Instr} (a1 : _) (s : State) (h : Form q s.kept) : ∃ t, execStrobeStart a1 s = .next t ∧ Form q t.kept := by
  unfold execStrobeStart; exact ⟨_, rfl, State.settle_form _ (by simp only [State.begin_kept, State.kept_mk, State.kept_eta, State.strobeStart_kept, h])⟩
theorem execStrobeEnd_form {q : List Instr} (a1 : _) (s : State) (h : Form q s.kept) : ∃ t, execStrobeEnd a1 s = .next t ∧ Form q t.kept := by
  unfold execStrobeEnd; exact ⟨_, rfl, State.settle_form _ (by simp only [State.begin_kept, State.kept_mk, State.kept_eta, State.strobeEnd_kept, h])⟩
theorem execDiagPulse_form {q : List Instr} (a1 : _) (s : State) (h : Form q s.kept) : ∃ t, execDiagPulse a1 s = .next t ∧ Form q t.kept := by
  unfold execDiagPulse; exact ⟨_, rfl, State.settle_form _ (by simp only [State.begin_kept, State.kept_mk, State.kept_eta, State.diagPulse_kept, h])⟩
theorem execNtest_form {q : List Instr} (s : State) (h : Form q s.kept) : ∃ t, execNtest s = .next t ∧ Form q t.kept := by
  unfold execNtest; exact ⟨_, rfl, State.settle_form _ (by simp only [State.begin_kept, State.kept_mk, State.kept_eta, State.neighbourTest_kept, h])⟩
theorem execPwmPeriodStart_form {q : List Instr} (a1 : _) (s : State) (h : Form q s.kept) : ∃ t, execPwmPeriodStart a1 s = .next t ∧ Form q t.kept := by
  unfold execPwmPeriodStart; exact ⟨_, rfl, State.settle_form _ (by simp only [State.begin_kept, State.kept_mk, State.kept_eta, State.pwmStart_kept, h])⟩
theorem execLampShort_form {q : List Instr} (a1 : _) (s : State) (h : Form q s.kept) : ∃ t, execLampShort a1 s = .next t ∧ Form q t.kept := by
  unfold execLampShort; exact ⟨_, rfl, State.settle_form _ (by simp only [State.begin_kept, State.kept_mk, State.kept_eta, State.lampShort_kept, h])⟩
theorem execPwmDutyEnd_form {q : List Instr} (a1 : _) (s : State) (h : Form q s.kept) : ∃ t, execPwmDutyEnd a1 s = .next t ∧ Form q t.kept := by
  unfold execPwmDutyEnd; exact ⟨_, rfl, State.settle_form _ (by simp only [State.begin_kept, State.kept_mk, State.kept_eta, State.pwmEnd_kept, h])⟩
theorem execSinkOvertemp_form {q : List Instr} (a1 : _) (a2 : _) (s : State) (h : Form q s.kept) : ∃ t, execSinkOvertemp a1 a2 s = .next t ∧ Form q t.kept := by
  unfold execSinkOvertemp; exact ⟨_, rfl, State.settle_form _ (by simp only [State.begin_kept, State.kept_mk, State.kept_eta, State.sinkTemp_kept, h])⟩
theorem execFrameEnd_form {q : List Instr} (a1 : _) (s : State) (h : Form q s.kept) : ∃ t, execFrameEnd a1 s = .next t ∧ Form q t.kept := by
  unfold execFrameEnd; exact ⟨_, rfl, State.settle_form _ (by (repeat' split) <;> first | (with_reducible exact h) | simp only [State.begin_kept, State.kept_mk, State.kept_eta, State.ctxFrameEnd_kept, h] | simp only [apply_ite State.kept, ite_self, State.begin_kept, State.kept_foldl, implies_true, Form.foldl, State.kept_mk, State.kept_eta, State.ctxFrameEnd_kept, h])⟩
theorem execCameraTrigger_form {q : List Instr} (a1 : _) (s : State) (h : Form q s.kept) : ∃ t, execCameraTrigger a1 s = .next t ∧ Form q t.kept := by
  unfold execCameraTrigger; exact ⟨_, rfl, State.settle_form _ (by simp only [State.begin_kept, State.kept_mk, State.kept_eta, State.camera_kept, h])⟩
theorem execContextEnable_form {q : List Instr} (a1 : _) (a2 : _) (s : State) (h : Form q s.kept) : ∃ t, execContextEnable a1 a2 s = .next t ∧ Form q t.kept := by
  unfold execContextEnable; exact ⟨_, rfl, State.settle_form _ (by simp only [State.begin_kept, State.kept_mk, State.kept_eta, State.ctxCtlWrite_kept, h])⟩
theorem execCameraPacket_form {q : List Instr} (a1 : _) (a2 : _) (s : State) (h : Form q s.kept) : ∃ t, execCameraPacket a1 a2 s = .next t ∧ Form q t.kept := by
  unfold execCameraPacket; exact ⟨_, rfl, State.settle_form _ (by simp only [State.begin_kept, State.kept_mk, State.kept_eta, State.lpePacket_kept, h])⟩
theorem execLinePacket_form {q : List Instr} (a1 : _) (a2 : _) (s : State) (h : Form q s.kept) : ∃ t, execLinePacket a1 a2 s = .next t ∧ Form q t.kept := by
  unfold execLinePacket; exact ⟨_, rfl, State.settle_form _ (by simp only [State.begin_kept, State.kept_mk, State.kept_eta, State.ctxLine_kept, h])⟩
theorem execFrameStart_form {q : List Instr} (a1 : _) (s : State) (h : Form q s.kept) : ∃ t, execFrameStart a1 s = .next t ∧ Form q t.kept := by
  unfold execFrameStart; exact ⟨_, rfl, State.settle_form _ (by simp only [State.begin_kept, State.kept_mk, State.kept_eta, State.ctxFrameStart_kept, h])⟩
theorem execMprWriteComplete_form {q : List Instr} (a1 : _) (s : State) (h : Form q s.kept) : ∃ t, execMprWriteComplete a1 s = .next t ∧ Form q t.kept := by
  unfold execMprWriteComplete; exact ⟨_, rfl, State.settle_form _ (by simp only [State.begin_kept, State.kept_mk, State.kept_eta, State.mprWrite_kept, h])⟩
theorem execFrameComplete_form {q : List Instr} (a1 : _) (a2 : _) (s : State) (h : Form q s.kept) : ∃ t, execFrameComplete a1 a2 s = .next t ∧ Form q t.kept := by
  unfold execFrameComplete; exact ⟨_, rfl, State.settle_form _ (by simp only [State.begin_kept, State.kept_mk, State.kept_eta, State.ctxComplete_kept, h])⟩
theorem execSoft_form {q : List Instr} (a1 : _) (s : State) (h : Form q s.kept) : ∃ t, execSoft a1 s = .next t ∧ Form q t.kept := by
  unfold execSoft; exact ⟨_, rfl, State.settle_form _ (by simp only [State.begin_kept, State.kept_mk, State.kept_eta, State.camera_kept, h])⟩
theorem execSlotRelease_form {q : List Instr} (a1 : _) (a2 : _) (s : State) (h : Form q s.kept) : ∃ t, execSlotRelease a1 a2 s = .next t ∧ Form q t.kept := by
  unfold execSlotRelease; exact ⟨_, rfl, State.settle_form _ (by simp only [State.begin_kept, State.kept_mk, State.kept_eta, State.ctxRelease_kept, h])⟩
theorem execAutoretHandback_form {q : List Instr} (a1 : _) (s : State) (h : Form q s.kept) : ∃ t, execAutoretHandback a1 s = .next t ∧ Form q t.kept := by
  unfold execAutoretHandback; exact ⟨_, rfl, State.settle_form _ (by simp only [State.begin_kept, State.kept_mk, State.kept_eta, State.handBack_kept, h])⟩
theorem execRegulatorFallback_form {q : List Instr} (a1 : _) (s : State) (h : Form q s.kept) : ∃ t, execRegulatorFallback a1 s = .next t ∧ Form q t.kept := by
  unfold execRegulatorFallback; exact ⟨_, rfl, State.settle_form _ (by (repeat' split) <;> first | (with_reducible exact h) | simp only [State.begin_kept, State.kept_mk, State.kept_eta, State.fallNow_kept, h] | simp only [apply_ite State.kept, ite_self, State.begin_kept, State.kept_foldl, implies_true, Form.foldl, State.kept_mk, State.kept_eta, State.fallNow_kept, h])⟩
theorem execInterlockDiscrepancy_form {q : List Instr} (s : State) (h : Form q s.kept) : ∃ t, execInterlockDiscrepancy s = .next t ∧ Form q t.kept := by
  unfold execInterlockDiscrepancy; exact ⟨_, rfl, State.settle_form _ (by (repeat' split) <;> first | (with_reducible exact h) | simp only [State.begin_kept, State.kept_mk, State.kept_eta, State.raise_kept, State.set_kept, h] | simp only [apply_ite State.kept, ite_self, State.begin_kept, State.kept_foldl, implies_true, Form.foldl, State.kept_mk, State.kept_eta, State.raise_kept, State.set_kept, h])⟩
theorem execDacUpdate_form {q : List Instr} (a1 : _) (s : State) (h : Form q s.kept) : ∃ t, execDacUpdate a1 s = .next t ∧ Form q t.kept := by
  unfold execDacUpdate; exact ⟨_, rfl, State.settle_form _ (by simp only [State.begin_kept, State.kept_mk, State.kept_eta, State.dacUpdate_kept, h])⟩
theorem execLaserAlarmCleared_form {q : List Instr} (a1 : _) (s : State) (h : Form q s.kept) : ∃ t, execLaserAlarmCleared a1 s = .next t ∧ Form q t.kept := by
  unfold execLaserAlarmCleared; exact ⟨_, rfl, State.settle_form _ (by simp only [State.begin_kept, State.kept_mk, State.kept_eta, State.lower_kept, State.setPin_kept, h])⟩
theorem execLaserNotReady_form {q : List Instr} (a1 : _) (s : State) (h : Form q s.kept) : ∃ t, execLaserNotReady a1 s = .next t ∧ Form q t.kept := by
  unfold execLaserNotReady; exact ⟨_, rfl, State.settle_form _ (by (repeat' split) <;> first | (with_reducible exact h) | simp only [State.begin_kept, State.kept_mk, State.kept_eta, State.setPin_kept, State.raise_kept, State.set_kept, h] | simp only [apply_ite State.kept, ite_self, State.begin_kept, State.kept_foldl, implies_true, Form.foldl, State.kept_mk, State.kept_eta, State.setPin_kept, State.raise_kept, State.set_kept, h])⟩
theorem execEvqPop_form {q : List Instr} (a1 : _) (s : State) (h : Form q s.kept) : ∃ t, execEvqPop a1 s = .next t ∧ Form q t.kept := by
  unfold execEvqPop; exact ⟨_, rfl, State.settle_form _ (by (repeat' split) <;> first | (with_reducible exact h) | simp only [State.begin_kept, State.kept_mk, State.kept_eta, State.popEvent_kept, h] | simp only [apply_ite State.kept, ite_self, State.begin_kept, State.kept_foldl, implies_true, Form.foldl, State.kept_mk, State.kept_eta, State.popEvent_kept, h])⟩
theorem execLaserAlarm_form {q : List Instr} (a1 : _) (s : State) (h : Form q s.kept) : ∃ t, execLaserAlarm a1 s = .next t ∧ Form q t.kept := by
  unfold execLaserAlarm; exact ⟨_, rfl, State.settle_form _ (by (repeat' split) <;> first | (with_reducible exact h) | simp only [State.begin_kept, State.kept_mk, State.kept_eta, State.setPin_kept, State.raise_kept, State.set_kept, h] | simp only [apply_ite State.kept, ite_self, State.begin_kept, State.kept_foldl, implies_true, Form.foldl, State.kept_mk, State.kept_eta, State.setPin_kept, State.raise_kept, State.set_kept, h])⟩
theorem execSetpointTick_form {q : List Instr} (a1 : _) (a2 : _) (s : State) (h : Form q s.kept) : ∃ t, execSetpointTick a1 a2 s = .next t ∧ Form q t.kept := by
  unfold execSetpointTick; exact ⟨_, rfl, State.settle_form _ (by (repeat' split) <;> first | (with_reducible exact h) | simp only [State.begin_kept, State.kept_mk, State.kept_eta, State.setpointTick_kept, h] | simp only [apply_ite State.kept, ite_self, State.begin_kept, State.kept_foldl, implies_true, Form.foldl, State.kept_mk, State.kept_eta, State.setpointTick_kept, h])⟩
theorem execGateEdge_form {q : List Instr} (a1 : _) (s : State) (h : Form q s.kept) : ∃ t, execGateEdge a1 s = .next t ∧ Form q t.kept := by
  unfold execGateEdge; exact ⟨_, rfl, State.settle_form _ (by simp only [State.begin_kept, State.kept_mk, State.kept_eta, State.gateEdge_kept, h])⟩
theorem execIlkClr_form {q : List Instr} (s : State) (h : Form q s.kept) : ∃ t, execIlkClr s = .next t ∧ Form q t.kept := by
  unfold execIlkClr; exact ⟨_, rfl, State.settle_form _ (by simp only [State.begin_kept, State.kept_mk, State.kept_eta, State.ilkClear_kept, h])⟩
theorem execInterlockChange_form {q : List Instr} (a1 : _) (a2 : _) (s : State) (h : Form q s.kept) : ∃ t, execInterlockChange a1 a2 s = .next t ∧ Form q t.kept := by
  unfold execInterlockChange; exact ⟨_, rfl, State.settle_form _ (by simp only [State.begin_kept, State.kept_mk, State.kept_eta, State.interlock_kept, h])⟩
theorem execEventMaxDuration_form {q : List Instr} (a1 : _) (a2 : _) (s : State) (h : Form q s.kept) : ∃ t, execEventMaxDuration a1 a2 s = .next t ∧ Form q t.kept := by
  unfold execEventMaxDuration; exact ⟨_, rfl, State.settle_form _ (by (repeat' split) <;> first | (with_reducible exact h) | simp only [State.begin_kept, State.kept_mk, State.kept_eta, State.closeEvent_kept, h] | simp only [apply_ite State.kept, ite_self, State.begin_kept, State.kept_foldl, implies_true, Form.foldl, State.kept_mk, State.kept_eta, State.closeEvent_kept, h])⟩
theorem execLaserReadyRegained_form {q : List Instr} (a1 : _) (s : State) (h : Form q s.kept) : ∃ t, execLaserReadyRegained a1 s = .next t ∧ Form q t.kept := by
  unfold execLaserReadyRegained; exact ⟨_, rfl, State.settle_form _ (by simp only [State.begin_kept, State.kept_mk, State.kept_eta, State.lower_kept, State.setPin_kept, h])⟩
theorem execModeTransitionComplete_form {q : List Instr} (s : State) (h : Form q s.kept) : ∃ t, execModeTransitionComplete s = .next t ∧ Form q t.kept := by
  unfold execModeTransitionComplete; exact ⟨_, rfl, State.settle_form _ (by simp only [State.begin_kept, State.kept_mk, State.kept_eta, State.transComplete_kept, h])⟩
theorem execTransitionTimeout_form {q : List Instr} (s : State) (h : Form q s.kept) : ∃ t, execTransitionTimeout s = .next t ∧ Form q t.kept := by
  unfold execTransitionTimeout; exact ⟨_, rfl, State.settle_form _ (by simp only [State.begin_kept, State.kept_mk, State.kept_eta, State.transTimeout_kept, h])⟩
theorem execLayerComplete_form {q : List Instr} (s : State) (h : Form q s.kept) : ∃ t, execLayerComplete s = .next t ∧ Form q t.kept := by
  unfold execLayerComplete; exact ⟨_, rfl, State.settle_form _ (by simp only [State.begin_kept, State.kept_mk, State.kept_eta, State.layerComplete_kept, h])⟩
theorem execModeRequest_form {q : List Instr} (a1 : _) (a2 : _) (s : State) (h : Form q s.kept) : ∃ t, execModeRequest a1 a2 s = .next t ∧ Form q t.kept := by
  unfold execModeRequest; exact ⟨_, rfl, State.settle_form _ (by simp only [State.begin_kept, State.kept_mk, State.kept_eta, State.modeRequest_kept, h])⟩
theorem execPendingRequestStart_form {q : List Instr} (s : State) (h : Form q s.kept) : ∃ t, execPendingRequestStart s = .next t ∧ Form q t.kept := by
  unfold execPendingRequestStart; exact ⟨_, rfl, State.settle_form _ (by simp only [State.begin_kept, State.kept_mk, State.kept_eta, State.pendingStart_kept, h])⟩
theorem execArmingBeat_form {q : List Instr} (s : State) (h : Form q s.kept) : ∃ t, execArmingBeat s = .next t ∧ Form q t.kept := by
  unfold execArmingBeat; exact ⟨_, rfl, State.settle_form _ (by simp only [State.begin_kept, State.kept_mk, State.kept_eta, State.armingBeat_kept, h])⟩
theorem execStartBarrierRelease_form {q : List Instr} (s : State) (h : Form q s.kept) : ∃ t, execStartBarrierRelease s = .next t ∧ Form q t.kept := by
  unfold execStartBarrierRelease; exact ⟨_, rfl, State.settle_form _ (by simp only [State.begin_kept, State.kept_mk, State.kept_eta, State.startDueNow_kept, h])⟩
theorem execStampedStart_form {q : List Instr} (a1 : _) (s : State) (h : Form q s.kept) : ∃ t, execStampedStart a1 s = .next t ∧ Form q t.kept := by
  unfold execStampedStart; exact ⟨_, rfl, State.settle_form _ (by simp only [State.begin_kept, State.kept_mk, State.kept_eta, State.motStamped_kept, h])⟩
theorem execCoilPwmPeriod_form {q : List Instr} (a1 : _) (s : State) (h : Form q s.kept) : ∃ t, execCoilPwmPeriod a1 s = .next t ∧ Form q t.kept := by
  unfold execCoilPwmPeriod; exact ⟨_, rfl, State.settle_form _ (by simp only [State.begin_kept, State.kept_mk, State.kept_eta, State.coilPeriod_kept, h])⟩
theorem execSetpos_form {q : List Instr} (a1 : _) (s : State) (h : Form q s.kept) : ∃ t, execSetpos a1 s = .next t ∧ Form q t.kept := by
  unfold execSetpos; exact ⟨_, rfl, State.settle_form _ (by simp only [State.begin_kept, State.kept_mk, State.kept_eta, State.motRow_kept, h])⟩
theorem execBarrierLinkRelock_form {q : List Instr} (s : State) (h : Form q s.kept) : ∃ t, execBarrierLinkRelock s = .next t ∧ Form q t.kept := by
  unfold execBarrierLinkRelock; exact ⟨_, rfl, State.settle_form _ (by simp only [State.begin_kept, State.kept_mk, State.kept_eta, State.barrierRelock_kept, h])⟩
theorem execLoadAngleMeasurement_form {q : List Instr} (a1 : _) (a2 : _) (s : State) (h : Form q s.kept) : ∃ t, execLoadAngleMeasurement a1 a2 s = .next t ∧ Form q t.kept := by
  unfold execLoadAngleMeasurement; exact ⟨_, rfl, State.settle_form _ (by simp only [State.begin_kept, State.kept_mk, State.kept_eta, State.loadAngle_kept, h])⟩
theorem execMotorBusUv_form {q : List Instr} (a1 : _) (s : State) (h : Form q s.kept) : ∃ t, execMotorBusUv a1 s = .next t ∧ Form q t.kept := by
  unfold execMotorBusUv; exact ⟨_, rfl, State.settle_form _ (by simp only [State.begin_kept, State.kept_mk, State.kept_eta, State.motorBus_kept, h])⟩
theorem execMove_form {q : List Instr} (a1 : _) (s : State) (h : Form q s.kept) : ∃ t, execMove a1 s = .next t ∧ Form q t.kept := by
  unfold execMove; exact ⟨_, rfl, State.settle_form _ (by simp only [State.begin_kept, State.kept_mk, State.kept_eta, State.motRow_kept, h])⟩
theorem execMotorBusRestored_form {q : List Instr} (a1 : _) (s : State) (h : Form q s.kept) : ∃ t, execMotorBusRestored a1 s = .next t ∧ Form q t.kept := by
  unfold execMotorBusRestored; exact ⟨_, rfl, State.settle_form _ (by simp only [State.begin_kept, State.kept_mk, State.kept_eta, State.motorBus_kept, h])⟩
theorem execVel_form {q : List Instr} (a1 : _) (s : State) (h : Form q s.kept) : ∃ t, execVel a1 s = .next t ∧ Form q t.kept := by
  unfold execVel; exact ⟨_, rfl, State.settle_form _ (by simp only [State.begin_kept, State.kept_mk, State.kept_eta, State.motRow_kept, h])⟩
theorem execStall_form {q : List Instr} (a1 : _) (s : State) (h : Form q s.kept) : ∃ t, execStall a1 s = .next t ∧ Form q t.kept := by
  unfold execStall; exact ⟨_, rfl, State.settle_form _ (by simp only [State.begin_kept, State.kept_mk, State.kept_eta, State.motStall_kept, h])⟩
theorem execProfileUpdate_form {q : List Instr} (a1 : _) (s : State) (h : Form q s.kept) : ∃ t, execProfileUpdate a1 s = .next t ∧ Form q t.kept := by
  unfold execProfileUpdate; exact ⟨_, rfl, State.settle_form _ (by simp only [State.begin_kept, State.kept_mk, State.kept_eta, State.motUpdate_kept, h])⟩
theorem execLimitInput_form {q : List Instr} (a1 : _) (a2 : _) (a3 : _) (s : State) (h : Form q s.kept) : ∃ t, execLimitInput a1 a2 a3 s = .next t ∧ Form q t.kept := by
  unfold execLimitInput; exact ⟨_, rfl, State.settle_form _ (by simp only [State.begin_kept, State.kept_mk, State.kept_eta, State.limitInput_kept, h])⟩
theorem execHome_form {q : List Instr} (a1 : _) (s : State) (h : Form q s.kept) : ∃ t, execHome a1 s = .next t ∧ Form q t.kept := by
  unfold execHome; exact ⟨_, rfl, State.settle_form _ (by simp only [State.begin_kept, State.kept_mk, State.kept_eta, State.motRow_kept, h])⟩
theorem execDriverFault_form {q : List Instr} (a1 : _) (s : State) (h : Form q s.kept) : ∃ t, execDriverFault a1 s = .next t ∧ Form q t.kept := by
  unfold execDriverFault; exact ⟨_, rfl, State.settle_form _ (by simp only [State.begin_kept, State.kept_mk, State.kept_eta, State.driverFault_kept, h])⟩
theorem execChatterWindow_form {q : List Instr} (a1 : _) (a2 : _) (s : State) (h : Form q s.kept) : ∃ t, execChatterWindow a1 a2 s = .next t ∧ Form q t.kept := by
  unfold execChatterWindow; exact ⟨_, rfl, State.settle_form _ (by simp only [State.begin_kept, State.kept_mk, State.kept_eta, State.chatterWindow_kept, h])⟩
theorem execAxisStop_form {q : List Instr} (a1 : _) (s : State) (h : Form q s.kept) : ∃ t, execAxisStop a1 s = .next t ∧ Form q t.kept := by
  unfold execAxisStop; exact ⟨_, rfl, State.settle_form _ (by simp only [State.begin_kept, State.kept_mk, State.kept_eta, State.motRow_kept, h])⟩
theorem execBarrierLinkLoss_form {q : List Instr} (s : State) (h : Form q s.kept) : ∃ t, execBarrierLinkLoss s = .next t ∧ Form q t.kept := by
  unfold execBarrierLinkLoss; exact ⟨_, rfl, State.settle_form _ (by simp only [State.begin_kept, State.kept_mk, State.kept_eta, State.barrierLoss_kept, h])⟩
theorem execHomingTimeout_form {q : List Instr} (a1 : _) (s : State) (h : Form q s.kept) : ∃ t, execHomingTimeout a1 s = .next t ∧ Form q t.kept := by
  unfold execHomingTimeout; exact ⟨_, rfl, State.settle_form _ (by simp only [State.begin_kept, State.kept_mk, State.kept_eta, State.homeTimeout_kept, h])⟩
theorem execResetRelease_form {q : List Instr} (s : State) (h : Form q s.kept) : ∃ t, execResetRelease s = .next t ∧ Form q t.kept := by
  unfold execResetRelease; exact ⟨_, rfl, State.settle_form _ (by simp only [State.begin_kept, State.kept_mk, State.kept_eta, State.endReset_kept, h])⟩
theorem execAvsResponse_form {q : List Instr} (a1 : _) (s : State) (h : Form q s.kept) : ∃ t, execAvsResponse a1 s = .next t ∧ Form q t.kept := by
  unfold execAvsResponse; exact ⟨_, rfl, State.settle_form _ (by simp only [State.begin_kept, State.kept_mk, State.kept_eta, State.avsAnswer_kept, h])⟩
theorem execPllLocked_form {q : List Instr} (s : State) (h : Form q s.kept) : ∃ t, execPllLocked s = .next t ∧ Form q t.kept := by
  unfold execPllLocked; exact ⟨_, rfl, State.settle_form _ (by simp only [State.begin_kept, State.kept_mk, State.kept_eta, State.pllLock_kept, h])⟩
theorem execLoadCommit_form {q : List Instr} (s : State) (h : Form q s.kept) : ∃ t, execLoadCommit s = .next t ∧ Form q t.kept := by
  unfold execLoadCommit; exact ⟨_, rfl, State.settle_form _ (by simp only [State.begin_kept, State.kept_mk, State.kept_eta, State.commitLoad_kept, h])⟩
theorem execResetNInput_form {q : List Instr} (a1 : _) (s : State) (h : Form q s.kept) : ∃ t, execResetNInput a1 s = .next t ∧ Form q t.kept := by
  unfold execResetNInput; exact ⟨_, rfl, State.settle_form _ (by simp only [State.begin_kept, State.kept_mk, State.kept_eta, State.resetNInput_form, h])⟩
theorem execWakeComplete_form {q : List Instr} (s : State) (h : Form q s.kept) : ∃ t, execWakeComplete s = .next t ∧ Form q t.kept := by
  unfold execWakeComplete; exact ⟨_, rfl, State.settle_form _ (by simp only [State.begin_kept, State.kept_mk, State.kept_eta, State.wakeDone_kept, h])⟩
theorem execSupplyReset_form {q : List Instr} (a1 : _) (a2 : _) (a3 : _) (s : State) (h : Form q s.kept) : ∃ t, execSupplyReset a1 a2 s a3 = .next t ∧ Form q t.kept := by
  unfold execSupplyReset; exact ⟨_, rfl, State.settle_form _ (by simp only [State.begin_kept, State.kept_mk, State.kept_eta, State.railReset_form, h])⟩
theorem execRailBelowWarning_form {q : List Instr} (a1 : _) (a2 : _) (s : State) (h : Form q s.kept) : ∃ t, execRailBelowWarning a1 a2 s = .next t ∧ Form q t.kept := by
  unfold execRailBelowWarning; exact ⟨_, rfl, State.settle_form _ (by simp only [State.begin_kept, State.kept_mk, State.kept_eta, State.railBelow_kept, h])⟩
theorem execBackupDomainStart_form {q : List Instr} (s : State) (h : Form q s.kept) : ∃ t, execBackupDomainStart s = .next t ∧ Form q t.kept := by
  unfold execBackupDomainStart; exact ⟨_, rfl, State.settle_form _ (by simp only [State.begin_kept, State.kept_mk, State.kept_eta, State.backupStart_form, h])⟩
theorem execEscalationWindow_form {q : List Instr} (a1 : _) (s : State) (h : Form q s.kept) : ∃ t, execEscalationWindow a1 s = .next t ∧ Form q t.kept := by
  unfold execEscalationWindow; exact ⟨_, rfl, State.settle_form _ (by simp only [State.begin_kept, State.kept_mk, State.kept_eta, State.escOver_kept, h])⟩
theorem execWarm_form {q : List Instr} (s : State) (h : Form q s.kept) : ∃ t, execWarm s = .next t ∧ Form q t.kept := by
  refine ⟨_, rfl, State.settle_form _ ?_⟩
  unfold State.sysCmd
  exact Form.ite (State.rstCmd_form _ _ (Form.same (State.begin_kept _) h)) (Form.same (State.begin_kept _) h)

theorem execHoursCounterTick_form {q : List Instr} (s : State) (h : Form q s.kept) : ∃ t, execHoursCounterTick s = .next t ∧ Form q t.kept := by
  unfold execHoursCounterTick; exact ⟨_, rfl, State.settle_form _ (by simp only [State.begin_kept, State.kept_mk, State.kept_eta, State.hoursTick_kept, h])⟩
theorem execResetDriveRelease_form {q : List Instr} (s : State) (h : Form q s.kept) : ∃ t, execResetDriveRelease s = .next t ∧ Form q t.kept := by
  unfold execResetDriveRelease; exact ⟨_, rfl, State.settle_form _ (by simp only [State.begin_kept, State.kept_mk, State.kept_eta, State.releaseDrive_kept, h])⟩
theorem execRailAboveWarning_form {q : List Instr} (a1 : _) (a2 : _) (s : State) (h : Form q s.kept) : ∃ t, execRailAboveWarning a1 s a2 = .next t ∧ Form q t.kept := by
  unfold execRailAboveWarning; exact ⟨_, rfl, State.settle_form _ (by simp only [State.begin_kept, State.kept_mk, State.kept_eta, State.railAbove_kept, h])⟩
theorem execPowerSequenceRestart_form {q : List Instr} (s : State) (h : Form q s.kept) : ∃ t, execPowerSequenceRestart s = .next t ∧ Form q t.kept := by
  unfold execPowerSequenceRestart; exact ⟨_, rfl, State.settle_form _ (by simp only [State.begin_kept, State.kept_mk, State.kept_eta, State.pwrRestart_kept, h])⟩
theorem execPcieHotReset_form {q : List Instr} (a1 : _) (s : State) (h : Form q s.kept) : ∃ t, execPcieHotReset a1 s = .next t ∧ Form q t.kept := by
  unfold execPcieHotReset; exact ⟨_, rfl, State.settle_form _ (by simp only [State.begin_kept, State.kept_mk, State.kept_eta, State.hotReset_form, h])⟩
theorem execKick_form {q : List Instr} (s : State) (h : Form q s.kept) : ∃ t, execKick s = .next t ∧ Form q t.kept := by
  unfold execKick; exact ⟨_, rfl, State.settle_form _ (by simp only [State.begin_kept, State.kept_mk, State.kept_eta, State.sysCmd_kept, State.wdtKick_kept, h])⟩
theorem execAvsTimeout_form {q : List Instr} (s : State) (h : Form q s.kept) : ∃ t, execAvsTimeout s = .next t ∧ Form q t.kept := by
  unfold execAvsTimeout; exact ⟨_, rfl, State.settle_form _ (by simp only [State.begin_kept, State.kept_mk, State.kept_eta, State.avsTimeout_kept, h])⟩
theorem execFaultMaskLift_form {q : List Instr} (a1 : _) (s : State) (h : Form q s.kept) : ∃ t, execFaultMaskLift a1 s = .next t ∧ Form q t.kept := by
  unfold execFaultMaskLift; exact ⟨_, rfl, State.settle_form _ (by simp only [State.begin_kept, State.kept_mk, State.kept_eta, State.maskLift_kept, h])⟩
theorem execPwrEnRaise_form {q : List Instr} (s : State) (h : Form q s.kept) : ∃ t, execPwrEnRaise s = .next t ∧ Form q t.kept := by
  unfold execPwrEnRaise; exact ⟨_, rfl, State.settle_form _ (by simp only [State.begin_kept, State.kept_mk, State.kept_eta, State.pwrRaise_form, h])⟩
theorem execPowerSequenceTimeout_form {q : List Instr} (s : State) (h : Form q s.kept) : ∃ t, execPowerSequenceTimeout s = .next t ∧ Form q t.kept := by
  unfold execPowerSequenceTimeout; exact ⟨_, rfl, State.settle_form _ (by simp only [State.begin_kept, State.kept_mk, State.kept_eta, State.pwrTimeout_form, h])⟩
theorem execBlockReset_form {q : List Instr} (r : _) (v : _) (s : State) (h : Form q s.kept) : ∃ t, execBlockReset r v s = .next t ∧ Form q t.kept := by
  refine ⟨_, rfl, State.settle_form _ ?_⟩
  unfold State.sysCmd
  exact Form.ite (State.brstWrite_form _ _ _ (Form.same (State.begin_kept _) h)) (Form.same (State.begin_kept _) h)

theorem execBackupDomainLoss_form {q : List Instr} (a1 : _) (s : State) (h : Form q s.kept) : ∃ t, execBackupDomainLoss a1 s = .next t ∧ Form q t.kept := by
  unfold execBackupDomainLoss; exact ⟨_, rfl, State.settle_form _ (by simp only [State.begin_kept, State.kept_mk, State.kept_eta, State.backupLoss_form, h])⟩
theorem execSupplyDip_form {q : List Instr} (a1 : _) (s : State) (h : Form q s.kept) : ∃ t, execSupplyDip a1 s = .next t ∧ Form q t.kept := by
  unfold execSupplyDip; exact ⟨_, rfl, State.settle_form _ (by simp only [State.begin_kept, State.kept_mk, State.kept_eta, State.railDip_kept, h])⟩
theorem execRefbRestored_form {q : List Instr} (s : State) (h : Form q s.kept) : ∃ t, execRefbRestored s = .next t ∧ Form q t.kept := by
  unfold execRefbRestored; exact ⟨_, rfl, State.settle_form _ (by simp only [State.begin_kept, State.kept_mk, State.kept_eta, State.refB_kept, h])⟩
theorem execResumeSupply_form {q : List Instr} (s : State) (h : Form q s.kept) : ∃ t, execResumeSupply s = .next t ∧ Form q t.kept := by
  unfold execResumeSupply; exact ⟨_, rfl, State.settle_form _ (by simp only [State.begin_kept, State.kept_mk, State.kept_eta, State.sysCmd_kept, State.supResume_kept, h])⟩
theorem execWakeTimer_form {q : List Instr} (s : State) (h : Form q s.kept) : ∃ t, execWakeTimer s = .next t ∧ Form q t.kept := by
  unfold execWakeTimer; exact ⟨_, rfl, State.settle_form _ (by simp only [State.begin_kept, State.kept_mk, State.kept_eta, State.wakeTimer_form, h])⟩
theorem execTempUpdate_form {q : List Instr} (a1 : _) (a2 : _) (s : State) (h : Form q s.kept) : ∃ t, execTempUpdate a1 a2 s = .next t ∧ Form q t.kept := by
  unfold execTempUpdate; exact ⟨_, rfl, State.settle_form _ (by simp only [State.begin_kept, State.kept_mk, State.kept_eta, State.dieTemp_kept, h])⟩
theorem execRefaFault_form {q : List Instr} (s : State) (h : Form q s.kept) : ∃ t, execRefaFault s = .next t ∧ Form q t.kept := by
  unfold execRefaFault; exact ⟨_, rfl, State.settle_form _ (by simp only [State.begin_kept, State.kept_mk, State.kept_eta, State.refA_kept, h])⟩
theorem execFunctionLevelReset_form {q : List Instr} (s : State) (h : Form q s.kept) : ∃ t, execFunctionLevelReset s = .next t ∧ Form q t.kept := by
  unfold execFunctionLevelReset; exact ⟨_, rfl, State.settle_form _ (by simp only [State.begin_kept, State.kept_mk, State.kept_eta, State.blockReset_form, h])⟩
theorem execRefbFault_form {q : List Instr} (s : State) (h : Form q s.kept) : ∃ t, execRefbFault s = .next t ∧ Form q t.kept := by
  unfold execRefbFault; exact ⟨_, rfl, State.settle_form _ (by simp only [State.begin_kept, State.kept_mk, State.kept_eta, State.refB_kept, h])⟩
theorem execWakeEvent_form {q : List Instr} (a1 : _) (s : State) (h : Form q s.kept) : ∃ t, execWakeEvent a1 s = .next t ∧ Form q t.kept := by
  unfold execWakeEvent; exact ⟨_, rfl, State.settle_form _ (by simp only [State.begin_kept, State.kept_mk, State.kept_eta, State.wake_form, h])⟩
theorem execSupplyRecovered_form {q : List Instr} (a1 : _) (a2 : _) (s : State) (h : Form q s.kept) : ∃ t, execSupplyRecovered a1 s a2 = .next t ∧ Form q t.kept := by
  unfold execSupplyRecovered; exact ⟨_, rfl, State.settle_form _ (by simp only [State.begin_kept, State.kept_mk, State.kept_eta, State.railRecovered_kept, h])⟩
theorem execLpEntryComplete_form {q : List Instr} (s : State) (h : Form q s.kept) : ∃ t, execLpEntryComplete s = .next t ∧ Form q t.kept := by
  unfold execLpEntryComplete; exact ⟨_, rfl, State.settle_form _ (by simp only [State.begin_kept, State.kept_mk, State.kept_eta, State.lpEnter_form, h])⟩
theorem execCntclr_form {q : List Instr} (s : State) (h : Form q s.kept) : ∃ t, execCntclr s = .next t ∧ Form q t.kept := by
  refine ⟨_, rfl, State.settle_form _ ?_⟩
  unfold State.sysCmd
  exact Form.ite (State.rstCmd_form _ _ (Form.same (State.begin_kept _) h)) (Form.same (State.begin_kept _) h)

theorem execWatchdogExpiry_form {q : List Instr} (s : State) (h : Form q s.kept) : ∃ t, execWatchdogExpiry s = .next t ∧ Form q t.kept := by
  unfold execWatchdogExpiry; exact ⟨_, rfl, State.settle_form _ (by simp only [State.begin_kept, State.kept_mk, State.kept_eta, State.wdtExpire_form, h])⟩
theorem execAvsSlackReport_form {q : List Instr} (a1 : _) (s : State) (h : Form q s.kept) : ∃ t, execAvsSlackReport a1 s = .next t ∧ Form q t.kept := by
  unfold execAvsSlackReport; exact ⟨_, rfl, State.settle_form _ (by simp only [State.begin_kept, State.kept_mk, State.kept_eta, State.avsSlack_kept, h])⟩
theorem execBlockResetEnd_form {q : List Instr} (a1 : _) (s : State) (h : Form q s.kept) : ∃ t, execBlockResetEnd a1 s = .next t ∧ Form q t.kept := by
  unfold execBlockResetEnd; exact ⟨_, rfl, State.settle_form _ (by simp only [State.begin_kept, State.kept_mk, State.kept_eta, State.blockEnd_kept, h])⟩
theorem execRefaRestored_form {q : List Instr} (s : State) (h : Form q s.kept) : ∃ t, execRefaRestored s = .next t ∧ Form q t.kept := by
  unfold execRefaRestored; exact ⟨_, rfl, State.settle_form _ (by simp only [State.begin_kept, State.kept_mk, State.kept_eta, State.refA_kept, h])⟩
theorem execPowerOnReset_form {q : List Instr} (a1 : _) (s : State) (h : Form q s.kept) : ∃ t, execPowerOnReset a1 s = .next t ∧ Form q t.kept := by
  unfold execPowerOnReset; exact ⟨_, rfl, State.settle_form _ (by simp only [State.begin_kept, State.kept_mk, State.kept_eta, State.resetLevel_form, h])⟩
theorem execBcastSplit_form {q : List Instr} (s : State) (h : Form q s.kept) : ∃ t, execBcastSplit s = .next t ∧ Form q t.kept := by
  unfold execBcastSplit; exact ⟨_, rfl, State.settle_form _ (by (repeat' split) <;> first | (with_reducible exact h) | simp only [State.begin_kept, State.kept_mk, State.kept_eta, State.bcast_kept, State.splitTake_kept, h] | simp only [apply_ite State.kept, ite_self, State.begin_kept, State.kept_foldl, implies_true, Form.foldl, State.kept_mk, State.kept_eta, State.bcast_kept, State.splitTake_kept, h])⟩
theorem execPortDown_form {q : List Instr} (a1 : _) (s : State) (h : Form q s.kept) : ∃ t, execPortDown a1 s = .next t ∧ Form q t.kept := by
  unfold execPortDown; exact ⟨_, rfl, State.settle_form _ (by simp only [State.begin_kept, State.kept_mk, State.kept_eta, State.skLoseLock_kept, h])⟩
theorem execTimeSyncExchange_form {q : List Instr} (s : State) (h : Form q s.kept) : ∃ t, execTimeSyncExchange s = .next t ∧ Form q t.kept := by
  unfold execTimeSyncExchange; exact ⟨_, rfl, State.settle_form _ (by simp only [State.begin_kept, State.kept_mk, State.kept_eta, State.timeExchange_kept, h])⟩
theorem execHelloSend_form {q : List Instr} (s : State) (h : Form q s.kept) : ∃ t, execHelloSend s = .next t ∧ Form q t.kept := by
  unfold execHelloSend; exact ⟨_, rfl, State.settle_form _ (by simp only [State.begin_kept, State.kept_mk, State.kept_eta, State.helloSend_kept, h])⟩
theorem execTopoSend_form {q : List Instr} (s : State) (h : Form q s.kept) : ∃ t, execTopoSend s = .next t ∧ Form q t.kept := by
  unfold execTopoSend; exact ⟨_, rfl, State.settle_form _ (by simp only [State.begin_kept, State.kept_mk, State.kept_eta, State.topoSend_kept, h])⟩
theorem execPortUp_form {q : List Instr} (a1 : _) (s : State) (h : Form q s.kept) : ∃ t, execPortUp a1 s = .next t ∧ Form q t.kept := by
  unfold execPortUp; exact ⟨_, rfl, State.settle_form _ (by simp only [State.begin_kept, State.kept_mk, State.kept_eta, State.skPortUp_kept, h])⟩
theorem execWrsp_form {q : List Instr} (a1 : _) (a2 : _) (a3 : _) (s : State) (h : Form q s.kept) : ∃ t, execWrsp a1 a2 a3 s = .next t ∧ Form q t.kept := by
  unfold execWrsp; exact ⟨_, rfl, State.settle_form _ (by simp only [State.begin_kept, State.kept_mk, State.kept_eta, State.skResponse_kept, h])⟩
theorem execBcastMode_form {q : List Instr} (s : State) (h : Form q s.kept) : ∃ t, execBcastMode s = .next t ∧ Form q t.kept := by
  unfold execBcastMode; exact ⟨_, rfl, State.settle_form _ (by (repeat' split) <;> first | (with_reducible exact h) | simp only [State.begin_kept, State.kept_mk, State.kept_eta, State.bcast_kept, State.bcastMode_kept, h] | simp only [apply_ite State.kept, ite_self, State.begin_kept, State.kept_foldl, implies_true, Form.foldl, State.kept_mk, State.kept_eta, State.bcast_kept, State.bcastMode_kept, h])⟩
theorem execBcmdSplit_form {q : List Instr} (a1 : _) (s : State) (h : Form q s.kept) : ∃ t, execBcmdSplit a1 s = .next t ∧ Form q t.kept := by
  unfold execBcmdSplit; exact ⟨_, rfl, State.settle_form _ (by simp only [State.begin_kept, State.kept_mk, State.kept_eta, State.bcmdRow_kept, h])⟩
theorem execReportJoinReady_form {q : List Instr} (a1 : _) (a2 : _) (a3 : _) (s : State) (h : Form q s.kept) : ∃ t, execReportJoinReady a1 a2 a3 s = .next t ∧ Form q t.kept := by
  unfold execReportJoinReady; exact ⟨_, rfl, State.settle_form _ (by simp only [State.begin_kept, State.kept_mk, State.kept_eta, State.skReportArrive_kept, h])⟩
theorem execBcmdStart_form {q : List Instr} (a1 : _) (s : State) (h : Form q s.kept) : ∃ t, execBcmdStart a1 s = .next t ∧ Form q t.kept := by
  unfold execBcmdStart; exact ⟨_, rfl, State.settle_form _ (by simp only [State.begin_kept, State.kept_mk, State.kept_eta, State.bcmdRow_kept, h])⟩
theorem execPortRetrain_form {q : List Instr} (a1 : _) (s : State) (h : Form q s.kept) : ∃ t, execPortRetrain a1 s = .next t ∧ Form q t.kept := by
  unfold execPortRetrain; exact ⟨_, rfl, State.settle_form _ (by simp only [State.begin_kept, State.kept_mk, State.kept_eta, State.skRetrain_kept, h])⟩
theorem execBcastJoined_form {q : List Instr} (s : State) (h : Form q s.kept) : ∃ t, execBcastJoined s = .next t ∧ Form q t.kept := by
  unfold execBcastJoined; exact ⟨_, rfl, State.settle_form _ (by (repeat' split) <;> first | (with_reducible exact h) | simp only [State.begin_kept, State.kept_mk, State.kept_eta, State.bcast_kept, State.joined_kept, h] | simp only [apply_ite State.kept, ite_self, State.begin_kept, State.kept_foldl, implies_true, Form.foldl, State.kept_mk, State.kept_eta, State.bcast_kept, State.joined_kept, h])⟩
theorem execRreq_form {q : List Instr} (a1 : _) (a2 : _) (a3 : _) (a4 : _) (s : State) (h : Form q s.kept) : ∃ t, execRreq a1 a2 a3 s a4 = .next t ∧ Form q t.kept := by
  unfold execRreq; exact ⟨_, rfl, State.settle_form _ (by simp only [State.begin_kept, State.kept_mk, State.kept_eta, State.skRequest_form, h])⟩
theorem execIdle_form {q : List Instr} (a1 : _) (a2 : _) (s : State) (h : Form q s.kept) : ∃ t, execIdle a1 a2 s = .next t ∧ Form q t.kept := by
  unfold execIdle; exact ⟨_, rfl, State.settle_form _ (by simp only [State.begin_kept, State.kept_mk, State.kept_eta, State.skIdleArrive_kept, h])⟩
theorem execWreq_form {q : List Instr} (a1 : _) (a2 : _) (a3 : _) (a4 : _) (s : State) (h : Form q s.kept) : ∃ t, execWreq a1 a2 a3 s a4 = .next t ∧ Form q t.kept := by
  unfold execWreq; exact ⟨_, rfl, State.settle_form _ (by simp only [State.begin_kept, State.kept_mk, State.kept_eta, State.skRequest_form, h])⟩
theorem execDdep_form {q : List Instr} (a1 : _) (a2 : _) (a3 : _) (s : State) (h : Form q s.kept) : ∃ t, execDdep a1 a2 a3 s = .next t ∧ Form q t.kept := by
  unfold execDdep; exact ⟨_, rfl, State.settle_form _ (by simp only [State.begin_kept, State.kept_mk, State.kept_eta, State.skDdep_kept, h])⟩
theorem execBcast_form {q : List Instr} (a1 : _) (a2 : _) (a3 : _) (s : State) (h : Form q s.kept) : ∃ t, execBcast a1 a2 a3 s = .next t ∧ Form q t.kept := by
  unfold execBcast; exact ⟨_, rfl, State.settle_form _ (by simp only [State.begin_kept, State.kept_mk, State.kept_eta, State.skBcast_kept, h])⟩
theorem execReportBarrierReady_form {q : List Instr} (a1 : _) (a2 : _) (a3 : _) (s : State) (h : Form q s.kept) : ∃ t, execReportBarrierReady a1 a2 a3 s = .next t ∧ Form q t.kept := by
  unfold execReportBarrierReady; exact ⟨_, rfl, State.settle_form _ (by simp only [State.begin_kept, State.kept_mk, State.kept_eta, State.skReportArrive_kept, h])⟩
theorem execTsync_form {q : List Instr} (a1 : _) (a2 : _) (a3 : _) (s : State) (h : Form q s.kept) : ∃ t, execTsync a1 a2 a3 s = .next t ∧ Form q t.kept := by
  unfold execTsync; exact ⟨_, rfl, State.settle_form _ (by simp only [State.begin_kept, State.kept_mk, State.kept_eta, State.skTsync_kept, h])⟩
theorem execHello_form {q : List Instr} (a1 : _) (a2 : _) (a3 : _) (s : State) (h : Form q s.kept) : ∃ t, execHello a1 a2 a3 s = .next t ∧ Form q t.kept := by
  unfold execHello; exact ⟨_, rfl, State.settle_form _ (by simp only [State.begin_kept, State.kept_mk, State.kept_eta, State.skHello_kept, h])⟩
theorem execTresp_form {q : List Instr} (a1 : _) (a2 : _) (a3 : _) (s : State) (h : Form q s.kept) : ∃ t, execTresp a1 a2 a3 s = .next t ∧ Form q t.kept := by
  unfold execTresp; exact ⟨_, rfl, State.settle_form _ (by simp only [State.begin_kept, State.kept_mk, State.kept_eta, State.skTresp_kept, h])⟩
theorem execReportLayerJoined_form {q : List Instr} (a1 : _) (a2 : _) (a3 : _) (s : State) (h : Form q s.kept) : ∃ t, execReportLayerJoined a1 a2 a3 s = .next t ∧ Form q t.kept := by
  unfold execReportLayerJoined; exact ⟨_, rfl, State.settle_form _ (by simp only [State.begin_kept, State.kept_mk, State.kept_eta, State.skReportArrive_kept, h])⟩
theorem execDdepFlush_form {q : List Instr} (a1 : _) (s : State) (h : Form q s.kept) : ∃ t, execDdepFlush a1 s = .next t ∧ Form q t.kept := by
  unfold execDdepFlush; exact ⟨_, rfl, State.settle_form _ (by simp only [State.begin_kept, State.kept_mk, State.kept_eta, State.ddepFlush_kept, h])⟩
theorem execBcmdReset_form {q : List Instr} (a1 : _) (s : State) (h : Form q s.kept) : ∃ t, execBcmdReset a1 s = .next t ∧ Form q t.kept := by
  unfold execBcmdReset; exact ⟨_, rfl, State.settle_form _ (by simp only [State.begin_kept, State.kept_mk, State.kept_eta, State.bcmdRow_kept, h])⟩
theorem execRrsp_form {q : List Instr} (a1 : _) (a2 : _) (a3 : _) (s : State) (h : Form q s.kept) : ∃ t, execRrsp a1 a2 a3 s = .next t ∧ Form q t.kept := by
  unfold execRrsp; exact ⟨_, rfl, State.settle_form _ (by simp only [State.begin_kept, State.kept_mk, State.kept_eta, State.skResponse_kept, h])⟩
theorem execBcastStart_form {q : List Instr} (s : State) (h : Form q s.kept) : ∃ t, execBcastStart s = .next t ∧ Form q t.kept := by
  unfold execBcastStart; exact ⟨_, rfl, State.settle_form _ (by (repeat' split) <;> first | (with_reducible exact h) | simp only [State.begin_kept, State.kept_mk, State.kept_eta, State.bcast_kept, State.startRelease_kept, h] | simp only [apply_ite State.kept, ite_self, State.begin_kept, State.kept_foldl, implies_true, Form.foldl, State.kept_mk, State.kept_eta, State.bcast_kept, State.startRelease_kept, h])⟩
theorem execPortEnable_form {q : List Instr} (a1 : _) (a2 : _) (s : State) (h : Form q s.kept) : ∃ t, execPortEnable a1 a2 s = .next t ∧ Form q t.kept := by
  unfold execPortEnable; exact ⟨_, rfl, State.settle_form _ (by simp only [State.begin_kept, State.kept_mk, State.kept_eta, State.skCtlWrite_kept, h])⟩
theorem execBcmdMode_form {q : List Instr} (a1 : _) (s : State) (h : Form q s.kept) : ∃ t, execBcmdMode a1 s = .next t ∧ Form q t.kept := by
  unfold execBcmdMode; exact ⟨_, rfl, State.settle_form _ (by simp only [State.begin_kept, State.kept_mk, State.kept_eta, State.bcmdRow_kept, h])⟩
theorem execAssign_form {q : List Instr} (a1 : _) (a2 : _) (a3 : _) (s : State) (h : Form q s.kept) : ∃ t, execAssign a1 a2 a3 s = .next t ∧ Form q t.kept := by
  unfold execAssign; exact ⟨_, rfl, State.settle_form _ (by simp only [State.begin_kept, State.kept_mk, State.kept_eta, State.skAssign_kept, h])⟩
theorem execBcastReset_form {q : List Instr} (s : State) (h : Form q s.kept) : ∃ t, execBcastReset s = .next t ∧ Form q t.kept := by
  refine ⟨_, rfl, State.settle_form _ ?_⟩
  unfold State.bcast
  split
  · rename_i hd
    refine Form.ite (State.pulseReset_form _ _ ?_) ?_ <;> exact Form.same ((State.skDue_kept _ _ _ _ hd).trans (State.begin_kept _)) h
  · exact Form.same (State.begin_kept _) h

theorem execBcastAbort_form {q : List Instr} (s : State) (h : Form q s.kept) : ∃ t, execBcastAbort s = .next t ∧ Form q t.kept := by
  unfold execBcastAbort; exact ⟨_, rfl, State.settle_form _ (by (repeat' split) <;> first | (with_reducible exact h) | simp only [State.begin_kept, State.kept_mk, State.kept_eta, State.bcast_kept, State.barFail_kept, h] | simp only [apply_ite State.kept, ite_self, State.begin_kept, State.kept_foldl, implies_true, Form.foldl, State.kept_mk, State.kept_eta, State.bcast_kept, State.barFail_kept, h])⟩
theorem execPortTrainTimeout_form {q : List Instr} (a1 : _) (s : State) (h : Form q s.kept) : ∃ t, execPortTrainTimeout a1 s = .next t ∧ Form q t.kept := by
  unfold execPortTrainTimeout; exact ⟨_, rfl, State.settle_form _ (by simp only [State.begin_kept, State.kept_mk, State.kept_eta, State.skTrainTimeout_kept, h])⟩
theorem execReplay_form {q : List Instr} (a1 : _) (s : State) (h : Form q s.kept) : ∃ t, execReplay a1 s = .next t ∧ Form q t.kept := by
  unfold execReplay; exact ⟨_, rfl, State.settle_form _ (by simp only [State.begin_kept, State.kept_mk, State.kept_eta, State.skReplay_kept, h])⟩
theorem execBcastRelease_form {q : List Instr} (s : State) (h : Form q s.kept) : ∃ t, execBcastRelease s = .next t ∧ Form q t.kept := by
  unfold execBcastRelease; exact ⟨_, rfl, State.settle_form _ (by (repeat' split) <;> first | (with_reducible exact h) | simp only [State.begin_kept, State.kept_mk, State.kept_eta, State.bcast_kept, State.barRelease_kept, h] | simp only [apply_ite State.kept, ite_self, State.begin_kept, State.kept_foldl, implies_true, Form.foldl, State.kept_mk, State.kept_eta, State.bcast_kept, State.barRelease_kept, h])⟩
theorem execReportLayerDone_form {q : List Instr} (a1 : _) (a2 : _) (a3 : _) (s : State) (h : Form q s.kept) : ∃ t, execReportLayerDone a1 a2 a3 s = .next t ∧ Form q t.kept := by
  unfold execReportLayerDone; exact ⟨_, rfl, State.settle_form _ (by simp only [State.begin_kept, State.kept_mk, State.kept_eta, State.skReportArrive_kept, h])⟩
theorem execTopo_form {q : List Instr} (a1 : _) (a2 : _) (a3 : _) (s : State) (h : Form q s.kept) : ∃ t, execTopo a1 a2 a3 s = .next t ∧ Form q t.kept := by
  unfold execTopo; exact ⟨_, rfl, State.settle_form _ (by simp only [State.begin_kept, State.kept_mk, State.kept_eta, State.skTopo_kept, h])⟩
theorem execAddressAssign_form {q : List Instr} (s : State) (h : Form q s.kept) : ∃ t, execAddressAssign s = .next t ∧ Form q t.kept := by
  unfold execAddressAssign; exact ⟨_, rfl, State.settle_form _ (by simp only [State.begin_kept, State.kept_mk, State.kept_eta, State.addressAssign_kept, h])⟩
theorem execJoinTimeout_form {q : List Instr} (s : State) (h : Form q s.kept) : ∃ t, execJoinTimeout s = .next t ∧ Form q t.kept := by
  unfold execJoinTimeout; exact ⟨_, rfl, State.settle_form _ (by simp only [State.begin_kept, State.kept_mk, State.kept_eta, State.joinTimeout_kept, h])⟩

end Sys2Proof.Machine
end

