-- ==== Sys2Proof/Laws/Ctrl.lean ====
section
/-! SUPPORT. Which operations leave the collector's work lists, the mode controller and the blocks' own writes alone: after them nothing settles. -/
namespace Sys2Proof.Machine

/-- The collector's state beside its registers, the mode controller's, and the writes of the blocks that wait for the end. -/
def State.ctrl (s : State) : FltSt × ModeSt × List OwnWrite := (s.flt, s.mode, s.own)

theorem State.ctrl_mk (a0 a1 a2 a3 a4 a5 a6 a7 a8 a9 a10 a11 a12 a13 a14 a15 a16 a17 a18 a19 a20 a21 a22 a23 a24 a25 a26 a27 a28 a29 a30 a31 a32 a33 a34 a35 a36 a37 a38 a39) : State.ctrl ⟨a0, a1, a2, a3, a4, a5, a6, a7, a8, a9, a10, a11, a12, a13, a14, a15, a16, a17, a18, a19, a20, a21, a22, a23, a24, a25, a26, a27, a28, a29, a30, a31, a32, a33, a34, a35, a36, a37, a38, a39⟩ = (a11, a10, a30) := rfl

theorem State.ctrl_eta (s : State) : (s.flt, s.mode, s.own) = s.ctrl := rfl

theorem State.ctrl_foldl {α : Type} (f : State → α → State) (h : ∀ s x, (f s x).ctrl = s.ctrl) (l : List α) (s : State) :
    (l.foldl f s).ctrl = s.ctrl := by
  induction l generalizing s with
  | nil => rfl
  | cons x l ih => rw [List.foldl_cons, ih, h]

theorem State.set_ctrl (s : State) (a2 : _) (a3 : _) : (State.set s a2 a3).ctrl = s.ctrl := by
  unfold State.set; simp only [State.ctrl_mk, State.ctrl_eta]
theorem State.setPair_ctrl (s : State) (a2 : _) (a3 : _) (a4 : _) : (State.setPair s a2 a3 a4).ctrl = s.ctrl := by
  unfold State.setPair; simp only [State.ctrl_mk, State.ctrl_eta, State.set_ctrl]
theorem State.setByte_ctrl (s : State) (a2 : _) (a3 : _) : (State.setByte s a2 a3).ctrl = s.ctrl := by
  unfold State.setByte; simp only [State.ctrl_mk, State.ctrl_eta]
theorem State.writeField_ctrl (s : State) (a2 : _) (a3 : _) (a4 : _) : (State.writeField s a2 a3 a4).ctrl = s.ctrl := by
  unfold State.writeField; (repeat' split) <;> first | with_reducible rfl | simp only [State.ctrl_mk, State.ctrl_eta, State.set_ctrl] | rfl
theorem State.incSat_ctrl (s : State) (a2 : _) : (State.incSat s a2).ctrl = s.ctrl := by
  unfold State.incSat; (repeat' split) <;> first | with_reducible rfl | simp only [State.ctrl_mk, State.ctrl_eta, State.set_ctrl] | rfl
theorem State.incWrap_ctrl (s : State) (a2 : _) : (State.incWrap s a2).ctrl = s.ctrl := by
  unfold State.incWrap; simp only [State.ctrl_mk, State.ctrl_eta, State.set_ctrl]
theorem State.nvStore_ctrl (s : State) (a2 a3 : _) : (State.nvStore s a2 a3).ctrl = s.ctrl := by
  induction a3 generalizing s a2 with
  | nil => rfl
  | cons b t ih => unfold State.nvStore; exact (ih _ _).trans rfl

theorem State.showPins_ctrl (s : State) (a2 : _) : (State.showPins s a2).ctrl = s.ctrl := by
  unfold State.showPins; simp only [State.ctrl_mk, State.ctrl_eta]
theorem State.zeroMem_ctrl (s : State) (a2 : _) (a3 : _) : (State.zeroMem s a2 a3).ctrl = s.ctrl := by
  unfold State.zeroMem; simp only [State.ctrl_mk, State.ctrl_eta]
theorem State.reply_ctrl (s : State) (a2 : _) (a3 : _) (a4 : _) : (State.reply s a2 a3 a4).ctrl = s.ctrl := by
  unfold State.reply; simp only [State.ctrl_mk, State.ctrl_eta]
theorem State.commitShadow_ctrl (s : State) (a2 : _) (a3 : _) : (State.commitShadow s a2 a3).ctrl = s.ctrl := by
  unfold State.commitShadow; simp only [State.ctrl_mk, State.ctrl_eta]
theorem State.ballUse_ctrl (s : State) (a2 : _) : (State.ballUse s a2).ctrl = s.ctrl := by
  unfold State.ballUse; simp only [State.ctrl_mk, State.ctrl_eta]
theorem State.clearRc_ctrl (s : State) (a2 : _) : (State.clearRc s a2).ctrl = s.ctrl := by
  unfold State.clearRc; (try dsimp only); (repeat' split) <;> (repeat (first | rw [State.ctrl_foldl] | simp only [State.ctrl_mk, State.ctrl_eta, State.set_ctrl])) <;> (try intros) <;> (try dsimp only) <;> (repeat' split) <;> first | with_reducible rfl | simp only [State.ctrl_mk, State.ctrl_eta, State.ctrl_foldl, implies_true, State.set_ctrl, apply_ite State.ctrl, ite_self] | simp only [State.ctrl_mk, State.ctrl_eta, State.ctrl_foldl, implies_true, State.set_ctrl, apply_ite State.ctrl, ite_self, *] | rfl
theorem State.emit_ctrl (s : State) (a2 : _) : (State.emit s a2).ctrl = s.ctrl := by
  unfold State.emit; simp only [State.ctrl_mk, State.ctrl_eta]
theorem State.drivePin_ctrl (s : State) (a2 : _) (a3 : _) : (State.drivePin s a2 a3).ctrl = s.ctrl := by
  unfold State.drivePin; simp only [State.ctrl_mk, State.ctrl_eta, State.emit_ctrl, State.ballUse_ctrl]
theorem State.store_ctrl (s : State) (a2 a3 : _) : (State.store s a2 a3).ctrl = s.ctrl := by
  induction a3 generalizing s a2 with
  | nil => rfl
  | cons b t ih => unfold State.store; exact (ih _ _).trans rfl

theorem State.writeFields_ctrl (s : State) (a2 : _) (a3 : _) : (State.writeFields s a2 a3).ctrl = s.ctrl := by
  unfold State.writeFields; (repeat' split) <;> first | with_reducible rfl | simp only [State.ctrl_mk, State.ctrl_eta, State.ctrl_foldl, implies_true, State.writeField_ctrl] | rfl
theorem State.addSat_ctrl (s : State) (a2 : _) (a3 : _) : (State.addSat s a2 a3).ctrl = s.ctrl := by
  unfold State.addSat; simp only [State.ctrl_mk, State.ctrl_eta, State.set_ctrl]
theorem State.setPin_ctrl (s : State) (a2 : _) (a3 : _) (a4 : _) : (State.setPin s a2 a3 a4).ctrl = s.ctrl := by
  unfold State.setPin; (repeat' split) <;> first | with_reducible rfl | simp only [State.ctrl_mk, State.ctrl_eta, State.set_ctrl] | rfl
theorem State.draw_ctrl (s : State) : (State.draw s).ctrl = s.ctrl := by
  unfold State.draw; simp only [State.ctrl_mk, State.ctrl_eta]
theorem State.resetRegs_ctrl (s : State) (a2 : _) (a3 : _) : (State.resetRegs s a2 a3).ctrl = s.ctrl := by
  unfold State.resetRegs; simp only [State.ctrl_mk, State.ctrl_eta]
theorem State.trapCores_ctrl (s : State) : (State.trapCores s).ctrl = s.ctrl := by
  unfold State.trapCores; simp only [State.ctrl_mk, State.ctrl_eta, State.emit_ctrl]
theorem State.clearSrcBit_ctrl (s : State) (a2 : _) (a3 : _) : (State.clearSrcBit s a2 a3).ctrl = s.ctrl := by
  unfold State.clearSrcBit; (repeat' split) <;> first | with_reducible rfl | simp only [State.ctrl_mk, State.ctrl_eta, State.set_ctrl] | rfl
theorem State.lower_ctrl (s : State) (a2 : _) : (State.lower s a2).ctrl = s.ctrl := by
  unfold State.lower; simp only [State.ctrl_mk, State.ctrl_eta, State.clearSrcBit_ctrl]
theorem State.setSrcBit_ctrl (s : State) (a2 : _) (a3 : _) : (State.setSrcBit s a2 a3).ctrl = s.ctrl := by
  unfold State.setSrcBit; simp only [State.ctrl_mk, State.ctrl_eta, State.set_ctrl]
theorem State.calAbort_ctrl (s : State) : (State.calAbort s).ctrl = s.ctrl := by
  unfold State.calAbort; (repeat' split) <;> first | with_reducible rfl | simp only [State.ctrl_mk, State.ctrl_eta, State.set_ctrl, State.incSat_ctrl] | rfl
theorem State.lasersSafe_ctrl (s : State) : (State.lasersSafe s).ctrl = s.ctrl := by
  unfold State.lasersSafe; simp only [State.ctrl_mk, State.ctrl_eta, State.ctrl_foldl, implies_true, State.set_ctrl]
theorem State.hackAssert_ctrl (s : State) (a2 : _) : (State.hackAssert s a2).ctrl = s.ctrl := by
  unfold State.hackAssert; (repeat' split) <;> first | with_reducible rfl | simp only [State.ctrl_mk, State.ctrl_eta, State.emit_ctrl, State.set_ctrl, State.calAbort_ctrl, State.lasersSafe_ctrl] | rfl
theorem State.capture_ctrl (s : State) (a2 : _) (a3 : _) (a4 : _) (a5 : _) (a6 : _) : (State.capture s a2 a3 a4 a5 a6).ctrl = s.ctrl := by
  unfold State.capture; (repeat' split) <;> first | with_reducible rfl | simp only [State.ctrl_mk, State.ctrl_eta, State.incSat_ctrl, State.set_ctrl, State.setPair_ctrl] | rfl
theorem State.msixFire_ctrl (s : State) (a2 : _) : (State.msixFire s a2).ctrl = s.ctrl := by
  unfold State.msixFire; (repeat' split) <;> first | with_reducible rfl | simp only [State.ctrl_mk, State.ctrl_eta, State.emit_ctrl] | rfl
theorem State.refreshLine_ctrl (s : State) (a2 : _) : (State.refreshLine s a2).ctrl = s.ctrl := by
  unfold State.refreshLine; grind only [State.ctrl_mk, State.ctrl_eta, State.msixFire_ctrl, State.set_ctrl]
theorem State.pulseLine_ctrl (s : State) (a2 : _) : (State.pulseLine s a2).ctrl = s.ctrl := by
  unfold State.pulseLine; simp only [State.ctrl_mk, State.ctrl_eta, State.msixFire_ctrl]
theorem State.setEsc_ctrl (s : State) (a2 : _) (a3 : _) : (State.setEsc s a2 a3).ctrl = s.ctrl := by
  unfold State.setEsc; simp only [State.ctrl_mk, State.ctrl_eta]
theorem State.modEsc_ctrl (s : State) (a2 : _) (a3 : _) : (State.modEsc s a2 a3).ctrl = s.ctrl := by
  unfold State.modEsc; simp only [State.ctrl_mk, State.ctrl_eta, State.setEsc_ctrl]
theorem State.regCommit_ctrl (s : State) (a2 : _) : (State.regCommit s a2).ctrl = s.ctrl := by
  unfold State.regCommit; (repeat' split) <;> first | with_reducible rfl | simp only [State.ctrl_mk, State.ctrl_eta, State.set_ctrl, State.commitShadow_ctrl] | rfl
theorem State.trjCommit_ctrl (s : State) (a2 : _) : (State.trjCommit s a2).ctrl = s.ctrl := by
  unfold State.trjCommit; (repeat' split) <;> first | with_reducible rfl | simp only [State.ctrl_mk, State.ctrl_eta, State.set_ctrl, State.commitShadow_ctrl] | rfl
theorem State.setEscState_ctrl (s : State) (a2 : _) (a3 : _) : (State.setEscState s a2 a3).ctrl = s.ctrl := by
  unfold State.setEscState; (repeat' split) <;> first | with_reducible rfl | simp only [State.ctrl_mk, State.ctrl_eta, State.set_ctrl, State.regCommit_ctrl, State.trjCommit_ctrl] | rfl
theorem State.setPc_ctrl (s : State) (a2 : _) (a3 : _) : (State.setPc s a2 a3).ctrl = s.ctrl := by
  unfold State.setPc; simp only [State.ctrl_mk, State.ctrl_eta, State.setPair_ctrl]
theorem State.endStep_ctrl (s : State) (a2 : _) (a3 : _) (a4 : _) : (State.endStep s a2 a3 a4).ctrl = s.ctrl := by
  unfold State.endStep; simp only [State.ctrl_mk, State.ctrl_eta, State.modEsc_ctrl, State.setPair_ctrl, State.set_ctrl, State.setEscState_ctrl]
theorem State.resumeIssue_ctrl (s : State) (a2 : _) : (State.resumeIssue s a2).ctrl = s.ctrl := by
  unfold State.resumeIssue; simp only [State.ctrl_mk, State.ctrl_eta, State.setEscState_ctrl, State.modEsc_ctrl]
theorem State.endWait_ctrl (s : State) (a2 : _) : (State.endWait s a2).ctrl = s.ctrl := by
  unfold State.endWait; (repeat' split) <;> first | with_reducible rfl | simp only [State.ctrl_mk, State.ctrl_eta, State.setPc_ctrl, State.endStep_ctrl, State.resumeIssue_ctrl] | rfl
theorem State.setPxyz_ctrl (s : State) (a2 : _) (a3 : _) (a4 : _) (a5 : _) : (State.setPxyz s a2 a3 a4 a5).ctrl = s.ctrl := by
  unfold State.setPxyz; simp only [State.ctrl_mk, State.ctrl_eta, State.set_ctrl]
theorem State.freePoint_ctrl (s : State) (a2 : _) : (State.freePoint s a2).ctrl = s.ctrl := by
  unfold State.freePoint; grind only [State.ctrl_mk, State.ctrl_eta, State.setPxyz_ctrl]
theorem State.setF_ctrl (s : State) (a2 : _) (a3 : _) (a4 : _) : (State.setF s a2 a3 a4).ctrl = s.ctrl := by
  unfold State.setF; simp only [State.ctrl_mk, State.ctrl_eta, State.set_ctrl]
theorem State.setQueue_ctrl (s : State) (a2 : _) (a3 : _) : (State.setQueue s a2 a3).ctrl = s.ctrl := by
  unfold State.setQueue; simp only [State.ctrl_mk, State.ctrl_eta, State.set_ctrl, State.modEsc_ctrl]
theorem State.trapRegs_ctrl (s : State) (a2 : _) (a3 : _) (a4 : _) (a5 : _) (a6 : _) (a7 : _) : (State.trapRegs s a2 a3 a4 a5 a6 a7).ctrl = s.ctrl := by
  unfold State.trapRegs; simp only [State.ctrl_mk, State.ctrl_eta, State.setPair_ctrl, State.set_ctrl]
theorem State.clearProgram_ctrl (s : State) (a2 : _) : (State.clearProgram s a2).ctrl = s.ctrl := by
  unfold State.clearProgram; simp only [State.ctrl_mk, State.ctrl_eta, State.ctrl_foldl, implies_true, State.set_ctrl, State.modEsc_ctrl, State.freePoint_ctrl]
theorem State.programStart_ctrl (s : State) (a2 : _) : (State.programStart s a2).ctrl = s.ctrl := by
  unfold State.programStart; simp only [State.ctrl_mk, State.ctrl_eta, State.setQueue_ctrl, State.clearProgram_ctrl, State.modEsc_ctrl, State.resumeIssue_ctrl, State.trjCommit_ctrl, State.setPc_ctrl]
theorem State.flushBuf_ctrl (s : State) (a2 : _) : (State.flushBuf s a2).ctrl = s.ctrl := by
  unfold State.flushBuf; simp only [State.ctrl_mk, State.ctrl_eta, State.set_ctrl, State.modEsc_ctrl]
theorem State.escLine_ctrl (s : State) (a2 : _) : (State.escLine s a2).ctrl = s.ctrl := by
  unfold State.escLine; simp only [State.ctrl_mk, State.ctrl_eta, State.refreshLine_ctrl]
theorem State.setG_ctrl (s : State) (a2 : _) (a3 : _) (a4 : _) : (State.setG s a2 a3 a4).ctrl = s.ctrl := by
  unfold State.setG; (repeat' split) <;> first | with_reducible rfl | simp only [State.ctrl_mk, State.ctrl_eta, State.set_ctrl] | rfl
theorem State.releaseZone_ctrl (s : State) (a2 : _) : (State.releaseZone s a2).ctrl = s.ctrl := by
  unfold State.releaseZone; grind only [State.ctrl_mk, State.ctrl_eta, State.set_ctrl]
theorem State.endStretch_ctrl (s : State) (a2 : _) : (State.endStretch s a2).ctrl = s.ctrl := by
  unfold State.endStretch; simp only [State.ctrl_mk, State.ctrl_eta, State.setEsc_ctrl]
theorem State.leaveClaims_ctrl (s : State) (a2 : _) : (State.leaveClaims s a2).ctrl = s.ctrl := by
  unfold State.leaveClaims; simp only [State.ctrl_mk, State.ctrl_eta]
theorem State.setZoneQueue_ctrl (s : State) (a2 : _) (a3 : _) : (State.setZoneQueue s a2 a3).ctrl = s.ctrl := by
  unfold State.setZoneQueue; simp only [State.ctrl_mk, State.ctrl_eta]
theorem State.releaseZones_ctrl (s : State) (a2 : _) : (State.releaseZones s a2).ctrl = s.ctrl := by
  unfold State.releaseZones; simp only [State.ctrl_mk, State.ctrl_eta, State.ctrl_foldl, implies_true, State.releaseZone_ctrl, apply_ite State.ctrl, ite_self]
theorem State.releaseEveryZone_ctrl (s : State) : (State.releaseEveryZone s).ctrl = s.ctrl := by
  unfold State.releaseEveryZone; simp only [State.ctrl_mk, State.ctrl_eta, State.ctrl_foldl, implies_true, State.set_ctrl]
theorem State.breakStretch_ctrl (s : State) (a2 : _) : (State.breakStretch s a2).ctrl = s.ctrl := by
  unfold State.breakStretch; grind only [State.ctrl_mk, State.ctrl_eta, State.endStretch_ctrl]
theorem State.dropHold_ctrl (s : State) (a2 : _) : (State.dropHold s a2).ctrl = s.ctrl := by
  unfold State.dropHold; simp only [State.ctrl_mk, State.ctrl_eta, State.modEsc_ctrl]
theorem State.grantZone_ctrl (s : State) (a2 : _) (a3 : _) : (State.grantZone s a2 a3).ctrl = s.ctrl := by
  unfold State.grantZone; simp only [State.ctrl_mk, State.ctrl_eta, State.set_ctrl, State.endWait_ctrl]
theorem State.calDisturb_ctrl (s : State) (a2 : _) : (State.calDisturb s a2).ctrl = s.ctrl := by
  unfold State.calDisturb; (repeat' split) <;> first | with_reducible rfl | simp only [State.ctrl_mk, State.ctrl_eta, State.calAbort_ctrl] | rfl
theorem State.setPort_ctrl (s : State) (a2 : _) (a3 : _) : (State.setPort s a2 a3).ctrl = s.ctrl := by
  unfold State.setPort; simp only [State.ctrl_mk, State.ctrl_eta]
theorem State.cutNote_ctrl (s : State) (a2 : _) (a3 : _) (a4 : _) : (State.cutNote s a2 a3 a4).ctrl = s.ctrl := by
  unfold State.cutNote; (repeat' split) <;> first | with_reducible rfl | simp only [State.ctrl_mk, State.ctrl_eta, State.set_ctrl] | rfl
theorem State.placeField_ctrl (s : State) (a2 : _) (a3 : _) (a4 : _) : (State.placeField s a2 a3 a4).ctrl = s.ctrl := by
  unfold State.placeField; simp only [State.ctrl_mk, State.ctrl_eta, State.cutNote_ctrl, State.setPort_ctrl]
theorem State.idleNote_ctrl (s : State) (a2 : _) : (State.idleNote s a2).ctrl = s.ctrl := by
  unfold State.idleNote; grind only [State.ctrl_mk, State.ctrl_eta]
theorem State.portRefresh_ctrl (s : State) (a2 : _) : (State.portRefresh s a2).ctrl = s.ctrl := by
  unfold State.portRefresh; grind only [State.ctrl_mk, State.ctrl_eta, State.set_ctrl, State.incWrap_ctrl, State.idleNote_ctrl]
theorem State.setDac_ctrl (s : State) (a2 : _) (a3 : _) : (State.setDac s a2 a3).ctrl = s.ctrl := by
  unfold State.setDac; grind only [State.ctrl_mk, State.ctrl_eta, State.idleNote_ctrl, State.set_ctrl, State.setPort_ctrl]
theorem State.placeEdge_ctrl (s : State) (a2 : _) (a3 : _) (a4 : _) : (State.placeEdge s a2 a3 a4).ctrl = s.ctrl := by
  unfold State.placeEdge; grind only [State.ctrl_mk, State.ctrl_eta, State.cutNote_ctrl, State.setPort_ctrl]
theorem State.gateOff_ctrl (s : State) (a2 : _) : (State.gateOff s a2).ctrl = s.ctrl := by
  unfold State.gateOff; simp only [State.ctrl_mk, State.ctrl_eta, State.portRefresh_ctrl, State.setPort_ctrl]
theorem State.ilkClear_ctrl (s : State) : (State.ilkClear s).ctrl = s.ctrl := by
  unfold State.ilkClear; (repeat' split) <;> first | with_reducible rfl | simp only [State.ctrl_mk, State.ctrl_eta, State.set_ctrl] | rfl
theorem State.countRetarget_ctrl (s : State) (a2 : _) : (State.countRetarget s a2).ctrl = s.ctrl := by
  unfold State.countRetarget; simp only [State.ctrl_mk, State.ctrl_eta, State.incSat_ctrl, State.set_ctrl]
theorem State.stopMotion_ctrl (s : State) (a2 : _) (a3 : _) : (State.stopMotion s a2 a3).ctrl = s.ctrl := by
  unfold State.stopMotion; grind only [State.ctrl_mk, State.ctrl_eta, State.setEsc_ctrl, State.countRetarget_ctrl]
theorem State.withdraw_ctrl (s : State) (a2 : _) : (State.withdraw s a2).ctrl = s.ctrl := by
  unfold State.withdraw; simp only [State.ctrl_mk, State.ctrl_eta]
theorem State.armEsc_ctrl (s : State) (a2 : _) : (State.armEsc s a2).ctrl = s.ctrl := by
  unfold State.armEsc; (repeat' split) <;> first | with_reducible rfl | simp only [State.ctrl_mk, State.ctrl_eta, State.setEscState_ctrl, State.modEsc_ctrl] | rfl
theorem State.disarmEsc_ctrl (s : State) (a2 : _) : (State.disarmEsc s a2).ctrl = s.ctrl := by
  unfold State.disarmEsc; (repeat' split) <;> first | with_reducible rfl | simp only [State.ctrl_mk, State.ctrl_eta, State.setEscState_ctrl] | rfl
theorem State.awaitWake_ctrl (s : State) (a2 : _) : (State.awaitWake s a2).ctrl = s.ctrl := by
  unfold State.awaitWake; grind only [State.ctrl_mk, State.ctrl_eta, State.set_ctrl, State.endWait_ctrl]
theorem State.setDryRun_ctrl (s : State) : (State.setDryRun s).ctrl = s.ctrl := by
  unfold State.setDryRun; simp only [State.ctrl_mk, State.ctrl_eta, State.ctrl_foldl, implies_true, State.set_ctrl]
theorem State.cutGate_ctrl (s : State) (a2 : _) : (State.cutGate s a2).ctrl = s.ctrl := by
  unfold State.cutGate; simp only [State.ctrl_mk, State.ctrl_eta, State.modEsc_ctrl, State.gateOff_ctrl]
theorem State.disarmAll_ctrl (s : State) : (State.disarmAll s).ctrl = s.ctrl := by
  unfold State.disarmAll; simp only [State.ctrl_mk, State.ctrl_eta, State.ctrl_foldl, implies_true, State.disarmEsc_ctrl]
theorem State.armAll_ctrl (s : State) : (State.armAll s).ctrl = s.ctrl := by
  unfold State.armAll; simp only [State.ctrl_mk, State.ctrl_eta, State.ctrl_foldl, implies_true, State.armEsc_ctrl]
theorem State.resetTrj_ctrl (s : State) (a2 : _) : (State.resetTrj s a2).ctrl = s.ctrl := by
  unfold State.resetTrj; simp only [State.ctrl_mk, State.ctrl_eta, State.lower_ctrl, State.resetRegs_ctrl]
theorem State.setEvents_ctrl (s : State) (a2 : _) (a3 : _) : (State.setEvents s a2 a3).ctrl = s.ctrl := by
  unfold State.setEvents; simp only [State.ctrl_mk, State.ctrl_eta, State.awaitWake_ctrl, State.set_ctrl, State.modEsc_ctrl]
theorem State.freezeEsc_ctrl (s : State) (a2 : _) : (State.freezeEsc s a2).ctrl = s.ctrl := by
  unfold State.freezeEsc; grind only [State.ctrl_mk, State.ctrl_eta, State.setEscState_ctrl, State.leaveClaims_ctrl, State.withdraw_ctrl, State.cutGate_ctrl, State.modEsc_ctrl, State.setPair_ctrl, State.set_ctrl]
theorem State.freezeAll_ctrl (s : State) : (State.freezeAll s).ctrl = s.ctrl := by
  unfold State.freezeAll; simp only [State.ctrl_mk, State.ctrl_eta, State.ctrl_foldl, implies_true, State.freezeEsc_ctrl]
theorem State.eccFix_ctrl (s : State) (a2 : _) : (State.eccFix s a2).ctrl = s.ctrl := by
  unfold State.eccFix; (repeat' split) <;> first | with_reducible rfl | simp only [State.ctrl_mk, State.ctrl_eta, State.incSat_ctrl] | rfl
theorem State.linkFix_ctrl (s : State) (a2 : _) : (State.linkFix s a2).ctrl = s.ctrl := by
  unfold State.linkFix; (repeat' split) <;> first | with_reducible rfl | simp only [State.ctrl_mk, State.ctrl_eta, State.incSat_ctrl, State.eccFix_ctrl] | rfl
theorem State.freeLoad_ctrl (s : State) (a2 : _) : (State.freeLoad s a2).2.ctrl = s.ctrl := by
  induction a2 generalizing s with
  | zero => rfl
  | succ k ih => unfold State.freeLoad; exact (ih s.draw).trans (State.draw_ctrl s)

theorem State.setStamp_ctrl (s : State) (a2 : _) (a3 : _) : (State.setStamp s a2 a3).ctrl = s.ctrl := by
  unfold State.setStamp; simp only [State.ctrl_mk, State.ctrl_eta, State.setPair_ctrl]
theorem State.dialReset_ctrl (s : State) : (State.dialReset s).ctrl = s.ctrl := by
  unfold State.dialReset
  cases s.dial.clear with
  | none => rfl
  | some _ =>
    have hz := State.zeroMem_ctrl s 0x1000000000 (0x1000000000 + s.freeNext % 2 ^ 25)
    dsimp only
    generalize s.zeroMem 0x1000000000 (0x1000000000 + s.freeNext % 2 ^ 25) = u at hz ⊢
    rw [State.ctrl_mk, State.ctrl_eta, ← hz]
    generalize dialTiles.filter _ = l
    exact State.ctrl_foldl (fun (u : State) t => (u.setStamp t u.freeNext).draw)
      (fun u t => (State.draw_ctrl _).trans (State.setStamp_ctrl ..)) l u.draw

theorem State.setCell_ctrl (s : State) (a2 : _) (a3 : _) (a4 : _) : (State.setCell s a2 a3 a4).ctrl = s.ctrl := by
  unfold State.setCell; simp only [State.ctrl_mk, State.ctrl_eta, State.store_ctrl]
theorem State.keepCell_ctrl (s : State) (a2 : _) (a3 : _) : (State.keepCell s a2 a3).ctrl = s.ctrl := by
  unfold State.keepCell; grind only [State.ctrl_mk, State.ctrl_eta]
theorem State.depositCell_ctrl (s : State) (a2 : _) (a3 : _) (a4 : _) : (State.depositCell s a2 a3 a4).1.ctrl = s.ctrl := by
  unfold State.depositCell; grind only [State.ctrl_mk, State.ctrl_eta, State.setCell_ctrl, State.keepCell_ctrl]
theorem State.rebaseTile_ctrl (s : State) (a2 : _) (a3 : _) : (State.rebaseTile s a2 a3).ctrl = s.ctrl := by
  unfold State.rebaseTile; simp only [State.ctrl_mk, State.ctrl_eta, State.ctrl_foldl, implies_true, State.setCell_ctrl, State.draw_ctrl, State.setStamp_ctrl]
theorem State.dialStop_ctrl (s : State) : (State.dialStop s).ctrl = s.ctrl := by
  unfold State.dialStop; simp only [State.ctrl_mk, State.ctrl_eta, State.set_ctrl]
theorem State.dialClearStart_ctrl (s : State) : (State.dialClearStart s).ctrl = s.ctrl := by
  unfold State.dialClearStart; simp only [State.ctrl_mk, State.ctrl_eta, State.set_ctrl]
theorem State.dialCommit_ctrl (s : State) : (State.dialCommit s).ctrl = s.ctrl := by
  unfold State.dialCommit; (repeat' split) <;> first | with_reducible rfl | simp only [State.ctrl_mk, State.ctrl_eta, State.set_ctrl, State.commitShadow_ctrl] | rfl
theorem State.loseDeposit_ctrl (s : State) : (State.loseDeposit s).ctrl = s.ctrl := by
  unfold State.loseDeposit; simp only [State.ctrl_mk, State.ctrl_eta, State.incSat_ctrl]
theorem State.dialClearDone_ctrl (s : State) : (State.dialClearDone s).ctrl = s.ctrl := by
  unfold State.dialClearDone
  have hz := State.zeroMem_ctrl s 0x1000000000 0x1002000000
  generalize s.zeroMem 0x1000000000 0x1002000000 = u at hz ⊢
  dsimp only
  rw [State.set_ctrl, State.set_ctrl, State.ctrl_mk, State.ctrl_eta, ← hz]
  exact State.ctrl_foldl (fun (u : State) t => u.setStamp t s.beat48) (fun u t => State.setStamp_ctrl ..) dialTiles u

theorem State.sendSlot_ctrl (s : State) (a2 : _) (a3 : _) (a4 : _) : (State.sendSlot s a2 a3 a4).ctrl = s.ctrl := by
  unfold State.sendSlot; simp only [State.ctrl_mk, State.ctrl_eta, State.emit_ctrl]
theorem State.fecCount_ctrl (s : State) (a2 : _) (a3 : _) : (State.fecCount s a2 a3).ctrl = s.ctrl := by
  unfold State.fecCount; (repeat' split) <;> first | with_reducible rfl | simp only [State.ctrl_mk, State.ctrl_eta, State.addSat_ctrl] | rfl
theorem State.sendFlit_ctrl (s : State) (a2 : _) (a3 : _) (a4 : _) (a5 : _) : (State.sendFlit s a2 a3 a4 a5).ctrl = s.ctrl := by
  unfold State.sendFlit; simp only [State.ctrl_mk, State.ctrl_eta, State.emit_ctrl]
theorem State.setSkp_ctrl (s : State) (a2 : _) (a3 : _) : (State.setSkp s a2 a3).ctrl = s.ctrl := by
  unfold State.setSkp; simp only [State.ctrl_mk, State.ctrl_eta]
theorem State.skPump_ctrl (s : State) (a2 : _) : (State.skPump s a2).ctrl = s.ctrl := by
  unfold State.skPump; simp only [State.ctrl_mk, State.ctrl_eta, State.ctrl_foldl, implies_true, State.sendFlit_ctrl, State.setSkp_ctrl, apply_ite State.ctrl, ite_self]
theorem State.skArrive_ctrl (s : State) (a2 : _) (a3 : _) : (State.skArrive s a2 a3).1.ctrl = s.ctrl := by
  unfold State.skArrive; grind only [State.ctrl_mk, State.ctrl_eta, State.fecCount_ctrl, State.incSat_ctrl, State.skPump_ctrl, State.setSkp_ctrl]
theorem State.skSend_ctrl (s : State) (a2 : _) (a3 : _) : (State.skSend s a2 a3).ctrl = s.ctrl := by
  unfold State.skSend; (repeat' split) <;> first | with_reducible rfl | simp only [State.ctrl_mk, State.ctrl_eta, State.sendFlit_ctrl, State.skPump_ctrl, State.setSkp_ctrl] | rfl
theorem State.skIdle_ctrl (s : State) (a2 : _) : (State.skIdle s a2).ctrl = s.ctrl := by
  unfold State.skIdle; simp only [State.ctrl_mk, State.ctrl_eta, State.skSend_ctrl, State.setSkp_ctrl]
theorem State.skAccept_ctrl (s : State) (a2 : _) (a3 : _) (a4 : _) : (State.skAccept s a2 a3 a4).1.ctrl = s.ctrl := by
  unfold State.skAccept; grind only [State.ctrl_mk, State.ctrl_eta, State.skArrive_ctrl, State.setSkp_ctrl, State.skIdle_ctrl]
theorem State.startAhead_ctrl (s : State) (a2 : _) : (State.startAhead s a2).1.ctrl = s.ctrl := by
  cases a2 with
  | none => exact State.set_ctrl ..
  | some d =>
    unfold State.startAhead
    dsimp only
    split
    · rfl
    · exact State.set_ctrl ..

theorem State.startDue_ctrl (s : State) (a2 : _) : (State.startDue s a2).1.ctrl = s.ctrl := by
  unfold State.startDue; simp only [State.ctrl_mk, State.ctrl_eta, State.startAhead_ctrl]
theorem State.skAdd_ctrl (s : State) (a2 : _) (a3 : _) (a4 : _) : (State.skAdd s a2 a3 a4).ctrl = s.ctrl := by
  unfold State.skAdd; simp only [State.ctrl_mk, State.ctrl_eta]
theorem State.skTree_ctrl (s : State) (a2 : _) (a3 : _) : (State.skTree s a2 a3).ctrl = s.ctrl := by
  unfold State.skTree; simp only [State.ctrl_mk, State.ctrl_eta, State.ctrl_foldl, implies_true, State.skSend_ctrl, apply_ite State.ctrl, ite_self]
theorem State.skRoute_ctrl (s : State) (a2 : _) : (State.skRoute s a2).ctrl = s.ctrl := by
  unfold State.skRoute; (repeat' split) <;> first | with_reducible rfl | simp only [State.ctrl_mk, State.ctrl_eta, State.skSend_ctrl, State.set_ctrl] | rfl
theorem State.skUnicast_ctrl (s : State) (a2 : _) (a3 : _) (a4 : _) (a5 : _) (a6 : _) (a7 : _) : (State.skUnicast s a2 a3 a4 a5 a6 a7).ctrl = s.ctrl := by
  unfold State.skUnicast; simp only [State.ctrl_mk, State.ctrl_eta, State.skRoute_ctrl]
theorem State.sendPiece_ctrl (s : State) (a2 : _) (a3 : _) (a4 : _) : (State.sendPiece s a2 a3 a4).ctrl = s.ctrl := by
  unfold State.sendPiece; simp only [State.ctrl_mk, State.ctrl_eta, State.skUnicast_ctrl]
theorem State.tagRequests_ctrl (s : State) : (State.tagRequests s).ctrl = s.ctrl := by
  unfold State.tagRequests; (try dsimp only); (repeat' split) <;> (repeat (first | rw [State.ctrl_foldl] | simp only [State.ctrl_mk, State.ctrl_eta, State.sendPiece_ctrl])) <;> (try intros) <;> (try dsimp only) <;> (repeat' split) <;> first | with_reducible rfl | simp only [State.ctrl_mk, State.ctrl_eta, State.ctrl_foldl, implies_true, State.sendPiece_ctrl, apply_ite State.ctrl, ite_self] | simp only [State.ctrl_mk, State.ctrl_eta, State.ctrl_foldl, implies_true, State.sendPiece_ctrl, apply_ite State.ctrl, ite_self, *] | rfl
theorem State.unjoin_ctrl (s : State) : (State.unjoin s).ctrl = s.ctrl := by
  unfold State.unjoin; simp only [State.ctrl_mk, State.ctrl_eta, State.ctrl_foldl, implies_true, State.set_ctrl]
theorem State.remoteStart_ctrl (s : State) (a2 : _) (a3 : _) (a4 : _) (a5 : _) (a6 : _) : (State.remoteStart s a2 a3 a4 a5 a6).ctrl = s.ctrl := by
  unfold State.remoteStart; simp only [State.ctrl_mk, State.ctrl_eta, State.tagRequests_ctrl]
theorem State.skIdles_ctrl (s : State) : (State.skIdles s).ctrl = s.ctrl := by
  unfold State.skIdles; simp only [State.ctrl_mk, State.ctrl_eta, State.ctrl_foldl, implies_true, State.skIdle_ctrl, apply_ite State.ctrl, ite_self]
theorem State.barReport_ctrl (s : State) (a2 : _) (a3 : _) (a4 : _) : (State.barReport s a2 a3 a4).ctrl = s.ctrl := by
  unfold State.barReport; simp only [State.ctrl_mk, State.ctrl_eta]
theorem State.buildRoutes_ctrl (s : State) : (State.buildRoutes s).ctrl = s.ctrl := by
  unfold State.buildRoutes; (try dsimp only); (repeat' split) <;> (repeat (first | rw [State.ctrl_foldl] | simp only [State.ctrl_mk, State.ctrl_eta, State.set_ctrl])) <;> (try intros) <;> (try dsimp only) <;> (repeat' split) <;> first | with_reducible rfl | simp only [State.ctrl_mk, State.ctrl_eta, State.ctrl_foldl, implies_true, State.set_ctrl, apply_ite State.ctrl, ite_self] | simp only [State.ctrl_mk, State.ctrl_eta, State.ctrl_foldl, implies_true, State.set_ctrl, apply_ite State.ctrl, ite_self, *] | rfl
theorem State.skForward_ctrl (s : State) (a2 : _) (a3 : _) (a4 : _) (a5 : _) : (State.skForward s a2 a3 a4 a5).ctrl = s.ctrl := by
  unfold State.skForward; (repeat' split) <;> first | with_reducible rfl | simp only [State.ctrl_mk, State.ctrl_eta, State.set_ctrl, State.skRoute_ctrl] | rfl
theorem State.stepBeats_ctrl (s : State) (a2 : _) : (State.stepBeats s a2).ctrl = s.ctrl := by
  unfold State.stepBeats; (repeat' split) <;> first | with_reducible rfl | simp only [State.ctrl_mk, State.ctrl_eta, State.ctrl_foldl, implies_true, State.setStamp_ctrl] | rfl
theorem State.winIssue_ctrl (s : State) (a2 : _) (a3 : _) (a4 : _) (a5 : _) : (State.winIssue s a2 a3 a4 a5).1.ctrl = s.ctrl := by
  unfold State.winIssue; (repeat' split) <;> first | with_reducible rfl | simp only [State.ctrl_mk, State.ctrl_eta, State.remoteStart_ctrl] | rfl
theorem State.setAx_ctrl (s : State) (a2 : _) (a3 : _) : (State.setAx s a2 a3).ctrl = s.ctrl := by
  unfold State.setAx; simp only [State.ctrl_mk, State.ctrl_eta]
theorem State.showClosed_ctrl (s : State) : (State.showClosed s).ctrl = s.ctrl := by
  unfold State.showClosed; simp only [State.ctrl_mk, State.ctrl_eta, State.set_ctrl]
theorem State.setAxState_ctrl (s : State) (a2 : _) (a3 : _) : (State.setAxState s a2 a3).ctrl = s.ctrl := by
  unfold State.setAxState; simp only [State.ctrl_mk, State.ctrl_eta, State.showClosed_ctrl, State.set_ctrl]
theorem State.axStop_ctrl (s : State) (a2 : _) (a3 : _) : (State.axStop s a2 a3).ctrl = s.ctrl := by
  unfold State.axStop; simp only [State.ctrl_mk, State.ctrl_eta, State.setAx_ctrl, State.setAxState_ctrl, State.set_ctrl]
theorem State.startMove_ctrl (s : State) (a2 : _) (a3 : _) (a4 : _) (a5 : _) (a6 : _) : (State.startMove s a2 a3 a4 a5 a6).ctrl = s.ctrl := by
  unfold State.startMove; simp only [State.ctrl_mk, State.ctrl_eta, State.set_ctrl, State.setAx_ctrl]
theorem State.axCommands_ctrl (s : State) (a2 : _) (a3 : _) (a4 : _) (a5 : _) (a6 : _) : (State.axCommands s a2 a3 a4 a5 a6).ctrl = s.ctrl := by
  unfold State.axCommands; grind only [State.ctrl_mk, State.ctrl_eta, State.axStop_ctrl, State.setAx_ctrl, State.setAxState_ctrl, State.set_ctrl, State.startMove_ctrl]
theorem State.endMove_ctrl (s : State) (a2 : _) : (State.endMove s a2).ctrl = s.ctrl := by
  unfold State.endMove; simp only [State.ctrl_mk, State.ctrl_eta, State.set_ctrl, State.setAx_ctrl]
theorem State.axTo_ctrl (s : State) (a2 : _) (a3 : _) (a4 : _) : (State.axTo s a2 a3 a4).ctrl = s.ctrl := by
  unfold State.axTo; (repeat' split) <;> first | with_reducible rfl | simp only [State.ctrl_mk, State.ctrl_eta, State.axStop_ctrl, State.setAxState_ctrl, State.setAx_ctrl, State.endMove_ctrl, State.startMove_ctrl] | rfl
theorem State.setGen_ctrl (s : State) (a2 : _) (a3 : _) : (State.setGen s a2 a3).ctrl = s.ctrl := by
  unfold State.setGen; simp only [State.ctrl_mk, State.ctrl_eta]
theorem State.genStop_ctrl (s : State) (a2 : _) : (State.genStop s a2).ctrl = s.ctrl := by
  unfold State.genStop; (repeat' split) <;> first | with_reducible rfl | simp only [State.ctrl_mk, State.ctrl_eta, State.set_ctrl, State.setGen_ctrl] | rfl
theorem State.genSample_ctrl (s : State) (a2 : _) : (State.genSample s a2).2.ctrl = s.ctrl := by
  unfold State.genSample; grind only [State.ctrl_mk, State.ctrl_eta, State.genStop_ctrl, State.setGen_ctrl, State.draw_ctrl, State.set_ctrl]
theorem State.injSample_ctrl (s : State) (a2 : _) : (State.injSample s a2).2.ctrl = s.ctrl := by
  unfold State.injSample
  suffices h : ∀ (l : List Nat) (p : InjSum × State), (l.foldl (fun (p : InjSum × State) g =>
      let (i, t) := p
      if (t.gen g).active && t.get (BAL_INJCTL_AXIS g) == a2 then
        let (v, t1) := t.genSample g
        let fr := t1.freeNext
        let i1 := { i with total := laneAdd fr i.total v, on := true }
        (match t.get (BAL_INJCTL_POINT g) with
          | 0 => { i1 with ref := laneAdd fr i.ref v }
          | 1 => { i1 with out := laneAdd fr i.out v }
          | _ => { i1 with inp := laneAdd fr i.inp v }, t1.draw)
      else p) p).2.ctrl = p.2.ctrl from h _ _
  intro l
  induction l with
  | nil => intro p; rfl
  | cons g l ih =>
    intro p
    rw [List.foldl_cons, ih]
    have hg := State.genSample_ctrl p.2 g
    dsimp only
    split
    · simpa only [State.draw_ctrl] using hg
    · rfl

theorem State.axRef_ctrl (s : State) (a2 : _) (a3 : _) (a4 : _) (a5 : _) : (State.axRef s a2 a3 a4 a5).2.ctrl = s.ctrl := by
  unfold State.axRef; grind only [State.ctrl_mk, State.ctrl_eta, State.setAx_ctrl, State.draw_ctrl, State.endMove_ctrl]
theorem State.axTrack_ctrl (s : State) (a2 : _) (a3 : _) (a4 : _) : (State.axTrack s a2 a3 a4).ctrl = s.ctrl := by
  unfold State.axTrack; grind only [State.ctrl_mk, State.ctrl_eta, State.setAx_ctrl]
theorem State.setCap_ctrl (s : State) (a2 : _) (a3 : _) : (State.setCap s a2 a3).ctrl = s.ctrl := by
  unfold State.setCap; simp only [State.ctrl_mk, State.ctrl_eta]
theorem State.capOne_ctrl (s : State) (a2 : _) (a3 : _) : (State.capOne s a2 a3).ctrl = s.ctrl := by
  unfold State.capOne; grind only [State.ctrl_mk, State.ctrl_eta, State.setCap_ctrl, State.set_ctrl, State.incSat_ctrl, State.draw_ctrl]
theorem State.capSample_ctrl (s : State) (a2 : _) (a3 : _) : (State.capSample s a2 a3).ctrl = s.ctrl := by
  unfold State.capSample; simp only [State.ctrl_mk, State.ctrl_eta, State.ctrl_foldl, implies_true, State.capOne_ctrl, apply_ite State.ctrl, ite_self]
theorem State.axDispatch_ctrl (s : State) (a2 : _) (a3 : _) (a4 : _) (a5 : _) (a6 : _) : (State.axDispatch s a2 a3 a4 a5 a6).ctrl = s.ctrl := by
  unfold State.axDispatch; grind only [State.ctrl_mk, State.ctrl_eta, State.set_ctrl, State.setAx_ctrl, State.axCommands_ctrl, State.axTo_ctrl, State.incSat_ctrl, State.injSample_ctrl, State.axRef_ctrl, State.axTrack_ctrl, State.draw_ctrl, State.capSample_ctrl]
theorem State.jobDispatch_ctrl (s : State) (a2 : _) : (State.jobDispatch s a2).ctrl = s.ctrl := by
  unfold State.jobDispatch; (repeat' split) <;> first | with_reducible rfl | simp only [State.ctrl_mk, State.ctrl_eta, State.ctrl_foldl, implies_true, State.axDispatch_ctrl] | rfl
theorem State.balWord_ctrl (s : State) (a2 : _) (a3 : _) (a4 : _) : (State.balWord s a2 a3 a4).ctrl = s.ctrl := by
  unfold State.balWord; grind only [State.ctrl_mk, State.ctrl_eta, State.setAx_ctrl, State.draw_ctrl]
theorem State.capCheck_ctrl (s : State) (a2 : _) : (State.capCheck s a2).ctrl = s.ctrl := by
  unfold State.capCheck; (repeat' split) <;> first | with_reducible rfl | simp only [State.ctrl_mk, State.ctrl_eta, State.set_ctrl] | rfl
theorem State.axFault_ctrl (s : State) (a2 : _) : (State.axFault s a2).ctrl = s.ctrl := by
  unfold State.axFault; simp only [State.ctrl_mk, State.ctrl_eta, State.axStop_ctrl]
theorem State.axWrites_ctrl (s : State) (a2 : _) (a3 : _) : (State.axWrites s a2 a3).ctrl = s.ctrl := by
  unfold State.axWrites; simp only [State.ctrl_mk, State.ctrl_eta, State.setAx_ctrl]
theorem State.resetBal_ctrl (s : State) : (State.resetBal s).ctrl = s.ctrl := by
  unfold State.resetBal; simp only [State.ctrl_mk, State.ctrl_eta, State.resetRegs_ctrl]
theorem State.swapAxis_ctrl (s : State) (a2 : _) : (State.swapAxis s a2).ctrl = s.ctrl := by
  unfold State.swapAxis; grind only [State.ctrl_mk, State.ctrl_eta, State.set_ctrl, State.setAx_ctrl]
theorem State.capTrigger_ctrl (s : State) (a2 : _) (a3 : _) : (State.capTrigger s a2 a3).ctrl = s.ctrl := by
  unfold State.capTrigger; simp only [State.ctrl_mk, State.ctrl_eta, State.ctrl_foldl, implies_true, State.capCheck_ctrl, State.set_ctrl, State.setCap_ctrl, apply_ite State.ctrl, ite_self]
theorem State.capCtl_ctrl (s : State) (a2 : _) (a3 : _) : (State.capCtl s a2 a3).ctrl = s.ctrl := by
  unfold State.capCtl; simp only [State.ctrl_mk, State.ctrl_eta, State.set_ctrl]
theorem State.capStart_ctrl (s : State) (a2 : _) (a3 : _) : (State.capStart s a2 a3).ctrl = s.ctrl := by
  unfold State.capStart; dsimp only; (repeat' split) <;> first | with_reducible rfl | simp only [State.ctrl_mk, State.ctrl_eta, State.ctrl_foldl, implies_true, State.capCtl_ctrl, State.set_ctrl, State.setCap_ctrl, State.capCheck_ctrl] | rfl
theorem State.balOp_ctrl (s : State) (a2 : _) (a3 : _) (a4 : _) : (State.balOp s a2 a3 a4).ctrl = s.ctrl := by
  unfold State.balOp; (repeat' split) <;> first | with_reducible rfl | simp only [State.ctrl_mk, State.ctrl_eta, State.balWord_ctrl] | rfl
theorem State.capStop_ctrl (s : State) (a2 : _) : (State.capStop s a2).ctrl = s.ctrl := by
  unfold State.capStop; simp only [State.ctrl_mk, State.ctrl_eta, State.set_ctrl, State.setCap_ctrl]
theorem State.injCtl_ctrl (s : State) (a2 : _) (a3 : _) : (State.injCtl s a2 a3).ctrl = s.ctrl := by
  unfold State.injCtl; simp only [State.ctrl_mk, State.ctrl_eta, State.set_ctrl]
theorem State.approachEnd_ctrl (s : State) (a2 : _) : (State.approachEnd s a2).ctrl = s.ctrl := by
  unfold State.approachEnd; (repeat' split) <;> first | with_reducible rfl | simp only [State.ctrl_mk, State.ctrl_eta, State.endMove_ctrl] | rfl
theorem State.balRest_ctrl (s : State) (a2 a3 : _) : (State.balRest s a2 a3).ctrl = s.ctrl := by
  induction a3 generalizing s with
  | zero => rfl
  | succ k ih =>
    unfold State.balRest
    split
    · split
      · rfl
      · rw [ih, State.balWord_ctrl]
    · rfl

theorem State.axCtlWrite_ctrl (s : State) (a2 : _) (a3 : _) : (State.axCtlWrite s a2 a3).ctrl = s.ctrl := by
  unfold State.axCtlWrite; (repeat' split) <;> first | with_reducible rfl | simp only [State.ctrl_mk, State.ctrl_eta, State.set_ctrl] | rfl
theorem State.injRun_ctrl (s : State) (a2 : _) (a3 : _) : (State.injRun s a2 a3).ctrl = s.ctrl := by
  unfold State.injRun; grind only [State.ctrl_mk, State.ctrl_eta, State.injCtl_ctrl, State.capTrigger_ctrl, State.set_ctrl, State.setGen_ctrl]
theorem State.headFault_ctrl (s : State) (a2 : _) : (State.headFault s a2).ctrl = s.ctrl := by
  unfold State.headFault; simp only [State.ctrl_mk, State.ctrl_eta, State.ctrl_foldl, implies_true, State.axFault_ctrl, apply_ite State.ctrl, ite_self]
theorem State.axOpen_ctrl (s : State) (a2 : _) : (State.axOpen s a2).ctrl = s.ctrl := by
  unfold State.axOpen; (repeat' split) <;> first | with_reducible rfl | simp only [State.ctrl_mk, State.ctrl_eta, State.setAx_ctrl, State.set_ctrl] | rfl
theorem State.axClose_ctrl (s : State) (a2 : _) : (State.axClose s a2).ctrl = s.ctrl := by
  unfold State.axClose; (repeat' split) <;> first | with_reducible rfl | simp only [State.ctrl_mk, State.ctrl_eta, State.setAx_ctrl, State.set_ctrl] | rfl
theorem State.injStopAll_ctrl (s : State) : (State.injStopAll s).ctrl = s.ctrl := by
  unfold State.injStopAll; simp only [State.ctrl_mk, State.ctrl_eta, State.ctrl_foldl, implies_true, State.genStop_ctrl]
theorem State.axesOff_ctrl (s : State) : (State.axesOff s).ctrl = s.ctrl := by
  unfold State.axesOff; simp only [State.ctrl_mk, State.ctrl_eta, State.ctrl_foldl, implies_true, State.axStop_ctrl, apply_ite State.ctrl, ite_self]
theorem State.swapRequest_ctrl (s : State) (a2 : _) (a3 : _) : (State.swapRequest s a2 a3).ctrl = s.ctrl := by
  unfold State.swapRequest; simp only [State.ctrl_mk, State.ctrl_eta, State.ctrl_foldl, implies_true, State.swapAxis_ctrl, apply_ite State.ctrl, ite_self]
theorem State.showLoop_ctrl (s : State) (a2 : _) (a3 : _) : (State.showLoop s a2 a3).ctrl = s.ctrl := by
  unfold State.showLoop; simp only [State.ctrl_mk, State.ctrl_eta, State.set_ctrl]
theorem State.setReg_ctrl (s : State) (a2 : _) (a3 : _) : (State.setReg s a2 a3).ctrl = s.ctrl := by
  unfold State.setReg; simp only [State.ctrl_mk, State.ctrl_eta]
theorem State.sendCode_ctrl (s : State) (a2 : _) (a3 : _) (a4 : _) : (State.sendCode s a2 a3 a4).ctrl = s.ctrl := by
  unfold State.sendCode; simp only [State.ctrl_mk, State.ctrl_eta, State.setReg_ctrl, State.setPort_ctrl, State.set_ctrl]
theorem State.regFinish_ctrl (s : State) (a2 : _) (a3 : _) (a4 : _) (a5 : _) (a6 : _) : (State.regFinish s a2 a3 a4 a5 a6).ctrl = s.ctrl := by
  unfold State.regFinish; (repeat' split) <;> first | with_reducible rfl | simp only [State.ctrl_mk, State.ctrl_eta, State.setReg_ctrl, State.set_ctrl, State.incSat_ctrl, State.showLoop_ctrl, State.sendCode_ctrl] | rfl
theorem State.numericHold_ctrl (s : State) (a2 : _) (a3 : _) (a4 : _) (a5 : _) : (State.numericHold s a2 a3 a4 a5).ctrl = s.ctrl := by
  unfold State.numericHold; simp only [State.ctrl_mk, State.ctrl_eta, State.regFinish_ctrl, State.setReg_ctrl, State.set_ctrl]
theorem State.openLaw_ctrl (s : State) (a2 : _) (a3 : _) (a4 : _) : (State.openLaw s a2 a3 a4).ctrl = s.ctrl := by
  unfold State.openLaw; grind only [State.ctrl_mk, State.ctrl_eta, State.setReg_ctrl, State.regFinish_ctrl, State.numericHold_ctrl]
theorem State.regLaw_ctrl (s : State) (a2 : _) (a3 : _) (a4 : _) : (State.regLaw s a2 a3 a4).ctrl = s.ctrl := by
  unfold State.regLaw; grind only [State.ctrl_mk, State.ctrl_eta, State.setReg_ctrl, State.set_ctrl, State.numericHold_ctrl, State.regFinish_ctrl, State.openLaw_ctrl]
theorem State.showQueue_ctrl (s : State) (a2 : _) : (State.showQueue s a2).ctrl = s.ctrl := by
  unfold State.showQueue; simp only [State.ctrl_mk, State.ctrl_eta, State.ctrl_foldl, implies_true, State.set_ctrl]
theorem State.idleLaw_ctrl (s : State) (a2 : _) (a3 : _) : (State.idleLaw s a2 a3).ctrl = s.ctrl := by
  unfold State.idleLaw; simp only [State.ctrl_mk, State.ctrl_eta, State.showLoop_ctrl, State.sendCode_ctrl, State.setReg_ctrl]
theorem State.showBkg_ctrl (s : State) (a2 : _) : (State.showBkg s a2).ctrl = s.ctrl := by
  unfold State.showBkg; simp only [State.ctrl_mk, State.ctrl_eta, State.set_ctrl]
theorem State.regTrack_ctrl (s : State) (a2 : _) (a3 : _) : (State.regTrack s a2 a3).ctrl = s.ctrl := by
  unfold State.regTrack; simp only [State.ctrl_mk, State.ctrl_eta, State.showBkg_ctrl, State.setReg_ctrl]
theorem State.popEvent_ctrl (s : State) (a2 : _) : (State.popEvent s a2).ctrl = s.ctrl := by
  unfold State.popEvent; grind only [State.ctrl_mk, State.ctrl_eta, State.showQueue_ctrl, State.setReg_ctrl]
theorem State.loopRequest_ctrl (s : State) (a2 : _) (a3 : _) : (State.loopRequest s a2 a3).ctrl = s.ctrl := by
  unfold State.loopRequest; (repeat' split) <;> first | with_reducible rfl | simp only [State.ctrl_mk, State.ctrl_eta, State.setReg_ctrl] | rfl
theorem State.checkFallback_ctrl (s : State) (a2 : _) : (State.checkFallback s a2).ctrl = s.ctrl := by
  unfold State.checkFallback; grind only [State.ctrl_mk, State.ctrl_eta, State.setReg_ctrl]
theorem State.pdTriple_ctrl (s : State) (a2 : _) (a3 : _) (a4 : _) (a5 : _) : (State.pdTriple s a2 a3 a4 a5).ctrl = s.ctrl := by
  unfold State.pdTriple; grind only [State.ctrl_mk, State.ctrl_eta, State.setReg_ctrl, State.set_ctrl]
theorem State.handBack_ctrl (s : State) (a2 : _) : (State.handBack s a2).ctrl = s.ctrl := by
  unfold State.handBack; grind only [State.ctrl_mk, State.ctrl_eta, State.showLoop_ctrl, State.setReg_ctrl]
theorem State.regProgramStart_ctrl (s : State) (a2 : _) : (State.regProgramStart s a2).ctrl = s.ctrl := by
  unfold State.regProgramStart; simp only [State.ctrl_mk, State.ctrl_eta, State.showLoop_ctrl, State.regCommit_ctrl, State.showBkg_ctrl, State.setReg_ctrl]
theorem State.resetReg_ctrl (s : State) (a2 : _) : (State.resetReg s a2).ctrl = s.ctrl := by
  unfold State.resetReg; simp only [State.ctrl_mk, State.ctrl_eta, State.resetRegs_ctrl, State.setReg_ctrl]
theorem State.stretchTick_ctrl (s : State) (a2 : _) : (State.stretchTick s a2).ctrl = s.ctrl := by
  unfold State.stretchTick; grind only [State.ctrl_mk, State.ctrl_eta, State.regCommit_ctrl, State.setReg_ctrl]
theorem State.setHl_ctrl (s : State) (a2 : _) (a3 : _) : (State.setHl s a2 a3).ctrl = s.ctrl := by
  unfold State.setHl; simp only [State.ctrl_mk, State.ctrl_eta]
theorem State.modHl_ctrl (s : State) (a2 : _) (a3 : _) : (State.modHl s a2 a3).ctrl = s.ctrl := by
  unfold State.modHl; simp only [State.ctrl_mk, State.ctrl_eta, State.setHl_ctrl]
theorem State.hlSvcSlot_ctrl (s : State) (a2 : _) (a3 : _) : (State.hlSvcSlot s a2 a3).ctrl = s.ctrl := by
  unfold State.hlSvcSlot; simp only [State.ctrl_mk, State.ctrl_eta, State.sendSlot_ctrl, State.modHl_ctrl]
theorem State.hlSvcSend_ctrl (s : State) (a2 : _) (a3 : _) : (State.hlSvcSend s a2 a3).ctrl = s.ctrl := by
  unfold State.hlSvcSend; simp only [State.ctrl_mk, State.ctrl_eta, State.hlSvcSlot_ctrl, State.modHl_ctrl]
theorem State.hlSvcPump_ctrl (s : State) (a2 : _) : (State.hlSvcPump s a2).ctrl = s.ctrl := by
  unfold State.hlSvcPump; grind only [State.ctrl_mk, State.ctrl_eta, State.hlSvcSend_ctrl, State.setHl_ctrl]
theorem State.hlSvcQueue_ctrl (s : State) (a2 : _) (a3 : _) : (State.hlSvcQueue s a2 a3).ctrl = s.ctrl := by
  unfold State.hlSvcQueue; simp only [State.ctrl_mk, State.ctrl_eta, State.hlSvcPump_ctrl, State.modHl_ctrl]
theorem State.hlExchange_ctrl (s : State) (a2 : _) : (State.hlExchange s a2).ctrl = s.ctrl := by
  unfold State.hlExchange; simp only [State.ctrl_mk, State.ctrl_eta, State.hlSvcQueue_ctrl, State.modHl_ctrl]
theorem State.hlAskL1_ctrl (s : State) (a2 : _) : (State.hlAskL1 s a2).ctrl = s.ctrl := by
  unfold State.hlAskL1; (repeat' split) <;> first | with_reducible rfl | simp only [State.ctrl_mk, State.ctrl_eta, State.hlSvcQueue_ctrl, State.modHl_ctrl] | rfl
theorem State.hlPower_ctrl (s : State) (a2 : _) (a3 : _) (a4 : _) : (State.hlPower s a2 a3 a4).ctrl = s.ctrl := by
  unfold State.hlPower; simp only [State.ctrl_mk, State.ctrl_eta, State.set_ctrl]
theorem State.hlLeaveL0_ctrl (s : State) (a2 : _) : (State.hlLeaveL0 s a2).ctrl = s.ctrl := by
  unfold State.hlLeaveL0; (repeat' split) <;> first | with_reducible rfl | simp only [State.ctrl_mk, State.ctrl_eta, State.headFault_ctrl, State.setEvents_ctrl] | rfl
theorem State.hlTo_ctrl (s : State) (a2 : _) (a3 : _) : (State.hlTo s a2 a3).ctrl = s.ctrl := by
  unfold State.hlTo; (repeat' split) <;> first | with_reducible rfl | simp only [State.ctrl_mk, State.ctrl_eta, State.hlLeaveL0_ctrl, State.set_ctrl, State.modHl_ctrl] | rfl
theorem State.hlL0Check_ctrl (s : State) (a2 : _) : (State.hlL0Check s a2).ctrl = s.ctrl := by
  unfold State.hlL0Check; grind only [State.ctrl_mk, State.ctrl_eta, State.hlPower_ctrl, State.set_ctrl, State.modHl_ctrl, State.hlTo_ctrl]
theorem State.hlTrnOut_ctrl (s : State) (a2 : _) (a3 : _) (a4 : _) : (State.hlTrnOut s a2 a3 a4).ctrl = s.ctrl := by
  unfold State.hlTrnOut; simp only [State.ctrl_mk, State.ctrl_eta, State.sendSlot_ctrl]
theorem State.hlSendTrn_ctrl (s : State) (a2 : _) : (State.hlSendTrn s a2).ctrl = s.ctrl := by
  unfold State.hlSendTrn; simp only [State.ctrl_mk, State.ctrl_eta, State.hlTrnOut_ctrl]
theorem State.hlSlotBad_ctrl (s : State) (a2 : _) (a3 : _) : (State.hlSlotBad s a2 a3).ctrl = s.ctrl := by
  unfold State.hlSlotBad; (repeat' split) <;> first | with_reducible rfl | simp only [State.ctrl_mk, State.ctrl_eta, State.incSat_ctrl, State.set_ctrl] | rfl
theorem State.hlIdle_ctrl (s : State) (a2 : _) (a3 : _) : (State.hlIdle s a2 a3).ctrl = s.ctrl := by
  unfold State.hlIdle; simp only [State.ctrl_mk, State.ctrl_eta, State.modHl_ctrl, State.set_ctrl, State.hlPower_ctrl, State.hlTo_ctrl]
theorem State.hlRateSwitch_ctrl (s : State) (a2 : _) : (State.hlRateSwitch s a2).ctrl = s.ctrl := by
  unfold State.hlRateSwitch; (repeat' split) <;> first | with_reducible rfl | simp only [State.ctrl_mk, State.ctrl_eta, State.set_ctrl, State.hlTo_ctrl] | rfl
theorem State.hlWakeDown_ctrl (s : State) (a2 : _) : (State.hlWakeDown s a2).ctrl = s.ctrl := by
  unfold State.hlWakeDown; grind only [State.ctrl_mk, State.ctrl_eta, State.set_ctrl, State.hlTo_ctrl]
theorem State.hlWake_ctrl (s : State) (a2 : _) : (State.hlWake s a2).ctrl = s.ctrl := by
  unfold State.hlWake; (repeat' split) <;> first | with_reducible rfl | simp only [State.ctrl_mk, State.ctrl_eta, State.hlWakeDown_ctrl, State.modHl_ctrl, State.hlPower_ctrl] | rfl
theorem State.hlCfgSlot_ctrl (s : State) (a2 : _) (a3 : _) : (State.hlCfgSlot s a2 a3).ctrl = s.ctrl := by
  unfold State.hlCfgSlot; simp only [State.ctrl_mk, State.ctrl_eta, State.sendSlot_ctrl, State.modHl_ctrl]
theorem State.hlCfgPump_ctrl (s : State) (a2 a3 : _) : (State.hlCfgPump s a2 a3).ctrl = s.ctrl := by
  induction a3 generalizing s with
  | zero => rfl
  | succ k ih =>
    unfold State.hlCfgPump
    dsimp only
    split
    · split
      · rfl
      · rw [ih, State.hlCfgSlot_ctrl, State.setHl_ctrl]
    · rfl

theorem State.hlTime_ctrl (s : State) (a2 : _) : (State.hlTime s a2).ctrl = s.ctrl := by
  unfold State.hlTime; simp only [State.ctrl_mk, State.ctrl_eta, State.set_ctrl, State.hlTo_ctrl, State.modHl_ctrl, State.hlExchange_ctrl, State.hlCfgPump_ctrl]
theorem State.hlEqDone_ctrl (s : State) (a2 : _) : (State.hlEqDone s a2).ctrl = s.ctrl := by
  unfold State.hlEqDone; (repeat' split) <;> first | with_reducible rfl | simp only [State.ctrl_mk, State.ctrl_eta, State.hlTime_ctrl, State.set_ctrl, State.draw_ctrl, State.hlTrnOut_ctrl] | rfl
theorem State.hlDetect_ctrl (s : State) (a2 : _) : (State.hlDetect s a2).ctrl = s.ctrl := by
  unfold State.hlDetect; simp only [State.ctrl_mk, State.ctrl_eta, State.modHl_ctrl, State.set_ctrl, State.hlPower_ctrl, State.hlTo_ctrl]
theorem State.hlTrain_ctrl (s : State) (a2 : _) : (State.hlTrain s a2).ctrl = s.ctrl := by
  unfold State.hlTrain; simp only [State.ctrl_mk, State.ctrl_eta, State.set_ctrl, State.modHl_ctrl, State.hlDetect_ctrl]
theorem State.hlEnable_ctrl (s : State) (a2 : _) : (State.hlEnable s a2).ctrl = s.ctrl := by
  unfold State.hlEnable; grind only [State.ctrl_mk, State.ctrl_eta, State.set_ctrl, State.hlTrain_ctrl]
theorem State.hlRest_ctrl (s : State) : (State.hlRest s).ctrl = s.ctrl := by
  unfold State.hlRest; simp only [State.ctrl_mk, State.ctrl_eta, State.ctrl_foldl, implies_true, State.hlPower_ctrl, State.hlTo_ctrl, State.hlIdle_ctrl, apply_ite State.ctrl, ite_self]
theorem State.hlSvcGo_ctrl (s : State) (a2 : _) (a3 : _) : (State.hlSvcGo s a2 a3).ctrl = s.ctrl := by
  unfold State.hlSvcGo; (repeat' split) <;> first | with_reducible rfl | simp only [State.ctrl_mk, State.ctrl_eta, State.set_ctrl, State.hlSvcQueue_ctrl] | rfl
theorem State.hlFclr_ctrl (s : State) (a2 : _) : (State.hlFclr s a2).ctrl = s.ctrl := by
  unfold State.hlFclr; (repeat' split) <;> first | with_reducible rfl | simp only [State.ctrl_mk, State.ctrl_eta, State.hlSvcSlot_ctrl] | rfl
theorem State.hlSvcEnd_ctrl (s : State) (a2 : _) : (State.hlSvcEnd s a2).ctrl = s.ctrl := by
  unfold State.hlSvcEnd; simp only [State.ctrl_mk, State.ctrl_eta, State.hlSvcPump_ctrl, State.modHl_ctrl]
theorem State.hlResp_ctrl (s : State) (a2 : _) (a3 : _) : (State.hlResp s a2 a3).ctrl = s.ctrl := by
  unfold State.hlResp; (repeat' split) <;> first | with_reducible rfl | simp only [State.ctrl_mk, State.ctrl_eta, State.ctrl_foldl, implies_true, State.hlSlotBad_ctrl, State.set_ctrl, State.hlSvcEnd_ctrl] | rfl
theorem State.hlRetrain_ctrl (s : State) (a2 : _) : (State.hlRetrain s a2).ctrl = s.ctrl := by
  unfold State.hlRetrain; (repeat' split) <;> first | with_reducible rfl | simp only [State.ctrl_mk, State.ctrl_eta, State.hlTrain_ctrl] | rfl
theorem State.hlL1Req_ctrl (s : State) (a2 : _) : (State.hlL1Req s a2).ctrl = s.ctrl := by
  unfold State.hlL1Req; (repeat' split) <;> first | with_reducible rfl | simp only [State.ctrl_mk, State.ctrl_eta, State.hlAskL1_ctrl] | rfl
theorem State.hlCfgSend_ctrl (s : State) (a2 : _) (a3 : _) (a4 : _) : (State.hlCfgSend s a2 a3 a4).ctrl = s.ctrl := by
  unfold State.hlCfgSend; simp only [State.ctrl_mk, State.ctrl_eta, State.hlCfgPump_ctrl, State.modHl_ctrl]
theorem State.hlPmUpdate_ctrl (s : State) (a2 : _) : (State.hlPmUpdate s a2).ctrl = s.ctrl := by
  unfold State.hlPmUpdate; grind only [State.ctrl_mk, State.ctrl_eta, State.hlCfgSend_ctrl, State.hlWakeDown_ctrl, State.modHl_ctrl]
theorem State.hlCtlWrite_ctrl (s : State) (a2 : _) (a3 : _) : (State.hlCtlWrite s a2 a3).ctrl = s.ctrl := by
  unfold State.hlCtlWrite; grind only [State.ctrl_mk, State.ctrl_eta, State.set_ctrl, State.writeFields_ctrl, State.hlEnable_ctrl, State.hlIdle_ctrl, State.hlRetrain_ctrl, State.hlWake_ctrl, State.hlL1Req_ctrl, State.hlPmUpdate_ctrl]
theorem State.hlTrainAll_ctrl (s : State) : (State.hlTrainAll s).ctrl = s.ctrl := by
  unfold State.hlTrainAll; simp only [State.ctrl_mk, State.ctrl_eta, State.ctrl_foldl, implies_true, State.hlTrain_ctrl, apply_ite State.ctrl, ite_self]
theorem State.hlAllOff_ctrl (s : State) : (State.hlAllOff s).ctrl = s.ctrl := by
  unfold State.hlAllOff; simp only [State.ctrl_mk, State.ctrl_eta, State.ctrl_foldl, implies_true, State.hlIdle_ctrl, apply_ite State.ctrl, ite_self]
theorem State.hlL0s_ctrl (s : State) (a2 : _) : (State.hlL0s s a2).ctrl = s.ctrl := by
  unfold State.hlL0s; grind only [State.ctrl_mk, State.ctrl_eta, State.set_ctrl, State.hlTo_ctrl, State.hlSvcSlot_ctrl]
theorem State.hlPmAll_ctrl (s : State) : (State.hlPmAll s).ctrl = s.ctrl := by
  unfold State.hlPmAll; simp only [State.ctrl_mk, State.ctrl_eta, State.ctrl_foldl, implies_true, State.hlPmUpdate_ctrl]
theorem State.rateWrite_ctrl (s : State) (a2 : _) : (State.rateWrite s a2).ctrl = s.ctrl := by
  unfold State.rateWrite; simp only [State.ctrl_mk, State.ctrl_eta, State.ctrl_foldl, implies_true, State.set_ctrl, State.hlTime_ctrl, apply_ite State.ctrl, ite_self]
theorem State.hlPm_ctrl (s : State) (a2 : _) (a3 : _) : (State.hlPm s a2 a3).ctrl = s.ctrl := by
  unfold State.hlPm; grind only [State.ctrl_mk, State.ctrl_eta, State.hlSlotBad_ctrl, State.set_ctrl, State.hlTo_ctrl, State.hlSvcEnd_ctrl, State.modHl_ctrl, State.hlPower_ctrl]
theorem State.hlWakeDetect_ctrl (s : State) (a2 : _) : (State.hlWakeDetect s a2).ctrl = s.ctrl := by
  unfold State.hlWakeDetect; grind only [State.ctrl_mk, State.ctrl_eta, State.set_ctrl, State.hlTo_ctrl, State.hlWake_ctrl]
theorem State.resetHl_ctrl (s : State) (a2 : _) : (State.resetHl s a2).ctrl = s.ctrl := by
  unfold State.resetHl; simp only [State.ctrl_mk, State.ctrl_eta, State.lower_ctrl, State.hlIdle_ctrl, State.resetRegs_ctrl, State.setHl_ctrl]
theorem State.hlCfgResend_ctrl (s : State) (a2 : _) : (State.hlCfgResend s a2).ctrl = s.ctrl := by
  unfold State.hlCfgResend; dsimp only; (repeat' split) <;> first | with_reducible rfl | simp only [State.ctrl_mk, State.ctrl_eta, State.ctrl_foldl, implies_true, State.hlCfgSlot_ctrl, State.setHl_ctrl] | rfl
theorem State.hlTrackTime_ctrl (s : State) (a2 : _) : (State.hlTrackTime s a2).ctrl = s.ctrl := by
  unfold State.hlTrackTime; grind only [State.ctrl_mk, State.ctrl_eta, State.hlExchange_ctrl]
theorem State.hlSvcRetry_ctrl (s : State) (a2 : _) : (State.hlSvcRetry s a2).ctrl = s.ctrl := by
  unfold State.hlSvcRetry; (repeat' split) <;> first | with_reducible rfl | simp only [State.ctrl_mk, State.ctrl_eta, State.hlSvcSend_ctrl, State.set_ctrl, State.modHl_ctrl, State.hlSvcEnd_ctrl] | rfl
theorem State.hlCfgAck_ctrl (s : State) (a2 : _) (a3 : _) : (State.hlCfgAck s a2 a3).ctrl = s.ctrl := by
  unfold State.hlCfgAck; grind only [State.ctrl_mk, State.ctrl_eta, State.hlCfgPump_ctrl, State.setHl_ctrl]
theorem State.hlEqStep_ctrl (s : State) (a2 : _) (a3 : _) : (State.hlEqStep s a2 a3).ctrl = s.ctrl := by
  unfold State.hlEqStep; grind only [State.ctrl_mk, State.ctrl_eta, State.modHl_ctrl, State.set_ctrl]
theorem State.setLpe_ctrl (s : State) (a2 : _) (a3 : _) : (State.setLpe s a2 a3).ctrl = s.ctrl := by
  unfold State.setLpe; simp only [State.ctrl_mk, State.ctrl_eta]
theorem State.lpeCtlWrite_ctrl (s : State) (a2 : _) (a3 : _) : (State.lpeCtlWrite s a2 a3).ctrl = s.ctrl := by
  unfold State.lpeCtlWrite; grind only [State.ctrl_mk, State.ctrl_eta, State.set_ctrl, State.setLpe_ctrl]
theorem State.mprPop_ctrl (s : State) (a2 : _) : (State.mprPop s a2).ctrl = s.ctrl := by
  unfold State.mprPop; (repeat' split) <;> first | with_reducible rfl | simp only [State.ctrl_mk, State.ctrl_eta, State.popEvent_ctrl] | rfl
theorem State.ctxCommit_ctrl (s : State) (a2 : _) : (State.ctxCommit s a2).ctrl = s.ctrl := by
  unfold State.ctxCommit; simp only [State.ctrl_mk, State.ctrl_eta, State.set_ctrl, State.commitShadow_ctrl]
theorem State.setCtx_ctrl (s : State) (a2 : _) (a3 : _) : (State.setCtx s a2 a3).ctrl = s.ctrl := by
  unfold State.setCtx; simp only [State.ctrl_mk, State.ctrl_eta]
theorem State.ctxLatch_ctrl (s : State) (a2 : _) : (State.ctxLatch s a2).ctrl = s.ctrl := by
  unfold State.ctxLatch; grind only [State.ctrl_mk, State.ctrl_eta, State.incWrap_ctrl, State.ctxCommit_ctrl, State.setCtx_ctrl]
theorem State.lpeCommit_ctrl (s : State) (a2 : _) : (State.lpeCommit s a2).ctrl = s.ctrl := by
  unfold State.lpeCommit; simp only [State.ctrl_mk, State.ctrl_eta, State.set_ctrl, State.commitShadow_ctrl]
theorem State.lpeBegin_ctrl (s : State) (a2 : _) (a3 : _) : (State.lpeBegin s a2 a3).ctrl = s.ctrl := by
  unfold State.lpeBegin; grind only [State.ctrl_mk, State.ctrl_eta, State.lpeCommit_ctrl, State.set_ctrl, State.incSat_ctrl, State.setLpe_ctrl, State.addSat_ctrl]
theorem State.camPulse_ctrl (s : State) (a2 : _) (a3 : _) : (State.camPulse s a2 a3).ctrl = s.ctrl := by
  unfold State.camPulse; simp only [State.ctrl_mk, State.ctrl_eta, State.drivePin_ctrl, State.setCtx_ctrl]
theorem State.camTrigger_ctrl (s : State) (a2 : _) : (State.camTrigger s a2).2.ctrl = s.ctrl := by
  unfold State.camTrigger; grind only [State.ctrl_mk, State.ctrl_eta, State.set_ctrl, State.camPulse_ctrl, State.setCtx_ctrl]
theorem State.ctxShowRate_ctrl (s : State) (a2 : _) : (State.ctxShowRate s a2).ctrl = s.ctrl := by
  unfold State.ctxShowRate; (repeat' split) <;> first | with_reducible rfl | simp only [State.ctrl_mk, State.ctrl_eta, State.set_ctrl] | rfl
theorem State.camIdle_ctrl (s : State) (a2 : _) : (State.camIdle s a2).ctrl = s.ctrl := by
  unfold State.camIdle; simp only [State.ctrl_mk, State.ctrl_eta, State.emit_ctrl]
theorem State.camEnds_ctrl (s : State) : (State.camEnds s).ctrl = s.ctrl := by
  unfold State.camEnds; simp only [State.ctrl_mk, State.ctrl_eta, State.ctrl_foldl, implies_true, State.camIdle_ctrl, apply_ite State.ctrl, ite_self]
theorem State.ctxFrameEnd_ctrl (s : State) (a2 : _) : (State.ctxFrameEnd s a2).ctrl = s.ctrl := by
  unfold State.ctxFrameEnd; grind only [State.ctrl_mk, State.ctrl_eta, State.ctxLatch_ctrl, State.setCtx_ctrl, State.set_ctrl, State.draw_ctrl]
theorem State.ctxRelease_ctrl (s : State) (a2 : _) (a3 : _) : (State.ctxRelease s a2 a3).ctrl = s.ctrl := by
  unfold State.ctxRelease; (repeat' split) <;> first | with_reducible rfl | simp only [State.ctrl_mk, State.ctrl_eta, State.set_ctrl] | rfl
theorem State.ctxCtlFields_ctrl (s : State) (a2 : _) (a3 : _) : (State.ctxCtlFields s a2 a3).ctrl = s.ctrl := by
  unfold State.ctxCtlFields; dsimp only; (repeat' split) <;> first | with_reducible rfl | simp only [State.ctrl_mk, State.ctrl_eta, State.ctrl_foldl, implies_true, State.set_ctrl] | rfl
theorem State.lpeRws_ctrl (s : State) (a2 : _) : (State.lpeRws s a2).ctrl = s.ctrl := by
  unfold State.lpeRws; (repeat' split) <;> first | with_reducible rfl | simp only [State.ctrl_mk, State.ctrl_eta, State.set_ctrl, State.lpeCommit_ctrl] | rfl
theorem State.camSoft_ctrl (s : State) (a2 : _) : (State.camSoft s a2).2.ctrl = s.ctrl := by
  unfold State.camSoft; (repeat' split) <;> first | with_reducible rfl | simp only [State.ctrl_mk, State.ctrl_eta, State.camPulse_ctrl] | rfl
theorem State.camOff_ctrl (s : State) : (State.camOff s).ctrl = s.ctrl := by
  unfold State.camOff; simp only [State.ctrl_mk, State.ctrl_eta, State.ctrl_foldl, implies_true, State.setCtx_ctrl, State.camIdle_ctrl, apply_ite State.ctrl, ite_self]
theorem State.ctxRws_ctrl (s : State) (a2 : _) : (State.ctxRws s a2).ctrl = s.ctrl := by
  unfold State.ctxRws; (repeat' split) <;> first | with_reducible rfl | simp only [State.ctrl_mk, State.ctrl_eta, State.set_ctrl, State.setCtx_ctrl, State.ctxCommit_ctrl] | rfl
theorem State.ctxCtlWrite_ctrl (s : State) (a2 : _) (a3 : _) : (State.ctxCtlWrite s a2 a3).ctrl = s.ctrl := by
  unfold State.ctxCtlWrite; grind only [State.ctrl_mk, State.ctrl_eta, State.set_ctrl, State.ctxCtlFields_ctrl, State.ctxRws_ctrl, State.ctxShowRate_ctrl, State.setCtx_ctrl, State.ctxCommit_ctrl]
theorem State.strobeBall_ctrl (s : State) : (State.strobeBall s).ctrl = s.ctrl := by
  unfold State.strobeBall; simp only [State.ctrl_mk, State.ctrl_eta, State.drivePin_ctrl]
theorem State.setIllCh_ctrl (s : State) (a2 : _) (a3 : _) : (State.setIllCh s a2 a3).ctrl = s.ctrl := by
  unfold State.setIllCh; simp only [State.ctrl_mk, State.ctrl_eta]
theorem State.illOff_ctrl (s : State) (a2 : _) : (State.illOff s a2).ctrl = s.ctrl := by
  unfold State.illOff; (repeat' split) <;> first | with_reducible rfl | simp only [State.ctrl_mk, State.ctrl_eta, State.strobeBall_ctrl, State.set_ctrl, State.setIllCh_ctrl] | rfl
theorem State.illAllOff_ctrl (s : State) : (State.illAllOff s).ctrl = s.ctrl := by
  unfold State.illAllOff; simp only [State.ctrl_mk, State.ctrl_eta, State.ctrl_foldl, implies_true, State.illOff_ctrl, State.setIllCh_ctrl]
theorem State.resetIll_ctrl (s : State) : (State.resetIll s).ctrl = s.ctrl := by
  unfold State.resetIll; simp only [State.ctrl_mk, State.ctrl_eta, State.illAllOff_ctrl, State.lower_ctrl, State.resetRegs_ctrl]
theorem State.illOn_ctrl (s : State) (a2 : _) (a3 : _) (a4 : _) : (State.illOn s a2 a3 a4).ctrl = s.ctrl := by
  unfold State.illOn; simp only [State.ctrl_mk, State.ctrl_eta, State.strobeBall_ctrl, State.set_ctrl, State.setIllCh_ctrl]
theorem State.illResume_ctrl (s : State) : (State.illResume s).ctrl = s.ctrl := by
  unfold State.illResume; simp only [State.ctrl_mk, State.ctrl_eta, State.ctrl_foldl, implies_true, State.illOn_ctrl, apply_ite State.ctrl, ite_self]
theorem State.illLevel_ctrl (s : State) (a2 : _) : (State.illLevel s a2).ctrl = s.ctrl := by
  unfold State.illLevel; simp only [State.ctrl_mk, State.ctrl_eta, State.draw_ctrl, State.setIllCh_ctrl]
theorem State.illCommit_ctrl (s : State) (a2 : _) : (State.illCommit s a2).ctrl = s.ctrl := by
  unfold State.illCommit; grind only [State.ctrl_mk, State.ctrl_eta, State.set_ctrl, State.commitShadow_ctrl, State.setIllCh_ctrl, State.illLevel_ctrl]
theorem State.illSync_ctrl (s : State) : (State.illSync s).ctrl = s.ctrl := by
  unfold State.illSync; (repeat' split) <;> first | with_reducible rfl | simp only [State.ctrl_mk, State.ctrl_eta, State.ctrl_foldl, implies_true, State.illLevel_ctrl, State.commitShadow_ctrl] | rfl
theorem State.strobeStart_ctrl (s : State) (a2 : _) : (State.strobeStart s a2).ctrl = s.ctrl := by
  unfold State.strobeStart; grind only [State.ctrl_mk, State.ctrl_eta, State.illSync_ctrl, State.setIllCh_ctrl, State.set_ctrl, State.illCommit_ctrl, State.illOff_ctrl, State.illOn_ctrl]
theorem State.illEnable_ctrl (s : State) : (State.illEnable s).ctrl = s.ctrl := by
  unfold State.illEnable; simp only [State.ctrl_mk, State.ctrl_eta, State.ctrl_foldl, implies_true, State.illResume_ctrl, State.illAllOff_ctrl, apply_ite State.ctrl, ite_self]
theorem State.pwmStart_ctrl (s : State) (a2 : _) : (State.pwmStart s a2).ctrl = s.ctrl := by
  unfold State.pwmStart; grind only [State.ctrl_mk, State.ctrl_eta, State.illSync_ctrl, State.illCommit_ctrl, State.illOff_ctrl, State.illOn_ctrl]
theorem State.illChWrite_ctrl (s : State) (a2 : _) (a3 : _) : (State.illChWrite s a2 a3).ctrl = s.ctrl := by
  unfold State.illChWrite; grind only [State.ctrl_mk, State.ctrl_eta, State.setIllCh_ctrl, State.illCommit_ctrl, State.illOff_ctrl, State.illOn_ctrl, State.set_ctrl]
theorem State.diagPulse_ctrl (s : State) (a2 : _) : (State.diagPulse s a2).ctrl = s.ctrl := by
  unfold State.diagPulse; grind only [State.ctrl_mk, State.ctrl_eta, State.illOn_ctrl]
theorem State.illTrigger_ctrl (s : State) (a2 : _) (a3 : _) : (State.illTrigger s a2 a3).ctrl = s.ctrl := by
  unfold State.illTrigger; simp only [State.ctrl_mk, State.ctrl_eta, State.ctrl_foldl, implies_true, State.setIllCh_ctrl, apply_ite State.ctrl, ite_self]
theorem State.pwmEnd_ctrl (s : State) (a2 : _) : (State.pwmEnd s a2).ctrl = s.ctrl := by
  unfold State.pwmEnd; (repeat' split) <;> first | with_reducible rfl | simp only [State.ctrl_mk, State.ctrl_eta, State.illOff_ctrl] | rfl
theorem State.neighbourTest_ctrl (s : State) : (State.neighbourTest s).ctrl = s.ctrl := by
  unfold State.neighbourTest; grind only [State.ctrl_mk, State.ctrl_eta, State.set_ctrl]
theorem State.camera_ctrl (s : State) (a2 : _) (a3 : _) : (State.camera s a2 a3).ctrl = s.ctrl := by
  unfold State.camera; grind only [State.ctrl_mk, State.ctrl_eta, State.camSoft_ctrl, State.illTrigger_ctrl, State.camTrigger_ctrl]
theorem State.illGlobalWrite_ctrl (s : State) : (State.illGlobalWrite s).ctrl = s.ctrl := by
  unfold State.illGlobalWrite; simp only [State.ctrl_mk, State.ctrl_eta]
theorem State.strobeEnd_ctrl (s : State) (a2 : _) : (State.strobeEnd s a2).ctrl = s.ctrl := by
  unfold State.strobeEnd; (repeat' split) <;> first | with_reducible rfl | simp only [State.ctrl_mk, State.ctrl_eta, State.illOff_ctrl] | rfl
theorem State.setMotState_ctrl (s : State) (a2 : _) (a3 : _) : (State.setMotState s a2 a3).ctrl = s.ctrl := by
  unfold State.setMotState; simp only [State.ctrl_mk, State.ctrl_eta, State.set_ctrl]
theorem State.setMx_ctrl (s : State) (a2 : _) (a3 : _) : (State.setMx s a2 a3).ctrl = s.ctrl := by
  unfold State.setMx; simp only [State.ctrl_mk, State.ctrl_eta]
theorem State.motPlan_ctrl (s : State) (a2 : _) (a3 : _) (a4 : _) : (State.motPlan s a2 a3 a4).ctrl = s.ctrl := by
  unfold State.motPlan; simp only [State.ctrl_mk, State.ctrl_eta, State.setMx_ctrl]
theorem State.motStop_ctrl (s : State) (a2 : _) : (State.motStop s a2).ctrl = s.ctrl := by
  unfold State.motStop; (repeat' split) <;> first | with_reducible rfl | simp only [State.ctrl_mk, State.ctrl_eta, State.set_ctrl, State.setMotState_ctrl, State.motPlan_ctrl] | rfl
theorem State.motShow_ctrl (s : State) (a2 : _) : (State.motShow s a2).ctrl = s.ctrl := by
  unfold State.motShow; simp only [State.ctrl_mk, State.ctrl_eta, State.set_ctrl]
theorem State.motOff_ctrl (s : State) (a2 : _) : (State.motOff s a2).ctrl = s.ctrl := by
  unfold State.motOff; (repeat' split) <;> first | with_reducible rfl | simp only [State.ctrl_mk, State.ctrl_eta, State.set_ctrl, State.setMotState_ctrl, State.setMx_ctrl, State.motShow_ctrl] | rfl
theorem State.motAllOff_ctrl (s : State) : (State.motAllOff s).ctrl = s.ctrl := by
  unfold State.motAllOff; simp only [State.ctrl_mk, State.ctrl_eta, State.ctrl_foldl, implies_true, State.motOff_ctrl]
theorem State.motMode_ctrl (s : State) : (State.motMode s).ctrl = s.ctrl := by
  unfold State.motMode; dsimp only; (repeat' split) <;> first | with_reducible rfl | simp only [State.ctrl_mk, State.ctrl_eta, State.ctrl_foldl, implies_true, State.motAllOff_ctrl, State.motStop_ctrl] | rfl
theorem State.homeHalt_ctrl (s : State) (a2 : _) : (State.homeHalt s a2).ctrl = s.ctrl := by
  unfold State.homeHalt; simp only [State.ctrl_mk, State.ctrl_eta, State.motPlan_ctrl, State.setMx_ctrl]
theorem State.homeLatch_ctrl (s : State) (a2 : _) : (State.homeLatch s a2).ctrl = s.ctrl := by
  unfold State.homeLatch; simp only [State.ctrl_mk, State.ctrl_eta, State.homeHalt_ctrl, State.setMx_ctrl, State.set_ctrl]
theorem State.homeEdge_ctrl (s : State) (a2 : _) (a3 : _) : (State.homeEdge s a2 a3).ctrl = s.ctrl := by
  unfold State.homeEdge; grind only [State.ctrl_mk, State.ctrl_eta, State.homeHalt_ctrl, State.setMx_ctrl, State.homeLatch_ctrl]
theorem State.motSoft_ctrl (s : State) (a2 : _) : (State.motSoft s a2).ctrl = s.ctrl := by
  unfold State.motSoft; grind only [State.ctrl_mk, State.ctrl_eta, State.setMotState_ctrl, State.motPlan_ctrl]
theorem State.motGo_ctrl (s : State) (a2 : _) (a3 : _) : (State.motGo s a2 a3).ctrl = s.ctrl := by
  unfold State.motGo; grind only [State.ctrl_mk, State.ctrl_eta, State.motPlan_ctrl]
theorem State.homePhase_ctrl (s : State) (a2 : _) (a3 : _) : (State.homePhase s a2 a3).ctrl = s.ctrl := by
  unfold State.homePhase; simp only [State.ctrl_mk, State.ctrl_eta, State.setMx_ctrl, State.motGo_ctrl, State.set_ctrl]
theorem State.homeNext_ctrl (s : State) (a2 : _) : (State.homeNext s a2).ctrl = s.ctrl := by
  unfold State.homeNext; (repeat' split) <;> first | with_reducible rfl | simp only [State.ctrl_mk, State.ctrl_eta, State.homePhase_ctrl, State.set_ctrl, State.setMotState_ctrl] | rfl
theorem State.motOn_ctrl (s : State) (a2 : _) : (State.motOn s a2).ctrl = s.ctrl := by
  unfold State.motOn; (repeat' split) <;> first | with_reducible rfl | simp only [State.ctrl_mk, State.ctrl_eta, State.setMotState_ctrl, State.setMx_ctrl] | rfl
theorem State.motRetarget_ctrl (s : State) (a2 : _) (a3 : _) : (State.motRetarget s a2 a3).ctrl = s.ctrl := by
  unfold State.motRetarget; grind only [State.ctrl_mk, State.ctrl_eta, State.setMx_ctrl, State.motGo_ctrl]
theorem State.motRes_ctrl (s : State) (a2 : _) (a3 : _) (a4 : _) : (State.motRes s a2 a3 a4).ctrl = s.ctrl := by
  unfold State.motRes; grind only [State.ctrl_mk, State.ctrl_eta, State.set_ctrl]
theorem State.loadAngle_ctrl (s : State) (a2 : _) (a3 : _) : (State.loadAngle s a2 a3).ctrl = s.ctrl := by
  unfold State.loadAngle; (repeat' split) <;> first | with_reducible rfl | simp only [State.ctrl_mk, State.ctrl_eta, State.set_ctrl, State.setMx_ctrl] | rfl
theorem State.setEn_ctrl (s : State) (a2 : _) (a3 : _) : (State.setEn s a2 a3).ctrl = s.ctrl := by
  unfold State.setEn; simp only [State.ctrl_mk, State.ctrl_eta]
theorem State.encSpeed_ctrl (s : State) (a2 : _) : (State.encSpeed s a2).ctrl = s.ctrl := by
  unfold State.encSpeed; grind only [State.ctrl_mk, State.ctrl_eta, State.set_ctrl, State.setEn_ctrl]
theorem State.motArrived_ctrl (s : State) (a2 : _) : (State.motArrived s a2).ctrl = s.ctrl := by
  unfold State.motArrived; grind only [State.ctrl_mk, State.ctrl_eta, State.setMx_ctrl, State.motGo_ctrl, State.homeNext_ctrl, State.setMotState_ctrl]
theorem State.resetMot_ctrl (s : State) : (State.resetMot s).ctrl = s.ctrl := by
  unfold State.resetMot; simp only [State.ctrl_mk, State.ctrl_eta, State.motAllOff_ctrl, State.resetRegs_ctrl]
theorem State.resetEnc_ctrl (s : State) : (State.resetEnc s).ctrl = s.ctrl := by
  unfold State.resetEnc; simp only [State.ctrl_mk, State.ctrl_eta, State.resetRegs_ctrl]
theorem State.motCurrent_ctrl (s : State) (a2 : _) : (State.motCurrent s a2).ctrl = s.ctrl := by
  unfold State.motCurrent; simp only [State.ctrl_mk, State.ctrl_eta, State.set_ctrl, State.setMx_ctrl]
theorem State.motAdvance_ctrl (s : State) (a2 : _) : (State.motAdvance s a2).ctrl = s.ctrl := by
  unfold State.motAdvance; grind only [State.ctrl_mk, State.ctrl_eta, State.setMx_ctrl]
theorem State.motUpdate_ctrl (s : State) (a2 : _) : (State.motUpdate s a2).ctrl = s.ctrl := by
  unfold State.motUpdate; grind only [State.ctrl_mk, State.ctrl_eta, State.setMx_ctrl, State.motCurrent_ctrl, State.motAdvance_ctrl, State.motSoft_ctrl, State.motRes_ctrl, State.homeHalt_ctrl, State.motArrived_ctrl, State.motShow_ctrl]
theorem State.motStamp_ctrl (s : State) (a2 : _) (a3 : _) (a4 : _) (a5 : _) : (State.motStamp s a2 a3 a4 a5).ctrl = s.ctrl := by
  unfold State.motStamp; (repeat' split) <;> first | with_reducible rfl | simp only [State.ctrl_mk, State.ctrl_eta, State.set_ctrl, State.setMx_ctrl] | rfl
theorem State.motCtlWrite_ctrl (s : State) (a2 : _) (a3 : _) : (State.motCtlWrite s a2 a3).ctrl = s.ctrl := by
  unfold State.motCtlWrite; grind only [State.ctrl_mk, State.ctrl_eta, State.motOff_ctrl, State.set_ctrl, State.writeFields_ctrl, State.motOn_ctrl]
theorem State.encPass_ctrl (s : State) (a2 : _) (a3 : _) (a4 : _) : (State.encPass s a2 a3 a4).ctrl = s.ctrl := by
  unfold State.encPass; (repeat' split) <;> first | with_reducible rfl | simp only [State.ctrl_mk, State.ctrl_eta, State.drivePin_ctrl] | rfl
theorem State.barrierRelock_ctrl (s : State) : (State.barrierRelock s).ctrl = s.ctrl := by
  unfold State.barrierRelock; (try dsimp only); (repeat' split) <;> (repeat (first | rw [State.ctrl_foldl] | simp only [State.ctrl_mk, State.ctrl_eta, State.setMx_ctrl, State.lower_ctrl])) <;> (try intros) <;> (try dsimp only) <;> (repeat' split) <;> first | with_reducible rfl | simp only [State.ctrl_mk, State.ctrl_eta, State.ctrl_foldl, implies_true, State.setMx_ctrl, State.lower_ctrl, apply_ite State.ctrl, ite_self] | simp only [State.ctrl_mk, State.ctrl_eta, State.ctrl_foldl, implies_true, State.setMx_ctrl, State.lower_ctrl, apply_ite State.ctrl, ite_self, *] | rfl
theorem State.encWrite_ctrl (s : State) (a2 : _) (a3 : _) : (State.encWrite s a2 a3).ctrl = s.ctrl := by
  unfold State.encWrite; (repeat' split) <;> first | with_reducible rfl | simp only [State.ctrl_mk, State.ctrl_eta, State.set_ctrl, State.setEn_ctrl] | rfl
theorem State.coilPeriod_ctrl (s : State) (a2 : _) : (State.coilPeriod s a2).ctrl = s.ctrl := by
  unfold State.coilPeriod; grind only [State.ctrl_mk, State.ctrl_eta, State.draw_ctrl, State.set_ctrl, State.setMx_ctrl]
theorem State.encCtlWrite_ctrl (s : State) (a2 : _) (a3 : _) : (State.encCtlWrite s a2 a3).ctrl = s.ctrl := by
  unfold State.encCtlWrite; grind only [State.ctrl_mk, State.ctrl_eta, State.writeFields_ctrl, State.setEn_ctrl, State.set_ctrl]
theorem State.chrUsable_ctrl (s : State) : (State.chrUsable s).ctrl = s.ctrl := by
  unfold State.chrUsable; simp only [State.ctrl_mk, State.ctrl_eta, State.set_ctrl]
theorem State.nvWriteErr_ctrl (s : State) : (State.nvWriteErr s).ctrl = s.ctrl := by
  unfold State.nvWriteErr; simp only [State.ctrl_mk, State.ctrl_eta, State.set_ctrl, State.incSat_ctrl]
theorem State.chrAdvance_ctrl (s : State) (a2 : _) : (State.chrAdvance s a2).ctrl = s.ctrl := by
  unfold State.chrAdvance; (repeat' split) <;> first | with_reducible rfl | simp only [State.ctrl_mk, State.ctrl_eta, State.set_ctrl] | rfl
theorem State.nvFree_ctrl (s : State) (a2 a3 : _) : (State.nvFree s a2 a3).ctrl = s.ctrl := by
  induction a3 generalizing s a2 with
  | zero => rfl
  | succ k ih => unfold State.nvFree; exact (ih _ _).trans ((State.draw_ctrl _).trans (State.nvStore_ctrl ..))

theorem State.setTrim_ctrl (s : State) (a2 : _) (a3 : _) : (State.setTrim s a2 a3).ctrl = s.ctrl := by
  unfold State.setTrim; (repeat' split) <;> first | with_reducible rfl | simp only [State.ctrl_mk, State.ctrl_eta, State.set_ctrl] | rfl
theorem State.calPass_ctrl (s : State) : (State.calPass s).ctrl = s.ctrl := by
  unfold State.calPass; (repeat' split) <;> first | with_reducible rfl | simp only [State.ctrl_mk, State.ctrl_eta] | rfl
theorem State.calOver_ctrl (s : State) : (State.calOver s).ctrl = s.ctrl := by
  unfold State.calOver; simp only [State.ctrl_mk, State.ctrl_eta, State.set_ctrl]
theorem State.calTimeout_ctrl (s : State) : (State.calTimeout s).ctrl = s.ctrl := by
  unfold State.calTimeout; (repeat' split) <;> first | with_reducible rfl | simp only [State.ctrl_mk, State.ctrl_eta, State.incSat_ctrl, State.calOver_ctrl] | rfl
theorem State.setGskew_ctrl (s : State) (a2 : _) (a3 : _) : (State.setGskew s a2 a3).ctrl = s.ctrl := by
  unfold State.setGskew; simp only [State.ctrl_mk, State.ctrl_eta, State.set_ctrl]
theorem State.setTrims_ctrl (s : State) (f h : _) : (State.setTrims s f h).ctrl = s.ctrl := by
  unfold State.setTrims
  rw [State.ctrl_foldl _ (fun t k => State.setGskew_ctrl t k _), State.ctrl_foldl _ (fun t k => State.setTrim_ctrl t k _)]

theorem State.trimUse_ctrl (s : State) (a2 : _) : (State.trimUse s a2).ctrl = s.ctrl := by
  unfold State.trimUse; grind only [State.ctrl_mk, State.ctrl_eta, State.setTrims_ctrl, State.set_ctrl]
theorem State.trimCut_ctrl (s : State) : (State.trimCut s).ctrl = s.ctrl := by
  unfold State.trimCut; dsimp only; (repeat' split) <;> first | with_reducible rfl | simp only [State.ctrl_mk, State.ctrl_eta, State.ctrl_foldl, implies_true, State.draw_ctrl, State.nvStore_ctrl] | rfl
theorem State.trimSave_ctrl (s : State) : (State.trimSave s).ctrl = s.ctrl := by
  unfold State.trimSave; (repeat' split) <;> first | with_reducible rfl | simp only [State.ctrl_mk, State.ctrl_eta, State.set_ctrl] | rfl
theorem State.calGap_ctrl (s : State) : (State.calGap s).ctrl = s.ctrl := by
  unfold State.calGap; (repeat' split) <;> first | with_reducible rfl | simp only [State.ctrl_mk, State.ctrl_eta] | rfl
theorem State.calStart_ctrl (s : State) : (State.calStart s).ctrl = s.ctrl := by
  unfold State.calStart; grind only [State.ctrl_mk, State.ctrl_eta, State.calGap_ctrl, State.calPass_ctrl, State.set_ctrl]
theorem State.calEnter_ctrl (s : State) : (State.calEnter s).ctrl = s.ctrl := by
  unfold State.calEnter; simp only [State.ctrl_mk, State.ctrl_eta]
theorem State.resetCal_ctrl (s : State) : (State.resetCal s).ctrl = s.ctrl := by
  unfold State.resetCal; simp only [State.ctrl_mk, State.ctrl_eta, State.trimCut_ctrl, State.calAbort_ctrl, State.resetRegs_ctrl]
theorem State.trimCommit_ctrl (s : State) : (State.trimCommit s).ctrl = s.ctrl := by
  unfold State.trimCommit; simp only [State.ctrl_mk, State.ctrl_eta, State.trimUse_ctrl]
theorem State.calRestart_ctrl (s : State) : (State.calRestart s).ctrl = s.ctrl := by
  unfold State.calRestart; (repeat' split) <;> first | with_reducible rfl | simp only [State.ctrl_mk, State.ctrl_eta] | rfl
theorem State.portReturn_ctrl (s : State) (a2 : _) : (State.portReturn s a2).ctrl = s.ctrl := by
  unfold State.portReturn; (repeat' split) <;> first | with_reducible rfl | simp only [State.ctrl_mk, State.ctrl_eta, State.setPort_ctrl] | rfl
theorem State.makeDeposit_ctrl (s : State) (a2 : _) (a3 : _) (a4 : _) (a5 : _) (a6 : _) (a7 : _) : (State.makeDeposit s a2 a3 a4 a5 a6 a7).ctrl = s.ctrl := by
  unfold State.makeDeposit; (repeat' split) <;> first | with_reducible rfl | simp only [State.ctrl_mk, State.ctrl_eta] | rfl
theorem State.portReturns_ctrl (s : State) : (State.portReturns s).ctrl = s.ctrl := by
  unfold State.portReturns; simp only [State.ctrl_mk, State.ctrl_eta, State.ctrl_foldl, implies_true, State.portReturn_ctrl]
theorem State.startEsc_ctrl (s : State) (a2 : _) : (State.startEsc s a2).ctrl = s.ctrl := by
  unfold State.startEsc; simp only [State.ctrl_mk, State.ctrl_eta, State.regProgramStart_ctrl, State.programStart_ctrl]
theorem State.setZNCV_ctrl (s : State) (a2 : _) (a3 : _) (a4 : _) (a5 : _) (a6 : _) : (State.setZNCV s a2 a3 a4 a5 a6).ctrl = s.ctrl := by
  unfold State.setZNCV; simp only [State.ctrl_mk, State.ctrl_eta, State.set_ctrl]
theorem State.floatFlags_ctrl (s : State) (a2 : _) (a3 : _) : (State.floatFlags s a2 a3).ctrl = s.ctrl := by
  unfold State.floatFlags; simp only [State.ctrl_mk, State.ctrl_eta, State.setZNCV_ctrl]
theorem State.intFlags_ctrl (s : State) (a2 : _) (a3 : _) (a4 : _) (a5 : _) : (State.intFlags s a2 a3 a4 a5).ctrl = s.ctrl := by
  unfold State.intFlags; simp only [State.ctrl_mk, State.ctrl_eta, State.setZNCV_ctrl]
theorem State.setSw_ctrl (s : State) (a2 : _) (a3 : _) : (State.setSw s a2 a3).ctrl = s.ctrl := by
  unfold State.setSw; simp only [State.ctrl_mk, State.ctrl_eta, State.ctrl_foldl, implies_true, State.set_ctrl]
theorem State.noteIssue_ctrl (s : State) (a2 : _) (a3 : _) (a4 : _) : (State.noteIssue s a2 a3 a4).ctrl = s.ctrl := by
  unfold State.noteIssue; simp only [State.ctrl_mk, State.ctrl_eta, State.modEsc_ctrl]
theorem State.setBar_ctrl (s : State) (a2 : _) (a3 : _) : (State.setBar s a2 a3).ctrl = s.ctrl := by
  unfold State.setBar; simp only [State.ctrl_mk, State.ctrl_eta]
theorem State.barRelease_ctrl (s : State) (a2 : _) : (State.barRelease s a2).ctrl = s.ctrl := by
  unfold State.barRelease; simp only [State.ctrl_mk, State.ctrl_eta, State.ctrl_foldl, implies_true, State.endWait_ctrl, State.setBar_ctrl]
theorem State.issueWait_ctrl (s : State) (a2 : _) (a3 : _) (a4 : _) (a5 : _) (a6 : _) : (State.issueWait s a2 a3 a4 a5 a6).ctrl = s.ctrl := by
  unfold State.issueWait; simp only [State.ctrl_mk, State.ctrl_eta, State.setEscState_ctrl, State.modEsc_ctrl, State.setPc_ctrl]
theorem State.floatCheck_ctrl (s : State) (a2 : _) : (State.floatCheck s a2).ctrl = s.ctrl := by
  unfold State.floatCheck; (repeat' split) <;> first | with_reducible rfl | simp only [State.ctrl_mk, State.ctrl_eta, State.endWait_ctrl, State.set_ctrl, State.setG_ctrl, State.modEsc_ctrl] | rfl
theorem State.cmdErr_ctrl (s : State) (a2 : _) : (State.cmdErr s a2).ctrl = s.ctrl := by
  unfold State.cmdErr; simp only [State.ctrl_mk, State.ctrl_eta, State.set_ctrl]
theorem State.forMask_ctrl (s : State) (a2 : _) (f : State → Nat → State) (h : ∀ t n, (f t n).ctrl = t.ctrl) :
    (State.forMask s a2 f).ctrl = s.ctrl := by
  unfold State.forMask
  refine State.ctrl_foldl _ (fun t n => ?_) _ _
  split
  · exact h t n
  · rfl

theorem State.evFire_ctrl (s : State) (a2 : _) : (State.evFire s a2).ctrl = s.ctrl := by
  unfold State.evFire; simp only [State.ctrl_mk, State.ctrl_eta, State.ctrl_foldl, implies_true, State.forMask_ctrl, State.setEvents_ctrl]
theorem State.reissue_ctrl (s : State) (a2 : _) : (State.reissue s a2).ctrl = s.ctrl := by
  unfold State.reissue; simp only [State.ctrl_mk, State.ctrl_eta, State.resumeIssue_ctrl, State.modEsc_ctrl, State.setPc_ctrl, State.breakStretch_ctrl]
theorem State.resumeCmd_ctrl (s : State) (a2 : _) : (State.resumeCmd s a2).ctrl = s.ctrl := by
  unfold State.resumeCmd; grind only [State.ctrl_mk, State.ctrl_eta, State.cmdErr_ctrl, State.reissue_ctrl]
theorem State.stepCmd_ctrl (s : State) (a2 : _) : (State.stepCmd s a2).ctrl = s.ctrl := by
  unfold State.stepCmd; grind only [State.ctrl_mk, State.ctrl_eta, State.cmdErr_ctrl, State.startEsc_ctrl, State.setEscState_ctrl, State.modEsc_ctrl, State.setPc_ctrl, State.reissue_ctrl]
theorem State.flushCmd_ctrl (s : State) (a2 : _) : (State.flushCmd s a2).ctrl = s.ctrl := by
  unfold State.flushCmd; (repeat' split) <;> first | with_reducible rfl | simp only [State.ctrl_mk, State.ctrl_eta, State.flushBuf_ctrl, State.cmdErr_ctrl] | rfl
theorem State.prefetchDone_ctrl (s : State) (a2 : _) : (State.prefetchDone s a2).ctrl = s.ctrl := by
  unfold State.prefetchDone; (repeat' split) <;> first | with_reducible rfl | simp only [State.ctrl_mk, State.ctrl_eta, State.setEscState_ctrl] | rfl
theorem State.devRelease_ctrl (s : State) (a2 : _) : (State.devRelease s a2).ctrl = s.ctrl := by
  unfold State.devRelease; (repeat' split) <;> first | with_reducible rfl | simp only [State.ctrl_mk, State.ctrl_eta, State.barRelease_ctrl] | rfl
theorem State.startEnter_ctrl (p : State × Nat) : (State.startEnter p).ctrl = p.1.ctrl := rfl

theorem State.startCommand_ctrl (s : State) : (State.startCommand s).ctrl = s.ctrl := by
  unfold State.startCommand
  split
  · exact State.set_ctrl ..
  · rw [State.startEnter_ctrl, State.startDue_ctrl]

theorem State.rebaseCmd_ctrl (s : State) : (State.rebaseCmd s).ctrl = s.ctrl := by
  unfold State.rebaseCmd; (repeat' split) <;> first | with_reducible rfl | simp only [State.ctrl_mk, State.ctrl_eta, State.set_ctrl] | rfl
theorem State.clearCmd_ctrl (s : State) : (State.clearCmd s).ctrl = s.ctrl := by
  unfold State.clearCmd; (repeat' split) <;> first | with_reducible rfl | simp only [State.ctrl_mk, State.ctrl_eta, State.dialClearStart_ctrl, State.set_ctrl] | rfl
theorem State.ddepFlush_ctrl (s : State) (a2 : _) : (State.ddepFlush s a2).ctrl = s.ctrl := by
  unfold State.ddepFlush; grind only [State.ctrl_mk, State.ctrl_eta, State.skUnicast_ctrl, State.set_ctrl]
theorem State.brgCommit_ctrl (s : State) : (State.brgCommit s).ctrl = s.ctrl := by
  unfold State.brgCommit; (repeat' split) <;> first | with_reducible rfl | simp only [State.ctrl_mk, State.ctrl_eta, State.set_ctrl, State.commitShadow_ctrl] | rfl
theorem State.pieceOver_ctrl (s : State) (a2 : _) (a3 : _) : (State.pieceOver s a2 a3).ctrl = s.ctrl := by
  unfold State.pieceOver; simp only [State.ctrl_mk, State.ctrl_eta, State.floatCheck_ctrl, State.modEsc_ctrl]
theorem State.lateRecord_ctrl (s : State) (a2 : _) (a3 : _) : (State.lateRecord s a2 a3).ctrl = s.ctrl := by
  unfold State.lateRecord; grind only [State.ctrl_mk, State.ctrl_eta, State.incSat_ctrl, State.addSat_ctrl]
theorem State.enqueuePiece_ctrl (s : State) (a2 : _) (a3 : _) (a4 : _) (a5 : _) (a6 : _) (a7 : _) (a8 : _) (a9 : _) (a10 : _) (a11 : _) (a12 : _) : (State.enqueuePiece s a2 a3 a4 a5 a6 a7 a8 a9 a10 a11 a12).ctrl = s.ctrl := by
  unfold State.enqueuePiece; simp only [State.ctrl_mk, State.ctrl_eta, State.lateRecord_ctrl, State.setPxyz_ctrl, State.setQueue_ctrl, State.setEsc_ctrl]
theorem State.recordPiece_ctrl (s : State) (a2 : _) (a3 : _) (a4 : _) (a5 : _) (a6 : _) : (State.recordPiece s a2 a3 a4 a5 a6).ctrl = s.ctrl := by
  unfold State.recordPiece; grind only [State.ctrl_mk, State.ctrl_eta, State.pieceOver_ctrl, State.enqueuePiece_ctrl]
theorem State.claimGrant_ctrl (s : State) (a2 : _) : (State.claimGrant s a2).ctrl = s.ctrl := by
  unfold State.claimGrant; (repeat' split) <;> first | with_reducible rfl | simp only [State.ctrl_mk, State.ctrl_eta, State.grantZone_ctrl, State.setZoneQueue_ctrl] | rfl
theorem State.bridgeClear_ctrl (s : State) : (State.bridgeClear s).ctrl = s.ctrl := by
  unfold State.bridgeClear; simp only [State.ctrl_mk, State.ctrl_eta, State.releaseEveryZone_ctrl]
theorem State.bridgeDraw_ctrl (s : State) (a2 : _) : (State.bridgeDraw s a2).ctrl = s.ctrl := by
  unfold State.bridgeDraw; grind only [State.ctrl_mk, State.ctrl_eta, State.floatCheck_ctrl, State.setEsc_ctrl, State.set_ctrl]
theorem State.claimJoin_ctrl (s : State) (a2 : _) : (State.claimJoin s a2).ctrl = s.ctrl := by
  unfold State.claimJoin; (repeat' split) <;> first | with_reducible rfl | simp only [State.ctrl_mk, State.ctrl_eta, State.setZoneQueue_ctrl] | rfl
theorem State.claimRefuse_ctrl (s : State) (a2 : _) : (State.claimRefuse s a2).ctrl = s.ctrl := by
  unfold State.claimRefuse; (repeat' split) <;> first | with_reducible rfl | simp only [State.ctrl_mk, State.ctrl_eta, State.endWait_ctrl, State.set_ctrl, State.leaveClaims_ctrl] | rfl
theorem State.bridgeGrants_ctrl (s : State) (a2 : _) : (State.bridgeGrants s a2).ctrl = s.ctrl := by
  unfold State.bridgeGrants; simp only [State.ctrl_mk, State.ctrl_eta, State.ctrl_foldl, implies_true, State.claimRefuse_ctrl, State.claimGrant_ctrl, State.claimJoin_ctrl]
theorem State.bridgeArm_ctrl (s : State) : (State.bridgeArm s).ctrl = s.ctrl := by
  unfold State.bridgeArm; dsimp only; (repeat' split) <;> first | with_reducible rfl | simp only [State.ctrl_mk, State.ctrl_eta, State.ctrl_foldl, implies_true, State.set_ctrl] | rfl
theorem State.expireResv_ctrl (s : State) (a2 : _) : (State.expireResv s a2).ctrl = s.ctrl := by
  unfold State.expireResv; grind only [State.ctrl_mk, State.ctrl_eta, State.setEsc_ctrl]
theorem State.bridgeReleases_ctrl (s : State) : (State.bridgeReleases s).ctrl = s.ctrl := by
  unfold State.bridgeReleases; simp only [State.ctrl_mk, State.ctrl_eta, State.ctrl_foldl, implies_true, State.breakStretch_ctrl, State.releaseZone_ctrl, State.expireResv_ctrl, apply_ite State.ctrl, ite_self]
theorem State.joinStart_ctrl (s : State) : (State.joinStart s).ctrl = s.ctrl := by
  unfold State.joinStart; simp only [State.ctrl_mk, State.ctrl_eta, State.unjoin_ctrl, State.set_ctrl]
theorem State.elect_ctrl (s : State) : (State.elect s).ctrl = s.ctrl := by
  unfold State.elect; (repeat' split) <;> first | with_reducible rfl | simp only [State.ctrl_mk, State.ctrl_eta, State.ctrl_foldl, implies_true, State.set_ctrl] | rfl
theorem State.showInJoin_ctrl (s : State) : (State.showInJoin s).ctrl = s.ctrl := by
  unfold State.showInJoin; simp only [State.ctrl_mk, State.ctrl_eta, State.ctrl_foldl, implies_true, State.set_ctrl]
theorem State.helloSend_ctrl (s : State) : (State.helloSend s).ctrl = s.ctrl := by
  unfold State.helloSend; simp only [State.ctrl_mk, State.ctrl_eta, State.ctrl_foldl, implies_true, State.elect_ctrl, State.showInJoin_ctrl, State.skSend_ctrl, apply_ite State.ctrl, ite_self]
theorem State.skIdleArrive_ctrl (s : State) (a2 : _) (a3 : _) : (State.skIdleArrive s a2 a3).ctrl = s.ctrl := by
  unfold State.skIdleArrive; grind only [State.ctrl_mk, State.ctrl_eta, State.skArrive_ctrl, State.skPump_ctrl, State.setSkp_ctrl]
theorem State.collect_ctrl (s : State) (a2 : _) (a3 : _) (a4 : _) (a5 : _) : (State.collect s a2 a3 a4 a5).ctrl = s.ctrl := by
  unfold State.collect; simp only [State.ctrl_mk, State.ctrl_eta]
theorem State.topoSend_ctrl (s : State) : (State.topoSend s).ctrl = s.ctrl := by
  unfold State.topoSend; (repeat' split) <;> first | with_reducible rfl | simp only [State.ctrl_mk, State.ctrl_eta, State.set_ctrl, State.collect_ctrl, State.skSend_ctrl] | rfl
theorem State.skTrain_ctrl (s : State) (a2 : _) : (State.skTrain s a2).ctrl = s.ctrl := by
  unfold State.skTrain; simp only [State.ctrl_mk, State.ctrl_eta, State.set_ctrl, State.setSkp_ctrl]
theorem State.skHello_ctrl (s : State) (a2 : _) (a3 : _) (a4 : _) : (State.skHello s a2 a3 a4).ctrl = s.ctrl := by
  unfold State.skHello; grind only [State.ctrl_mk, State.ctrl_eta, State.skArrive_ctrl, State.elect_ctrl, State.showInJoin_ctrl, State.set_ctrl, State.setSkp_ctrl]
theorem State.skPortUp_ctrl (s : State) (a2 : _) : (State.skPortUp s a2).ctrl = s.ctrl := by
  unfold State.skPortUp; (repeat' split) <;> first | with_reducible rfl | simp only [State.ctrl_mk, State.ctrl_eta, State.draw_ctrl, State.setSkp_ctrl, State.set_ctrl] | rfl
theorem State.skTopo_ctrl (s : State) (a2 : _) (a3 : _) (a4 : _) : (State.skTopo s a2 a3 a4).ctrl = s.ctrl := by
  unfold State.skTopo; grind only [State.ctrl_mk, State.ctrl_eta, State.skAccept_ctrl, State.collect_ctrl, State.skSend_ctrl]
theorem State.skTrainTimeout_ctrl (s : State) (a2 : _) : (State.skTrainTimeout s a2).ctrl = s.ctrl := by
  unfold State.skTrainTimeout; grind only [State.ctrl_mk, State.ctrl_eta, State.setSkp_ctrl, State.set_ctrl]
theorem State.skTsync_ctrl (s : State) (a2 : _) (a3 : _) (a4 : _) : (State.skTsync s a2 a3 a4).ctrl = s.ctrl := by
  unfold State.skTsync; grind only [State.ctrl_mk, State.ctrl_eta, State.skArrive_ctrl, State.skSend_ctrl, State.draw_ctrl]
theorem State.dramRefresh_ctrl (s : State) (a2 : _) : (State.dramRefresh s a2).ctrl = s.ctrl := by
  unfold State.dramRefresh; simp only [State.ctrl_mk, State.ctrl_eta, State.set_ctrl]
theorem State.resetDrc_ctrl (s : State) : (State.resetDrc s).ctrl = s.ctrl := by
  unfold State.resetDrc; simp only [State.ctrl_mk, State.ctrl_eta, State.set_ctrl, State.resetRegs_ctrl, State.dramRefresh_ctrl]
theorem State.freeBytes_ctrl (s : State) (a2 : _) : (State.freeBytes s a2).ctrl = s.ctrl := by
  induction a2 generalizing s with
  | nil => rfl
  | cons b t ih => unfold State.freeBytes; exact (ih _).trans rfl

theorem State.dmaCut_ctrl (s : State) (a2 : _) : (State.dmaCut s a2).ctrl = s.ctrl := by
  unfold State.dmaCut; (repeat' split) <;> first | with_reducible rfl | simp only [State.ctrl_mk, State.ctrl_eta, State.freeBytes_ctrl, State.draw_ctrl, State.set_ctrl] | rfl
theorem State.resetHost_ctrl (s : State) : (State.resetHost s).ctrl = s.ctrl := by
  unfold State.resetHost; simp only [State.ctrl_mk, State.ctrl_eta, State.ctrl_foldl, implies_true, State.dmaCut_ctrl, State.resetRegs_ctrl, State.refreshLine_ctrl]
theorem State.resetPorts_ctrl (s : State) : (State.resetPorts s).ctrl = s.ctrl := by
  unfold State.resetPorts; simp only [State.ctrl_mk, State.ctrl_eta]
theorem State.dramLost_ctrl (s : State) : (State.dramLost s).ctrl = s.ctrl := by
  unfold State.dramLost; simp only [State.ctrl_mk, State.ctrl_eta, State.freeBytes_ctrl]
theorem State.setRail_ctrl (s : State) (a2 : _) (a3 : _) : (State.setRail s a2 a3).ctrl = s.ctrl := by
  unfold State.setRail; simp only [State.ctrl_mk, State.ctrl_eta]
theorem State.dropAll_ctrl (s : State) : (State.dropAll s).ctrl = s.ctrl := by
  unfold State.dropAll; simp only [State.ctrl_mk, State.ctrl_eta, State.ctrl_foldl, implies_true, State.emit_ctrl, apply_ite State.ctrl, ite_self]
theorem State.releaseReset_ctrl (s : State) (a2 : _) : (State.releaseReset s a2).ctrl = s.ctrl := by
  unfold State.releaseReset; simp only [State.ctrl_mk, State.ctrl_eta]
theorem State.seqCheck_ctrl (s : State) : (State.seqCheck s).ctrl = s.ctrl := by
  unfold State.seqCheck; (repeat' split) <;> first | with_reducible rfl | simp only [State.ctrl_mk, State.ctrl_eta] | rfl
theorem State.portsFollow_ctrl (s : State) : (State.portsFollow s).ctrl = s.ctrl := by
  unfold State.portsFollow; simp only [State.ctrl_mk, State.ctrl_eta, State.ctrl_foldl, implies_true, State.portRefresh_ctrl, State.setDac_ctrl, apply_ite State.ctrl, ite_self]
theorem State.railAbove_ctrl (s : State) (a2 : _) (a3 : _) : (State.railAbove s a2 a3).ctrl = s.ctrl := by
  unfold State.railAbove; grind only [State.ctrl_mk, State.ctrl_eta, State.incSat_ctrl, State.seqCheck_ctrl, State.setRail_ctrl, State.setPin_ctrl]
theorem State.linksDown_ctrl (s : State) : (State.linksDown s).ctrl = s.ctrl := by
  unfold State.linksDown; simp only [State.ctrl_mk, State.ctrl_eta, State.ctrl_foldl, implies_true, State.unjoin_ctrl, State.set_ctrl, State.setSkp_ctrl]
theorem State.raiseGroup_ctrl (s : State) (a2 : _) : (State.raiseGroup s a2).ctrl = s.ctrl := by
  unfold State.raiseGroup; simp only [State.ctrl_mk, State.ctrl_eta, State.ctrl_foldl, implies_true, State.emit_ctrl, State.setRail_ctrl]
theorem State.startLoad_ctrl (s : State) : (State.startLoad s).ctrl = s.ctrl := by
  unfold State.startLoad; simp only [State.ctrl_mk, State.ctrl_eta, State.set_ctrl, State.showPins_ctrl]
theorem State.pllLock_ctrl (s : State) : (State.pllLock s).ctrl = s.ctrl := by
  unfold State.pllLock; (repeat' split) <;> first | with_reducible rfl | simp only [State.ctrl_mk, State.ctrl_eta, State.startLoad_ctrl, State.set_ctrl] | rfl
theorem State.avsSend_ctrl (s : State) (a2 : _) : (State.avsSend s a2).ctrl = s.ctrl := by
  unfold State.avsSend; simp only [State.ctrl_mk, State.ctrl_eta, State.emit_ctrl]
theorem State.avsConfirm_ctrl (s : State) (a2 : _) : (State.avsConfirm s a2).ctrl = s.ctrl := by
  unfold State.avsConfirm; simp only [State.ctrl_mk, State.ctrl_eta, State.set_ctrl]
theorem State.wdtStart_ctrl (s : State) : (State.wdtStart s).ctrl = s.ctrl := by
  unfold State.wdtStart; simp only [State.ctrl_mk, State.ctrl_eta, State.set_ctrl]
theorem State.wdtKick_ctrl (s : State) : (State.wdtKick s).ctrl = s.ctrl := by
  unfold State.wdtKick; (repeat' split) <;> first | with_reducible rfl | simp only [State.ctrl_mk, State.ctrl_eta, State.wdtStart_ctrl] | rfl
theorem State.wdtWrite_ctrl (s : State) (a2 : _) : (State.wdtWrite s a2).ctrl = s.ctrl := by
  unfold State.wdtWrite; (repeat' split) <;> first | with_reducible rfl | simp only [State.ctrl_mk, State.ctrl_eta, State.set_ctrl, State.wdtStart_ctrl] | rfl
theorem State.hoursTick_ctrl (s : State) : (State.hoursTick s).ctrl = s.ctrl := by
  unfold State.hoursTick; (repeat' split) <;> first | with_reducible rfl | simp only [State.ctrl_mk, State.ctrl_eta, State.set_ctrl, State.incWrap_ctrl] | rfl
theorem State.railMin_ctrl (s : State) (a2 : _) (a3 : _) : (State.railMin s a2 a3).ctrl = s.ctrl := by
  unfold State.railMin; simp only [State.ctrl_mk, State.ctrl_eta, State.set_ctrl]
theorem State.supSource_ctrl (s : State) : (State.supSource s).ctrl = s.ctrl := by
  unfold State.supSource; (repeat' split) <;> first | with_reducible rfl | simp only [State.ctrl_mk, State.ctrl_eta, State.releaseReset_ctrl] | rfl
theorem State.pwrRestart_ctrl (s : State) : (State.pwrRestart s).ctrl = s.ctrl := by
  have h : ∀ (p : Prop) [Decidable p], (if p then s.raiseGroup 3 else s).ctrl = s.ctrl := by
    intro p _
    split
    · exact State.raiseGroup_ctrl ..
    · rfl
  unfold State.pwrRestart
  split
  · exact h _
  · rfl

theorem State.avsSlack_ctrl (s : State) (a2 : _) : (State.avsSlack s a2).ctrl = s.ctrl := by
  have hs : (s.set AVS_SLACK_LAST a2).ctrl = s.ctrl := State.set_ctrl ..
  unfold State.avsSlack
  dsimp only
  generalize s.set AVS_SLACK_LAST a2 = u at hs
  split
  · rfl
  · split
    · split
      · rw [State.avsSend_ctrl]; exact hs
      · exact hs
    · split
      · split
        · exact hs
        · split
          · rw [State.avsSend_ctrl]; exact hs
          · exact hs
      · exact hs

theorem State.railBelow_ctrl (s : State) (a2 : _) (a3 : _) : (State.railBelow s a2 a3).ctrl = s.ctrl := by
  unfold State.railBelow; (repeat' split) <;> first | with_reducible rfl | simp only [State.ctrl_mk, State.ctrl_eta, State.railMin_ctrl, State.set_ctrl, State.setPin_ctrl, State.setRail_ctrl] | rfl
theorem State.releaseDrive_ctrl (s : State) : (State.releaseDrive s).ctrl = s.ctrl := by
  unfold State.releaseDrive; grind only [State.ctrl_mk, State.ctrl_eta, State.emit_ctrl]
theorem State.avsCtlWrite_ctrl (s : State) (a2 : _) : (State.avsCtlWrite s a2).ctrl = s.ctrl := by
  unfold State.avsCtlWrite; simp only [State.ctrl_mk, State.ctrl_eta, State.writeFields_ctrl]
theorem State.endReset_ctrl (s : State) : (State.endReset s).ctrl = s.ctrl := by
  unfold State.endReset; simp only [State.ctrl_mk, State.ctrl_eta, State.ctrl_foldl, implies_true, State.incSat_ctrl, State.startLoad_ctrl, apply_ite State.ctrl, ite_self]
theorem State.dieTemp_ctrl (s : State) (a2 : _) (a3 : _) : (State.dieTemp s a2 a3).ctrl = s.ctrl := by
  unfold State.dieTemp; (repeat' split) <;> first | with_reducible rfl | simp only [State.ctrl_mk, State.ctrl_eta, State.set_ctrl] | rfl
theorem State.supResume_ctrl (s : State) : (State.supResume s).ctrl = s.ctrl := by
  unfold State.supResume; grind only [State.ctrl_mk, State.ctrl_eta, State.lower_ctrl, State.set_ctrl]
theorem State.railRecovered_ctrl (s : State) (a2 : _) (a3 : _) : (State.railRecovered s a2 a3).ctrl = s.ctrl := by
  unfold State.railRecovered; (repeat' split) <;> first | with_reducible rfl | simp only [State.ctrl_mk, State.ctrl_eta, State.set_ctrl] | rfl
theorem State.dramTouched_ctrl (s : State) (a2 : _) : (State.dramTouched s a2).ctrl = s.ctrl := by
  unfold State.dramTouched; (repeat' split) <;> first | with_reducible rfl | simp only [State.ctrl_mk, State.ctrl_eta] | rfl
theorem State.hackCmd_ctrl (s : State) : (State.hackCmd s).ctrl = s.ctrl := by
  unfold State.hackCmd; (repeat' split) <;> first | with_reducible rfl | simp only [State.ctrl_mk, State.ctrl_eta, State.hackAssert_ctrl] | rfl
theorem State.splitMiss_ctrl (s : State) : (State.splitMiss s).ctrl = s.ctrl := by
  unfold State.splitMiss; simp only [State.ctrl_mk, State.ctrl_eta, State.incSat_ctrl, State.set_ctrl]
theorem State.splitClear_ctrl (s : State) : (State.splitClear s).ctrl = s.ctrl := by
  unfold State.splitClear; (repeat' split) <;> first | with_reducible rfl | simp only [State.ctrl_mk, State.ctrl_eta, State.set_ctrl] | rfl
theorem State.captureClear_ctrl (s : State) : (State.captureClear s).ctrl = s.ctrl := by
  unfold State.captureClear; (repeat' split) <;> first | with_reducible rfl | simp only [State.ctrl_mk, State.ctrl_eta, State.ctrl_foldl, implies_true, State.set_ctrl] | rfl
theorem State.setIecc_ctrl (s : State) (a2 : _) : (State.setIecc s a2).ctrl = s.ctrl := by
  unfold State.setIecc; (repeat' split) <;> first | with_reducible rfl | simp only [State.ctrl_mk, State.ctrl_eta, State.set_ctrl] | rfl
theorem State.waitHost_ctrl (s : State) : (State.waitHost s).ctrl = s.ctrl := by
  unfold State.waitHost; simp only [State.ctrl_mk, State.ctrl_eta, State.set_ctrl]
theorem State.startCores_ctrl (s : State) (a2 : _) (a3 : _) (a4 : _) : (State.startCores s a2 a3 a4).ctrl = s.ctrl := by
  unfold State.startCores; simp only [State.ctrl_mk, State.ctrl_eta, State.ctrl_foldl, implies_true, State.emit_ctrl, apply_ite State.ctrl, ite_self]
theorem State.bootLoad_ctrl (s : State) (a2 : _) (a3 : _) : (State.bootLoad s a2 a3).ctrl = s.ctrl := by
  unfold State.bootLoad; (repeat' split) <;> first | with_reducible rfl | simp only [State.ctrl_mk, State.ctrl_eta, State.setIecc_ctrl, State.store_ctrl, State.dramTouched_ctrl] | rfl
theorem State.dmaGo_ctrl (s : State) (a2 : _) (a3 : _) : (State.dmaGo s a2 a3).ctrl = s.ctrl := by
  unfold State.dmaGo; grind only [State.ctrl_mk, State.ctrl_eta, State.set_ctrl]
theorem State.coreRun_ctrl (s : State) (a2 : _) : (State.coreRun s a2).ctrl = s.ctrl := by
  unfold State.coreRun; (repeat' split) <;> first | with_reducible rfl | simp only [State.ctrl_mk, State.ctrl_eta, State.startCores_ctrl] | rfl
theorem State.msixUnmask_ctrl (s : State) (a2 : _) : (State.msixUnmask s a2).ctrl = s.ctrl := by
  unfold State.msixUnmask; grind only [State.ctrl_mk, State.ctrl_eta, State.emit_ctrl]
theorem State.configRequest_ctrl (s : State) : (State.configRequest s).ctrl = s.ctrl := by
  unfold State.configRequest; (repeat' split) <;> first | with_reducible rfl | simp only [State.ctrl_mk, State.ctrl_eta, State.emit_ctrl] | rfl
theorem State.writeBrg_ctrl (s : State) (a2 : _) (a3 : _) : (State.writeBrg s a2 a3).ctrl = s.ctrl := by
  unfold State.writeBrg; dsimp only; (repeat' split) <;> first | with_reducible rfl | simp only [State.ctrl_mk, State.ctrl_eta, State.ctrl_foldl, implies_true, State.writeFields_ctrl, State.set_ctrl, State.brgCommit_ctrl] | rfl
theorem State.writeCtx_ctrl (s : State) (a2 : _) (a3 : _) (a4 : _) : (State.writeCtx s a2 a3 a4).ctrl = s.ctrl := by
  unfold State.writeCtx; dsimp only; (repeat' split) <;> first | with_reducible rfl | simp only [State.ctrl_mk, State.ctrl_eta, State.ctrl_foldl, implies_true, State.ctxCtlWrite_ctrl, State.set_ctrl, State.writeFields_ctrl, State.camera_ctrl, State.ctxShowRate_ctrl, State.ctxRelease_ctrl, State.ctxRws_ctrl] | rfl
theorem State.writeLpe_ctrl (s : State) (a2 : _) (a3 : _) (a4 : _) : (State.writeLpe s a2 a3 a4).ctrl = s.ctrl := by
  unfold State.writeLpe; dsimp only; (repeat' split) <;> first | with_reducible rfl | simp only [State.ctrl_mk, State.ctrl_eta, State.ctrl_foldl, implies_true, State.lpeCtlWrite_ctrl, State.lpeRws_ctrl, State.set_ctrl, State.writeFields_ctrl] | rfl
theorem State.writeDrc_ctrl (s : State) (a2 : _) (a3 : _) : (State.writeDrc s a2 a3).ctrl = s.ctrl := by
  unfold State.writeDrc; (repeat' split) <;> first | with_reducible rfl | simp only [State.ctrl_mk, State.ctrl_eta, State.setIecc_ctrl, State.set_ctrl, State.writeFields_ctrl] | rfl
theorem State.writeTrj_ctrl (s : State) (a2 : _) (a3 : _) (a4 : _) : (State.writeTrj s a2 a3 a4).ctrl = s.ctrl := by
  unfold State.writeTrj; (repeat' split) <;> first | with_reducible rfl | simp only [State.ctrl_mk, State.ctrl_eta, State.set_ctrl, State.writeFields_ctrl, State.trjCommit_ctrl] | rfl
theorem State.writeDial_ctrl (s : State) (a2 : _) (a3 : _) : (State.writeDial s a2 a3).ctrl = s.ctrl := by
  unfold State.writeDial; dsimp only; (repeat' split) <;> first | with_reducible rfl | simp only [State.ctrl_mk, State.ctrl_eta, State.ctrl_foldl, implies_true, State.clearCmd_ctrl, State.rebaseCmd_ctrl, State.set_ctrl, State.writeFields_ctrl, State.dialCommit_ctrl] | rfl
theorem State.writeReg_ctrl (s : State) (a2 : _) (a3 : _) (a4 : _) : (State.writeReg s a2 a3 a4).ctrl = s.ctrl := by
  unfold State.writeReg; dsimp only; (repeat' split) <;> first | with_reducible rfl | simp only [State.ctrl_mk, State.ctrl_eta, State.ctrl_foldl, implies_true, State.popEvent_ctrl, State.writeFields_ctrl, State.set_ctrl, State.regCommit_ctrl] | rfl
theorem State.writeBal_ctrl (s : State) (a2 : _) (a3 : _) : (State.writeBal s a2 a3).ctrl = s.ctrl := by
  unfold State.writeBal; grind only [State.ctrl_mk, State.ctrl_eta, State.writeFields_ctrl, State.rateWrite_ctrl, State.swapRequest_ctrl, State.genStop_ctrl, State.injCtl_ctrl, State.injRun_ctrl, State.capStop_ctrl, State.capCtl_ctrl, State.capStart_ctrl, State.axCtlWrite_ctrl, State.axWrites_ctrl, State.axClose_ctrl, State.axOpen_ctrl, State.set_ctrl]
theorem State.writeHl_ctrl (s : State) (a2 : _) (a3 : _) (a4 : _) : (State.writeHl s a2 a3 a4).ctrl = s.ctrl := by
  unfold State.writeHl; (repeat' split) <;> first | with_reducible rfl | simp only [State.ctrl_mk, State.ctrl_eta, State.hlCtlWrite_ctrl, State.hlSvcGo_ctrl, State.set_ctrl, State.writeFields_ctrl] | rfl
theorem State.writeImg_ctrl (s : State) (a2 : _) (a3 : _) : (State.writeImg s a2 a3).ctrl = s.ctrl := by
  unfold State.writeImg; (repeat' split) <;> first | with_reducible rfl | simp only [State.ctrl_mk, State.ctrl_eta, State.writeCtx_ctrl, State.writeLpe_ctrl, State.set_ctrl, State.writeFields_ctrl] | rfl
theorem State.writeIll_ctrl (s : State) (a2 : _) (a3 : _) : (State.writeIll s a2 a3).ctrl = s.ctrl := by
  unfold State.writeIll; grind only [State.ctrl_mk, State.ctrl_eta, State.writeFields_ctrl, State.illGlobalWrite_ctrl, State.illEnable_ctrl, State.neighbourTest_ctrl, State.illChWrite_ctrl]
theorem State.writeEnc_ctrl (s : State) (a2 : _) (a3 : _) : (State.writeEnc s a2 a3).ctrl = s.ctrl := by
  unfold State.writeEnc; (repeat' split) <;> first | with_reducible rfl | simp only [State.ctrl_mk, State.ctrl_eta, State.encCtlWrite_ctrl, State.encWrite_ctrl, State.writeFields_ctrl] | rfl
theorem State.writeHost_ctrl (s : State) (a2 : _) (a3 : _) : (State.writeHost s a2 a3).ctrl = s.ctrl := by
  unfold State.writeHost; (repeat' split) <;> first | with_reducible rfl | simp only [State.ctrl_mk, State.ctrl_eta, State.writeFields_ctrl, State.dmaCut_ctrl, State.dmaGo_ctrl, State.set_ctrl, State.refreshLine_ctrl] | rfl
theorem State.storeWhole_ctrl (s : State) (a2 : _) (a3 : _) : (State.storeWhole s a2 a3).ctrl = s.ctrl := by
  unfold State.storeWhole; simp only [State.ctrl_mk, State.ctrl_eta, State.ctrl_foldl, implies_true, State.store_ctrl]
theorem State.armingGoesOn_ctrl (s : State) : (State.armingGoesOn s).ctrl = s.ctrl := by
  unfold State.armingGoesOn; (repeat' split) <;> first | with_reducible rfl | simp only [State.ctrl_mk, State.ctrl_eta, State.armAll_ctrl] | rfl
theorem State.stretchEdge_ctrl (s : State) (a2 : _) (a3 : _) (a4 : _) (a5 : _) : (State.stretchEdge s a2 a3 a4 a5).ctrl = s.ctrl := by
  unfold State.stretchEdge; (repeat' split) <;> first | with_reducible rfl | simp only [State.ctrl_mk, State.ctrl_eta, State.placeEdge_ctrl] | rfl
theorem State.evalHold_ctrl (s : State) (a2 : _) (a3 : _) (a4 : _) : (State.evalHold s a2 a3 a4).ctrl = s.ctrl := by
  unfold State.evalHold; grind only [State.ctrl_mk, State.ctrl_eta, State.setEsc_ctrl, State.set_ctrl, State.addSat_ctrl, State.incSat_ctrl]
theorem State.postStore_ctrl (s : State) (a2 : _) (a3 : _) (a4 : _) (a5 : _) (a6 : _) (a7 : _) : (State.postStore s a2 a3 a4 a5 a6 a7).ctrl = s.ctrl := by
  unfold State.postStore; simp only [State.ctrl_mk, State.ctrl_eta, State.winIssue_ctrl, State.emit_ctrl, State.modEsc_ctrl]
theorem State.dialStall_ctrl (s : State) (a2 : _) : (State.dialStall s a2).ctrl = s.ctrl := by
  unfold State.dialStall; simp only [State.ctrl_mk, State.ctrl_eta, State.modEsc_ctrl]
theorem State.postLoad_ctrl (s : State) (a2 : _) (a3 : _) (a4 : _) (a5 : _) (a6 : _) (a7 : _) (a8 : _) : (State.postLoad s a2 a3 a4 a5 a6 a7 a8).ctrl = s.ctrl := by
  unfold State.postLoad; simp only [State.ctrl_mk, State.ctrl_eta, State.winIssue_ctrl, State.emit_ctrl, State.modEsc_ctrl, State.setPc_ctrl]
theorem State.restartFor_ctrl (s : State) (a2 : _) : (State.restartFor s a2).ctrl = s.ctrl := by
  unfold State.restartFor; grind only [State.ctrl_mk, State.ctrl_eta, State.setEsc_ctrl, State.set_ctrl]
theorem State.yieldZones_ctrl (s : State) (a2 : _) (a3 : _) : (State.yieldZones s a2 a3).ctrl = s.ctrl := by
  unfold State.yieldZones; grind only [State.ctrl_mk, State.ctrl_eta, State.setEsc_ctrl]
theorem State.setSpeed_ctrl (s : State) (a2 : _) (a3 : _) (a4 : _) : (State.setSpeed s a2 a3 a4).ctrl = s.ctrl := by
  unfold State.setSpeed; grind only [State.ctrl_mk, State.ctrl_eta, State.modEsc_ctrl, State.set_ctrl]
theorem State.noteGcmd_ctrl (s : State) (a2 : _) (a3 : _) : (State.noteGcmd s a2 a3).ctrl = s.ctrl := by
  unfold State.noteGcmd; simp only [State.ctrl_mk, State.ctrl_eta, State.set_ctrl]
theorem State.escDo_ctrl (s : State) (n : _) (f : State → Nat → State) (h : (f s n).ctrl = s.ctrl) :
    (State.escDo s n f).ctrl = s.ctrl := by
  unfold State.escDo; split
  · rfl
  · exact h

theorem State.dacUpdate_ctrl (s : State) (a2 : _) : (State.dacUpdate s a2).ctrl = s.ctrl := by
  unfold State.dacUpdate; grind only [State.ctrl_mk, State.ctrl_eta, State.setDac_ctrl, State.setPort_ctrl]
theorem State.gateEdge_ctrl (s : State) (a2 : _) : (State.gateEdge s a2).ctrl = s.ctrl := by
  unfold State.gateEdge; grind only [State.ctrl_mk, State.ctrl_eta, State.portRefresh_ctrl, State.setPort_ctrl]
theorem State.sysCmd_ctrl (s : State) (f : State → State) (h : (f s).ctrl = s.ctrl) : (State.sysCmd s f).ctrl = s.ctrl := by
  unfold State.sysCmd; split
  · exact h
  · rfl

theorem State.skDue_ctrl (s : State) (cmd : _) (c : Sched) (t : State) (h : State.skDue s cmd = some (c, t)) : t.ctrl = s.ctrl := by
  unfold State.skDue at h
  split at h
  · split at h
    · cases h; rfl
    · cases h
  · cases h

theorem State.bcast_ctrl (s : State) (cmd : _) (f : State → Nat → State) (h : ∀ t n, (f t n).ctrl = t.ctrl) :
    (State.bcast s cmd f).ctrl = s.ctrl := by
  unfold State.bcast; split
  · rename_i c t hd
    rw [h, State.skDue_ctrl s cmd c t hd]
  · rfl

theorem State.creditTick_ctrl (s : State) : (State.creditTick s).ctrl = s.ctrl := by
  unfold State.creditTick; (repeat' split) <;> first | with_reducible rfl | simp only [State.ctrl_mk, State.ctrl_eta, State.set_ctrl] | rfl
theorem State.wdtTick_ctrl (s : State) : (State.wdtTick s).ctrl = s.ctrl := by
  unfold State.wdtTick; (repeat' split) <;> first | with_reducible rfl | simp only [State.ctrl_mk, State.ctrl_eta, State.set_ctrl] | rfl
theorem State.lbeatTick_ctrl (s : State) : (State.lbeatTick s).ctrl = s.ctrl := by
  unfold State.lbeatTick; (repeat' split) <;> first | with_reducible rfl | simp only [State.ctrl_mk, State.ctrl_eta, State.setPair_ctrl] | rfl
theorem State.clockTick_ctrl (s : State) : (State.clockTick s).ctrl = s.ctrl := by
  unfold State.clockTick; (repeat' split) <;> first | with_reducible rfl | simp only [State.ctrl_mk, State.ctrl_eta, State.illSync_ctrl, State.creditTick_ctrl, State.lbeatTick_ctrl] | rfl
theorem State.withFetchWord_ctrl (s : State) (a2 : _) (a3 : _) : (State.withFetchWord s a2 a3).ctrl = s.ctrl := by
  unfold State.withFetchWord; (repeat' split) <;> first | with_reducible rfl | simp only [State.ctrl_mk, State.ctrl_eta] | rfl
end Sys2Proof.Machine
end

