-- ==== Sys2Proof/Laws/State.lean ====
section
/-! SUPPORT. What each named update of the state leaves, field by field: a proof reads a field past an update with these and
unfolds no record. -/
namespace Sys2Proof.Machine

@[simp] theorem State.set_pending (s : State) (f : Fld) (v : Nat) : (s.set f v).pending = s.pending := rfl
@[simp] theorem State.set_out (s : State) (f : Fld) (v : Nat) : (s.set f v).out = s.out := rfl
@[simp] theorem State.set_resp (s : State) (f : Fld) (v : Nat) : (s.set f v).resp = s.resp := rfl
@[simp] theorem State.set_free (s : State) (f : Fld) (v : Nat) : (s.set f v).free = s.free := rfl
@[simp] theorem State.set_beat (s : State) (f : Fld) (v : Nat) : (s.set f v).beat = s.beat := rfl
@[simp] theorem State.set_lbRun (s : State) (f : Fld) (v : Nat) : (s.set f v).lbRun = s.lbRun := rfl
@[simp] theorem State.set_hiLatch (s : State) (f : Fld) (v : Nat) : (s.set f v).hiLatch = s.hiLatch := rfl
@[simp] theorem State.set_mem (s : State) (f : Fld) (v : Nat) : (s.set f v).mem = s.mem := rfl
@[simp] theorem State.set_nv (s : State) (f : Fld) (v : Nat) : (s.set f v).nv = s.nv := rfl
@[simp] theorem State.set_mode (s : State) (f : Fld) (v : Nat) : (s.set f v).mode = s.mode := rfl
@[simp] theorem State.set_flt (s : State) (f : Fld) (v : Nat) : (s.set f v).flt = s.flt := rfl
@[simp] theorem State.set_rst (s : State) (f : Fld) (v : Nat) : (s.set f v).rst = s.rst := rfl
@[simp] theorem State.set_host (s : State) (f : Fld) (v : Nat) : (s.set f v).host = s.host := rfl
@[simp] theorem State.set_escs (s : State) (f : Fld) (v : Nat) : (s.set f v).escs = s.escs := rfl
@[simp] theorem State.set_bars (s : State) (f : Fld) (v : Nat) : (s.set f v).bars = s.bars := rfl
@[simp] theorem State.set_starts (s : State) (f : Fld) (v : Nat) : (s.set f v).starts = s.starts := rfl
@[simp] theorem State.set_yieldDue (s : State) (f : Fld) (v : Nat) : (s.set f v).yieldDue = s.yieldDue := rfl
@[simp] theorem State.set_claims (s : State) (f : Fld) (v : Nat) : (s.set f v).claims = s.claims := rfl
@[simp] theorem State.set_seed (s : State) (f : Fld) (v : Nat) : (s.set f v).seed = s.seed := rfl
@[simp] theorem State.set_setps (s : State) (f : Fld) (v : Nat) : (s.set f v).setps = s.setps := rfl
@[simp] theorem State.set_regl (s : State) (f : Fld) (v : Nat) : (s.set f v).regl = s.regl := rfl
@[simp] theorem State.set_ports (s : State) (f : Fld) (v : Nat) : (s.set f v).ports = s.ports := rfl
@[simp] theorem State.set_portHold (s : State) (f : Fld) (v : Nat) : (s.set f v).portHold = s.portHold := rfl
@[simp] theorem State.set_ilkDiff (s : State) (f : Fld) (v : Nat) : (s.set f v).ilkDiff = s.ilkDiff := rfl
@[simp] theorem State.set_dial (s : State) (f : Fld) (v : Nat) : (s.set f v).dial = s.dial := rfl
@[simp] theorem State.set_ilkFirst (s : State) (f : Fld) (v : Nat) : (s.set f v).ilkFirst = s.ilkFirst := rfl
@[simp] theorem State.set_pins (s : State) (f : Fld) (v : Nat) : (s.set f v).pins = s.pins := rfl
@[simp] theorem State.set_req (s : State) (f : Fld) (v : Nat) : (s.set f v).req = s.req := rfl
@[simp] theorem State.set_capMaster (s : State) (f : Fld) (v : Nat) : (s.set f v).capMaster = s.capMaster := rfl
@[simp] theorem State.set_own (s : State) (f : Fld) (v : Nat) : (s.set f v).own = s.own := rfl
@[simp] theorem State.set_eccCount (s : State) (f : Fld) (v : Nat) : (s.set f v).eccCount = s.eccCount := rfl
@[simp] theorem State.set_setPrev (s : State) (f : Fld) (v : Nat) : (s.set f v).setPrev = s.setPrev := rfl
@[simp] theorem State.set_bal (s : State) (f : Fld) (v : Nat) : (s.set f v).bal = s.bal := rfl
@[simp] theorem State.set_hls (s : State) (f : Fld) (v : Nat) : (s.set f v).hls = s.hls := rfl
@[simp] theorem State.set_skz (s : State) (f : Fld) (v : Nat) : (s.set f v).skz = s.skz := rfl
@[simp] theorem State.set_img (s : State) (f : Fld) (v : Nat) : (s.set f v).img = s.img := rfl
@[simp] theorem State.set_ill (s : State) (f : Fld) (v : Nat) : (s.set f v).ill = s.ill := rfl
@[simp] theorem State.set_mot (s : State) (f : Fld) (v : Nat) : (s.set f v).mot = s.mot := rfl
@[simp] theorem State.set_cal (s : State) (f : Fld) (v : Nat) : (s.set f v).cal = s.cal := rfl

@[simp] theorem State.setPair_pending (s : State) (lo hi : Fld) (v : Nat) : (s.setPair lo hi v).pending = s.pending := rfl
@[simp] theorem State.setPair_out (s : State) (lo hi : Fld) (v : Nat) : (s.setPair lo hi v).out = s.out := rfl
@[simp] theorem State.setPair_resp (s : State) (lo hi : Fld) (v : Nat) : (s.setPair lo hi v).resp = s.resp := rfl
@[simp] theorem State.setPair_free (s : State) (lo hi : Fld) (v : Nat) : (s.setPair lo hi v).free = s.free := rfl
@[simp] theorem State.setPair_beat (s : State) (lo hi : Fld) (v : Nat) : (s.setPair lo hi v).beat = s.beat := rfl
@[simp] theorem State.setPair_lbRun (s : State) (lo hi : Fld) (v : Nat) : (s.setPair lo hi v).lbRun = s.lbRun := rfl
@[simp] theorem State.setPair_hiLatch (s : State) (lo hi : Fld) (v : Nat) : (s.setPair lo hi v).hiLatch = s.hiLatch := rfl
@[simp] theorem State.setPair_mem (s : State) (lo hi : Fld) (v : Nat) : (s.setPair lo hi v).mem = s.mem := rfl
@[simp] theorem State.setPair_nv (s : State) (lo hi : Fld) (v : Nat) : (s.setPair lo hi v).nv = s.nv := rfl
@[simp] theorem State.setPair_mode (s : State) (lo hi : Fld) (v : Nat) : (s.setPair lo hi v).mode = s.mode := rfl
@[simp] theorem State.setPair_flt (s : State) (lo hi : Fld) (v : Nat) : (s.setPair lo hi v).flt = s.flt := rfl
@[simp] theorem State.setPair_rst (s : State) (lo hi : Fld) (v : Nat) : (s.setPair lo hi v).rst = s.rst := rfl
@[simp] theorem State.setPair_host (s : State) (lo hi : Fld) (v : Nat) : (s.setPair lo hi v).host = s.host := rfl
@[simp] theorem State.setPair_escs (s : State) (lo hi : Fld) (v : Nat) : (s.setPair lo hi v).escs = s.escs := rfl
@[simp] theorem State.setPair_bars (s : State) (lo hi : Fld) (v : Nat) : (s.setPair lo hi v).bars = s.bars := rfl
@[simp] theorem State.setPair_starts (s : State) (lo hi : Fld) (v : Nat) : (s.setPair lo hi v).starts = s.starts := rfl
@[simp] theorem State.setPair_yieldDue (s : State) (lo hi : Fld) (v : Nat) : (s.setPair lo hi v).yieldDue = s.yieldDue := rfl
@[simp] theorem State.setPair_claims (s : State) (lo hi : Fld) (v : Nat) : (s.setPair lo hi v).claims = s.claims := rfl
@[simp] theorem State.setPair_seed (s : State) (lo hi : Fld) (v : Nat) : (s.setPair lo hi v).seed = s.seed := rfl
@[simp] theorem State.setPair_setps (s : State) (lo hi : Fld) (v : Nat) : (s.setPair lo hi v).setps = s.setps := rfl
@[simp] theorem State.setPair_regl (s : State) (lo hi : Fld) (v : Nat) : (s.setPair lo hi v).regl = s.regl := rfl
@[simp] theorem State.setPair_ports (s : State) (lo hi : Fld) (v : Nat) : (s.setPair lo hi v).ports = s.ports := rfl
@[simp] theorem State.setPair_portHold (s : State) (lo hi : Fld) (v : Nat) : (s.setPair lo hi v).portHold = s.portHold := rfl
@[simp] theorem State.setPair_ilkDiff (s : State) (lo hi : Fld) (v : Nat) : (s.setPair lo hi v).ilkDiff = s.ilkDiff := rfl
@[simp] theorem State.setPair_dial (s : State) (lo hi : Fld) (v : Nat) : (s.setPair lo hi v).dial = s.dial := rfl
@[simp] theorem State.setPair_ilkFirst (s : State) (lo hi : Fld) (v : Nat) : (s.setPair lo hi v).ilkFirst = s.ilkFirst := rfl
@[simp] theorem State.setPair_pins (s : State) (lo hi : Fld) (v : Nat) : (s.setPair lo hi v).pins = s.pins := rfl
@[simp] theorem State.setPair_req (s : State) (lo hi : Fld) (v : Nat) : (s.setPair lo hi v).req = s.req := rfl
@[simp] theorem State.setPair_capMaster (s : State) (lo hi : Fld) (v : Nat) : (s.setPair lo hi v).capMaster = s.capMaster := rfl
@[simp] theorem State.setPair_own (s : State) (lo hi : Fld) (v : Nat) : (s.setPair lo hi v).own = s.own := rfl
@[simp] theorem State.setPair_eccCount (s : State) (lo hi : Fld) (v : Nat) : (s.setPair lo hi v).eccCount = s.eccCount := rfl
@[simp] theorem State.setPair_setPrev (s : State) (lo hi : Fld) (v : Nat) : (s.setPair lo hi v).setPrev = s.setPrev := rfl
@[simp] theorem State.setPair_bal (s : State) (lo hi : Fld) (v : Nat) : (s.setPair lo hi v).bal = s.bal := rfl
@[simp] theorem State.setPair_hls (s : State) (lo hi : Fld) (v : Nat) : (s.setPair lo hi v).hls = s.hls := rfl
@[simp] theorem State.setPair_skz (s : State) (lo hi : Fld) (v : Nat) : (s.setPair lo hi v).skz = s.skz := rfl
@[simp] theorem State.setPair_img (s : State) (lo hi : Fld) (v : Nat) : (s.setPair lo hi v).img = s.img := rfl
@[simp] theorem State.setPair_ill (s : State) (lo hi : Fld) (v : Nat) : (s.setPair lo hi v).ill = s.ill := rfl
@[simp] theorem State.setPair_mot (s : State) (lo hi : Fld) (v : Nat) : (s.setPair lo hi v).mot = s.mot := rfl
@[simp] theorem State.setPair_cal (s : State) (lo hi : Fld) (v : Nat) : (s.setPair lo hi v).cal = s.cal := rfl

@[simp] theorem State.incWrap_pending (s : State) (f : Fld) : (s.incWrap f).pending = s.pending := rfl
@[simp] theorem State.incWrap_out (s : State) (f : Fld) : (s.incWrap f).out = s.out := rfl
@[simp] theorem State.incWrap_resp (s : State) (f : Fld) : (s.incWrap f).resp = s.resp := rfl
@[simp] theorem State.incWrap_free (s : State) (f : Fld) : (s.incWrap f).free = s.free := rfl
@[simp] theorem State.incWrap_beat (s : State) (f : Fld) : (s.incWrap f).beat = s.beat := rfl
@[simp] theorem State.incWrap_lbRun (s : State) (f : Fld) : (s.incWrap f).lbRun = s.lbRun := rfl
@[simp] theorem State.incWrap_hiLatch (s : State) (f : Fld) : (s.incWrap f).hiLatch = s.hiLatch := rfl
@[simp] theorem State.incWrap_mem (s : State) (f : Fld) : (s.incWrap f).mem = s.mem := rfl
@[simp] theorem State.incWrap_nv (s : State) (f : Fld) : (s.incWrap f).nv = s.nv := rfl
@[simp] theorem State.incWrap_mode (s : State) (f : Fld) : (s.incWrap f).mode = s.mode := rfl
@[simp] theorem State.incWrap_flt (s : State) (f : Fld) : (s.incWrap f).flt = s.flt := rfl
@[simp] theorem State.incWrap_rst (s : State) (f : Fld) : (s.incWrap f).rst = s.rst := rfl
@[simp] theorem State.incWrap_host (s : State) (f : Fld) : (s.incWrap f).host = s.host := rfl
@[simp] theorem State.incWrap_escs (s : State) (f : Fld) : (s.incWrap f).escs = s.escs := rfl
@[simp] theorem State.incWrap_bars (s : State) (f : Fld) : (s.incWrap f).bars = s.bars := rfl
@[simp] theorem State.incWrap_starts (s : State) (f : Fld) : (s.incWrap f).starts = s.starts := rfl
@[simp] theorem State.incWrap_yieldDue (s : State) (f : Fld) : (s.incWrap f).yieldDue = s.yieldDue := rfl
@[simp] theorem State.incWrap_claims (s : State) (f : Fld) : (s.incWrap f).claims = s.claims := rfl
@[simp] theorem State.incWrap_seed (s : State) (f : Fld) : (s.incWrap f).seed = s.seed := rfl
@[simp] theorem State.incWrap_setps (s : State) (f : Fld) : (s.incWrap f).setps = s.setps := rfl
@[simp] theorem State.incWrap_regl (s : State) (f : Fld) : (s.incWrap f).regl = s.regl := rfl
@[simp] theorem State.incWrap_ports (s : State) (f : Fld) : (s.incWrap f).ports = s.ports := rfl
@[simp] theorem State.incWrap_portHold (s : State) (f : Fld) : (s.incWrap f).portHold = s.portHold := rfl
@[simp] theorem State.incWrap_ilkDiff (s : State) (f : Fld) : (s.incWrap f).ilkDiff = s.ilkDiff := rfl
@[simp] theorem State.incWrap_dial (s : State) (f : Fld) : (s.incWrap f).dial = s.dial := rfl
@[simp] theorem State.incWrap_ilkFirst (s : State) (f : Fld) : (s.incWrap f).ilkFirst = s.ilkFirst := rfl
@[simp] theorem State.incWrap_pins (s : State) (f : Fld) : (s.incWrap f).pins = s.pins := rfl
@[simp] theorem State.incWrap_req (s : State) (f : Fld) : (s.incWrap f).req = s.req := rfl
@[simp] theorem State.incWrap_capMaster (s : State) (f : Fld) : (s.incWrap f).capMaster = s.capMaster := rfl
@[simp] theorem State.incWrap_own (s : State) (f : Fld) : (s.incWrap f).own = s.own := rfl
@[simp] theorem State.incWrap_eccCount (s : State) (f : Fld) : (s.incWrap f).eccCount = s.eccCount := rfl
@[simp] theorem State.incWrap_setPrev (s : State) (f : Fld) : (s.incWrap f).setPrev = s.setPrev := rfl
@[simp] theorem State.incWrap_bal (s : State) (f : Fld) : (s.incWrap f).bal = s.bal := rfl
@[simp] theorem State.incWrap_hls (s : State) (f : Fld) : (s.incWrap f).hls = s.hls := rfl
@[simp] theorem State.incWrap_skz (s : State) (f : Fld) : (s.incWrap f).skz = s.skz := rfl
@[simp] theorem State.incWrap_img (s : State) (f : Fld) : (s.incWrap f).img = s.img := rfl
@[simp] theorem State.incWrap_ill (s : State) (f : Fld) : (s.incWrap f).ill = s.ill := rfl
@[simp] theorem State.incWrap_mot (s : State) (f : Fld) : (s.incWrap f).mot = s.mot := rfl
@[simp] theorem State.incWrap_cal (s : State) (f : Fld) : (s.incWrap f).cal = s.cal := rfl

@[simp] theorem State.emit_pending (s : State) (o : Out) : (s.emit o).pending = s.pending := rfl
@[simp] theorem State.emit_out (s : State) (o : Out) : (s.emit o).out = s.out ++ [o] := rfl
@[simp] theorem State.emit_resp (s : State) (o : Out) : (s.emit o).resp = s.resp := rfl
@[simp] theorem State.emit_free (s : State) (o : Out) : (s.emit o).free = s.free := rfl
@[simp] theorem State.emit_beat (s : State) (o : Out) : (s.emit o).beat = s.beat := rfl
@[simp] theorem State.emit_lbRun (s : State) (o : Out) : (s.emit o).lbRun = s.lbRun := rfl
@[simp] theorem State.emit_regs (s : State) (o : Out) : (s.emit o).regs = s.regs := rfl
@[simp] theorem State.emit_hiLatch (s : State) (o : Out) : (s.emit o).hiLatch = s.hiLatch := rfl
@[simp] theorem State.emit_mem (s : State) (o : Out) : (s.emit o).mem = s.mem := rfl
@[simp] theorem State.emit_nv (s : State) (o : Out) : (s.emit o).nv = s.nv := rfl
@[simp] theorem State.emit_mode (s : State) (o : Out) : (s.emit o).mode = s.mode := rfl
@[simp] theorem State.emit_flt (s : State) (o : Out) : (s.emit o).flt = s.flt := rfl
@[simp] theorem State.emit_rst (s : State) (o : Out) : (s.emit o).rst = s.rst := rfl
@[simp] theorem State.emit_host (s : State) (o : Out) : (s.emit o).host = s.host := rfl
@[simp] theorem State.emit_escs (s : State) (o : Out) : (s.emit o).escs = s.escs := rfl
@[simp] theorem State.emit_bars (s : State) (o : Out) : (s.emit o).bars = s.bars := rfl
@[simp] theorem State.emit_starts (s : State) (o : Out) : (s.emit o).starts = s.starts := rfl
@[simp] theorem State.emit_yieldDue (s : State) (o : Out) : (s.emit o).yieldDue = s.yieldDue := rfl
@[simp] theorem State.emit_claims (s : State) (o : Out) : (s.emit o).claims = s.claims := rfl
@[simp] theorem State.emit_seed (s : State) (o : Out) : (s.emit o).seed = s.seed := rfl
@[simp] theorem State.emit_setps (s : State) (o : Out) : (s.emit o).setps = s.setps := rfl
@[simp] theorem State.emit_regl (s : State) (o : Out) : (s.emit o).regl = s.regl := rfl
@[simp] theorem State.emit_ports (s : State) (o : Out) : (s.emit o).ports = s.ports := rfl
@[simp] theorem State.emit_portHold (s : State) (o : Out) : (s.emit o).portHold = s.portHold := rfl
@[simp] theorem State.emit_ilkDiff (s : State) (o : Out) : (s.emit o).ilkDiff = s.ilkDiff := rfl
@[simp] theorem State.emit_dial (s : State) (o : Out) : (s.emit o).dial = s.dial := rfl
@[simp] theorem State.emit_ilkFirst (s : State) (o : Out) : (s.emit o).ilkFirst = s.ilkFirst := rfl
@[simp] theorem State.emit_pins (s : State) (o : Out) : (s.emit o).pins = s.pins := rfl
@[simp] theorem State.emit_req (s : State) (o : Out) : (s.emit o).req = s.req := rfl
@[simp] theorem State.emit_capMaster (s : State) (o : Out) : (s.emit o).capMaster = s.capMaster := rfl
@[simp] theorem State.emit_own (s : State) (o : Out) : (s.emit o).own = s.own := rfl
@[simp] theorem State.emit_eccCount (s : State) (o : Out) : (s.emit o).eccCount = s.eccCount := rfl
@[simp] theorem State.emit_setPrev (s : State) (o : Out) : (s.emit o).setPrev = s.setPrev := rfl
@[simp] theorem State.emit_bal (s : State) (o : Out) : (s.emit o).bal = s.bal := rfl
@[simp] theorem State.emit_hls (s : State) (o : Out) : (s.emit o).hls = s.hls := rfl
@[simp] theorem State.emit_skz (s : State) (o : Out) : (s.emit o).skz = s.skz := rfl
@[simp] theorem State.emit_img (s : State) (o : Out) : (s.emit o).img = s.img := rfl
@[simp] theorem State.emit_ill (s : State) (o : Out) : (s.emit o).ill = s.ill := rfl
@[simp] theorem State.emit_mot (s : State) (o : Out) : (s.emit o).mot = s.mot := rfl
@[simp] theorem State.emit_cal (s : State) (o : Out) : (s.emit o).cal = s.cal := rfl
@[simp] theorem State.emit_get (s : State) (o : Out) (g : Fld) : (s.emit o).get g = s.get g := rfl

@[simp] theorem State.reply_pending (s : State) (m : Nat) (ok : Bool) (d : Nat) : (s.reply m ok d).pending = s.pending := rfl
@[simp] theorem State.reply_out (s : State) (m : Nat) (ok : Bool) (d : Nat) : (s.reply m ok d).out = s.out := rfl
@[simp] theorem State.reply_resp (s : State) (m : Nat) (ok : Bool) (d : Nat) : (s.reply m ok d).resp = some ⟨m, ok, d⟩ := rfl
@[simp] theorem State.reply_free (s : State) (m : Nat) (ok : Bool) (d : Nat) : (s.reply m ok d).free = s.free := rfl
@[simp] theorem State.reply_beat (s : State) (m : Nat) (ok : Bool) (d : Nat) : (s.reply m ok d).beat = s.beat := rfl
@[simp] theorem State.reply_lbRun (s : State) (m : Nat) (ok : Bool) (d : Nat) : (s.reply m ok d).lbRun = s.lbRun := rfl
@[simp] theorem State.reply_regs (s : State) (m : Nat) (ok : Bool) (d : Nat) : (s.reply m ok d).regs = s.regs := rfl
@[simp] theorem State.reply_hiLatch (s : State) (m : Nat) (ok : Bool) (d : Nat) : (s.reply m ok d).hiLatch = s.hiLatch := rfl
@[simp] theorem State.reply_mem (s : State) (m : Nat) (ok : Bool) (d : Nat) : (s.reply m ok d).mem = s.mem := rfl
@[simp] theorem State.reply_nv (s : State) (m : Nat) (ok : Bool) (d : Nat) : (s.reply m ok d).nv = s.nv := rfl
@[simp] theorem State.reply_mode (s : State) (m : Nat) (ok : Bool) (d : Nat) : (s.reply m ok d).mode = s.mode := rfl
@[simp] theorem State.reply_flt (s : State) (m : Nat) (ok : Bool) (d : Nat) : (s.reply m ok d).flt = s.flt := rfl
@[simp] theorem State.reply_rst (s : State) (m : Nat) (ok : Bool) (d : Nat) : (s.reply m ok d).rst = s.rst := rfl
@[simp] theorem State.reply_host (s : State) (m : Nat) (ok : Bool) (d : Nat) : (s.reply m ok d).host = s.host := rfl
@[simp] theorem State.reply_escs (s : State) (m : Nat) (ok : Bool) (d : Nat) : (s.reply m ok d).escs = s.escs := rfl
@[simp] theorem State.reply_bars (s : State) (m : Nat) (ok : Bool) (d : Nat) : (s.reply m ok d).bars = s.bars := rfl
@[simp] theorem State.reply_starts (s : State) (m : Nat) (ok : Bool) (d : Nat) : (s.reply m ok d).starts = s.starts := rfl
@[simp] theorem State.reply_yieldDue (s : State) (m : Nat) (ok : Bool) (d : Nat) : (s.reply m ok d).yieldDue = s.yieldDue := rfl
@[simp] theorem State.reply_claims (s : State) (m : Nat) (ok : Bool) (d : Nat) : (s.reply m ok d).claims = s.claims := rfl
@[simp] theorem State.reply_seed (s : State) (m : Nat) (ok : Bool) (d : Nat) : (s.reply m ok d).seed = s.seed := rfl
@[simp] theorem State.reply_setps (s : State) (m : Nat) (ok : Bool) (d : Nat) : (s.reply m ok d).setps = s.setps := rfl
@[simp] theorem State.reply_regl (s : State) (m : Nat) (ok : Bool) (d : Nat) : (s.reply m ok d).regl = s.regl := rfl
@[simp] theorem State.reply_ports (s : State) (m : Nat) (ok : Bool) (d : Nat) : (s.reply m ok d).ports = s.ports := rfl
@[simp] theorem State.reply_portHold (s : State) (m : Nat) (ok : Bool) (d : Nat) : (s.reply m ok d).portHold = s.portHold := rfl
@[simp] theorem State.reply_ilkDiff (s : State) (m : Nat) (ok : Bool) (d : Nat) : (s.reply m ok d).ilkDiff = s.ilkDiff := rfl
@[simp] theorem State.reply_dial (s : State) (m : Nat) (ok : Bool) (d : Nat) : (s.reply m ok d).dial = s.dial := rfl
@[simp] theorem State.reply_ilkFirst (s : State) (m : Nat) (ok : Bool) (d : Nat) : (s.reply m ok d).ilkFirst = s.ilkFirst := rfl
@[simp] theorem State.reply_pins (s : State) (m : Nat) (ok : Bool) (d : Nat) : (s.reply m ok d).pins = s.pins := rfl
@[simp] theorem State.reply_req (s : State) (m : Nat) (ok : Bool) (d : Nat) : (s.reply m ok d).req = s.req := rfl
@[simp] theorem State.reply_capMaster (s : State) (m : Nat) (ok : Bool) (d : Nat) : (s.reply m ok d).capMaster = s.capMaster := rfl
@[simp] theorem State.reply_own (s : State) (m : Nat) (ok : Bool) (d : Nat) : (s.reply m ok d).own = s.own := rfl
@[simp] theorem State.reply_eccCount (s : State) (m : Nat) (ok : Bool) (d : Nat) : (s.reply m ok d).eccCount = s.eccCount := rfl
@[simp] theorem State.reply_setPrev (s : State) (m : Nat) (ok : Bool) (d : Nat) : (s.reply m ok d).setPrev = s.setPrev := rfl
@[simp] theorem State.reply_bal (s : State) (m : Nat) (ok : Bool) (d : Nat) : (s.reply m ok d).bal = s.bal := rfl
@[simp] theorem State.reply_hls (s : State) (m : Nat) (ok : Bool) (d : Nat) : (s.reply m ok d).hls = s.hls := rfl
@[simp] theorem State.reply_skz (s : State) (m : Nat) (ok : Bool) (d : Nat) : (s.reply m ok d).skz = s.skz := rfl
@[simp] theorem State.reply_img (s : State) (m : Nat) (ok : Bool) (d : Nat) : (s.reply m ok d).img = s.img := rfl
@[simp] theorem State.reply_ill (s : State) (m : Nat) (ok : Bool) (d : Nat) : (s.reply m ok d).ill = s.ill := rfl
@[simp] theorem State.reply_mot (s : State) (m : Nat) (ok : Bool) (d : Nat) : (s.reply m ok d).mot = s.mot := rfl
@[simp] theorem State.reply_cal (s : State) (m : Nat) (ok : Bool) (d : Nat) : (s.reply m ok d).cal = s.cal := rfl
@[simp] theorem State.reply_get (s : State) (m : Nat) (ok : Bool) (d : Nat) (g : Fld) : (s.reply m ok d).get g = s.get g := rfl

@[simp] theorem State.draw_pending (s : State) : (s.draw).pending = s.pending := rfl
@[simp] theorem State.draw_out (s : State) : (s.draw).out = s.out := rfl
@[simp] theorem State.draw_resp (s : State) : (s.draw).resp = s.resp := rfl
@[simp] theorem State.draw_free (s : State) : (s.draw).free = s.free + 1 := rfl
@[simp] theorem State.draw_beat (s : State) : (s.draw).beat = s.beat := rfl
@[simp] theorem State.draw_lbRun (s : State) : (s.draw).lbRun = s.lbRun := rfl
@[simp] theorem State.draw_regs (s : State) : (s.draw).regs = s.regs := rfl
@[simp] theorem State.draw_hiLatch (s : State) : (s.draw).hiLatch = s.hiLatch := rfl
@[simp] theorem State.draw_mem (s : State) : (s.draw).mem = s.mem := rfl
@[simp] theorem State.draw_nv (s : State) : (s.draw).nv = s.nv := rfl
@[simp] theorem State.draw_mode (s : State) : (s.draw).mode = s.mode := rfl
@[simp] theorem State.draw_flt (s : State) : (s.draw).flt = s.flt := rfl
@[simp] theorem State.draw_rst (s : State) : (s.draw).rst = s.rst := rfl
@[simp] theorem State.draw_host (s : State) : (s.draw).host = s.host := rfl
@[simp] theorem State.draw_escs (s : State) : (s.draw).escs = s.escs := rfl
@[simp] theorem State.draw_bars (s : State) : (s.draw).bars = s.bars := rfl
@[simp] theorem State.draw_starts (s : State) : (s.draw).starts = s.starts := rfl
@[simp] theorem State.draw_yieldDue (s : State) : (s.draw).yieldDue = s.yieldDue := rfl
@[simp] theorem State.draw_claims (s : State) : (s.draw).claims = s.claims := rfl
@[simp] theorem State.draw_seed (s : State) : (s.draw).seed = s.seed := rfl
@[simp] theorem State.draw_setps (s : State) : (s.draw).setps = s.setps := rfl
@[simp] theorem State.draw_regl (s : State) : (s.draw).regl = s.regl := rfl
@[simp] theorem State.draw_ports (s : State) : (s.draw).ports = s.ports := rfl
@[simp] theorem State.draw_portHold (s : State) : (s.draw).portHold = s.portHold := rfl
@[simp] theorem State.draw_ilkDiff (s : State) : (s.draw).ilkDiff = s.ilkDiff := rfl
@[simp] theorem State.draw_dial (s : State) : (s.draw).dial = s.dial := rfl
@[simp] theorem State.draw_ilkFirst (s : State) : (s.draw).ilkFirst = s.ilkFirst := rfl
@[simp] theorem State.draw_pins (s : State) : (s.draw).pins = s.pins := rfl
@[simp] theorem State.draw_req (s : State) : (s.draw).req = s.req := rfl
@[simp] theorem State.draw_capMaster (s : State) : (s.draw).capMaster = s.capMaster := rfl
@[simp] theorem State.draw_own (s : State) : (s.draw).own = s.own := rfl
@[simp] theorem State.draw_eccCount (s : State) : (s.draw).eccCount = s.eccCount := rfl
@[simp] theorem State.draw_setPrev (s : State) : (s.draw).setPrev = s.setPrev := rfl
@[simp] theorem State.draw_bal (s : State) : (s.draw).bal = s.bal := rfl
@[simp] theorem State.draw_hls (s : State) : (s.draw).hls = s.hls := rfl
@[simp] theorem State.draw_skz (s : State) : (s.draw).skz = s.skz := rfl
@[simp] theorem State.draw_img (s : State) : (s.draw).img = s.img := rfl
@[simp] theorem State.draw_ill (s : State) : (s.draw).ill = s.ill := rfl
@[simp] theorem State.draw_mot (s : State) : (s.draw).mot = s.mot := rfl
@[simp] theorem State.draw_cal (s : State) : (s.draw).cal = s.cal := rfl
@[simp] theorem State.draw_get (s : State) (g : Fld) : (s.draw).get g = s.get g := rfl

@[simp] theorem State.setByte_pending (s : State) (a : Nat) (v : Byte) : (s.setByte a v).pending = s.pending := rfl
@[simp] theorem State.setByte_out (s : State) (a : Nat) (v : Byte) : (s.setByte a v).out = s.out := rfl
@[simp] theorem State.setByte_resp (s : State) (a : Nat) (v : Byte) : (s.setByte a v).resp = s.resp := rfl
@[simp] theorem State.setByte_free (s : State) (a : Nat) (v : Byte) : (s.setByte a v).free = s.free := rfl
@[simp] theorem State.setByte_beat (s : State) (a : Nat) (v : Byte) : (s.setByte a v).beat = s.beat := rfl
@[simp] theorem State.setByte_lbRun (s : State) (a : Nat) (v : Byte) : (s.setByte a v).lbRun = s.lbRun := rfl
@[simp] theorem State.setByte_regs (s : State) (a : Nat) (v : Byte) : (s.setByte a v).regs = s.regs := rfl
@[simp] theorem State.setByte_hiLatch (s : State) (a : Nat) (v : Byte) : (s.setByte a v).hiLatch = s.hiLatch := rfl
@[simp] theorem State.setByte_mem (s : State) (a : Nat) (v : Byte) : (s.setByte a v).mem = Sparse.put memDefault s.mem a v := rfl
@[simp] theorem State.setByte_nv (s : State) (a : Nat) (v : Byte) : (s.setByte a v).nv = s.nv := rfl
@[simp] theorem State.setByte_mode (s : State) (a : Nat) (v : Byte) : (s.setByte a v).mode = s.mode := rfl
@[simp] theorem State.setByte_flt (s : State) (a : Nat) (v : Byte) : (s.setByte a v).flt = s.flt := rfl
@[simp] theorem State.setByte_rst (s : State) (a : Nat) (v : Byte) : (s.setByte a v).rst = s.rst := rfl
@[simp] theorem State.setByte_host (s : State) (a : Nat) (v : Byte) : (s.setByte a v).host = s.host := rfl
@[simp] theorem State.setByte_escs (s : State) (a : Nat) (v : Byte) : (s.setByte a v).escs = s.escs := rfl
@[simp] theorem State.setByte_bars (s : State) (a : Nat) (v : Byte) : (s.setByte a v).bars = s.bars := rfl
@[simp] theorem State.setByte_starts (s : State) (a : Nat) (v : Byte) : (s.setByte a v).starts = s.starts := rfl
@[simp] theorem State.setByte_yieldDue (s : State) (a : Nat) (v : Byte) : (s.setByte a v).yieldDue = s.yieldDue := rfl
@[simp] theorem State.setByte_claims (s : State) (a : Nat) (v : Byte) : (s.setByte a v).claims = s.claims := rfl
@[simp] theorem State.setByte_seed (s : State) (a : Nat) (v : Byte) : (s.setByte a v).seed = s.seed := rfl
@[simp] theorem State.setByte_setps (s : State) (a : Nat) (v : Byte) : (s.setByte a v).setps = s.setps := rfl
@[simp] theorem State.setByte_regl (s : State) (a : Nat) (v : Byte) : (s.setByte a v).regl = s.regl := rfl
@[simp] theorem State.setByte_ports (s : State) (a : Nat) (v : Byte) : (s.setByte a v).ports = s.ports := rfl
@[simp] theorem State.setByte_portHold (s : State) (a : Nat) (v : Byte) : (s.setByte a v).portHold = s.portHold := rfl
@[simp] theorem State.setByte_ilkDiff (s : State) (a : Nat) (v : Byte) : (s.setByte a v).ilkDiff = s.ilkDiff := rfl
@[simp] theorem State.setByte_dial (s : State) (a : Nat) (v : Byte) : (s.setByte a v).dial = s.dial := rfl
@[simp] theorem State.setByte_ilkFirst (s : State) (a : Nat) (v : Byte) : (s.setByte a v).ilkFirst = s.ilkFirst := rfl
@[simp] theorem State.setByte_pins (s : State) (a : Nat) (v : Byte) : (s.setByte a v).pins = s.pins := rfl
@[simp] theorem State.setByte_req (s : State) (a : Nat) (v : Byte) : (s.setByte a v).req = s.req := rfl
@[simp] theorem State.setByte_capMaster (s : State) (a : Nat) (v : Byte) : (s.setByte a v).capMaster = s.capMaster := rfl
@[simp] theorem State.setByte_own (s : State) (a : Nat) (v : Byte) : (s.setByte a v).own = s.own := rfl
@[simp] theorem State.setByte_eccCount (s : State) (a : Nat) (v : Byte) : (s.setByte a v).eccCount = s.eccCount := rfl
@[simp] theorem State.setByte_setPrev (s : State) (a : Nat) (v : Byte) : (s.setByte a v).setPrev = s.setPrev := rfl
@[simp] theorem State.setByte_bal (s : State) (a : Nat) (v : Byte) : (s.setByte a v).bal = s.bal := rfl
@[simp] theorem State.setByte_hls (s : State) (a : Nat) (v : Byte) : (s.setByte a v).hls = s.hls := rfl
@[simp] theorem State.setByte_skz (s : State) (a : Nat) (v : Byte) : (s.setByte a v).skz = s.skz := rfl
@[simp] theorem State.setByte_img (s : State) (a : Nat) (v : Byte) : (s.setByte a v).img = s.img := rfl
@[simp] theorem State.setByte_ill (s : State) (a : Nat) (v : Byte) : (s.setByte a v).ill = s.ill := rfl
@[simp] theorem State.setByte_mot (s : State) (a : Nat) (v : Byte) : (s.setByte a v).mot = s.mot := rfl
@[simp] theorem State.setByte_cal (s : State) (a : Nat) (v : Byte) : (s.setByte a v).cal = s.cal := rfl
@[simp] theorem State.setByte_get (s : State) (a : Nat) (v : Byte) (g : Fld) : (s.setByte a v).get g = s.get g := rfl

@[simp] theorem State.setEsc_pending (s : State) (n : Nat) (e : EscSt) : (s.setEsc n e).pending = s.pending := rfl
@[simp] theorem State.setEsc_out (s : State) (n : Nat) (e : EscSt) : (s.setEsc n e).out = s.out := rfl
@[simp] theorem State.setEsc_resp (s : State) (n : Nat) (e : EscSt) : (s.setEsc n e).resp = s.resp := rfl
@[simp] theorem State.setEsc_free (s : State) (n : Nat) (e : EscSt) : (s.setEsc n e).free = s.free := rfl
@[simp] theorem State.setEsc_beat (s : State) (n : Nat) (e : EscSt) : (s.setEsc n e).beat = s.beat := rfl
@[simp] theorem State.setEsc_lbRun (s : State) (n : Nat) (e : EscSt) : (s.setEsc n e).lbRun = s.lbRun := rfl
@[simp] theorem State.setEsc_regs (s : State) (n : Nat) (e : EscSt) : (s.setEsc n e).regs = s.regs := rfl
@[simp] theorem State.setEsc_hiLatch (s : State) (n : Nat) (e : EscSt) : (s.setEsc n e).hiLatch = s.hiLatch := rfl
@[simp] theorem State.setEsc_mem (s : State) (n : Nat) (e : EscSt) : (s.setEsc n e).mem = s.mem := rfl
@[simp] theorem State.setEsc_nv (s : State) (n : Nat) (e : EscSt) : (s.setEsc n e).nv = s.nv := rfl
@[simp] theorem State.setEsc_mode (s : State) (n : Nat) (e : EscSt) : (s.setEsc n e).mode = s.mode := rfl
@[simp] theorem State.setEsc_flt (s : State) (n : Nat) (e : EscSt) : (s.setEsc n e).flt = s.flt := rfl
@[simp] theorem State.setEsc_rst (s : State) (n : Nat) (e : EscSt) : (s.setEsc n e).rst = s.rst := rfl
@[simp] theorem State.setEsc_host (s : State) (n : Nat) (e : EscSt) : (s.setEsc n e).host = s.host := rfl
@[simp] theorem State.setEsc_bars (s : State) (n : Nat) (e : EscSt) : (s.setEsc n e).bars = s.bars := rfl
@[simp] theorem State.setEsc_starts (s : State) (n : Nat) (e : EscSt) : (s.setEsc n e).starts = s.starts := rfl
@[simp] theorem State.setEsc_yieldDue (s : State) (n : Nat) (e : EscSt) : (s.setEsc n e).yieldDue = s.yieldDue := rfl
@[simp] theorem State.setEsc_claims (s : State) (n : Nat) (e : EscSt) : (s.setEsc n e).claims = s.claims := rfl
@[simp] theorem State.setEsc_seed (s : State) (n : Nat) (e : EscSt) : (s.setEsc n e).seed = s.seed := rfl
@[simp] theorem State.setEsc_setps (s : State) (n : Nat) (e : EscSt) : (s.setEsc n e).setps = s.setps := rfl
@[simp] theorem State.setEsc_regl (s : State) (n : Nat) (e : EscSt) : (s.setEsc n e).regl = s.regl := rfl
@[simp] theorem State.setEsc_ports (s : State) (n : Nat) (e : EscSt) : (s.setEsc n e).ports = s.ports := rfl
@[simp] theorem State.setEsc_portHold (s : State) (n : Nat) (e : EscSt) : (s.setEsc n e).portHold = s.portHold := rfl
@[simp] theorem State.setEsc_ilkDiff (s : State) (n : Nat) (e : EscSt) : (s.setEsc n e).ilkDiff = s.ilkDiff := rfl
@[simp] theorem State.setEsc_dial (s : State) (n : Nat) (e : EscSt) : (s.setEsc n e).dial = s.dial := rfl
@[simp] theorem State.setEsc_ilkFirst (s : State) (n : Nat) (e : EscSt) : (s.setEsc n e).ilkFirst = s.ilkFirst := rfl
@[simp] theorem State.setEsc_pins (s : State) (n : Nat) (e : EscSt) : (s.setEsc n e).pins = s.pins := rfl
@[simp] theorem State.setEsc_req (s : State) (n : Nat) (e : EscSt) : (s.setEsc n e).req = s.req := rfl
@[simp] theorem State.setEsc_capMaster (s : State) (n : Nat) (e : EscSt) : (s.setEsc n e).capMaster = s.capMaster := rfl
@[simp] theorem State.setEsc_own (s : State) (n : Nat) (e : EscSt) : (s.setEsc n e).own = s.own := rfl
@[simp] theorem State.setEsc_eccCount (s : State) (n : Nat) (e : EscSt) : (s.setEsc n e).eccCount = s.eccCount := rfl
@[simp] theorem State.setEsc_setPrev (s : State) (n : Nat) (e : EscSt) : (s.setEsc n e).setPrev = s.setPrev := rfl
@[simp] theorem State.setEsc_bal (s : State) (n : Nat) (e : EscSt) : (s.setEsc n e).bal = s.bal := rfl
@[simp] theorem State.setEsc_hls (s : State) (n : Nat) (e : EscSt) : (s.setEsc n e).hls = s.hls := rfl
@[simp] theorem State.setEsc_skz (s : State) (n : Nat) (e : EscSt) : (s.setEsc n e).skz = s.skz := rfl
@[simp] theorem State.setEsc_img (s : State) (n : Nat) (e : EscSt) : (s.setEsc n e).img = s.img := rfl
@[simp] theorem State.setEsc_ill (s : State) (n : Nat) (e : EscSt) : (s.setEsc n e).ill = s.ill := rfl
@[simp] theorem State.setEsc_mot (s : State) (n : Nat) (e : EscSt) : (s.setEsc n e).mot = s.mot := rfl
@[simp] theorem State.setEsc_cal (s : State) (n : Nat) (e : EscSt) : (s.setEsc n e).cal = s.cal := rfl
@[simp] theorem State.setEsc_get (s : State) (n : Nat) (e : EscSt) (g : Fld) : (s.setEsc n e).get g = s.get g := rfl

@[simp] theorem State.modEsc_pending (s : State) (n : Nat) (e : EscSt → EscSt) : (s.modEsc n e).pending = s.pending := rfl
@[simp] theorem State.modEsc_out (s : State) (n : Nat) (e : EscSt → EscSt) : (s.modEsc n e).out = s.out := rfl
@[simp] theorem State.modEsc_resp (s : State) (n : Nat) (e : EscSt → EscSt) : (s.modEsc n e).resp = s.resp := rfl
@[simp] theorem State.modEsc_free (s : State) (n : Nat) (e : EscSt → EscSt) : (s.modEsc n e).free = s.free := rfl
@[simp] theorem State.modEsc_beat (s : State) (n : Nat) (e : EscSt → EscSt) : (s.modEsc n e).beat = s.beat := rfl
@[simp] theorem State.modEsc_lbRun (s : State) (n : Nat) (e : EscSt → EscSt) : (s.modEsc n e).lbRun = s.lbRun := rfl
@[simp] theorem State.modEsc_regs (s : State) (n : Nat) (e : EscSt → EscSt) : (s.modEsc n e).regs = s.regs := rfl
@[simp] theorem State.modEsc_hiLatch (s : State) (n : Nat) (e : EscSt → EscSt) : (s.modEsc n e).hiLatch = s.hiLatch := rfl
@[simp] theorem State.modEsc_mem (s : State) (n : Nat) (e : EscSt → EscSt) : (s.modEsc n e).mem = s.mem := rfl
@[simp] theorem State.modEsc_nv (s : State) (n : Nat) (e : EscSt → EscSt) : (s.modEsc n e).nv = s.nv := rfl
@[simp] theorem State.modEsc_mode (s : State) (n : Nat) (e : EscSt → EscSt) : (s.modEsc n e).mode = s.mode := rfl
@[simp] theorem State.modEsc_flt (s : State) (n : Nat) (e : EscSt → EscSt) : (s.modEsc n e).flt = s.flt := rfl
@[simp] theorem State.modEsc_rst (s : State) (n : Nat) (e : EscSt → EscSt) : (s.modEsc n e).rst = s.rst := rfl
@[simp] theorem State.modEsc_host (s : State) (n : Nat) (e : EscSt → EscSt) : (s.modEsc n e).host = s.host := rfl
@[simp] theorem State.modEsc_bars (s : State) (n : Nat) (e : EscSt → EscSt) : (s.modEsc n e).bars = s.bars := rfl
@[simp] theorem State.modEsc_starts (s : State) (n : Nat) (e : EscSt → EscSt) : (s.modEsc n e).starts = s.starts := rfl
@[simp] theorem State.modEsc_yieldDue (s : State) (n : Nat) (e : EscSt → EscSt) : (s.modEsc n e).yieldDue = s.yieldDue := rfl
@[simp] theorem State.modEsc_claims (s : State) (n : Nat) (e : EscSt → EscSt) : (s.modEsc n e).claims = s.claims := rfl
@[simp] theorem State.modEsc_seed (s : State) (n : Nat) (e : EscSt → EscSt) : (s.modEsc n e).seed = s.seed := rfl
@[simp] theorem State.modEsc_setps (s : State) (n : Nat) (e : EscSt → EscSt) : (s.modEsc n e).setps = s.setps := rfl
@[simp] theorem State.modEsc_regl (s : State) (n : Nat) (e : EscSt → EscSt) : (s.modEsc n e).regl = s.regl := rfl
@[simp] theorem State.modEsc_ports (s : State) (n : Nat) (e : EscSt → EscSt) : (s.modEsc n e).ports = s.ports := rfl
@[simp] theorem State.modEsc_portHold (s : State) (n : Nat) (e : EscSt → EscSt) : (s.modEsc n e).portHold = s.portHold := rfl
@[simp] theorem State.modEsc_ilkDiff (s : State) (n : Nat) (e : EscSt → EscSt) : (s.modEsc n e).ilkDiff = s.ilkDiff := rfl
@[simp] theorem State.modEsc_dial (s : State) (n : Nat) (e : EscSt → EscSt) : (s.modEsc n e).dial = s.dial := rfl
@[simp] theorem State.modEsc_ilkFirst (s : State) (n : Nat) (e : EscSt → EscSt) : (s.modEsc n e).ilkFirst = s.ilkFirst := rfl
@[simp] theorem State.modEsc_pins (s : State) (n : Nat) (e : EscSt → EscSt) : (s.modEsc n e).pins = s.pins := rfl
@[simp] theorem State.modEsc_req (s : State) (n : Nat) (e : EscSt → EscSt) : (s.modEsc n e).req = s.req := rfl
@[simp] theorem State.modEsc_capMaster (s : State) (n : Nat) (e : EscSt → EscSt) : (s.modEsc n e).capMaster = s.capMaster := rfl
@[simp] theorem State.modEsc_own (s : State) (n : Nat) (e : EscSt → EscSt) : (s.modEsc n e).own = s.own := rfl
@[simp] theorem State.modEsc_eccCount (s : State) (n : Nat) (e : EscSt → EscSt) : (s.modEsc n e).eccCount = s.eccCount := rfl
@[simp] theorem State.modEsc_setPrev (s : State) (n : Nat) (e : EscSt → EscSt) : (s.modEsc n e).setPrev = s.setPrev := rfl
@[simp] theorem State.modEsc_bal (s : State) (n : Nat) (e : EscSt → EscSt) : (s.modEsc n e).bal = s.bal := rfl
@[simp] theorem State.modEsc_hls (s : State) (n : Nat) (e : EscSt → EscSt) : (s.modEsc n e).hls = s.hls := rfl
@[simp] theorem State.modEsc_skz (s : State) (n : Nat) (e : EscSt → EscSt) : (s.modEsc n e).skz = s.skz := rfl
@[simp] theorem State.modEsc_img (s : State) (n : Nat) (e : EscSt → EscSt) : (s.modEsc n e).img = s.img := rfl
@[simp] theorem State.modEsc_ill (s : State) (n : Nat) (e : EscSt → EscSt) : (s.modEsc n e).ill = s.ill := rfl
@[simp] theorem State.modEsc_mot (s : State) (n : Nat) (e : EscSt → EscSt) : (s.modEsc n e).mot = s.mot := rfl
@[simp] theorem State.modEsc_cal (s : State) (n : Nat) (e : EscSt → EscSt) : (s.modEsc n e).cal = s.cal := rfl
@[simp] theorem State.modEsc_get (s : State) (n : Nat) (e : EscSt → EscSt) (g : Fld) : (s.modEsc n e).get g = s.get g := rfl

@[simp] theorem State.setPort_pending (s : State) (n : Nat) (p : PortSt) : (s.setPort n p).pending = s.pending := rfl
@[simp] theorem State.setPort_out (s : State) (n : Nat) (p : PortSt) : (s.setPort n p).out = s.out := rfl
@[simp] theorem State.setPort_resp (s : State) (n : Nat) (p : PortSt) : (s.setPort n p).resp = s.resp := rfl
@[simp] theorem State.setPort_free (s : State) (n : Nat) (p : PortSt) : (s.setPort n p).free = s.free := rfl
@[simp] theorem State.setPort_beat (s : State) (n : Nat) (p : PortSt) : (s.setPort n p).beat = s.beat := rfl
@[simp] theorem State.setPort_lbRun (s : State) (n : Nat) (p : PortSt) : (s.setPort n p).lbRun = s.lbRun := rfl
@[simp] theorem State.setPort_regs (s : State) (n : Nat) (p : PortSt) : (s.setPort n p).regs = s.regs := rfl
@[simp] theorem State.setPort_hiLatch (s : State) (n : Nat) (p : PortSt) : (s.setPort n p).hiLatch = s.hiLatch := rfl
@[simp] theorem State.setPort_mem (s : State) (n : Nat) (p : PortSt) : (s.setPort n p).mem = s.mem := rfl
@[simp] theorem State.setPort_nv (s : State) (n : Nat) (p : PortSt) : (s.setPort n p).nv = s.nv := rfl
@[simp] theorem State.setPort_mode (s : State) (n : Nat) (p : PortSt) : (s.setPort n p).mode = s.mode := rfl
@[simp] theorem State.setPort_flt (s : State) (n : Nat) (p : PortSt) : (s.setPort n p).flt = s.flt := rfl
@[simp] theorem State.setPort_rst (s : State) (n : Nat) (p : PortSt) : (s.setPort n p).rst = s.rst := rfl
@[simp] theorem State.setPort_host (s : State) (n : Nat) (p : PortSt) : (s.setPort n p).host = s.host := rfl
@[simp] theorem State.setPort_escs (s : State) (n : Nat) (p : PortSt) : (s.setPort n p).escs = s.escs := rfl
@[simp] theorem State.setPort_bars (s : State) (n : Nat) (p : PortSt) : (s.setPort n p).bars = s.bars := rfl
@[simp] theorem State.setPort_starts (s : State) (n : Nat) (p : PortSt) : (s.setPort n p).starts = s.starts := rfl
@[simp] theorem State.setPort_yieldDue (s : State) (n : Nat) (p : PortSt) : (s.setPort n p).yieldDue = s.yieldDue := rfl
@[simp] theorem State.setPort_claims (s : State) (n : Nat) (p : PortSt) : (s.setPort n p).claims = s.claims := rfl
@[simp] theorem State.setPort_seed (s : State) (n : Nat) (p : PortSt) : (s.setPort n p).seed = s.seed := rfl
@[simp] theorem State.setPort_setps (s : State) (n : Nat) (p : PortSt) : (s.setPort n p).setps = s.setps := rfl
@[simp] theorem State.setPort_regl (s : State) (n : Nat) (p : PortSt) : (s.setPort n p).regl = s.regl := rfl
@[simp] theorem State.setPort_portHold (s : State) (n : Nat) (p : PortSt) : (s.setPort n p).portHold = s.portHold := rfl
@[simp] theorem State.setPort_ilkDiff (s : State) (n : Nat) (p : PortSt) : (s.setPort n p).ilkDiff = s.ilkDiff := rfl
@[simp] theorem State.setPort_dial (s : State) (n : Nat) (p : PortSt) : (s.setPort n p).dial = s.dial := rfl
@[simp] theorem State.setPort_ilkFirst (s : State) (n : Nat) (p : PortSt) : (s.setPort n p).ilkFirst = s.ilkFirst := rfl
@[simp] theorem State.setPort_pins (s : State) (n : Nat) (p : PortSt) : (s.setPort n p).pins = s.pins := rfl
@[simp] theorem State.setPort_req (s : State) (n : Nat) (p : PortSt) : (s.setPort n p).req = s.req := rfl
@[simp] theorem State.setPort_capMaster (s : State) (n : Nat) (p : PortSt) : (s.setPort n p).capMaster = s.capMaster := rfl
@[simp] theorem State.setPort_own (s : State) (n : Nat) (p : PortSt) : (s.setPort n p).own = s.own := rfl
@[simp] theorem State.setPort_eccCount (s : State) (n : Nat) (p : PortSt) : (s.setPort n p).eccCount = s.eccCount := rfl
@[simp] theorem State.setPort_setPrev (s : State) (n : Nat) (p : PortSt) : (s.setPort n p).setPrev = s.setPrev := rfl
@[simp] theorem State.setPort_bal (s : State) (n : Nat) (p : PortSt) : (s.setPort n p).bal = s.bal := rfl
@[simp] theorem State.setPort_hls (s : State) (n : Nat) (p : PortSt) : (s.setPort n p).hls = s.hls := rfl
@[simp] theorem State.setPort_skz (s : State) (n : Nat) (p : PortSt) : (s.setPort n p).skz = s.skz := rfl
@[simp] theorem State.setPort_img (s : State) (n : Nat) (p : PortSt) : (s.setPort n p).img = s.img := rfl
@[simp] theorem State.setPort_ill (s : State) (n : Nat) (p : PortSt) : (s.setPort n p).ill = s.ill := rfl
@[simp] theorem State.setPort_mot (s : State) (n : Nat) (p : PortSt) : (s.setPort n p).mot = s.mot := rfl
@[simp] theorem State.setPort_cal (s : State) (n : Nat) (p : PortSt) : (s.setPort n p).cal = s.cal := rfl
@[simp] theorem State.setPort_get (s : State) (n : Nat) (p : PortSt) (g : Fld) : (s.setPort n p).get g = s.get g := rfl

@[simp] theorem State.setReg_pending (s : State) (n : Nat) (r : RegSt) : (s.setReg n r).pending = s.pending := rfl
@[simp] theorem State.setReg_out (s : State) (n : Nat) (r : RegSt) : (s.setReg n r).out = s.out := rfl
@[simp] theorem State.setReg_resp (s : State) (n : Nat) (r : RegSt) : (s.setReg n r).resp = s.resp := rfl
@[simp] theorem State.setReg_free (s : State) (n : Nat) (r : RegSt) : (s.setReg n r).free = s.free := rfl
@[simp] theorem State.setReg_beat (s : State) (n : Nat) (r : RegSt) : (s.setReg n r).beat = s.beat := rfl
@[simp] theorem State.setReg_lbRun (s : State) (n : Nat) (r : RegSt) : (s.setReg n r).lbRun = s.lbRun := rfl
@[simp] theorem State.setReg_regs (s : State) (n : Nat) (r : RegSt) : (s.setReg n r).regs = s.regs := rfl
@[simp] theorem State.setReg_hiLatch (s : State) (n : Nat) (r : RegSt) : (s.setReg n r).hiLatch = s.hiLatch := rfl
@[simp] theorem State.setReg_mem (s : State) (n : Nat) (r : RegSt) : (s.setReg n r).mem = s.mem := rfl
@[simp] theorem State.setReg_nv (s : State) (n : Nat) (r : RegSt) : (s.setReg n r).nv = s.nv := rfl
@[simp] theorem State.setReg_mode (s : State) (n : Nat) (r : RegSt) : (s.setReg n r).mode = s.mode := rfl
@[simp] theorem State.setReg_flt (s : State) (n : Nat) (r : RegSt) : (s.setReg n r).flt = s.flt := rfl
@[simp] theorem State.setReg_rst (s : State) (n : Nat) (r : RegSt) : (s.setReg n r).rst = s.rst := rfl
@[simp] theorem State.setReg_host (s : State) (n : Nat) (r : RegSt) : (s.setReg n r).host = s.host := rfl
@[simp] theorem State.setReg_escs (s : State) (n : Nat) (r : RegSt) : (s.setReg n r).escs = s.escs := rfl
@[simp] theorem State.setReg_bars (s : State) (n : Nat) (r : RegSt) : (s.setReg n r).bars = s.bars := rfl
@[simp] theorem State.setReg_starts (s : State) (n : Nat) (r : RegSt) : (s.setReg n r).starts = s.starts := rfl
@[simp] theorem State.setReg_yieldDue (s : State) (n : Nat) (r : RegSt) : (s.setReg n r).yieldDue = s.yieldDue := rfl
@[simp] theorem State.setReg_claims (s : State) (n : Nat) (r : RegSt) : (s.setReg n r).claims = s.claims := rfl
@[simp] theorem State.setReg_seed (s : State) (n : Nat) (r : RegSt) : (s.setReg n r).seed = s.seed := rfl
@[simp] theorem State.setReg_setps (s : State) (n : Nat) (r : RegSt) : (s.setReg n r).setps = s.setps := rfl
@[simp] theorem State.setReg_ports (s : State) (n : Nat) (r : RegSt) : (s.setReg n r).ports = s.ports := rfl
@[simp] theorem State.setReg_portHold (s : State) (n : Nat) (r : RegSt) : (s.setReg n r).portHold = s.portHold := rfl
@[simp] theorem State.setReg_ilkDiff (s : State) (n : Nat) (r : RegSt) : (s.setReg n r).ilkDiff = s.ilkDiff := rfl
@[simp] theorem State.setReg_dial (s : State) (n : Nat) (r : RegSt) : (s.setReg n r).dial = s.dial := rfl
@[simp] theorem State.setReg_ilkFirst (s : State) (n : Nat) (r : RegSt) : (s.setReg n r).ilkFirst = s.ilkFirst := rfl
@[simp] theorem State.setReg_pins (s : State) (n : Nat) (r : RegSt) : (s.setReg n r).pins = s.pins := rfl
@[simp] theorem State.setReg_req (s : State) (n : Nat) (r : RegSt) : (s.setReg n r).req = s.req := rfl
@[simp] theorem State.setReg_capMaster (s : State) (n : Nat) (r : RegSt) : (s.setReg n r).capMaster = s.capMaster := rfl
@[simp] theorem State.setReg_own (s : State) (n : Nat) (r : RegSt) : (s.setReg n r).own = s.own := rfl
@[simp] theorem State.setReg_eccCount (s : State) (n : Nat) (r : RegSt) : (s.setReg n r).eccCount = s.eccCount := rfl
@[simp] theorem State.setReg_setPrev (s : State) (n : Nat) (r : RegSt) : (s.setReg n r).setPrev = s.setPrev := rfl
@[simp] theorem State.setReg_bal (s : State) (n : Nat) (r : RegSt) : (s.setReg n r).bal = s.bal := rfl
@[simp] theorem State.setReg_hls (s : State) (n : Nat) (r : RegSt) : (s.setReg n r).hls = s.hls := rfl
@[simp] theorem State.setReg_skz (s : State) (n : Nat) (r : RegSt) : (s.setReg n r).skz = s.skz := rfl
@[simp] theorem State.setReg_img (s : State) (n : Nat) (r : RegSt) : (s.setReg n r).img = s.img := rfl
@[simp] theorem State.setReg_ill (s : State) (n : Nat) (r : RegSt) : (s.setReg n r).ill = s.ill := rfl
@[simp] theorem State.setReg_mot (s : State) (n : Nat) (r : RegSt) : (s.setReg n r).mot = s.mot := rfl
@[simp] theorem State.setReg_cal (s : State) (n : Nat) (r : RegSt) : (s.setReg n r).cal = s.cal := rfl
@[simp] theorem State.setReg_get (s : State) (n : Nat) (r : RegSt) (g : Fld) : (s.setReg n r).get g = s.get g := rfl

@[simp] theorem State.setHl_pending (s : State) (n : Nat) (x : HlSt) : (s.setHl n x).pending = s.pending := rfl
@[simp] theorem State.setHl_out (s : State) (n : Nat) (x : HlSt) : (s.setHl n x).out = s.out := rfl
@[simp] theorem State.setHl_resp (s : State) (n : Nat) (x : HlSt) : (s.setHl n x).resp = s.resp := rfl
@[simp] theorem State.setHl_free (s : State) (n : Nat) (x : HlSt) : (s.setHl n x).free = s.free := rfl
@[simp] theorem State.setHl_beat (s : State) (n : Nat) (x : HlSt) : (s.setHl n x).beat = s.beat := rfl
@[simp] theorem State.setHl_lbRun (s : State) (n : Nat) (x : HlSt) : (s.setHl n x).lbRun = s.lbRun := rfl
@[simp] theorem State.setHl_regs (s : State) (n : Nat) (x : HlSt) : (s.setHl n x).regs = s.regs := rfl
@[simp] theorem State.setHl_hiLatch (s : State) (n : Nat) (x : HlSt) : (s.setHl n x).hiLatch = s.hiLatch := rfl
@[simp] theorem State.setHl_mem (s : State) (n : Nat) (x : HlSt) : (s.setHl n x).mem = s.mem := rfl
@[simp] theorem State.setHl_nv (s : State) (n : Nat) (x : HlSt) : (s.setHl n x).nv = s.nv := rfl
@[simp] theorem State.setHl_mode (s : State) (n : Nat) (x : HlSt) : (s.setHl n x).mode = s.mode := rfl
@[simp] theorem State.setHl_flt (s : State) (n : Nat) (x : HlSt) : (s.setHl n x).flt = s.flt := rfl
@[simp] theorem State.setHl_rst (s : State) (n : Nat) (x : HlSt) : (s.setHl n x).rst = s.rst := rfl
@[simp] theorem State.setHl_host (s : State) (n : Nat) (x : HlSt) : (s.setHl n x).host = s.host := rfl
@[simp] theorem State.setHl_escs (s : State) (n : Nat) (x : HlSt) : (s.setHl n x).escs = s.escs := rfl
@[simp] theorem State.setHl_bars (s : State) (n : Nat) (x : HlSt) : (s.setHl n x).bars = s.bars := rfl
@[simp] theorem State.setHl_starts (s : State) (n : Nat) (x : HlSt) : (s.setHl n x).starts = s.starts := rfl
@[simp] theorem State.setHl_yieldDue (s : State) (n : Nat) (x : HlSt) : (s.setHl n x).yieldDue = s.yieldDue := rfl
@[simp] theorem State.setHl_claims (s : State) (n : Nat) (x : HlSt) : (s.setHl n x).claims = s.claims := rfl
@[simp] theorem State.setHl_seed (s : State) (n : Nat) (x : HlSt) : (s.setHl n x).seed = s.seed := rfl
@[simp] theorem State.setHl_setps (s : State) (n : Nat) (x : HlSt) : (s.setHl n x).setps = s.setps := rfl
@[simp] theorem State.setHl_regl (s : State) (n : Nat) (x : HlSt) : (s.setHl n x).regl = s.regl := rfl
@[simp] theorem State.setHl_ports (s : State) (n : Nat) (x : HlSt) : (s.setHl n x).ports = s.ports := rfl
@[simp] theorem State.setHl_portHold (s : State) (n : Nat) (x : HlSt) : (s.setHl n x).portHold = s.portHold := rfl
@[simp] theorem State.setHl_ilkDiff (s : State) (n : Nat) (x : HlSt) : (s.setHl n x).ilkDiff = s.ilkDiff := rfl
@[simp] theorem State.setHl_dial (s : State) (n : Nat) (x : HlSt) : (s.setHl n x).dial = s.dial := rfl
@[simp] theorem State.setHl_ilkFirst (s : State) (n : Nat) (x : HlSt) : (s.setHl n x).ilkFirst = s.ilkFirst := rfl
@[simp] theorem State.setHl_pins (s : State) (n : Nat) (x : HlSt) : (s.setHl n x).pins = s.pins := rfl
@[simp] theorem State.setHl_req (s : State) (n : Nat) (x : HlSt) : (s.setHl n x).req = s.req := rfl
@[simp] theorem State.setHl_capMaster (s : State) (n : Nat) (x : HlSt) : (s.setHl n x).capMaster = s.capMaster := rfl
@[simp] theorem State.setHl_own (s : State) (n : Nat) (x : HlSt) : (s.setHl n x).own = s.own := rfl
@[simp] theorem State.setHl_eccCount (s : State) (n : Nat) (x : HlSt) : (s.setHl n x).eccCount = s.eccCount := rfl
@[simp] theorem State.setHl_setPrev (s : State) (n : Nat) (x : HlSt) : (s.setHl n x).setPrev = s.setPrev := rfl
@[simp] theorem State.setHl_bal (s : State) (n : Nat) (x : HlSt) : (s.setHl n x).bal = s.bal := rfl
@[simp] theorem State.setHl_skz (s : State) (n : Nat) (x : HlSt) : (s.setHl n x).skz = s.skz := rfl
@[simp] theorem State.setHl_img (s : State) (n : Nat) (x : HlSt) : (s.setHl n x).img = s.img := rfl
@[simp] theorem State.setHl_ill (s : State) (n : Nat) (x : HlSt) : (s.setHl n x).ill = s.ill := rfl
@[simp] theorem State.setHl_mot (s : State) (n : Nat) (x : HlSt) : (s.setHl n x).mot = s.mot := rfl
@[simp] theorem State.setHl_cal (s : State) (n : Nat) (x : HlSt) : (s.setHl n x).cal = s.cal := rfl
@[simp] theorem State.setHl_get (s : State) (n : Nat) (x : HlSt) (g : Fld) : (s.setHl n x).get g = s.get g := rfl

@[simp] theorem State.setSkp_pending (s : State) (n : Nat) (x : SkPort) : (s.setSkp n x).pending = s.pending := rfl
@[simp] theorem State.setSkp_out (s : State) (n : Nat) (x : SkPort) : (s.setSkp n x).out = s.out := rfl
@[simp] theorem State.setSkp_resp (s : State) (n : Nat) (x : SkPort) : (s.setSkp n x).resp = s.resp := rfl
@[simp] theorem State.setSkp_free (s : State) (n : Nat) (x : SkPort) : (s.setSkp n x).free = s.free := rfl
@[simp] theorem State.setSkp_beat (s : State) (n : Nat) (x : SkPort) : (s.setSkp n x).beat = s.beat := rfl
@[simp] theorem State.setSkp_lbRun (s : State) (n : Nat) (x : SkPort) : (s.setSkp n x).lbRun = s.lbRun := rfl
@[simp] theorem State.setSkp_regs (s : State) (n : Nat) (x : SkPort) : (s.setSkp n x).regs = s.regs := rfl
@[simp] theorem State.setSkp_hiLatch (s : State) (n : Nat) (x : SkPort) : (s.setSkp n x).hiLatch = s.hiLatch := rfl
@[simp] theorem State.setSkp_mem (s : State) (n : Nat) (x : SkPort) : (s.setSkp n x).mem = s.mem := rfl
@[simp] theorem State.setSkp_nv (s : State) (n : Nat) (x : SkPort) : (s.setSkp n x).nv = s.nv := rfl
@[simp] theorem State.setSkp_mode (s : State) (n : Nat) (x : SkPort) : (s.setSkp n x).mode = s.mode := rfl
@[simp] theorem State.setSkp_flt (s : State) (n : Nat) (x : SkPort) : (s.setSkp n x).flt = s.flt := rfl
@[simp] theorem State.setSkp_rst (s : State) (n : Nat) (x : SkPort) : (s.setSkp n x).rst = s.rst := rfl
@[simp] theorem State.setSkp_host (s : State) (n : Nat) (x : SkPort) : (s.setSkp n x).host = s.host := rfl
@[simp] theorem State.setSkp_escs (s : State) (n : Nat) (x : SkPort) : (s.setSkp n x).escs = s.escs := rfl
@[simp] theorem State.setSkp_bars (s : State) (n : Nat) (x : SkPort) : (s.setSkp n x).bars = s.bars := rfl
@[simp] theorem State.setSkp_starts (s : State) (n : Nat) (x : SkPort) : (s.setSkp n x).starts = s.starts := rfl
@[simp] theorem State.setSkp_yieldDue (s : State) (n : Nat) (x : SkPort) : (s.setSkp n x).yieldDue = s.yieldDue := rfl
@[simp] theorem State.setSkp_claims (s : State) (n : Nat) (x : SkPort) : (s.setSkp n x).claims = s.claims := rfl
@[simp] theorem State.setSkp_seed (s : State) (n : Nat) (x : SkPort) : (s.setSkp n x).seed = s.seed := rfl
@[simp] theorem State.setSkp_setps (s : State) (n : Nat) (x : SkPort) : (s.setSkp n x).setps = s.setps := rfl
@[simp] theorem State.setSkp_regl (s : State) (n : Nat) (x : SkPort) : (s.setSkp n x).regl = s.regl := rfl
@[simp] theorem State.setSkp_ports (s : State) (n : Nat) (x : SkPort) : (s.setSkp n x).ports = s.ports := rfl
@[simp] theorem State.setSkp_portHold (s : State) (n : Nat) (x : SkPort) : (s.setSkp n x).portHold = s.portHold := rfl
@[simp] theorem State.setSkp_ilkDiff (s : State) (n : Nat) (x : SkPort) : (s.setSkp n x).ilkDiff = s.ilkDiff := rfl
@[simp] theorem State.setSkp_dial (s : State) (n : Nat) (x : SkPort) : (s.setSkp n x).dial = s.dial := rfl
@[simp] theorem State.setSkp_ilkFirst (s : State) (n : Nat) (x : SkPort) : (s.setSkp n x).ilkFirst = s.ilkFirst := rfl
@[simp] theorem State.setSkp_pins (s : State) (n : Nat) (x : SkPort) : (s.setSkp n x).pins = s.pins := rfl
@[simp] theorem State.setSkp_req (s : State) (n : Nat) (x : SkPort) : (s.setSkp n x).req = s.req := rfl
@[simp] theorem State.setSkp_capMaster (s : State) (n : Nat) (x : SkPort) : (s.setSkp n x).capMaster = s.capMaster := rfl
@[simp] theorem State.setSkp_own (s : State) (n : Nat) (x : SkPort) : (s.setSkp n x).own = s.own := rfl
@[simp] theorem State.setSkp_eccCount (s : State) (n : Nat) (x : SkPort) : (s.setSkp n x).eccCount = s.eccCount := rfl
@[simp] theorem State.setSkp_setPrev (s : State) (n : Nat) (x : SkPort) : (s.setSkp n x).setPrev = s.setPrev := rfl
@[simp] theorem State.setSkp_bal (s : State) (n : Nat) (x : SkPort) : (s.setSkp n x).bal = s.bal := rfl
@[simp] theorem State.setSkp_hls (s : State) (n : Nat) (x : SkPort) : (s.setSkp n x).hls = s.hls := rfl
@[simp] theorem State.setSkp_img (s : State) (n : Nat) (x : SkPort) : (s.setSkp n x).img = s.img := rfl
@[simp] theorem State.setSkp_ill (s : State) (n : Nat) (x : SkPort) : (s.setSkp n x).ill = s.ill := rfl
@[simp] theorem State.setSkp_mot (s : State) (n : Nat) (x : SkPort) : (s.setSkp n x).mot = s.mot := rfl
@[simp] theorem State.setSkp_cal (s : State) (n : Nat) (x : SkPort) : (s.setSkp n x).cal = s.cal := rfl
@[simp] theorem State.setSkp_get (s : State) (n : Nat) (x : SkPort) (g : Fld) : (s.setSkp n x).get g = s.get g := rfl

@[simp] theorem State.setMx_pending (s : State) (n : Nat) (x : MotAx) : (s.setMx n x).pending = s.pending := rfl
@[simp] theorem State.setMx_out (s : State) (n : Nat) (x : MotAx) : (s.setMx n x).out = s.out := rfl
@[simp] theorem State.setMx_resp (s : State) (n : Nat) (x : MotAx) : (s.setMx n x).resp = s.resp := rfl
@[simp] theorem State.setMx_free (s : State) (n : Nat) (x : MotAx) : (s.setMx n x).free = s.free := rfl
@[simp] theorem State.setMx_beat (s : State) (n : Nat) (x : MotAx) : (s.setMx n x).beat = s.beat := rfl
@[simp] theorem State.setMx_lbRun (s : State) (n : Nat) (x : MotAx) : (s.setMx n x).lbRun = s.lbRun := rfl
@[simp] theorem State.setMx_regs (s : State) (n : Nat) (x : MotAx) : (s.setMx n x).regs = s.regs := rfl
@[simp] theorem State.setMx_hiLatch (s : State) (n : Nat) (x : MotAx) : (s.setMx n x).hiLatch = s.hiLatch := rfl
@[simp] theorem State.setMx_mem (s : State) (n : Nat) (x : MotAx) : (s.setMx n x).mem = s.mem := rfl
@[simp] theorem State.setMx_nv (s : State) (n : Nat) (x : MotAx) : (s.setMx n x).nv = s.nv := rfl
@[simp] theorem State.setMx_mode (s : State) (n : Nat) (x : MotAx) : (s.setMx n x).mode = s.mode := rfl
@[simp] theorem State.setMx_flt (s : State) (n : Nat) (x : MotAx) : (s.setMx n x).flt = s.flt := rfl
@[simp] theorem State.setMx_rst (s : State) (n : Nat) (x : MotAx) : (s.setMx n x).rst = s.rst := rfl
@[simp] theorem State.setMx_host (s : State) (n : Nat) (x : MotAx) : (s.setMx n x).host = s.host := rfl
@[simp] theorem State.setMx_escs (s : State) (n : Nat) (x : MotAx) : (s.setMx n x).escs = s.escs := rfl
@[simp] theorem State.setMx_bars (s : State) (n : Nat) (x : MotAx) : (s.setMx n x).bars = s.bars := rfl
@[simp] theorem State.setMx_starts (s : State) (n : Nat) (x : MotAx) : (s.setMx n x).starts = s.starts := rfl
@[simp] theorem State.setMx_yieldDue (s : State) (n : Nat) (x : MotAx) : (s.setMx n x).yieldDue = s.yieldDue := rfl
@[simp] theorem State.setMx_claims (s : State) (n : Nat) (x : MotAx) : (s.setMx n x).claims = s.claims := rfl
@[simp] theorem State.setMx_seed (s : State) (n : Nat) (x : MotAx) : (s.setMx n x).seed = s.seed := rfl
@[simp] theorem State.setMx_setps (s : State) (n : Nat) (x : MotAx) : (s.setMx n x).setps = s.setps := rfl
@[simp] theorem State.setMx_regl (s : State) (n : Nat) (x : MotAx) : (s.setMx n x).regl = s.regl := rfl
@[simp] theorem State.setMx_ports (s : State) (n : Nat) (x : MotAx) : (s.setMx n x).ports = s.ports := rfl
@[simp] theorem State.setMx_portHold (s : State) (n : Nat) (x : MotAx) : (s.setMx n x).portHold = s.portHold := rfl
@[simp] theorem State.setMx_ilkDiff (s : State) (n : Nat) (x : MotAx) : (s.setMx n x).ilkDiff = s.ilkDiff := rfl
@[simp] theorem State.setMx_dial (s : State) (n : Nat) (x : MotAx) : (s.setMx n x).dial = s.dial := rfl
@[simp] theorem State.setMx_ilkFirst (s : State) (n : Nat) (x : MotAx) : (s.setMx n x).ilkFirst = s.ilkFirst := rfl
@[simp] theorem State.setMx_pins (s : State) (n : Nat) (x : MotAx) : (s.setMx n x).pins = s.pins := rfl
@[simp] theorem State.setMx_req (s : State) (n : Nat) (x : MotAx) : (s.setMx n x).req = s.req := rfl
@[simp] theorem State.setMx_capMaster (s : State) (n : Nat) (x : MotAx) : (s.setMx n x).capMaster = s.capMaster := rfl
@[simp] theorem State.setMx_own (s : State) (n : Nat) (x : MotAx) : (s.setMx n x).own = s.own := rfl
@[simp] theorem State.setMx_eccCount (s : State) (n : Nat) (x : MotAx) : (s.setMx n x).eccCount = s.eccCount := rfl
@[simp] theorem State.setMx_setPrev (s : State) (n : Nat) (x : MotAx) : (s.setMx n x).setPrev = s.setPrev := rfl
@[simp] theorem State.setMx_bal (s : State) (n : Nat) (x : MotAx) : (s.setMx n x).bal = s.bal := rfl
@[simp] theorem State.setMx_hls (s : State) (n : Nat) (x : MotAx) : (s.setMx n x).hls = s.hls := rfl
@[simp] theorem State.setMx_skz (s : State) (n : Nat) (x : MotAx) : (s.setMx n x).skz = s.skz := rfl
@[simp] theorem State.setMx_img (s : State) (n : Nat) (x : MotAx) : (s.setMx n x).img = s.img := rfl
@[simp] theorem State.setMx_ill (s : State) (n : Nat) (x : MotAx) : (s.setMx n x).ill = s.ill := rfl
@[simp] theorem State.setMx_cal (s : State) (n : Nat) (x : MotAx) : (s.setMx n x).cal = s.cal := rfl
@[simp] theorem State.setMx_get (s : State) (n : Nat) (x : MotAx) (g : Fld) : (s.setMx n x).get g = s.get g := rfl

@[simp] theorem State.setEn_pending (s : State) (n : Nat) (x : EncSt) : (s.setEn n x).pending = s.pending := rfl
@[simp] theorem State.setEn_out (s : State) (n : Nat) (x : EncSt) : (s.setEn n x).out = s.out := rfl
@[simp] theorem State.setEn_resp (s : State) (n : Nat) (x : EncSt) : (s.setEn n x).resp = s.resp := rfl
@[simp] theorem State.setEn_free (s : State) (n : Nat) (x : EncSt) : (s.setEn n x).free = s.free := rfl
@[simp] theorem State.setEn_beat (s : State) (n : Nat) (x : EncSt) : (s.setEn n x).beat = s.beat := rfl
@[simp] theorem State.setEn_lbRun (s : State) (n : Nat) (x : EncSt) : (s.setEn n x).lbRun = s.lbRun := rfl
@[simp] theorem State.setEn_regs (s : State) (n : Nat) (x : EncSt) : (s.setEn n x).regs = s.regs := rfl
@[simp] theorem State.setEn_hiLatch (s : State) (n : Nat) (x : EncSt) : (s.setEn n x).hiLatch = s.hiLatch := rfl
@[simp] theorem State.setEn_mem (s : State) (n : Nat) (x : EncSt) : (s.setEn n x).mem = s.mem := rfl
@[simp] theorem State.setEn_nv (s : State) (n : Nat) (x : EncSt) : (s.setEn n x).nv = s.nv := rfl
@[simp] theorem State.setEn_mode (s : State) (n : Nat) (x : EncSt) : (s.setEn n x).mode = s.mode := rfl
@[simp] theorem State.setEn_flt (s : State) (n : Nat) (x : EncSt) : (s.setEn n x).flt = s.flt := rfl
@[simp] theorem State.setEn_rst (s : State) (n : Nat) (x : EncSt) : (s.setEn n x).rst = s.rst := rfl
@[simp] theorem State.setEn_host (s : State) (n : Nat) (x : EncSt) : (s.setEn n x).host = s.host := rfl
@[simp] theorem State.setEn_escs (s : State) (n : Nat) (x : EncSt) : (s.setEn n x).escs = s.escs := rfl
@[simp] theorem State.setEn_bars (s : State) (n : Nat) (x : EncSt) : (s.setEn n x).bars = s.bars := rfl
@[simp] theorem State.setEn_starts (s : State) (n : Nat) (x : EncSt) : (s.setEn n x).starts = s.starts := rfl
@[simp] theorem State.setEn_yieldDue (s : State) (n : Nat) (x : EncSt) : (s.setEn n x).yieldDue = s.yieldDue := rfl
@[simp] theorem State.setEn_claims (s : State) (n : Nat) (x : EncSt) : (s.setEn n x).claims = s.claims := rfl
@[simp] theorem State.setEn_seed (s : State) (n : Nat) (x : EncSt) : (s.setEn n x).seed = s.seed := rfl
@[simp] theorem State.setEn_setps (s : State) (n : Nat) (x : EncSt) : (s.setEn n x).setps = s.setps := rfl
@[simp] theorem State.setEn_regl (s : State) (n : Nat) (x : EncSt) : (s.setEn n x).regl = s.regl := rfl
@[simp] theorem State.setEn_ports (s : State) (n : Nat) (x : EncSt) : (s.setEn n x).ports = s.ports := rfl
@[simp] theorem State.setEn_portHold (s : State) (n : Nat) (x : EncSt) : (s.setEn n x).portHold = s.portHold := rfl
@[simp] theorem State.setEn_ilkDiff (s : State) (n : Nat) (x : EncSt) : (s.setEn n x).ilkDiff = s.ilkDiff := rfl
@[simp] theorem State.setEn_dial (s : State) (n : Nat) (x : EncSt) : (s.setEn n x).dial = s.dial := rfl
@[simp] theorem State.setEn_ilkFirst (s : State) (n : Nat) (x : EncSt) : (s.setEn n x).ilkFirst = s.ilkFirst := rfl
@[simp] theorem State.setEn_pins (s : State) (n : Nat) (x : EncSt) : (s.setEn n x).pins = s.pins := rfl
@[simp] theorem State.setEn_req (s : State) (n : Nat) (x : EncSt) : (s.setEn n x).req = s.req := rfl
@[simp] theorem State.setEn_capMaster (s : State) (n : Nat) (x : EncSt) : (s.setEn n x).capMaster = s.capMaster := rfl
@[simp] theorem State.setEn_own (s : State) (n : Nat) (x : EncSt) : (s.setEn n x).own = s.own := rfl
@[simp] theorem State.setEn_eccCount (s : State) (n : Nat) (x : EncSt) : (s.setEn n x).eccCount = s.eccCount := rfl
@[simp] theorem State.setEn_setPrev (s : State) (n : Nat) (x : EncSt) : (s.setEn n x).setPrev = s.setPrev := rfl
@[simp] theorem State.setEn_bal (s : State) (n : Nat) (x : EncSt) : (s.setEn n x).bal = s.bal := rfl
@[simp] theorem State.setEn_hls (s : State) (n : Nat) (x : EncSt) : (s.setEn n x).hls = s.hls := rfl
@[simp] theorem State.setEn_skz (s : State) (n : Nat) (x : EncSt) : (s.setEn n x).skz = s.skz := rfl
@[simp] theorem State.setEn_img (s : State) (n : Nat) (x : EncSt) : (s.setEn n x).img = s.img := rfl
@[simp] theorem State.setEn_ill (s : State) (n : Nat) (x : EncSt) : (s.setEn n x).ill = s.ill := rfl
@[simp] theorem State.setEn_cal (s : State) (n : Nat) (x : EncSt) : (s.setEn n x).cal = s.cal := rfl
@[simp] theorem State.setEn_get (s : State) (n : Nat) (x : EncSt) (g : Fld) : (s.setEn n x).get g = s.get g := rfl

@[simp] theorem State.setCtx_pending (s : State) (n : Nat) (x : CtxSt) : (s.setCtx n x).pending = s.pending := rfl
@[simp] theorem State.setCtx_out (s : State) (n : Nat) (x : CtxSt) : (s.setCtx n x).out = s.out := rfl
@[simp] theorem State.setCtx_resp (s : State) (n : Nat) (x : CtxSt) : (s.setCtx n x).resp = s.resp := rfl
@[simp] theorem State.setCtx_free (s : State) (n : Nat) (x : CtxSt) : (s.setCtx n x).free = s.free := rfl
@[simp] theorem State.setCtx_beat (s : State) (n : Nat) (x : CtxSt) : (s.setCtx n x).beat = s.beat := rfl
@[simp] theorem State.setCtx_lbRun (s : State) (n : Nat) (x : CtxSt) : (s.setCtx n x).lbRun = s.lbRun := rfl
@[simp] theorem State.setCtx_regs (s : State) (n : Nat) (x : CtxSt) : (s.setCtx n x).regs = s.regs := rfl
@[simp] theorem State.setCtx_hiLatch (s : State) (n : Nat) (x : CtxSt) : (s.setCtx n x).hiLatch = s.hiLatch := rfl
@[simp] theorem State.setCtx_mem (s : State) (n : Nat) (x : CtxSt) : (s.setCtx n x).mem = s.mem := rfl
@[simp] theorem State.setCtx_nv (s : State) (n : Nat) (x : CtxSt) : (s.setCtx n x).nv = s.nv := rfl
@[simp] theorem State.setCtx_mode (s : State) (n : Nat) (x : CtxSt) : (s.setCtx n x).mode = s.mode := rfl
@[simp] theorem State.setCtx_flt (s : State) (n : Nat) (x : CtxSt) : (s.setCtx n x).flt = s.flt := rfl
@[simp] theorem State.setCtx_rst (s : State) (n : Nat) (x : CtxSt) : (s.setCtx n x).rst = s.rst := rfl
@[simp] theorem State.setCtx_host (s : State) (n : Nat) (x : CtxSt) : (s.setCtx n x).host = s.host := rfl
@[simp] theorem State.setCtx_escs (s : State) (n : Nat) (x : CtxSt) : (s.setCtx n x).escs = s.escs := rfl
@[simp] theorem State.setCtx_bars (s : State) (n : Nat) (x : CtxSt) : (s.setCtx n x).bars = s.bars := rfl
@[simp] theorem State.setCtx_starts (s : State) (n : Nat) (x : CtxSt) : (s.setCtx n x).starts = s.starts := rfl
@[simp] theorem State.setCtx_yieldDue (s : State) (n : Nat) (x : CtxSt) : (s.setCtx n x).yieldDue = s.yieldDue := rfl
@[simp] theorem State.setCtx_claims (s : State) (n : Nat) (x : CtxSt) : (s.setCtx n x).claims = s.claims := rfl
@[simp] theorem State.setCtx_seed (s : State) (n : Nat) (x : CtxSt) : (s.setCtx n x).seed = s.seed := rfl
@[simp] theorem State.setCtx_setps (s : State) (n : Nat) (x : CtxSt) : (s.setCtx n x).setps = s.setps := rfl
@[simp] theorem State.setCtx_regl (s : State) (n : Nat) (x : CtxSt) : (s.setCtx n x).regl = s.regl := rfl
@[simp] theorem State.setCtx_ports (s : State) (n : Nat) (x : CtxSt) : (s.setCtx n x).ports = s.ports := rfl
@[simp] theorem State.setCtx_portHold (s : State) (n : Nat) (x : CtxSt) : (s.setCtx n x).portHold = s.portHold := rfl
@[simp] theorem State.setCtx_ilkDiff (s : State) (n : Nat) (x : CtxSt) : (s.setCtx n x).ilkDiff = s.ilkDiff := rfl
@[simp] theorem State.setCtx_dial (s : State) (n : Nat) (x : CtxSt) : (s.setCtx n x).dial = s.dial := rfl
@[simp] theorem State.setCtx_ilkFirst (s : State) (n : Nat) (x : CtxSt) : (s.setCtx n x).ilkFirst = s.ilkFirst := rfl
@[simp] theorem State.setCtx_pins (s : State) (n : Nat) (x : CtxSt) : (s.setCtx n x).pins = s.pins := rfl
@[simp] theorem State.setCtx_req (s : State) (n : Nat) (x : CtxSt) : (s.setCtx n x).req = s.req := rfl
@[simp] theorem State.setCtx_capMaster (s : State) (n : Nat) (x : CtxSt) : (s.setCtx n x).capMaster = s.capMaster := rfl
@[simp] theorem State.setCtx_own (s : State) (n : Nat) (x : CtxSt) : (s.setCtx n x).own = s.own := rfl
@[simp] theorem State.setCtx_eccCount (s : State) (n : Nat) (x : CtxSt) : (s.setCtx n x).eccCount = s.eccCount := rfl
@[simp] theorem State.setCtx_setPrev (s : State) (n : Nat) (x : CtxSt) : (s.setCtx n x).setPrev = s.setPrev := rfl
@[simp] theorem State.setCtx_bal (s : State) (n : Nat) (x : CtxSt) : (s.setCtx n x).bal = s.bal := rfl
@[simp] theorem State.setCtx_hls (s : State) (n : Nat) (x : CtxSt) : (s.setCtx n x).hls = s.hls := rfl
@[simp] theorem State.setCtx_skz (s : State) (n : Nat) (x : CtxSt) : (s.setCtx n x).skz = s.skz := rfl
@[simp] theorem State.setCtx_ill (s : State) (n : Nat) (x : CtxSt) : (s.setCtx n x).ill = s.ill := rfl
@[simp] theorem State.setCtx_mot (s : State) (n : Nat) (x : CtxSt) : (s.setCtx n x).mot = s.mot := rfl
@[simp] theorem State.setCtx_cal (s : State) (n : Nat) (x : CtxSt) : (s.setCtx n x).cal = s.cal := rfl
@[simp] theorem State.setCtx_get (s : State) (n : Nat) (x : CtxSt) (g : Fld) : (s.setCtx n x).get g = s.get g := rfl

@[simp] theorem State.setLpe_pending (s : State) (n : Nat) (x : LpeSt) : (s.setLpe n x).pending = s.pending := rfl
@[simp] theorem State.setLpe_out (s : State) (n : Nat) (x : LpeSt) : (s.setLpe n x).out = s.out := rfl
@[simp] theorem State.setLpe_resp (s : State) (n : Nat) (x : LpeSt) : (s.setLpe n x).resp = s.resp := rfl
@[simp] theorem State.setLpe_free (s : State) (n : Nat) (x : LpeSt) : (s.setLpe n x).free = s.free := rfl
@[simp] theorem State.setLpe_beat (s : State) (n : Nat) (x : LpeSt) : (s.setLpe n x).beat = s.beat := rfl
@[simp] theorem State.setLpe_lbRun (s : State) (n : Nat) (x : LpeSt) : (s.setLpe n x).lbRun = s.lbRun := rfl
@[simp] theorem State.setLpe_regs (s : State) (n : Nat) (x : LpeSt) : (s.setLpe n x).regs = s.regs := rfl
@[simp] theorem State.setLpe_hiLatch (s : State) (n : Nat) (x : LpeSt) : (s.setLpe n x).hiLatch = s.hiLatch := rfl
@[simp] theorem State.setLpe_mem (s : State) (n : Nat) (x : LpeSt) : (s.setLpe n x).mem = s.mem := rfl
@[simp] theorem State.setLpe_nv (s : State) (n : Nat) (x : LpeSt) : (s.setLpe n x).nv = s.nv := rfl
@[simp] theorem State.setLpe_mode (s : State) (n : Nat) (x : LpeSt) : (s.setLpe n x).mode = s.mode := rfl
@[simp] theorem State.setLpe_flt (s : State) (n : Nat) (x : LpeSt) : (s.setLpe n x).flt = s.flt := rfl
@[simp] theorem State.setLpe_rst (s : State) (n : Nat) (x : LpeSt) : (s.setLpe n x).rst = s.rst := rfl
@[simp] theorem State.setLpe_host (s : State) (n : Nat) (x : LpeSt) : (s.setLpe n x).host = s.host := rfl
@[simp] theorem State.setLpe_escs (s : State) (n : Nat) (x : LpeSt) : (s.setLpe n x).escs = s.escs := rfl
@[simp] theorem State.setLpe_bars (s : State) (n : Nat) (x : LpeSt) : (s.setLpe n x).bars = s.bars := rfl
@[simp] theorem State.setLpe_starts (s : State) (n : Nat) (x : LpeSt) : (s.setLpe n x).starts = s.starts := rfl
@[simp] theorem State.setLpe_yieldDue (s : State) (n : Nat) (x : LpeSt) : (s.setLpe n x).yieldDue = s.yieldDue := rfl
@[simp] theorem State.setLpe_claims (s : State) (n : Nat) (x : LpeSt) : (s.setLpe n x).claims = s.claims := rfl
@[simp] theorem State.setLpe_seed (s : State) (n : Nat) (x : LpeSt) : (s.setLpe n x).seed = s.seed := rfl
@[simp] theorem State.setLpe_setps (s : State) (n : Nat) (x : LpeSt) : (s.setLpe n x).setps = s.setps := rfl
@[simp] theorem State.setLpe_regl (s : State) (n : Nat) (x : LpeSt) : (s.setLpe n x).regl = s.regl := rfl
@[simp] theorem State.setLpe_ports (s : State) (n : Nat) (x : LpeSt) : (s.setLpe n x).ports = s.ports := rfl
@[simp] theorem State.setLpe_portHold (s : State) (n : Nat) (x : LpeSt) : (s.setLpe n x).portHold = s.portHold := rfl
@[simp] theorem State.setLpe_ilkDiff (s : State) (n : Nat) (x : LpeSt) : (s.setLpe n x).ilkDiff = s.ilkDiff := rfl
@[simp] theorem State.setLpe_dial (s : State) (n : Nat) (x : LpeSt) : (s.setLpe n x).dial = s.dial := rfl
@[simp] theorem State.setLpe_ilkFirst (s : State) (n : Nat) (x : LpeSt) : (s.setLpe n x).ilkFirst = s.ilkFirst := rfl
@[simp] theorem State.setLpe_pins (s : State) (n : Nat) (x : LpeSt) : (s.setLpe n x).pins = s.pins := rfl
@[simp] theorem State.setLpe_req (s : State) (n : Nat) (x : LpeSt) : (s.setLpe n x).req = s.req := rfl
@[simp] theorem State.setLpe_capMaster (s : State) (n : Nat) (x : LpeSt) : (s.setLpe n x).capMaster = s.capMaster := rfl
@[simp] theorem State.setLpe_own (s : State) (n : Nat) (x : LpeSt) : (s.setLpe n x).own = s.own := rfl
@[simp] theorem State.setLpe_eccCount (s : State) (n : Nat) (x : LpeSt) : (s.setLpe n x).eccCount = s.eccCount := rfl
@[simp] theorem State.setLpe_setPrev (s : State) (n : Nat) (x : LpeSt) : (s.setLpe n x).setPrev = s.setPrev := rfl
@[simp] theorem State.setLpe_bal (s : State) (n : Nat) (x : LpeSt) : (s.setLpe n x).bal = s.bal := rfl
@[simp] theorem State.setLpe_hls (s : State) (n : Nat) (x : LpeSt) : (s.setLpe n x).hls = s.hls := rfl
@[simp] theorem State.setLpe_skz (s : State) (n : Nat) (x : LpeSt) : (s.setLpe n x).skz = s.skz := rfl
@[simp] theorem State.setLpe_ill (s : State) (n : Nat) (x : LpeSt) : (s.setLpe n x).ill = s.ill := rfl
@[simp] theorem State.setLpe_mot (s : State) (n : Nat) (x : LpeSt) : (s.setLpe n x).mot = s.mot := rfl
@[simp] theorem State.setLpe_cal (s : State) (n : Nat) (x : LpeSt) : (s.setLpe n x).cal = s.cal := rfl
@[simp] theorem State.setLpe_get (s : State) (n : Nat) (x : LpeSt) (g : Fld) : (s.setLpe n x).get g = s.get g := rfl

@[simp] theorem State.setIllCh_pending (s : State) (n : Nat) (x : IllCh) : (s.setIllCh n x).pending = s.pending := rfl
@[simp] theorem State.setIllCh_out (s : State) (n : Nat) (x : IllCh) : (s.setIllCh n x).out = s.out := rfl
@[simp] theorem State.setIllCh_resp (s : State) (n : Nat) (x : IllCh) : (s.setIllCh n x).resp = s.resp := rfl
@[simp] theorem State.setIllCh_free (s : State) (n : Nat) (x : IllCh) : (s.setIllCh n x).free = s.free := rfl
@[simp] theorem State.setIllCh_beat (s : State) (n : Nat) (x : IllCh) : (s.setIllCh n x).beat = s.beat := rfl
@[simp] theorem State.setIllCh_lbRun (s : State) (n : Nat) (x : IllCh) : (s.setIllCh n x).lbRun = s.lbRun := rfl
@[simp] theorem State.setIllCh_regs (s : State) (n : Nat) (x : IllCh) : (s.setIllCh n x).regs = s.regs := rfl
@[simp] theorem State.setIllCh_hiLatch (s : State) (n : Nat) (x : IllCh) : (s.setIllCh n x).hiLatch = s.hiLatch := rfl
@[simp] theorem State.setIllCh_mem (s : State) (n : Nat) (x : IllCh) : (s.setIllCh n x).mem = s.mem := rfl
@[simp] theorem State.setIllCh_nv (s : State) (n : Nat) (x : IllCh) : (s.setIllCh n x).nv = s.nv := rfl
@[simp] theorem State.setIllCh_mode (s : State) (n : Nat) (x : IllCh) : (s.setIllCh n x).mode = s.mode := rfl
@[simp] theorem State.setIllCh_flt (s : State) (n : Nat) (x : IllCh) : (s.setIllCh n x).flt = s.flt := rfl
@[simp] theorem State.setIllCh_rst (s : State) (n : Nat) (x : IllCh) : (s.setIllCh n x).rst = s.rst := rfl
@[simp] theorem State.setIllCh_host (s : State) (n : Nat) (x : IllCh) : (s.setIllCh n x).host = s.host := rfl
@[simp] theorem State.setIllCh_escs (s : State) (n : Nat) (x : IllCh) : (s.setIllCh n x).escs = s.escs := rfl
@[simp] theorem State.setIllCh_bars (s : State) (n : Nat) (x : IllCh) : (s.setIllCh n x).bars = s.bars := rfl
@[simp] theorem State.setIllCh_starts (s : State) (n : Nat) (x : IllCh) : (s.setIllCh n x).starts = s.starts := rfl
@[simp] theorem State.setIllCh_yieldDue (s : State) (n : Nat) (x : IllCh) : (s.setIllCh n x).yieldDue = s.yieldDue := rfl
@[simp] theorem State.setIllCh_claims (s : State) (n : Nat) (x : IllCh) : (s.setIllCh n x).claims = s.claims := rfl
@[simp] theorem State.setIllCh_seed (s : State) (n : Nat) (x : IllCh) : (s.setIllCh n x).seed = s.seed := rfl
@[simp] theorem State.setIllCh_setps (s : State) (n : Nat) (x : IllCh) : (s.setIllCh n x).setps = s.setps := rfl
@[simp] theorem State.setIllCh_regl (s : State) (n : Nat) (x : IllCh) : (s.setIllCh n x).regl = s.regl := rfl
@[simp] theorem State.setIllCh_ports (s : State) (n : Nat) (x : IllCh) : (s.setIllCh n x).ports = s.ports := rfl
@[simp] theorem State.setIllCh_portHold (s : State) (n : Nat) (x : IllCh) : (s.setIllCh n x).portHold = s.portHold := rfl
@[simp] theorem State.setIllCh_ilkDiff (s : State) (n : Nat) (x : IllCh) : (s.setIllCh n x).ilkDiff = s.ilkDiff := rfl
@[simp] theorem State.setIllCh_dial (s : State) (n : Nat) (x : IllCh) : (s.setIllCh n x).dial = s.dial := rfl
@[simp] theorem State.setIllCh_ilkFirst (s : State) (n : Nat) (x : IllCh) : (s.setIllCh n x).ilkFirst = s.ilkFirst := rfl
@[simp] theorem State.setIllCh_pins (s : State) (n : Nat) (x : IllCh) : (s.setIllCh n x).pins = s.pins := rfl
@[simp] theorem State.setIllCh_req (s : State) (n : Nat) (x : IllCh) : (s.setIllCh n x).req = s.req := rfl
@[simp] theorem State.setIllCh_capMaster (s : State) (n : Nat) (x : IllCh) : (s.setIllCh n x).capMaster = s.capMaster := rfl
@[simp] theorem State.setIllCh_own (s : State) (n : Nat) (x : IllCh) : (s.setIllCh n x).own = s.own := rfl
@[simp] theorem State.setIllCh_eccCount (s : State) (n : Nat) (x : IllCh) : (s.setIllCh n x).eccCount = s.eccCount := rfl
@[simp] theorem State.setIllCh_setPrev (s : State) (n : Nat) (x : IllCh) : (s.setIllCh n x).setPrev = s.setPrev := rfl
@[simp] theorem State.setIllCh_bal (s : State) (n : Nat) (x : IllCh) : (s.setIllCh n x).bal = s.bal := rfl
@[simp] theorem State.setIllCh_hls (s : State) (n : Nat) (x : IllCh) : (s.setIllCh n x).hls = s.hls := rfl
@[simp] theorem State.setIllCh_skz (s : State) (n : Nat) (x : IllCh) : (s.setIllCh n x).skz = s.skz := rfl
@[simp] theorem State.setIllCh_img (s : State) (n : Nat) (x : IllCh) : (s.setIllCh n x).img = s.img := rfl
@[simp] theorem State.setIllCh_mot (s : State) (n : Nat) (x : IllCh) : (s.setIllCh n x).mot = s.mot := rfl
@[simp] theorem State.setIllCh_cal (s : State) (n : Nat) (x : IllCh) : (s.setIllCh n x).cal = s.cal := rfl
@[simp] theorem State.setIllCh_get (s : State) (n : Nat) (x : IllCh) (g : Fld) : (s.setIllCh n x).get g = s.get g := rfl

@[simp] theorem State.setAx_pending (s : State) (n : Nat) (x : AxSt) : (s.setAx n x).pending = s.pending := rfl
@[simp] theorem State.setAx_out (s : State) (n : Nat) (x : AxSt) : (s.setAx n x).out = s.out := rfl
@[simp] theorem State.setAx_resp (s : State) (n : Nat) (x : AxSt) : (s.setAx n x).resp = s.resp := rfl
@[simp] theorem State.setAx_free (s : State) (n : Nat) (x : AxSt) : (s.setAx n x).free = s.free := rfl
@[simp] theorem State.setAx_beat (s : State) (n : Nat) (x : AxSt) : (s.setAx n x).beat = s.beat := rfl
@[simp] theorem State.setAx_lbRun (s : State) (n : Nat) (x : AxSt) : (s.setAx n x).lbRun = s.lbRun := rfl
@[simp] theorem State.setAx_regs (s : State) (n : Nat) (x : AxSt) : (s.setAx n x).regs = s.regs := rfl
@[simp] theorem State.setAx_hiLatch (s : State) (n : Nat) (x : AxSt) : (s.setAx n x).hiLatch = s.hiLatch := rfl
@[simp] theorem State.setAx_mem (s : State) (n : Nat) (x : AxSt) : (s.setAx n x).mem = s.mem := rfl
@[simp] theorem State.setAx_nv (s : State) (n : Nat) (x : AxSt) : (s.setAx n x).nv = s.nv := rfl
@[simp] theorem State.setAx_mode (s : State) (n : Nat) (x : AxSt) : (s.setAx n x).mode = s.mode := rfl
@[simp] theorem State.setAx_flt (s : State) (n : Nat) (x : AxSt) : (s.setAx n x).flt = s.flt := rfl
@[simp] theorem State.setAx_rst (s : State) (n : Nat) (x : AxSt) : (s.setAx n x).rst = s.rst := rfl
@[simp] theorem State.setAx_host (s : State) (n : Nat) (x : AxSt) : (s.setAx n x).host = s.host := rfl
@[simp] theorem State.setAx_escs (s : State) (n : Nat) (x : AxSt) : (s.setAx n x).escs = s.escs := rfl
@[simp] theorem State.setAx_bars (s : State) (n : Nat) (x : AxSt) : (s.setAx n x).bars = s.bars := rfl
@[simp] theorem State.setAx_starts (s : State) (n : Nat) (x : AxSt) : (s.setAx n x).starts = s.starts := rfl
@[simp] theorem State.setAx_yieldDue (s : State) (n : Nat) (x : AxSt) : (s.setAx n x).yieldDue = s.yieldDue := rfl
@[simp] theorem State.setAx_claims (s : State) (n : Nat) (x : AxSt) : (s.setAx n x).claims = s.claims := rfl
@[simp] theorem State.setAx_seed (s : State) (n : Nat) (x : AxSt) : (s.setAx n x).seed = s.seed := rfl
@[simp] theorem State.setAx_setps (s : State) (n : Nat) (x : AxSt) : (s.setAx n x).setps = s.setps := rfl
@[simp] theorem State.setAx_regl (s : State) (n : Nat) (x : AxSt) : (s.setAx n x).regl = s.regl := rfl
@[simp] theorem State.setAx_ports (s : State) (n : Nat) (x : AxSt) : (s.setAx n x).ports = s.ports := rfl
@[simp] theorem State.setAx_portHold (s : State) (n : Nat) (x : AxSt) : (s.setAx n x).portHold = s.portHold := rfl
@[simp] theorem State.setAx_ilkDiff (s : State) (n : Nat) (x : AxSt) : (s.setAx n x).ilkDiff = s.ilkDiff := rfl
@[simp] theorem State.setAx_dial (s : State) (n : Nat) (x : AxSt) : (s.setAx n x).dial = s.dial := rfl
@[simp] theorem State.setAx_ilkFirst (s : State) (n : Nat) (x : AxSt) : (s.setAx n x).ilkFirst = s.ilkFirst := rfl
@[simp] theorem State.setAx_pins (s : State) (n : Nat) (x : AxSt) : (s.setAx n x).pins = s.pins := rfl
@[simp] theorem State.setAx_req (s : State) (n : Nat) (x : AxSt) : (s.setAx n x).req = s.req := rfl
@[simp] theorem State.setAx_capMaster (s : State) (n : Nat) (x : AxSt) : (s.setAx n x).capMaster = s.capMaster := rfl
@[simp] theorem State.setAx_own (s : State) (n : Nat) (x : AxSt) : (s.setAx n x).own = s.own := rfl
@[simp] theorem State.setAx_eccCount (s : State) (n : Nat) (x : AxSt) : (s.setAx n x).eccCount = s.eccCount := rfl
@[simp] theorem State.setAx_setPrev (s : State) (n : Nat) (x : AxSt) : (s.setAx n x).setPrev = s.setPrev := rfl
@[simp] theorem State.setAx_hls (s : State) (n : Nat) (x : AxSt) : (s.setAx n x).hls = s.hls := rfl
@[simp] theorem State.setAx_skz (s : State) (n : Nat) (x : AxSt) : (s.setAx n x).skz = s.skz := rfl
@[simp] theorem State.setAx_img (s : State) (n : Nat) (x : AxSt) : (s.setAx n x).img = s.img := rfl
@[simp] theorem State.setAx_ill (s : State) (n : Nat) (x : AxSt) : (s.setAx n x).ill = s.ill := rfl
@[simp] theorem State.setAx_mot (s : State) (n : Nat) (x : AxSt) : (s.setAx n x).mot = s.mot := rfl
@[simp] theorem State.setAx_cal (s : State) (n : Nat) (x : AxSt) : (s.setAx n x).cal = s.cal := rfl
@[simp] theorem State.setAx_get (s : State) (n : Nat) (x : AxSt) (g : Fld) : (s.setAx n x).get g = s.get g := rfl

@[simp] theorem State.setGen_pending (s : State) (n : Nat) (x : GenSt) : (s.setGen n x).pending = s.pending := rfl
@[simp] theorem State.setGen_out (s : State) (n : Nat) (x : GenSt) : (s.setGen n x).out = s.out := rfl
@[simp] theorem State.setGen_resp (s : State) (n : Nat) (x : GenSt) : (s.setGen n x).resp = s.resp := rfl
@[simp] theorem State.setGen_free (s : State) (n : Nat) (x : GenSt) : (s.setGen n x).free = s.free := rfl
@[simp] theorem State.setGen_beat (s : State) (n : Nat) (x : GenSt) : (s.setGen n x).beat = s.beat := rfl
@[simp] theorem State.setGen_lbRun (s : State) (n : Nat) (x : GenSt) : (s.setGen n x).lbRun = s.lbRun := rfl
@[simp] theorem State.setGen_regs (s : State) (n : Nat) (x : GenSt) : (s.setGen n x).regs = s.regs := rfl
@[simp] theorem State.setGen_hiLatch (s : State) (n : Nat) (x : GenSt) : (s.setGen n x).hiLatch = s.hiLatch := rfl
@[simp] theorem State.setGen_mem (s : State) (n : Nat) (x : GenSt) : (s.setGen n x).mem = s.mem := rfl
@[simp] theorem State.setGen_nv (s : State) (n : Nat) (x : GenSt) : (s.setGen n x).nv = s.nv := rfl
@[simp] theorem State.setGen_mode (s : State) (n : Nat) (x : GenSt) : (s.setGen n x).mode = s.mode := rfl
@[simp] theorem State.setGen_flt (s : State) (n : Nat) (x : GenSt) : (s.setGen n x).flt = s.flt := rfl
@[simp] theorem State.setGen_rst (s : State) (n : Nat) (x : GenSt) : (s.setGen n x).rst = s.rst := rfl
@[simp] theorem State.setGen_host (s : State) (n : Nat) (x : GenSt) : (s.setGen n x).host = s.host := rfl
@[simp] theorem State.setGen_escs (s : State) (n : Nat) (x : GenSt) : (s.setGen n x).escs = s.escs := rfl
@[simp] theorem State.setGen_bars (s : State) (n : Nat) (x : GenSt) : (s.setGen n x).bars = s.bars := rfl
@[simp] theorem State.setGen_starts (s : State) (n : Nat) (x : GenSt) : (s.setGen n x).starts = s.starts := rfl
@[simp] theorem State.setGen_yieldDue (s : State) (n : Nat) (x : GenSt) : (s.setGen n x).yieldDue = s.yieldDue := rfl
@[simp] theorem State.setGen_claims (s : State) (n : Nat) (x : GenSt) : (s.setGen n x).claims = s.claims := rfl
@[simp] theorem State.setGen_seed (s : State) (n : Nat) (x : GenSt) : (s.setGen n x).seed = s.seed := rfl
@[simp] theorem State.setGen_setps (s : State) (n : Nat) (x : GenSt) : (s.setGen n x).setps = s.setps := rfl
@[simp] theorem State.setGen_regl (s : State) (n : Nat) (x : GenSt) : (s.setGen n x).regl = s.regl := rfl
@[simp] theorem State.setGen_ports (s : State) (n : Nat) (x : GenSt) : (s.setGen n x).ports = s.ports := rfl
@[simp] theorem State.setGen_portHold (s : State) (n : Nat) (x : GenSt) : (s.setGen n x).portHold = s.portHold := rfl
@[simp] theorem State.setGen_ilkDiff (s : State) (n : Nat) (x : GenSt) : (s.setGen n x).ilkDiff = s.ilkDiff := rfl
@[simp] theorem State.setGen_dial (s : State) (n : Nat) (x : GenSt) : (s.setGen n x).dial = s.dial := rfl
@[simp] theorem State.setGen_ilkFirst (s : State) (n : Nat) (x : GenSt) : (s.setGen n x).ilkFirst = s.ilkFirst := rfl
@[simp] theorem State.setGen_pins (s : State) (n : Nat) (x : GenSt) : (s.setGen n x).pins = s.pins := rfl
@[simp] theorem State.setGen_req (s : State) (n : Nat) (x : GenSt) : (s.setGen n x).req = s.req := rfl
@[simp] theorem State.setGen_capMaster (s : State) (n : Nat) (x : GenSt) : (s.setGen n x).capMaster = s.capMaster := rfl
@[simp] theorem State.setGen_own (s : State) (n : Nat) (x : GenSt) : (s.setGen n x).own = s.own := rfl
@[simp] theorem State.setGen_eccCount (s : State) (n : Nat) (x : GenSt) : (s.setGen n x).eccCount = s.eccCount := rfl
@[simp] theorem State.setGen_setPrev (s : State) (n : Nat) (x : GenSt) : (s.setGen n x).setPrev = s.setPrev := rfl
@[simp] theorem State.setGen_hls (s : State) (n : Nat) (x : GenSt) : (s.setGen n x).hls = s.hls := rfl
@[simp] theorem State.setGen_skz (s : State) (n : Nat) (x : GenSt) : (s.setGen n x).skz = s.skz := rfl
@[simp] theorem State.setGen_img (s : State) (n : Nat) (x : GenSt) : (s.setGen n x).img = s.img := rfl
@[simp] theorem State.setGen_ill (s : State) (n : Nat) (x : GenSt) : (s.setGen n x).ill = s.ill := rfl
@[simp] theorem State.setGen_mot (s : State) (n : Nat) (x : GenSt) : (s.setGen n x).mot = s.mot := rfl
@[simp] theorem State.setGen_cal (s : State) (n : Nat) (x : GenSt) : (s.setGen n x).cal = s.cal := rfl
@[simp] theorem State.setGen_get (s : State) (n : Nat) (x : GenSt) (g : Fld) : (s.setGen n x).get g = s.get g := rfl

@[simp] theorem State.setCap_pending (s : State) (n : Nat) (x : CapSt) : (s.setCap n x).pending = s.pending := rfl
@[simp] theorem State.setCap_out (s : State) (n : Nat) (x : CapSt) : (s.setCap n x).out = s.out := rfl
@[simp] theorem State.setCap_resp (s : State) (n : Nat) (x : CapSt) : (s.setCap n x).resp = s.resp := rfl
@[simp] theorem State.setCap_free (s : State) (n : Nat) (x : CapSt) : (s.setCap n x).free = s.free := rfl
@[simp] theorem State.setCap_beat (s : State) (n : Nat) (x : CapSt) : (s.setCap n x).beat = s.beat := rfl
@[simp] theorem State.setCap_lbRun (s : State) (n : Nat) (x : CapSt) : (s.setCap n x).lbRun = s.lbRun := rfl
@[simp] theorem State.setCap_regs (s : State) (n : Nat) (x : CapSt) : (s.setCap n x).regs = s.regs := rfl
@[simp] theorem State.setCap_hiLatch (s : State) (n : Nat) (x : CapSt) : (s.setCap n x).hiLatch = s.hiLatch := rfl
@[simp] theorem State.setCap_mem (s : State) (n : Nat) (x : CapSt) : (s.setCap n x).mem = s.mem := rfl
@[simp] theorem State.setCap_nv (s : State) (n : Nat) (x : CapSt) : (s.setCap n x).nv = s.nv := rfl
@[simp] theorem State.setCap_mode (s : State) (n : Nat) (x : CapSt) : (s.setCap n x).mode = s.mode := rfl
@[simp] theorem State.setCap_flt (s : State) (n : Nat) (x : CapSt) : (s.setCap n x).flt = s.flt := rfl
@[simp] theorem State.setCap_rst (s : State) (n : Nat) (x : CapSt) : (s.setCap n x).rst = s.rst := rfl
@[simp] theorem State.setCap_host (s : State) (n : Nat) (x : CapSt) : (s.setCap n x).host = s.host := rfl
@[simp] theorem State.setCap_escs (s : State) (n : Nat) (x : CapSt) : (s.setCap n x).escs = s.escs := rfl
@[simp] theorem State.setCap_bars (s : State) (n : Nat) (x : CapSt) : (s.setCap n x).bars = s.bars := rfl
@[simp] theorem State.setCap_starts (s : State) (n : Nat) (x : CapSt) : (s.setCap n x).starts = s.starts := rfl
@[simp] theorem State.setCap_yieldDue (s : State) (n : Nat) (x : CapSt) : (s.setCap n x).yieldDue = s.yieldDue := rfl
@[simp] theorem State.setCap_claims (s : State) (n : Nat) (x : CapSt) : (s.setCap n x).claims = s.claims := rfl
@[simp] theorem State.setCap_seed (s : State) (n : Nat) (x : CapSt) : (s.setCap n x).seed = s.seed := rfl
@[simp] theorem State.setCap_setps (s : State) (n : Nat) (x : CapSt) : (s.setCap n x).setps = s.setps := rfl
@[simp] theorem State.setCap_regl (s : State) (n : Nat) (x : CapSt) : (s.setCap n x).regl = s.regl := rfl
@[simp] theorem State.setCap_ports (s : State) (n : Nat) (x : CapSt) : (s.setCap n x).ports = s.ports := rfl
@[simp] theorem State.setCap_portHold (s : State) (n : Nat) (x : CapSt) : (s.setCap n x).portHold = s.portHold := rfl
@[simp] theorem State.setCap_ilkDiff (s : State) (n : Nat) (x : CapSt) : (s.setCap n x).ilkDiff = s.ilkDiff := rfl
@[simp] theorem State.setCap_dial (s : State) (n : Nat) (x : CapSt) : (s.setCap n x).dial = s.dial := rfl
@[simp] theorem State.setCap_ilkFirst (s : State) (n : Nat) (x : CapSt) : (s.setCap n x).ilkFirst = s.ilkFirst := rfl
@[simp] theorem State.setCap_pins (s : State) (n : Nat) (x : CapSt) : (s.setCap n x).pins = s.pins := rfl
@[simp] theorem State.setCap_req (s : State) (n : Nat) (x : CapSt) : (s.setCap n x).req = s.req := rfl
@[simp] theorem State.setCap_capMaster (s : State) (n : Nat) (x : CapSt) : (s.setCap n x).capMaster = s.capMaster := rfl
@[simp] theorem State.setCap_own (s : State) (n : Nat) (x : CapSt) : (s.setCap n x).own = s.own := rfl
@[simp] theorem State.setCap_eccCount (s : State) (n : Nat) (x : CapSt) : (s.setCap n x).eccCount = s.eccCount := rfl
@[simp] theorem State.setCap_setPrev (s : State) (n : Nat) (x : CapSt) : (s.setCap n x).setPrev = s.setPrev := rfl
@[simp] theorem State.setCap_hls (s : State) (n : Nat) (x : CapSt) : (s.setCap n x).hls = s.hls := rfl
@[simp] theorem State.setCap_skz (s : State) (n : Nat) (x : CapSt) : (s.setCap n x).skz = s.skz := rfl
@[simp] theorem State.setCap_img (s : State) (n : Nat) (x : CapSt) : (s.setCap n x).img = s.img := rfl
@[simp] theorem State.setCap_ill (s : State) (n : Nat) (x : CapSt) : (s.setCap n x).ill = s.ill := rfl
@[simp] theorem State.setCap_mot (s : State) (n : Nat) (x : CapSt) : (s.setCap n x).mot = s.mot := rfl
@[simp] theorem State.setCap_cal (s : State) (n : Nat) (x : CapSt) : (s.setCap n x).cal = s.cal := rfl
@[simp] theorem State.setCap_get (s : State) (n : Nat) (x : CapSt) (g : Fld) : (s.setCap n x).get g = s.get g := rfl

@[simp] theorem State.setBar_pending (s : State) (n : Nat) (x : BarSt) : (s.setBar n x).pending = s.pending := rfl
@[simp] theorem State.setBar_out (s : State) (n : Nat) (x : BarSt) : (s.setBar n x).out = s.out := rfl
@[simp] theorem State.setBar_resp (s : State) (n : Nat) (x : BarSt) : (s.setBar n x).resp = s.resp := rfl
@[simp] theorem State.setBar_free (s : State) (n : Nat) (x : BarSt) : (s.setBar n x).free = s.free := rfl
@[simp] theorem State.setBar_beat (s : State) (n : Nat) (x : BarSt) : (s.setBar n x).beat = s.beat := rfl
@[simp] theorem State.setBar_lbRun (s : State) (n : Nat) (x : BarSt) : (s.setBar n x).lbRun = s.lbRun := rfl
@[simp] theorem State.setBar_regs (s : State) (n : Nat) (x : BarSt) : (s.setBar n x).regs = s.regs := rfl
@[simp] theorem State.setBar_hiLatch (s : State) (n : Nat) (x : BarSt) : (s.setBar n x).hiLatch = s.hiLatch := rfl
@[simp] theorem State.setBar_mem (s : State) (n : Nat) (x : BarSt) : (s.setBar n x).mem = s.mem := rfl
@[simp] theorem State.setBar_nv (s : State) (n : Nat) (x : BarSt) : (s.setBar n x).nv = s.nv := rfl
@[simp] theorem State.setBar_mode (s : State) (n : Nat) (x : BarSt) : (s.setBar n x).mode = s.mode := rfl
@[simp] theorem State.setBar_flt (s : State) (n : Nat) (x : BarSt) : (s.setBar n x).flt = s.flt := rfl
@[simp] theorem State.setBar_rst (s : State) (n : Nat) (x : BarSt) : (s.setBar n x).rst = s.rst := rfl
@[simp] theorem State.setBar_host (s : State) (n : Nat) (x : BarSt) : (s.setBar n x).host = s.host := rfl
@[simp] theorem State.setBar_escs (s : State) (n : Nat) (x : BarSt) : (s.setBar n x).escs = s.escs := rfl
@[simp] theorem State.setBar_starts (s : State) (n : Nat) (x : BarSt) : (s.setBar n x).starts = s.starts := rfl
@[simp] theorem State.setBar_yieldDue (s : State) (n : Nat) (x : BarSt) : (s.setBar n x).yieldDue = s.yieldDue := rfl
@[simp] theorem State.setBar_claims (s : State) (n : Nat) (x : BarSt) : (s.setBar n x).claims = s.claims := rfl
@[simp] theorem State.setBar_seed (s : State) (n : Nat) (x : BarSt) : (s.setBar n x).seed = s.seed := rfl
@[simp] theorem State.setBar_setps (s : State) (n : Nat) (x : BarSt) : (s.setBar n x).setps = s.setps := rfl
@[simp] theorem State.setBar_regl (s : State) (n : Nat) (x : BarSt) : (s.setBar n x).regl = s.regl := rfl
@[simp] theorem State.setBar_ports (s : State) (n : Nat) (x : BarSt) : (s.setBar n x).ports = s.ports := rfl
@[simp] theorem State.setBar_portHold (s : State) (n : Nat) (x : BarSt) : (s.setBar n x).portHold = s.portHold := rfl
@[simp] theorem State.setBar_ilkDiff (s : State) (n : Nat) (x : BarSt) : (s.setBar n x).ilkDiff = s.ilkDiff := rfl
@[simp] theorem State.setBar_dial (s : State) (n : Nat) (x : BarSt) : (s.setBar n x).dial = s.dial := rfl
@[simp] theorem State.setBar_ilkFirst (s : State) (n : Nat) (x : BarSt) : (s.setBar n x).ilkFirst = s.ilkFirst := rfl
@[simp] theorem State.setBar_pins (s : State) (n : Nat) (x : BarSt) : (s.setBar n x).pins = s.pins := rfl
@[simp] theorem State.setBar_req (s : State) (n : Nat) (x : BarSt) : (s.setBar n x).req = s.req := rfl
@[simp] theorem State.setBar_capMaster (s : State) (n : Nat) (x : BarSt) : (s.setBar n x).capMaster = s.capMaster := rfl
@[simp] theorem State.setBar_own (s : State) (n : Nat) (x : BarSt) : (s.setBar n x).own = s.own := rfl
@[simp] theorem State.setBar_eccCount (s : State) (n : Nat) (x : BarSt) : (s.setBar n x).eccCount = s.eccCount := rfl
@[simp] theorem State.setBar_setPrev (s : State) (n : Nat) (x : BarSt) : (s.setBar n x).setPrev = s.setPrev := rfl
@[simp] theorem State.setBar_bal (s : State) (n : Nat) (x : BarSt) : (s.setBar n x).bal = s.bal := rfl
@[simp] theorem State.setBar_hls (s : State) (n : Nat) (x : BarSt) : (s.setBar n x).hls = s.hls := rfl
@[simp] theorem State.setBar_skz (s : State) (n : Nat) (x : BarSt) : (s.setBar n x).skz = s.skz := rfl
@[simp] theorem State.setBar_img (s : State) (n : Nat) (x : BarSt) : (s.setBar n x).img = s.img := rfl
@[simp] theorem State.setBar_ill (s : State) (n : Nat) (x : BarSt) : (s.setBar n x).ill = s.ill := rfl
@[simp] theorem State.setBar_mot (s : State) (n : Nat) (x : BarSt) : (s.setBar n x).mot = s.mot := rfl
@[simp] theorem State.setBar_cal (s : State) (n : Nat) (x : BarSt) : (s.setBar n x).cal = s.cal := rfl
@[simp] theorem State.setBar_get (s : State) (n : Nat) (x : BarSt) (g : Fld) : (s.setBar n x).get g = s.get g := rfl

@[simp] theorem State.setZoneQueue_pending (s : State) (z : Nat) (l : List Nat) : (s.setZoneQueue z l).pending = s.pending := rfl
@[simp] theorem State.setZoneQueue_out (s : State) (z : Nat) (l : List Nat) : (s.setZoneQueue z l).out = s.out := rfl
@[simp] theorem State.setZoneQueue_resp (s : State) (z : Nat) (l : List Nat) : (s.setZoneQueue z l).resp = s.resp := rfl
@[simp] theorem State.setZoneQueue_free (s : State) (z : Nat) (l : List Nat) : (s.setZoneQueue z l).free = s.free := rfl
@[simp] theorem State.setZoneQueue_beat (s : State) (z : Nat) (l : List Nat) : (s.setZoneQueue z l).beat = s.beat := rfl
@[simp] theorem State.setZoneQueue_lbRun (s : State) (z : Nat) (l : List Nat) : (s.setZoneQueue z l).lbRun = s.lbRun := rfl
@[simp] theorem State.setZoneQueue_regs (s : State) (z : Nat) (l : List Nat) : (s.setZoneQueue z l).regs = s.regs := rfl
@[simp] theorem State.setZoneQueue_hiLatch (s : State) (z : Nat) (l : List Nat) : (s.setZoneQueue z l).hiLatch = s.hiLatch := rfl
@[simp] theorem State.setZoneQueue_mem (s : State) (z : Nat) (l : List Nat) : (s.setZoneQueue z l).mem = s.mem := rfl
@[simp] theorem State.setZoneQueue_nv (s : State) (z : Nat) (l : List Nat) : (s.setZoneQueue z l).nv = s.nv := rfl
@[simp] theorem State.setZoneQueue_mode (s : State) (z : Nat) (l : List Nat) : (s.setZoneQueue z l).mode = s.mode := rfl
@[simp] theorem State.setZoneQueue_flt (s : State) (z : Nat) (l : List Nat) : (s.setZoneQueue z l).flt = s.flt := rfl
@[simp] theorem State.setZoneQueue_rst (s : State) (z : Nat) (l : List Nat) : (s.setZoneQueue z l).rst = s.rst := rfl
@[simp] theorem State.setZoneQueue_host (s : State) (z : Nat) (l : List Nat) : (s.setZoneQueue z l).host = s.host := rfl
@[simp] theorem State.setZoneQueue_escs (s : State) (z : Nat) (l : List Nat) : (s.setZoneQueue z l).escs = s.escs := rfl
@[simp] theorem State.setZoneQueue_bars (s : State) (z : Nat) (l : List Nat) : (s.setZoneQueue z l).bars = s.bars := rfl
@[simp] theorem State.setZoneQueue_starts (s : State) (z : Nat) (l : List Nat) : (s.setZoneQueue z l).starts = s.starts := rfl
@[simp] theorem State.setZoneQueue_yieldDue (s : State) (z : Nat) (l : List Nat) : (s.setZoneQueue z l).yieldDue = s.yieldDue := rfl
@[simp] theorem State.setZoneQueue_seed (s : State) (z : Nat) (l : List Nat) : (s.setZoneQueue z l).seed = s.seed := rfl
@[simp] theorem State.setZoneQueue_setps (s : State) (z : Nat) (l : List Nat) : (s.setZoneQueue z l).setps = s.setps := rfl
@[simp] theorem State.setZoneQueue_regl (s : State) (z : Nat) (l : List Nat) : (s.setZoneQueue z l).regl = s.regl := rfl
@[simp] theorem State.setZoneQueue_ports (s : State) (z : Nat) (l : List Nat) : (s.setZoneQueue z l).ports = s.ports := rfl
@[simp] theorem State.setZoneQueue_portHold (s : State) (z : Nat) (l : List Nat) : (s.setZoneQueue z l).portHold = s.portHold := rfl
@[simp] theorem State.setZoneQueue_ilkDiff (s : State) (z : Nat) (l : List Nat) : (s.setZoneQueue z l).ilkDiff = s.ilkDiff := rfl
@[simp] theorem State.setZoneQueue_dial (s : State) (z : Nat) (l : List Nat) : (s.setZoneQueue z l).dial = s.dial := rfl
@[simp] theorem State.setZoneQueue_ilkFirst (s : State) (z : Nat) (l : List Nat) : (s.setZoneQueue z l).ilkFirst = s.ilkFirst := rfl
@[simp] theorem State.setZoneQueue_pins (s : State) (z : Nat) (l : List Nat) : (s.setZoneQueue z l).pins = s.pins := rfl
@[simp] theorem State.setZoneQueue_req (s : State) (z : Nat) (l : List Nat) : (s.setZoneQueue z l).req = s.req := rfl
@[simp] theorem State.setZoneQueue_capMaster (s : State) (z : Nat) (l : List Nat) : (s.setZoneQueue z l).capMaster = s.capMaster := rfl
@[simp] theorem State.setZoneQueue_own (s : State) (z : Nat) (l : List Nat) : (s.setZoneQueue z l).own = s.own := rfl
@[simp] theorem State.setZoneQueue_eccCount (s : State) (z : Nat) (l : List Nat) : (s.setZoneQueue z l).eccCount = s.eccCount := rfl
@[simp] theorem State.setZoneQueue_setPrev (s : State) (z : Nat) (l : List Nat) : (s.setZoneQueue z l).setPrev = s.setPrev := rfl
@[simp] theorem State.setZoneQueue_bal (s : State) (z : Nat) (l : List Nat) : (s.setZoneQueue z l).bal = s.bal := rfl
@[simp] theorem State.setZoneQueue_hls (s : State) (z : Nat) (l : List Nat) : (s.setZoneQueue z l).hls = s.hls := rfl
@[simp] theorem State.setZoneQueue_skz (s : State) (z : Nat) (l : List Nat) : (s.setZoneQueue z l).skz = s.skz := rfl
@[simp] theorem State.setZoneQueue_img (s : State) (z : Nat) (l : List Nat) : (s.setZoneQueue z l).img = s.img := rfl
@[simp] theorem State.setZoneQueue_ill (s : State) (z : Nat) (l : List Nat) : (s.setZoneQueue z l).ill = s.ill := rfl
@[simp] theorem State.setZoneQueue_mot (s : State) (z : Nat) (l : List Nat) : (s.setZoneQueue z l).mot = s.mot := rfl
@[simp] theorem State.setZoneQueue_cal (s : State) (z : Nat) (l : List Nat) : (s.setZoneQueue z l).cal = s.cal := rfl
@[simp] theorem State.setZoneQueue_get (s : State) (z : Nat) (l : List Nat) (g : Fld) : (s.setZoneQueue z l).get g = s.get g := rfl

@[simp] theorem State.begin_pending (s : State) : s.begin.pending = s.pending := rfl
@[simp] theorem State.begin_out (s : State) : s.begin.out = [] := rfl
@[simp] theorem State.begin_resp (s : State) : s.begin.resp = s.resp := rfl
@[simp] theorem State.begin_free (s : State) : s.begin.free = s.free := rfl
@[simp] theorem State.begin_beat (s : State) : s.begin.beat = s.beat := rfl
@[simp] theorem State.begin_lbRun (s : State) : s.begin.lbRun = s.lbRun := rfl
@[simp] theorem State.begin_regs (s : State) : s.begin.regs = s.regs := rfl
@[simp] theorem State.begin_hiLatch (s : State) : s.begin.hiLatch = s.hiLatch := rfl
@[simp] theorem State.begin_mem (s : State) : s.begin.mem = s.mem := rfl
@[simp] theorem State.begin_nv (s : State) : s.begin.nv = s.nv := rfl
@[simp] theorem State.begin_mode (s : State) : s.begin.mode = s.mode := rfl
@[simp] theorem State.begin_flt (s : State) : s.begin.flt = { s.flt with todo := [], force := [] } := rfl
@[simp] theorem State.begin_rst (s : State) : s.begin.rst = s.rst := rfl
@[simp] theorem State.begin_host (s : State) : s.begin.host = s.host := rfl
@[simp] theorem State.begin_escs (s : State) : s.begin.escs = s.escs := rfl
@[simp] theorem State.begin_bars (s : State) : s.begin.bars = s.bars := rfl
@[simp] theorem State.begin_starts (s : State) : s.begin.starts = s.starts := rfl
@[simp] theorem State.begin_yieldDue (s : State) : s.begin.yieldDue = s.yieldDue := rfl
@[simp] theorem State.begin_claims (s : State) : s.begin.claims = s.claims := rfl
@[simp] theorem State.begin_seed (s : State) : s.begin.seed = s.seed := rfl
@[simp] theorem State.begin_setps (s : State) : s.begin.setps = s.setps := rfl
@[simp] theorem State.begin_regl (s : State) : s.begin.regl = s.regl := rfl
@[simp] theorem State.begin_ports (s : State) : s.begin.ports = s.ports := rfl
@[simp] theorem State.begin_portHold (s : State) : s.begin.portHold = s.portHold := rfl
@[simp] theorem State.begin_ilkDiff (s : State) : s.begin.ilkDiff = s.ilkDiff := rfl
@[simp] theorem State.begin_dial (s : State) : s.begin.dial = s.dial := rfl
@[simp] theorem State.begin_ilkFirst (s : State) : s.begin.ilkFirst = s.ilkFirst := rfl
@[simp] theorem State.begin_pins (s : State) : s.begin.pins = s.pins := rfl
@[simp] theorem State.begin_req (s : State) : s.begin.req = none := rfl
@[simp] theorem State.begin_capMaster (s : State) : s.begin.capMaster = s.capMaster := rfl
@[simp] theorem State.begin_own (s : State) : s.begin.own = [] := rfl
@[simp] theorem State.begin_eccCount (s : State) : s.begin.eccCount = s.eccCount := rfl
@[simp] theorem State.begin_setPrev (s : State) : s.begin.setPrev = s.setPrev := rfl
@[simp] theorem State.begin_bal (s : State) : s.begin.bal = s.bal := rfl
@[simp] theorem State.begin_hls (s : State) : s.begin.hls = s.hls := rfl
@[simp] theorem State.begin_skz (s : State) : s.begin.skz = s.skz := rfl
@[simp] theorem State.begin_img (s : State) : s.begin.img = s.img := rfl
@[simp] theorem State.begin_ill (s : State) : s.begin.ill = s.ill := rfl
@[simp] theorem State.begin_mot (s : State) : s.begin.mot = s.mot := rfl
@[simp] theorem State.begin_cal (s : State) : s.begin.cal = s.cal := rfl
@[simp] theorem State.begin_get (s : State) (g : Fld) : s.begin.get g = s.get g := rfl

@[simp] theorem State.setEsc_same (s : State) (n : Nat) (x : EscSt) : (s.setEsc n x).esc n = x := Sparse.get_put_same ..
theorem State.setEsc_ne (s : State) (n k : Nat) (x : EscSt) (h : k ≠ n) : (s.setEsc n x).esc k = s.esc k := Sparse.get_put_ne _ _ _ _ _ h
@[simp] theorem State.set_esc (s : State) (f : Fld) (v : Nat) (n : Nat) : (s.set f v).esc n = s.esc n := rfl
@[simp] theorem State.emit_esc (s : State) (o : Out) (n : Nat) : (s.emit o).esc n = s.esc n := rfl
@[simp] theorem State.draw_esc (s : State) (n : Nat) : (s.draw).esc n = s.esc n := rfl
@[simp] theorem State.begin_esc (s : State) (n : Nat) : (s.begin).esc n = s.esc n := rfl

@[simp] theorem State.setPort_same (s : State) (n : Nat) (x : PortSt) : (s.setPort n x).port n = x := Sparse.get_put_same ..
theorem State.setPort_ne (s : State) (n k : Nat) (x : PortSt) (h : k ≠ n) : (s.setPort n x).port k = s.port k := Sparse.get_put_ne _ _ _ _ _ h
@[simp] theorem State.set_port (s : State) (f : Fld) (v : Nat) (n : Nat) : (s.set f v).port n = s.port n := rfl
@[simp] theorem State.emit_port (s : State) (o : Out) (n : Nat) : (s.emit o).port n = s.port n := rfl
@[simp] theorem State.draw_port (s : State) (n : Nat) : (s.draw).port n = s.port n := rfl
@[simp] theorem State.begin_port (s : State) (n : Nat) : (s.begin).port n = s.port n := rfl

@[simp] theorem State.setReg_same (s : State) (n : Nat) (x : RegSt) : (s.setReg n x).reg n = x := Sparse.get_put_same ..
theorem State.setReg_ne (s : State) (n k : Nat) (x : RegSt) (h : k ≠ n) : (s.setReg n x).reg k = s.reg k := Sparse.get_put_ne _ _ _ _ _ h
@[simp] theorem State.set_reg (s : State) (f : Fld) (v : Nat) (n : Nat) : (s.set f v).reg n = s.reg n := rfl
@[simp] theorem State.emit_reg (s : State) (o : Out) (n : Nat) : (s.emit o).reg n = s.reg n := rfl
@[simp] theorem State.draw_reg (s : State) (n : Nat) : (s.draw).reg n = s.reg n := rfl
@[simp] theorem State.begin_reg (s : State) (n : Nat) : (s.begin).reg n = s.reg n := rfl

@[simp] theorem State.setHl_same (s : State) (n : Nat) (x : HlSt) : (s.setHl n x).hl n = x := Sparse.get_put_same ..
theorem State.setHl_ne (s : State) (n k : Nat) (x : HlSt) (h : k ≠ n) : (s.setHl n x).hl k = s.hl k := Sparse.get_put_ne _ _ _ _ _ h
@[simp] theorem State.set_hl (s : State) (f : Fld) (v : Nat) (n : Nat) : (s.set f v).hl n = s.hl n := rfl
@[simp] theorem State.emit_hl (s : State) (o : Out) (n : Nat) : (s.emit o).hl n = s.hl n := rfl
@[simp] theorem State.draw_hl (s : State) (n : Nat) : (s.draw).hl n = s.hl n := rfl
@[simp] theorem State.begin_hl (s : State) (n : Nat) : (s.begin).hl n = s.hl n := rfl

@[simp] theorem State.setSkp_same (s : State) (n : Nat) (x : SkPort) : (s.setSkp n x).skp n = x := Sparse.get_put_same ..
theorem State.setSkp_ne (s : State) (n k : Nat) (x : SkPort) (h : k ≠ n) : (s.setSkp n x).skp k = s.skp k := Sparse.get_put_ne _ _ _ _ _ h
@[simp] theorem State.set_skp (s : State) (f : Fld) (v : Nat) (n : Nat) : (s.set f v).skp n = s.skp n := rfl
@[simp] theorem State.emit_skp (s : State) (o : Out) (n : Nat) : (s.emit o).skp n = s.skp n := rfl
@[simp] theorem State.draw_skp (s : State) (n : Nat) : (s.draw).skp n = s.skp n := rfl
@[simp] theorem State.begin_skp (s : State) (n : Nat) : (s.begin).skp n = s.skp n := rfl

@[simp] theorem State.setMx_same (s : State) (n : Nat) (x : MotAx) : (s.setMx n x).mx n = x := Sparse.get_put_same ..
theorem State.setMx_ne (s : State) (n k : Nat) (x : MotAx) (h : k ≠ n) : (s.setMx n x).mx k = s.mx k := Sparse.get_put_ne _ _ _ _ _ h
@[simp] theorem State.set_mx (s : State) (f : Fld) (v : Nat) (n : Nat) : (s.set f v).mx n = s.mx n := rfl
@[simp] theorem State.emit_mx (s : State) (o : Out) (n : Nat) : (s.emit o).mx n = s.mx n := rfl
@[simp] theorem State.draw_mx (s : State) (n : Nat) : (s.draw).mx n = s.mx n := rfl
@[simp] theorem State.begin_mx (s : State) (n : Nat) : (s.begin).mx n = s.mx n := rfl

@[simp] theorem State.setEn_same (s : State) (n : Nat) (x : EncSt) : (s.setEn n x).en n = x := Sparse.get_put_same ..
theorem State.setEn_ne (s : State) (n k : Nat) (x : EncSt) (h : k ≠ n) : (s.setEn n x).en k = s.en k := Sparse.get_put_ne _ _ _ _ _ h
@[simp] theorem State.set_en (s : State) (f : Fld) (v : Nat) (n : Nat) : (s.set f v).en n = s.en n := rfl
@[simp] theorem State.emit_en (s : State) (o : Out) (n : Nat) : (s.emit o).en n = s.en n := rfl
@[simp] theorem State.draw_en (s : State) (n : Nat) : (s.draw).en n = s.en n := rfl
@[simp] theorem State.begin_en (s : State) (n : Nat) : (s.begin).en n = s.en n := rfl

@[simp] theorem State.setCtx_same (s : State) (n : Nat) (x : CtxSt) : (s.setCtx n x).ctx n = x := Sparse.get_put_same ..
theorem State.setCtx_ne (s : State) (n k : Nat) (x : CtxSt) (h : k ≠ n) : (s.setCtx n x).ctx k = s.ctx k := Sparse.get_put_ne _ _ _ _ _ h
@[simp] theorem State.set_ctx (s : State) (f : Fld) (v : Nat) (n : Nat) : (s.set f v).ctx n = s.ctx n := rfl
@[simp] theorem State.emit_ctx (s : State) (o : Out) (n : Nat) : (s.emit o).ctx n = s.ctx n := rfl
@[simp] theorem State.draw_ctx (s : State) (n : Nat) : (s.draw).ctx n = s.ctx n := rfl
@[simp] theorem State.begin_ctx (s : State) (n : Nat) : (s.begin).ctx n = s.ctx n := rfl

@[simp] theorem State.setLpe_same (s : State) (n : Nat) (x : LpeSt) : (s.setLpe n x).lpe n = x := Sparse.get_put_same ..
theorem State.setLpe_ne (s : State) (n k : Nat) (x : LpeSt) (h : k ≠ n) : (s.setLpe n x).lpe k = s.lpe k := Sparse.get_put_ne _ _ _ _ _ h
@[simp] theorem State.set_lpe (s : State) (f : Fld) (v : Nat) (n : Nat) : (s.set f v).lpe n = s.lpe n := rfl
@[simp] theorem State.emit_lpe (s : State) (o : Out) (n : Nat) : (s.emit o).lpe n = s.lpe n := rfl
@[simp] theorem State.draw_lpe (s : State) (n : Nat) : (s.draw).lpe n = s.lpe n := rfl
@[simp] theorem State.begin_lpe (s : State) (n : Nat) : (s.begin).lpe n = s.lpe n := rfl

@[simp] theorem State.setIllCh_same (s : State) (n : Nat) (x : IllCh) : (s.setIllCh n x).illCh n = x := Sparse.get_put_same ..
theorem State.setIllCh_ne (s : State) (n k : Nat) (x : IllCh) (h : k ≠ n) : (s.setIllCh n x).illCh k = s.illCh k := Sparse.get_put_ne _ _ _ _ _ h
@[simp] theorem State.set_illCh (s : State) (f : Fld) (v : Nat) (n : Nat) : (s.set f v).illCh n = s.illCh n := rfl
@[simp] theorem State.emit_illCh (s : State) (o : Out) (n : Nat) : (s.emit o).illCh n = s.illCh n := rfl
@[simp] theorem State.draw_illCh (s : State) (n : Nat) : (s.draw).illCh n = s.illCh n := rfl
@[simp] theorem State.begin_illCh (s : State) (n : Nat) : (s.begin).illCh n = s.illCh n := rfl

@[simp] theorem State.setAx_same (s : State) (n : Nat) (x : AxSt) : (s.setAx n x).ax n = x := Sparse.get_put_same ..
theorem State.setAx_ne (s : State) (n k : Nat) (x : AxSt) (h : k ≠ n) : (s.setAx n x).ax k = s.ax k := Sparse.get_put_ne _ _ _ _ _ h
@[simp] theorem State.set_ax (s : State) (f : Fld) (v : Nat) (n : Nat) : (s.set f v).ax n = s.ax n := rfl
@[simp] theorem State.emit_ax (s : State) (o : Out) (n : Nat) : (s.emit o).ax n = s.ax n := rfl
@[simp] theorem State.draw_ax (s : State) (n : Nat) : (s.draw).ax n = s.ax n := rfl
@[simp] theorem State.begin_ax (s : State) (n : Nat) : (s.begin).ax n = s.ax n := rfl

@[simp] theorem State.setGen_same (s : State) (n : Nat) (x : GenSt) : (s.setGen n x).gen n = x := Sparse.get_put_same ..
theorem State.setGen_ne (s : State) (n k : Nat) (x : GenSt) (h : k ≠ n) : (s.setGen n x).gen k = s.gen k := Sparse.get_put_ne _ _ _ _ _ h
@[simp] theorem State.set_gen (s : State) (f : Fld) (v : Nat) (n : Nat) : (s.set f v).gen n = s.gen n := rfl
@[simp] theorem State.emit_gen (s : State) (o : Out) (n : Nat) : (s.emit o).gen n = s.gen n := rfl
@[simp] theorem State.draw_gen (s : State) (n : Nat) : (s.draw).gen n = s.gen n := rfl
@[simp] theorem State.begin_gen (s : State) (n : Nat) : (s.begin).gen n = s.gen n := rfl

@[simp] theorem State.setCap_same (s : State) (n : Nat) (x : CapSt) : (s.setCap n x).cap n = x := Sparse.get_put_same ..
theorem State.setCap_ne (s : State) (n k : Nat) (x : CapSt) (h : k ≠ n) : (s.setCap n x).cap k = s.cap k := Sparse.get_put_ne _ _ _ _ _ h
@[simp] theorem State.set_cap (s : State) (f : Fld) (v : Nat) (n : Nat) : (s.set f v).cap n = s.cap n := rfl
@[simp] theorem State.emit_cap (s : State) (o : Out) (n : Nat) : (s.emit o).cap n = s.cap n := rfl
@[simp] theorem State.draw_cap (s : State) (n : Nat) : (s.draw).cap n = s.cap n := rfl
@[simp] theorem State.begin_cap (s : State) (n : Nat) : (s.begin).cap n = s.cap n := rfl

@[simp] theorem State.setBar_same (s : State) (n : Nat) (x : BarSt) : (s.setBar n x).bar n = x := Sparse.get_put_same ..
theorem State.setBar_ne (s : State) (n k : Nat) (x : BarSt) (h : k ≠ n) : (s.setBar n x).bar k = s.bar k := Sparse.get_put_ne _ _ _ _ _ h
@[simp] theorem State.set_bar (s : State) (f : Fld) (v : Nat) (n : Nat) : (s.set f v).bar n = s.bar n := rfl
@[simp] theorem State.emit_bar (s : State) (o : Out) (n : Nat) : (s.emit o).bar n = s.bar n := rfl
@[simp] theorem State.draw_bar (s : State) (n : Nat) : (s.draw).bar n = s.bar n := rfl
@[simp] theorem State.begin_bar (s : State) (n : Nat) : (s.begin).bar n = s.bar n := rfl

end Sys2Proof.Machine
end

