-- ==== Sys2Proof/Laws/Regs.lean ====
section
/-! SUPPORT. Reading a field of the register file after one was written. -/
namespace Sys2Proof.Machine

/-- A field reads from the register file alone. -/
theorem State.get_mk (a0 a1 a2 a3 a4 a5 a6 a7 a8 a9 a10 a11 a12 a13 a14 a15 a16 a17 a18 a19 a20 a21 a22 a23 a24 a25 a26 a27 a28 a29 a30 a31 a32 a33 a34 a35 a36 a37 a38 a39) (f : Fld) : State.get ⟨a0, a1, a2, a3, a4, a5, a6, a7, a8, a9, a10, a11, a12, a13, a14, a15, a16, a17, a18, a19, a20, a21, a22, a23, a24, a25, a26, a27, a28, a29, a30, a31, a32, a33, a34, a35, a36, a37, a38, a39⟩ f = Sparse.get f.rst a6 f.key := rfl

theorem State.get_eta (s : State) (f : Fld) : Sparse.get f.rst s.regs f.key = s.get f := rfl

/-- A field written reads as what was written, cut to its width. -/
theorem State.get_set (s : State) (f : Fld) (v : Nat) : (s.set f v).get f = v % 2 ^ f.width := Sparse.get_put_same ..

/-- A value that fits reads back whole. -/
theorem State.get_set_same (s : State) (f : Fld) (v : Nat) (h : v < 2 ^ f.width) : (s.set f v).get f = v := by
  rw [State.get_set, Nat.mod_eq_of_lt h]

/-- Another field reads as before. -/
theorem State.get_set_ne (s : State) (f g : Fld) (v : Nat) (h : g.key ≠ f.key) : (s.set f v).get g = s.get g := by
  unfold State.get State.set
  unfold Sparse.put
  split
  · exact Sparse.get_erase_ne _ _ _ _ h
  · exact Sparse.get_insert_ne _ _ _ _ _ h

/-- A flag set reads as set. -/
theorem State.flag_set_one (s : State) (f : Fld) (h : 0 < f.width) : (s.set f 1).flag f = true := by
  unfold State.flag
  rw [State.get_set_same _ _ _ (Nat.one_lt_two_pow (by omega))]
  rfl

/-- A flag cleared reads as clear. -/
theorem State.flag_set_zero (s : State) (f : Fld) : (s.set f 0).flag f = false := by
  unfold State.flag
  rw [State.get_set, Nat.zero_mod]
  rfl

/-- Another flag reads as before. -/
theorem State.flag_set_ne (s : State) (f g : Fld) (v : Nat) (h : g.key ≠ f.key) : (s.set f v).flag g = s.flag g := by
  unfold State.flag; rw [State.get_set_ne _ _ _ _ h]

/-- A pair written: another field reads as before. -/
theorem State.get_setPair_ne (s : State) (lo hi g : Fld) (v : Nat) (h1 : g.key ≠ lo.key) (h2 : g.key ≠ hi.key) :
    (s.setPair lo hi v).get g = s.get g := by
  unfold State.setPair; rw [State.get_set_ne _ _ _ _ h2, State.get_set_ne _ _ _ _ h1]

/-- A counter that saturates counts below its maximum. -/
theorem State.get_incSat (s : State) (f : Fld) (h : s.get f + 1 < 2 ^ f.width) : (s.incSat f).get f = s.get f + 1 := by
  unfold State.incSat; rw [if_pos h, State.get_set_same _ _ _ h]

/-- A counter that saturates stands at its maximum. -/
theorem State.get_incSat_max (s : State) (f : Fld) (h : ¬ s.get f + 1 < 2 ^ f.width) : s.incSat f = s := by
  unfold State.incSat; rw [if_neg h]

theorem State.get_incSat_ne (s : State) (f g : Fld) (h : g.key ≠ f.key) : (s.incSat f).get g = s.get g := by
  unfold State.incSat
  split
  · exact State.get_set_ne _ _ _ _ h
  · rfl

end Sys2Proof.Machine
end

