-- ==== Sys2Proof/Laws/Settle.lean ====
section
/-! SUPPORT. A command that asserts nothing, or only mild sources, leaves nothing to settle. -/
namespace Sys2Proof.Machine

/-- With nothing left to do and no arming under way, settling changes nothing. -/
theorem State.settle_of_quiet (s : State) (hq : s.quiet = true) (ha : s.mode.armed = false) : s.settle = s := by
  unfold State.settle State.armingGoesOn
  have h : s.settleN 64 = s := by
    unfold State.settleN
    rw [if_pos hq]
  rw [h, ha]
  rfl

/-- After a rest, a command that leaves the collector's lists and the arming alone and asks for no write of its own ends as it stands. -/
theorem State.settle_rest (s u : State) (h : s.restful = true) (hf : u.flt = s.begin.flt) (hm : u.mode.armed = s.mode.armed)
    (ho : u.own = []) : u.settle = u := by
  unfold State.restful at h
  simp only [Bool.and_eq_true, Bool.not_eq_true'] at h
  refine State.settle_of_quiet u ?_ (hm.trans h.2)
  unfold State.quiet
  rw [hf, ho]
  simpa using h.1

/-- The same, said of the collector's and the mode controller's state together. -/
theorem State.settle_ctrl (s u : State) (h : s.restful = true) (hc : u.ctrl = s.begin.ctrl) : u.settle = u :=
  State.settle_rest s u h (congrArg Prod.fst hc) (congrArg (fun p => p.2.1.armed) hc) (congrArg (fun p => p.2.2) hc)

/-- A write of a block's own, made as the only thing a command leaves to do, is all that settling does, where the write itself
asserts nothing (R18). -/
theorem State.own_settle (s u : State) (w : OwnWrite) (h : s.restful = true) (hu : u.ctrl = s.begin.ctrl)
    (ht : (u.ownWrite w).ctrl = s.begin.ctrl) : ({ u with own := [w] } : State).settle = u.ownWrite w := by
  have ho : u.own = [] := congrArg (fun p => p.2.2) hu
  have he : ({ u with own := [] } : State) = u := by rw [← ho]
  generalize hz : u.ownWrite w = t at ht
  have hf : t.flt = s.begin.flt := congrArg Prod.fst ht
  have hq : t.quiet = true := by
    unfold State.quiet
    rw [hf, show t.own = [] from congrArg (fun p => p.2.2) ht]
    unfold State.restful at h
    simp only [Bool.and_eq_true] at h
    simpa using h.1
  have h1 : ({ u with own := [w] } : State).settleOnce = t := by
    unfold State.settleOnce
    show ((((({ u with own := [] } : State).ownWrite w).flt.todo).foldl State.react _) : State).snapFill = t
    dsimp only
    rw [show [w].foldl State.ownWrite ({ u with own := [] } : State) = t from (congrArg (fun x => State.ownWrite x w) he).trans hz, he, hz]
    have hs : ({ t with flt := { t.flt with todo := [], force := [] } } : State) = t := by
      have : ({ t.flt with todo := [], force := [] } : FltSt) = t.flt := by rw [hf]; rfl
      rw [this]
    rw [hs, show t.flt.todo = [] from by rw [hf]; rfl, show t.flt.force = [] from by rw [hf]; rfl]
    show t.snapFill = t
    unfold State.snapFill
    rw [show t.flt.queue.findIdx? (fun (r : ChrRec) => !r.todo.isEmpty) = none from ?_]
    rw [List.findIdx?_eq_none_iff]
    intro r hr
    rw [hf] at hr
    unfold State.restful at h
    simp only [Bool.and_eq_true, List.all_eq_true] at h
    rw [h.1 r hr]
    rfl
  have ha : t.mode.armed = false := by
    have : t.mode = s.mode := congrArg (fun p => p.2.1) ht
    rw [this]
    unfold State.restful at h
    simp only [Bool.and_eq_true] at h
    simpa using h.2
  rw [← State.settle_of_quiet t hq ha]
  unfold State.settle
  have h2 : ({ u with own := [w] } : State).settleN 64 = t.settleN 63 := by
    rw [← h1]
    rfl
  have h3 : ∀ n, t.settleN n = t := by
    intro n
    cases n with
    | zero => rfl
    | succ n => unfold State.settleN; rw [if_pos hq]
  rw [h2, h3, h3]

end Sys2Proof.Machine
end

