-- ==== Sys2Proof/Laws/Source.lean ====
section
/-! SUPPORT. What the assertion of a mild source changes: registers of the collector, line 0, its message; nothing else. -/
namespace Sys2Proof.Machine

/-- `t` is `s` but for registers of the collector, the MSI-X pending bits and messages sent and the master of the fault held. -/
def State.sameBut (s t : State) : Prop :=
  (∃ r h o c, t = { s with regs := r, host := h, out := o, capMaster := c }) ∧ ∀ g, offCollector g = true → t.get g = s.get g

theorem State.sameBut.refl (s : State) : s.sameBut s := ⟨⟨s.regs, s.host, s.out, s.capMaster, rfl⟩, fun _ _ => rfl⟩

theorem State.sameBut.trans {s t u : State} (h1 : s.sameBut t) (h2 : t.sameBut u) : s.sameBut u := by
  obtain ⟨⟨r1, h1', o1, c1, e1⟩, g1⟩ := h1
  obtain ⟨⟨r2, h2', o2, c2, e2⟩, g2⟩ := h2
  subst e1
  exact ⟨⟨r2, h2', o2, c2, e2⟩, fun g hg => (g2 g hg).trans (g1 g hg)⟩

/-- Writing a field of the collector. -/
theorem State.sameBut_set (s : State) (f : Fld) (v : Nat) (hf : offCollector f = false) : s.sameBut (s.set f v) := by
  refine ⟨⟨(s.set f v).regs, s.host, s.out, s.capMaster, rfl⟩, fun g hg => State.get_set_ne _ _ _ _ ?_⟩
  intro hk
  have : offCollector g = offCollector f := by unfold offCollector; rw [hk]
  rw [this, hf] at hg
  cases hg

/-- Naming the master of the fault held. -/
theorem State.sameBut_capMaster (s : State) (c) : s.sameBut { s with capMaster := c } :=
  ⟨⟨s.regs, s.host, s.out, c, rfl⟩, fun _ _ => rfl⟩

theorem State.sameBut_incSat (s : State) (f : Fld) (hf : offCollector f = false) : s.sameBut (s.incSat f) := by
  unfold State.incSat
  split
  · exact s.sameBut_set f _ hf
  · exact State.sameBut.refl s

theorem off_act (i : Nat) (h : i < 16) : offCollector (FLT_ACT_SOURCE i) = false := by
  unfold offCollector inAddrs FLT_ACT_SOURCE Fld.key
  simp only [Bool.and_eq_false_iff, Bool.not_eq_false', Bool.and_eq_true, decide_eq_true_eq]
  left
  constructor <;> omega

theorem off_pend (i : Nat) (h : i < 16) : offCollector (FLT_PEND_SOURCE i) = false := by
  unfold offCollector inAddrs FLT_PEND_SOURCE Fld.key
  simp only [Bool.and_eq_false_iff, Bool.not_eq_false', Bool.and_eq_true, decide_eq_true_eq]
  left
  constructor <;> omega

theorem State.sameBut_setSrcBit (s : State) (f : Nat → Fld) (k : Nat) (hf : offCollector (f (k / 32)) = false) :
    s.sameBut (s.setSrcBit f k) := s.sameBut_set _ _ hf

theorem State.sameBut_clearSrcBit (s : State) (f : Nat → Fld) (k : Nat) (hf : offCollector (f (k / 32)) = false) :
    s.sameBut (s.clearSrcBit f k) := by
  unfold State.clearSrcBit
  split
  · exact s.sameBut_set _ _ hf
  · exact State.sameBut.refl s

theorem State.sameBut_capture (s : State) (k d : Nat) (r i p : Bool) : s.sameBut (s.capture k d r i p) := by
  unfold State.capture
  split
  · exact (s.sameBut_set _ _ (by decide)).trans (State.sameBut_incSat _ _ (by decide))
  · unfold State.setPair
    refine State.sameBut.trans ?_ (State.sameBut_capMaster _ _)
    refine State.sameBut.trans ?_ (State.sameBut_set _ FLT_STAT_CAPVALID _ (by decide))
    refine State.sameBut.trans ?_ (State.sameBut_set _ FLT_CAP_DETAIL_DETAIL _ (by decide))
    refine State.sameBut.trans ?_ (State.sameBut_set _ FLT_CAP_BEAT_HI_BEAT _ (by decide))
    refine State.sameBut.trans ?_ (State.sameBut_set _ FLT_CAP_BEAT_LO_BEAT _ (by decide))
    refine State.sameBut.trans ?_ (State.sameBut_set _ FLT_CAP_SRC_SOURCE _ (by decide))
    refine State.sameBut.trans ?_ (State.sameBut_set _ FLT_CAP_SRC_PERSIST _ (by decide))
    refine State.sameBut.trans ?_ (State.sameBut_set _ FLT_CAP_SRC_INJ _ (by decide))
    refine State.sameBut.trans ?_ (State.sameBut_set _ FLT_CAP_SRC_RAIL _ (by decide))
    exact State.sameBut_set _ FLT_CAP_SRC_VALID _ (by decide)

theorem State.sameBut_refresh0 (s : State) : s.sameBut (s.refreshLine 0) := by
  have hc : offCollector (cipField 0) = false := by decide
  have hm : ∀ t : State, t.sameBut (t.msixFire 0) := by
    intro t
    unfold State.msixFire
    split
    · exact ⟨⟨t.regs, _, t.out, t.capMaster, rfl⟩, fun _ _ => rfl⟩
    · exact ⟨⟨t.regs, t.host, _, t.capMaster, rfl⟩, fun _ _ => rfl⟩
  unfold State.refreshLine
  dsimp only
  split
  · split
    · exact State.sameBut.refl s
    · exact (s.sameBut_set _ _ hc).trans (hm _)
  · split
    · exact s.sameBut_set _ _ hc
    · exact State.sameBut.refl s

/-- The fields `mild` reads stand off the collector's registers, so it holds as long. -/
theorem State.sameBut.flag {s t : State} (h : s.sameBut t) (g : Fld) (hg : offCollector g = true) : t.flag g = s.flag g := by
  unfold State.flag; rw [h.2 g hg]

theorem State.sameBut.flt {s t : State} (h : s.sameBut t) : t.flt = s.flt := by
  obtain ⟨⟨r, h', o, c, rfl⟩, -⟩ := h; rfl

theorem off_cfg (k lo w : Nat) (hk : k < 512) : offCollector (FLT_CFG_field k lo w) = true := by
  unfold offCollector inAddrs FLT_CFG_field Fld.key
  have : SYS_CIP_LO_ACT.addr * 32 + SYS_CIP_LO_ACT.lo < 0x2000E01000 * 32 := by decide
  simp only [Bool.and_eq_true, Bool.not_eq_true', Bool.and_eq_false_iff, decide_eq_false_iff_not, decide_eq_true_eq]
  refine ⟨Or.inr ?_, ?_⟩
  · omega
  · intro h
    rw [← h] at this
    omega

/-- The reactions of a source with none configured. -/
theorem State.fireReactions_mild (s : State) (k : Nat) (h1 : srcSafety k = false) (h2 : s.flag (FLT_CFG_HACK k) = false)
    (h3 : s.flag (FLT_CFG_CRST k) = false) (h4 : s.flag (FLT_CFG_NMI k) = false) (h5 : s.flag (FLT_CFG_BRST k) = false)
    (h6 : s.flag (FLT_CFG_SPLIT k) = false) : s.fireReactions k = s := by
  unfold State.fireReactions State.srcForces
  simp [h1, h2, h3, h4, h5, h6]

/-- An assertion of a mild source. -/
theorem State.assertSrc_mild (s : State) (k a : Nat) (r : Bool) (hk : k < 512) (h : s.mild k = true) : s.sameBut (s.assertSrc k a r) := by
  unfold State.mild at h
  simp only [Bool.and_eq_true, Bool.not_eq_true', Option.isNone_iff_eq_none] at h
  obtain ⟨⟨⟨⟨⟨⟨⟨⟨h1, h2⟩, h3⟩, h4⟩, h5⟩, h6⟩, h7⟩, h8⟩, h9⟩ := h
  unfold State.assertSrc
  rw [if_neg (by simp [h8])]
  dsimp only
  have hw : s.srcWithheld k = false := by unfold State.srcWithheld; rw [h9]
  rw [hw, if_neg (show ¬ (false = true) by decide)]
  have hs1 : s.sameBut ((s.setSrcBit FLT_PEND_SOURCE k).capture k (s.srcDetail k a) r (s.srcInjected k) false) :=
    (s.sameBut_setSrcBit _ _ (off_pend _ (by omega))).trans (State.sameBut_capture ..)
  generalize (s.setSrcBit FLT_PEND_SOURCE k).capture k (s.srcDetail k a) r (s.srcInjected k) false = t at hs1 ⊢
  have hf := fun lo w => hs1.flag (FLT_CFG_field k lo w) (off_cfg k lo w hk)
  rw [State.fireReactions_mild t k h1 ((hf ..).trans h2) ((hf ..).trans h3) ((hf ..).trans h4) ((hf ..).trans h5) ((hf ..).trans h6)]
  have hen : t.flag CHR_CTL_EN = s.flag CHR_CTL_EN := hs1.flag _ (by decide)
  have hr : (if s.flag (FLT_CFG_CHR k) && srcAssigned k then
      t.record k (s.get (FLT_CFG_SEV k)) (s.srcDetail k a) (s.get (FLT_CFG_SNAPSET k)) r (s.srcInjected k) false [] else t) = t := by
    split
    · rename_i hc
      unfold State.record
      rw [if_pos]
      rw [hen]
      simp only [Bool.and_eq_true] at hc
      simpa [hc.1] using h7
    · rfl
  rw [hr]
  have hi : t.injectionHit k (s.srcDetail k a) = t := by
    unfold State.injectionHit; rw [hs1.flt, h9]
  rw [hi]
  exact hs1.trans (State.sameBut_refresh0 t)

/-- A mild source raised. -/
theorem State.raise_mild (s : State) (k a : Nat) (r : Bool) (hk : k < 512) (h : s.mild k = true) : s.sameBut (s.raise k a r) := by
  unfold State.raise
  split
  · exact State.sameBut.refl s
  · dsimp only
    have hs := s.sameBut_setSrcBit FLT_ACT_SOURCE k (off_act _ (by omega))
    have hm : (s.setSrcBit FLT_ACT_SOURCE k).mild k = true := by
      generalize s.setSrcBit FLT_ACT_SOURCE k = t at hs ⊢
      have hf := fun lo w => hs.flag (FLT_CFG_field k lo w) (off_cfg k lo w hk)
      have hen : t.flag CHR_CTL_EN = s.flag CHR_CTL_EN := hs.flag _ (by decide)
      unfold State.mild at h ⊢
      unfold State.srcMasked at h ⊢
      rw [hs.flt, hen]
      unfold FLT_CFG_HACK FLT_CFG_CRST FLT_CFG_NMI FLT_CFG_BRST FLT_CFG_SPLIT FLT_CFG_CHR at h ⊢
      simp only [hf]
      exact h
    split
    · exact hs.trans (State.assertSrc_mild _ _ _ _ hk hm)
    · exact hs

/-- A mild source lowered. -/
theorem State.lower_same (s : State) (k : Nat) (hk : k < 512) : s.sameBut (s.lower k) :=
  s.sameBut_clearSrcBit _ _ (off_act _ (by omega))

/-- A mild source active for an instant. -/
theorem State.pulse_mild (s : State) (k a : Nat) (hk : k < 512) (h : s.mild k = true) : s.sameBut (s.pulse k a) :=
  (s.raise_mild k a false hk h).trans (State.lower_same _ _ hk)

/-- What `sameBut` leaves: the unit states. -/
theorem State.sameBut.escs {s t : State} (h : s.sameBut t) : t.escs = s.escs := by obtain ⟨⟨r, h', o, c, rfl⟩, -⟩ := h; rfl
theorem State.sameBut.mode {s t : State} (h : s.sameBut t) : t.mode = s.mode := by obtain ⟨⟨r, h', o, c, rfl⟩, -⟩ := h; rfl
theorem State.sameBut.mem {s t : State} (h : s.sameBut t) : t.mem = s.mem := by obtain ⟨⟨r, h', o, c, rfl⟩, -⟩ := h; rfl

/-- `mild` outlasts what an assertion changes. -/
theorem State.sameBut.mild {s t : State} (h : s.sameBut t) (k : Nat) (hk : k < 512) : t.mild k = s.mild k := by
  have hf := fun lo w => h.flag (FLT_CFG_field k lo w) (off_cfg k lo w hk)
  have hen : t.flag CHR_CTL_EN = s.flag CHR_CTL_EN := h.flag _ (by decide)
  unfold State.mild State.srcMasked
  rw [h.flt, hen]
  unfold FLT_CFG_HACK FLT_CFG_CRST FLT_CFG_NMI FLT_CFG_BRST FLT_CFG_SPLIT FLT_CFG_CHR
  simp only [hf]

/-- An assertion of a mild source leaves the collector's lists and the mode controller alone. -/
theorem State.sameBut.ctrl {s t : State} (h : s.sameBut t) : t.ctrl = s.ctrl := by obtain ⟨⟨r, h', o, c, rfl⟩, -⟩ := h; rfl

theorem State.pulse_mild_ctrl (s : State) (k a : Nat) (hk : k < 512) (h : s.mild k = true) : (s.pulse k a).ctrl = s.ctrl :=
  (s.pulse_mild k a hk h).ctrl

theorem State.raise_mild_ctrl (s : State) (k a : Nat) (r : Bool) (hk : k < 512) (h : s.mild k = true) : (s.raise k a r).ctrl = s.ctrl :=
  (s.raise_mild k a r hk h).ctrl

/-- A field that `mild` does not read. -/
def offMild (f : Fld) : Bool := !inAddrs 0x2000E01000 0x2000E01800 f.key && decide (f.key ≠ CHR_CTL_EN.key)

theorem State.flag_set_off (s : State) (f g : Fld) (v : Nat) (h : g.key ≠ f.key) : (s.set f v).flag g = s.flag g := State.flag_set_ne _ _ _ _ h

theorem cfg_key_ne (f : Fld) (k lo w : Nat) (hk : k < 512) (hlo : lo < 32) (hf : offMild f = true) : (FLT_CFG_field k lo w).key ≠ f.key := by
  intro he
  unfold offMild inAddrs at hf
  rw [← he] at hf
  unfold FLT_CFG_field Fld.key at hf
  simp only [Bool.and_eq_true, Bool.not_eq_true', Bool.and_eq_false_iff, decide_eq_false_iff_not] at hf
  omega

/-- `mild` outlasts a write of another register. -/
theorem State.mild_set (s : State) (f : Fld) (v k : Nat) (hk : k < 512) (hf : offMild f = true) : (s.set f v).mild k = s.mild k := by
  have hc := fun lo w hlo => State.flag_set_ne s f (FLT_CFG_field k lo w) v (cfg_key_ne f k lo w hk hlo hf)
  have he : (s.set f v).flag CHR_CTL_EN = s.flag CHR_CTL_EN := by
    refine State.flag_set_ne _ _ _ _ ?_
    unfold offMild at hf
    simp only [Bool.and_eq_true, decide_eq_true_eq] at hf
    exact fun h => hf.2 h.symm
  unfold State.mild State.srcMasked
  rw [he]
  unfold FLT_CFG_HACK FLT_CFG_CRST FLT_CFG_NMI FLT_CFG_BRST FLT_CFG_SPLIT FLT_CFG_CHR
  rw [hc 29 1 (by decide), hc 27 1 (by decide), hc 25 1 (by decide), hc 26 1 (by decide), hc 17 1 (by decide), hc 16 1 (by decide)]
  rfl

end Sys2Proof.Machine
end

