-- ==== Sys2Proof/Laws/Safe.lean ====
section
/-! SUPPORT. What the assertion of a tame source changes when it is laser-safety or traps: beside the collector's registers the
ports, the calibration step that runs and the list that forces Halted; in Halted nothing of it is left to settle. -/
namespace Sys2Proof.Machine

/-- `t` is `s` but for what the hack line, the trap and the collector change. -/
def State.hackBut (s t : State) : Prop :=
  (∃ r h o cm p ph c fc, t = { s with regs := r, host := h, out := o, capMaster := cm, ports := p, portHold := ph, cal := c, flt := { s.flt with force := fc } }) ∧
  ∀ g, offHack g = true → t.get g = s.get g

theorem State.hackBut.trans {s t u : State} (h1 : s.hackBut t) (h2 : t.hackBut u) : s.hackBut u := by
  obtain ⟨⟨r1, a1, o1, m1, p1, ph1, c1, fc1, e1⟩, g1⟩ := h1
  obtain ⟨⟨r2, a2, o2, m2, p2, ph2, c2, fc2, e2⟩, g2⟩ := h2
  subst e1
  exact ⟨⟨r2, a2, o2, m2, p2, ph2, c2, fc2, e2⟩, fun g hg => (g2 g hg).trans (g1 g hg)⟩

theorem State.hackBut.refl (s : State) : s.hackBut s :=
  ⟨⟨s.regs, s.host, s.out, s.capMaster, s.ports, s.portHold, s.cal, s.flt.force, rfl⟩, fun _ _ => rfl⟩

theorem State.sameBut.hackBut {s t : State} (h : s.sameBut t) : s.hackBut t := by
  obtain ⟨⟨r, a, o, cm, rfl⟩, g⟩ := h
  refine ⟨⟨r, a, o, cm, s.ports, s.portHold, s.cal, s.flt.force, rfl⟩, fun f hf => g f ?_⟩
  unfold offHack at hf
  simp only [Bool.and_eq_true] at hf
  exact hf.1.1

theorem State.hackBut_set (s : State) (f : Fld) (v : Nat) (hf : offHack f = false) : s.hackBut (s.set f v) := by
  refine ⟨⟨(s.set f v).regs, s.host, s.out, s.capMaster, s.ports, s.portHold, s.cal, s.flt.force, rfl⟩, fun g hg => State.get_set_ne _ _ _ _ ?_⟩
  intro hk
  have : offHack g = offHack f := by unfold offHack offCollector; rw [hk]
  rw [this, hf] at hg
  cases hg

theorem offHack_gate (n : Nat) (h : n < 24) : offHack (LP_STAT_GATE n) = false ∧ offHack (LP_STAT_DACZ n) = false := by
  have h1 : inAddrs 0x2001300000 0x2001300200 (LP_STAT_GATE n).key = true := by
    unfold inAddrs LP_STAT_GATE Fld.key
    simp only [Bool.and_eq_true, decide_eq_true_eq]
    omega
  have h2 : inAddrs 0x2001300000 0x2001300200 (LP_STAT_DACZ n).key = true := by
    unfold inAddrs LP_STAT_DACZ Fld.key
    simp only [Bool.and_eq_true, decide_eq_true_eq]
    omega
  unfold offHack
  rw [h1, h2]
  simp

theorem State.hackBut_foldl {α : Type} (f : State → α → State) (l : List α) (h : ∀ s : State, ∀ x ∈ l, s.hackBut (f s x)) (s : State) :
    s.hackBut (l.foldl f s) := by
  induction l generalizing s with
  | nil => exact State.hackBut.refl s
  | cons x l ih =>
    exact (h s x (List.mem_cons_self ..)).trans (ih (fun t y hy => h t y (List.mem_cons_of_mem _ hy)) _)

theorem State.hackBut_lasersSafe (s : State) : s.hackBut s.lasersSafe := by
  have h0 : ∀ p ph, s.hackBut { s with ports := p, portHold := ph } := fun p ph =>
    ⟨⟨s.regs, s.host, s.out, s.capMaster, p, ph, s.cal, s.flt.force, rfl⟩, fun _ _ => rfl⟩
  unfold State.lasersSafe
  refine (h0 _ _).trans (State.hackBut_foldl _ _ (fun t n hn => ?_) _)
  have hn' := offHack_gate n (List.mem_range.mp hn)
  exact (t.hackBut_set _ _ hn'.1).trans (State.hackBut_set _ _ _ hn'.2)

theorem State.hackBut_calAbort (s : State) : s.hackBut s.calAbort := by
  have h0 : ∀ c, s.hackBut { s with cal := c } := fun c =>
    ⟨⟨s.regs, s.host, s.out, s.capMaster, s.ports, s.portHold, c, s.flt.force, rfl⟩, fun _ _ => rfl⟩
  unfold State.calAbort
  split
  · exact State.hackBut.refl s
  · have hi : ∀ t : State, t.hackBut (t.incSat CAL_CNT_ABORT) := by
      intro t
      unfold State.incSat
      split
      · exact t.hackBut_set _ _ (by decide)
      · exact State.hackBut.refl t
    exact ((((h0 _).trans (hi _)).trans (State.hackBut_set _ CAL_STAT_BUSY _ (by decide))).trans
      (State.hackBut_set _ CAL_STAT_UNIT _ (by decide))).trans (State.hackBut_set _ CAL_SEQ_KIND _ (by decide))

theorem State.hackBut_hackAssert (s : State) (c : Nat) : s.hackBut (s.hackAssert c) := by
  have he : ∀ (t : State) (x : Out), t.hackBut (t.emit x) := fun t x =>
    ⟨⟨t.regs, t.host, _, t.capMaster, t.ports, t.portHold, t.cal, t.flt.force, rfl⟩, fun _ _ => rfl⟩
  unfold State.hackAssert
  refine State.hackBut.trans ?_ ((State.hackBut_lasersSafe _).trans (State.hackBut_calAbort _))
  split
  · exact State.hackBut.refl s
  · exact ((s.hackBut_set _ _ (by decide)).trans (State.hackBut_set _ FLT_HACK_CAUSE _ (by decide))).trans (he _ _)

/-- The reactions of a tame source. -/
theorem State.hackBut_fire (s : State) (k : Nat) (h3 : s.flag (FLT_CFG_CRST k) = false) (h5 : s.flag (FLT_CFG_BRST k) = false)
    (h6 : s.flag (FLT_CFG_SPLIT k) = false) : s.hackBut (s.fireReactions k) := by
  have ht : ∀ t : State, t.hackBut t.trapCores := fun t =>
    ⟨⟨t.regs, _, _, t.capMaster, t.ports, t.portHold, t.cal, t.flt.force, rfl⟩, fun _ _ => rfl⟩
  have hff : ∀ (t : State) l, t.hackBut { t with flt := { t.flt with force := l } } := fun t l =>
    ⟨⟨t.regs, t.host, t.out, t.capMaster, t.ports, t.portHold, t.cal, l, rfl⟩, fun _ _ => rfl⟩
  unfold State.fireReactions
  dsimp only
  rw [h3, h5, h6]
  simp only [Bool.or_self, Bool.false_eq_true, if_false, Bool.or_false]
  have h1 : s.hackBut (if s.flag (FLT_CFG_HACK k) = true then s.hackAssert k else s) := by
    split
    · exact State.hackBut_hackAssert ..
    · exact State.hackBut.refl s
  generalize (if s.flag (FLT_CFG_HACK k) = true then s.hackAssert k else s) = t at h1 ⊢
  have h2 : s.hackBut (if s.flag (FLT_CFG_NMI k) = true then t.trapCores else t) := by
    split
    · exact h1.trans (ht t)
    · exact h1
  generalize (if s.flag (FLT_CFG_NMI k) = true then t.trapCores else t) = u at h2 ⊢
  split
  · exact h2.trans (hff _ _)
  · exact h2

theorem State.hackBut.inj {s t : State} (h : s.hackBut t) : t.flt.inj = s.flt.inj := by
  obtain ⟨⟨r, a, o, cm, p, ph, c, fc, rfl⟩, -⟩ := h; rfl

theorem State.hackBut.todo {s t : State} (h : s.hackBut t) : t.flt.todo = s.flt.todo := by
  obtain ⟨⟨r, a, o, cm, p, ph, c, fc, rfl⟩, -⟩ := h; rfl

theorem State.hackBut.queue {s t : State} (h : s.hackBut t) : t.flt.queue = s.flt.queue := by
  obtain ⟨⟨r, a, o, cm, p, ph, c, fc, rfl⟩, -⟩ := h; rfl

theorem State.hackBut.own {s t : State} (h : s.hackBut t) : t.own = s.own := by
  obtain ⟨⟨r, a, o, cm, p, ph, c, fc, rfl⟩, -⟩ := h; rfl

theorem State.hackBut.mode {s t : State} (h : s.hackBut t) : t.mode = s.mode := by
  obtain ⟨⟨r, a, o, cm, p, ph, c, fc, rfl⟩, -⟩ := h; rfl

theorem State.hackBut.rst {s t : State} (h : s.hackBut t) : t.rst = s.rst := by
  obtain ⟨⟨r, a, o, cm, p, ph, c, fc, rfl⟩, -⟩ := h; rfl

/-- A tame source asserted. -/
theorem State.assertSrc_tame (s : State) (k a : Nat) (r : Bool) (hk : k < 512) (h : s.tame k = true) : s.hackBut (s.assertSrc k a r) := by
  unfold State.tame at h
  simp only [Bool.and_eq_true, Bool.not_eq_true', Option.isNone_iff_eq_none] at h
  obtain ⟨⟨⟨⟨⟨h3, h5⟩, h6⟩, h7⟩, h8⟩, h9⟩ := h
  unfold State.assertSrc
  rw [if_neg (by simp [h8])]
  dsimp only
  have hw : s.srcWithheld k = false := by unfold State.srcWithheld; rw [h9]
  rw [hw, if_neg (show ¬ (false = true) by decide)]
  have hs1 : s.sameBut ((s.setSrcBit FLT_PEND_SOURCE k).capture k (s.srcDetail k a) r (s.srcInjected k) false) :=
    (s.sameBut_setSrcBit _ _ (off_pend _ (by omega))).trans (State.sameBut_capture ..)
  generalize (s.setSrcBit FLT_PEND_SOURCE k).capture k (s.srcDetail k a) r (s.srcInjected k) false = t at hs1 ⊢
  have hf := fun lo w => hs1.flag (FLT_CFG_field k lo w) (off_cfg k lo w hk)
  have hu := State.hackBut_fire t k ((hf ..).trans h3) ((hf ..).trans h5) ((hf ..).trans h6)
  generalize t.fireReactions k = u at hu ⊢
  have hen : u.flag CHR_CTL_EN = s.flag CHR_CTL_EN := by
    unfold State.flag
    rw [hu.2 CHR_CTL_EN (by decide), hs1.2 CHR_CTL_EN (by decide)]
  have hr : (if s.flag (FLT_CFG_CHR k) && srcAssigned k then
      u.record k (s.get (FLT_CFG_SEV k)) (s.srcDetail k a) (s.get (FLT_CFG_SNAPSET k)) r (s.srcInjected k) false [] else u) = u := by
    split
    · rename_i hc
      unfold State.record
      rw [if_pos]
      rw [hen]
      simp only [Bool.and_eq_true] at hc
      simpa [hc.1] using h7
    · rfl
  rw [hr]
  have hi : u.injectionHit k (s.srcDetail k a) = u := by
    unfold State.injectionHit; rw [hu.inj, hs1.flt, h9]
  rw [hi]
  exact (hs1.hackBut.trans hu).trans (State.sameBut_refresh0 u).hackBut

/-- A tame source raised. -/
theorem State.raise_tame (s : State) (k a : Nat) (r : Bool) (hk : k < 512) (h : s.tame k = true) : s.hackBut (s.raise k a r) := by
  unfold State.raise
  split
  · exact State.hackBut.refl s
  · dsimp only
    have hs := s.sameBut_setSrcBit FLT_ACT_SOURCE k (off_act _ (by omega))
    have hm : (s.setSrcBit FLT_ACT_SOURCE k).tame k = true := by
      generalize s.setSrcBit FLT_ACT_SOURCE k = t at hs ⊢
      have hf := fun lo w => hs.flag (FLT_CFG_field k lo w) (off_cfg k lo w hk)
      have hen : t.flag CHR_CTL_EN = s.flag CHR_CTL_EN := hs.flag _ (by decide)
      unfold State.tame State.srcMasked at h ⊢
      rw [hs.flt, hen]
      unfold FLT_CFG_CRST FLT_CFG_BRST FLT_CFG_SPLIT FLT_CFG_CHR at h ⊢
      simp only [hf]
      exact h
    split
    · exact hs.hackBut.trans (State.assertSrc_tame _ _ _ _ hk hm)
    · exact hs.hackBut

theorem State.pulse_tame (s : State) (k a : Nat) (hk : k < 512) (h : s.tame k = true) : s.hackBut (s.pulse k a) :=
  (s.raise_tame k a false hk h).trans (State.lower_same _ _ hk).hackBut

/-- In Halted with no transition and no request, with no reaction through another block and no record to read, settling only takes note of what forced Halted. -/
theorem State.settle_halted (u : State) (ht : u.flt.todo = []) (hq : u.flt.queue.all (fun (r : ChrRec) => r.todo.isEmpty) = true)
    (ho : u.own = []) (hm : u.modeCode = mHalted) (ha : u.mode.armed = false)
    (htr : u.mode.trans = none) (hpd : u.mode.pend = none) :
    u.settle = { u with flt := { u.flt with force := [], todo := [] } } := by
  by_cases hf : u.flt.force = []
  · rw [State.settle_of_quiet u (by unfold State.quiet; rw [ho, ht, hf, hq]; rfl) ha]
    have he : ({ u.flt with force := [], todo := [] } : FltSt) = u.flt := by
      generalize u.flt = f at hf ht
      obtain ⟨⟩ := f
      simp only at hf ht
      rw [hf, ht]
    rw [he]
  · have h1 : u.settleOnce = { u with flt := { u.flt with force := [], todo := [] } } := by
      unfold State.settleOnce
      have he : u.flt.force.isEmpty = false := by cases hc : u.flt.force <;> simp_all
      have hfh : ∀ w : State, w.modeCode = mHalted → w.mode = u.mode → w.forceHalted u.flt.force = w := by
        intro w hw hwm
        unfold State.forceHalted
        rw [if_pos (Or.inr ⟨hw, by rw [hwm, htr]; rfl, by rw [hwm, hpd]; rfl⟩)]
      have hu : ({ u with own := [] } : State) = u := by rw [← ho]
      have hw : u.own.foldl State.ownWrite { u with own := [] } = u := by rw [hu, ho]; rfl
      rw [hw]
      dsimp only
      rw [he, ht, List.foldl_nil, if_neg (by decide), hfh { u with flt := { u.flt with todo := [], force := [] } } hm rfl]
      unfold State.snapFill
      have hn : ({ u with flt := { u.flt with todo := [], force := [] } } : State).flt.queue.findIdx?
          (fun (r : ChrRec) => !r.todo.isEmpty) = none := by
        rw [List.findIdx?_eq_none_iff]
        intro x hx
        have := List.all_eq_true.mp hq x hx
        simp [this]
      rw [hn]
    have hq' : ({ u with flt := { u.flt with force := [], todo := [] } } : State).quiet = true := by
      unfold State.quiet; simp [hq, ho]
    unfold State.settle
    have h2 : u.settleN 64 = { u with flt := { u.flt with force := [], todo := [] } } := by
      unfold State.settleN
      split
      · rename_i hqu
        unfold State.quiet at hqu
        simp [hf] at hqu
      · rw [h1]
        unfold State.settleN
        rw [if_pos hq']
    rw [h2]
    unfold State.armingGoesOn
    rw [show ({ u with flt := { u.flt with force := [], todo := [] } } : State).mode = u.mode from rfl, ha]
    rfl

/-- In Halted, after a rest: what a command did before tame sources were asserted is what stands after it, but for what they
change. -/
theorem State.settle_tame (s u : State) (h : s.restful = true) (hm : s.modeCode = mHalted)
    (htr : s.mode.trans = none) (hpd : s.mode.pend = none)
    (v : State) (hv : v.ctrl = s.begin.ctrl) (hvm : v.modeCode = s.modeCode) (hu : v.hackBut u) :
    u.settle.rst = v.rst ∧ (∀ g, offHack g = true → u.settle.get g = v.get g) := by
  have hh : s.begin.flt.queue.all (fun (r : ChrRec) => r.todo.isEmpty) = true ∧ s.mode.armed = false := by
    unfold State.restful at h; simp only [Bool.and_eq_true, Bool.not_eq_true'] at h; exact h
  have hvf : v.flt = s.begin.flt := congrArg Prod.fst hv
  have hvm' : v.mode = s.begin.mode := congrArg (fun p => p.2.1) hv
  have hvo : v.own = [] := congrArg (fun p => p.2.2) hv
  rw [State.settle_halted u]
  · exact ⟨hu.rst, fun g hg => hu.2 g hg⟩
  · rw [hu.todo, hvf]; rfl
  · rw [hu.queue, hvf]; exact hh.1
  · rw [hu.own, hvo]
  · show u.get SYS_MODE_STAT_MODE = _
    rw [hu.2 _ (by decide)]; exact hvm.trans hm
  · rw [hu.mode, hvm']; exact hh.2
  · rw [hu.mode, hvm']; exact htr
  · rw [hu.mode, hvm']; exact hpd

end Sys2Proof.Machine
end

