-- ==== Sys2Proof/Laws/Reset.lean ====
section
/-! SUPPORT. What the assertion of a reset source does outside an episode (R529, R530, R536). -/
namespace Sys2Proof.Machine

/-- A reset that cuts the writes of the NV store leaves the block's own writes alone. -/
theorem State.nvCut_own (s : State) : s.nvCut.own = s.own := by
  have h : ∀ (l : List Remap) (t : State), (l.foldl (fun t r =>
      match r.write with
      | some (_, ofs, v) => (if t.freeNext % 2 = 1 then t.nvStore ofs (leBytes v 8) else t).draw
      | none => t) t).ctrl = t.ctrl := by
    intro l t
    refine State.ctrl_foldl _ (fun t r => ?_) l t
    split
    · rw [State.draw_ctrl]
      split
      · exact State.nvStore_ctrl ..
      · rfl
    · rfl
  unfold State.nvCut
  exact (congrArg (fun p => p.2.2) (h _ _)).trans (congrArg (fun p => p.2.2) (State.trimCut_ctrl s))

/-- The state after the cause and the reach of a new episode have been written. -/
theorem State.assertReset_off (s : State) (k : Nat) (hk : k < 10) (hp : s.rst.phase = .off) :
    (s.assertReset k).rst.phase = .driven ∧ (s.assertReset k).get SYS_RST_CAUSE_CAUSE = 2 ^ k ∧
    (s.assertReset k).get SYS_RST_CAUSE_LASTREACH = rstReach k ∧ (s.assertReset k).rst.reach = rstReach k ∧
    (s.assertReset k).ctrl = ({}, {}, s.own) := by
  have hc : ∀ (t : State) r, (t.clearReach r).ctrl = ({}, {}, t.own) := by
    intro t r
    have h0 : ∀ (l : List Nat) (u : State), (l.foldl (fun u k => u.setSrcBit FLT_ACT_SOURCE k) u).ctrl = u.ctrl :=
      fun l u => State.ctrl_foldl _ (fun u k => State.setSrcBit_ctrl ..) l u
    unfold State.clearReach
    dsimp only
    rw [State.set_ctrl, h0]
    split
    · simp only [State.ctrl_mk, State.ctrl_eta]
      rw [State.zeroMem_ctrl, State.resetRegs_ctrl, State.zeroMem_ctrl]
      rfl
    · rw [State.resetRegs_ctrl, State.zeroMem_ctrl]
      rfl
  have ho : ∀ keep, (s.nvCut.dramRefresh keep).own = s.own := fun keep =>
    (congrArg (fun p => p.2.2) (State.dramRefresh_ctrl s.nvCut keep)).trans s.nvCut_own
  have hw : 2 ^ k < 2 ^ 10 := Nat.pow_lt_pow_right (by decide) hk
  have hr : rstReach k < 2 ^ 2 := by unfold rstReach; (repeat' split) <;> decide
  unfold State.assertReset
  simp only [hp]
  simp only [show ((RstPhase.off == RstPhase.driven || RstPhase.off == RstPhase.released) = false) from rfl, Bool.false_eq_true, if_false,
    reduceCtorEq]
  refine ⟨rfl, ?_, ?_, rfl, ?_⟩
  · rw [State.emit_get, State.get_set_ne _ _ _ _ (by decide), State.emit_get, State.get_set_same _ _ _ hw]
  · rw [State.emit_get, State.get_set_same _ _ _ hr]
    rfl
  · simp only [State.emit_ctrl, State.set_ctrl, State.ctrl_mk, State.ctrl_eta, hc, ho]

end Sys2Proof.Machine
end

