-- ==== Sys2Proof/Laws/ModeEntry.lean ====
section
/-! SUPPORT. What an entry into a mode leaves of the mode register while the blocks follow it (R47, R52). -/
namespace Sys2Proof.Machine

/-- A field other than SYS_MODE_STAT.MODE. -/
def offMode (f : Fld) : Bool := decide (f.key ≠ SYS_MODE_STAT_MODE.key)

theorem BAL_AXSTAT_APPROACH_off (i : Nat) : offMode (BAL_AXSTAT_APPROACH i) = true := by unfold offMode BAL_AXSTAT_APPROACH SYS_MODE_STAT_MODE Fld.key; simp only [decide_eq_true_eq]; omega
theorem BAL_AXSTAT_BLEND_off (i : Nat) : offMode (BAL_AXSTAT_BLEND i) = true := by unfold offMode BAL_AXSTAT_BLEND SYS_MODE_STAT_MODE Fld.key; simp only [decide_eq_true_eq]; omega
theorem BAL_AXSTAT_MISS_off (i : Nat) : offMode (BAL_AXSTAT_MISS i) = true := by unfold offMode BAL_AXSTAT_MISS SYS_MODE_STAT_MODE Fld.key; simp only [decide_eq_true_eq]; omega
theorem BAL_AXSTAT_NUMERR_off (i : Nat) : offMode (BAL_AXSTAT_NUMERR i) = true := by unfold offMode BAL_AXSTAT_NUMERR SYS_MODE_STAT_MODE Fld.key; simp only [decide_eq_true_eq]; omega
theorem BAL_AXSTAT_STATE_off (i : Nat) : offMode (BAL_AXSTAT_STATE i) = true := by unfold offMode BAL_AXSTAT_STATE SYS_MODE_STAT_MODE Fld.key; simp only [decide_eq_true_eq]; omega
theorem BAL_AXSTAT_TRK_off (i : Nat) : offMode (BAL_AXSTAT_TRK i) = true := by unfold offMode BAL_AXSTAT_TRK SYS_MODE_STAT_MODE Fld.key; simp only [decide_eq_true_eq]; omega
theorem BAL_INJSTAT_ACTIVE_off (i : Nat) : offMode (BAL_INJSTAT_ACTIVE i) = true := by unfold offMode BAL_INJSTAT_ACTIVE SYS_MODE_STAT_MODE Fld.key; simp only [decide_eq_true_eq]; omega
theorem BAL_OUT_CODE_off (i : Nat) : offMode (BAL_OUT_CODE i) = true := by unfold offMode BAL_OUT_CODE SYS_MODE_STAT_MODE Fld.key; simp only [decide_eq_true_eq]; omega
theorem BAL_STAT_CLOSED_off : offMode BAL_STAT_CLOSED = true := by decide
theorem BRG_LINGER_LINGER_off : offMode BRG_LINGER_LINGER = true := by decide
theorem BRG_ORPH_INDEX_off (i : Nat) : offMode (BRG_ORPH_INDEX i) = true := by unfold offMode BRG_ORPH_INDEX SYS_MODE_STAT_MODE Fld.key; simp only [decide_eq_true_eq]; omega
theorem BRG_ORPH_POOL_off (i : Nat) : offMode (BRG_ORPH_POOL i) = true := by unfold offMode BRG_ORPH_POOL SYS_MODE_STAT_MODE Fld.key; simp only [decide_eq_true_eq]; omega
theorem BRG_ORPH_SIDE_off (i : Nat) : offMode (BRG_ORPH_SIDE i) = true := by unfold offMode BRG_ORPH_SIDE SYS_MODE_STAT_MODE Fld.key; simp only [decide_eq_true_eq]; omega
theorem BRG_ORPH_VALID_off (i : Nat) : offMode (BRG_ORPH_VALID i) = true := by unfold offMode BRG_ORPH_VALID SYS_MODE_STAT_MODE Fld.key; simp only [decide_eq_true_eq]; omega
theorem BRG_PCFG_COUNT_off (i : Nat) : offMode (BRG_PCFG_COUNT i) = true := by unfold offMode BRG_PCFG_COUNT SYS_MODE_STAT_MODE Fld.key; simp only [decide_eq_true_eq]; omega
theorem BRG_PCFG_EN_off (i : Nat) : offMode (BRG_PCFG_EN i) = true := by unfold offMode BRG_PCFG_EN SYS_MODE_STAT_MODE Fld.key; simp only [decide_eq_true_eq]; omega
theorem BRG_PCFG_KIND_off (i : Nat) : offMode (BRG_PCFG_KIND i) = true := by unfold offMode BRG_PCFG_KIND SYS_MODE_STAT_MODE Fld.key; simp only [decide_eq_true_eq]; omega
theorem BRG_PCUR_CUR0_off (i : Nat) : offMode (BRG_PCUR_CUR0 i) = true := by unfold offMode BRG_PCUR_CUR0 SYS_MODE_STAT_MODE Fld.key; simp only [decide_eq_true_eq]; omega
theorem BRG_PCUR_CUR1_off (i : Nat) : offMode (BRG_PCUR_CUR1 i) = true := by unfold offMode BRG_PCUR_CUR1 SYS_MODE_STAT_MODE Fld.key; simp only [decide_eq_true_eq]; omega
theorem BRG_PELIG_ELIG_off (i : Nat) : offMode (BRG_PELIG_ELIG i) = true := by unfold offMode BRG_PELIG_ELIG SYS_MODE_STAT_MODE Fld.key; simp only [decide_eq_true_eq]; omega
theorem BRG_PSIDE1_SIDE1_off (i : Nat) : offMode (BRG_PSIDE1_SIDE1 i) = true := by unfold offMode BRG_PSIDE1_SIDE1 SYS_MODE_STAT_MODE Fld.key; simp only [decide_eq_true_eq]; omega
theorem BRG_SEED_SEED_off : offMode BRG_SEED_SEED = true := by decide
theorem BRG_STAT_CFGERR_off : offMode BRG_STAT_CFGERR = true := by decide
theorem BRG_STAT_ORPHAN_off : offMode BRG_STAT_ORPHAN = true := by decide
theorem BRG_STAT_ORPHOVF_off : offMode BRG_STAT_ORPHOVF = true := by decide
theorem BRG_STAT_SHPEND_off : offMode BRG_STAT_SHPEND = true := by decide
theorem BRG_STAT_UNDRAWN_off : offMode BRG_STAT_UNDRAWN = true := by decide
theorem BRG_ZOWN_OWNED_off (i : Nat) : offMode (BRG_ZOWN_OWNED i) = true := by unfold offMode BRG_ZOWN_OWNED SYS_MODE_STAT_MODE Fld.key; simp only [decide_eq_true_eq]; omega
theorem BRG_ZOWN_OWNER_off (i : Nat) : offMode (BRG_ZOWN_OWNER i) = true := by unfold offMode BRG_ZOWN_OWNER SYS_MODE_STAT_MODE Fld.key; simp only [decide_eq_true_eq]; omega
theorem CAL_CNT_ABORT_off : offMode CAL_CNT_ABORT = true := by decide
theorem CAL_SEQ_KIND_off : offMode CAL_SEQ_KIND = true := by decide
theorem CAL_SEQ_MASK_off : offMode CAL_SEQ_MASK = true := by decide
theorem CAL_STAT_BUSY_off : offMode CAL_STAT_BUSY = true := by decide
theorem CAL_STAT_UNIT_off : offMode CAL_STAT_UNIT = true := by decide
theorem CHR_CTL_EN_off : offMode CHR_CTL_EN = true := by decide
theorem CHR_DROP_QDROP_off : offMode CHR_DROP_QDROP = true := by decide
theorem CHR_SET_OFFSET_off (i j : Nat) : offMode (CHR_SET_OFFSET i j) = true := by unfold offMode CHR_SET_OFFSET SYS_MODE_STAT_MODE Fld.key; simp only [decide_eq_true_eq]; omega
theorem CHR_SET_VALID_off (i j : Nat) : offMode (CHR_SET_VALID i j) = true := by unfold offMode CHR_SET_VALID SYS_MODE_STAT_MODE Fld.key; simp only [decide_eq_true_eq]; omega
theorem CHR_STAT_BUSY_off : offMode CHR_STAT_BUSY = true := by decide
theorem CHR_STAT_QOVF_off : offMode CHR_STAT_QOVF = true := by decide
theorem CHR_TSET_MODE_off : offMode CHR_TSET_MODE = true := by decide
theorem DIAL_PEER_EN_off (i : Nat) : offMode (DIAL_PEER_EN i) = true := by unfold offMode DIAL_PEER_EN SYS_MODE_STAT_MODE Fld.key; simp only [decide_eq_true_eq]; omega
theorem DIAL_STAT_SHPEND_off : offMode DIAL_STAT_SHPEND = true := by decide
theorem ESC_EVENT_EVENT_off (i : Nat) : offMode (ESC_EVENT_EVENT i) = true := by unfold offMode ESC_EVENT_EVENT SYS_MODE_STAT_MODE Fld.key; simp only [decide_eq_true_eq]; omega
theorem ESC_GSTAT_GOERR_off : offMode ESC_GSTAT_GOERR = true := by decide
theorem ESC_GSTAT_LATEGO_off : offMode ESC_GSTAT_LATEGO = true := by decide
theorem ESC_GSTAT_READY_off : offMode ESC_GSTAT_READY = true := by decide
theorem ESC_INTEN_CONT_off (i : Nat) : offMode (ESC_INTEN_CONT i) = true := by unfold offMode ESC_INTEN_CONT SYS_MODE_STAT_MODE Fld.key; simp only [decide_eq_true_eq]; omega
theorem ESC_INTEN_HALT_off (i : Nat) : offMode (ESC_INTEN_HALT i) = true := by unfold offMode ESC_INTEN_HALT SYS_MODE_STAT_MODE Fld.key; simp only [decide_eq_true_eq]; omega
theorem ESC_INTEN_TRAP_off (i : Nat) : offMode (ESC_INTEN_TRAP i) = true := by unfold offMode ESC_INTEN_TRAP SYS_MODE_STAT_MODE Fld.key; simp only [decide_eq_true_eq]; omega
theorem ESC_INTEN_UNDER_off (i : Nat) : offMode (ESC_INTEN_UNDER i) = true := by unfold offMode ESC_INTEN_UNDER SYS_MODE_STAT_MODE Fld.key; simp only [decide_eq_true_eq]; omega
theorem ESC_INT_CONT_off (i : Nat) : offMode (ESC_INT_CONT i) = true := by unfold offMode ESC_INT_CONT SYS_MODE_STAT_MODE Fld.key; simp only [decide_eq_true_eq]; omega
theorem ESC_INT_HALT_off (i : Nat) : offMode (ESC_INT_HALT i) = true := by unfold offMode ESC_INT_HALT SYS_MODE_STAT_MODE Fld.key; simp only [decide_eq_true_eq]; omega
theorem ESC_INT_TRAP_off (i : Nat) : offMode (ESC_INT_TRAP i) = true := by unfold offMode ESC_INT_TRAP SYS_MODE_STAT_MODE Fld.key; simp only [decide_eq_true_eq]; omega
theorem ESC_INT_UNDER_off (i : Nat) : offMode (ESC_INT_UNDER i) = true := by unfold offMode ESC_INT_UNDER SYS_MODE_STAT_MODE Fld.key; simp only [decide_eq_true_eq]; omega
theorem ESC_PC_HI_ADDR_off (i : Nat) : offMode (ESC_PC_HI_ADDR i) = true := by unfold offMode ESC_PC_HI_ADDR SYS_MODE_STAT_MODE Fld.key; simp only [decide_eq_true_eq]; omega
theorem ESC_PC_LO_ADDR_off (i : Nat) : offMode (ESC_PC_LO_ADDR i) = true := by unfold offMode ESC_PC_LO_ADDR SYS_MODE_STAT_MODE Fld.key; simp only [decide_eq_true_eq]; omega
theorem ESC_STAT_DRYRUN_off (i : Nat) : offMode (ESC_STAT_DRYRUN i) = true := by unfold offMode ESC_STAT_DRYRUN SYS_MODE_STAT_MODE Fld.key; simp only [decide_eq_true_eq]; omega
theorem ESC_STAT_READY_off (i : Nat) : offMode (ESC_STAT_READY i) = true := by unfold offMode ESC_STAT_READY SYS_MODE_STAT_MODE Fld.key; simp only [decide_eq_true_eq]; omega
theorem ESC_STAT_SEGQ_off (i : Nat) : offMode (ESC_STAT_SEGQ i) = true := by unfold offMode ESC_STAT_SEGQ SYS_MODE_STAT_MODE Fld.key; simp only [decide_eq_true_eq]; omega
theorem ESC_STAT_STATE_off (i : Nat) : offMode (ESC_STAT_STATE i) = true := by unfold offMode ESC_STAT_STATE SYS_MODE_STAT_MODE Fld.key; simp only [decide_eq_true_eq]; omega
theorem ESC_SW_TO_off (i : Nat) : offMode (ESC_SW_TO i) = true := by unfold offMode ESC_SW_TO SYS_MODE_STAT_MODE Fld.key; simp only [decide_eq_true_eq]; omega
theorem ESC_TRAP_ADDR_HI_VALUE_off (i : Nat) : offMode (ESC_TRAP_ADDR_HI_VALUE i) = true := by unfold offMode ESC_TRAP_ADDR_HI_VALUE SYS_MODE_STAT_MODE Fld.key; simp only [decide_eq_true_eq]; omega
theorem ESC_TRAP_ADDR_LO_VALUE_off (i : Nat) : offMode (ESC_TRAP_ADDR_LO_VALUE i) = true := by unfold offMode ESC_TRAP_ADDR_LO_VALUE SYS_MODE_STAT_MODE Fld.key; simp only [decide_eq_true_eq]; omega
theorem ESC_TRAP_CAUSE_off (i : Nat) : offMode (ESC_TRAP_CAUSE i) = true := by unfold offMode ESC_TRAP_CAUSE SYS_MODE_STAT_MODE Fld.key; simp only [decide_eq_true_eq]; omega
theorem ESC_TRAP_CODE_off (i : Nat) : offMode (ESC_TRAP_CODE i) = true := by unfold offMode ESC_TRAP_CODE SYS_MODE_STAT_MODE Fld.key; simp only [decide_eq_true_eq]; omega
theorem ESC_TRAP_PC_HI_VALUE_off (i : Nat) : offMode (ESC_TRAP_PC_HI_VALUE i) = true := by unfold offMode ESC_TRAP_PC_HI_VALUE SYS_MODE_STAT_MODE Fld.key; simp only [decide_eq_true_eq]; omega
theorem ESC_TRAP_PC_LO_VALUE_off (i : Nat) : offMode (ESC_TRAP_PC_LO_VALUE i) = true := by unfold offMode ESC_TRAP_PC_LO_VALUE SYS_MODE_STAT_MODE Fld.key; simp only [decide_eq_true_eq]; omega
theorem ESC_TRAP_WORD_HI_VALUE_off (i : Nat) : offMode (ESC_TRAP_WORD_HI_VALUE i) = true := by unfold offMode ESC_TRAP_WORD_HI_VALUE SYS_MODE_STAT_MODE Fld.key; simp only [decide_eq_true_eq]; omega
theorem ESC_TRAP_WORD_LO_VALUE_off (i : Nat) : offMode (ESC_TRAP_WORD_LO_VALUE i) = true := by unfold offMode ESC_TRAP_WORD_LO_VALUE SYS_MODE_STAT_MODE Fld.key; simp only [decide_eq_true_eq]; omega
theorem FLT_ACT_SOURCE_off (i : Nat) : offMode (FLT_ACT_SOURCE i) = true := by unfold offMode FLT_ACT_SOURCE SYS_MODE_STAT_MODE Fld.key; simp only [decide_eq_true_eq]; omega
theorem FLT_CAP_BEAT_HI_BEAT_off : offMode FLT_CAP_BEAT_HI_BEAT = true := by decide
theorem FLT_CAP_BEAT_LO_BEAT_off : offMode FLT_CAP_BEAT_LO_BEAT = true := by decide
theorem FLT_CAP_CNT_COUNT_off : offMode FLT_CAP_CNT_COUNT = true := by decide
theorem FLT_CAP_DETAIL_DETAIL_off : offMode FLT_CAP_DETAIL_DETAIL = true := by decide
theorem FLT_CAP_SRC_INJ_off : offMode FLT_CAP_SRC_INJ = true := by decide
theorem FLT_CAP_SRC_PERSIST_off : offMode FLT_CAP_SRC_PERSIST = true := by decide
theorem FLT_CAP_SRC_RAIL_off : offMode FLT_CAP_SRC_RAIL = true := by decide
theorem FLT_CAP_SRC_SOURCE_off : offMode FLT_CAP_SRC_SOURCE = true := by decide
theorem FLT_CAP_SRC_VALID_off : offMode FLT_CAP_SRC_VALID = true := by decide
theorem FLT_CFG_BRST_off (i : Nat) : offMode (FLT_CFG_BRST i) = true := by unfold offMode FLT_CFG_BRST FLT_CFG_field SYS_MODE_STAT_MODE Fld.key; simp only [decide_eq_true_eq]; omega
theorem FLT_CFG_CHR_off (i : Nat) : offMode (FLT_CFG_CHR i) = true := by unfold offMode FLT_CFG_CHR FLT_CFG_field SYS_MODE_STAT_MODE Fld.key; simp only [decide_eq_true_eq]; omega
theorem FLT_CFG_CRST_off (i : Nat) : offMode (FLT_CFG_CRST i) = true := by unfold offMode FLT_CFG_CRST FLT_CFG_field SYS_MODE_STAT_MODE Fld.key; simp only [decide_eq_true_eq]; omega
theorem FLT_CFG_HACK_off (i : Nat) : offMode (FLT_CFG_HACK i) = true := by unfold offMode FLT_CFG_HACK FLT_CFG_field SYS_MODE_STAT_MODE Fld.key; simp only [decide_eq_true_eq]; omega
theorem FLT_CFG_IRQ_off (i : Nat) : offMode (FLT_CFG_IRQ i) = true := by unfold offMode FLT_CFG_IRQ FLT_CFG_field SYS_MODE_STAT_MODE Fld.key; simp only [decide_eq_true_eq]; omega
theorem FLT_CFG_NMI_off (i : Nat) : offMode (FLT_CFG_NMI i) = true := by unfold offMode FLT_CFG_NMI FLT_CFG_field SYS_MODE_STAT_MODE Fld.key; simp only [decide_eq_true_eq]; omega
theorem FLT_CFG_SEV_off (i : Nat) : offMode (FLT_CFG_SEV i) = true := by unfold offMode FLT_CFG_SEV FLT_CFG_field SYS_MODE_STAT_MODE Fld.key; simp only [decide_eq_true_eq]; omega
theorem FLT_CFG_SNAPSET_off (i : Nat) : offMode (FLT_CFG_SNAPSET i) = true := by unfold offMode FLT_CFG_SNAPSET FLT_CFG_field SYS_MODE_STAT_MODE Fld.key; simp only [decide_eq_true_eq]; omega
theorem FLT_CFG_SPLIT_off (i : Nat) : offMode (FLT_CFG_SPLIT i) = true := by unfold offMode FLT_CFG_SPLIT FLT_CFG_field SYS_MODE_STAT_MODE Fld.key; simp only [decide_eq_true_eq]; omega
theorem FLT_CFG_field_off (i j k : Nat) : offMode (FLT_CFG_field i j k) = true := by unfold offMode FLT_CFG_field SYS_MODE_STAT_MODE Fld.key; simp only [decide_eq_true_eq]; omega
theorem FLT_HACK_CAUSE_off : offMode FLT_HACK_CAUSE = true := by decide
theorem FLT_HACK_STATE_off : offMode FLT_HACK_STATE = true := by decide
theorem FLT_INJ_STAT_ARMED_off : offMode FLT_INJ_STAT_ARMED = true := by decide
theorem FLT_PEND_SOURCE_off (i : Nat) : offMode (FLT_PEND_SOURCE i) = true := by unfold offMode FLT_PEND_SOURCE SYS_MODE_STAT_MODE Fld.key; simp only [decide_eq_true_eq]; omega
theorem FLT_STAT_CAPVALID_off : offMode FLT_STAT_CAPVALID = true := by decide
theorem FLT_STAT_OVF_off : offMode FLT_STAT_OVF = true := by decide
theorem FLT_SUPCNT_COUNT_off : offMode FLT_SUPCNT_COUNT = true := by decide
theorem HL_CTL_L0SUPEN_off (i : Nat) : offMode (HL_CTL_L0SUPEN i) = true := by unfold offMode HL_CTL_L0SUPEN SYS_MODE_STAT_MODE Fld.key; simp only [decide_eq_true_eq]; omega
theorem HL_STAT_DNPS_off (i : Nat) : offMode (HL_STAT_DNPS i) = true := by unfold offMode HL_STAT_DNPS SYS_MODE_STAT_MODE Fld.key; simp only [decide_eq_true_eq]; omega
theorem HL_STAT_STATE_off (i : Nat) : offMode (HL_STAT_STATE i) = true := by unfold offMode HL_STAT_STATE SYS_MODE_STAT_MODE Fld.key; simp only [decide_eq_true_eq]; omega
theorem HL_STAT_UPPS_off (i : Nat) : offMode (HL_STAT_UPPS i) = true := by unfold offMode HL_STAT_UPPS SYS_MODE_STAT_MODE Fld.key; simp only [decide_eq_true_eq]; omega
theorem HL_STAT_VERSION_off (i : Nat) : offMode (HL_STAT_VERSION i) = true := by unfold offMode HL_STAT_VERSION SYS_MODE_STAT_MODE Fld.key; simp only [decide_eq_true_eq]; omega
theorem HP_DMA_STAT_DONE_off (i : Nat) : offMode (HP_DMA_STAT_DONE i) = true := by unfold offMode HP_DMA_STAT_DONE SYS_MODE_STAT_MODE Fld.key; simp only [decide_eq_true_eq]; omega
theorem ILL_CH_MODE_off (i : Nat) : offMode (ILL_CH_MODE i) = true := by unfold offMode ILL_CH_MODE SYS_MODE_STAT_MODE Fld.key; simp only [decide_eq_true_eq]; omega
theorem ILL_CH_STRBOUT_off (i : Nat) : offMode (ILL_CH_STRBOUT i) = true := by unfold offMode ILL_CH_STRBOUT SYS_MODE_STAT_MODE Fld.key; simp only [decide_eq_true_eq]; omega
theorem ILL_DIAG_ON_off (i : Nat) : offMode (ILL_DIAG_ON i) = true := by unfold offMode ILL_DIAG_ON SYS_MODE_STAT_MODE Fld.key; simp only [decide_eq_true_eq]; omega
theorem LP_CTL_EN_off (i : Nat) : offMode (LP_CTL_EN i) = true := by unfold offMode LP_CTL_EN SYS_MODE_STAT_MODE Fld.key; simp only [decide_eq_true_eq]; omega
theorem LP_GCNT_PULSES_off (i : Nat) : offMode (LP_GCNT_PULSES i) = true := by unfold offMode LP_GCNT_PULSES SYS_MODE_STAT_MODE Fld.key; simp only [decide_eq_true_eq]; omega
theorem LP_STAT_DACZ_off (i : Nat) : offMode (LP_STAT_DACZ i) = true := by unfold offMode LP_STAT_DACZ SYS_MODE_STAT_MODE Fld.key; simp only [decide_eq_true_eq]; omega
theorem LP_STAT_GATE_off (i : Nat) : offMode (LP_STAT_GATE i) = true := by unfold offMode LP_STAT_GATE SYS_MODE_STAT_MODE Fld.key; simp only [decide_eq_true_eq]; omega
theorem LP_STAT_RDY_off (i : Nat) : offMode (LP_STAT_RDY i) = true := by unfold offMode LP_STAT_RDY SYS_MODE_STAT_MODE Fld.key; simp only [decide_eq_true_eq]; omega
theorem LP_STAT_RDYLOST_off (i : Nat) : offMode (LP_STAT_RDYLOST i) = true := by unfold offMode LP_STAT_RDYLOST SYS_MODE_STAT_MODE Fld.key; simp only [decide_eq_true_eq]; omega
theorem MOT_AX_CTL_EN_off (i : Nat) : offMode (MOT_AX_CTL_EN i) = true := by unfold offMode MOT_AX_CTL_EN SYS_MODE_STAT_MODE Fld.key; simp only [decide_eq_true_eq]; omega
theorem MOT_AX_DMAX_VALUE_off (i : Nat) : offMode (MOT_AX_DMAX_VALUE i) = true := by unfold offMode MOT_AX_DMAX_VALUE SYS_MODE_STAT_MODE Fld.key; simp only [decide_eq_true_eq]; omega
theorem MOT_AX_JMAX_VALUE_off (i : Nat) : offMode (MOT_AX_JMAX_VALUE i) = true := by unfold offMode MOT_AX_JMAX_VALUE SYS_MODE_STAT_MODE Fld.key; simp only [decide_eq_true_eq]; omega
theorem MOT_AX_POS_VALUE_off (i : Nat) : offMode (MOT_AX_POS_VALUE i) = true := by unfold offMode MOT_AX_POS_VALUE SYS_MODE_STAT_MODE Fld.key; simp only [decide_eq_true_eq]; omega
theorem MOT_AX_STAT_HOMED_off (i : Nat) : offMode (MOT_AX_STAT_HOMED i) = true := by unfold offMode MOT_AX_STAT_HOMED SYS_MODE_STAT_MODE Fld.key; simp only [decide_eq_true_eq]; omega
theorem MOT_AX_STAT_HPHASE_off (i : Nat) : offMode (MOT_AX_STAT_HPHASE i) = true := by unfold offMode MOT_AX_STAT_HPHASE SYS_MODE_STAT_MODE Fld.key; simp only [decide_eq_true_eq]; omega
theorem MOT_AX_STAT_POSVALID_off (i : Nat) : offMode (MOT_AX_STAT_POSVALID i) = true := by unfold offMode MOT_AX_STAT_POSVALID SYS_MODE_STAT_MODE Fld.key; simp only [decide_eq_true_eq]; omega
theorem MOT_AX_STAT_STATE_off (i : Nat) : offMode (MOT_AX_STAT_STATE i) = true := by unfold offMode MOT_AX_STAT_STATE SYS_MODE_STAT_MODE Fld.key; simp only [decide_eq_true_eq]; omega
theorem MOT_AX_VEL_VALUE_off (i : Nat) : offMode (MOT_AX_VEL_VALUE i) = true := by unfold offMode MOT_AX_VEL_VALUE SYS_MODE_STAT_MODE Fld.key; simp only [decide_eq_true_eq]; omega
theorem MOT_STAT_DRVON_off : offMode MOT_STAT_DRVON = true := by decide
theorem REG_STAT_SHPEND_off (i : Nat) : offMode (REG_STAT_SHPEND i) = true := by unfold offMode REG_STAT_SHPEND SYS_MODE_STAT_MODE Fld.key; simp only [decide_eq_true_eq]; omega
theorem SKZ_DEVUID_HI_UID_off (i : Nat) : offMode (SKZ_DEVUID_HI_UID i) = true := by unfold offMode SKZ_DEVUID_HI_UID SYS_MODE_STAT_MODE Fld.key; simp only [decide_eq_true_eq]; omega
theorem SKZ_DEVUID_LO_UID_off (i : Nat) : offMode (SKZ_DEVUID_LO_UID i) = true := by unfold offMode SKZ_DEVUID_LO_UID SYS_MODE_STAT_MODE Fld.key; simp only [decide_eq_true_eq]; omega
theorem SKZ_LATECNT_COUNT_off : offMode SKZ_LATECNT_COUNT = true := by decide
theorem SKZ_LAYSTAT_DONE_off : offMode SKZ_LAYSTAT_DONE = true := by decide
theorem SKZ_LAYSTAT_SET_off : offMode SKZ_LAYSTAT_SET = true := by decide
theorem SKZ_PSTAT_PEERADDR_off (i : Nat) : offMode (SKZ_PSTAT_PEERADDR i) = true := by unfold offMode SKZ_PSTAT_PEERADDR SYS_MODE_STAT_MODE Fld.key; simp only [decide_eq_true_eq]; omega
theorem SKZ_PSTAT_PEERVALID_off (i : Nat) : offMode (SKZ_PSTAT_PEERVALID i) = true := by unfold offMode SKZ_PSTAT_PEERVALID SYS_MODE_STAT_MODE Fld.key; simp only [decide_eq_true_eq]; omega
theorem SKZ_PSTAT_STATE_off (i : Nat) : offMode (SKZ_PSTAT_STATE i) = true := by unfold offMode SKZ_PSTAT_STATE SYS_MODE_STAT_MODE Fld.key; simp only [decide_eq_true_eq]; omega
theorem SKZ_ROUTE_MASK_off (i : Nat) : offMode (SKZ_ROUTE_MASK i) = true := by unfold offMode SKZ_ROUTE_MASK SYS_MODE_STAT_MODE Fld.key; simp only [decide_eq_true_eq]; omega
theorem SKZ_STAT_ADDR_off : offMode SKZ_STAT_ADDR = true := by decide
theorem SKZ_STAT_BADCMD_off : offMode SKZ_STAT_BADCMD = true := by decide
theorem SKZ_STAT_JOINED_off : offMode SKZ_STAT_JOINED = true := by decide
theorem SKZ_STAT_JSTATE_off : offMode SKZ_STAT_JSTATE = true := by decide
theorem SKZ_STAT_LATECMD_off : offMode SKZ_STAT_LATECMD = true := by decide
theorem SKZ_STAT_LOOPDROP_off : offMode SKZ_STAT_LOOPDROP = true := by decide
theorem SKZ_STAT_NDEV_off : offMode SKZ_STAT_NDEV = true := by decide
theorem SKZ_STAT_TK_off : offMode SKZ_STAT_TK = true := by decide
theorem SKZ_TKUID_HI_UID_off : offMode SKZ_TKUID_HI_UID = true := by decide
theorem SKZ_TKUID_LO_UID_off : offMode SKZ_TKUID_LO_UID = true := by decide
theorem SKZ_TSTAT_HOPS_off : offMode SKZ_TSTAT_HOPS = true := by decide
theorem SKZ_TSTAT_PARENT_off : offMode SKZ_TSTAT_PARENT = true := by decide
theorem SYS_CIP_HI_ACT_off : offMode SYS_CIP_HI_ACT = true := by decide
theorem SYS_CIP_LO_ACT_off : offMode SYS_CIP_LO_ACT = true := by decide
theorem SYS_HOURS_OPERATING_off : offMode SYS_HOURS_OPERATING = true := by decide
theorem SYS_HSEC_SECONDS_off : offMode SYS_HSEC_SECONDS = true := by decide
theorem SYS_MODE_CNT_HALTS_off : offMode SYS_MODE_CNT_HALTS = true := by decide
theorem SYS_MODE_CNT_TRANSITIONS_off : offMode SYS_MODE_CNT_TRANSITIONS = true := by decide
theorem SYS_MODE_CTL_CHANGE_IE_off : offMode SYS_MODE_CTL_CHANGE_IE = true := by decide
theorem SYS_MODE_CTL_FAB_HALT_off : offMode SYS_MODE_CTL_FAB_HALT = true := by decide
theorem SYS_MODE_CTL_FAB_LAYER_off : offMode SYS_MODE_CTL_FAB_LAYER = true := by decide
theorem SYS_MODE_CTL_HALT_IE_off : offMode SYS_MODE_CTL_HALT_IE = true := by decide
theorem SYS_MODE_CTL_LAYER_IE_off : offMode SYS_MODE_CTL_LAYER_IE = true := by decide
theorem SYS_MODE_EVT_CHANGED_off : offMode SYS_MODE_EVT_CHANGED = true := by decide
theorem SYS_MODE_EVT_HALTED_off : offMode SYS_MODE_EVT_HALTED = true := by decide
theorem SYS_MODE_EVT_LAYER_off : offMode SYS_MODE_EVT_LAYER = true := by decide
theorem SYS_MODE_STAT_BUSY_off : offMode SYS_MODE_STAT_BUSY = true := by decide
theorem SYS_MODE_STAT_LAYER_DONE_off : offMode SYS_MODE_STAT_LAYER_DONE = true := by decide
theorem SYS_MODE_STAT_LPSTATE_off : offMode SYS_MODE_STAT_LPSTATE = true := by decide
theorem SYS_MODE_STAT_PREV_off : offMode SYS_MODE_STAT_PREV = true := by decide
theorem SYS_MODE_STAT_REQ_MASTER_off : offMode SYS_MODE_STAT_REQ_MASTER = true := by decide
theorem SYS_UID_HI_UID_off : offMode SYS_UID_HI_UID = true := by decide
theorem SYS_UID_LO_UID_off : offMode SYS_UID_LO_UID = true := by decide
theorem TRJ_STAT_SHPEND_off (i : Nat) : offMode (TRJ_STAT_SHPEND i) = true := by unfold offMode TRJ_STAT_SHPEND SYS_MODE_STAT_MODE Fld.key; simp only [decide_eq_true_eq]; omega
theorem DIAL_PEER_DEV_off (i : Nat) : offMode (DIAL_PEER_DEV i) = true := by unfold offMode DIAL_PEER_DEV SYS_MODE_STAT_MODE Fld.key; simp only [decide_eq_true_eq]; omega
theorem ESC_FDEV_DEVICES_off (i : Nat) : offMode (ESC_FDEV_DEVICES i) = true := by unfold offMode ESC_FDEV_DEVICES SYS_MODE_STAT_MODE Fld.key; simp only [decide_eq_true_eq]; omega
theorem IMG_CTX_TRIG_POL_off (i : Nat) : offMode (IMG_CTX_TRIG_POL i) = true := by unfold offMode IMG_CTX_TRIG_POL SYS_MODE_STAT_MODE Fld.key; simp only [decide_eq_true_eq]; omega
theorem REG_EVDROP_DROP_off (i : Nat) : offMode (REG_EVDROP_DROP i) = true := by unfold offMode REG_EVDROP_DROP SYS_MODE_STAT_MODE Fld.key; simp only [decide_eq_true_eq]; omega
theorem REG_EVMASK_ESCEV_off (i : Nat) : offMode (REG_EVMASK_ESCEV i) = true := by unfold offMode REG_EVMASK_ESCEV SYS_MODE_STAT_MODE Fld.key; simp only [decide_eq_true_eq]; omega
theorem REG_EVQ_STAT_LEVEL_off (i : Nat) : offMode (REG_EVQ_STAT_LEVEL i) = true := by unfold offMode REG_EVQ_STAT_LEVEL SYS_MODE_STAT_MODE Fld.key; simp only [decide_eq_true_eq]; omega
theorem REG_EVREC_WORD_off (i j : Nat) : offMode (REG_EVREC_WORD i j) = true := by unfold offMode REG_EVREC_WORD SYS_MODE_STAT_MODE Fld.key; simp only [decide_eq_true_eq]; omega
theorem REG_STAT_EVOVF_off (i : Nat) : offMode (REG_STAT_EVOVF i) = true := by unfold offMode REG_STAT_EVOVF SYS_MODE_STAT_MODE Fld.key; simp only [decide_eq_true_eq]; omega

theorem cipField_off (k : Nat) : offMode (cipField k) = true := by unfold cipField; split <;> decide

/-- The operating mode, and the reset state but for which ball groups have been used. -/
def State.stand (s : State) : Nat × RstSt := (s.modeCode, { s.rst with ballsFree := 0 })

theorem State.stand_mk (a0 a1 a2 a3 a4 a5 a6 a7 a8 a9 a10 a11 a12 a13 a14 a15 a16 a17 a18 a19 a20 a21 a22 a23 a24 a25 a26 a27 a28 a29 a30 a31 a32 a33 a34 a35 a36 a37 a38 a39) : State.stand ⟨a0, a1, a2, a3, a4, a5, a6, a7, a8, a9, a10, a11, a12, a13, a14, a15, a16, a17, a18, a19, a20, a21, a22, a23, a24, a25, a26, a27, a28, a29, a30, a31, a32, a33, a34, a35, a36, a37, a38, a39⟩ = (Sparse.get SYS_MODE_STAT_MODE.rst a6 SYS_MODE_STAT_MODE.key, { a12 with ballsFree := 0 }) := rfl

theorem State.stand_eta (s : State) : (Sparse.get SYS_MODE_STAT_MODE.rst s.regs SYS_MODE_STAT_MODE.key, { s.rst with ballsFree := 0 }) = s.stand := rfl

theorem State.stand_foldl {α : Type} (f : State → α → State) (h : ∀ s x, (f s x).stand = s.stand) (l : List α) (s : State) :
    (l.foldl f s).stand = s.stand := by
  induction l generalizing s with
  | nil => rfl
  | cons x l ih => rw [List.foldl_cons, ih, h]

theorem State.set_stand (s : State) (f : Fld) (v : Nat) (h : offMode f = true) : (State.set s f v).stand = s.stand := by
  unfold offMode at h
  simp only [decide_eq_true_eq] at h
  unfold State.stand State.modeCode
  rw [State.get_set_ne _ _ _ _ (Ne.symm h)]
  rfl

theorem State.setPair_stand (s : State) (lo hi : Fld) (v : Nat) (h1 : offMode lo = true) (h2 : offMode hi = true) :
    (State.setPair s lo hi v).stand = s.stand := by
  unfold State.setPair; rw [State.set_stand _ _ _ h2, State.set_stand _ _ _ h1]

theorem State.incWrap_stand (s : State) (f : Fld) (h : offMode f = true) : (State.incWrap s f).stand = s.stand := State.set_stand _ _ _ h

theorem State.incSat_stand (s : State) (f : Fld) (h : offMode f = true) : (State.incSat s f).stand = s.stand := by
  unfold State.incSat; split
  · exact State.set_stand _ _ _ h
  · rfl

theorem State.setSrcBit_stand (s : State) (f : Nat → Fld) (k : Nat) (h : offMode (f (k / 32)) = true) : (State.setSrcBit s f k).stand = s.stand :=
  State.set_stand _ _ _ h

theorem State.clearSrcBit_stand (s : State) (f : Nat → Fld) (k : Nat) (h : offMode (f (k / 32)) = true) : (State.clearSrcBit s f k).stand = s.stand := by
  unfold State.clearSrcBit; split
  · exact State.set_stand _ _ _ h
  · rfl

theorem Sparse.get_filter_ne {α : Type} (d : α) (m : List (Nat × α)) (p : Nat × α → Bool) (k : Nat) (h : ∀ v, p (k, v) = true) :
    Sparse.get d (m.filter p) k = Sparse.get d m k := by
  induction m with
  | nil => rfl
  | cons c t ih =>
    obtain ⟨j, v⟩ := c
    rw [List.filter_cons]
    by_cases hj : j = k
    · subst hj; simp [h v, Sparse.get]
    · split <;> simp [Sparse.get, hj, ih]

theorem Sparse.get_foldl_insert_ne {α β : Type} (d : α) (l : List β) (m : List (Nat × α)) (key : β → Nat) (val : β → α) (k : Nat)
    (h : ∀ e ∈ l, k ≠ key e) : Sparse.get d (l.foldl (fun m e => Sparse.insert m (key e) (val e)) m) k = Sparse.get d m k := by
  induction l generalizing m with
  | nil => rfl
  | cons e l ih =>
    rw [List.foldl_cons, ih _ (fun x hx => h x (List.mem_cons_of_mem _ hx)), Sparse.get_insert_ne _ _ _ _ _ (h e (List.mem_cons_self ..))]

/-- A commit of shadows leaves a field that is no copy of a selected one. -/
theorem State.commitShadow_get (s : State) (ofs : Nat) (p : Nat → Bool) (g : Fld)
    (h : g.key < ofs * 32 ∨ p ((g.key - ofs * 32) / 32) = false) : (s.commitShadow ofs p).get g = s.get g := by
  unfold State.commitShadow State.get
  dsimp only
  rw [Sparse.get_foldl_insert_ne]
  · refine Sparse.get_filter_ne _ _ _ _ (fun v => ?_)
    rcases h with h | h
    · simp [show ¬ ofs * 32 ≤ g.key from by omega]
    · simp [h]
  · intro e he hk
    rw [List.mem_filter] at he
    simp only [Bool.and_eq_true] at he
    rcases h with h | h
    · omega
    · rw [hk, Nat.add_sub_cancel] at h
      rw [h] at he
      exact absurd he.2.1 (by decide)

theorem State.commitShadow_stand (s : State) (ofs : Nat) (p : Nat → Bool)
    (h : SYS_MODE_STAT_MODE.key < ofs * 32 ∨ p ((SYS_MODE_STAT_MODE.key - ofs * 32) / 32) = false) :
    (State.commitShadow s ofs p).stand = s.stand := by
  unfold State.stand State.modeCode
  rw [State.commitShadow_get _ _ _ _ h]
  rfl

theorem State.ballUse_stand (s : State) (a2 : _) : (State.ballUse s a2).stand = s.stand := rfl

theorem State.emit_stand (s : State) (a2 : _) : (State.emit s a2).stand = s.stand := by
  unfold State.emit; simp only [State.stand_mk, State.stand_eta]
theorem State.drivePin_stand (s : State) (a2 : _) (a3 : _) : (State.drivePin s a2 a3).stand = s.stand := by
  unfold State.drivePin; simp only [State.stand_mk, State.stand_eta, State.emit_stand, State.ballUse_stand]
theorem State.injectionHit_stand (s : State) (a2 : _) (a3 : _) : (State.injectionHit s a2 a3).stand = s.stand := by
  unfold State.injectionHit; (repeat' split) <;> first | with_reducible rfl | simp only [State.stand_mk, State.stand_eta, State.set_stand, FLT_INJ_STAT_ARMED_off] | rfl
theorem State.trapCores_stand (s : State) : (State.trapCores s).stand = s.stand := by
  unfold State.trapCores; simp only [State.stand_mk, State.stand_eta, State.emit_stand]
theorem State.lower_stand (s : State) (a2 : _) : (State.lower s a2).stand = s.stand := by
  unfold State.lower; simp only [State.stand_mk, State.stand_eta, State.clearSrcBit_stand, FLT_ACT_SOURCE_off]
theorem State.calAbort_stand (s : State) : (State.calAbort s).stand = s.stand := by
  unfold State.calAbort; (repeat' split) <;> first | with_reducible rfl | simp only [State.stand_mk, State.stand_eta, State.set_stand, State.incSat_stand, CAL_CNT_ABORT_off, CAL_STAT_BUSY_off, CAL_STAT_UNIT_off, CAL_SEQ_KIND_off] | rfl
theorem State.lasersSafe_stand (s : State) : (State.lasersSafe s).stand = s.stand := by
  unfold State.lasersSafe; simp only [State.stand_mk, State.stand_eta, State.stand_foldl, implies_true, State.set_stand, LP_STAT_GATE_off, LP_STAT_DACZ_off]
theorem State.hackAssert_stand (s : State) (a2 : _) : (State.hackAssert s a2).stand = s.stand := by
  unfold State.hackAssert; (repeat' split) <;> first | with_reducible rfl | simp only [State.stand_mk, State.stand_eta, State.emit_stand, State.set_stand, State.calAbort_stand, State.lasersSafe_stand, FLT_HACK_STATE_off, FLT_HACK_CAUSE_off] | rfl
theorem State.capture_stand (s : State) (a2 : _) (a3 : _) (a4 : _) (a5 : _) (a6 : _) : (State.capture s a2 a3 a4 a5 a6).stand = s.stand := by
  unfold State.capture; (repeat' split) <;> first | with_reducible rfl | simp only [State.stand_mk, State.stand_eta, State.incSat_stand, State.set_stand, State.setPair_stand, FLT_STAT_CAPVALID_off, FLT_STAT_OVF_off, FLT_CAP_CNT_COUNT_off, FLT_CAP_SRC_VALID_off, FLT_CAP_SRC_RAIL_off, FLT_CAP_SRC_INJ_off, FLT_CAP_SRC_PERSIST_off, FLT_CAP_SRC_SOURCE_off, FLT_CAP_BEAT_LO_BEAT_off, FLT_CAP_BEAT_HI_BEAT_off, FLT_CAP_DETAIL_DETAIL_off] | rfl
theorem State.fireReactions_stand (s : State) (a2 : _) : (State.fireReactions s a2).stand = s.stand := by
  unfold State.fireReactions; (repeat' split) <;> first | with_reducible rfl | simp only [State.stand_mk, State.stand_eta, State.hackAssert_stand, State.trapCores_stand, FLT_CFG_HACK_off, FLT_CFG_CRST_off, FLT_CFG_NMI_off, FLT_CFG_BRST_off, FLT_CFG_SPLIT_off] | rfl
theorem State.record_stand (s : State) (a2 : _) (a3 : _) (a4 : _) (a5 : _) (a6 : _) (a7 : _) (a8 : _) (a9 : _) : (State.record s a2 a3 a4 a5 a6 a7 a8 a9).stand = s.stand := by
  unfold State.record; (repeat' split) <;> first | with_reducible rfl | simp only [State.stand_mk, State.stand_eta, State.set_stand, State.incSat_stand, CHR_CTL_EN_off, SYS_HOURS_OPERATING_off, SYS_HSEC_SECONDS_off, CHR_STAT_BUSY_off, CHR_DROP_QDROP_off, CHR_STAT_QOVF_off] | rfl
theorem State.msixFire_stand (s : State) (a2 : _) : (State.msixFire s a2).stand = s.stand := by
  unfold State.msixFire; (repeat' split) <;> first | with_reducible rfl | simp only [State.stand_mk, State.stand_eta, State.emit_stand] | rfl
theorem State.refreshLine_stand (s : State) (a2 : _) : (State.refreshLine s a2).stand = s.stand := by
  unfold State.refreshLine; grind only [State.stand_mk, State.stand_eta, State.msixFire_stand, State.set_stand, cipField_off]
theorem State.assertSrc_stand (s : State) (a2 : _) (a3 : _) (a4 : _) : (State.assertSrc s a2 a3 a4).stand = s.stand := by
  unfold State.assertSrc; grind only [State.stand_mk, State.stand_eta, State.incSat_stand, State.hackAssert_stand, State.capture_stand, State.setSrcBit_stand, State.fireReactions_stand, State.record_stand, State.refreshLine_stand, State.injectionHit_stand, FLT_SUPCNT_COUNT_off, FLT_PEND_SOURCE_off, FLT_CFG_CHR_off, FLT_CFG_SEV_off, FLT_CFG_SNAPSET_off]
theorem State.raise_stand (s : State) (a2 : _) (a3 : _) (a4 : _) : (State.raise s a2 a3 a4).stand = s.stand := by
  unfold State.raise; (repeat' split) <;> first | with_reducible rfl | simp only [State.stand_mk, State.stand_eta, State.setSrcBit_stand, State.assertSrc_stand, FLT_ACT_SOURCE_off] | rfl
theorem State.pulse_stand (s : State) (a2 : _) (a3 : _) : (State.pulse s a2 a3).stand = s.stand := by
  unfold State.pulse; simp only [State.stand_mk, State.stand_eta, State.lower_stand, State.raise_stand]
theorem State.modeRecord_stand (s : State) (a2 : _) : (State.modeRecord s a2).stand = s.stand := by
  unfold State.modeRecord; simp only [State.stand_mk, State.stand_eta, State.record_stand, CHR_TSET_MODE_off]
theorem State.setEsc_stand (s : State) (a2 : _) (a3 : _) : (State.setEsc s a2 a3).stand = s.stand := by
  unfold State.setEsc; simp only [State.stand_mk, State.stand_eta]
theorem State.modEsc_stand (s : State) (a2 : _) (a3 : _) : (State.modEsc s a2 a3).stand = s.stand := by
  unfold State.modEsc; simp only [State.stand_mk, State.stand_eta, State.setEsc_stand]
theorem State.regCommit_stand (s : State) (n : _) : (State.regCommit s n).stand = s.stand := by
  unfold State.regCommit
  split
  · rw [State.set_stand _ _ _ (REG_STAT_SHPEND_off n), State.commitShadow_stand]
    right
    unfold inRegRws SYS_MODE_STAT_MODE Fld.key
    simp only [Bool.and_eq_false_iff, decide_eq_false_iff_not]
    omega
  · rfl

theorem State.trjCommit_stand (s : State) (n : _) : (State.trjCommit s n).stand = s.stand := by
  unfold State.trjCommit
  split
  · rw [State.set_stand _ _ _ (TRJ_STAT_SHPEND_off n), State.commitShadow_stand]
    right
    unfold inTrj escBase SYS_MODE_STAT_MODE Fld.key
    simp only [Bool.and_eq_false_iff, decide_eq_false_iff_not]
    omega
  · rfl

theorem State.setEscState_stand (s : State) (a2 : _) (a3 : _) : (State.setEscState s a2 a3).stand = s.stand := by
  unfold State.setEscState; (repeat' split) <;> first | with_reducible rfl | simp only [State.stand_mk, State.stand_eta, State.set_stand, State.regCommit_stand, State.trjCommit_stand, ESC_STAT_STATE_off, ESC_STAT_READY_off, ESC_GSTAT_READY_off] | rfl
theorem State.setPc_stand (s : State) (a2 : _) (a3 : _) : (State.setPc s a2 a3).stand = s.stand := by
  unfold State.setPc; simp only [State.stand_mk, State.stand_eta, State.setPair_stand, ESC_PC_LO_ADDR_off, ESC_PC_HI_ADDR_off]
theorem State.endStep_stand (s : State) (a2 : _) (a3 : _) (a4 : _) : (State.endStep s a2 a3 a4).stand = s.stand := by
  unfold State.endStep; simp only [State.stand_mk, State.stand_eta, State.modEsc_stand, State.setPair_stand, State.set_stand, State.setEscState_stand, ESC_TRAP_CAUSE_off, ESC_TRAP_CODE_off, ESC_TRAP_PC_LO_VALUE_off, ESC_TRAP_PC_HI_VALUE_off, ESC_TRAP_ADDR_LO_VALUE_off, ESC_TRAP_ADDR_HI_VALUE_off, ESC_TRAP_WORD_LO_VALUE_off, ESC_TRAP_WORD_HI_VALUE_off]
theorem State.resumeIssue_stand (s : State) (a2 : _) : (State.resumeIssue s a2).stand = s.stand := by
  unfold State.resumeIssue; simp only [State.stand_mk, State.stand_eta, State.setEscState_stand, State.modEsc_stand]
theorem State.endWait_stand (s : State) (a2 : _) : (State.endWait s a2).stand = s.stand := by
  unfold State.endWait; (repeat' split) <;> first | with_reducible rfl | simp only [State.stand_mk, State.stand_eta, State.setPc_stand, State.endStep_stand, State.resumeIssue_stand] | rfl
theorem State.setQueue_stand (s : State) (a2 : _) (a3 : _) : (State.setQueue s a2 a3).stand = s.stand := by
  unfold State.setQueue; simp only [State.stand_mk, State.stand_eta, State.set_stand, State.modEsc_stand, ESC_STAT_SEGQ_off]
theorem State.endStretch_stand (s : State) (a2 : _) : (State.endStretch s a2).stand = s.stand := by
  unfold State.endStretch; simp only [State.stand_mk, State.stand_eta, State.setEsc_stand, BRG_LINGER_LINGER_off]
theorem State.leaveClaims_stand (s : State) (a2 : _) : (State.leaveClaims s a2).stand = s.stand := by
  unfold State.leaveClaims; simp only [State.stand_mk, State.stand_eta]
theorem State.releaseEveryZone_stand (s : State) : (State.releaseEveryZone s).stand = s.stand := by
  unfold State.releaseEveryZone; simp only [State.stand_mk, State.stand_eta, State.stand_foldl, implies_true, State.set_stand, BRG_ZOWN_OWNED_off, BRG_ZOWN_OWNER_off]
theorem State.dropHold_stand (s : State) (a2 : _) : (State.dropHold s a2).stand = s.stand := by
  unfold State.dropHold; simp only [State.stand_mk, State.stand_eta, State.modEsc_stand, BRG_LINGER_LINGER_off]
theorem State.orphan_stand (s : State) (a2 : _) (a3 : _) (a4 : _) : (State.orphan s a2 a3 a4).stand = s.stand := by
  unfold State.orphan; (repeat' split) <;> first | with_reducible rfl | simp only [State.stand_mk, State.stand_eta, State.set_stand, State.pulse_stand, BRG_ORPH_VALID_off, BRG_ORPH_SIDE_off, BRG_ORPH_POOL_off, BRG_ORPH_INDEX_off, BRG_STAT_ORPHOVF_off, BRG_STAT_ORPHAN_off] | rfl
theorem State.orphanAll_stand (s : State) (a2 : _) : (State.orphanAll s a2).stand = s.stand := by
  unfold State.orphanAll; (repeat' split) <;> first | with_reducible rfl | simp only [State.stand_mk, State.stand_eta, State.stand_foldl, implies_true, State.orphan_stand, State.modEsc_stand] | rfl
theorem State.setPort_stand (s : State) (a2 : _) (a3 : _) : (State.setPort s a2 a3).stand = s.stand := by
  unfold State.setPort; simp only [State.stand_mk, State.stand_eta]
theorem State.idleNote_stand (s : State) (a2 : _) : (State.idleNote s a2).stand = s.stand := by
  unfold State.idleNote; grind only [State.stand_mk, State.stand_eta, LP_STAT_GATE_off, LP_STAT_DACZ_off]
theorem State.portRefresh_stand (s : State) (a2 : _) : (State.portRefresh s a2).stand = s.stand := by
  unfold State.portRefresh; grind only [State.stand_mk, State.stand_eta, State.set_stand, State.incWrap_stand, State.idleNote_stand, LP_STAT_GATE_off, LP_GCNT_PULSES_off]
theorem State.gateOff_stand (s : State) (a2 : _) : (State.gateOff s a2).stand = s.stand := by
  unfold State.gateOff; simp only [State.stand_mk, State.stand_eta, State.portRefresh_stand, State.setPort_stand]
theorem State.withdraw_stand (s : State) (a2 : _) : (State.withdraw s a2).stand = s.stand := by
  unfold State.withdraw; simp only [State.stand_mk, State.stand_eta]
theorem State.disarmEsc_stand (s : State) (a2 : _) : (State.disarmEsc s a2).stand = s.stand := by
  unfold State.disarmEsc; (repeat' split) <;> first | with_reducible rfl | simp only [State.stand_mk, State.stand_eta, State.setEscState_stand] | rfl
theorem State.awaitWake_stand (s : State) (a2 : _) : (State.awaitWake s a2).stand = s.stand := by
  unfold State.awaitWake; grind only [State.stand_mk, State.stand_eta, State.set_stand, State.endWait_stand, ESC_EVENT_EVENT_off, ESC_SW_TO_off]
theorem State.unfreezeEsc_stand (s : State) (a2 : _) : (State.unfreezeEsc s a2).stand = s.stand := by
  unfold State.unfreezeEsc; (repeat' split) <;> first | with_reducible rfl | simp only [State.stand_mk, State.stand_eta, State.dropHold_stand, State.endStretch_stand, State.setQueue_stand, State.setEsc_stand, State.setEscState_stand, State.set_stand, State.orphanAll_stand, ESC_TRAP_CAUSE_off] | rfl
theorem State.unfreezeAll_stand (s : State) : (State.unfreezeAll s).stand = s.stand := by
  unfold State.unfreezeAll; simp only [State.stand_mk, State.stand_eta, State.stand_foldl, implies_true, State.unfreezeEsc_stand]
theorem State.setDryRun_stand (s : State) : (State.setDryRun s).stand = s.stand := by
  unfold State.setDryRun; simp only [State.stand_mk, State.stand_eta, State.stand_foldl, implies_true, State.set_stand, ESC_STAT_DRYRUN_off]
theorem State.cutGate_stand (s : State) (a2 : _) : (State.cutGate s a2).stand = s.stand := by
  unfold State.cutGate; simp only [State.stand_mk, State.stand_eta, State.modEsc_stand, State.gateOff_stand]
theorem State.disarmAll_stand (s : State) : (State.disarmAll s).stand = s.stand := by
  unfold State.disarmAll; simp only [State.stand_mk, State.stand_eta, State.stand_foldl, implies_true, State.disarmEsc_stand]
theorem State.setEvents_stand (s : State) (a2 : _) (a3 : _) : (State.setEvents s a2 a3).stand = s.stand := by
  unfold State.setEvents; simp only [State.stand_mk, State.stand_eta, State.awaitWake_stand, State.set_stand, State.modEsc_stand, ESC_EVENT_EVENT_off]
theorem State.freezeEsc_stand (s : State) (a2 : _) : (State.freezeEsc s a2).stand = s.stand := by
  unfold State.freezeEsc; grind only [State.stand_mk, State.stand_eta, State.setEscState_stand, State.leaveClaims_stand, State.withdraw_stand, State.cutGate_stand, State.modEsc_stand, State.setPair_stand, State.set_stand, ESC_TRAP_CAUSE_off, ESC_TRAP_PC_LO_VALUE_off, ESC_TRAP_PC_HI_VALUE_off]
theorem State.freezeAll_stand (s : State) : (State.freezeAll s).stand = s.stand := by
  unfold State.freezeAll; simp only [State.stand_mk, State.stand_eta, State.stand_foldl, implies_true, State.freezeEsc_stand]
theorem State.dialCommit_stand (s : State) : (State.dialCommit s).stand = s.stand := by
  unfold State.dialCommit
  split
  · rw [State.set_stand _ _ _ (by decide), State.commitShadow_stand _ _ _ (by decide)]
  · rfl

theorem State.sendSlot_stand (s : State) (a2 : _) (a3 : _) (a4 : _) : (State.sendSlot s a2 a3 a4).stand = s.stand := by
  unfold State.sendSlot; simp only [State.stand_mk, State.stand_eta, State.emit_stand]
theorem State.remoteOwn_stand (s : State) (a2 : _) : (State.remoteOwn s a2).stand = s.stand := by
  unfold State.remoteOwn; simp only [State.stand_mk, State.stand_eta]
theorem State.startAhead_stand (s : State) (a2 : _) : (State.startAhead s a2).1.stand = s.stand := by
  unfold State.startAhead; (repeat' split) <;> first | with_reducible rfl | simp only [State.stand_mk, State.stand_eta, State.set_stand, ESC_GSTAT_LATEGO_off] | rfl
theorem State.startDue_stand (s : State) (a2 : _) : (State.startDue s a2).1.stand = s.stand := by
  unfold State.startDue; simp only [State.stand_mk, State.stand_eta, State.startAhead_stand]
theorem State.skAdd_stand (s : State) (a2 : _) (a3 : _) (a4 : _) : (State.skAdd s a2 a3 a4).stand = s.stand := by
  unfold State.skAdd; simp only [State.stand_mk, State.stand_eta]
theorem State.skLate_stand (s : State) (a2 : _) (a3 : _) : (State.skLate s a2 a3).stand = s.stand := by
  unfold State.skLate; simp only [State.stand_mk, State.stand_eta, State.skAdd_stand, State.pulse_stand, State.incSat_stand, State.set_stand, SKZ_STAT_LATECMD_off, SKZ_LATECNT_COUNT_off]
theorem State.skAhead_stand (s : State) (a2 : _) (a3 : _) (a4 : _) : (State.skAhead s a2 a3 a4).stand = s.stand := by
  unfold State.skAhead; (repeat' split) <;> first | with_reducible rfl | simp only [State.stand_mk, State.stand_eta, State.skAdd_stand, State.skLate_stand] | rfl
theorem State.skAddStart_stand (c : Nat) (p : State × Nat) : (State.skAddStart c p).stand = p.1.stand := rfl
--M
theorem State.skSchedule_stand (s : State) (a2 a3 a4 : _) : (State.skSchedule s a2 a3 a4).stand = s.stand := by
  unfold State.skSchedule
  split
  · exact State.set_stand _ _ _ (by decide)
  · split
    · split
      · exact State.set_stand _ _ _ (by decide)
      · rw [State.skAddStart_stand, State.startDue_stand]
    · exact State.skAhead_stand ..

theorem State.sendFlit_stand (s : State) (a2 : _) (a3 : _) (a4 : _) (a5 : _) : (State.sendFlit s a2 a3 a4 a5).stand = s.stand := by
  unfold State.sendFlit; simp only [State.stand_mk, State.stand_eta, State.emit_stand]
theorem State.setSkp_stand (s : State) (a2 : _) (a3 : _) : (State.setSkp s a2 a3).stand = s.stand := by
  unfold State.setSkp; simp only [State.stand_mk, State.stand_eta]
theorem State.skPump_stand (s : State) (a2 : _) : (State.skPump s a2).stand = s.stand := by
  unfold State.skPump; simp only [State.stand_mk, State.stand_eta, State.stand_foldl, implies_true, State.sendFlit_stand, State.setSkp_stand, apply_ite State.stand, ite_self]
theorem State.skSend_stand (s : State) (a2 : _) (a3 : _) : (State.skSend s a2 a3).stand = s.stand := by
  unfold State.skSend; (repeat' split) <;> first | with_reducible rfl | simp only [State.stand_mk, State.stand_eta, State.sendFlit_stand, State.skPump_stand, State.setSkp_stand] | rfl
theorem State.skTree_stand (s : State) (a2 : _) (a3 : _) : (State.skTree s a2 a3).stand = s.stand := by
  unfold State.skTree; simp only [State.stand_mk, State.stand_eta, State.stand_foldl, implies_true, State.skSend_stand, apply_ite State.stand, ite_self]
theorem State.skBroadcast_stand (s : State) (a2 : _) (a3 : _) (a4 : _) : (State.skBroadcast s a2 a3 a4).stand = s.stand := by
  unfold State.skBroadcast; simp only [State.stand_mk, State.stand_eta, State.skSchedule_stand, State.skTree_stand]
theorem State.layerCheck_stand (s : State) : (State.layerCheck s).stand = s.stand := by
  unfold State.layerCheck; grind only [State.stand_mk, State.stand_eta, State.skBroadcast_stand, State.set_stand, SKZ_LAYSTAT_SET_off, SKZ_LAYSTAT_DONE_off]
theorem State.skRoute_stand (s : State) (a2 : _) : (State.skRoute s a2).stand = s.stand := by
  unfold State.skRoute; (repeat' split) <;> first | with_reducible rfl | simp only [State.stand_mk, State.stand_eta, State.skSend_stand, State.set_stand, SKZ_ROUTE_MASK_off, SKZ_STAT_LOOPDROP_off] | rfl
theorem State.skUnicast_stand (s : State) (a2 : _) (a3 : _) (a4 : _) (a5 : _) (a6 : _) (a7 : _) : (State.skUnicast s a2 a3 a4 a5 a6 a7).stand = s.stand := by
  unfold State.skUnicast; simp only [State.stand_mk, State.stand_eta, State.skRoute_stand]
theorem State.joinReport_stand (s : State) (a2 : _) : (State.joinReport s a2).stand = s.stand := by
  unfold State.joinReport; grind only [State.stand_mk, State.stand_eta, State.skBroadcast_stand, SKZ_STAT_NDEV_off]
theorem State.unjoin_stand (s : State) : (State.unjoin s).stand = s.stand := by
  have h1 : ∀ (l : List (Fld × Nat)) (t : State), (∀ p ∈ l, offMode p.1 = true) → (l.foldl (fun t p => t.set p.1 p.2) t).stand = t.stand := by
    intro l
    induction l with
    | nil => intro t _; rfl
    | cons p l ih =>
      intro t hl
      rw [List.foldl_cons, ih _ (fun q hq => hl q (List.mem_cons_of_mem _ hq)), State.set_stand _ _ _ (hl p (List.mem_cons_self ..))]
  unfold State.unjoin
  simp only [State.stand_mk, State.stand_eta]
  rw [State.stand_foldl, State.stand_foldl, h1]
  · decide
  · intro t d
    rw [State.set_stand _ _ _ (SKZ_DEVUID_HI_UID_off d), State.set_stand _ _ _ (SKZ_DEVUID_LO_UID_off d), State.set_stand _ _ _ (SKZ_ROUTE_MASK_off d)]
  · intro t d
    rw [State.set_stand _ _ _ (SKZ_PSTAT_PEERVALID_off d), State.set_stand _ _ _ (SKZ_PSTAT_PEERADDR_off d)]

theorem State.sendPiece_stand (s : State) (a2 : _) (a3 : _) (a4 : _) : (State.sendPiece s a2 a3 a4).stand = s.stand := by
  unfold State.sendPiece; simp only [State.stand_mk, State.stand_eta, State.skUnicast_stand]
theorem State.tagRequests_stand (s : State) : (State.tagRequests s).stand = s.stand := by
  unfold State.tagRequests; (try dsimp only); (repeat' split) <;> (repeat (first | rw [State.stand_foldl] | simp only [State.stand_mk, State.stand_eta, State.sendPiece_stand])) <;> (try intros) <;> (try dsimp only) <;> (repeat' split) <;> first | with_reducible rfl | simp only [State.stand_mk, State.stand_eta, State.stand_foldl, implies_true, State.sendPiece_stand, apply_ite State.stand, ite_self] | simp only [State.stand_mk, State.stand_eta, State.stand_foldl, implies_true, State.sendPiece_stand, apply_ite State.stand, ite_self, *] | rfl
theorem State.remoteStart_stand (s : State) (a2 : _) (a3 : _) (a4 : _) (a5 : _) (a6 : _) : (State.remoteStart s a2 a3 a4 a5 a6).stand = s.stand := by
  unfold State.remoteStart; simp only [State.stand_mk, State.stand_eta, State.tagRequests_stand]
theorem State.barReport_stand (s : State) (a2 : _) (a3 : _) (a4 : _) : (State.barReport s a2 a3 a4).stand = s.stand := by
  unfold State.barReport; simp only [State.stand_mk, State.stand_eta, ESC_FDEV_DEVICES_off]
theorem State.reportAct_stand (s : State) (a2 : _) (a3 : _) (a4 : _) (a5 : _) : (State.reportAct s a2 a3 a4 a5).stand = s.stand := by
  unfold State.reportAct; (repeat' split) <;> first | with_reducible rfl | simp only [State.stand_mk, State.stand_eta, State.barReport_stand, State.set_stand, State.layerCheck_stand, State.joinReport_stand, SKZ_STAT_TK_off, SKZ_LAYSTAT_SET_off, SKZ_LAYSTAT_DONE_off] | rfl
theorem State.skReport_stand (s : State) (a2 : _) (a3 : _) (a4 : _) : (State.skReport s a2 a3 a4).stand = s.stand := by
  unfold State.skReport; (repeat' split) <;> first | with_reducible rfl | simp only [State.stand_mk, State.stand_eta, State.reportAct_stand, State.skUnicast_stand, SKZ_STAT_TK_off] | rfl
theorem State.setGen_stand (s : State) (a2 : _) (a3 : _) : (State.setGen s a2 a3).stand = s.stand := by
  unfold State.setGen; simp only [State.stand_mk, State.stand_eta]
theorem State.genStop_stand (s : State) (a2 : _) : (State.genStop s a2).stand = s.stand := by
  unfold State.genStop; (repeat' split) <;> first | with_reducible rfl | simp only [State.stand_mk, State.stand_eta, State.set_stand, State.setGen_stand, BAL_INJSTAT_ACTIVE_off] | rfl
theorem State.setAx_stand (s : State) (a2 : _) (a3 : _) : (State.setAx s a2 a3).stand = s.stand := by
  unfold State.setAx; simp only [State.stand_mk, State.stand_eta]
theorem State.showClosed_stand (s : State) : (State.showClosed s).stand = s.stand := by
  unfold State.showClosed; simp only [State.stand_mk, State.stand_eta, State.set_stand, BAL_STAT_CLOSED_off]
theorem State.setAxState_stand (s : State) (a2 : _) (a3 : _) : (State.setAxState s a2 a3).stand = s.stand := by
  unfold State.setAxState; simp only [State.stand_mk, State.stand_eta, State.showClosed_stand, State.set_stand, BAL_AXSTAT_STATE_off]
theorem State.axStop_stand (s : State) (a2 : _) (a3 : _) : (State.axStop s a2 a3).stand = s.stand := by
  unfold State.axStop; simp only [State.stand_mk, State.stand_eta, State.setAx_stand, State.setAxState_stand, State.set_stand, BAL_AXSTAT_APPROACH_off, BAL_AXSTAT_BLEND_off, BAL_OUT_CODE_off]
theorem State.axFault_stand (s : State) (a2 : _) : (State.axFault s a2).stand = s.stand := by
  unfold State.axFault; simp only [State.stand_mk, State.stand_eta, State.axStop_stand]
theorem State.headFault_stand (s : State) (a2 : _) : (State.headFault s a2).stand = s.stand := by
  unfold State.headFault; simp only [State.stand_mk, State.stand_eta, State.stand_foldl, implies_true, State.axFault_stand, apply_ite State.stand, ite_self]
theorem State.injStopAll_stand (s : State) : (State.injStopAll s).stand = s.stand := by
  unfold State.injStopAll; simp only [State.stand_mk, State.stand_eta, State.stand_foldl, implies_true, State.genStop_stand]
theorem State.axesOff_stand (s : State) : (State.axesOff s).stand = s.stand := by
  unfold State.axesOff; simp only [State.stand_mk, State.stand_eta, State.stand_foldl, implies_true, State.axStop_stand, apply_ite State.stand, ite_self]
theorem State.setReg_stand (s : State) (a2 : _) (a3 : _) : (State.setReg s a2 a3).stand = s.stand := by
  unfold State.setReg; simp only [State.stand_mk, State.stand_eta]
theorem State.showQueue_stand (s : State) (a2 : _) : (State.showQueue s a2).stand = s.stand := by
  unfold State.showQueue; simp only [State.stand_mk, State.stand_eta, State.stand_foldl, implies_true, State.set_stand, REG_EVREC_WORD_off, REG_EVQ_STAT_LEVEL_off]
theorem State.pushEvent_stand (s : State) (a2 : _) (a3 : _) (a4 : _) : (State.pushEvent s a2 a3 a4).stand = s.stand := by
  unfold State.pushEvent; grind only [State.stand_mk, State.stand_eta, State.pulse_stand, State.set_stand, State.incSat_stand, State.showQueue_stand, State.setReg_stand, State.setEvents_stand, REG_EVDROP_DROP_off, REG_STAT_EVOVF_off, REG_EVMASK_ESCEV_off]
theorem State.closeEvent_stand (s : State) (a2 : _) (a3 : _) : (State.closeEvent s a2 a3).stand = s.stand := by
  unfold State.closeEvent; (repeat' split) <;> first | with_reducible rfl | simp only [State.stand_mk, State.stand_eta, State.pushEvent_stand, State.setReg_stand] | rfl
theorem State.closeEvents_stand (s : State) (a2 : _) : (State.closeEvents s a2).stand = s.stand := by
  unfold State.closeEvents; simp only [State.stand_mk, State.stand_eta, State.closeEvent_stand]
theorem State.closeAll_stand (s : State) : (State.closeAll s).stand = s.stand := by
  unfold State.closeAll; simp only [State.stand_mk, State.stand_eta, State.stand_foldl, implies_true, State.closeEvents_stand, apply_ite State.stand, ite_self]
theorem State.hlLeaveL0_stand (s : State) (a2 : _) : (State.hlLeaveL0 s a2).stand = s.stand := by
  unfold State.hlLeaveL0; (repeat' split) <;> first | with_reducible rfl | simp only [State.stand_mk, State.stand_eta, State.headFault_stand, State.setEvents_stand] | rfl
theorem State.setHl_stand (s : State) (a2 : _) (a3 : _) : (State.setHl s a2 a3).stand = s.stand := by
  unfold State.setHl; simp only [State.stand_mk, State.stand_eta]
theorem State.modHl_stand (s : State) (a2 : _) (a3 : _) : (State.modHl s a2 a3).stand = s.stand := by
  unfold State.modHl; simp only [State.stand_mk, State.stand_eta, State.setHl_stand]
theorem State.hlTo_stand (s : State) (a2 : _) (a3 : _) : (State.hlTo s a2 a3).stand = s.stand := by
  unfold State.hlTo; (repeat' split) <;> first | with_reducible rfl | simp only [State.stand_mk, State.stand_eta, State.hlLeaveL0_stand, State.set_stand, State.modHl_stand, HL_STAT_STATE_off] | rfl
theorem State.hlWakeDown_stand (s : State) (a2 : _) : (State.hlWakeDown s a2).stand = s.stand := by
  unfold State.hlWakeDown; grind only [State.stand_mk, State.stand_eta, State.set_stand, State.hlTo_stand, HL_STAT_DNPS_off, HL_STAT_UPPS_off]
theorem State.hlCfgSlot_stand (s : State) (a2 : _) (a3 : _) : (State.hlCfgSlot s a2 a3).stand = s.stand := by
  unfold State.hlCfgSlot; simp only [State.stand_mk, State.stand_eta, State.sendSlot_stand, State.modHl_stand]
theorem State.hlCfgPump_stand (s : State) (a2 a3 : _) : (State.hlCfgPump s a2 a3).stand = s.stand := by
  induction a3 generalizing s with
  | zero => rfl
  | succ k ih =>
    unfold State.hlCfgPump
    dsimp only
    split
    · split
      · rfl
      · rw [ih, State.hlCfgSlot_stand, State.setHl_stand]
    · rfl

theorem State.hlCfgSend_stand (s : State) (a2 : _) (a3 : _) (a4 : _) : (State.hlCfgSend s a2 a3 a4).stand = s.stand := by
  unfold State.hlCfgSend; simp only [State.stand_mk, State.stand_eta, State.hlCfgPump_stand, State.modHl_stand]
theorem State.hlPmUpdate_stand (s : State) (a2 : _) : (State.hlPmUpdate s a2).stand = s.stand := by
  unfold State.hlPmUpdate; grind only [State.stand_mk, State.stand_eta, State.hlCfgSend_stand, State.hlWakeDown_stand, State.modHl_stand, HL_CTL_L0SUPEN_off, HL_STAT_VERSION_off]
theorem State.hlPmAll_stand (s : State) : (State.hlPmAll s).stand = s.stand := by
  unfold State.hlPmAll; simp only [State.stand_mk, State.stand_eta, State.stand_foldl, implies_true, State.hlPmUpdate_stand]
theorem State.setCtx_stand (s : State) (a2 : _) (a3 : _) : (State.setCtx s a2 a3).stand = s.stand := by
  unfold State.setCtx; simp only [State.stand_mk, State.stand_eta]
theorem State.camIdle_stand (s : State) (a2 : _) : (State.camIdle s a2).stand = s.stand := by
  unfold State.camIdle; simp only [State.stand_mk, State.stand_eta, State.emit_stand, IMG_CTX_TRIG_POL_off]
theorem State.camOff_stand (s : State) : (State.camOff s).stand = s.stand := by
  unfold State.camOff; simp only [State.stand_mk, State.stand_eta, State.stand_foldl, implies_true, State.setCtx_stand, State.camIdle_stand, apply_ite State.stand, ite_self]
theorem State.strobeBall_stand (s : State) : (State.strobeBall s).stand = s.stand := by
  unfold State.strobeBall; simp only [State.stand_mk, State.stand_eta, State.drivePin_stand, ILL_DIAG_ON_off, ILL_CH_STRBOUT_off]
theorem State.setIllCh_stand (s : State) (a2 : _) (a3 : _) : (State.setIllCh s a2 a3).stand = s.stand := by
  unfold State.setIllCh; simp only [State.stand_mk, State.stand_eta]
theorem State.illOn_stand (s : State) (a2 : _) (a3 : _) (a4 : _) : (State.illOn s a2 a3 a4).stand = s.stand := by
  unfold State.illOn; simp only [State.stand_mk, State.stand_eta, State.strobeBall_stand, State.set_stand, State.setIllCh_stand, ILL_DIAG_ON_off]
theorem State.illResume_stand (s : State) : (State.illResume s).stand = s.stand := by
  unfold State.illResume; simp only [State.stand_mk, State.stand_eta, State.stand_foldl, implies_true, State.illOn_stand, ILL_DIAG_ON_off, apply_ite State.stand, ite_self]
theorem State.illOff_stand (s : State) (a2 : _) : (State.illOff s a2).stand = s.stand := by
  unfold State.illOff; (repeat' split) <;> first | with_reducible rfl | simp only [State.stand_mk, State.stand_eta, State.strobeBall_stand, State.set_stand, State.setIllCh_stand, ILL_DIAG_ON_off] | rfl
theorem State.illAllOff_stand (s : State) : (State.illAllOff s).stand = s.stand := by
  unfold State.illAllOff; simp only [State.stand_mk, State.stand_eta, State.stand_foldl, implies_true, State.illOff_stand, State.setIllCh_stand]
theorem State.setMotState_stand (s : State) (a2 : _) (a3 : _) : (State.setMotState s a2 a3).stand = s.stand := by
  unfold State.setMotState; simp only [State.stand_mk, State.stand_eta, State.set_stand, MOT_AX_STAT_STATE_off, MOT_STAT_DRVON_off]
theorem State.setMx_stand (s : State) (a2 : _) (a3 : _) : (State.setMx s a2 a3).stand = s.stand := by
  unfold State.setMx; simp only [State.stand_mk, State.stand_eta]
theorem State.motShow_stand (s : State) (a2 : _) : (State.motShow s a2).stand = s.stand := by
  unfold State.motShow; simp only [State.stand_mk, State.stand_eta, State.set_stand, MOT_AX_POS_VALUE_off, MOT_AX_VEL_VALUE_off]
theorem State.motOff_stand (s : State) (a2 : _) : (State.motOff s a2).stand = s.stand := by
  unfold State.motOff; (repeat' split) <;> first | with_reducible rfl | simp only [State.stand_mk, State.stand_eta, State.set_stand, State.setMotState_stand, State.setMx_stand, State.motShow_stand, MOT_AX_STAT_HPHASE_off, MOT_AX_CTL_EN_off, MOT_AX_STAT_POSVALID_off, MOT_AX_STAT_HOMED_off] | rfl
theorem State.motAllOff_stand (s : State) : (State.motAllOff s).stand = s.stand := by
  unfold State.motAllOff; simp only [State.stand_mk, State.stand_eta, State.stand_foldl, implies_true, State.motOff_stand]
theorem State.motPlan_stand (s : State) (a2 : _) (a3 : _) (a4 : _) : (State.motPlan s a2 a3 a4).stand = s.stand := by
  unfold State.motPlan; simp only [State.stand_mk, State.stand_eta, State.setMx_stand]
theorem State.motStop_stand (s : State) (a2 : _) : (State.motStop s a2).stand = s.stand := by
  unfold State.motStop; (repeat' split) <;> first | with_reducible rfl | simp only [State.stand_mk, State.stand_eta, State.set_stand, State.setMotState_stand, State.motPlan_stand, MOT_AX_STAT_HPHASE_off] | rfl
theorem State.motMode_stand (s : State) : (State.motMode s).stand = s.stand := by
  unfold State.motMode; dsimp only; (repeat' split) <;> first | with_reducible rfl | simp only [State.stand_mk, State.stand_eta, State.stand_foldl, implies_true, State.motAllOff_stand, State.motStop_stand] | rfl
theorem State.calEnter_stand (s : State) : (State.calEnter s).stand = s.stand := by
  unfold State.calEnter; simp only [State.stand_mk, State.stand_eta, CAL_SEQ_MASK_off]
theorem State.peerRead_stand (s : State) (a2 : _) : (State.peerRead s a2).stand = s.stand := by
  unfold State.peerRead; dsimp only; (repeat' split) <;> first | with_reducible rfl | simp only [State.stand_mk, State.stand_eta, State.stand_foldl, implies_true, State.remoteOwn_stand, State.remoteStart_stand, DIAL_PEER_DEV_off] | rfl
theorem State.peerCheckStart_stand (s : State) : (State.peerCheckStart s).stand = s.stand := by
  unfold State.peerCheckStart; simp only [State.stand_mk, State.stand_eta, State.stand_foldl, implies_true, State.peerRead_stand]
theorem State.brgCommit_stand (s : State) : (State.brgCommit s).stand = s.stand := by
  unfold State.brgCommit
  split
  · rw [State.set_stand _ _ _ (by decide), State.commitShadow_stand _ _ _ (by decide)]
  · rfl

theorem State.bridgeClear_stand (s : State) : (State.bridgeClear s).stand = s.stand := by
  unfold State.bridgeClear; simp only [State.stand_mk, State.stand_eta, State.releaseEveryZone_stand]
theorem State.undrawnCheck_stand (s : State) : (State.undrawnCheck s).stand = s.stand := by
  unfold State.undrawnCheck; grind only [State.stand_mk, State.stand_eta, State.pulse_stand, State.set_stand, BRG_PCFG_EN_off, BRG_PCUR_CUR0_off, BRG_PCFG_COUNT_off, BRG_PCFG_KIND_off, BRG_PCUR_CUR1_off, BRG_STAT_UNDRAWN_off]
theorem State.bridgeArm_stand (s : State) : (State.bridgeArm s).stand = s.stand := by
  unfold State.bridgeArm; dsimp only; (repeat' split) <;> first | with_reducible rfl | simp only [State.stand_mk, State.stand_eta, State.stand_foldl, implies_true, State.set_stand, BRG_PCUR_CUR0_off, BRG_PCUR_CUR1_off, BRG_PCFG_EN_off, BRG_PCFG_KIND_off, BRG_PELIG_ELIG_off, BRG_PSIDE1_SIDE1_off, BRG_STAT_CFGERR_off, BRG_SEED_SEED_off] | rfl
theorem State.joinStart_stand (s : State) : (State.joinStart s).stand = s.stand := by
  unfold State.joinStart; simp only [State.stand_mk, State.stand_eta, State.unjoin_stand, State.set_stand, SKZ_STAT_JSTATE_off]
theorem State.readyCheck_stand (s : State) : (State.readyCheck s).stand = s.stand := by
  unfold State.readyCheck; simp only [State.stand_mk, State.stand_eta, State.stand_foldl, implies_true, State.raise_stand, State.set_stand, LP_CTL_EN_off, LP_STAT_RDY_off, LP_STAT_RDYLOST_off, apply_ite State.stand, ite_self]
theorem State.enterBlocks_stand (s : State) (a2 : _) : (State.enterBlocks s a2).stand = s.stand := by
  unfold State.enterBlocks; grind only [State.stand_mk, State.stand_eta, State.peerCheckStart_stand, State.bridgeArm_stand, State.calAbort_stand, State.skReport_stand, State.readyCheck_stand, State.set_stand, State.undrawnCheck_stand, State.bridgeClear_stand, State.calEnter_stand, State.freezeAll_stand, State.illAllOff_stand, State.joinStart_stand, State.camOff_stand, State.axesOff_stand, State.hackAssert_stand, State.setDryRun_stand, State.brgCommit_stand, State.dialCommit_stand, State.hlPmAll_stand, State.motMode_stand, SYS_MODE_CTL_FAB_LAYER_off, SYS_MODE_STAT_LAYER_DONE_off]
theorem State.leaveMode_stand (s : State) (a2 : _) (a3 : _) : (State.leaveMode s a2 a3).stand = s.stand := by
  unfold State.leaveMode; (repeat' split) <;> first | with_reducible rfl | simp only [State.stand_mk, State.stand_eta, State.stand_foldl, implies_true, State.disarmAll_stand, State.lasersSafe_stand, State.lower_stand, State.portRefresh_stand, State.injStopAll_stand, State.bridgeClear_stand, State.unfreezeAll_stand, State.closeAll_stand, State.unjoin_stand, State.illResume_stand]

/-- An entry into a mode (R47): the mode register shows it, and the reset state stands but for the ball groups used. -/
theorem State.enterMode_stand (s : State) (new lp master : Nat) (hn : new < 16) :
    (s.enterMode new lp master).stand = (new, { s.rst with ballsFree := 0 }) := by
  unfold State.enterMode
  dsimp only
  rw [State.refreshLine_stand]
  have h7 : ∀ (c : Bool) (t : State) d, (if c then t.skBroadcast 2 9 d else t).stand = t.stand := by
    intro c t d; cases c
    · rfl
    · rw [if_pos rfl, State.skBroadcast_stand]
  rw [h7, State.modeRecord_stand, State.enterBlocks_stand, State.leaveMode_stand]
  simp only [State.stand_mk, State.stand_eta]
  have h3 : ∀ (p : Prop) [Decidable p] (t : State), (if p then (t.incWrap SYS_MODE_CNT_HALTS).set SYS_MODE_EVT_HALTED 1 else t).stand = t.stand := by
    intro p _ t; split
    · rw [State.set_stand _ _ _ (by decide), State.incWrap_stand _ _ (by decide)]
    · rfl
  rw [h3, State.incWrap_stand _ _ (by decide)]
  simp only [List.foldl_cons, List.foldl_nil]
  rw [State.set_stand _ SYS_MODE_EVT_CHANGED _ (by decide), State.set_stand _ SYS_MODE_STAT_BUSY _ (by decide),
    State.set_stand _ SYS_MODE_STAT_REQ_MASTER _ (by decide), State.set_stand _ SYS_MODE_STAT_LPSTATE _ (by decide)]
  unfold State.stand State.modeCode
  rw [State.get_set_same _ _ _ hn]
  rfl

end Sys2Proof.Machine
end

