-- ==== Sys2Proof/Laws/Issue.lean ====
section
/-! SUPPORT. The issue of an instruction: what its body answers is what it does. -/
namespace Sys2Proof.Machine

/-- What stands before the body of an instruction that goes: nothing holds it back, and its words are fetched. -/
theorem State.goes_spec {s : State} {n w0 : Nat} {ws : List Nat} {ill : Bool} (h : s.goes n (w0 :: ws) ill = true) :
    s.begin.canIssue n = true ∧ s.begin.poisoned n (s.pc n) = false ∧ (s.begin.esc n).word? (s.pc n) = some w0 ∧
    (decide (1 < (w0 :: ws).length) && s.begin.poisoned n ((s.pc n + 8) % 2 ^ 40)) = false ∧
    (s.begin.esc n).holds (s.pc n) (w0 :: ws) = true ∧ ill = false ∧ (s.esc n).stepping = false := by
  unfold State.goes State.fetched at h
  simp only [Bool.and_eq_true, Bool.not_eq_true'] at h
  obtain ⟨⟨⟨⟨⟨h1, h2⟩, h3⟩, h4⟩, h5⟩, h6⟩ := h
  have hw := h4
  unfold EscSt.holds at hw
  simp only [Bool.and_eq_true, beq_iff_eq] at hw
  exact ⟨h1, h2, hw.1, h3, h4, h5, h6⟩

/-- An instruction that goes runs its body in the state its advance gives. -/
theorem State.issue_body (s : State) (n w0 : Nat) (ws : List Nat) (ill : Bool) (body : State → Iss) (h : s.goes n (w0 :: ws) ill = true) :
    s.begin.issue n (w0 :: ws) ill body = (match body (s.advanced n (w0 :: ws)) with
      | .exc c a => s.begin.trap n c 0 (s.pc n) a w0
      | .stall => s.begin
      | .ok t => if (t.esc n).stepping && t.escState n == 3 && (t.esc n).load.isNone then t.endStep n (s.pc n) w0 else t) := by
  obtain ⟨h1, h2, h3, h4, h5, h6, -⟩ := State.goes_spec h
  unfold State.issue
  rw [h1]
  dsimp only [List.headD_cons]
  rw [show s.begin.pc n = s.pc n from rfl, h2, h3, h4, h5, h6,
    if_neg (by decide), if_neg (by decide), if_neg (fun hc => hc rfl), if_neg (by decide), if_neg (by decide), if_neg (by decide)]
  rfl

/-- An instruction that goes and whose body answers a state: that state. -/
theorem State.issue_goes (s t : State) (n w0 : Nat) (ws : List Nat) (ill : Bool) (body : State → Iss) (h : s.goes n (w0 :: ws) ill = true)
    (hb : body (s.advanced n (w0 :: ws)) = .ok t) (ht : (t.esc n).stepping = (s.esc n).stepping) :
    s.begin.issue n (w0 :: ws) ill body = t := by
  rw [State.issue_body s n w0 ws ill body h, hb]
  dsimp only
  rw [ht, (State.goes_spec h).2.2.2.2.2.2]
  rfl

/-- An instruction that goes and whose body raises an exception: the trap (R117, R150). -/
theorem State.issue_exc (s : State) (n w0 : Nat) (ws : List Nat) (c a : Nat) (ill : Bool) (body : State → Iss)
    (h : s.goes n (w0 :: ws) ill = true) (hb : body (s.advanced n (w0 :: ws)) = .exc c a) :
    s.begin.issue n (w0 :: ws) ill body = s.begin.trap n c 0 (s.pc n) a w0 := by
  rw [State.issue_body s n w0 ws ill body h, hb]

/-- An instruction that goes is legal. -/
theorem State.goes_legal {s : State} {n : Nat} {ws : List Nat} {ill : Bool} (h : s.goes n ws ill = true) : ill = false := by
  unfold State.goes at h
  simp only [Bool.and_eq_true, Bool.not_eq_true'] at h
  exact h.1.2

/-- An instruction that is fetched and not legal takes ILLEGAL at its own address (R81, R127). -/
theorem State.issue_illegal (s : State) (n w0 : Nat) (ws : List Nat) (body : State → Iss) (h : s.fetched n (w0 :: ws) = true) :
    s.begin.issue n (w0 :: ws) true body = s.begin.trap n exIllegal 0 (s.pc n) 0 w0 := by
  unfold State.fetched at h
  simp only [Bool.and_eq_true, Bool.not_eq_true'] at h
  obtain ⟨⟨⟨h1, h2⟩, h3⟩, h4⟩ := h
  have hw := h4
  unfold EscSt.holds at hw
  simp only [Bool.and_eq_true, beq_iff_eq] at hw
  unfold State.issue
  rw [show s.begin.canIssue n = true from h1]
  dsimp only [List.headD_cons]
  rw [show s.begin.pc n = s.pc n from rfl, show s.begin.poisoned n (s.pc n) = false from h2, show (s.begin.esc n).word? (s.pc n) = some w0 from hw.1,
    show (decide (1 < (w0 :: ws).length) && s.begin.poisoned n ((s.pc n + 8) % 2 ^ 40)) = false from h3,
    show (s.begin.esc n).holds (s.pc n) (w0 :: ws) = true from h4,
    if_neg (by decide), if_neg (by decide), if_neg (fun hc => hc rfl), if_neg (by decide), if_neg (by decide), if_pos rfl]

/-- The words of an instruction begin with its first word. -/
theorem instrWords_cons (op w w1 : Nat) : instrWords op w w1 = fullWord op w :: (if isLong w then [w1] else []) := by
  unfold instrWords; split <;> rfl

/-- `issue_goes`, of an instruction's own words. -/
theorem State.instr_goes (s t : State) (n op w w1 : Nat) (ill : Bool) (body : State → Iss) (h : s.goes n (instrWords op w w1) ill = true)
    (hb : body (s.advanced n (instrWords op w w1)) = .ok t) (ht : (t.esc n).stepping = (s.esc n).stepping) :
    s.begin.issue n (instrWords op w w1) ill body = t := by
  rw [instrWords_cons] at h hb ⊢
  exact State.issue_goes s t n _ _ ill body h hb ht

/-- `issue_exc`, of an instruction's own words. -/
theorem State.instr_exc (s : State) (n op w w1 c a : Nat) (ill : Bool) (body : State → Iss)
    (h : s.goes n (instrWords op w w1) ill = true) (hb : body (s.advanced n (instrWords op w w1)) = .exc c a) :
    s.begin.issue n (instrWords op w w1) ill body = s.begin.trap n c 0 (s.pc n) a (fullWord op w) := by
  rw [instrWords_cons] at h hb ⊢
  exact State.issue_exc s n _ _ c a ill body h hb

/-- `issue_illegal`, of an instruction's own words. -/
theorem State.instr_illegal (s : State) (n op w w1 : Nat) (ill : Bool) (body : State → Iss) (h : s.fetched n (instrWords op w w1) = true)
    (hi : ill = true) : s.begin.issue n (instrWords op w w1) ill body = s.begin.trap n exIllegal 0 (s.pc n) 0 (fullWord op w) := by
  subst hi
  rw [instrWords_cons] at h ⊢
  exact State.issue_illegal s n _ _ body h

/-- The pc's advance leaves the collector and the mode controller alone. -/
theorem State.advanced_ctrl (s : State) (n : Nat) (ws : List Nat) : (s.advanced n ws).ctrl = s.begin.ctrl := by
  unfold State.advanced; rw [State.setPc_ctrl, State.noteIssue_ctrl]

/-- It writes no field but the pc. -/
theorem State.advanced_get (s : State) (n : Nat) (ws : List Nat) (g : Fld) (h1 : g.key ≠ (ESC_PC_LO_ADDR n).key) (h2 : g.key ≠ (ESC_PC_HI_ADDR n).key) :
    (s.advanced n ws).get g = s.get g := by
  unfold State.advanced State.setPc
  rw [State.get_setPair_ne _ _ _ _ _ h1 h2]
  rfl

theorem State.advanced_g (s : State) (n : Nat) (ws : List Nat) (k : Nat) : (s.advanced n ws).g n k = s.g n k := by
  unfold State.g
  split
  · rfl
  · refine State.advanced_get _ _ _ _ ?_ ?_
    · unfold ESC_G_VALUE ESC_PC_LO_ADDR Fld.key; dsimp only; omega
    · unfold ESC_G_VALUE ESC_PC_HI_ADDR Fld.key; dsimp only; omega

theorem State.advanced_f (s : State) (n : Nat) (ws : List Nat) (k : Nat) : (s.advanced n ws).f n k = s.f n k := by
  unfold State.f
  refine State.advanced_get _ _ _ _ ?_ ?_
  · unfold ESC_F_VALUE ESC_PC_LO_ADDR Fld.key; dsimp only; omega
  · unfold ESC_F_VALUE ESC_PC_HI_ADDR Fld.key; dsimp only; omega

theorem State.advanced_esc (s : State) (n : Nat) (ws : List Nat) :
    (s.advanced n ws).esc n = { s.esc n with window := (placed (s.pc n) ws ++ (s.esc n).window).take 64 } := by
  unfold State.advanced State.noteIssue State.modEsc
  have : ∀ (t : State) (k : Nat), (t.setPc n k).esc n = t.esc n := fun t k => rfl
  rw [this, State.setEsc_same]
  rfl

/-! What an escapement holds beside its registers outlasts a write of its registers. -/
theorem State.setPair_esc (s : State) (lo hi : Fld) (v n : Nat) : (s.setPair lo hi v).esc n = s.esc n := rfl
theorem State.setPc_esc (s : State) (k v n : Nat) : (s.setPc k v).esc n = s.esc n := rfl
theorem State.setF_esc (s : State) (m k v n : Nat) : (s.setF m k v).esc n = s.esc n := rfl
theorem State.setG_esc (s : State) (m k v n : Nat) : (s.setG m k v).esc n = s.esc n := by
  unfold State.setG; split <;> rfl
theorem State.setZNCV_esc (s : State) (m n : Nat) (a b c d : Bool) : (s.setZNCV m a b c d).esc n = s.esc n := rfl
theorem State.intFlags_esc (s : State) (m r n : Nat) (c v : Bool) : (s.intFlags m r c v).esc n = s.esc n := by
  unfold State.intFlags; rw [State.setZNCV_esc]
theorem State.floatFlags_esc (s : State) (m r n : Nat) : (s.floatFlags m r).esc n = s.esc n := by
  unfold State.floatFlags; rw [State.setZNCV_esc]
theorem State.setPxyz_esc (s : State) (m n : Nat) (x y z : Int) : (s.setPxyz m x y z).esc n = s.esc n := rfl
theorem State.modEsc_esc (s : State) (n : Nat) (f : EscSt → EscSt) : (s.modEsc n f).esc n = f (s.esc n) := State.setEsc_same ..

/-! What a request through the fabric window leaves of the escapements. -/
theorem State.foldl_escs {α : Type} (f : State → α → State) (h : ∀ s x, (f s x).escs = s.escs) (l : List α) (s : State) :
    (l.foldl f s).escs = s.escs := by
  induction l generalizing s with
  | nil => rfl
  | cons x l ih => rw [List.foldl_cons, ih, h]
theorem State.setSkp_escs' (s : State) (p : Nat) (x : SkPort) : (s.setSkp p x).escs = s.escs := rfl
theorem State.skPump_escs (s : State) (p : Nat) : (s.skPump p).escs = s.escs := by
  unfold State.skPump
  dsimp only
  rw [State.foldl_escs]
  · rfl
  · intro t x
    try dsimp only
    split <;> rfl
theorem State.skSend_escs (s : State) (p : Nat) (f : Flit) : (s.skSend p f).escs = s.escs := by
  unfold State.skSend
  (repeat' split)
  · rfl
  · rfl
  · rw [State.skPump_escs]; rfl
theorem State.skRoute_escs (s : State) (f : Flit) : (s.skRoute f).escs = s.escs := by
  unfold State.skRoute
  split
  · exact State.skSend_escs ..
  · rfl
theorem State.sendPiece_escs (s : State) (r : SkReq) (p : SkPiece) (t : Nat) : (s.sendPiece r p t).escs = s.escs := by
  unfold State.sendPiece State.skUnicast
  rw [State.skRoute_escs]
theorem State.tagRequests_escs (s : State) : s.tagRequests.escs = s.escs := by
  unfold State.tagRequests
  refine State.foldl_escs _ (fun t _ => ?_) _ _
  (repeat' split) <;> first | rfl | (rw [State.sendPiece_escs])
theorem State.winIssue_escs (s : State) (n a : Nat) (w : Bool) (d : List Byte) : (s.winIssue n a w d).1.escs = s.escs := by
  unfold State.winIssue State.remoteStart
  (repeat' split)
  · rfl
  · rfl
  · dsimp only; rw [State.tagRequests_escs]
theorem State.esc_of_escs {s t : State} (h : t.escs = s.escs) (n : Nat) : t.esc n = s.esc n := by unfold State.esc; rw [h]

/-! What an assertion leaves of the escapements. -/
theorem State.incSat_escs' (s : State) (f : Fld) : (s.incSat f).escs = s.escs := by unfold State.incSat; split <;> rfl
theorem State.lasersSafe_escs (s : State) : s.lasersSafe.escs = s.escs := by
  unfold State.lasersSafe
  dsimp only
  rw [State.foldl_escs]
  intro t x; rfl
theorem State.calAbort_escs (s : State) : s.calAbort.escs = s.escs := by
  unfold State.calAbort
  split
  · rfl
  · rw [State.set_escs, State.set_escs, State.set_escs, State.incSat_escs']
theorem State.hackAssert_escs (s : State) (c : Nat) : (s.hackAssert c).escs = s.escs := by
  unfold State.hackAssert
  rw [State.calAbort_escs, State.lasersSafe_escs]
  split <;> rfl
theorem State.fireReactions_escs (s : State) (k : Nat) : (s.fireReactions k).escs = s.escs := by
  unfold State.fireReactions
  have h1 : ∀ (c : Bool) (t : State), (if c then t.hackAssert k else t).escs = t.escs := by
    intro c t; cases c
    · rfl
    · rw [if_pos rfl, State.hackAssert_escs]
  have h2 : ∀ (c : Bool) (t : State), (if c then t.trapCores else t).escs = t.escs := by
    intro c t; cases c <;> rfl
  have h3 : ∀ (c : Bool) (t : State) (l : List Nat), (if c then { t with flt := { t.flt with force := l } } else t).escs = t.escs := by
    intro c t l; cases c <;> rfl
  have h4 : ∀ (c : Bool) (t : State) (l : List Nat), (if c then { t with flt := { t.flt with todo := l } } else t).escs = t.escs := by
    intro c t l; cases c <;> rfl
  dsimp only
  rw [h4, h3, h2, h1]
theorem State.capture_escs (s : State) (k d : Nat) (r i p : Bool) : (s.capture k d r i p).escs = s.escs := by
  unfold State.capture
  split
  · rw [State.incSat_escs', State.set_escs]
  · unfold State.setPair; simp only [State.set_escs]
theorem State.record_escs (s : State) (t v d k : Nat) (r i p : Bool) (l : List Nat) : (s.record t v d k r i p l).escs = s.escs := by
  unfold State.record
  (repeat' split)
  · rfl
  · rfl
  · rfl
  · rw [State.set_escs, State.incSat_escs']
theorem State.refreshLine_escs (s : State) (k : Nat) : (s.refreshLine k).escs = s.escs := by
  unfold State.refreshLine State.msixFire
  dsimp only
  (repeat' split) <;> rfl
theorem State.injectionHit_escs (s : State) (k d : Nat) : (s.injectionHit k d).escs = s.escs := by
  unfold State.injectionHit
  (repeat' split) <;> rfl
theorem State.assertSrc_escs (s : State) (k a : Nat) (r : Bool) : (s.assertSrc k a r).escs = s.escs := by
  unfold State.assertSrc
  split
  · split
    · show (State.hackAssert _ k).escs = _
      rw [State.hackAssert_escs, State.incSat_escs']
    · rw [State.incSat_escs']
  · dsimp only
    rw [State.refreshLine_escs, State.injectionHit_escs]
    have h1 : ∀ (c : Bool) (t : State) (v d k2 : Nat) (i : Bool), (if c then t.record k v d k2 r i false [] else t).escs = t.escs := by
      intro c t v d k2 i; cases c
      · rfl
      · rw [if_pos rfl, State.record_escs]
    have h2 : ∀ (c : Bool) (t : State), (if c then t else t.fireReactions k).escs = t.escs := by
      intro c t; cases c
      · rw [if_neg (by decide), State.fireReactions_escs]
      · rfl
    rw [h1, h2, State.capture_escs]
    rfl
theorem State.raise_escs (s : State) (k a : Nat) (r : Bool) : (s.raise k a r).escs = s.escs := by
  unfold State.raise
  split
  · rfl
  · split
    · rw [State.assertSrc_escs]; rfl
    · rfl
theorem State.lower_escs (s : State) (k : Nat) : (s.lower k).escs = s.escs := by
  unfold State.lower State.clearSrcBit
  split <;> rfl
theorem State.pulse_escs (s : State) (k a : Nat) : (s.pulse k a).escs = s.escs := by
  unfold State.pulse
  rw [State.lower_escs, State.raise_escs]

/-- A box that widens leaves STEP alone. -/
theorem State.widenBox_stepping (s : State) (n : Nat) (g : Seg) : ((s.widenBox n g).esc n).stepping = (s.esc n).stepping := by
  unfold State.widenBox
  dsimp only
  split
  · rfl
  · (repeat' split) <;> first
      | rfl
      | (rw [State.esc_of_escs (State.pulse_escs _ _ _) n, State.set_esc, State.setEsc_same])
      | (rw [State.setEsc_same])

/-- A segment enqueued leaves STEP alone. -/
theorem State.enqueue_stepping (s : State) (n : Nat) (g : Seg) (b : Bool) : ((s.enqueue n g b).esc n).stepping = (s.esc n).stepping := by
  have hr : ∀ t : State, ((t.restartFor n).esc n).stepping = (t.esc n).stepping := by
    intro t
    unfold State.restartFor
    dsimp only
    (repeat' split)
    · rfl
    · rw [State.set_esc, State.setEsc_same]
    · rw [State.setEsc_same]
  unfold State.enqueue State.setQueue
  dsimp only
  rw [State.set_esc, State.modEsc_esc, State.setEsc_same]
  dsimp only
  rw [hr, State.widenBox_stepping]

end Sys2Proof.Machine
end

