-- ==== Sys2Proof/WellFormed.lean ====
section
/-! DEFINITION. Which commands are well-formed: an operand that the rules bound lies inside its bounds. `exec` needs none of
it; an ill-formed command names nothing that can reach the block. -/
namespace Sys2Proof

/-- The masters of R17. -/
def isMaster (m : Master) : Bool := decide (m.toNat ≤ 8) || (decide (16 ≤ m.toNat) && decide (m.toNat < 40))

/-- An access moves at least one byte. -/
def accessOk : Access → Bool
  | .read n => decide (1 ≤ n)
  | .write l => !l.isEmpty

/-- A bit of SYS_BRST_r that names a block (R554). -/
def blockOk (b : BlockId) : Bool := decide (b.r.val < 4) || decide (b.bit.val < 15)

/-- A camera packet carries COUNT pixels (R368). -/
def camPacketOk (p : CamPacket) : Bool := p.pixels.length == p.count.toNat

/-- A DDEP carries the records that ARG counts, one to three (R406). -/
def ddepOk (h : LinkHead) (f : DdepFlit) : Bool :=
  f.recs.length == h.arg.toNat && decide (1 ≤ f.recs.length) && decide (f.recs.length ≤ 3)

/-- A payload of data is 32 bytes (R406). -/
def payloadOk (d : List Byte) : Bool := d.length == 32

/-- An image header is 64 bytes (R604). -/
def flashOk (x : FlashResult) : Bool := !x.responds || x.header.length == 64

/-- A register's address is a multiple of 4 (R3). -/
def wordAligned (a : Addr) : Bool := a.toNat % 4 == 0

/-- The command is well-formed. A row that is a write with GO, EN or RUN has that bit set in its word. -/
def Instr.wellFormed : Instr → Bool
  | .registerWrite m _ _ => isMaster m
  | .rcRead m a => isMaster m && wordAligned a
  | .loReadLatch m a => isMaster m && wordAligned a
  | .memoryAccess m _ acc _ => isMaster m && accessOk acc
  | .fabricWindowAccess m _ acc => isMaster m && accessOk acc
  | .modeRequest m v => isMaster m && v.getLsbD 31
  | .dialPeek m _ => isMaster m
  | .injectionRun _ v => v.getLsbD 31
  | .captureStart _ v => v.getLsbD 31
  | .cameraPacket _ pkt => camPacketOk pkt
  | .svcGo _ v => v.getLsbD 31
  | .wreq _ _ f _ => payloadOk f.data
  | .rrsp _ _ f => payloadOk f.data
  | .bcmdStart v => v.getLsbD 31
  | .bcmdMode v => v.getLsbD 31
  | .bcmdSplit v => v.getLsbD 31
  | .bcmdReset v => v.getLsbD 31
  | .ddep _ h f => ddepOk h f
  | .blockResetEnd blk => blockOk blk
  | .faultMaskLift blk => blockOk blk
  | .escalationWindow blk => blockOk blk
  | .injectionArm v => v.getLsbD 31
  | .nvWrite m _ _ _ => isMaster m
  | .swrec v => v.getLsbD 31
  | .hostRequest _ _ acc _ => accessOk acc
  | .dmaGo _ v => v.getLsbD 31
  | .flashBoot flash => flashOk flash
  | .coreRun v => bits v.toNat 3 1 != 0
  | .portEnable _ v => v.getLsbD 0
  | .remoteTimeout _ | .refaFault | .refbFault | .barrierLinkLoss | .barrierLinkRelock
  | .modeTransitionComplete | .pendingRequestStart | .transitionTimeout | .armingBeat | .layerComplete
  | .mark _ _ _ | .jump _ _ _ | .arc _ _ _ | .spln _ _ _ | .dwell _ _ _ | .sky _ _ | .power _ _ | .speed _ _
  | .wobble _ _ | .delays _ _ | .waitt _ _ _ | .waittEnd _ | .sync _ _ | .await _ _ _ | .awaitTimeout _
  | .claim _ _ | .claimTimeout _ | .yield _ _ | .float _ _ | .dialq _ _ _ | .tag _ _ | .layer _ _ | .br _ _
  | .call _ _ | .ret _ _ | .loop _ _ | .halt _ _ | .haltComplete _ | .trap _ _ | .ldi _ _ | .ld _ _ _
  | .loadComplete _ _ | .st _ _ _ | .storeComplete _ _ | .mov _ _ | .add _ _ | .sub _ _ | .and _ _ | .or _ _
  | .xor _ _ | .shl _ _ | .shr _ _ | .sra _ _ | .mul _ _ | .mulh _ _ | .min _ _ | .max _ _ | .cmp _ _
  | .tst _ _ | .fadd _ _ | .faddSub _ _ | .faddMin _ _ | .faddMax _ _ | .fmul _ _ | .fma _ _ | .fmaSub _ _
  | .i2f _ _ | .f2i _ _ | .f2ir _ _ | .p2f _ _ | .f2p _ _ | .fetchLineReturn _ _ _ | .prefetchComplete _
  | .segmentCommit _ | .segmentEnd _ | .drainEnd _ | .retargetStopEnd _ | .returnEnd _ | .timelineRestart _
  | .startCommand | .startBarrierRelease | .deviceBarrierRelease _ | .deviceBarrierTimeout _
  | .fabricBarrierDecision _ | .fabricBarrierTimeout _ | .fabricBarrierLocalTimeout _ | .evset _ _ | .evfire _
  | .alarmMatch _ | .start _ | .stop _ | .resume _ | .step _ | .flush _ | .gcmdStart _ | .gcmdStop _
  | .gcmdResume _ | .enableWrite _ _ | .setpointTick _ _ | .regulatorFallback _ | .autoretHandback _
  | .eventMaxDuration _ _ | .evqPop _ | .dacUpdate _ | .gateEdge _ | .laserAlarm _ | .laserNotReady _
  | .interlockChange _ _ | .interlockDiscrepancy | .ilkClr | .depositCommit _ | .sweepSlot _ _ | .clear
  | .clearComplete | .rebase | .rebaseComplete _ | .peerCheckResult _ _ | .bridgeBeat | .poolRecordArrive _ _
  | .holdTimeout _ | .reservationExpire _ | .jobDispatch _ | .commandRelease _ | .balNop _ _ | .balFma _ _
  | .balFms _ _ | .balMulr _ _ | .balAdd _ _ | .balSub _ _ | .balMin _ _ | .balMax _ _ | .balClmp _ _
  | .balSel _ _ | .balTbl _ _ | .balSgn _ _ | .telemetryLoss _ | .servoTracking _ | .approachEnd _
  | .axisClose _ | .axisOpen _ | .swapRequest _ _ | .rateWrite _ | .injectionStop _ | .captureStop _
  | .captureWriteComplete _ _ | .trnSlot _ _ | .rateSwitch _ | .equaliseDone _ | .linkStateTimeout _
  | .tlmSlot _ _ | .pdSlot _ _ | .resp _ _ | .hlTresp _ _ | .pm _ _ | .lossOfFrame _ | .timeTrackExchange _
  | .eqTrackStep _ _ | .cfgResend _ | .svcRetry _ | .l0sEntry _ | .linkWakeDetect _ | .linkEnable _
  | .retrain _ | .l1req _ | .wake _ | .portUp _ | .portTrainTimeout _ | .portDown _ | .replay _
  | .portRetrain _ | .idle _ _ | .hello _ _ _ | .helloSend | .topo _ _ _ | .topoSend | .addressAssign
  | .assign _ _ _ | .joinTimeout | .rreq _ _ _ _ | .wrsp _ _ _ | .tsync _ _ _ | .tresp _ _ _ | .timeSyncExchange
  | .bcast _ _ _ | .bcastStart | .bcastMode | .bcastSplit | .bcastReset | .bcastRelease | .bcastAbort
  | .bcastJoined | .reportBarrierReady _ _ _ | .reportLayerJoined _ _ _ | .reportLayerDone _ _ _
  | .reportJoinReady _ _ _ | .ddepFlush _ | .frameStart _ | .linePacket _ _ | .frameEnd _ | .frameComplete _ _
  | .cameraTrigger _ | .soft _ | .slotRelease _ _ | .contextEnable _ _ | .mprWriteComplete _
  | .pwmPeriodStart _ | .pwmDutyEnd _ | .strobeStart _ | .strobeEnd _ | .ntcConversion _ _ | .sinkOvertemp _ _
  | .lampMeasurement _ _ | .lampShort _ | .diagPulse _ | .lampUnverified _ | .ntest | .neighbourTestDone _
  | .move _ | .vel _ | .axisStop _ | .home _ | .setpos _ | .stampedStart _ | .profileUpdate _
  | .coilPwmPeriod _ | .loadAngleMeasurement _ _ | .stall _ | .limitInput _ _ _ | .chatterWindow _ _
  | .homingTimeout _ | .driverFault _ | .motorBusUv _ | .encoderCount _ _ _ | .illegalWindow _ | .indexEdge _
  | .speedWindow _ | .encPosWrite _ _ | .rextMeasurement _ | .calStepStart | .calStepComplete _
  | .calStepTimeout | .trimSave | .trimSaveComplete _ _ | .calRestart | .powerOnReset _ | .supplyReset _ _ _
  | .resetNInput _ | .watchdogExpiry | .kick | .warm | .cntclr | .pcieHotReset _ | .functionLevelReset
  | .backupDomainLoss _ | .resetDriveRelease | .resetRelease | .pllLocked | .loadCommit | .blockReset _ _
  | .railBelowWarning _ _ | .supplyDip _ | .railAboveWarning _ _ | .supplyRecovered _ _ | .resumeSupply
  | .avsSlackReport _ | .avsResponse _ | .avsTimeout | .lpEntryComplete | .wakeEvent _ | .wakeTimer
  | .wakeComplete | .pwrEnRaise | .powerSequenceTimeout | .powerSequenceRestart | .faultSourceAssert _
  | .railFault _ | .chipResetHoldEnd | .assert | .release | .captureClear | .injectionDisarm
  | .injectionRecheck _ | .rowRemapComplete | .chronographRecordWrite _ | .splitInEdge | .fire | .split
  | .splitCollectionDone | .doneclr | .configRequest | .pcieLinkChange _ _ _ | .msixUnmask _ | .dmaStop _
  | .dmaDone _ _ _ | .dmaError _ _ _ | .dramInitComplete _ _ _ | .bootGo | .imageLoaded | .tempUpdate _ _
  | .refaRestored | .refbRestored | .backupDomainStart | .laserAlarmCleared _ | .laserReadyRegained _
  | .motorBusRestored _ | .hoursCounterTick => true

end Sys2Proof
end

