-- ==== Sys2Proof/Tests/Slice0.lean ====
section
/-! SUPPORT. The model's own tests: what `wellFormed` refuses, values the spec works out itself, and for every statement a state
and operands that meet the hypotheses of each of its clauses. -/
namespace Sys2Proof.Tests
open Sys2Proof Sys2Proof.Machine

-- One theorem after the other: every evaluation waits for the checks of all files before it.
set_option Elab.async false

/-! ### Ill-formed commands -/

/-- A head of a flit with `n` as its ARG. -/
def head (n : BitVec 16) : LinkHead := ⟨0, 1, 0, 0, 0, 0, n, true, 0, 0, 0⟩

theorem test_refuses_unknown_master : (Instr.registerWrite 9 0x2000000100#40 0).wellFormed = false := by decide
theorem test_refuses_unaligned_register : (Instr.rcRead 0 0x2000000102#40).wellFormed = false := by decide
theorem test_refuses_empty_access : (Instr.memoryAccess 0 0#40 (.read 0) .clean).wellFormed = false := by decide
theorem test_refuses_empty_write : (Instr.fabricWindowAccess 0 0x4000000000#40 (.write [])).wellFormed = false := by decide
theorem test_refuses_mode_request_without_go : (Instr.modeRequest 0 2).wellFormed = false := by decide
theorem test_refuses_packet_of_wrong_count :
    (Instr.cameraPacket 0 ⟨0, false, 0x4C, 0, 0, 0, 2, [1]⟩).wellFormed = false := by decide
theorem test_refuses_short_payload : (Instr.wreq 0 (head 4) ⟨0, [1, 2, 3, 4]⟩ .clean).wellFormed = false := by decide
theorem test_refuses_ddep_of_wrong_count : (Instr.ddep 0 (head 2) ⟨[⟨0, 0, 0, 0⟩]⟩).wellFormed = false := by decide
theorem test_refuses_block_bit_15 : (Instr.blockResetEnd ⟨4, 15⟩).wellFormed = false := by decide
theorem test_refuses_short_flash_header : (Instr.flashBoot ⟨true, 0, [], []⟩).wellFormed = false := by decide
theorem test_refuses_core_run_of_none : (Instr.coreRun 1).wellFormed = false := by decide
theorem test_refuses_port_enable_clear : (Instr.portEnable 0 2).wellFormed = false := by decide

/-! ### Values that the spec works out -/

/-- The bits of the ASCII digits 1 to 9. -/
def digits : List Bool := (List.range 9).flatMap (fun i => natBits 8 (0x31 + i))

/-- R364: the check value of the CRC-16. -/
theorem test_crc16_check_value : crc16 digits = 0x29B1 := by decide +kernel
/-- R364: the check value of the packet CRC-32. -/
theorem test_crc32_check_value : crc32Bits digits = 0xFC891918 := by decide +kernel
/-- R359: the first 32 keystream bits after a reset. -/
theorem test_keystream : Coder.keystream 32 ⟨0x7FFFFFFF, false, 0⟩ = natBits 32 0x0000000E := by decide +kernel
/-- R357: the sync word has no run of identical bits that would call for a stuff bit. -/
theorem test_sync_word_run : syncCoder.run ≤ 24 := by decide +kernel
/-- R403: precoding is undone by the receiver. -/
theorem test_precoding : unprecoded 0 (precoded 0 [3, 1, 0, 2, 2, 3]) = [3, 1, 0, 2, 2, 3] := by decide
/-- 11, the example of the hop exchange: θ is 788 fine steps. -/
theorem test_hop_exchange : (exchange 64000000 64014572 64046572 64062720).1 = 788 := by decide +kernel
/-- 05, the example of the field table: the weights at t = 0.25. -/
theorem test_cubic_weights : cubicW (1 / 4) = [-9 / 128, 111 / 128, 29 / 128, -3 / 128] := by decide +kernel
/-- 05, the example of the overshoot: a stop from 4 m/s at the default limits takes 150 µs. -/
theorem test_stop_time : changeT 40000000000 800000000000000 4000000 = 150 / 1000000 := by decide +kernel
/-- 14, the example of the stroke: a full stop takes 0.3 s. -/
theorem test_stepper_stop_time : changeT 2000000 20000000 400000 = 3 / 10 := by decide +kernel
/-- 07, the example of the deposit: 24 K at power 0xA000 is 15 K. -/
theorem test_deposit_amplitude : (State.reset.set (DIAL_LGAIN_G 5).copy 0x41C00000).depositAmp 5 0xA000 = 0x41700000 := by
  decide +kernel
/-- 13, the example of the green curve: K at 47 °C. -/
theorem test_lamp_curve :
    ((State.reset.set (ILL_COMP_K_I 21) 17203).set (ILL_COMP_K_I 22) 17695).illK 1 47 = 17400 := by decide +kernel

/-! ### Witnesses

One theorem for each statement with hypotheses: a state and operands for every clause that has any, in the order of the clauses. -/

/-- A device in mode Idle with no reset in progress, at a late beat. -/
def ready : State :=
  { State.reset with rst := { phase := .off, clk := 10 ^ 18, active := [], reach := 1 }, beat := 4 * 10 ^ 9, dial := {},
                     regs := [(SYS_MODE_STAT_MODE.key, mIdle)] }
/-- The words `ws` at the PC of escapement `n`, in its loop window. -/
def prog (n : Nat) (ws : List Nat) (s : State) : State := s.setEsc n { s.esc n with window := placed (s.pc n) ws }
/-- A TRN slot with its CRC. -/
def sealTrn (x : TrnSlot) : TrnSlot := { x with crc := BitVec.ofNat 16 (crc16 (fieldBits (trnFields x))) }
/-- A TLM slot with its CRC. -/
def sealTlm (x : TlmSlot) : TlmSlot := { x with crc := BitVec.ofNat 16 (crc16 (fieldBits (tlmFields x))) }
/-- A PD slot with its CRC. -/
def sealPd (x : PdSlot) : PdSlot := { x with crc := BitVec.ofNat 16 (crc16 (fieldBits (pdFields x))) }
/-- An SVC slot of a type with its CRC. -/
def sealSvc (typ : Nat) (x : SvcSlot) : SvcSlot := { x with crc := BitVec.ofNat 16 (crc16 (fieldBits (svcFields typ x))) }
/-- A camera packet with its CRC. -/
def sealCam (x : CamPacket) : CamPacket := { x with crc := BitVec.ofNat 32 (crc32Bits (camBits x)) }
/-- An image header of 8 payload bytes to program memory (R604). -/
def hdr64 : List Byte :=
  let h := [0x41, 0x47, 0x56, 0x42, 1, 0, 0, 0, 8, 0, 0, 0, 0, 0, 0, 0, 0, 0, 0, 2, 0x10, 0, 0, 0, 0, 0, 0, 2, 0x10, 0, 0, 0] ++ List.replicate 28 0
  h ++ leBytes (crc32 h) 4
/-- The cells of the bytes `l` from the address `a`. -/
def cellsOf (a : Nat) (l : List Byte) : List Host.Cell :=
  l.zipIdx.filterMap (fun p => if p.1 = 0 then none else some (a + p.2, p.1))
/-- Escapement `n` runs, with the words `ws` at its PC. -/
def at_ (n : Nat) (ws : List Nat) (s : State) : State := prog n ws (s.set (ESC_STAT_STATE n) 3)
theorem witness_StepRunsTheFrontCommand : ∃ s : State, s.pending = [] := ⟨State.reset, rfl⟩
theorem witness_ResetStateHolds : ∃ f : Fld, f.key ≠ DIAL_STAT_BUSY.key := ⟨SYS_MODE_STAT_MODE, by decide⟩
theorem witness_EveryCommandAnswersAndKeepsForm : ∃ s : State, s.mem ≠ [] ∧ s.memWf = true :=
  ⟨{ ready with mem := [(0x1002000000, 5)] }, by decide, by decide⟩
theorem witness_EveryStepKeepsForm : ∃ s : State, s.pending ≠ [] ∧ s.mem ≠ [] ∧ s.memWf = true :=
  ⟨{ ready with mem := [(0x1002000000, 5)], pending := [.fire] }, by decide, by decide, by decide⟩
theorem witness_ResetAndReferenceLoss :
    (∃ (s : State), s.restful = true ∧ s.modeCode = mHalted ∧ s.mode.trans = none ∧ s.mode.pend = none ∧ s.tame 0 = true) ∧
    (∃ (s : State), s.restful = true) ∧
    (∃ (s : State), s.restful = true ∧ s.mild 1 = true ∧ (∀ p, p < 4 → s.portUp p = false) ∧ s.flag HP_STAT_LINKUP = false) ∧
    (∃ (s : State), s.restful = true ∧ (∀ p, p < 4 → s.flag (SKZ_PCTL_EN p) = false)) ∧
    (∃ (s : State), s.rst.phase = .off) ∧
    (∃ (s : State) (rr : Fin 8) (mv : BitVec 12), rr.val ≠ 7 ∧ s.supervised rr.val = true ∧ mv.toNat < s.rstLevel rr.val ∧
      s.rst.phase = .off) ∧
    (∃ (s : State), s.modeCode ≠ mLowPower ∧ s.rst.phase = .off) ∧
    (∃ (s : State), s.flag SYS_RST_CFG_HOTRST = true ∧ s.rst.phase = .off) ∧
    (∃ (s : State), s.rst.phase = .off) :=
  ⟨⟨(((((((({ ready with mode.trans := none, mode.pend := none, rst := { ready.rst with phase := .off } }.set SYS_MODE_STAT_MODE mHalted).set (FLT_CFG_HACK 0) 0).set (FLT_CFG_CRST 0) 0).set (FLT_CFG_NMI 0) 0).set (FLT_CFG_BRST 0) 0).set (FLT_CFG_SPLIT 0) 0).set (FLT_CFG_CHR 0) 0) : State),
      by decide +kernel, by decide +kernel, by decide +kernel, by decide +kernel, by decide +kernel⟩,
    ⟨(ready : State), by decide +kernel⟩,
    ⟨((((((((ready.set HP_STAT_LINKUP 0).set (FLT_CFG_HACK 1) 0).set (FLT_CFG_CRST 1) 0).set (FLT_CFG_NMI 1) 0).set (FLT_CFG_BRST 1) 0).set (FLT_CFG_SPLIT 1) 0).set (FLT_CFG_CHR 1) 0) : State),
      by decide +kernel, by decide +kernel, by decide +kernel, by decide +kernel⟩,
    ⟨(ready : State), by decide +kernel, by decide +kernel⟩,
    ⟨({ ready with rst.phase := .off } : State), by decide +kernel⟩,
    ⟨({ ready with rst.phase := .off } : State), (0 : Fin 8), (0 : BitVec 12), by decide +kernel, by decide +kernel, by decide +kernel,
      by decide +kernel⟩,
    ⟨({ ready with rst.phase := .off } : State), by decide +kernel, by decide +kernel⟩,
    ⟨(({ ready with rst.phase := .off }.set SYS_RST_CFG_HOTRST 1) : State), by decide +kernel, by decide +kernel⟩,
    ⟨({ ready with rst.phase := .off } : State), by decide +kernel⟩⟩
theorem witness_ResetReleaseAndBlockResets :
    (∃ (s : State), s.restful = true ∧ s.rst.phase = .driven ∧ s.rst.active = [] ∧
      s.rst.since + max 5 (min 1000 (s.get SYS_RST_CFG_STRETCH)) * 4000 ≤ s.rst.clk) ∧
    (∃ (s : State), s.restful = true ∧ s.rst.phase = .released ∧ s.rst.pinLow = false ∧ s.rst.freeAt + 400 ≤ s.rst.clk ∧
      s.rst.reach = 1 ∧ s.flag SYS_OPT_RSTCNT = false) ∧
    (∃ (s : State), s.restful = true ∧ s.rst.phase = .locking ∧ s.railsUp = true) ∧
    (∃ (s : State), s.sysLive = true) ∧
    (∃ (s : State), s.rst.pwrEn = 0 ∧ s.rst.pwrSeq = none ∧ s.modeCode ≠ mLowPower) ∧
    (∃ (s : State) (blk : BlockId) (e : Nat), (blockCode blk, e) ∈ s.flt.inReset ∧ e ≤ s.rst.clk) ∧
    (∃ (s : State) (blk : BlockId) (e : Nat), s.heldInReset (blockCode blk) = false ∧ (blockCode blk, e) ∈ s.flt.masked ∧ e ≤ s.rst.clk ∧
      s.collecting = false) ∧
    (∃ (s : State) (blk : BlockId) (l : List (Nat × BrstFail)) (u : Nat) (n : Nat), s.flt.fails = (blockCode blk, ⟨n, some u⟩) :: l ∧
      u < s.rst.clk ∧ s.get FLT_BRLAST_BLOCK ≠ blockCode blk) ∧
    (∃ (s : State) (r : Fin 5) (i : Nat), (i < if r.val = 4 then 15 else 24) ∧ s.sysLive = true) :=
  ⟨⟨({ ready with rst.phase := .driven, rst.active := [] } : State), by decide +kernel, by decide +kernel, by decide +kernel,
      by decide +kernel⟩,
    ⟨(({ ready with rst.phase := .released, rst.pinLow := false, rst.reach := 1 }.set SYS_OPT_RSTCNT 0) : State), by decide +kernel,
      by decide +kernel, by decide +kernel, by decide +kernel, by decide +kernel, by decide +kernel⟩,
    ⟨({ ready with rst.phase := .locking } : State), by decide +kernel, by decide +kernel, by decide +kernel⟩,
    ⟨(ready : State), by decide +kernel⟩,
    ⟨({ ready with rst.pwrEn := 0, rst.pwrSeq := none } : State), by decide +kernel, by decide +kernel, by decide +kernel⟩,
    ⟨({ ready with flt.inReset := [(128, 0)] } : State), (⟨4, 0⟩ : BlockId), (0 : Nat), by decide +kernel, by decide +kernel⟩,
    ⟨({ ready with flt.masked := [(128, 0)], rst.phase := .locking } : State), (⟨4, 0⟩ : BlockId), (0 : Nat), by decide +kernel,
      by decide +kernel, by decide +kernel, by decide +kernel⟩,
    ⟨({ ready with flt.fails := (blockCode (⟨4, 0⟩ : BlockId), ⟨(0 : Nat), some (0 : Nat)⟩) :: ([] : List (Nat × BrstFail)) } : State),
      (⟨4, 0⟩ : BlockId), ([] : List (Nat × BrstFail)), (0 : Nat), (0 : Nat), by decide +kernel, by decide +kernel, by decide +kernel⟩,
    ⟨(ready : State), (0 : Fin 5), (0 : Nat), by decide +kernel, by decide +kernel⟩⟩
theorem witness_WatchdogAndWarmReset :
    (∃ (s : State), s.restful = true ∧ s.sysLive = true ∧ s.flag SYS_WDT_CTL_EN = true) ∧
    (∃ (s : State), s.wdtRuns = true ∧ s.rst.wdt = 0 ∧ s.rst.phase = .off) ∧
    (∃ (s : State), s.rst.phase = .off) ∧
    (∃ (s : State), s.restful = true ∧ s.sysLive = true) ∧
    (∃ (s : State), s.restful = true ∧ (¬ (s.modeCode = mLowPower ∧ s.get SYS_MODE_STAT_LPSTATE = 5))) ∧
    (∃ (s : State) (d : Fin 3), s.restful = true ∧ s.sysLive = true ∧ (d = 2 → s.rst.barrierDown = false)) ∧
    (∃ (s : State) (v : Nat) (b : Nat), s.restful = true ∧ s.rst.avsWrite = some (v, b)) ∧
    (∃ (s : State) (v : Nat) (b : Nat), s.restful = true ∧ s.mild 9 = true ∧ s.rst.avsWrite = some (v, b) ∧ b + 4000 ≤ s.rst.clk) ∧
    (∃ (s : State) (k : BitVec 16), s.restful = true ∧ s.flag AVS_CTL_EN = true ∧ s.rst.phase = .off ∧ s.rst.avsStop = false ∧
      s.rst.avsWrite = none ∧
      (sgn 16 k.toNat < (s.get AVS_SLK_SLKLO : Int) ∨ s.get AVS_STAT_VSET < min (min 40 (s.get AVS_CTL_VMAX)) (s.get AVS_CTL_VMIN)) ∧
      s.get AVS_STAT_VSET < min 40 (s.get AVS_CTL_VMAX)) :=
  ⟨⟨((ready.set SYS_WDT_CTL_EN 1) : State), by decide +kernel, by decide +kernel, by decide +kernel⟩,
    ⟨(({ ready with rst.wdt := 0, rst.phase := .off }.set SYS_WDT_CTL_EN 1) : State), by decide +kernel, by decide +kernel,
      by decide +kernel⟩,
    ⟨({ ready with rst.phase := .off } : State), by decide +kernel⟩,
    ⟨(ready : State), by decide +kernel, by decide +kernel⟩,
    ⟨(ready : State), by decide +kernel, by decide +kernel⟩,
    ⟨(ready : State), (0 : Fin 3), by decide +kernel, by decide +kernel, by decide +kernel⟩,
    ⟨({ ready with rst.avsWrite := some ((0 : Nat), (0 : Nat)) } : State), (0 : Nat), (0 : Nat), by decide +kernel, by decide +kernel⟩,
    ⟨((((((({ ready with rst.avsWrite := some ((0 : Nat), (0 : Nat)) }.set (FLT_CFG_HACK 9) 0).set (FLT_CFG_CRST 9) 0).set (FLT_CFG_NMI 9) 0).set (FLT_CFG_BRST 9) 0).set (FLT_CFG_SPLIT 9) 0).set (FLT_CFG_CHR 9) 0) : State),
      (0 : Nat), (0 : Nat), by decide +kernel, by decide +kernel, by decide +kernel, by decide +kernel⟩,
    ⟨(({ ready with rst.phase := .off, rst.avsStop := false, rst.avsWrite := none }.set AVS_CTL_EN 1) : State), (0 : BitVec 16),
      by decide +kernel, by decide +kernel, by decide +kernel, by decide +kernel, by decide +kernel, by decide +kernel, by decide +kernel⟩⟩
theorem witness_SupplyRailsAndPowerStates :
    (∃ (s : State) (rr : Fin 8), s.restful = true ∧ s.supervised rr.val = true) ∧
    (∃ (s : State) (rr : Fin 8) (mv : BitVec 12), s.restful = true ∧ s.supervised rr.val = true ∧ s.warnLevel rr.val ≤ mv.toNat ∧
      (s.rail rr.val).belowSince = none) ∧
    (∃ (s : State) (rr : Fin 8) (b : Nat), rr.val < 7 ∧ s.supervised rr.val = true ∧ (s.rail rr.val).belowSince = some b ∧
      b + 800 ≤ s.rst.clk) ∧
    (∃ (s : State) (rr : Fin 8) (mv : BitVec 12) (a : Nat), s.restful = true ∧ (s.get SUP_STAT_DIP).testBit rr.val = true ∧
      (s.rail rr.val).aboveSince = some a ∧ a + 20000 ≤ s.rst.clk ∧ s.warnLevel rr.val + s.get (supHyst rr.val) ≤ mv.toNat) ∧
    (∃ (s : State), s.restful = true ∧ s.sysLive = true) ∧
    (∃ (s : State) (t : Nat) (g : Nat), s.rst.pwrSeq = some (t, false) ∧ s.lastGroup = some (g + 1) ∧
      ((groupRails (g + 1)).all (fun r => s.railUp r && (match (s.rail r).aboveSince with | some b => decide (b + 40000 ≤ s.rst.clk) | none => true)) = true)) ∧
    (∃ (s : State) (t : Nat) (g : Nat), s.rst.pwrSeq = some (t, false) ∧ s.lastGroup = some g ∧ t + 4000000 ≤ s.rst.clk ∧
      (groupRails g).all s.railUp = false) ∧
    (∃ (s : State) (t : Nat), s.restful = true ∧ s.rst.pwrSeq = some (t, true) ∧ t + 40000000 ≤ s.rst.clk) ∧
    (∃ (s : State) (r : ModeReq) (n : Nat), s.mode.trans = some (r, n) ∧ s.mode.haltDue = none ∧ r.target = mLowPower ∧
      (s.escs.any (fun e => e.2.stores.any (fun q => s.region q.addr == .dram)) = false)) ∧
    (∃ (s : State) (w : WakeSrc), s.restful = true ∧ s.modeCode = mLowPower ∧ s.get SYS_MODE_STAT_LPSTATE ≤ 3 ∧
      s.wakeAllowed (s.get SYS_MODE_STAT_LPSTATE) (wakeCode w) = true ∧ s.rst.waking = none ∧ w ≠ .resetN) ∧
    (∃ (s : State), s.restful = true ∧ s.modeCode = mLowPower ∧ s.get SYS_MODE_STAT_LPSTATE ≤ 3 ∧
      s.wakeAllowed (s.get SYS_MODE_STAT_LPSTATE) 2 = true ∧ s.rst.waking = none ∧ s.get SYS_LP_TIMER_AON ≠ 0 ∧
      s.get SYS_LP_TIMER_AON * 400000000 ≤ (s.rst.clk - s.rst.lpSince) * 32768) ∧
    (∃ (s : State), s.rst.waking = some 1 ∧ s.get SYS_MODE_STAT_LPSTATE ≤ 1) :=
  ⟨⟨(ready : State), (0 : Fin 8), by decide +kernel, by decide +kernel⟩,
    ⟨((State.setRail ready 0 { belowSince := none }) : State), (0 : Fin 8), (4000 : BitVec 12), by decide +kernel, by decide +kernel,
      by decide +kernel, by decide +kernel⟩,
    ⟨((State.setRail ready 0 { belowSince := some (0 : Nat) }) : State), (0 : Fin 8), (0 : Nat), by decide +kernel, by decide +kernel,
      by decide +kernel, by decide +kernel⟩,
    ⟨((State.setRail (ready.set SUP_STAT_DIP 1) 0 { aboveSince := some (0 : Nat) }) : State), (0 : Fin 8), (4000 : BitVec 12), (0 : Nat),
      by decide +kernel, by decide +kernel, by decide +kernel, by decide +kernel, by decide +kernel⟩,
    ⟨(ready : State), by decide +kernel, by decide +kernel⟩,
    ⟨({ ready with rst.pwrSeq := some ((0 : Nat), false), rst.pwrEn := 2 } : State), (0 : Nat), (0 : Nat), by decide +kernel,
      by decide +kernel, by decide +kernel⟩,
    ⟨({ ready with rst.pwrSeq := some ((0 : Nat), false), rst.pwrEn := 1, pins := [(SUP_STAT_BELOW.key, 1)] } : State), (0 : Nat),
      (0 : Nat), by decide +kernel, by decide +kernel, by decide +kernel, by decide +kernel⟩,
    ⟨({ ready with rst.pwrSeq := some ((0 : Nat), true) } : State), (0 : Nat), by decide +kernel, by decide +kernel, by decide +kernel⟩,
    ⟨({ ready with mode.trans := some (({ target := mLowPower, lpstate := 0, master := 0 } : ModeReq), (0 : Nat)), mode.haltDue := none } : State),
      ({ target := mLowPower, lpstate := 0, master := 0 } : ModeReq), (0 : Nat), by decide +kernel, by decide +kernel, by decide +kernel,
      by decide +kernel⟩,
    ⟨(({ ready with rst.waking := none }.set SYS_MODE_STAT_MODE mLowPower) : State), (.wakeN : WakeSrc), by decide +kernel,
      by decide +kernel, by decide +kernel, by decide +kernel, by decide +kernel, by decide +kernel⟩,
    ⟨((({ ready with rst.waking := none }.set SYS_MODE_STAT_MODE mLowPower).set SYS_LP_TIMER_AON 1) : State), by decide +kernel,
      by decide +kernel, by decide +kernel, by decide +kernel, by decide +kernel, by decide +kernel, by decide +kernel⟩,
    ⟨({ ready with rst.waking := some 1 } : State), by decide +kernel, by decide +kernel⟩⟩
theorem witness_SetpointAndRegulatorCommands :
    (∃ (s : State) (n : Unit24), s.beat % 200 = 0 ∧ s.sampled n.val = true ∧ s.dry = false ∧ s.heldInReset (32 + n.val) = false ∧
      s.rst.phase = .off) ∧
    (∃ (s : State) (n : Unit24) (k : Nat), (s.reg n.val).fallDue = some k) ∧
    (∃ (s : State) (n : Unit24) (m : Nat), s.restful = true ∧ (s.reg n.val).handDue = some m) ∧
    (∃ (s : State) (n : Unit24) (ty : Fin 3) (e : OpenEvent), (s.reg n.val).open? (ty.val + 1) = some e ∧ 0xFFFF ≤ e.dur) ∧
    (∃ (s : State) (n : Unit24) (e : List Nat) (q : List (List Nat)), s.restful = true ∧ s.heldInReset (64 + n.val) = false ∧
      (s.reg n.val).queue = e :: q) ∧
    (∃ (s : State) (n : Unit24) (b : Nat) (c : Nat) (l : List (Nat × Nat)), s.restful = true ∧ (s.port n.val).updates = (b, c) :: l ∧
      b ≤ s.beat) ∧
    (∃ (s : State) (n : Unit24) (b : Nat) (w : Bool) (l : List (Nat × Bool)), s.restful = true ∧ (s.port n.val).edges = (b, w) :: l ∧
      b ≤ 64 * s.beat + 63 ∧ ((s.port n.val).fieldEdges.all (fun e => decide (b ≤ e.1)) = true)) ∧
    (∃ (s : State) (n : Unit24) (b : Nat) (w : Bool) (l : List (Nat × Bool)), s.restful = true ∧ (s.port n.val).fieldEdges = (b,
      w) :: l ∧ b ≤ 64 * s.beat + 63 ∧ ((s.port n.val).edges.all (fun e => decide (b < e.1)) = true)) :=
  ⟨⟨((({ ready with rst.phase := .off }.set (ESC_STAT_STATE 0) 3).set SYS_MODE_STAT_MODE mExpose) : State), (0 : Unit24),
      by decide +kernel, by decide +kernel, by decide +kernel, by decide +kernel, by decide +kernel⟩,
    ⟨((State.setReg ready 0 { fallDue := some (0 : Nat) }) : State), (0 : Unit24), (0 : Nat), by decide +kernel⟩,
    ⟨((State.setReg ready 0 { handDue := some (0 : Nat) }) : State), (0 : Unit24), (0 : Nat), by decide +kernel, by decide +kernel⟩,
    ⟨((State.setReg ready 0 { ev1 := some ({ tag := 0, layer := 0, beat := 0, x := 0, y := 0, power := 0, value := 0, thresh := 0, dur := 65535 } : OpenEvent) }) : State),
      (0 : Unit24), (0 : Fin 3),
      ({ tag := 0, layer := 0, beat := 0, x := 0, y := 0, power := 0, value := 0, thresh := 0, dur := 65535 } : OpenEvent),
      by decide +kernel, by decide +kernel⟩,
    ⟨((State.setReg ready 0 { queue := ([] : List Nat) :: ([] : List (List Nat)) }) : State), (0 : Unit24), ([] : List Nat),
      ([] : List (List Nat)), by decide +kernel, by decide +kernel, by decide +kernel⟩,
    ⟨((State.setPort ready 0 { updates := ((0 : Nat), (0 : Nat)) :: ([] : List (Nat × Nat)) }) : State), (0 : Unit24), (0 : Nat),
      (0 : Nat), ([] : List (Nat × Nat)), by decide +kernel, by decide +kernel, by decide +kernel⟩,
    ⟨((State.setPort ready 0 { edges := ((0 : Nat), (false : Bool)) :: ([] : List (Nat × Bool)) }) : State), (0 : Unit24), (0 : Nat),
      (false : Bool), ([] : List (Nat × Bool)), by decide +kernel, by decide +kernel, by decide +kernel, by decide +kernel⟩,
    ⟨((State.setPort ready 0 { fieldEdges := ((0 : Nat), (false : Bool)) :: ([] : List (Nat × Bool)) }) : State), (0 : Unit24),
      (0 : Nat), (false : Bool), ([] : List (Nat × Bool)), by decide +kernel, by decide +kernel, by decide +kernel, by decide +kernel⟩⟩
theorem witness_LaserPortInputs :
    (∃ (s : State), s.restful = true) ∧
    (∃ (s : State), s.restful = true) ∧
    (∃ (s : State) (ch : Bool), (s.pinLevel (if ch then LP_ILK_LEVB else LP_ILK_LEVA) ≠ 1)) ∧
    (∃ (s : State) (ch : Bool), s.restful = true ∧ (s.pinLevel (if ch then LP_ILK_LEVB else LP_ILK_LEVA) = 1) ∧ s.armingOrArmed = false ∧
      s.sysLive = true ∧ s.get LP_ILK_FIRST = 0 ∧ (s.pinLevel (if ch then LP_ILK_LEVA else LP_ILK_LEVB) = 1)) ∧
    (∃ (s : State) (b : Nat), s.ilkDiff = some b ∧ s.get LP_ILKCFG_DISC ≠ 0 ∧ b + s.get LP_ILKCFG_DISC * 400000 < s.beat) ∧
    (∃ (s : State), s.restful = true ∧ s.flag LP_ILK_LEVA = true ∧ s.flag LP_ILK_LEVB = true) :=
  ⟨⟨(ready : State), by decide +kernel⟩,
    ⟨(ready : State), by decide +kernel⟩,
    ⟨(ready : State), (false : Bool), by decide +kernel⟩,
    ⟨((({ ready with pins := [(LP_ILK_LEVA.key, 1), (LP_ILK_LEVB.key, 1)] }.set SYS_MODE_STAT_MODE 3).set LP_ILK_FIRST 0) : State),
      (false : Bool), by decide +kernel, by decide +kernel, by decide +kernel, by decide +kernel, by decide +kernel, by decide +kernel⟩,
    ⟨(({ ready with ilkDiff := some (0 : Nat) }.set LP_ILKCFG_DISC 1) : State), (0 : Nat), by decide +kernel, by decide +kernel,
      by decide +kernel⟩,
    ⟨(((ready.set LP_ILK_LEVA 1).set LP_ILK_LEVB 1) : State), by decide +kernel, by decide +kernel, by decide +kernel⟩⟩
theorem witness_ModeMachineCommands :
    (∃ (s : State), s.sysLive = true) ∧
    (∃ (s : State) (r : ModeReq), s.mode.haltDue = none ∧ s.mode.trans = none ∧
      s.requestCause s.modeCode (s.get SYS_MODE_STAT_LPSTATE) r = none ∧ r.target ≠ s.modeCode) ∧
    (∃ (s : State) (r : ModeReq) (c : Nat), s.mode.haltDue = none ∧ s.mode.trans = none ∧
      s.requestCause s.modeCode (s.get SYS_MODE_STAT_LPSTATE) r = some c ∧ r.master ≠ 0xFD) ∧
    (∃ (s : State) (r : ModeReq) (l : List Nat), s.mode.haltDue = some l ∧ r.master ≠ 0xFD) ∧
    (∃ (s : State) (r : ModeReq) (b : Nat), s.mode.haltDue = none ∧ s.mode.trans = some (r, b) ∧ s.transDone r.target = true ∧
      r.target < 16) ∧
    (∃ (s : State) (r : ModeReq), s.mode.haltDue = none ∧ s.mode.pend = some r ∧ s.mode.trans = none ∧ s.mode.since < s.beat ∧
      s.begin.dropPending.requestCause s.begin.dropPending.modeCode (s.begin.dropPending.get SYS_MODE_STAT_LPSTATE) r = none) ∧
    (∃ (s : State) (r : ModeReq) (b : Nat), s.mode.trans = some (r, b) ∧ b + s.transLimit ≤ s.beat) ∧
    (∃ (s : State) (r : ModeReq) (b : Nat), s.mode.haltDue = none ∧ s.mode.trans = some (r, b) ∧ r.target = mArmed ∧
      s.mode.armed = false ∧ (s.modeCode = mIdle ∨ (b < s.beat ∧ s.stepperMoves = false ∧ s.cal.running = none))) ∧
    (∃ (s : State), s.modeCode = mExpose ∧ s.mode.trans = none ∧ s.layerOver = true ∧ s.mode.layerTold = false ∧
      s.flag SYS_MODE_CTL_FAB_LAYER = false) ∧
    (∃ (s : State) (b : Nat) (l : List Nat), s.starts = b :: l ∧ b ≤ s.beat) :=
  ⟨⟨(ready : State), by decide +kernel⟩,
    ⟨({ ready with mode.haltDue := none, mode.trans := none } : State), ({ target := mConfigure, lpstate := 0, master := 0 } : ModeReq),
      by decide +kernel, by decide +kernel, by decide +kernel, by decide +kernel⟩,
    ⟨({ ready with mode.haltDue := none, mode.trans := none } : State), ({ target := 0, lpstate := 0, master := 0 } : ModeReq), _,
      by decide +kernel, by decide +kernel, rfl, by decide +kernel⟩,
    ⟨({ ready with mode.haltDue := some ([] : List Nat) } : State), ({ target := 0, lpstate := 0, master := 0 } : ModeReq),
      ([] : List Nat), by decide +kernel, by decide +kernel⟩,
    ⟨({ ready with mode.haltDue := none, mode.trans := some (({ target := 0, lpstate := 0, master := 0 } : ModeReq), (0 : Nat)) } : State),
      ({ target := 0, lpstate := 0, master := 0 } : ModeReq), (0 : Nat), by decide +kernel, by decide +kernel, by decide +kernel,
      by decide +kernel⟩,
    ⟨({ ready with mode.haltDue := none, mode.pend := some ({ target := mConfigure, lpstate := 0, master := 0 } : ModeReq), mode.trans := none } : State),
      ({ target := mConfigure, lpstate := 0, master := 0 } : ModeReq), by decide +kernel, by decide +kernel, by decide +kernel,
      by decide +kernel, by decide +kernel⟩,
    ⟨({ ready with mode.trans := some (({ target := 0, lpstate := 0, master := 0 } : ModeReq), (0 : Nat)) } : State),
      ({ target := 0, lpstate := 0, master := 0 } : ModeReq), (0 : Nat), by decide +kernel, by decide +kernel⟩,
    ⟨(({ ready with mode.haltDue := none, mode.trans := some (({ target := mArmed, lpstate := 0, master := 0 } : ModeReq), (0 : Nat)), mode.armed := false }.set SYS_MODE_STAT_MODE mIdle) : State),
      ({ target := mArmed, lpstate := 0, master := 0 } : ModeReq), (0 : Nat), by decide +kernel, by decide +kernel, by decide +kernel,
      by decide +kernel, by decide +kernel⟩,
    ⟨((({ ready with mode.trans := none, mode.layerTold := false }.set SYS_MODE_STAT_MODE mExpose).set SYS_MODE_CTL_FAB_LAYER 0) : State),
      by decide +kernel, by decide +kernel, by decide +kernel, by decide +kernel, by decide +kernel⟩,
    ⟨({ ready with starts := (0 : Nat) :: ([] : List Nat) } : State), (0 : Nat), ([] : List Nat), by decide +kernel, by decide +kernel⟩⟩
theorem witness_FaultCollectorCommands :
    (∃ (src : Fin 512), srcAssigned src.val = true) ∧
    (∃ (s : State) (src : Fin 512), srcAssigned src.val = true ∧ s.srcActive src.val = false ∧ s.flt.inj = none) ∧
    (∃ (s : State) (d : Nat) (n : Nat), s.flt.hold = some (d, n) ∧ (n = 0 ∨ d ≤ s.rst.clk)) ∧
    (∃ (s : State), s.restful = true ∧ s.sysLive = true ∧ s.flag FLT_HACK_STATE = false) ∧
    (∃ (s : State), s.restful = true ∧ s.sysLive = true ∧ (¬ (s.modeCode = 0 ∨ s.modeCode = 1 ∨ s.modeCode = mLowPower)) ∧
      s.hackBusy = false ∧ s.flag FLT_HACK_STATE = true ∧ s.flag CHR_CTL_EN = false) ∧
    (∃ (s : State), s.restful = true ∧ s.sysLive = true) ∧
    (∃ (s : State) (v : Word), s.sysLive = true ∧ injMode s.modeCode = true ∧ srcAssigned (bits v.toNat 8 0) = true ∧ s.flt.inj = none) ∧
    (∃ (s : State) (v : Word), s.restful = true ∧ s.sysLive = true ∧
      (injMode s.modeCode = false ∨ srcAssigned (bits v.toNat 8 0) = false ∨ s.flt.inj ≠ none)) ∧
    (∃ (s : State) (i : Injection), s.flt.inj = some i) ∧
    (∃ (s : State) (i : Injection) (l : List Injection), s.flt.rechecks = i :: l) :=
  ⟨⟨(0 : Fin 512), by decide +kernel⟩,
    ⟨({ ready with flt.inj := none } : State), (0 : Fin 512), by decide +kernel, by decide +kernel, by decide +kernel⟩,
    ⟨({ ready with flt.hold := some ((0 : Nat), (0 : Nat)) } : State), (0 : Nat), (0 : Nat), by decide +kernel, by decide +kernel⟩,
    ⟨((ready.set FLT_HACK_STATE 0) : State), by decide +kernel, by decide +kernel, by decide +kernel⟩,
    ⟨(((ready.set FLT_HACK_STATE 1).set CHR_CTL_EN 0) : State), by decide +kernel, by decide +kernel, by decide +kernel,
      by decide +kernel, by decide +kernel, by decide +kernel⟩,
    ⟨(ready : State), by decide +kernel, by decide +kernel⟩,
    ⟨({ ready with flt.inj := none } : State), (0 : Word), by decide +kernel, by decide +kernel, by decide +kernel, by decide +kernel⟩,
    ⟨(ready : State), (0x1FF : Word), by decide +kernel, by decide +kernel, by decide +kernel⟩,
    ⟨({ ready with flt.inj := some ({ source := 0, mode := 0, react := false } : Injection) } : State),
      ({ source := 0, mode := 0, react := false } : Injection), by decide +kernel⟩,
    ⟨({ ready with flt.rechecks := ({ source := 0, mode := 0, react := false } : Injection) :: ([] : List Injection) } : State),
      ({ source := 0, mode := 0, react := false } : Injection), ([] : List Injection), by decide +kernel⟩⟩
theorem witness_ChronographAndSplitCommands :
    (∃ (s : State) (a : Addr), s.restful = true ∧ s.region a.toNat = .nvData ∧ s.nvLive = true ∧
      s.remapping (s.nvOfs a.toNat / 8 * 8 / 256) = false ∧ s.nvWorn (s.nvOfs a.toNat / 8 * 8 / 2 ^ 20) = false) ∧
    (∃ (s : State) (row : Nat) (m : Nat) (o : Nat) (v : Nat) (l : List Remap), s.flt.remaps = ⟨row, some (m, o, v)⟩ :: l) ∧
    (∃ (s : State) (q : ChrRec) (l : List ChrRec) (k : Nat) (w : Bool), s.flt.queue = q :: l ∧ s.chrLive = true ∧
      s.chrNext (s.get CHR_WPTR_SLOT) 5 = some (k, w) ∧ s.flag CHR_STAT_WRAPPED = false ∧ s.remapping (s.chrSlotOfs k / 256) = false) ∧
    (∃ (s : State), s.heldInReset 137 = false ∧ s.rst.phase = .off) ∧
    (∃ (s : State), s.splLive = true ∧ s.flag SPL_CTL_EN = true ∧ s.flag SPL_CTL_INEN = true ∧ s.splitBusy = false) ∧
    (∃ (s : State), s.splLive = true ∧ s.flag SPL_CTL_EN = true ∧ s.flag SPL_CTL_FAB = false ∧ s.splitBusy = false) ∧
    (∃ (s : State), s.restful = true ∧ s.splLive = true ∧ s.flag SPL_CTL_EN = true ∧ s.splitBusy = true) ∧
    (∃ (s : State) (b : Nat) (id : Nat) (l : List SplitDue), s.flt.splits = ⟨b, id⟩ :: l ∧ b ≤ s.beat) ∧
    (∃ (s : State), s.splLive = true ∧ s.flag SPL_STAT_BUSY = true) ∧
    (∃ (s : State), s.restful = true ∧ s.splLive = true) :=
  ⟨⟨(ready : State), (0x2001080000 : Addr), by decide +kernel, by decide +kernel, by decide +kernel, by decide +kernel, by decide +kernel⟩,
    ⟨({ ready with flt.remaps := ⟨(0 : Nat), some ((0 : Nat), (0 : Nat), (0 : Nat))⟩ :: ([] : List Remap) } : State), (0 : Nat),
      (0 : Nat), (0 : Nat), (0 : Nat), ([] : List Remap), by decide +kernel⟩,
    ⟨(({ ready with flt.queue := ({ hours := 0, secs := 0, sev := 0, trig := 0, rail := false, inj := false, persist := false, beat := 0, detail := 0, snaps := [], todo := [] } : ChrRec) :: ([] : List ChrRec) }.set CHR_STAT_WRAPPED 0) : State),
      ({ hours := 0, secs := 0, sev := 0, trig := 0, rail := false, inj := false, persist := false, beat := 0, detail := 0, snaps := [], todo := [] } : ChrRec),
      ([] : List ChrRec), (0 : Nat), (false : Bool), by decide +kernel, by decide +kernel, by decide +kernel, by decide +kernel,
      by decide +kernel⟩,
    ⟨({ ready with rst.phase := .off } : State), by decide +kernel, by decide +kernel⟩,
    ⟨(((ready.set SPL_CTL_EN 1).set SPL_CTL_INEN 1) : State), by decide +kernel, by decide +kernel, by decide +kernel, by decide +kernel⟩,
    ⟨(((ready.set SPL_CTL_EN 1).set SPL_CTL_FAB 0) : State), by decide +kernel, by decide +kernel, by decide +kernel, by decide +kernel⟩,
    ⟨(((ready.set SPL_CTL_EN 1).set SPL_STAT_BUSY 1) : State), by decide +kernel, by decide +kernel, by decide +kernel, by decide +kernel⟩,
    ⟨({ ready with flt.splits := ⟨(0 : Nat), (0 : Nat)⟩ :: ([] : List SplitDue) } : State), (0 : Nat), (0 : Nat), ([] : List SplitDue),
      by decide +kernel, by decide +kernel⟩,
    ⟨((ready.set SPL_STAT_BUSY 1) : State), by decide +kernel, by decide +kernel⟩,
    ⟨(ready : State), by decide +kernel, by decide +kernel⟩⟩
theorem witness_EncoderCommands :
    (∃ (s : State) (e : Fin 6) (a : Bool) (b : Bool), s.encLive e.val = true ∧
      (quadIx a b + 4 - quadIx (s.en e.val).lineA (s.en e.val).lineB) % 4 = 1 ∧ s.flag (ENC_CTL_DIRINV e.val) = false) ∧
    (∃ (s : State) (e : Fin 6), s.heldInReset 135 = false ∧ s.beat % 400000 = 0 ∧ s.get (ENC_CTL_ILLTHR e.val) < (s.en e.val).ill) ∧
    (∃ (s : State) (e : Fin 6), s.restful = true ∧ s.heldInReset 135 = false ∧ s.beat % 400000 = 0 ∧
      (s.en e.val).ill ≤ s.get (ENC_CTL_ILLTHR e.val)) ∧
    (∃ (s : State) (e : Fin 6), s.restful = true ∧ s.encLive e.val = true ∧ s.homeWaiting e.val = [] ∧ s.get (ENC_CPR_VALUE e.val) ≠ 0 ∧
      s.flag (ENC_STAT_IDXREFOK e.val) = false) ∧
    (∃ (s : State) (e : Fin 6) (d : Int), s.restful = true ∧ s.encLive e.val = true ∧ s.homeWaiting e.val = [] ∧
      s.get (ENC_CPR_VALUE e.val) ≠ 0 ∧ s.flag (ENC_STAT_IDXREFOK e.val) = true ∧
      d = (s.encPos e.val - (s.en e.val).ref + (s.get (ENC_CPR_VALUE e.val) / 2 : Nat)) % (s.get (ENC_CPR_VALUE e.val) : Int) - (s.get (ENC_CPR_VALUE e.val) / 2 : Nat) ∧
      d.natAbs ≤ s.get (ENC_ITOL_VALUE e.val)) ∧
    (∃ (s : State) (e : Fin 6), s.restful = true ∧ s.encLive e.val = true ∧
      (s.en e.val).winAt + max 1 (s.get (ENC_SPDCFG_SPDWIN e.val)) * 400 ≤ s.beat ∧ s.flag (ENC_STAT_METHOD e.val) = false ∧
      absQ (laneQ (s.encPeriod e.val)) ≤ laneQ (s.get (ENC_VHI_VALUE e.val)) ∧ (s.en e.val).blend = none) ∧
    (∃ (s : State), s.restful = true ∧ s.heldInReset 135 = false) :=
  ⟨⟨(((ready.set (ENC_CTL_DIRINV 0) 0).set (ENC_CTL_EN 0) 1) : State), (0 : Fin 6), (true : Bool), (false : Bool), by decide +kernel,
      by decide +kernel, by decide +kernel⟩,
    ⟨((State.setEn (ready.set (ENC_CTL_ILLTHR 0) 1) 0 { ill := 2 }) : State), (0 : Fin 6), by decide +kernel, by decide +kernel,
      by decide +kernel⟩,
    ⟨(ready : State), (0 : Fin 6), by decide +kernel, by decide +kernel, by decide +kernel, by decide +kernel⟩,
    ⟨((((ready.set (ENC_CPR_VALUE 0) 1).set (ENC_STAT_IDXREFOK 0) 0).set (ENC_CTL_EN 0) 1) : State), (0 : Fin 6), by decide +kernel,
      by decide +kernel, by decide +kernel, by decide +kernel, by decide +kernel⟩,
    ⟨((((ready.set (ENC_CPR_VALUE 0) 1).set (ENC_STAT_IDXREFOK 0) 1).set (ENC_CTL_EN 0) 1) : State), (0 : Fin 6), _, by decide +kernel,
      by decide +kernel, by decide +kernel, by decide +kernel, by decide +kernel, rfl, by decide +kernel⟩,
    ⟨((State.setEn ((ready.set (ENC_STAT_METHOD 0) 0).set (ENC_CTL_EN 0) 1) 0 { blend := none }) : State), (0 : Fin 6),
      by decide +kernel, by decide +kernel, by decide +kernel, by decide +kernel, by decide +kernel, by decide +kernel⟩,
    ⟨(ready : State), by decide +kernel, by decide +kernel⟩⟩
theorem witness_RegisterAndMemoryAccess :
    (∃ (s : State) (a : Addr), s.sysLive = true ∧ s.region a.toNat = .reg ∧ a.toNat % 4 = 0 ∧ s.blockHeld a.toNat = false) ∧
    (∃ (s : State) (a : Addr), s.sysLive = true ∧ s.region a.toNat = .reg ∧ a.toNat % 4 = 0 ∧ s.blockHeld a.toNat = false) ∧
    (∃ (s : State) (a : Addr), s.sysLive = true ∧ s.region a.toNat = .reg ∧ a.toNat % 4 = 0 ∧ s.blockHeld a.toNat = false ∧
      isLo a.toNat = true ∧ isHi a.toNat = false ∧ (¬ (s.dial.clear.isSome ∧ 0x2000410000 ≤ a.toNat ∧ a.toNat < 0x2000418000)) ∧
      a.toNat ≠ 0x200040020C ∧ a.toNat ≠ 0x2001100010) ∧
    (∃ (s : State) (a : Addr) (l : List Byte), s.sysLive = true ∧
      (s.region a.toNat = .dialMem ∨ s.region a.toNat = .progMem ∨ s.region a.toNat = .lineBuf) ∧ s.memSpan a.toNat l.length = true ∧
      s.dial.clear = none) ∧
    (∃ (s : State) (a : Addr) (n : Nat), s.sysLive = true ∧
      (s.region a.toNat = .dialMem ∨ s.region a.toNat = .progMem ∨ s.region a.toNat = .lineBuf) ∧ s.memSpan a.toNat n = true ∧
      s.dial.clear = none) ∧
    (∃ (s : State) (a : Addr), s.restful = true ∧ s.region a.toNat = .unmapped) ∧
    (∃ (s : State) (a : Addr) (n : Nat), s.region a.toNat = .fabric ∧ s.ownSlot a.toNat = false ∧ n ≠ 0 ∧ s.slotAssigned a.toNat = true ∧
      s.skLive = true) ∧
    (∃ (s : State) (tag : Fin 256),
      (s.skz.reqs.any (fun r => r.pieces.any (fun p => p.tag == some tag.val && !p.answered && decide (p.sent + 4000 ≤ s.rst.clk))) = true)) ∧
    (∃ (s : State) (n : Unit24) (m : MemReq) (v : Nat), (s.esc n.val).load = some m ∧ s.escState n.val = 3 ∧
      s.heldInReset n.val = false ∧ m.answer = some (true, v) ∧ (s.esc n.val).stepping = false ∧
      ((s.esc n.val).stores.any (fun q => s.target q.addr == s.target m.addr) = false)) ∧
    (∃ (s : State) (n : Unit24) (m : MemReq) (l : List MemReq) (v : Nat), (s.esc n.val).stores = m :: l ∧ m.answer = some (true, v)) :=
  ⟨⟨(ready : State), (0x2000000100 : Addr), by decide +kernel, by decide +kernel, by decide +kernel, by decide +kernel⟩,
    ⟨(ready : State), (0x2000000100 : Addr), by decide +kernel, by decide +kernel, by decide +kernel, by decide +kernel⟩,
    ⟨(ready : State), (0x2000280010 : Addr), by decide +kernel, by decide +kernel, by decide +kernel, by decide +kernel,
      by decide +kernel, by decide +kernel, by decide +kernel, by decide +kernel, by decide +kernel⟩,
    ⟨({ ready with dial.clear := none } : State), (0x1002000000 : Addr), ([1, 2] : List Byte), by decide +kernel, by decide +kernel,
      by decide +kernel, by decide +kernel⟩,
    ⟨({ ready with dial.clear := none } : State), (0x1002000000 : Addr), (8 : Nat), by decide +kernel, by decide +kernel,
      by decide +kernel, by decide +kernel⟩,
    ⟨(ready : State), (0x4000000000 : Addr), by decide +kernel, by decide +kernel⟩,
    ⟨(({ ready with skz.map := [⟨1, 5, []⟩] }.set SKZ_STAT_JOINED 1) : State), (0x3100000000 : Addr), (4 : Nat), by decide +kernel,
      by decide +kernel, by decide +kernel, by decide +kernel, by decide +kernel⟩,
    ⟨({ ready with skz.reqs := [{ master := 0, dev := 1, win := 0, addr := 0, write := false, ok := true, data := [], pieces := [⟨some 0, 0, 4, false, [], 0⟩] }] } : State),
      (0 : Fin 256), by decide +kernel⟩,
    ⟨((State.setEsc (ready.set (ESC_STAT_STATE 0) 3) 0 { load := some ({ addr := 0, data := 0, toF := false, pc := 0, word := 0, len := 0, answer := some (true, (0 : Nat)) } : MemReq), stepping := false }) : State),
      (0 : Unit24), ({ addr := 0, data := 0, toF := false, pc := 0, word := 0, len := 0, answer := some (true, (0 : Nat)) } : MemReq),
      (0 : Nat), by decide +kernel, by decide +kernel, by decide +kernel, by decide +kernel, by decide +kernel, by decide +kernel⟩,
    ⟨((State.setEsc ready 0 { stores := ({ addr := 0, data := 0, toF := false, pc := 0, word := 0, len := 0, answer := some (true, (0 : Nat)) } : MemReq) :: ([] : List MemReq) }) : State),
      (0 : Unit24), ({ addr := 0, data := 0, toF := false, pc := 0, word := 0, len := 0, answer := some (true, (0 : Nat)) } : MemReq),
      ([] : List MemReq), (0 : Nat), by decide +kernel, by decide +kernel⟩⟩
theorem witness_DialCommands :
    (∃ (s : State) (d : Deposit), s.dial.waiting = [d] ∧ d.beat + 120 ≤ s.beat ∧ s.dial.recv = []) ∧
    (∃ (s : State), s.restful = true ∧ (s.dial.waiting.all (fun d => !decide (d.beat + 120 ≤ s.beat)) = true) ∧ s.dial.recv = []) ∧
    (∃ (s : State) (tile : Fin 4096) (t : Nat), s.beat / 32 % 4096 = tile.val ∧ s.sweepRuns = true ∧ s.dial.swept ≠ s.beat / 32 + 1 ∧
      s.beat ≤ s.dial.passAt + 2 ^ 46 ∧ tile.val ≠ 4095 ∧ s.tau = some t ∧
      (t : Rat) / 16 ≤ (ageOf (s.beat / 32 * 32 % 2 ^ 48) (s.stamp tile.val) : Rat)) ∧
    (∃ (s : State) (tile : Fin 4096) (t : Nat), s.restful = true ∧ s.beat / 32 % 4096 = tile.val ∧ s.sweepRuns = true ∧
      s.dial.swept ≠ s.beat / 32 + 1 ∧ s.beat ≤ s.dial.passAt + 2 ^ 46 ∧ tile.val ≠ 4095 ∧ s.tau = some t ∧
      ¬ (t : Rat) / 16 ≤ (ageOf (s.beat / 32 * 32 % 2 ^ 48) (s.stamp tile.val) : Rat)) ∧
    (∃ (s : State), s.restful = true ∧ s.heldInReset 129 = false) ∧
    (∃ (s : State) (b : Nat), s.restful = true ∧ s.dial.clear = some b ∧ b ≤ s.beat) ∧
    (∃ (s : State), s.restful = true ∧ s.heldInReset 129 = false) ∧
    (∃ (s : State) (b : Nat), s.dial.rebase = some b ∧ b ≤ s.beat) ∧
    (∃ (s : State) (b : Nat), s.dial.rebase = some b ∧ b ≤ s.beat) ∧
    (∃ (s : State), s.heldInReset 129 = false) ∧
    (∃ (s : State) (k : Fin 8) (o : Origin), s.restful = true ∧ s.dial.checking.testBit k.val = true ∧
      sgn 32 o.x.toNat = sgn 32 (s.get DIAL_ORG_X_ORG) + 4000 * sgn 16 (s.live (DIAL_POFS_DX k.val)) ∧
      sgn 32 o.y.toNat = sgn 32 (s.get DIAL_ORG_Y_ORG) + 4000 * sgn 16 (s.live (DIAL_POFS_DY k.val))) ∧
    (∃ (s : State) (k : Fin 8), s.dial.checking.testBit k.val = true) :=
  ⟨⟨({ ready with dial.waiting := [({ beat := 0, laser := 0, dev := 0, ix := 0, iy := 0, amp := 0 } : Deposit)], dial.recv := [] } : State),
      ({ beat := 0, laser := 0, dev := 0, ix := 0, iy := 0, amp := 0 } : Deposit), by decide +kernel, by decide +kernel, by decide +kernel⟩,
    ⟨({ ready with dial.recv := [] } : State), by decide +kernel, by decide +kernel, by decide +kernel⟩,
    ⟨(({ ready with beat := 32 * 4096 * 10 ^ 5 }.set DIAL_TAU_TAU 1000) : State), (0 : Fin 4096), _, by decide +kernel,
      by decide +kernel, by decide +kernel, by decide +kernel, by decide +kernel, rfl, by decide +kernel⟩,
    ⟨((((({ ready with beat := 32 * 4096 * 10 ^ 5 }.set DIAL_TAU_TAU 1000).set DIAL_TAU_TAU.copy 4000000000).set (DIAL_STAMP_LO_STAMP 0) (32 * 4096 * 10 ^ 5)).set (DIAL_STAMP_HI_STAMP 0) ((32 * 4096 * 10 ^ 5) / 2 ^ 32)) : State),
      (0 : Fin 4096), _, by decide +kernel, by decide +kernel, by decide +kernel, by decide +kernel, by decide +kernel,
      by decide +kernel, rfl, by decide +kernel⟩,
    ⟨(ready : State), by decide +kernel, by decide +kernel⟩,
    ⟨({ ready with dial.clear := some (0 : Nat) } : State), (0 : Nat), by decide +kernel, by decide +kernel, by decide +kernel⟩,
    ⟨(ready : State), by decide +kernel, by decide +kernel⟩,
    ⟨({ ready with dial.rebase := some (0 : Nat) } : State), (0 : Nat), by decide +kernel, by decide +kernel⟩,
    ⟨({ ready with dial.rebase := some (0 : Nat) } : State), (0 : Nat), by decide +kernel, by decide +kernel⟩,
    ⟨(ready : State), by decide +kernel⟩,
    ⟨({ ready with dial.checking := 1 } : State), (0 : Fin 8), ({ x := 0, y := 0, tau := 0 } : Origin), by decide +kernel,
      by decide +kernel, by decide +kernel, by decide +kernel⟩,
    ⟨({ ready with dial.checking := 1 } : State), (0 : Fin 8), by decide +kernel⟩⟩
theorem witness_BridgeCommands :
    (∃ (s : State), s.modeCode = mExpose ∧ s.heldInReset 128 = false) ∧
    (∃ (s : State), s.restful = true ∧ s.modeCode ≠ mExpose) ∧
    (∃ (s : State) (n : Unit24) (f : FloatSt) (i : Nat) (j : Nat) (a : Nat), (s.esc n.val).float = some f ∧ f.fetch = some (i, j) ∧
      a = s.begin.pair (BRG_PBASE_LO_ADDR f.pool).copy (BRG_PBASE_HI_ADDR f.pool).copy + 32 * i ∧ s.region a = .progMem) ∧
    (∃ (s : State) (n : Unit24) (x : HoldSt), (s.esc n.val).hold = some x ∧ (∀ g,
      x.g = some g → x.h + s.live BRG_HOLDTO_HOLDTO * 400 ≤ g + 16) ∧ x.timedOut = false ∧ s.live BRG_HOLDTO_HOLDTO ≠ 0 ∧
      x.h + s.live BRG_HOLDTO_HOLDTO * 400 ≤ s.beat ∧ s.modeCode = mExpose) ∧
    (∃ (s : State) (n : Unit24) (b : Nat), s.restful = true ∧ s.modeCode = mExpose ∧ (s.esc n.val).resvEnd = some b ∧ b ≤ s.beat) :=
  ⟨⟨((ready.set SYS_MODE_STAT_MODE mExpose) : State), by decide +kernel, by decide +kernel⟩,
    ⟨(ready : State), by decide +kernel, by decide +kernel⟩,
    ⟨((State.setEsc ((ready.set (BRG_PBASE_LO_ADDR 0).copy (0x2000000 / 32)).set (BRG_PBASE_HI_ADDR 0).copy 0x10) 0 { float := some ({ gd := 0, pool := 0, side := 0, fetch := some ((0 : Nat), (0 : Nat)) } : FloatSt) }) : State),
      (0 : Unit24), ({ gd := 0, pool := 0, side := 0, fetch := some ((0 : Nat), (0 : Nat)) } : FloatSt), (0 : Nat), (0 : Nat), _,
      by decide +kernel, by decide +kernel, rfl, by decide +kernel⟩,
    ⟨((State.setEsc (ready.set SYS_MODE_STAT_MODE mExpose) 0 { hold := some ({ h := 0, timedOut := false } : HoldSt) }) : State),
      (0 : Unit24), ({ h := 0, timedOut := false } : HoldSt), by decide +kernel, by decide +kernel, by decide +kernel, by decide +kernel,
      by decide +kernel, by decide +kernel⟩,
    ⟨((State.setEsc (ready.set SYS_MODE_STAT_MODE mExpose) 0 { resvEnd := some (0 : Nat) }) : State), (0 : Unit24), (0 : Nat),
      by decide +kernel, by decide +kernel, by decide +kernel, by decide +kernel⟩⟩
theorem witness_EscapementStartAndBarriers :
    (∃ (s : State) (n : Unit24) (a : Addr), (s.escState n.val = 2 ∨ s.escState n.val = 3 ∨ s.escState n.val = 4) ∧
      s.heldInReset n.val = false ∧ ((s.esc n.val).buf.any (fun l => l.addr == a.toNat / 64 * 64) = false) ∧
      (s.esc n.val).buf.length < 64 ∧ s.region (a.toNat / 64 * 64) = .progMem ∧ s.restful = true) ∧
    (∃ (s : State) (n : Unit24), s.restful = true ∧ s.escState n.val = 1 ∧ (s.esc n.val).lineAt < s.beat ∧
      (s.prefetchStopped n.val = true ∨ s.pfDepth n.val ≤ (s.prefetched n.val).2)) ∧
    (∃ (s : State), s.restful = true ∧ s.modeCode = mArmed) ∧
    (∃ (s : State), s.restful = true ∧ s.modeCode ≠ mArmed) ∧
    (∃ (s : State) (g : Fin 16), s.restful = true ∧ s.barFull g.val = true ∧ (s.bar g.val).ready ≤ s.beat) ∧
    (∃ (s : State) (g : Fin 16) (a : Nat) (b : Nat) (c : Nat), (s.bar g.val).arrived = [(a, b, c)] ∧ s.get ESC_SYNCTO_DEV_TO ≠ 0 ∧
      b + usBeats (s.get ESC_SYNCTO_DEV_TO) ≤ s.beat) ∧
    (∃ (s : State) (g : Fin 16), s.flag SKZ_STAT_TK = true ∧ (s.bar (16 + g.val)).reports ≠ [] ∧
      ((List.range 16).all (fun d => !(s.bar (16 + g.val)).devices.testBit d || (s.bar (16 + g.val)).reports.any (fun r => r.1 == d)) = true)) ∧
    (∃ (s : State) (g : Fin 16), s.flag SKZ_STAT_TK = true ∧ (s.bar (16 + g.val)).reports ≠ [] ∧ s.get ESC_SYNCTO_FAB_TO ≠ 0 ∧
      (s.bar (16 + g.val)).firstReport + usBeats (s.get ESC_SYNCTO_FAB_TO) ≤ s.beat) ∧
    (∃ (s : State) (g : Fin 16) (r : Nat), (s.bar (16 + g.val)).reported = some r ∧ s.get ESC_SYNCTO_FAB_TO ≠ 0 ∧
      r + usBeats (s.get ESC_SYNCTO_FAB_TO + 10) ≤ s.beat ∧ s.fabTold g.val = false) :=
  ⟨⟨((ready.set (ESC_STAT_STATE 0) 2) : State), (0 : Unit24), (0x1002000000 : Addr), by decide +kernel, by decide +kernel,
      by decide +kernel, by decide +kernel, by decide +kernel, by decide +kernel⟩,
    ⟨((State.setEsc ((ready.set (ESC_STAT_STATE 0) 1).set (ESC_CTL_PFDEPTH 0) 1) 0 { buf := [⟨0, false, []⟩] }) : State), (0 : Unit24),
      by decide +kernel, by decide +kernel, by decide +kernel, by decide +kernel⟩,
    ⟨((ready.set SYS_MODE_STAT_MODE mArmed) : State), by decide +kernel, by decide +kernel⟩,
    ⟨(ready : State), by decide +kernel, by decide +kernel⟩,
    ⟨((State.setBar ready 0 { members := 1, arrived := [(0, 0, 0)] }) : State), (0 : Fin 16), by decide +kernel, by decide +kernel,
      by decide +kernel⟩,
    ⟨((State.setBar (ready.set ESC_SYNCTO_DEV_TO 1) 0 { arrived := [((0 : Nat), (0 : Nat), (0 : Nat))] }) : State), (0 : Fin 16),
      (0 : Nat), (0 : Nat), (0 : Nat), by decide +kernel, by decide +kernel, by decide +kernel⟩,
    ⟨((State.setBar (ready.set SKZ_STAT_TK 1) (16 + 0) { reports := [(0, 0)], devices := 1 }) : State), (0 : Fin 16), by decide +kernel,
      by decide +kernel, by decide +kernel⟩,
    ⟨((State.setBar ((ready.set SKZ_STAT_TK 1).set ESC_SYNCTO_FAB_TO 1) (16 + 0) { reports := [(0, 0)], devices := 1 }) : State),
      (0 : Fin 16), by decide +kernel, by decide +kernel, by decide +kernel, by decide +kernel⟩,
    ⟨((State.setBar (ready.set ESC_SYNCTO_FAB_TO 1) (16 + 0) { reported := some (0 : Nat) }) : State), (0 : Fin 16), (0 : Nat),
      by decide +kernel, by decide +kernel, by decide +kernel, by decide +kernel⟩⟩
theorem witness_EscapementControlCommands :
    (∃ (s : State) (n : Unit24), s.restful = true ∧ s.heldInReset n.val = false) ∧
    (∃ (s : State), s.restful = true) ∧
    (∃ (s : State) (n : Unit24), s.restful = true ∧ s.lbeat = s.pair (ESC_ALARM_LO_VALUE n.val) (ESC_ALARM_HI_VALUE n.val) ∧
      s.heldInReset n.val = false) ∧
    (∃ (s : State) (n : Unit24), s.heldInReset n.val = false ∧ stoppedCode (s.escState n.val) = true ∧ startMode s.modeCode = true) ∧
    (∃ (s : State) (n : Unit24), s.heldInReset n.val = false ∧ (stoppedCode (s.escState n.val) = false ∨ startMode s.modeCode = false)) ∧
    (∃ (s : State) (n : Unit24), s.heldInReset n.val = false ∧ s.escState n.val ≠ 0) ∧
    (∃ (s : State) (n : Unit24), s.restful = true ∧ s.heldInReset n.val = false ∧ (s.escState n.val = 5 ∨ s.escState n.val = 6) ∧
      startMode s.modeCode = true) ∧
    (∃ (s : State) (n : Unit24), s.restful = true ∧ s.heldInReset n.val = false ∧ (s.escState n.val = 5 ∨ s.escState n.val = 6) ∧
      stepMode s.modeCode = true) ∧
    (∃ (s : State) (n : Unit24), s.heldInReset n.val = false ∧ s.escState n.val = 0 ∧ stepMode s.modeCode = true) ∧
    (∃ (s : State) (n : Unit24), s.restful = true ∧ s.heldInReset n.val = false ∧ stoppedCode (s.escState n.val) = true) ∧
    (∃ (s : State) (n : Unit24) (v : Word), s.restful = true ∧ s.heldInReset n.val = false ∧ stoppedCode (s.escState n.val) = true ∧
      s.escState n.val ≠ 6 ∧ s.flag (ESC_CTL_ENABLE n.val) ≠ bit v.toNat 0) :=
  ⟨⟨(ready : State), (0 : Unit24), by decide +kernel, by decide +kernel⟩,
    ⟨(ready : State), by decide +kernel⟩,
    ⟨(ready : State), (0 : Unit24), by decide +kernel, by decide +kernel, by decide +kernel⟩,
    ⟨(ready : State), (0 : Unit24), by decide +kernel, by decide +kernel, by decide +kernel⟩,
    ⟨((ready.set (ESC_STAT_STATE 0) 3) : State), (0 : Unit24), by decide +kernel, by decide +kernel⟩,
    ⟨((ready.set (ESC_STAT_STATE 0) 3) : State), (0 : Unit24), by decide +kernel, by decide +kernel⟩,
    ⟨((ready.set (ESC_STAT_STATE 0) 5) : State), (0 : Unit24), by decide +kernel, by decide +kernel, by decide +kernel, by decide +kernel⟩,
    ⟨((ready.set (ESC_STAT_STATE 0) 5) : State), (0 : Unit24), by decide +kernel, by decide +kernel, by decide +kernel, by decide +kernel⟩,
    ⟨((ready.set (ESC_STAT_STATE 0) 0) : State), (0 : Unit24), by decide +kernel, by decide +kernel, by decide +kernel⟩,
    ⟨(ready : State), (0 : Unit24), by decide +kernel, by decide +kernel, by decide +kernel⟩,
    ⟨(ready : State), (0 : Unit24), (1 : Word), by decide +kernel, by decide +kernel, by decide +kernel, by decide +kernel,
      by decide +kernel⟩⟩
theorem witness_TimelineCommands :
    (∃ (s : State) (n : Unit24) (g : Seg) (l : List Seg), s.restful = true ∧ (s.esc n.val).queue = g :: l ∧ s.mayCommit n.val g = true ∧
      g.kind.on = false ∧ (s.esc n.val).stretch = none ∧ g.set.powNew = false ∧
      ((s.esc n.val).planSeg (s.limits n.val) s.beat g l ((s.esc n.val).zeroPower g) (s.esc n.val).wait.isSome).2 = false) ∧
    (∃ (s : State) (n : Unit24) (p : Plan) (g : Seg) (x : Seg) (l : List Seg), (s.esc n.val).line = .seg p ∧
      (s.esc n.val).queue = g :: x :: l ∧ p.start + p.beats ≤ s.beat ∧ s.escState n.val = 3 ∧ g.kind.on = false ∧
      (p.vExit ≤ 0 ∨ continues (s.limits n.val) g x p.vExit = true) ∧ g.piece = none) ∧
    (∃ (s : State) (n : Unit24) (w : Wait), (s.esc n.val).wait = some w ∧ w.drained = false ∧ (s.esc n.val).drainedNow = true ∧
      s.escState n.val = 4) ∧
    (∃ (s : State) (n : Unit24) (w : Wait) (k : Nat), s.restful = true ∧ (s.esc n.val).wait = some w ∧ w.drained = false ∧
      (s.esc n.val).drainedNow = true ∧ s.escState n.val = 4 ∧ k ≠ 0 ∧ w.kind = .waitt false k) ∧
    (∃ (s : State) (n : Unit24) (p : Plan) (g : Seg) (l : List Seg), s.restful = true ∧ (s.esc n.val).line = .stop p true ∧
      p.start + p.beats ≤ s.beat ∧ (s.esc n.val).queue = g :: l) ∧
    (∃ (s : State) (n : Unit24) (p : Plan), (s.esc n.val).line = .ret p ∧ p.start + p.beats ≤ s.beat) ∧
    (∃ (s : State) (n : Unit24) (r : Nat), s.restful = true ∧ (s.esc n.val).restart = some r ∧ r ≤ s.beat) :=
  ⟨⟨((State.setEsc (ready.set (ESC_STAT_STATE 0) 3) 0 { queue := ({ kind := .jump, x0 := 0, y0 := 0, z0 := 0, x1 := 0, y1 := 0, z1 := 0, set := {  } } : Seg) :: ([] : List Seg), stretch := none }) : State),
      (0 : Unit24), ({ kind := .jump, x0 := 0, y0 := 0, z0 := 0, x1 := 0, y1 := 0, z1 := 0, set := {  } } : Seg), ([] : List Seg),
      by decide +kernel, by decide +kernel, by decide +kernel, by decide +kernel, by decide +kernel, by decide +kernel, by decide +kernel⟩,
    ⟨((State.setEsc (ready.set (ESC_STAT_STATE 0) 3) 0 { line := .seg ({ start := 0, parts := [] } : Plan), queue := ({ kind := .jump, x0 := 0, y0 := 0, z0 := 0, x1 := 0, y1 := 0, z1 := 0, set := {  }, piece := none } : Seg) :: ({ kind := .mark, x0 := 0, y0 := 0, z0 := 0, x1 := 0, y1 := 0, z1 := 0, set := {  } } : Seg) :: ([] : List Seg) }) : State),
      (0 : Unit24), ({ start := 0, parts := [] } : Plan),
      ({ kind := .jump, x0 := 0, y0 := 0, z0 := 0, x1 := 0, y1 := 0, z1 := 0, set := {  }, piece := none } : Seg),
      ({ kind := .mark, x0 := 0, y0 := 0, z0 := 0, x1 := 0, y1 := 0, z1 := 0, set := {  } } : Seg), ([] : List Seg), by decide +kernel,
      by decide +kernel, by decide +kernel, by decide +kernel, by decide +kernel, by decide +kernel, by decide +kernel⟩,
    ⟨((State.setEsc (ready.set (ESC_STAT_STATE 0) 4) 0 { wait := some ({ kind := .halt 0, drained := false, pc := 0, word := 0, len := 0 } : Wait) }) : State),
      (0 : Unit24), ({ kind := .halt 0, drained := false, pc := 0, word := 0, len := 0 } : Wait), by decide +kernel, by decide +kernel,
      by decide +kernel, by decide +kernel⟩,
    ⟨((State.setEsc (ready.set (ESC_STAT_STATE 0) 4) 0 { wait := some ({ kind := .waitt false (1 : Nat), drained := false, pc := 0, word := 0, len := 0 } : Wait) }) : State),
      (0 : Unit24), ({ kind := .waitt false (1 : Nat), drained := false, pc := 0, word := 0, len := 0 } : Wait), (1 : Nat),
      by decide +kernel, by decide +kernel, by decide +kernel, by decide +kernel, by decide +kernel, by decide +kernel, by decide +kernel⟩,
    ⟨((State.setEsc ready 0 { line := .stop ({ start := 0, parts := [] } : Plan) true, queue := ({ kind := .mark, x0 := 0, y0 := 0, z0 := 0, x1 := 0, y1 := 0, z1 := 0, set := {  } } : Seg) :: ([] : List Seg) }) : State),
      (0 : Unit24), ({ start := 0, parts := [] } : Plan),
      ({ kind := .mark, x0 := 0, y0 := 0, z0 := 0, x1 := 0, y1 := 0, z1 := 0, set := {  } } : Seg), ([] : List Seg), by decide +kernel,
      by decide +kernel, by decide +kernel, by decide +kernel⟩,
    ⟨((State.setEsc ready 0 { line := .ret ({ start := 0, parts := [] } : Plan) }) : State), (0 : Unit24),
      ({ start := 0, parts := [] } : Plan), by decide +kernel, by decide +kernel⟩,
    ⟨((State.setEsc ready 0 { restart := some (0 : Nat) }) : State), (0 : Unit24), (0 : Nat), by decide +kernel, by decide +kernel,
      by decide +kernel⟩⟩
theorem witness_CalibreIntegerInstructions :
    (∃ (s : State) (n : Unit24) (b : BitVec 58), s.restful = true ∧
      s.goes n.val (instrWords 0x34 (wordOf b) 0) (aluIllegal (wordOf b) 0x0 false) = true) ∧
    (∃ (s : State) (n : Unit24) (b : BitVec 58), s.restful = true ∧
      s.goes n.val (instrWords 0x34 (wordOf b) 0) (aluIllegal (wordOf b) 0x1 false) = true) ∧
    (∃ (s : State) (n : Unit24) (b : BitVec 58), s.restful = true ∧
      s.goes n.val (instrWords 0x34 (wordOf b) 0) (aluIllegal (wordOf b) 0x2 false) = true) ∧
    (∃ (s : State) (n : Unit24) (b : BitVec 58), s.restful = true ∧
      s.goes n.val (instrWords 0x34 (wordOf b) 0) (aluIllegal (wordOf b) 0x3 false) = true) ∧
    (∃ (s : State) (n : Unit24) (b : BitVec 58), s.restful = true ∧
      s.goes n.val (instrWords 0x34 (wordOf b) 0) (aluIllegal (wordOf b) 0x4 false) = true) ∧
    (∃ (s : State) (n : Unit24) (b : BitVec 58), s.restful = true ∧
      s.goes n.val (instrWords 0x34 (wordOf b) 0) (aluIllegal (wordOf b) 0x5 false) = true) ∧
    (∃ (s : State) (n : Unit24) (b : BitVec 58), s.restful = true ∧
      s.goes n.val (instrWords 0x34 (wordOf b) 0) (aluIllegal (wordOf b) 0x6 false) = true) ∧
    (∃ (s : State) (n : Unit24) (b : BitVec 58), s.restful = true ∧
      s.goes n.val (instrWords 0x34 (wordOf b) 0) (aluIllegal (wordOf b) 0x7 false) = true) ∧
    (∃ (s : State) (n : Unit24) (b : BitVec 58), s.restful = true ∧
      s.goes n.val (instrWords 0x34 (wordOf b) 0) (aluIllegal (wordOf b) 0x8 false) = true) ∧
    (∃ (s : State) (n : Unit24) (b : BitVec 58), s.restful = true ∧
      s.goes n.val (instrWords 0x34 (wordOf b) 0) (aluIllegal (wordOf b) 0x9 false) = true) ∧
    (∃ (s : State) (n : Unit24) (b : BitVec 58), s.restful = true ∧
      s.goes n.val (instrWords 0x34 (wordOf b) 0) (aluIllegal (wordOf b) 0xA false) = true) ∧
    (∃ (s : State) (n : Unit24) (b : BitVec 58), s.restful = true ∧
      s.goes n.val (instrWords 0x34 (wordOf b) 0) (aluIllegal (wordOf b) 0xB false) = true) ∧
    (∃ (s : State) (n : Unit24) (b : BitVec 58), s.restful = true ∧
      s.goes n.val (instrWords 0x34 (wordOf b) 0) (aluIllegal (wordOf b) 0xC true) = true) ∧
    (∃ (s : State) (n : Unit24) (b : BitVec 58), s.restful = true ∧
      s.goes n.val (instrWords 0x34 (wordOf b) 0) (aluIllegal (wordOf b) 0xD true) = true) :=
  ⟨⟨((prog 0 (instrWords 0x34 (wordOf (0 : BitVec 58)) 0) (ready.set (ESC_STAT_STATE 0) 3)) : State), (0 : Unit24), (0 : BitVec 58),
      by decide +kernel, by decide +kernel⟩,
    ⟨((prog 0 (instrWords 0x34 (wordOf (0x10000000000000 : BitVec 58)) 0) (ready.set (ESC_STAT_STATE 0) 3)) : State), (0 : Unit24),
      (0x10000000000000 : BitVec 58), by decide +kernel, by decide +kernel⟩,
    ⟨((prog 0 (instrWords 0x34 (wordOf (0x20000000000000 : BitVec 58)) 0) (ready.set (ESC_STAT_STATE 0) 3)) : State), (0 : Unit24),
      (0x20000000000000 : BitVec 58), by decide +kernel, by decide +kernel⟩,
    ⟨((prog 0 (instrWords 0x34 (wordOf (0x30000000000000 : BitVec 58)) 0) (ready.set (ESC_STAT_STATE 0) 3)) : State), (0 : Unit24),
      (0x30000000000000 : BitVec 58), by decide +kernel, by decide +kernel⟩,
    ⟨((prog 0 (instrWords 0x34 (wordOf (0x40000000000000 : BitVec 58)) 0) (ready.set (ESC_STAT_STATE 0) 3)) : State), (0 : Unit24),
      (0x40000000000000 : BitVec 58), by decide +kernel, by decide +kernel⟩,
    ⟨((prog 0 (instrWords 0x34 (wordOf (0x50000000000000 : BitVec 58)) 0) (ready.set (ESC_STAT_STATE 0) 3)) : State), (0 : Unit24),
      (0x50000000000000 : BitVec 58), by decide +kernel, by decide +kernel⟩,
    ⟨((prog 0 (instrWords 0x34 (wordOf (0x60000000000000 : BitVec 58)) 0) (ready.set (ESC_STAT_STATE 0) 3)) : State), (0 : Unit24),
      (0x60000000000000 : BitVec 58), by decide +kernel, by decide +kernel⟩,
    ⟨((prog 0 (instrWords 0x34 (wordOf (0x70000000000000 : BitVec 58)) 0) (ready.set (ESC_STAT_STATE 0) 3)) : State), (0 : Unit24),
      (0x70000000000000 : BitVec 58), by decide +kernel, by decide +kernel⟩,
    ⟨((prog 0 (instrWords 0x34 (wordOf (0x80000000000000 : BitVec 58)) 0) (ready.set (ESC_STAT_STATE 0) 3)) : State), (0 : Unit24),
      (0x80000000000000 : BitVec 58), by decide +kernel, by decide +kernel⟩,
    ⟨((prog 0 (instrWords 0x34 (wordOf (0x90000000000000 : BitVec 58)) 0) (ready.set (ESC_STAT_STATE 0) 3)) : State), (0 : Unit24),
      (0x90000000000000 : BitVec 58), by decide +kernel, by decide +kernel⟩,
    ⟨((prog 0 (instrWords 0x34 (wordOf (0xa0000000000000 : BitVec 58)) 0) (ready.set (ESC_STAT_STATE 0) 3)) : State), (0 : Unit24),
      (0xa0000000000000 : BitVec 58), by decide +kernel, by decide +kernel⟩,
    ⟨((prog 0 (instrWords 0x34 (wordOf (0xb0000000000000 : BitVec 58)) 0) (ready.set (ESC_STAT_STATE 0) 3)) : State), (0 : Unit24),
      (0xb0000000000000 : BitVec 58), by decide +kernel, by decide +kernel⟩,
    ⟨((prog 0 (instrWords 0x34 (wordOf (0xc0000000000000 : BitVec 58)) 0) (ready.set (ESC_STAT_STATE 0) 3)) : State), (0 : Unit24),
      (0xc0000000000000 : BitVec 58), by decide +kernel, by decide +kernel⟩,
    ⟨((prog 0 (instrWords 0x34 (wordOf (0xd0000000000000 : BitVec 58)) 0) (ready.set (ESC_STAT_STATE 0) 3)) : State), (0 : Unit24),
      (0xd0000000000000 : BitVec 58), by decide +kernel, by decide +kernel⟩⟩
theorem witness_CalibreFloatInstructions :
    (∃ (s : State) (n : Unit24) (b : BitVec 58) (r : Nat), s.restful = true ∧
      s.goes n.val (instrWords 0x35 (wordOf b) 0) (fpIllegal (wordOf b) 0x0) = true ∧
      (f32Add (s.f n.val (bits (wordOf b) 46 42)) (if bit (wordOf b) 56 then bits (wordOf b) 31 0 else s.f n.val (bits (wordOf b) 41 37)) = some r)) ∧
    (∃ (s : State) (n : Unit24) (b : BitVec 58) (r : Nat), s.restful = true ∧
      s.goes n.val (instrWords 0x35 (wordOf b) 0) (fpIllegal (wordOf b) 0x1) = true ∧
      (f32Sub (s.f n.val (bits (wordOf b) 46 42)) (if bit (wordOf b) 56 then bits (wordOf b) 31 0 else s.f n.val (bits (wordOf b) 41 37)) = some r)) ∧
    (∃ (s : State) (n : Unit24) (b : BitVec 58) (r : Nat), s.restful = true ∧
      s.goes n.val (instrWords 0x35 (wordOf b) 0) (fpIllegal (wordOf b) 0x2) = true ∧
      (f32Min (s.f n.val (bits (wordOf b) 46 42)) (if bit (wordOf b) 56 then bits (wordOf b) 31 0 else s.f n.val (bits (wordOf b) 41 37)) = some r)) ∧
    (∃ (s : State) (n : Unit24) (b : BitVec 58) (r : Nat), s.restful = true ∧
      s.goes n.val (instrWords 0x35 (wordOf b) 0) (fpIllegal (wordOf b) 0x3) = true ∧
      (f32Max (s.f n.val (bits (wordOf b) 46 42)) (if bit (wordOf b) 56 then bits (wordOf b) 31 0 else s.f n.val (bits (wordOf b) 41 37)) = some r)) ∧
    (∃ (s : State) (n : Unit24) (b : BitVec 58) (r : Nat), s.restful = true ∧
      s.goes n.val (instrWords 0x36 (wordOf b) 0) (fpIllegal (wordOf b) 0x0) = true ∧
      (f32Mul (s.f n.val (bits (wordOf b) 46 42)) (if bit (wordOf b) 56 then bits (wordOf b) 31 0 else s.f n.val (bits (wordOf b) 41 37)) = some r)) ∧
    (∃ (s : State) (n : Unit24) (b : BitVec 58), s.goes n.val (instrWords 0x35 (wordOf b) 0) (fpIllegal (wordOf b) 0x0) = true ∧
      (f32Add (s.f n.val (bits (wordOf b) 46 42)) (if bit (wordOf b) 56 then bits (wordOf b) 31 0 else s.f n.val (bits (wordOf b) 41 37)) = none)) ∧
    (∃ (s : State) (n : Unit24) (b : BitVec 58) (r : Nat), s.restful = true ∧
      s.goes n.val (instrWords 0x37 (wordOf b) 0) (fmaIllegal (wordOf b) 0x0) = true ∧
      f32Fma ((s.f n.val (bits (wordOf b) 46 42))) (s.f n.val (bits (wordOf b) 41 37)) (s.f n.val (bits (wordOf b) 36 32)) = some r) ∧
    (∃ (s : State) (n : Unit24) (b : BitVec 58) (r : Nat), s.restful = true ∧
      s.goes n.val (instrWords 0x37 (wordOf b) 0) (fmaIllegal (wordOf b) 0x1) = true ∧
      f32Fma (f32Flip (s.f n.val (bits (wordOf b) 46 42))) (s.f n.val (bits (wordOf b) 41 37)) (s.f n.val (bits (wordOf b) 36 32)) = some r) ∧
    (∃ (s : State) (n : Unit24) (b : BitVec 58), s.restful = true ∧
      s.goes n.val (instrWords 0x38 (wordOf b) 0) (cvtIllegal (wordOf b) 0x0 true false) = true) ∧
    (∃ (s : State) (n : Unit24) (b : BitVec 58), s.restful = true ∧
      s.goes n.val (instrWords 0x38 (wordOf b) 0) (cvtIllegal (wordOf b) 0x3 true false) = true) ∧
    (∃ (s : State) (n : Unit24) (b : BitVec 58) (q : Rat), s.restful = true ∧
      s.goes n.val (instrWords 0x38 (wordOf b) 0) (cvtIllegal (wordOf b) 0x1 false true) = true ∧
      f32Val (s.f n.val (bits (wordOf b) 46 42)) = some q) ∧
    (∃ (s : State) (n : Unit24) (b : BitVec 58) (q : Rat), s.restful = true ∧
      s.goes n.val (instrWords 0x38 (wordOf b) 0) (cvtIllegal (wordOf b) 0x2 false true) = true ∧
      f32Val (s.f n.val (bits (wordOf b) 46 42)) = some q) ∧
    (∃ (s : State) (n : Unit24) (b : BitVec 58) (q : Rat), s.restful = true ∧
      s.goes n.val (instrWords 0x38 (wordOf b) 0) (cvtIllegal (wordOf b) 0x4 false true) = true ∧
      f32Val (s.f n.val (bits (wordOf b) 46 42)) = some q) :=
  ⟨⟨((prog 0 (instrWords 0x35 (wordOf (0 : BitVec 58)) 0) (ready.set (ESC_STAT_STATE 0) 3)) : State), (0 : Unit24), (0 : BitVec 58),
      (0 : Nat), by decide +kernel, by decide +kernel, by decide +kernel⟩,
    ⟨((prog 0 (instrWords 0x35 (wordOf (0x10000000000000 : BitVec 58)) 0) (ready.set (ESC_STAT_STATE 0) 3)) : State), (0 : Unit24),
      (0x10000000000000 : BitVec 58), (0 : Nat), by decide +kernel, by decide +kernel, by decide +kernel⟩,
    ⟨((prog 0 (instrWords 0x35 (wordOf (0x20000000000000 : BitVec 58)) 0) (ready.set (ESC_STAT_STATE 0) 3)) : State), (0 : Unit24),
      (0x20000000000000 : BitVec 58), (0 : Nat), by decide +kernel, by decide +kernel, by decide +kernel⟩,
    ⟨((prog 0 (instrWords 0x35 (wordOf (0x30000000000000 : BitVec 58)) 0) (ready.set (ESC_STAT_STATE 0) 3)) : State), (0 : Unit24),
      (0x30000000000000 : BitVec 58), (0 : Nat), by decide +kernel, by decide +kernel, by decide +kernel⟩,
    ⟨((prog 0 (instrWords 0x36 (wordOf (0 : BitVec 58)) 0) (ready.set (ESC_STAT_STATE 0) 3)) : State), (0 : Unit24), (0 : BitVec 58),
      (0 : Nat), by decide +kernel, by decide +kernel, by decide +kernel⟩,
    ⟨((prog 0 (instrWords 0x35 (wordOf (0x10000007f800001 : BitVec 58)) 0) (ready.set (ESC_STAT_STATE 0) 3)) : State), (0 : Unit24),
      (0x10000007f800001 : BitVec 58), by decide +kernel, by decide +kernel⟩,
    ⟨((prog 0 (instrWords 0x37 (wordOf (0 : BitVec 58)) 0) (ready.set (ESC_STAT_STATE 0) 3)) : State), (0 : Unit24), (0 : BitVec 58),
      (0 : Nat), by decide +kernel, by decide +kernel, by decide +kernel⟩,
    ⟨((prog 0 (instrWords 0x37 (wordOf (0x10000000000000 : BitVec 58)) 0) (ready.set (ESC_STAT_STATE 0) 3)) : State), (0 : Unit24),
      (0x10000000000000 : BitVec 58), (0 : Nat), by decide +kernel, by decide +kernel, by decide +kernel⟩,
    ⟨((prog 0 (instrWords 0x38 (wordOf (0 : BitVec 58)) 0) (ready.set (ESC_STAT_STATE 0) 3)) : State), (0 : Unit24), (0 : BitVec 58),
      by decide +kernel, by decide +kernel⟩,
    ⟨((prog 0 (instrWords 0x38 (wordOf (0x30000000000000 : BitVec 58)) 0) (ready.set (ESC_STAT_STATE 0) 3)) : State), (0 : Unit24),
      (0x30000000000000 : BitVec 58), by decide +kernel, by decide +kernel⟩,
    ⟨((prog 0 (instrWords 0x38 (wordOf (0x10000000000000 : BitVec 58)) 0) (ready.set (ESC_STAT_STATE 0) 3)) : State), (0 : Unit24),
      (0x10000000000000 : BitVec 58), (0 : Rat), by decide +kernel, by decide +kernel, by decide +kernel⟩,
    ⟨((prog 0 (instrWords 0x38 (wordOf (0x20000000000000 : BitVec 58)) 0) (ready.set (ESC_STAT_STATE 0) 3)) : State), (0 : Unit24),
      (0x20000000000000 : BitVec 58), (0 : Rat), by decide +kernel, by decide +kernel, by decide +kernel⟩,
    ⟨((prog 0 (instrWords 0x38 (wordOf (0x40000000000000 : BitVec 58)) 0) (ready.set (ESC_STAT_STATE 0) 3)) : State), (0 : Unit24),
      (0x40000000000000 : BitVec 58), (0 : Rat), by decide +kernel, by decide +kernel, by decide +kernel⟩⟩
theorem witness_CalibreMoveAndMemoryInstructions :
    (∃ (s : State) (n : Unit24) (b : BitVec 58), s.restful = true ∧
      s.goes n.val (instrWords 0x30 (wordOf b) 0) (isLong (wordOf b) || dirty (wordOf b) 55 52 || dirty (wordOf b) 46 32 || (bit (wordOf b) 56 && decide (8 ≤ bits (wordOf b) 51 47))) = true) ∧
    (∃ (s : State) (n : Unit24) (b : BitVec 58) (v : Nat) (t : State) (u : State),
      s.goes n.val (instrWords 0x33 (wordOf b) 0) (isLong (wordOf b) || bit (wordOf b) 56 || dirty (wordOf b) 39 0 || !movSource (bits (wordOf b) 47 40) || !movDest (bits (wordOf b) 55 48)) = true ∧
      (s.advanced n.val (instrWords 0x33 (wordOf b) 0)).movRead n.val (bits (wordOf b) 47 40) = some (v, t) ∧
      t.movWrite n.val (bits (wordOf b) 55 48) v = some u ∧ (u.esc n.val).stepping = false) ∧
    (∃ (s : State) (n : Unit24) (b : BitVec 58), s.restful = true ∧
      s.goes n.val (instrWords 0x33 (wordOf b) 0) (isLong (wordOf b) || bit (wordOf b) 56 || dirty (wordOf b) 39 0 || !movSource (bits (wordOf b) 47 40) || !movDest (bits (wordOf b) 55 48)) = true ∧
      bits (wordOf b) 47 40 < 0x20 ∧ bits (wordOf b) 55 48 < 0x20) ∧
    (∃ (s : State) (n : Unit24) (b : BitVec 58), s.restful = true ∧
      s.goes n.val (instrWords 0x20 (wordOf b) 0) (isLong (wordOf b) || dirty (wordOf b) 56 53 || decide (8 ≤ bits (wordOf b) 52 48) || dirty (wordOf b) 47 47 || dirty (wordOf b) 36 0) = true ∧
      inPc24 (sgn 32 (s.g n.val (bits (wordOf b) 46 42))) = true ∧ inPc24 (sgn 32 (s.g n.val (bits (wordOf b) 41 37))) = true) ∧
    (∃ (s : State) (n : Unit24) (b : BitVec 58) (w1 : BitVec 64),
      s.goes n.val (instrWords 0x31 (wordOf b) w1.toNat) (memIllegal (wordOf b) w1.toNat) = true ∧
      (s.advanced n.val (instrWords 0x31 (wordOf b) w1.toNat)).dataAddr n.val (wordOf b) w1.toNat % 4 = 0) ∧
    (∃ (s : State) (n : Unit24) (b : BitVec 58) (w1 : BitVec 64),
      s.goes n.val (instrWords 0x32 (wordOf b) w1.toNat) (memIllegal (wordOf b) w1.toNat) = true ∧
      (s.advanced n.val (instrWords 0x32 (wordOf b) w1.toNat)).dataAddr n.val (wordOf b) w1.toNat % 4 = 0 ∧ (s.esc n.val).stores.length < 8) ∧
    (∃ (s : State) (n : Unit24) (b : BitVec 58) (w1 : BitVec 64),
      s.goes n.val (instrWords 0x31 (wordOf b) w1.toNat) (memIllegal (wordOf b) w1.toNat) = true ∧
      (s.advanced n.val (instrWords 0x31 (wordOf b) w1.toNat)).dataAddr n.val (wordOf b) w1.toNat % 4 ≠ 0) :=
  ⟨⟨((prog 0 (instrWords 0x30 (wordOf (0 : BitVec 58)) 0) (ready.set (ESC_STAT_STATE 0) 3)) : State), (0 : Unit24), (0 : BitVec 58),
      by decide +kernel, by decide +kernel⟩,
    ⟨((prog 0 (instrWords 0x33 (wordOf (0 : BitVec 58)) 0) (ready.set (ESC_STAT_STATE 0) 3)) : State), (0 : Unit24), (0 : BitVec 58), _,
      _, _, by decide +kernel, rfl, rfl, by decide +kernel⟩,
    ⟨((prog 0 (instrWords 0x33 (wordOf (0 : BitVec 58)) 0) (ready.set (ESC_STAT_STATE 0) 3)) : State), (0 : Unit24), (0 : BitVec 58),
      by decide +kernel, by decide +kernel, by decide +kernel, by decide +kernel⟩,
    ⟨((prog 0 (instrWords 0x20 (wordOf (0 : BitVec 58)) 0) (ready.set (ESC_STAT_STATE 0) 3)) : State), (0 : Unit24), (0 : BitVec 58),
      by decide +kernel, by decide +kernel, by decide +kernel, by decide +kernel⟩,
    ⟨((prog 0 (instrWords 0x31 (wordOf (0 : BitVec 58)) (0 : BitVec 64).toNat) (ready.set (ESC_STAT_STATE 0) 3)) : State), (0 : Unit24),
      (0 : BitVec 58), (0 : BitVec 64), by decide +kernel, by decide +kernel⟩,
    ⟨((prog 0 (instrWords 0x32 (wordOf (0 : BitVec 58)) (0 : BitVec 64).toNat) (ready.set (ESC_STAT_STATE 0) 3)) : State), (0 : Unit24),
      (0 : BitVec 58), (0 : BitVec 64), by decide +kernel, by decide +kernel, by decide +kernel⟩,
    ⟨((prog 0 (instrWords 0x31 (wordOf (0x200000000000000 : BitVec 58)) (2 : BitVec 64).toNat) (ready.set (ESC_STAT_STATE 0) 3)) : State),
      (0 : Unit24), (0x200000000000000 : BitVec 58), (2 : BitVec 64), by decide +kernel, by decide +kernel⟩⟩
theorem witness_CalibreControlInstructions :
    (∃ (s : State) (n : Unit24) (b : BitVec 58) (a : Nat), s.restful = true ∧
      s.goes n.val (instrWords 0x28 (wordOf b) 0) (branchIllegal (wordOf b) false) = true ∧
      (s.advanced n.val (instrWords 0x28 (wordOf b) 0)).branchTarget n.val (s.pc n.val) (wordOf b) = .ok a) ∧
    (∃ (w : Nat), bit w 56 = false) ∧
    (∃ (s : State) (n : Unit24) (b : BitVec 58) (a : Nat), s.restful = true ∧
      s.goes n.val (instrWords 0x29 (wordOf b) 0) (branchIllegal (wordOf b) true) = true ∧
      (s.advanced n.val (instrWords 0x29 (wordOf b) 0)).branchTarget n.val (s.pc n.val) (wordOf b) = .ok a ∧
      s.get (ESC_SW_DEPTH n.val) < 16) ∧
    (∃ (s : State) (n : Unit24) (b : BitVec 58) (a : Nat),
      s.goes n.val (instrWords 0x29 (wordOf b) 0) (branchIllegal (wordOf b) true) = true ∧
      (s.advanced n.val (instrWords 0x29 (wordOf b) 0)).branchTarget n.val (s.pc n.val) (wordOf b) = .ok a ∧
      16 ≤ s.get (ESC_SW_DEPTH n.val)) ∧
    (∃ (s : State) (n : Unit24) (b : BitVec 58) (d : Nat), s.restful = true ∧
      s.goes n.val (instrWords 0x2A (wordOf b) 0) (dirty (wordOf b) 57 0) = true ∧ s.get (ESC_SW_DEPTH n.val) = d + 1) ∧
    (∃ (s : State) (n : Unit24) (b : BitVec 58), s.restful = true ∧
      s.goes n.val (instrWords 0x2B (wordOf b) 0) (isLong (wordOf b) || dirty (wordOf b) 56 47 || dirty (wordOf b) 41 32) = true ∧
      bits (wordOf b) 46 42 ≠ 0) :=
  ⟨⟨((prog 0 (instrWords 0x28 (wordOf (0 : BitVec 58)) 0) (ready.set (ESC_STAT_STATE 0) 3)) : State), (0 : Unit24), (0 : BitVec 58), _,
      by decide +kernel, by decide +kernel, rfl⟩,
    ⟨(0 : Nat), by decide +kernel⟩,
    ⟨((prog 0 (instrWords 0x29 (wordOf (0 : BitVec 58)) 0) (ready.set (ESC_STAT_STATE 0) 3)) : State), (0 : Unit24), (0 : BitVec 58), _,
      by decide +kernel, by decide +kernel, rfl, by decide +kernel⟩,
    ⟨((prog 0 (instrWords 0x29 (wordOf (0 : BitVec 58)) 0) ((ready.set (ESC_STAT_STATE 0) 3).set (ESC_SW_DEPTH 0) 16)) : State),
      (0 : Unit24), (0 : BitVec 58), _, by decide +kernel, rfl, by decide +kernel⟩,
    ⟨((prog 0 (instrWords 0x2A (wordOf (0 : BitVec 58)) 0) ((ready.set (ESC_STAT_STATE 0) 3).set (ESC_SW_DEPTH 0) 1)) : State),
      (0 : Unit24), (0 : BitVec 58), (0 : Nat), by decide +kernel, by decide +kernel, by decide +kernel⟩,
    ⟨((prog 0 (instrWords 0x2B (wordOf (0x40000000000 : BitVec 58)) 0) (ready.set (ESC_STAT_STATE 0) 3)) : State), (0 : Unit24),
      (0x40000000000 : BitVec 58), by decide +kernel, by decide +kernel, by decide +kernel⟩⟩
theorem witness_CalibreMotionInstructions :
    (∃ (s : State) (n : Unit24) (b : BitVec 58) (w1 : BitVec 64) (x : Int) (y : Int) (z : Int),
      s.goes n.val (instrWords 0x01 (wordOf b) w1.toNat) (moveIllegal true (wordOf b) w1.toNat) = true ∧
      s.flag (ESC_SW_PV n.val) = true ∧ ((if bit (wordOf b) 50 then bits w1.toNat 23 0 else (s.esc n.val).set.vMark) ≠ 0) ∧
      (s.advanced n.val (instrWords 0x01 (wordOf b) w1.toNat)).moveTarget n.val (wordOf b) w1.toNat = some (x, y, z) ∧ (x, y,
      z) ≠ (s.advanced n.val (instrWords 0x01 (wordOf b) w1.toNat)).pxyz n.val ∧ (s.esc n.val).queue.length < 64) ∧
    (∃ (s : State) (n : Unit24) (b : BitVec 58) (w1 : BitVec 64) (x : Int) (y : Int) (z : Int),
      s.goes n.val (instrWords 0x02 (wordOf b) w1.toNat) (moveIllegal false (wordOf b) w1.toNat) = true ∧
      s.flag (ESC_SW_PV n.val) = true ∧
      (s.advanced n.val (instrWords 0x02 (wordOf b) w1.toNat)).moveTarget n.val (wordOf b) w1.toNat = some (x, y, z) ∧ (x, y,
      z) ≠ (s.advanced n.val (instrWords 0x02 (wordOf b) w1.toNat)).pxyz n.val ∧ (s.esc n.val).queue.length < 64) ∧
    (∃ (s : State) (n : Unit24) (b : BitVec 58), s.restful = true ∧
      s.goes n.val (instrWords 0x06 (wordOf b) 0) (isLong (wordOf b) || (bits (wordOf b) 56 55 == 3 || dirty (wordOf b) 54 48 || dirty (wordOf b) 7 0)) = true ∧
      bits (wordOf b) 15 8 ≤ 180) ∧
    (∃ (s : State) (n : Unit24) (b : BitVec 58), s.restful = true ∧
      s.goes n.val (instrWords 0x12 (wordOf b) 0) (isLong (wordOf b) || (dirty (wordOf b) 54 48 || dirty (wordOf b) 15 0 || (bits (wordOf b) 56 55 == 0 && (bits (wordOf b) 47 32 != 0 || bits (wordOf b) 31 16 != 0)))) = true ∧
      (bits (wordOf b) 56 55 = 0 ∨ (bits (wordOf b) 47 32 ≠ 0 ∧ bits (wordOf b) 31 16 ≠ 0 ∧ bits (wordOf b) 31 16 ≤ 5000))) ∧
    (∃ (s : State) (n : Unit24) (b : BitVec 58), s.restful = true ∧
      s.goes n.val (instrWords 0x13 (wordOf b) 0) (isLong (wordOf b) || dirty (wordOf b) 56 48) = true) ∧
    (∃ (s : State) (n : Unit24) (b : BitVec 58), s.restful = true ∧
      s.goes n.val (instrWords 0x24 (wordOf b) 0) (isLong (wordOf b) || dirty (wordOf b) 55 32) = true) ∧
    (∃ (s : State) (n : Unit24) (b : BitVec 58), s.restful = true ∧
      s.goes n.val (instrWords 0x25 (wordOf b) 0) (isLong (wordOf b) || dirty (wordOf b) 56 32) = true) ∧
    (∃ (s : State) (n : Unit24) (b : BitVec 58), s.restful = true ∧
      (s.goes n.val (instrWords 0x10 (wordOf b) 0) (isLong (wordOf b) || bits (wordOf b) 55 54 == 3 || dirty (wordOf b) 53 48 || dirty (wordOf b) 31 29 || (if bit (wordOf b) 56 then dirty (wordOf b) 47 32 else dirty (wordOf b) 28 24)) = true) ∧
      ((if bit (wordOf b) 56 then s.g n.val (bits (wordOf b) 28 24) else bits (wordOf b) 47 32) < 65536)) ∧
    (∃ (s : State) (n : Unit24) (b : BitVec 58) (w1 : BitVec 64) (px : Int) (py : Int) (pz : Int) (c0 : Int) (d0 : Int) (cx : Int) (cy : Int),
      s.goes n.val (instrWords 0x03 (wordOf b) w1.toNat) (arcIllegal (wordOf b) w1.toNat) = true ∧ s.flag (ESC_SW_PV n.val) = true ∧
      (s.advanced n.val (instrWords 0x03 (wordOf b) w1.toNat)).pxyz n.val = (px, py, pz) ∧
      (c0 = if bit (wordOf b) 55 then sgn 32 (s.g n.val (bits (wordOf b) 28 24)) else pc24 (wordOf b) 47 24) ∧
      (d0 = if bit (wordOf b) 55 then sgn 32 (s.g n.val (bits (wordOf b) 4 0)) else pc24 (wordOf b) 23 0) ∧
      (cx = if bit (wordOf b) 56 then px + c0 else c0) ∧ (cy = if bit (wordOf b) 56 then py + d0 else d0) ∧
      sgn 32 (bits w1.toNat 63 32) ≠ 0 ∧ 400 ≤ (px - cx) * (px - cx) + (py - cy) * (py - cy) ∧
      ((if bit (wordOf b) 50 then some (bits w1.toNat 31 8) else none : Option Nat).getD (s.esc n.val).set.vMark ≠ 0) ∧
      (s.esc n.val).queue.length < 64 ∧
      (inPc24 c0 && inPc24 d0 && inPc24 cx && inPc24 cy && arcInside px py cx cy (sgn 32 (bits w1.toNat 63 32)) (roundAway (arcEnd px py cx cy (sgn 32 (bits w1.toNat 63 32))).1) (roundAway (arcEnd px py cx cy (sgn 32 (bits w1.toNat 63 32))).2)) = true) ∧
    (∃ (s : State) (n : Unit24) (b : BitVec 58) (w1 : BitVec 64) (px : Int) (py : Int) (pz : Int) (ox : Int) (oy : Int) (p1x : Int) (p1y : Int),
      s.goes n.val (instrWords 0x04 (wordOf b) w1.toNat) (splnIllegal (wordOf b) w1.toNat) = true ∧ s.flag (ESC_SW_PV n.val) = true ∧
      (s.advanced n.val (instrWords 0x04 (wordOf b) w1.toNat)).pxyz n.val = (px, py, pz) ∧ (ox = if bit (wordOf b) 56 then px else 0) ∧
      (oy = if bit (wordOf b) 56 then py else 0) ∧ ((bit (wordOf b) 55 = true ∧ ∃ x y, (s.esc n.val).lastP2 = some (x, y) ∧
      p1x = 2 * px - x ∧ p1y = 2 * py - y) ∨ (bit (wordOf b) 55 = true ∧ (s.esc n.val).lastP2 = none ∧ p1x = px ∧
      p1y = py) ∨ (bit (wordOf b) 55 = false ∧ p1x = ox + sgn 32 (s.g n.val (bits w1.toNat 15 11)) ∧
      p1y = oy + sgn 32 (s.g n.val (bits w1.toNat 10 6)))) ∧ (s.esc n.val).set.vMark ≠ 0 ∧ (s.esc n.val).queue.length < 64 ∧
      (inPc24 p1x && inPc24 p1y && inPc24 (ox + pc24 w1.toNat 63 40) && inPc24 (oy + pc24 w1.toNat 39 16) && inPc24 (ox + pc24 (wordOf b) 47 24) && inPc24 (oy + pc24 (wordOf b) 23 0)) = true) ∧
    (∃ (s : State) (n : Unit24) (b : BitVec 58) (w1 : BitVec 64) (k : Nat),
      s.goes n.val (instrWords 0x05 (wordOf b) w1.toNat) (dirty (wordOf b) 55 24 || (isLong (wordOf b) && (dirty (wordOf b) 23 0 || dirty w1.toNat 63 48))) = true ∧
      (k = if isLong (wordOf b) then bits w1.toNat 47 0 else bits (wordOf b) 23 0) ∧ s.flag (ESC_SW_PV n.val) = true ∧ k ≠ 0 ∧
      (s.esc n.val).queue.length < 64) ∧
    (∃ (s : State) (n : Unit24) (b : BitVec 58), s.restful = true ∧
      s.goes n.val (instrWords 0x11 (wordOf b) 0) (isLong (wordOf b) || dirty (wordOf b) 56 48) = true) ∧
    (∃ (t : State) (n : Nat) (vm : Nat) (vj : Nat), vm ≤ max 1 (t.live (TRJ_VMARK_VMAX n)) ∧ vj ≤ max 1 (t.live (TRJ_VJUMP_VMAX n)) ∧
      vm ≠ 0 ∧ vj ≠ 0) ∧
    (∃ (s : State) (n : Unit24) (b : BitVec 58), s.restful = true ∧
      s.goes n.val (instrWords 0x1D (wordOf b) 0) (isLong (wordOf b) || dirty (wordOf b) 55 48 || dirty (wordOf b) 35 0 || (bit (wordOf b) 56 && bits (wordOf b) 47 36 != 0)) = true ∧
      bit (wordOf b) 56 = false ∧ (s.advanced n.val (instrWords 0x1D (wordOf b) 0)).zoneDefined (bits (wordOf b) 47 36) n.val = true ∧
      (s.advanced n.val (instrWords 0x1D (wordOf b) 0)).dry = false ∧
      (s.advanced n.val (instrWords 0x1D (wordOf b) 0)).zoneOwner (bits (wordOf b) 47 36) = some n.val) :=
  ⟨⟨((prog 0 (instrWords 0x01 (wordOf (0x204000000000005 : BitVec 58)) (500000 : BitVec 64).toNat) ((ready.set (ESC_STAT_STATE 0) 3).set (ESC_SW_PV 0) 1)) : State),
      (0 : Unit24), (0x204000000000005 : BitVec 58), (500000 : BitVec 64), (0 : Int), (5 : Int), (0 : Int), by decide +kernel,
      by decide +kernel, by decide +kernel, by decide +kernel, by decide +kernel, by decide +kernel⟩,
    ⟨((prog 0 (instrWords 0x02 (wordOf (0x200000000000005 : BitVec 58)) (0 : BitVec 64).toNat) ((ready.set (ESC_STAT_STATE 0) 3).set (ESC_SW_PV 0) 1)) : State),
      (0 : Unit24), (0x200000000000005 : BitVec 58), (0 : BitVec 64), (0 : Int), (5 : Int), (0 : Int), by decide +kernel,
      by decide +kernel, by decide +kernel, by decide +kernel, by decide +kernel⟩,
    ⟨((prog 0 (instrWords 0x06 (wordOf (0 : BitVec 58)) 0) (ready.set (ESC_STAT_STATE 0) 3)) : State), (0 : Unit24), (0 : BitVec 58),
      by decide +kernel, by decide +kernel, by decide +kernel⟩,
    ⟨((prog 0 (instrWords 0x12 (wordOf (0 : BitVec 58)) 0) (ready.set (ESC_STAT_STATE 0) 3)) : State), (0 : Unit24), (0 : BitVec 58),
      by decide +kernel, by decide +kernel, by decide +kernel⟩,
    ⟨((prog 0 (instrWords 0x13 (wordOf (0 : BitVec 58)) 0) (ready.set (ESC_STAT_STATE 0) 3)) : State), (0 : Unit24), (0 : BitVec 58),
      by decide +kernel, by decide +kernel⟩,
    ⟨((prog 0 (instrWords 0x24 (wordOf (0 : BitVec 58)) 0) (ready.set (ESC_STAT_STATE 0) 3)) : State), (0 : Unit24), (0 : BitVec 58),
      by decide +kernel, by decide +kernel⟩,
    ⟨((prog 0 (instrWords 0x25 (wordOf (0 : BitVec 58)) 0) (ready.set (ESC_STAT_STATE 0) 3)) : State), (0 : Unit24), (0 : BitVec 58),
      by decide +kernel, by decide +kernel⟩,
    ⟨((prog 0 (instrWords 0x10 (wordOf (0 : BitVec 58)) 0) (ready.set (ESC_STAT_STATE 0) 3)) : State), (0 : Unit24), (0 : BitVec 58),
      by decide +kernel, by decide +kernel, by decide +kernel⟩,
    ⟨((prog 0 (instrWords 0x03 (wordOf (0x204000000000064 : BitVec 58)) (0x3e807a12000 : BitVec 64).toNat) ((ready.set (ESC_STAT_STATE 0) 3).set (ESC_SW_PV 0) 1)) : State),
      (0 : Unit24), (0x204000000000064 : BitVec 58), (0x3e807a12000 : BitVec 64), _, (0 : Int), (0 : Int), _, _, _, _, by decide +kernel,
      by decide +kernel, rfl, rfl, rfl, rfl, rfl, by decide +kernel, by decide +kernel, by decide +kernel, by decide +kernel,
      by decide +kernel⟩,
    ⟨((prog 0 (instrWords 0x04 (wordOf (0x200000000000064 : BitVec 58)) (0x50000070000 : BitVec 64).toNat) (State.setEsc ((ready.set (ESC_STAT_STATE 0) 3).set (ESC_SW_PV 0) 1) 0 { set := { vMark := 500000 } })) : State),
      (0 : Unit24), (0x200000000000064 : BitVec 58), (0x50000070000 : BitVec 64), _, (0 : Int), (0 : Int), _, _, _, _, by decide +kernel,
      by decide +kernel, rfl, rfl, rfl, .inr (.inr ⟨by decide +kernel, rfl, rfl⟩), by decide +kernel, by decide +kernel, by decide +kernel⟩,
    ⟨((prog 0 (instrWords 0x05 (wordOf (7 : BitVec 58)) (0 : BitVec 64).toNat) ((ready.set (ESC_STAT_STATE 0) 3).set (ESC_SW_PV 0) 1)) : State),
      (0 : Unit24), (7 : BitVec 58), (0 : BitVec 64), _, by decide +kernel, rfl, by decide +kernel, by decide +kernel, by decide +kernel⟩,
    ⟨((prog 0 (instrWords 0x11 (wordOf (0 : BitVec 58)) 0) (ready.set (ESC_STAT_STATE 0) 3)) : State), (0 : Unit24), (0 : BitVec 58),
      by decide +kernel, by decide +kernel⟩,
    ⟨({  } : State), (0 : Nat), (1 : Nat), (1 : Nat), by decide +kernel, by decide +kernel, by decide +kernel, by decide +kernel⟩,
    ⟨((prog 0 (instrWords 0x1D (wordOf (0 : BitVec 58)) 0) (((((((ready.set (ESC_STAT_STATE 0) 3).set SYS_MODE_STAT_MODE mExpose).set (BRG_ZOWN_OWNED 0) 1).set (BRG_ZCTL_EN 0) 1).set (BRG_ZCTL_EN 0).copy 1).set (BRG_ZCTL_MEMBERS 0) 1).set (BRG_ZCTL_MEMBERS 0).copy 1)) : State),
      (0 : Unit24), (0 : BitVec 58), by decide +kernel, by decide +kernel, by decide +kernel, by decide +kernel, by decide +kernel,
      by decide +kernel⟩⟩
theorem witness_CalibreWaitInstructions :
    (∃ (s : State) (n : Unit24) (b : BitVec 58) (w1 : BitVec 64), s.restful = true ∧
      (s.goes n.val (instrWords 0x18 (wordOf b) w1.toNat) (dirty (wordOf b) 55 24 || (if isLong (wordOf b) then dirty (wordOf b) 23 0 || dirty w1.toNat 63 48 else bit (wordOf b) 56)) = true)) ∧
    (∃ (s : State) (n : Unit24) (b : BitVec 58), s.restful = true ∧
      s.goes n.val (instrWords 0x19 (wordOf b) 0) (isLong (wordOf b) || dirty (wordOf b) 51 24) = true ∧
      (((s.advanced n.val (instrWords 0x19 (wordOf b) 0)).barMembers (if bit (wordOf b) 56 then 16 + bits (wordOf b) 55 52 else bits (wordOf b) 55 52)).testBit n.val = true)) ∧
    (∃ (s : State) (n : Unit24) (b : BitVec 58) (w1 : BitVec 64), s.restful = true ∧
      s.goes n.val (instrWords 0x1A (wordOf b) w1.toNat) (dirty (wordOf b) 54 48 || dirty (wordOf b) 31 24 || (isLong (wordOf b) && (dirty (wordOf b) 23 0 || dirty w1.toNat 63 48))) = true ∧
      bits (wordOf b) 47 32 ≠ 0) ∧
    (∃ (s : State) (n : Unit24) (b : BitVec 58), s.restful = true ∧
      s.goes n.val (instrWords 0x1C (wordOf b) 0) (isLong (wordOf b) || dirty (wordOf b) 55 48 || dirty (wordOf b) 35 24 || (!bit (wordOf b) 56 && dirty (wordOf b) 23 0)) = true ∧
      (s.advanced n.val (instrWords 0x1C (wordOf b) 0)).zoneDefined (bits (wordOf b) 47 36) n.val = true) ∧
    (∃ (s : State) (n : Unit24) (b : BitVec 58), s.restful = true ∧
      s.goes n.val (instrWords 0x1E (wordOf b) 0) (isLong (wordOf b) || dirty (wordOf b) 56 53 || dirty (wordOf b) 35 0) = true ∧
      (s.advanced n.val (instrWords 0x1E (wordOf b) 0)).flag (ESC_SW_PV n.val) = true ∧
      (s.advanced n.val (instrWords 0x1E (wordOf b) 0)).poolDefined (bits (wordOf b) 47 36) n.val = true) ∧
    (∃ (s : State) (n : Unit24) (b : BitVec 58), s.restful = true ∧
      s.goes n.val (instrWords 0x2C (wordOf b) 0) (isLong (wordOf b) || dirty (wordOf b) 56 16) = true) ∧
    (∃ (s : State) (n : Unit24) (b : BitVec 58), s.restful = true ∧
      s.goes n.val (instrWords 0x2D (wordOf b) 0) (isLong (wordOf b) || dirty (wordOf b) 55 16) = true ∧ bit (wordOf b) 56 = false) ∧
    (∃ (s : State) (n : Unit24) (w : Wait) (a : Bool) (k : Nat), s.restful = true ∧ (s.esc n.val).wait = some w ∧ w.kind = .waitt a k ∧
      w.drained = true ∧ s.escState n.val = 4 ∧ (if a then k ≤ s.lbeat else w.since + k ≤ s.beat)) ∧
    (∃ (s : State) (n : Unit24) (w : Wait) (a : Bool) (c : Bool) (m : Nat) (t : Nat), s.restful = true ∧ (s.esc n.val).wait = some w ∧
      w.kind = .await a c m t ∧ w.drained = true ∧ s.escState n.val = 4 ∧ t ≠ 0 ∧ w.since + t ≤ s.beat) ∧
    (∃ (s : State) (n : Unit24) (w : Wait) (z : Nat) (t : Nat), s.restful = true ∧ (s.esc n.val).wait = some w ∧
      w.kind = .claim true z t ∧ w.drained = true ∧ s.escState n.val = 4 ∧ t ≠ 0 ∧ w.since + t ≤ s.beat) ∧
    (∃ (s : State) (n : Unit24) (w : Wait) (c : Nat), (s.esc n.val).wait = some w ∧ w.kind = .halt c ∧ w.drained = true ∧
      s.escState n.val = 4 ∧ (s.esc n.val).stores = []) :=
  ⟨⟨((prog 0 (instrWords 0x18 (wordOf (0 : BitVec 58)) (0 : BitVec 64).toNat) (ready.set (ESC_STAT_STATE 0) 3)) : State), (0 : Unit24),
      (0 : BitVec 58), (0 : BitVec 64), by decide +kernel, by decide +kernel⟩,
    ⟨((prog 0 (instrWords 0x19 (wordOf (0 : BitVec 58)) 0) ((ready.set (ESC_STAT_STATE 0) 3).set (ESC_DGRP_MEMBERS 0) 1)) : State),
      (0 : Unit24), (0 : BitVec 58), by decide +kernel, by decide +kernel, by decide +kernel⟩,
    ⟨((prog 0 (instrWords 0x1A (wordOf (0x100000000 : BitVec 58)) (0 : BitVec 64).toNat) (ready.set (ESC_STAT_STATE 0) 3)) : State),
      (0 : Unit24), (0x100000000 : BitVec 58), (0 : BitVec 64), by decide +kernel, by decide +kernel, by decide +kernel⟩,
    ⟨((prog 0 (instrWords 0x1C (wordOf (0 : BitVec 58)) 0) (((((ready.set (ESC_STAT_STATE 0) 3).set (BRG_ZCTL_EN 0) 1).set (BRG_ZCTL_EN 0).copy 1).set (BRG_ZCTL_MEMBERS 0) 1).set (BRG_ZCTL_MEMBERS 0).copy 1)) : State),
      (0 : Unit24), (0 : BitVec 58), by decide +kernel, by decide +kernel, by decide +kernel⟩,
    ⟨((prog 0 (instrWords 0x1E (wordOf (0 : BitVec 58)) 0) ((((((ready.set (ESC_STAT_STATE 0) 3).set (ESC_SW_PV 0) 1).set (BRG_PCFG_EN 0) 1).set (BRG_PCFG_EN 0).copy 1).set (BRG_PELIG_ELIG 0) 1).set (BRG_PELIG_ELIG 0).copy 1)) : State),
      (0 : Unit24), (0 : BitVec 58), by decide +kernel, by decide +kernel, by decide +kernel, by decide +kernel⟩,
    ⟨((prog 0 (instrWords 0x2C (wordOf (0 : BitVec 58)) 0) (ready.set (ESC_STAT_STATE 0) 3)) : State), (0 : Unit24), (0 : BitVec 58),
      by decide +kernel, by decide +kernel⟩,
    ⟨((prog 0 (instrWords 0x2D (wordOf (0 : BitVec 58)) 0) (ready.set (ESC_STAT_STATE 0) 3)) : State), (0 : Unit24), (0 : BitVec 58),
      by decide +kernel, by decide +kernel, by decide +kernel⟩,
    ⟨((State.setEsc (ready.set (ESC_STAT_STATE 0) 4) 0 { wait := some ({ kind := .waitt (false : Bool) (0 : Nat), drained := true, pc := 0, word := 0, len := 0 } : Wait) }) : State),
      (0 : Unit24), ({ kind := .waitt (false : Bool) (0 : Nat), drained := true, pc := 0, word := 0, len := 0 } : Wait), (false : Bool),
      (0 : Nat), by decide +kernel, by decide +kernel, by decide +kernel, by decide +kernel, by decide +kernel, by decide +kernel⟩,
    ⟨((State.setEsc (ready.set (ESC_STAT_STATE 0) 4) 0 { wait := some ({ kind := .await (false : Bool) (false : Bool) (0 : Nat) (1 : Nat), drained := true, pc := 0, word := 0, len := 0 } : Wait) }) : State),
      (0 : Unit24),
      ({ kind := .await (false : Bool) (false : Bool) (0 : Nat) (1 : Nat), drained := true, pc := 0, word := 0, len := 0 } : Wait),
      (false : Bool), (false : Bool), (0 : Nat), (1 : Nat), by decide +kernel, by decide +kernel, by decide +kernel, by decide +kernel,
      by decide +kernel, by decide +kernel, by decide +kernel⟩,
    ⟨((State.setEsc (ready.set (ESC_STAT_STATE 0) 4) 0 { wait := some ({ kind := .claim true (0 : Nat) (1 : Nat), drained := true, pc := 0, word := 0, len := 0 } : Wait) }) : State),
      (0 : Unit24), ({ kind := .claim true (0 : Nat) (1 : Nat), drained := true, pc := 0, word := 0, len := 0 } : Wait), (0 : Nat),
      (1 : Nat), by decide +kernel, by decide +kernel, by decide +kernel, by decide +kernel, by decide +kernel, by decide +kernel,
      by decide +kernel⟩,
    ⟨((State.setEsc (ready.set (ESC_STAT_STATE 0) 4) 0 { wait := some ({ kind := .halt (0 : Nat), drained := true, pc := 0, word := 0, len := 0 } : Wait), stores := [] }) : State),
      (0 : Unit24), ({ kind := .halt (0 : Nat), drained := true, pc := 0, word := 0, len := 0 } : Wait), (0 : Nat), by decide +kernel,
      by decide +kernel, by decide +kernel, by decide +kernel, by decide +kernel⟩⟩
theorem witness_CalibrationCommands :
    (∃ (s : State), s.restful = true ∧ s.calLive = true) ∧
    (∃ (s : State), s.calLive = true ∧ 2 ≤ s.cal.rextBad) ∧
    (∃ (s : State) (k : Nat) (u : Nat), s.restful = true ∧ s.calLive = true ∧ s.cal.running = none ∧ s.mode.trans = none ∧
      (firstStep (s.modeCode == mExpose) ((s.begin.calGap.calPass.cal.pass.getD []).filter (fun c => s.begin.calGap.calPass.stepAllowed c.1 c.2 && !s.begin.calGap.calPass.cal.tried.contains c)) = some (k,
      u))) ∧
    (∃ (s : State) (k : Nat) (u : Nat) (b : Nat) (codes : List Int), s.calLive = true ∧ s.cal.running = some (k, u, b) ∧ k ≠ 3 ∧
      codes.length = (stepTrims k u).length ∧ (codes.any (fun c => decide (c < 0) || decide (255 < c)) = false) ∧
      ((((((stepTrims k u).zip codes).foldl (fun (t : State) (p : Nat × Int) => t.setTrim p.1 p.2.toNat) s.begin).cal.pass.getD []).filter (fun c => c != (k,
      u))).isEmpty = false)) ∧
    (∃ (s : State) (k : Nat) (u : Nat) (b : Nat), s.restful = true ∧ s.calLive = true ∧ s.cal.running = some (k, u, b) ∧
      b + max 1 (s.get CAL_CTL_TOMUL) * stepBeats_ k < s.beat) ∧
    (∃ (s : State), s.restful = true ∧ s.calLive = true ∧ s.cal.save = none) ∧
    (∃ (s : State) (g : Nat) (r : List Byte), s.calLive = true ∧ s.cal.save = some (g, r)) ∧
    (∃ (s : State), s.restful = true ∧ s.calLive = true) :=
  ⟨⟨(ready : State), by decide +kernel, by decide +kernel⟩,
    ⟨({ ready with cal.rextBad := 2 } : State), by decide +kernel, by decide +kernel⟩,
    ⟨({ ready with cal.running := none, mode.trans := none } : State), (0 : Nat), (0 : Nat), by decide +kernel, by decide +kernel,
      by decide +kernel, by decide +kernel, by decide +kernel⟩,
    ⟨({ ready with cal.running := some ((0 : Nat), (0 : Nat), (0 : Nat)), cal.pass := some [(1, 0)] } : State), (0 : Nat), (0 : Nat),
      (0 : Nat), ([0, 0, 0] : List Int), by decide +kernel, by decide +kernel, by decide +kernel, by decide +kernel, by decide +kernel,
      by decide +kernel⟩,
    ⟨({ ready with cal.running := some ((0 : Nat), (0 : Nat), (0 : Nat)) } : State), (0 : Nat), (0 : Nat), (0 : Nat), by decide +kernel,
      by decide +kernel, by decide +kernel, by decide +kernel⟩,
    ⟨({ ready with cal.save := none } : State), by decide +kernel, by decide +kernel, by decide +kernel⟩,
    ⟨({ ready with cal.save := some ((0 : Nat), ([] : List Byte)) } : State), (0 : Nat), ([] : List Byte), by decide +kernel,
      by decide +kernel⟩,
    ⟨(ready : State), by decide +kernel, by decide +kernel⟩⟩
set_option maxRecDepth 100000 in
theorem witness_LoadCommit :
    (∃ (s : State) (t : State) (u : State) (v : State), s.rst.phase = .loading ∧ s.rst.reach < 2 ∧ t = s.begin.trimCommit.chrUsable ∧
      t.flag SYS_OPT_WDTON = false ∧
      u = (({ t with rst := { t.rst with phase := .off, ballsIn := true, ballsFree := 0 }, host := { t.host with boot := .rom, copy := 1, image := none, coresRun := 1 } }).enterMode 1 0 0xFF).emit (.coreStart 0 0x20000F0000 0) ∧
      v = (u.record 0x0202 2 (u.peekReg 0x2000000208) (u.get CHR_TSET_RESET) false false false []).assertActive ∧ v.cal.missing = false) ∧
    (∃ (s : State) (t : State) (u : State) (v : State), s.rst.phase = .loading ∧ s.rst.reach = 3 ∧
      t = s.begin.trimCommit.chrUsable.incWrap NV_PWRCYC_COUNT ∧ t.flag SYS_OPT_WDTON = false ∧
      u = (({ t with rst := { t.rst with phase := .off, ballsIn := true, ballsFree := 0 }, host := { t.host with boot := .rom, copy := 1, image := none, coresRun := 1 } }).enterMode 1 0 0xFF).emit (.coreStart 0 0x20000F0000 0) ∧
      v = (u.record 0x0202 3 (u.peekReg 0x2000000208) (u.get CHR_TSET_RESET) false false false []).assertActive ∧ v.cal.missing = false) :=
  ⟨⟨(({ ready with rst.phase := .loading, nv := [(0, 0x24), (1, 0x52), (2, 0x54), (3, 0x43), (4, 1), (508, 0xF2), (509, 0x17), (510, 0x59), (511, 0x8B)] }.set SYS_OPT_WDTON 0) : State),
      _, _, _, by decide +kernel, by decide +kernel, rfl, by decide +kernel, rfl, rfl, by decide +kernel⟩,
    ⟨(({ ready with rst.phase := .loading, rst.reach := 3, nv := [(0, 0x24), (1, 0x52), (2, 0x54), (3, 0x43), (4, 1), (508, 0xF2), (509, 0x17), (510, 0x59), (511, 0x8B)] }.set SYS_OPT_WDTON 0) : State),
      _, _, _, by decide +kernel, by decide +kernel, rfl, by decide +kernel, rfl, rfl, by decide +kernel⟩⟩
theorem witness_FabricPortCommands :
    (∃ (s : State) (p : Fin 4), s.restful = true ∧ s.skLive = true ∧ s.get (SKZ_PSTAT_STATE p.val) = 1 ∧ s.rst.refbBad = false) ∧
    (∃ (s : State) (p : Fin 4), s.restful = true ∧ s.skLive = true ∧ s.get (SKZ_PSTAT_STATE p.val) = 1 ∧
      (s.skp p.val).since + 50 * beatsPerMs ≤ s.beat) ∧
    (∃ (s : State) (p : Fin 4), s.skLive = true ∧ s.portUp p.val = true ∧ s.flag (SKZ_PCTL_EN p.val) = true ∧ s.rst.refbBad = false) ∧
    (∃ (s : State) (p : Fin 4), s.restful = true ∧ s.skLive = true ∧ s.portUp p.val = false ∧ s.flag (SKZ_PCTL_EN p.val) = true ∧
      s.rst.refbBad = false) ∧
    (∃ (s : State) (p : Fin 4) (v : Word), s.restful = true ∧ s.skLive = true ∧ s.flag (SKZ_PCTL_EN p.val) = false ∧
      s.rst.refbBad = false ∧ bit (v.toNat ||| 1) 3 = false) ∧
    (∃ (s : State) (p : Fin 4), s.restful = true ∧ s.skLive = true ∧ s.portUp p.val = true ∧ (s.skp p.val).unacked ≠ [] ∧
      (s.skp p.val).replays + 1 < 16) ∧
    (∃ (s : State) (t : State) (p : Fin 4) (f : LinkHead), s.restful = true ∧ s.receives p.val f = true ∧ t = (s.begin.skArrive p.val f).1) ∧
    (∃ (s : State) (t : State) (p : Fin 4) (h : LinkHead), s.restful = true ∧ s.receives p.val h = true ∧
      t = (s.begin.skArrive p.val h).1 ∧ t.modeCode = mJoin) ∧
    (∃ (s : State), s.restful = true ∧ s.modeCode = mJoin ∧ s.skLive = true) :=
  ⟨⟨(({ ready with rst.refbBad := false }.set (SKZ_PSTAT_STATE 0) 1) : State), (0 : Fin 4), by decide +kernel, by decide +kernel,
      by decide +kernel, by decide +kernel⟩,
    ⟨((ready.set (SKZ_PSTAT_STATE 0) 1) : State), (0 : Fin 4), by decide +kernel, by decide +kernel, by decide +kernel, by decide +kernel⟩,
    ⟨((({ ready with rst.refbBad := false }.set (SKZ_PSTAT_STATE 0) 2).set (SKZ_PCTL_EN 0) 1) : State), (0 : Fin 4), by decide +kernel,
      by decide +kernel, by decide +kernel, by decide +kernel⟩,
    ⟨(({ ready with rst.refbBad := false }.set (SKZ_PCTL_EN 0) 1) : State), (0 : Fin 4), by decide +kernel, by decide +kernel,
      by decide +kernel, by decide +kernel, by decide +kernel⟩,
    ⟨(({ ready with rst.refbBad := false }.set (SKZ_PCTL_EN 0) 0) : State), (0 : Fin 4), (0 : Word), by decide +kernel,
      by decide +kernel, by decide +kernel, by decide +kernel, by decide +kernel⟩,
    ⟨((State.setSkp (ready.set (SKZ_PSTAT_STATE 0) 2) 0 { unacked := [(0, ⟨0, 1, 0, 0, 0, 0, 0, []⟩)] }) : State), (0 : Fin 4),
      by decide +kernel, by decide +kernel, by decide +kernel, by decide +kernel, by decide +kernel⟩,
    ⟨((ready.set (SKZ_PSTAT_STATE 0) 2) : State), _, (0 : Fin 4),
      ({ dst := 0, src := 0, hops := 0, lseq := 0, lack := 0, tag := 0, arg := 0, crcOk := true, fine := 0, corr := 0, lost := 0 } : LinkHead),
      by decide +kernel, by decide +kernel, rfl⟩,
    ⟨(((ready.set (SKZ_PSTAT_STATE 0) 2).set SYS_MODE_STAT_MODE mJoin) : State), _, (0 : Fin 4),
      ({ dst := 0, src := 0, hops := 0, lseq := 0, lack := 0, tag := 0, arg := 0, crcOk := true, fine := 0, corr := 0, lost := 0 } : LinkHead),
      by decide +kernel, by decide +kernel, rfl, by decide +kernel⟩,
    ⟨((ready.set SYS_MODE_STAT_MODE mJoin) : State), by decide +kernel, by decide +kernel, by decide +kernel⟩⟩
theorem witness_FabricJoinCommands :
    (∃ (s : State) (t : State) (p : Fin 4) (h : LinkHead), s.restful = true ∧ s.takes p.val h = true ∧
      t = (s.begin.skAccept p.val h 2).1 ∧ t.modeCode = mJoin ∧ t.get SKZ_STAT_JSTATE ≤ 2 ∧ t.skz.root = t.uid) ∧
    (∃ (s : State) (t : State) (p : Fin 4) (h : LinkHead) (q : Nat), s.restful = true ∧ s.takes p.val h = true ∧
      t = (s.begin.skAccept p.val h 2).1 ∧ t.modeCode = mJoin ∧ t.get SKZ_STAT_JSTATE ≤ 2 ∧ t.skz.root ≠ t.uid ∧ t.parent = some q) ∧
    (∃ (s : State), s.restful = true ∧ s.modeCode = mJoin ∧ s.skLive = true ∧ s.get SKZ_STAT_JSTATE = 1 ∧ s.skz.stable + 40000 ≤ s.beat ∧
      s.skz.root = s.uid) ∧
    (∃ (s : State) (q : Nat), s.restful = true ∧ s.modeCode = mJoin ∧ s.skLive = true ∧ s.get SKZ_STAT_JSTATE = 1 ∧
      s.skz.stable + 40000 ≤ s.beat ∧ s.skz.root ≠ s.uid ∧ s.parent = some q) ∧
    (∃ (s : State), s.modeCode = mJoin ∧ s.skLive = true ∧ s.get SKZ_STAT_JSTATE = 2 ∧ s.skz.root = s.uid ∧
      s.skz.topoAt + 40000 ≤ s.beat ∧ min 16 (s.get SKZ_CTL_EXPECT) ≤ s.skz.topos.length) ∧
    (∃ (s : State) (t : State) (p : Fin 4) (h : LinkHead), s.takes p.val h = true ∧ t = (s.begin.skAccept p.val h 2).1 ∧ t.modeCode = mJoin) ∧
    (∃ (s : State), s.modeCode = mJoin ∧ s.mode.since + max 1 (s.get SKZ_CTL_JOINTO) * beatsPerMs ≤ s.beat) :=
  ⟨⟨((({ ready with skz.root := (ready : State).uid }.set (SKZ_PSTAT_STATE 0) 2).set SYS_MODE_STAT_MODE mJoin) : State), _, (0 : Fin 4),
      ({ dst := 0, src := 0, hops := 0, lseq := 0, lack := 0, tag := 0, arg := 0, crcOk := true, fine := 0, corr := 0, lost := 0 } : LinkHead),
      by decide +kernel, by decide +kernel, rfl, by decide +kernel, by decide +kernel, by decide +kernel⟩,
    ⟨(((({ ready with skz.root := 77 }.set (SKZ_PSTAT_STATE 0) 2).set SYS_MODE_STAT_MODE mJoin).set SKZ_TSTAT_PARENT 0) : State), _,
      (0 : Fin 4),
      ({ dst := 0, src := 0, hops := 0, lseq := 0, lack := 0, tag := 0, arg := 0, crcOk := true, fine := 0, corr := 0, lost := 0 } : LinkHead),
      (0 : Nat), by decide +kernel, by decide +kernel, rfl, by decide +kernel, by decide +kernel, by decide +kernel, by decide +kernel⟩,
    ⟨((({ ready with skz.root := (ready : State).uid }.set SYS_MODE_STAT_MODE mJoin).set SKZ_STAT_JSTATE 1) : State), by decide +kernel,
      by decide +kernel, by decide +kernel, by decide +kernel, by decide +kernel, by decide +kernel⟩,
    ⟨(((({ ready with skz.root := 77 }.set SYS_MODE_STAT_MODE mJoin).set SKZ_STAT_JSTATE 1).set SKZ_TSTAT_PARENT 0) : State), (0 : Nat),
      by decide +kernel, by decide +kernel, by decide +kernel, by decide +kernel, by decide +kernel, by decide +kernel, by decide +kernel⟩,
    ⟨((({ ready with skz.root := (ready : State).uid }.set SYS_MODE_STAT_MODE mJoin).set SKZ_STAT_JSTATE 2) : State), by decide +kernel,
      by decide +kernel, by decide +kernel, by decide +kernel, by decide +kernel, by decide +kernel⟩,
    ⟨(((ready.set (SKZ_PSTAT_STATE 0) 2).set SYS_MODE_STAT_MODE mJoin) : State), _, (0 : Fin 4),
      ({ dst := 0, src := 0, hops := 0, lseq := 0, lack := 0, tag := 0, arg := 0, crcOk := true, fine := 0, corr := 0, lost := 0 } : LinkHead),
      by decide +kernel, rfl, by decide +kernel⟩,
    ⟨((ready.set SYS_MODE_STAT_MODE mJoin) : State), by decide +kernel, by decide +kernel⟩⟩
theorem witness_FabricRequestCommands :
    (∃ (s : State) (t : State) (u : State) (p : Fin 4) (h : LinkHead) (f : ReqFlit) (e : Ecc) (r : Bool × Nat), s.takes p.val h = true ∧
      t = (s.begin.skAccept p.val h 0).1 ∧ h.dst.val = t.skAddr ∧ 0 < h.arg.toNat ∧ h.arg.toNat ≤ 32 ∧
      t.localAccess 5 f.addr.toNat (.read h.arg.toNat) e = (r, u) ∧ u.skLive = true) ∧
    (∃ (s : State) (t : State) (u : State) (p : Fin 4) (h : LinkHead) (f : ReqFlit) (e : Ecc) (r : Bool × Nat), s.takes p.val h = true ∧
      t = (s.begin.skAccept p.val h 0).1 ∧ h.dst.val = t.skAddr ∧ 0 < h.arg.toNat ∧ h.arg.toNat ≤ 32 ∧
      t.localAccess 5 f.addr.toNat (.write ((f.data ++ List.replicate 32 0).take h.arg.toNat)) e = (r, u) ∧ u.skLive = true) ∧
    (∃ (s : State) (t : State) (p : Fin 4) (h : LinkHead) (f : RspFlit) (i : Nat) (r : SkReq), s.takes p.val h = true ∧
      t = (s.begin.skAccept p.val h 1).1 ∧ h.dst.val = t.skAddr ∧
      (t.skz.reqs.findIdx? (fun r => r.pieces.any (fun q => q.tag == some h.tag.toNat && !q.answered)) = some i) ∧
      t.skz.reqs[i]? = some r ∧
      ((r.pieces.map (fun (q : SkPiece) => if q.tag == some h.tag.toNat && !q.answered then { q with answered := true, data := f.data } else q)).all (fun q => q.answered) = true)) ∧
    (∃ (s : State) (t : State) (p : Fin 4) (h : LinkHead) (f : RspFlit) (i : Nat) (r : SkReq), s.takes p.val h = true ∧
      t = (s.begin.skAccept p.val h 1).1 ∧ h.dst.val = t.skAddr ∧
      (t.skz.reqs.findIdx? (fun r => r.pieces.any (fun q => q.tag == some h.tag.toNat && !q.answered)) = some i) ∧
      t.skz.reqs[i]? = some r ∧
      ((r.pieces.map (fun (q : SkPiece) => if q.tag == some h.tag.toNat && !q.answered then { q with answered := true, data := f.data } else q)).all (fun q => q.answered) = true)) ∧
    (∃ (s : State) (t : State) (p : Fin 4) (h : LinkHead), s.restful = true ∧ s.receives p.val h = true ∧ t = (s.begin.skArrive p.val h).1) ∧
    (∃ (s : State) (t : State) (p : Fin 4) (h : LinkHead) (f : TimeFlit) (t1 : Nat) (e : Int × Int), s.receives p.val h = true ∧
      t = (s.begin.skArrive p.val h).1 ∧ t.skz.t1 = some t1 ∧ t.parent = some p.val ∧ f.synced = true ∧
      exchange t1 f.ta.toNat f.tb.toNat (t.arrivalTs h) = e ∧ t.modeCode ≠ mJoin) ∧
    (∃ (s : State) (q : Nat), s.restful = true ∧ s.skLive = true ∧ s.flag SKZ_STAT_JOINED = true ∧ s.modeCode ≠ mJoin ∧
      s.flag SKZ_STAT_TK = false ∧ s.get SKZ_TSYNC_PERIOD ≠ 0 ∧ s.skz.syncAt ≤ s.beat ∧ s.skz.t1 = none ∧ s.parent = some q) :=
  ⟨⟨((ready.set (SKZ_PSTAT_STATE 0) 2) : State), _, _, (0 : Fin 4),
      ({ dst := 0, src := 0, hops := 0, lseq := 0, lack := 0, tag := 0, arg := 4, crcOk := true, fine := 0, corr := 0, lost := 0 } : LinkHead),
      (⟨0x1002000000, [1, 2, 3, 4]⟩ : ReqFlit), (.clean : Ecc), _, by decide +kernel, rfl, by decide +kernel, by decide +kernel,
      by decide +kernel, Prod.ext rfl rfl, by decide +kernel⟩,
    ⟨((ready.set (SKZ_PSTAT_STATE 0) 2) : State), _, _, (0 : Fin 4),
      ({ dst := 0, src := 0, hops := 0, lseq := 0, lack := 0, tag := 0, arg := 4, crcOk := true, fine := 0, corr := 0, lost := 0 } : LinkHead),
      (⟨0x1002000000, [1, 2, 3, 4]⟩ : ReqFlit), (.clean : Ecc), _, by decide +kernel, rfl, by decide +kernel, by decide +kernel,
      by decide +kernel, Prod.ext rfl rfl, by decide +kernel⟩,
    ⟨(({ ready with skz.reqs := [{ master := 0, dev := 1, win := 0, addr := 0, write := false, ok := true, data := [], pieces := [⟨some 0, 0, 4, false, [], 0⟩] }] }.set (SKZ_PSTAT_STATE 0) 2) : State),
      _, (0 : Fin 4),
      ({ dst := 0, src := 0, hops := 0, lseq := 0, lack := 0, tag := 0, arg := 0, crcOk := true, fine := 0, corr := 0, lost := 0 } : LinkHead),
      ({ status := 0, data := [] } : RspFlit), (0 : Nat),
      ({ master := 0, dev := 1, win := 0, addr := 0, write := false, ok := true, data := [], pieces := [⟨some 0, 0, 4, false, [], 0⟩] } : SkReq),
      by decide +kernel, rfl, by decide +kernel, by decide +kernel, by decide +kernel, by decide +kernel⟩,
    ⟨(({ ready with skz.reqs := [{ master := 0, dev := 1, win := 0, addr := 0, write := false, ok := true, data := [], pieces := [⟨some 0, 0, 4, false, [], 0⟩] }] }.set (SKZ_PSTAT_STATE 0) 2) : State),
      _, (0 : Fin 4),
      ({ dst := 0, src := 0, hops := 0, lseq := 0, lack := 0, tag := 0, arg := 0, crcOk := true, fine := 0, corr := 0, lost := 0 } : LinkHead),
      ({ status := 0, data := [] } : RspFlit), (0 : Nat),
      ({ master := 0, dev := 1, win := 0, addr := 0, write := false, ok := true, data := [], pieces := [⟨some 0, 0, 4, false, [], 0⟩] } : SkReq),
      by decide +kernel, rfl, by decide +kernel, by decide +kernel, by decide +kernel, by decide +kernel⟩,
    ⟨((ready.set (SKZ_PSTAT_STATE 0) 2) : State), _, (0 : Fin 4),
      ({ dst := 0, src := 0, hops := 0, lseq := 0, lack := 0, tag := 0, arg := 0, crcOk := true, fine := 0, corr := 0, lost := 0 } : LinkHead),
      by decide +kernel, by decide +kernel, rfl⟩,
    ⟨((({ ready with skz.t1 := some 0 }.set (SKZ_PSTAT_STATE 0) 2).set SKZ_TSTAT_PARENT 0) : State), _, (0 : Fin 4),
      ({ dst := 0, src := 0, hops := 0, lseq := 0, lack := 0, tag := 0, arg := 0, crcOk := true, fine := 0, corr := 0, lost := 0 } : LinkHead),
      ({ ta := 0, tb := 0, synced := true } : TimeFlit), (0 : Nat), _, by decide +kernel, rfl, by decide +kernel, by decide +kernel,
      by decide +kernel, rfl, by decide +kernel⟩,
    ⟨((((({ ready with skz.t1 := none }.set SKZ_STAT_JOINED 1).set SKZ_STAT_TK 0).set SKZ_TSYNC_PERIOD 1).set SKZ_TSTAT_PARENT 0) : State),
      (0 : Nat), by decide +kernel, by decide +kernel, by decide +kernel, by decide +kernel, by decide +kernel, by decide +kernel,
      by decide +kernel, by decide +kernel, by decide +kernel⟩⟩
theorem witness_FabricBroadcastCommands :
    (∃ (s : State) (t : State) (p : Fin 4) (h : LinkHead), s.takes p.val h = true ∧ t = (s.begin.skAccept p.val h 2).1) ∧
    (∃ (s : State) (c : Sched) (l : List Sched), s.skz.sched = c :: l ∧ c.cmd = 1 ∧ c.due ≤ s.beat ∧ s.modeCode = mArmed ∧
      s.mode.trans = none ∧ ((List.range 24).all (fun n => !s.flag (ESC_CTL_ENABLE n) || s.flag (ESC_STAT_READY n)) = true)) ∧
    (∃ (s : State) (c : Sched) (l : List Sched), s.skz.sched = c :: l ∧ c.cmd = 2 ∧ c.due ≤ s.beat ∧ c.carg % 16 = mRecoat ∧
      s.modeCode = mExpose ∧ s.mode.trans = none) ∧
    (∃ (s : State) (c : Sched) (l : List Sched), s.skz.sched = c :: l ∧ c.cmd = 3 ∧ c.due ≤ s.beat) ∧
    (∃ (s : State) (c : Sched) (l : List Sched), s.skz.sched = c :: l ∧ c.cmd = 4 ∧ c.due ≤ s.beat ∧ s.flag SYS_RST_CFG_SKZEN = true ∧
      c.carg.testBit s.skAddr = true ∧ s.rst.phase = .off) ∧
    (∃ (s : State) (c : Sched) (l : List Sched), s.skz.sched = c :: l ∧ c.cmd = 8 ∧ c.due ≤ s.beat) ∧
    (∃ (s : State) (c : Sched) (l : List Sched), s.skz.sched = c :: l ∧ c.cmd = 9 ∧ c.due ≤ s.beat) ∧
    (∃ (s : State) (c : Sched) (l : List Sched), s.skz.sched = c :: l ∧ c.cmd = 0xA ∧ c.due ≤ s.beat ∧ s.modeCode = mJoin ∧
      s.skz.turnedAway = false ∧ 4 ≤ s.get SKZ_STAT_JSTATE) ∧
    (∃ (s : State) (v : Word) (w : Nat), s.skLive = true ∧ w = v.toNat % 2 ^ 31 / 256 * 256 + 1 + 2 ^ 31 ∧ s.get SKZ_STAT_JSTATE = 0) ∧
    (∃ (s : State) (v : Word) (w : Nat), s.skLive = true ∧ w = v.toNat % 2 ^ 31 / 256 * 256 + 2 + 2 ^ 31 ∧ s.get SKZ_STAT_JSTATE = 0 ∧
      (bits w 23 8 % 16 ≠ 5 ∧ bits w 23 8 % 16 ≠ 6)) ∧
    (∃ (s : State) (v : Word) (w : Nat), s.skLive = true ∧ w = v.toNat % 2 ^ 31 / 256 * 256 + 3 + 2 ^ 31 ∧ s.get SKZ_STAT_JSTATE = 0) ∧
    (∃ (s : State) (v : Word) (w : Nat), s.skLive = true ∧ w = v.toNat % 2 ^ 31 / 256 * 256 + 4 + 2 ^ 31 ∧ s.get SKZ_STAT_JSTATE = 0) :=
  ⟨⟨((ready.set (SKZ_PSTAT_STATE 0) 2) : State), _, (0 : Fin 4),
      ({ dst := 0, src := 0, hops := 0, lseq := 0, lack := 0, tag := 0, arg := 0, crcOk := true, fine := 0, corr := 0, lost := 0 } : LinkHead),
      by decide +kernel, rfl⟩,
    ⟨(({ ready with skz.sched := ({ due := 0, cmd := 1, carg := 0 } : Sched) :: ([] : List Sched), mode.trans := none }.set SYS_MODE_STAT_MODE mArmed) : State),
      ({ due := 0, cmd := 1, carg := 0 } : Sched), ([] : List Sched), by decide +kernel, by decide +kernel, by decide +kernel,
      by decide +kernel, by decide +kernel, by decide +kernel⟩,
    ⟨(({ ready with skz.sched := ({ due := 0, cmd := 2, carg := 6 } : Sched) :: ([] : List Sched), mode.trans := none }.set SYS_MODE_STAT_MODE mExpose) : State),
      ({ due := 0, cmd := 2, carg := 6 } : Sched), ([] : List Sched), by decide +kernel, by decide +kernel, by decide +kernel,
      by decide +kernel, by decide +kernel, by decide +kernel⟩,
    ⟨({ ready with skz.sched := ({ due := 0, cmd := 3, carg := 0 } : Sched) :: ([] : List Sched) } : State),
      ({ due := 0, cmd := 3, carg := 0 } : Sched), ([] : List Sched), by decide +kernel, by decide +kernel, by decide +kernel⟩,
    ⟨(({ ready with skz.sched := ({ due := 0, cmd := 4, carg := 1 } : Sched) :: ([] : List Sched), rst.phase := .off }.set SYS_RST_CFG_SKZEN 1) : State),
      ({ due := 0, cmd := 4, carg := 1 } : Sched), ([] : List Sched), by decide +kernel, by decide +kernel, by decide +kernel,
      by decide +kernel, by decide +kernel, by decide +kernel⟩,
    ⟨({ ready with skz.sched := ({ due := 0, cmd := 8, carg := 0 } : Sched) :: ([] : List Sched) } : State),
      ({ due := 0, cmd := 8, carg := 0 } : Sched), ([] : List Sched), by decide +kernel, by decide +kernel, by decide +kernel⟩,
    ⟨({ ready with skz.sched := ({ due := 0, cmd := 9, carg := 0 } : Sched) :: ([] : List Sched) } : State),
      ({ due := 0, cmd := 9, carg := 0 } : Sched), ([] : List Sched), by decide +kernel, by decide +kernel, by decide +kernel⟩,
    ⟨((({ ready with skz.sched := ({ due := 0, cmd := 0xA, carg := 0 } : Sched) :: ([] : List Sched), skz.turnedAway := false }.set SYS_MODE_STAT_MODE mJoin).set SKZ_STAT_JSTATE 4) : State),
      ({ due := 0, cmd := 0xA, carg := 0 } : Sched), ([] : List Sched), by decide +kernel, by decide +kernel, by decide +kernel,
      by decide +kernel, by decide +kernel, by decide +kernel⟩,
    ⟨((ready.set SKZ_STAT_JSTATE 0) : State), (0 : Word), _, by decide +kernel, rfl, by decide +kernel⟩,
    ⟨((ready.set SKZ_STAT_JSTATE 0) : State), (0 : Word), _, by decide +kernel, rfl, by decide +kernel, by decide +kernel⟩,
    ⟨((ready.set SKZ_STAT_JSTATE 0) : State), (0 : Word), _, by decide +kernel, rfl, by decide +kernel⟩,
    ⟨((ready.set SKZ_STAT_JSTATE 0) : State), (0 : Word), _, by decide +kernel, rfl, by decide +kernel⟩⟩
theorem witness_FabricReportsAndDeposits :
    (∃ (s : State) (t : State) (p : Fin 4) (h : LinkHead) (f : ReportFlit) (d : Nat), s.takes p.val h = true ∧
      t = (s.begin.skAccept p.val h 2).1 ∧ h.dst.val = t.skAddr ∧ t.flag SKZ_STAT_TK = true ∧ aheadBy f.beat.toNat t.beat = some d) ∧
    (∃ (s : State) (t : State) (p : Fin 4) (h : LinkHead), s.takes p.val h = true ∧ t = (s.begin.skAccept p.val h 2).1 ∧
      h.dst.val = t.skAddr ∧ t.flag SKZ_STAT_TK = true) ∧
    (∃ (s : State) (t : State) (p : Fin 4) (h : LinkHead), s.takes p.val h = true ∧ t = (s.begin.skAccept p.val h 2).1 ∧
      h.dst.val = t.skAddr ∧ t.flag SKZ_STAT_TK = true) ∧
    (∃ (s : State) (t : State) (p : Fin 4) (h : LinkHead), s.takes p.val h = true ∧ t = (s.begin.skAccept p.val h 2).1 ∧
      h.dst.val = t.skAddr ∧ t.flag SKZ_STAT_TK = true) ∧
    (∃ (s : State) (t : State) (p : Fin 4) (h : LinkHead), s.takes p.val h = true ∧ t = (s.begin.skAccept p.val h 2).1 ∧
      h.dst.val = t.skAddr) ∧
    (∃ (s : State) (k : Fin 8) (q : Nat) (e : Nat × Nat × Deposit) (l : List (Nat × Nat × Deposit)), s.restful = true ∧
      (s.dial.send.filter (fun e => e.1 == k.val) = e :: l) ∧ (3 ≤ (e :: l).length ∨ e.2.1 + 20 ≤ s.beat) ∧
      s.upPort (s.get (SKZ_ROUTE_MASK (s.live (DIAL_PEER_DEV k.val)))) = some q ∧ nth0 (s.skp q).credit 2 ≠ 0) :=
  ⟨⟨(((ready.set (SKZ_PSTAT_STATE 0) 2).set SKZ_STAT_TK 1) : State), _, (0 : Fin 4),
      ({ dst := 0, src := 0, hops := 0, lseq := 0, lack := 0, tag := 0, arg := 0, crcOk := true, fine := 0, corr := 0, lost := 0 } : LinkHead),
      ({ group := 0, beat := 4000000000 } : ReportFlit), (0 : Nat), by decide +kernel, rfl, by decide +kernel, by decide +kernel,
      by decide +kernel⟩,
    ⟨(((ready.set (SKZ_PSTAT_STATE 0) 2).set SKZ_STAT_TK 1) : State), _, (0 : Fin 4),
      ({ dst := 0, src := 0, hops := 0, lseq := 0, lack := 0, tag := 0, arg := 0, crcOk := true, fine := 0, corr := 0, lost := 0 } : LinkHead),
      by decide +kernel, rfl, by decide +kernel, by decide +kernel⟩,
    ⟨(((ready.set (SKZ_PSTAT_STATE 0) 2).set SKZ_STAT_TK 1) : State), _, (0 : Fin 4),
      ({ dst := 0, src := 0, hops := 0, lseq := 0, lack := 0, tag := 0, arg := 0, crcOk := true, fine := 0, corr := 0, lost := 0 } : LinkHead),
      by decide +kernel, rfl, by decide +kernel, by decide +kernel⟩,
    ⟨(((ready.set (SKZ_PSTAT_STATE 0) 2).set SKZ_STAT_TK 1) : State), _, (0 : Fin 4),
      ({ dst := 0, src := 0, hops := 0, lseq := 0, lack := 0, tag := 0, arg := 0, crcOk := true, fine := 0, corr := 0, lost := 0 } : LinkHead),
      by decide +kernel, rfl, by decide +kernel, by decide +kernel⟩,
    ⟨((ready.set (SKZ_PSTAT_STATE 0) 2) : State), _, (0 : Fin 4),
      ({ dst := 0, src := 0, hops := 0, lseq := 0, lack := 0, tag := 0, arg := 0, crcOk := true, fine := 0, corr := 0, lost := 0 } : LinkHead),
      by decide +kernel, rfl, by decide +kernel⟩,
    ⟨((({ ready with dial.send := [(0, 0, { beat := 0, laser := 0, dev := 0, ix := 0, iy := 0, amp := 0 })] }.set (SKZ_ROUTE_MASK 0) 1).set (SKZ_PSTAT_STATE 0) 2) : State),
      (0 : Fin 8), (0 : Nat), ((0, 0, { beat := 0, laser := 0, dev := 0, ix := 0, iy := 0, amp := 0 }) : Nat × Nat × Deposit),
      ([] : List (Nat × Nat × Deposit)), by decide +kernel, by decide +kernel, by decide +kernel, by decide +kernel, by decide +kernel⟩⟩
theorem witness_BalanceInstructions :
    (∃ (s : State) (ax : Axis72) (pc : BitVec 12) (j : Job) (w : Nat), s.restful = true ∧ (s.ax ax.val).job = some j ∧ s.balLive = true ∧
      j.left ≠ 0 ∧ j.pc = pc.toNat ∧ s.get (BAL_PSTORE_WORD pc.toNat) = w ∧ bits w 31 28 = 0) ∧
    (∃ (s : State) (ax : Axis72) (pc : BitVec 12) (j : Job) (w : Nat) (v : Nat) (r : AxSt × Job), s.restful = true ∧
      (s.ax ax.val).job = some j ∧ s.balLive = true ∧ j.left ≠ 0 ∧ j.pc = pc.toNat ∧ s.get (BAL_PSTORE_WORD pc.toNat) = w ∧
      bits w 31 28 = 1 ∧
      v = laneFma s.freeNext (jobReg (s.ax ax.val) j (bits w 21 16)) (s.get (BAL_K_K (bankIx ax.val j.bank) (bits w 15 8))) (jobReg (s.ax ax.val) j (bits w 7 2)) ∧
      r = jobWrite (s.ax ax.val) { j with pc := j.pc + 1, left := j.left - 1 } (bits w 27 22) v) ∧
    (∃ (s : State) (ax : Axis72) (pc : BitVec 12) (j : Job) (w : Nat) (v : Nat) (r : AxSt × Job), s.restful = true ∧
      (s.ax ax.val).job = some j ∧ s.balLive = true ∧ j.left ≠ 0 ∧ j.pc = pc.toNat ∧ s.get (BAL_PSTORE_WORD pc.toNat) = w ∧
      bits w 31 28 = 2 ∧
      v = laneFma s.freeNext (f32Flip (jobReg (s.ax ax.val) j (bits w 21 16))) (s.get (BAL_K_K (bankIx ax.val j.bank) (bits w 15 8))) (jobReg (s.ax ax.val) j (bits w 7 2)) ∧
      r = jobWrite (s.ax ax.val) { j with pc := j.pc + 1, left := j.left - 1 } (bits w 27 22) v) ∧
    (∃ (s : State) (ax : Axis72) (pc : BitVec 12) (j : Job) (w : Nat) (v : Nat) (r : AxSt × Job), s.restful = true ∧
      (s.ax ax.val).job = some j ∧ s.balLive = true ∧ j.left ≠ 0 ∧ j.pc = pc.toNat ∧ s.get (BAL_PSTORE_WORD pc.toNat) = w ∧
      bits w 31 28 = 3 ∧ v = laneMul s.freeNext (jobReg (s.ax ax.val) j (bits w 21 16)) (jobReg (s.ax ax.val) j (bits w 7 2)) ∧
      r = jobWrite (s.ax ax.val) { j with pc := j.pc + 1, left := j.left - 1 } (bits w 27 22) v) ∧
    (∃ (s : State) (ax : Axis72) (pc : BitVec 12) (j : Job) (w : Nat) (v : Nat) (r : AxSt × Job), s.restful = true ∧
      (s.ax ax.val).job = some j ∧ s.balLive = true ∧ j.left ≠ 0 ∧ j.pc = pc.toNat ∧ s.get (BAL_PSTORE_WORD pc.toNat) = w ∧
      bits w 31 28 = 4 ∧ v = laneAdd s.freeNext (jobReg (s.ax ax.val) j (bits w 21 16)) (jobReg (s.ax ax.val) j (bits w 7 2)) ∧
      r = jobWrite (s.ax ax.val) { j with pc := j.pc + 1, left := j.left - 1 } (bits w 27 22) v) ∧
    (∃ (s : State) (ax : Axis72) (pc : BitVec 12) (j : Job) (w : Nat) (v : Nat) (r : AxSt × Job), s.restful = true ∧
      (s.ax ax.val).job = some j ∧ s.balLive = true ∧ j.left ≠ 0 ∧ j.pc = pc.toNat ∧ s.get (BAL_PSTORE_WORD pc.toNat) = w ∧
      bits w 31 28 = 5 ∧ v = laneSub s.freeNext (jobReg (s.ax ax.val) j (bits w 21 16)) (jobReg (s.ax ax.val) j (bits w 7 2)) ∧
      r = jobWrite (s.ax ax.val) { j with pc := j.pc + 1, left := j.left - 1 } (bits w 27 22) v) ∧
    (∃ (s : State) (ax : Axis72) (pc : BitVec 12) (j : Job) (w : Nat) (v : Nat) (r : AxSt × Job), s.restful = true ∧
      (s.ax ax.val).job = some j ∧ s.balLive = true ∧ j.left ≠ 0 ∧ j.pc = pc.toNat ∧ s.get (BAL_PSTORE_WORD pc.toNat) = w ∧
      bits w 31 28 = 6 ∧ v = laneMin s.freeNext (jobReg (s.ax ax.val) j (bits w 21 16)) (jobReg (s.ax ax.val) j (bits w 7 2)) ∧
      r = jobWrite (s.ax ax.val) { j with pc := j.pc + 1, left := j.left - 1 } (bits w 27 22) v) ∧
    (∃ (s : State) (ax : Axis72) (pc : BitVec 12) (j : Job) (w : Nat) (v : Nat) (r : AxSt × Job), s.restful = true ∧
      (s.ax ax.val).job = some j ∧ s.balLive = true ∧ j.left ≠ 0 ∧ j.pc = pc.toNat ∧ s.get (BAL_PSTORE_WORD pc.toNat) = w ∧
      bits w 31 28 = 7 ∧ v = laneMax s.freeNext (jobReg (s.ax ax.val) j (bits w 21 16)) (jobReg (s.ax ax.val) j (bits w 7 2)) ∧
      r = jobWrite (s.ax ax.val) { j with pc := j.pc + 1, left := j.left - 1 } (bits w 27 22) v) ∧
    (∃ (s : State) (ax : Axis72) (pc : BitVec 12) (j : Job) (w : Nat) (v : Nat) (r : AxSt × Job), s.restful = true ∧
      (s.ax ax.val).job = some j ∧ s.balLive = true ∧ j.left ≠ 0 ∧ j.pc = pc.toNat ∧ s.get (BAL_PSTORE_WORD pc.toNat) = w ∧
      bits w 31 28 = 8 ∧
      v = laneMin s.freeNext (laneMax s.freeNext (jobReg (s.ax ax.val) j (bits w 21 16)) (f32Flip (s.get (BAL_K_K (bankIx ax.val j.bank) (bits w 15 8))))) (s.get (BAL_K_K (bankIx ax.val j.bank) (bits w 15 8))) ∧
      r = jobWrite (s.ax ax.val) { j with pc := j.pc + 1, left := j.left - 1 } (bits w 27 22) v) ∧
    (∃ (s : State) (ax : Axis72) (pc : BitVec 12) (j : Job) (w : Nat) (v : Nat) (r : AxSt × Job), s.restful = true ∧
      (s.ax ax.val).job = some j ∧ s.balLive = true ∧ j.left ≠ 0 ∧ j.pc = pc.toNat ∧ s.get (BAL_PSTORE_WORD pc.toNat) = w ∧
      bits w 31 28 = 9 ∧
      (v = if j.flags.testBit (bits w 15 8) then (jobReg (s.ax ax.val) j (bits w 21 16)) else (jobReg (s.ax ax.val) j (bits w 7 2))) ∧
      r = jobWrite (s.ax ax.val) { j with pc := j.pc + 1, left := j.left - 1 } (bits w 27 22) v) ∧
    (∃ (s : State) (ax : Axis72) (pc : BitVec 12) (j : Job) (w : Nat) (v : Nat) (r : AxSt × Job), s.restful = true ∧
      (s.ax ax.val).job = some j ∧ s.balLive = true ∧ j.left ≠ 0 ∧ j.pc = pc.toNat ∧ s.get (BAL_PSTORE_WORD pc.toNat) = w ∧
      bits w 31 28 = 10 ∧ v = s.tbl s.freeNext (bankIx ax.val j.bank) (bits w 15 8) (jobReg (s.ax ax.val) j (bits w 21 16)) ∧
      r = jobWrite (s.ax ax.val) { j with pc := j.pc + 1, left := j.left - 1 } (bits w 27 22) v) ∧
    (∃ (s : State) (ax : Axis72) (pc : BitVec 12) (j : Job) (w : Nat) (v : Nat) (r : AxSt × Job), s.restful = true ∧
      (s.ax ax.val).job = some j ∧ s.balLive = true ∧ j.left ≠ 0 ∧ j.pc = pc.toNat ∧ s.get (BAL_PSTORE_WORD pc.toNat) = w ∧
      bits w 31 28 = 11 ∧
      (v = if isNaN32 (jobReg (s.ax ax.val) j (bits w 21 16)) then nanWord s.freeNext else laneMul s.freeNext (if laneQ (jobReg (s.ax ax.val) j (bits w 21 16)) = 0 then 0 else if f32Neg (jobReg (s.ax ax.val) j (bits w 21 16)) then f32OfInt (-1) else f32OfInt 1) (jobReg (s.ax ax.val) j (bits w 7 2))) ∧
      r = jobWrite (s.ax ax.val) { j with pc := j.pc + 1, left := j.left - 1 } (bits w 27 22) v) :=
  ⟨⟨((State.setAx (ready.set (BAL_PSTORE_WORD (0 : BitVec 12).toNat) (0 : Nat)) 0 { job := some ({ bs := 0, bank := 0, pc := (0 : BitVec 12).toNat, left := 1, pos := 0, ref := 0, vref := 0, aref := 0, prev := 0, imeas := 0, inj := 0, dt := 0, flags := 0, outInj := 0, total := 0 } : Job) }) : State),
      (0 : Axis72), (0 : BitVec 12),
      ({ bs := 0, bank := 0, pc := (0 : BitVec 12).toNat, left := 1, pos := 0, ref := 0, vref := 0, aref := 0, prev := 0, imeas := 0, inj := 0, dt := 0, flags := 0, outInj := 0, total := 0 } : Job),
      (0 : Nat), by decide +kernel, by decide +kernel, by decide +kernel, by decide +kernel, by decide +kernel, by decide +kernel,
      by decide +kernel⟩,
    ⟨((State.setAx (ready.set (BAL_PSTORE_WORD (0 : BitVec 12).toNat) (268435456 : Nat)) 0 { job := some ({ bs := 0, bank := 0, pc := (0 : BitVec 12).toNat, left := 1, pos := 0, ref := 0, vref := 0, aref := 0, prev := 0, imeas := 0, inj := 0, dt := 0, flags := 0, outInj := 0, total := 0 } : Job) }) : State),
      (0 : Axis72), (0 : BitVec 12),
      ({ bs := 0, bank := 0, pc := (0 : BitVec 12).toNat, left := 1, pos := 0, ref := 0, vref := 0, aref := 0, prev := 0, imeas := 0, inj := 0, dt := 0, flags := 0, outInj := 0, total := 0 } : Job),
      (268435456 : Nat), _, _, by decide +kernel, by decide +kernel, by decide +kernel, by decide +kernel, by decide +kernel,
      by decide +kernel, by decide +kernel, rfl, rfl⟩,
    ⟨((State.setAx (ready.set (BAL_PSTORE_WORD (0 : BitVec 12).toNat) (536870912 : Nat)) 0 { job := some ({ bs := 0, bank := 0, pc := (0 : BitVec 12).toNat, left := 1, pos := 0, ref := 0, vref := 0, aref := 0, prev := 0, imeas := 0, inj := 0, dt := 0, flags := 0, outInj := 0, total := 0 } : Job) }) : State),
      (0 : Axis72), (0 : BitVec 12),
      ({ bs := 0, bank := 0, pc := (0 : BitVec 12).toNat, left := 1, pos := 0, ref := 0, vref := 0, aref := 0, prev := 0, imeas := 0, inj := 0, dt := 0, flags := 0, outInj := 0, total := 0 } : Job),
      (536870912 : Nat), _, _, by decide +kernel, by decide +kernel, by decide +kernel, by decide +kernel, by decide +kernel,
      by decide +kernel, by decide +kernel, rfl, rfl⟩,
    ⟨((State.setAx (ready.set (BAL_PSTORE_WORD (0 : BitVec 12).toNat) (805306368 : Nat)) 0 { job := some ({ bs := 0, bank := 0, pc := (0 : BitVec 12).toNat, left := 1, pos := 0, ref := 0, vref := 0, aref := 0, prev := 0, imeas := 0, inj := 0, dt := 0, flags := 0, outInj := 0, total := 0 } : Job) }) : State),
      (0 : Axis72), (0 : BitVec 12),
      ({ bs := 0, bank := 0, pc := (0 : BitVec 12).toNat, left := 1, pos := 0, ref := 0, vref := 0, aref := 0, prev := 0, imeas := 0, inj := 0, dt := 0, flags := 0, outInj := 0, total := 0 } : Job),
      (805306368 : Nat), _, _, by decide +kernel, by decide +kernel, by decide +kernel, by decide +kernel, by decide +kernel,
      by decide +kernel, by decide +kernel, rfl, rfl⟩,
    ⟨((State.setAx (ready.set (BAL_PSTORE_WORD (0 : BitVec 12).toNat) (1073741824 : Nat)) 0 { job := some ({ bs := 0, bank := 0, pc := (0 : BitVec 12).toNat, left := 1, pos := 0, ref := 0, vref := 0, aref := 0, prev := 0, imeas := 0, inj := 0, dt := 0, flags := 0, outInj := 0, total := 0 } : Job) }) : State),
      (0 : Axis72), (0 : BitVec 12),
      ({ bs := 0, bank := 0, pc := (0 : BitVec 12).toNat, left := 1, pos := 0, ref := 0, vref := 0, aref := 0, prev := 0, imeas := 0, inj := 0, dt := 0, flags := 0, outInj := 0, total := 0 } : Job),
      (1073741824 : Nat), _, _, by decide +kernel, by decide +kernel, by decide +kernel, by decide +kernel, by decide +kernel,
      by decide +kernel, by decide +kernel, rfl, rfl⟩,
    ⟨((State.setAx (ready.set (BAL_PSTORE_WORD (0 : BitVec 12).toNat) (1342177280 : Nat)) 0 { job := some ({ bs := 0, bank := 0, pc := (0 : BitVec 12).toNat, left := 1, pos := 0, ref := 0, vref := 0, aref := 0, prev := 0, imeas := 0, inj := 0, dt := 0, flags := 0, outInj := 0, total := 0 } : Job) }) : State),
      (0 : Axis72), (0 : BitVec 12),
      ({ bs := 0, bank := 0, pc := (0 : BitVec 12).toNat, left := 1, pos := 0, ref := 0, vref := 0, aref := 0, prev := 0, imeas := 0, inj := 0, dt := 0, flags := 0, outInj := 0, total := 0 } : Job),
      (1342177280 : Nat), _, _, by decide +kernel, by decide +kernel, by decide +kernel, by decide +kernel, by decide +kernel,
      by decide +kernel, by decide +kernel, rfl, rfl⟩,
    ⟨((State.setAx (ready.set (BAL_PSTORE_WORD (0 : BitVec 12).toNat) (1610612736 : Nat)) 0 { job := some ({ bs := 0, bank := 0, pc := (0 : BitVec 12).toNat, left := 1, pos := 0, ref := 0, vref := 0, aref := 0, prev := 0, imeas := 0, inj := 0, dt := 0, flags := 0, outInj := 0, total := 0 } : Job) }) : State),
      (0 : Axis72), (0 : BitVec 12),
      ({ bs := 0, bank := 0, pc := (0 : BitVec 12).toNat, left := 1, pos := 0, ref := 0, vref := 0, aref := 0, prev := 0, imeas := 0, inj := 0, dt := 0, flags := 0, outInj := 0, total := 0 } : Job),
      (1610612736 : Nat), _, _, by decide +kernel, by decide +kernel, by decide +kernel, by decide +kernel, by decide +kernel,
      by decide +kernel, by decide +kernel, rfl, rfl⟩,
    ⟨((State.setAx (ready.set (BAL_PSTORE_WORD (0 : BitVec 12).toNat) (1879048192 : Nat)) 0 { job := some ({ bs := 0, bank := 0, pc := (0 : BitVec 12).toNat, left := 1, pos := 0, ref := 0, vref := 0, aref := 0, prev := 0, imeas := 0, inj := 0, dt := 0, flags := 0, outInj := 0, total := 0 } : Job) }) : State),
      (0 : Axis72), (0 : BitVec 12),
      ({ bs := 0, bank := 0, pc := (0 : BitVec 12).toNat, left := 1, pos := 0, ref := 0, vref := 0, aref := 0, prev := 0, imeas := 0, inj := 0, dt := 0, flags := 0, outInj := 0, total := 0 } : Job),
      (1879048192 : Nat), _, _, by decide +kernel, by decide +kernel, by decide +kernel, by decide +kernel, by decide +kernel,
      by decide +kernel, by decide +kernel, rfl, rfl⟩,
    ⟨((State.setAx (ready.set (BAL_PSTORE_WORD (0 : BitVec 12).toNat) (2147483648 : Nat)) 0 { job := some ({ bs := 0, bank := 0, pc := (0 : BitVec 12).toNat, left := 1, pos := 0, ref := 0, vref := 0, aref := 0, prev := 0, imeas := 0, inj := 0, dt := 0, flags := 0, outInj := 0, total := 0 } : Job) }) : State),
      (0 : Axis72), (0 : BitVec 12),
      ({ bs := 0, bank := 0, pc := (0 : BitVec 12).toNat, left := 1, pos := 0, ref := 0, vref := 0, aref := 0, prev := 0, imeas := 0, inj := 0, dt := 0, flags := 0, outInj := 0, total := 0 } : Job),
      (2147483648 : Nat), _, _, by decide +kernel, by decide +kernel, by decide +kernel, by decide +kernel, by decide +kernel,
      by decide +kernel, by decide +kernel, rfl, rfl⟩,
    ⟨((State.setAx (ready.set (BAL_PSTORE_WORD (0 : BitVec 12).toNat) (2415919104 : Nat)) 0 { job := some ({ bs := 0, bank := 0, pc := (0 : BitVec 12).toNat, left := 1, pos := 0, ref := 0, vref := 0, aref := 0, prev := 0, imeas := 0, inj := 0, dt := 0, flags := 0, outInj := 0, total := 0 } : Job) }) : State),
      (0 : Axis72), (0 : BitVec 12),
      ({ bs := 0, bank := 0, pc := (0 : BitVec 12).toNat, left := 1, pos := 0, ref := 0, vref := 0, aref := 0, prev := 0, imeas := 0, inj := 0, dt := 0, flags := 0, outInj := 0, total := 0 } : Job),
      (2415919104 : Nat), _, _, by decide +kernel, by decide +kernel, by decide +kernel, by decide +kernel, by decide +kernel,
      by decide +kernel, by decide +kernel, rfl, rfl⟩,
    ⟨((State.setAx (ready.set (BAL_PSTORE_WORD (0 : BitVec 12).toNat) (2684354560 : Nat)) 0 { job := some ({ bs := 0, bank := 0, pc := (0 : BitVec 12).toNat, left := 1, pos := 0, ref := 0, vref := 0, aref := 0, prev := 0, imeas := 0, inj := 0, dt := 0, flags := 0, outInj := 0, total := 0 } : Job) }) : State),
      (0 : Axis72), (0 : BitVec 12),
      ({ bs := 0, bank := 0, pc := (0 : BitVec 12).toNat, left := 1, pos := 0, ref := 0, vref := 0, aref := 0, prev := 0, imeas := 0, inj := 0, dt := 0, flags := 0, outInj := 0, total := 0 } : Job),
      (2684354560 : Nat), _, _, by decide +kernel, by decide +kernel, by decide +kernel, by decide +kernel, by decide +kernel,
      by decide +kernel, by decide +kernel, rfl, rfl⟩,
    ⟨((State.setAx (ready.set (BAL_PSTORE_WORD (0 : BitVec 12).toNat) (2952790016 : Nat)) 0 { job := some ({ bs := 0, bank := 0, pc := (0 : BitVec 12).toNat, left := 1, pos := 0, ref := 0, vref := 0, aref := 0, prev := 0, imeas := 0, inj := 0, dt := 0, flags := 0, outInj := 0, total := 0 } : Job) }) : State),
      (0 : Axis72), (0 : BitVec 12),
      ({ bs := 0, bank := 0, pc := (0 : BitVec 12).toNat, left := 1, pos := 0, ref := 0, vref := 0, aref := 0, prev := 0, imeas := 0, inj := 0, dt := 0, flags := 0, outInj := 0, total := 0 } : Job),
      (2952790016 : Nat), _, _, by decide +kernel, by decide +kernel, by decide +kernel, by decide +kernel, by decide +kernel,
      by decide +kernel, by decide +kernel, rfl, rfl⟩⟩
theorem witness_AxisCommands :
    (∃ (s : State) (n : Unit24) (bs : Nat), s.restful = true ∧ s.balLive = true ∧ s.sampleNow n.val = some bs) ∧
    (∃ (s : State) (t : State) (n : Unit24) (bs : Nat), (s.bal.open_.find? (fun e => e.1 == n.val) = some (n.val, bs)) ∧
      s.balLive = true ∧ bs + s.headUp n.val + s.servoC ≤ s.beat ∧
      (t = (List.range 3).foldl (fun (t : State) (k : Nat) => t.axOutput n.val (3 * n.val + k)) { s.begin with bal := { s.bal with open_ := Sparse.erase s.bal.open_ n.val } }) ∧
      t.inL0 n.val = true) ∧
    (∃ (s : State) (n : Unit24), s.balLive = true ∧ ((([3 * n.val, 3 * n.val + 1, 3 * n.val + 2].filter (fun a => s.axClosed a))) ≠ []) ∧
      ([3 * n.val, 3 * n.val + 1, 3 * n.val + 2].any (fun a => decide (3 ≤ (s.ax a).missRun)) = true)) ∧
    (∃ (s : State) (a : Axis72), s.balLive = true ∧ s.axClosed a.val = true ∧
      max 1 (s.axUse a.val (BAL_AXCTL_TRKN a.val)) ≤ (s.ax a.val).trkRun) ∧
    (∃ (s : State) (a : Axis72) (m : AxMove), s.restful = true ∧ s.balLive = true ∧ (s.ax a.val).move = some m ∧
      m.start + moveBeats ≤ s.beat) ∧
    (∃ (s : State) (a : Axis72), s.restful = true ∧ s.balLive = true ∧ axCmdMode s.modeCode = true ∧ s.flag (BAL_AXCTL_EN a.val) = true ∧
      s.inL0 (a.val / 3) = true ∧ s.bankValid a.val (s.actBank a.val) = true ∧ (s.axState a.val ≠ 4 ∨ (s.ax a.val).openDue = true)) ∧
    (∃ (s : State), s.restful = true ∧ s.balLive = true ∧ axCmdMode s.modeCode = false) ∧
    (∃ (s : State), s.restful = true ∧ s.balLive = true) ∧
    (∃ (s : State), s.restful = true ∧ s.balLive = true) ∧
    (∃ (s : State) (v : Word), s.restful = true ∧ s.balLive = true ∧ bits v.toNat 1 0 ≠ 3 ∧ s.flag BAL_STAT_CLOSED = false) ∧
    (∃ (s : State) (v : Word), s.restful = true ∧ s.balLive = true ∧ (bits v.toNat 1 0 = 3 ∨ s.flag BAL_STAT_CLOSED = true)) :=
  ⟨⟨({ ready with beat := 4 * 10 ^ 9 + 120 } : State), (0 : Unit24), (4 * 10 ^ 9 : Nat), by decide +kernel, by decide +kernel,
      by decide +kernel⟩,
    ⟨(({ ready with bal.open_ := [(0, 0)] }.set (HL_STAT_STATE 0) 5) : State), _, (0 : Unit24), (0 : Nat), by decide +kernel,
      by decide +kernel, by decide +kernel, rfl, by decide +kernel⟩,
    ⟨((State.setAx (ready.set (BAL_AXSTAT_STATE 0) 2) 0 { missRun := 3 }) : State), (0 : Unit24), by decide +kernel, by decide +kernel,
      by decide +kernel⟩,
    ⟨((State.setAx (ready.set (BAL_AXSTAT_STATE 0) 2) 0 { trkRun := 100000 }) : State), (0 : Axis72), by decide +kernel,
      by decide +kernel, by decide +kernel⟩,
    ⟨((State.setAx ready 0 { move := some ({ approach := false, start := 0, p0 := 0, v0 := 0 } : AxMove) }) : State), (0 : Axis72),
      ({ approach := false, start := 0, p0 := 0, v0 := 0 } : AxMove), by decide +kernel, by decide +kernel, by decide +kernel,
      by decide +kernel⟩,
    ⟨((((ready.set (BAL_AXCTL_EN 0) 1).set (HL_STAT_STATE (0 / 3)) 5).set (BAL_BKPROG_LEN (bankIx 0 0)) 1) : State), (0 : Axis72),
      by decide +kernel, by decide +kernel, by decide +kernel, by decide +kernel, by decide +kernel, by decide +kernel, by decide +kernel⟩,
    ⟨((ready.set SYS_MODE_STAT_MODE mExpose) : State), by decide +kernel, by decide +kernel, by decide +kernel⟩,
    ⟨(ready : State), by decide +kernel, by decide +kernel⟩,
    ⟨(ready : State), by decide +kernel, by decide +kernel⟩,
    ⟨((ready.set BAL_STAT_CLOSED 0) : State), (0 : Word), by decide +kernel, by decide +kernel, by decide +kernel, by decide +kernel⟩,
    ⟨(ready : State), (3 : Word), by decide +kernel, by decide +kernel, by decide +kernel⟩⟩
theorem witness_InjectionAndCaptureCommands :
    (∃ (s : State) (t : State) (g : Fin 4) (v : Word), s.restful = true ∧ s.balLive = true ∧ t = s.begin.injCtl g.val v.toNat ∧
      t.modeCode = mTune ∧ t.genOk g.val = true) ∧
    (∃ (s : State) (g : Fin 4), s.restful = true ∧ (s.gen g.val).active = true) ∧
    (∃ (s : State) (t : State) (c : Fin 4) (v : Word), s.restful = true ∧ s.balLive = true ∧ t = s.begin.capCtl c.val v.toNat ∧
      t.get (BAL_CAPCTL_AXIS c.val) ≤ 71 ∧ t.get (BAL_CAPLEN_LEN c.val) ≠ 0 ∧ t.get (BAL_CAPCTL_TRIG c.val) ≠ 0) ∧
    (∃ (s : State), s.restful = true) ∧
    (∃ (s : State) (u : State) (c : Fin 4) (i : Nat) (a : Nat) (ws : List Nat) (q : List (Nat × List Nat)), s.restful = true ∧
      s.balLive = true ∧ (s.cap c.val).queue = (i, ws) :: q ∧ (s.cap c.val).far = false ∧
      (s.skz.reqs.any (fun r => r.own == some (2 + c.val)) = false) ∧
      a = (s.pair (BAL_CAPBASE_LO_ADDR c.val) (BAL_CAPBASE_HI_ADDR c.val) + 32 * i) % 2 ^ 40 ∧ s.region a = .dram ∧ s.sysLive = true ∧
      (s.memSpan a (ws.flatMap (fun (w : Nat) => leBytes w 4)).length = true) ∧
      (u = ({ s.begin.setCap c.val { s.cap c.val with far := true } with req := some 7, rst := { s.rst with dramFresh := false } } : State).store a (ws.flatMap (fun (w : Nat) => leBytes w 4)))) :=
  ⟨⟨(((ready.set SYS_MODE_STAT_MODE mTune).set (BAL_INJPRBS_SEED 0) 1) : State), _, (0 : Fin 4), (1 <<< 13 : Word), by decide +kernel,
      by decide +kernel, rfl, by decide +kernel, by decide +kernel⟩,
    ⟨((ready.setGen 0 { active := true }) : State), (0 : Fin 4), by decide +kernel, by decide +kernel⟩,
    ⟨(((ready.set (BAL_CAPLEN_LEN 0) 1).set (BAL_CAPCTL_TRIG 0) 1) : State), _, (0 : Fin 4), (1 <<< 12 : Word), by decide +kernel,
      by decide +kernel, rfl, by decide +kernel, by decide +kernel, by decide +kernel⟩,
    ⟨(ready : State), by decide +kernel⟩,
    ⟨((State.setCap ready 0 { queue := ((0 : Nat), ([] : List Nat)) :: ([] : List (Nat × List Nat)), far := false }) : State), _,
      (0 : Fin 4), (0 : Nat), _, ([] : List Nat), ([] : List (Nat × List Nat)), by decide +kernel, by decide +kernel, by decide +kernel,
      by decide +kernel, by decide +kernel, rfl, by decide +kernel, by decide +kernel, by decide +kernel, rfl⟩⟩
theorem witness_HeadLinkSlots :
    (∃ (s : State) (u : State) (n : Unit24) (t : TrnSlot), s.restful = true ∧ s.hlLive n.val = true ∧ s.hlState n.val = 2 ∧
      trnOk t = true ∧
      (u = ((((s.begin.set (HL_TRAIN_HVMIN n.val) t.vmin.val).set (HL_TRAIN_HVMAX n.val) t.vmax.val).set (HL_TRAIN_HRATES n.val) t.rates.toNat).set (HL_HEADMODEL_MODEL n.val) t.model.toNat).modHl n.val (fun (x : HlSt) => { x with ack := true, good := x.good + 1, headEq := t.eqok }))) ∧
    (∃ (s : State) (n : Unit24) (t : TrnSlot), s.restful = true ∧ s.hlLive n.val = true ∧
      (s.hlState n.val = 1 ∨ s.hlState n.val = 2 ∨ s.hlState n.val = 3) ∧ trnOk t = false) ∧
    (∃ (s : State) (n : Unit24) (t : TlmSlot), s.restful = true ∧ s.hlLive n.val = true ∧ s.hlState n.val = 4 ∧ t.overflow = false ∧
      tlmOk t = true) ∧
    (∃ (s : State) (u : State) (n : Unit24) (t : TlmSlot), s.restful = true ∧ s.hlLive n.val = true ∧ s.hlState n.val = 5 ∧
      t.overflow = false ∧ tlmOk t = true ∧ t.seq.toNat = s.hlUpStart n.val / 1000 % 256 ∧ t.miss = false ∧ t.camdrop = false ∧
      t.hot = false ∧ t.hfault = false ∧
      (u = ((s.begin.modHl n.val (fun (x : HlSt) => { x with good := if t.onTime then x.good + 1 else 0 })).hlCfgAck n.val t.cfgack.toNat).modHl n.val (fun (x : HlSt) => { x with seqBad := 0 })) ∧
      u.flag (HL_STAT_HFAULT n.val) = false ∧ u.balLive = true) ∧
    (∃ (s : State) (n : Unit24) (t : TlmSlot), s.hlLive n.val = true ∧ s.hlState n.val = 5 ∧ t.overflow = true) ∧
    (∃ (s : State) (n : Unit24) (p : PdSlot), s.restful = true ∧ s.hlLive n.val = true ∧ s.inL0 n.val = true ∧ p.overflow = false ∧
      pdOk p = true ∧ s.heldInReset (64 + n.val) = false) ∧
    (∃ (s : State) (n : Unit24) (p : PdSlot), s.restful = true ∧ s.hlLive n.val = true ∧ s.inL0 n.val = true ∧ p.overflow = false ∧
      pdOk p = false) ∧
    (∃ (s : State) (n : Unit24) (p : PdSlot), s.hlLive n.val = true ∧ s.inL0 n.val = true ∧ p.overflow = true) ∧
    (∃ (s : State) (n : Unit24) (r : SvcSlot) (m : SvcTx), s.restful = true ∧ s.hlLive n.val = true ∧ (4 ≤ s.hlState n.val ∧
      s.hlState n.val ≤ 7) ∧ svcOk 3 r = true ∧ (s.hl n.val).svc = some m ∧ m.typ = 2 ∧ m.tag = r.tag.toNat) ∧
    (∃ (s : State) (n : Unit24) (r : TrespSlot) (t1 : Nat) (m : SvcTx) (th : Rat) (up : Int) (dn : Int), s.restful = true ∧
      s.hlLive n.val = true ∧ s.hlState n.val = 5 ∧ svcOk 0x11 r.svc = true ∧ (s.hl n.val).t1 = some t1 ∧ (s.hl n.val).svc = some m ∧
      m.typ = 0x10 ∧ m.tag = r.svc.tag.toNat ∧ up = sgn 64 ((dword r.svc.d0 r.svc.d1) + 2 ^ 64 - t1) ∧
      dn = sgn 64 (r.t4.toNat + 2 ^ 64 - (dword r.svc.d2 r.svc.d3)) ∧ th = mkRat (up - dn) 2 ∧ absQ th < 2) ∧
    (∃ (s : State) (n : Unit24) (x : SvcSlot), s.restful = true ∧ s.hlLive n.val = true ∧ s.hlState n.val = 5 ∧ svcOk 0x18 x = true ∧
      x.d0.toNat % 16 = 1 ∧ 2 ≤ s.get (HL_STAT_VERSION n.val) ∧ (s.hl n.val).pm = true ∧ s.hlMaySleep n.val = true) ∧
    (∃ (s : State) (n : Unit24), s.restful = true ∧ s.hlLive n.val = true ∧ s.inL0 n.val = true ∧ s.get (HL_STAT_VERSION n.val) = 3 ∧
      (s.hl n.val).syncAt + 4096 * frameBeats ≤ s.beat ∧ (s.hl n.val).t1 = none) :=
  ⟨⟨((ready.set (HL_STAT_STATE 0) 2) : State), _, (0 : Unit24),
      (sealTrn { crc := 0, stuf := false, state := 0, vmin := 0, vmax := 0, rates := 0, chv := 0, chr := 0, ack := false, eqok := false, cd := 0, rsv := 0, model := 0 } : TrnSlot),
      by decide +kernel, by decide +kernel, by decide +kernel, by decide +kernel, rfl⟩,
    ⟨((ready.set (HL_STAT_STATE 0) 1) : State), (0 : Unit24),
      ({ crc := 0, stuf := false, state := 0, vmin := 0, vmax := 0, rates := 0, chv := 0, chr := 0, ack := false, eqok := false, cd := 0, rsv := 0, model := 0 } : TrnSlot),
      by decide +kernel, by decide +kernel, by decide +kernel, by decide +kernel⟩,
    ⟨((ready.set (HL_STAT_STATE 0) 4) : State), (0 : Unit24),
      (sealTlm { crc := 0, stuf := false, overflow := false, onTime := false, seq := 0, hfault := false, miss := false, camdrop := false, hot := false, rsv := 0, posX := 0, posY := 0, posZ := 0, ix := 0, iy := 0, iz := 0, cfgack := 0 } : TlmSlot),
      by decide +kernel, by decide +kernel, by decide +kernel, by decide +kernel, by decide +kernel⟩,
    ⟨(((ready.set (HL_STAT_STATE 0) 5).set (HL_STAT_HFAULT 0) 0) : State), _, (0 : Unit24),
      (sealTlm { crc := 0, stuf := false, overflow := false, onTime := false, seq := 0, hfault := false, miss := false, camdrop := false, hot := false, rsv := 0, posX := 0, posY := 0, posZ := 0, ix := 0, iy := 0, iz := 0, cfgack := 0 } : TlmSlot),
      by decide +kernel, by decide +kernel, by decide +kernel, by decide +kernel, by decide +kernel, by decide +kernel,
      by decide +kernel, by decide +kernel, by decide +kernel, by decide +kernel, rfl, by decide +kernel, by decide +kernel⟩,
    ⟨((ready.set (HL_STAT_STATE 0) 5) : State), (0 : Unit24),
      (sealTlm { crc := 0, stuf := false, overflow := true, onTime := false, seq := 0, hfault := false, miss := false, camdrop := false, hot := false, rsv := 0, posX := 0, posY := 0, posZ := 0, ix := 0, iy := 0, iz := 0, cfgack := 0 } : TlmSlot),
      by decide +kernel, by decide +kernel, by decide +kernel⟩,
    ⟨((ready.set (HL_STAT_STATE 0) 5) : State), (0 : Unit24),
      (sealPd { crc := 0, stuf := false, overflow := false, pd0 := 0, pd1 := 0, pd2 := 0 } : PdSlot), by decide +kernel,
      by decide +kernel, by decide +kernel, by decide +kernel, by decide +kernel, by decide +kernel⟩,
    ⟨((ready.set (HL_STAT_STATE 0) 5) : State), (0 : Unit24),
      ({ crc := 0, stuf := false, overflow := false, pd0 := 0, pd1 := 0, pd2 := 0 } : PdSlot), by decide +kernel, by decide +kernel,
      by decide +kernel, by decide +kernel, by decide +kernel⟩,
    ⟨((ready.set (HL_STAT_STATE 0) 5) : State), (0 : Unit24),
      (sealPd { crc := 0, stuf := false, overflow := true, pd0 := 0, pd1 := 0, pd2 := 0 } : PdSlot), by decide +kernel,
      by decide +kernel, by decide +kernel⟩,
    ⟨((State.setHl (ready.set (HL_STAT_STATE 0) 5) 0 { svc := some ({ typ := 2, tag := (sealSvc 3 { crc := 0, stuf := false, tag := 0, len := 0, rsv := 0, status := 0, addr := 0, d0 := 0, d1 := 0, d2 := 0, d3 := 0, tail := 0 } : SvcSlot).tag.toNat } : SvcTx) }) : State),
      (0 : Unit24),
      (sealSvc 3 { crc := 0, stuf := false, tag := 0, len := 0, rsv := 0, status := 0, addr := 0, d0 := 0, d1 := 0, d2 := 0, d3 := 0, tail := 0 } : SvcSlot),
      ({ typ := 2, tag := (sealSvc 3 { crc := 0, stuf := false, tag := 0, len := 0, rsv := 0, status := 0, addr := 0, d0 := 0, d1 := 0, d2 := 0, d3 := 0, tail := 0 } : SvcSlot).tag.toNat } : SvcTx),
      by decide +kernel, by decide +kernel, by decide +kernel, by decide +kernel, by decide +kernel, by decide +kernel, by decide +kernel⟩,
    ⟨((State.setHl (ready.set (HL_STAT_STATE 0) 5) 0 { t1 := some (0 : Nat), svc := some ({ typ := 0x10, tag := ({ svc := sealSvc 0x11 { crc := 0, stuf := false, tag := 0, len := 0, rsv := 0, status := 0, addr := 0, d0 := 0, d1 := 0, d2 := 0, d3 := 0, tail := 0 }, t4 := 0 } : TrespSlot).svc.tag.toNat } : SvcTx) }) : State),
      (0 : Unit24),
      ({ svc := sealSvc 0x11 { crc := 0, stuf := false, tag := 0, len := 0, rsv := 0, status := 0, addr := 0, d0 := 0, d1 := 0, d2 := 0, d3 := 0, tail := 0 }, t4 := 0 } : TrespSlot),
      (0 : Nat),
      ({ typ := 0x10, tag := ({ svc := sealSvc 0x11 { crc := 0, stuf := false, tag := 0, len := 0, rsv := 0, status := 0, addr := 0, d0 := 0, d1 := 0, d2 := 0, d3 := 0, tail := 0 }, t4 := 0 } : TrespSlot).svc.tag.toNat } : SvcTx),
      _, _, _, by decide +kernel, by decide +kernel, by decide +kernel, by decide +kernel, by decide +kernel, by decide +kernel,
      by decide +kernel, by decide +kernel, rfl, rfl, rfl, by decide +kernel⟩,
    ⟨((State.setHl ((ready.set (HL_STAT_STATE 0) 5).set (HL_STAT_VERSION 0) 2) 0 { pm := true }) : State), (0 : Unit24),
      (sealSvc 0x18 { crc := 0, stuf := false, tag := 0, len := 0, rsv := 0, status := 0, addr := 0, d0 := 1, d1 := 0, d2 := 0, d3 := 0, tail := 0 } : SvcSlot),
      by decide +kernel, by decide +kernel, by decide +kernel, by decide +kernel, by decide +kernel, by decide +kernel,
      by decide +kernel, by decide +kernel⟩,
    ⟨((State.setHl ((ready.set (HL_STAT_STATE 0) 5).set (HL_STAT_VERSION 0) 3) 0 { t1 := none }) : State), (0 : Unit24),
      by decide +kernel, by decide +kernel, by decide +kernel, by decide +kernel, by decide +kernel, by decide +kernel⟩⟩
theorem witness_HeadLinkTraining :
    (∃ (s : State) (n : Unit24), s.restful = true ∧ s.hlLive n.val = true ∧ s.flag (HL_CTL_EN n.val) = false) ∧
    (∃ (s : State) (n : Unit24), s.restful = true ∧ s.hlLive n.val = true ∧ s.flag (HL_CTL_EN n.val) = true ∧ s.hlPowered = true) ∧
    (∃ (s : State) (n : Unit24), s.restful = true ∧ s.hlLive n.val = true ∧ s.hlState n.val = 2 ∧ (s.hl n.val).cd = 0) ∧
    (∃ (s : State) (n : Unit24), s.restful = true ∧ s.hlLive n.val = true ∧ s.hlState n.val = 3 ∧ s.hlEqOk n.val = true ∧
      (s.hl n.val).headEq = true) ∧
    (∃ (s : State) (n : Unit24), s.hlLive n.val = true ∧ s.hlState n.val = 3 ∧ (s.hl n.val).since + 4 * beatsPerMs ≤ s.beat) ∧
    (∃ (s : State) (n : Unit24), s.hlLive n.val = true ∧ (s.hlState n.val = 2 ∨ s.hlState n.val = 4) ∧
      (s.hl n.val).since + beatsPerMs ≤ s.beat ∧ (s.hl n.val).tries + 1 < max 1 (s.get (HL_CTL_MAXTRY n.val))) ∧
    (∃ (s : State) (n : Unit24), s.hlLive n.val = true ∧ 4 ≤ s.hlState n.val ∧ s.hlState n.val ≤ 6 ∧ s.get (HL_STAT_UPPS n.val) = 0) ∧
    (∃ (s : State) (n : Unit24) (p : BitVec 4), s.restful = true ∧ s.hlLive n.val = true ∧ s.inL0 n.val = true ∧
      s.flag (HL_CTL_EQFIX n.val) = false ∧ (s.hl n.val).eqAt + 4096 * frameBeats ≤ s.beat ∧ p.toNat ≤ s.get (HL_EQ_PEAK n.val) + 1 ∧
      s.get (HL_EQ_PEAK n.val) ≤ p.toNat + 1) :=
  ⟨⟨((ready.set (HL_CTL_EN 0) 0) : State), (0 : Unit24), by decide +kernel, by decide +kernel, by decide +kernel⟩,
    ⟨((ready.set (HL_CTL_EN 0) 1) : State), (0 : Unit24), by decide +kernel, by decide +kernel, by decide +kernel, by decide +kernel⟩,
    ⟨((State.setHl (ready.set (HL_STAT_STATE 0) 2) 0 { cd := 0 }) : State), (0 : Unit24), by decide +kernel, by decide +kernel,
      by decide +kernel, by decide +kernel⟩,
    ⟨((State.setHl (ready.set (HL_STAT_STATE 0) 3) 0 { headEq := true, good := 256 }) : State), (0 : Unit24), by decide +kernel,
      by decide +kernel, by decide +kernel, by decide +kernel, by decide +kernel⟩,
    ⟨((ready.set (HL_STAT_STATE 0) 3) : State), (0 : Unit24), by decide +kernel, by decide +kernel, by decide +kernel⟩,
    ⟨((ready.set (HL_STAT_STATE 0) 2) : State), (0 : Unit24), by decide +kernel, by decide +kernel, by decide +kernel, by decide +kernel⟩,
    ⟨(((ready.set (HL_STAT_UPPS 0) 0).set (HL_STAT_STATE 0) 5) : State), (0 : Unit24), by decide +kernel, by decide +kernel,
      by decide +kernel, by decide +kernel⟩,
    ⟨(((ready.set (HL_STAT_STATE 0) 5).set (HL_CTL_EQFIX 0) 0) : State), (0 : Unit24), (0 : BitVec 4), by decide +kernel,
      by decide +kernel, by decide +kernel, by decide +kernel, by decide +kernel, by decide +kernel, by decide +kernel⟩⟩
theorem witness_HeadLinkPowerAndServices :
    (∃ (s : State) (n : Unit24), s.restful = true ∧ s.hlLive n.val = true ∧ s.hlState n.val = 5 ∧ s.get (HL_STAT_DNPS n.val) = 0 ∧
      s.flag (HL_CTL_L0SDNEN n.val) = true ∧ 2 ≤ s.get (HL_STAT_VERSION n.val) ∧ s.hlMaySleep n.val = true ∧ (s.hl n.val).cfg = [] ∧
      (s.hl n.val).cfgWait = [] ∧ (s.hl n.val).svc = none ∧ (s.hl n.val).svcQueue = [] ∧
      (s.hl n.val).traffic + 16 * frameBeats ≤ s.beat ∧ (s.hl n.val).since + 16 * frameBeats ≤ s.beat) ∧
    (∃ (s : State) (n : Unit24), s.restful = true ∧ s.hlLive n.val = true ∧ s.hlState n.val = 6 ∧ s.get (HL_STAT_DNPS n.val) = 0) ∧
    (∃ (s : State) (n : Unit24), s.restful = true ∧ s.flag (HL_CTL_L1EN n.val) = true ∧ s.hlLive n.val = true ∧ s.hlState n.val = 5 ∧
      s.get (HL_STAT_VERSION n.val) = 3 ∧ s.hlMaySleep n.val = true ∧ (s.hl n.val).l1Req = false) ∧
    (∃ (s : State) (n : Unit24), s.restful = true ∧ s.hlLive n.val = true ∧ s.hlState n.val = 7 ∧ (s.hl n.val).waking = false) ∧
    (∃ (s : State) (n : Unit24) (v : Word) (l0 : Nat) (len : Nat), s.restful = true ∧ s.hlLive n.val = true ∧
      s.flag (HL_SVCSTAT_BUSY n.val) = false ∧ s.inL0 n.val = true ∧ l0 = bits v.toNat 2 0 ∧ (len = if l0 = 0 then 1 else min l0 4)) ∧
    (∃ (s : State) (n : Unit24), s.restful = true ∧ s.hlLive n.val = true ∧ (s.flag (HL_SVCSTAT_BUSY n.val) = true ∨ s.inL0 n.val = false)) ∧
    (∃ (s : State) (n : Unit24) (m : SvcTx), s.restful = true ∧ s.hlLive n.val = true ∧ (s.hl n.val).svc = some m ∧
      m.sentAt + 8 * frameBeats ≤ s.beat ∧ m.tries < 3) ∧
    (∃ (s : State) (n : Unit24) (m : SvcTx), s.restful = true ∧ s.hlLive n.val = true ∧ (s.hl n.val).svc = some m ∧
      m.sentAt + 8 * frameBeats ≤ s.beat ∧ 3 ≤ m.tries ∧ (m.typ = 1 ∨ m.typ = 2)) ∧
    (∃ (s : State) (n : Unit24), s.restful = true ∧ s.hlLive n.val = true ∧ (s.hl n.val).cfg ≠ [] ∧
      (s.hl n.val).ackAt + 8 * frameBeats ≤ s.beat) :=
  ⟨⟨((State.setHl ((((ready.set (HL_STAT_STATE 0) 5).set (HL_STAT_DNPS 0) 0).set (HL_CTL_L0SDNEN 0) 1).set (HL_STAT_VERSION 0) 2) 0 { cfg := [], cfgWait := [], svc := none, svcQueue := [] }) : State),
      (0 : Unit24), by decide +kernel, by decide +kernel, by decide +kernel, by decide +kernel, by decide +kernel, by decide +kernel,
      by decide +kernel, by decide +kernel, by decide +kernel, by decide +kernel, by decide +kernel, by decide +kernel, by decide +kernel⟩,
    ⟨(((ready.set (HL_STAT_STATE 0) 6).set (HL_STAT_DNPS 0) 0) : State), (0 : Unit24), by decide +kernel, by decide +kernel,
      by decide +kernel, by decide +kernel⟩,
    ⟨((State.setHl (((ready.set (HL_CTL_L1EN 0) 1).set (HL_STAT_STATE 0) 5).set (HL_STAT_VERSION 0) 3) 0 { l1Req := false }) : State),
      (0 : Unit24), by decide +kernel, by decide +kernel, by decide +kernel, by decide +kernel, by decide +kernel, by decide +kernel,
      by decide +kernel⟩,
    ⟨((State.setHl (ready.set (HL_STAT_STATE 0) 7) 0 { waking := false }) : State), (0 : Unit24), by decide +kernel, by decide +kernel,
      by decide +kernel, by decide +kernel⟩,
    ⟨(((ready.set (HL_SVCSTAT_BUSY 0) 0).set (HL_STAT_STATE 0) 5) : State), (0 : Unit24), (0 : Word), _, _, by decide +kernel,
      by decide +kernel, by decide +kernel, by decide +kernel, rfl, rfl⟩,
    ⟨(ready : State), (0 : Unit24), by decide +kernel, by decide +kernel, by decide +kernel⟩,
    ⟨((State.setHl ready 0 { svc := some ({ typ := 0 } : SvcTx) }) : State), (0 : Unit24), ({ typ := 0 } : SvcTx), by decide +kernel,
      by decide +kernel, by decide +kernel, by decide +kernel, by decide +kernel⟩,
    ⟨((State.setHl ready 0 { svc := some ({ typ := 1, tries := 3 } : SvcTx) }) : State), (0 : Unit24),
      ({ typ := 1, tries := 3 } : SvcTx), by decide +kernel, by decide +kernel, by decide +kernel, by decide +kernel, by decide +kernel,
      by decide +kernel⟩,
    ⟨((State.setHl ready 0 { cfg := [(0, (0, 0))] }) : State), (0 : Unit24), by decide +kernel, by decide +kernel, by decide +kernel,
      by decide +kernel⟩⟩
theorem witness_MotionCommands :
    (∃ (s : State) (u : State) (m : Fin 6), s.restful = true ∧ s.motLive = true ∧ s.rst.barrierDown = false ∧
      (s.begin.set (MOT_AX_CMD_OP m.val) 1).motCheck m.val 1 = 0 ∧ s.flag (MOT_AX_CMD_STAMPED m.val) = false ∧
      u = ((s.begin.set (MOT_AX_CMD_OP m.val) 1).set (MOT_AX_STAT_CMDERR m.val) 0).motOn m.val ∧ u.motState m.val ≠ mtHoming) ∧
    (∃ (s : State) (m : Fin 6) (c : Nat), s.restful = true ∧ s.motLive = true ∧ s.rst.barrierDown = false ∧
      (s.begin.set (MOT_AX_CMD_OP m.val) 1).motCheck m.val 1 = c ∧ c ≠ 0) ∧
    (∃ (s : State) (m : Fin 6) (q : Bool × Nat) (u : State), s.restful = true ∧ s.motLive = true ∧ s.rst.barrierDown = false ∧
      u = s.begin.set (MOT_AX_CMD_OP m.val) 1 ∧ u.motCheck m.val 1 = 0 ∧ s.flag (MOT_AX_CMD_STAMPED m.val) = true ∧
      q = motDue s.beat (aheadBy (u.pair (MOT_AX_STAMP_LO_STAMP m.val) (MOT_AX_STAMP_HI_STAMP m.val)) s.beat) ∧ q.1 = false) ∧
    (∃ (s : State) (u : State) (m : Fin 6), s.restful = true ∧ s.motLive = true ∧ s.rst.barrierDown = false ∧
      (s.begin.set (MOT_AX_CMD_OP m.val) 2).motCheck m.val 2 = 0 ∧ s.flag (MOT_AX_CMD_STAMPED m.val) = false ∧
      u = ((s.begin.set (MOT_AX_CMD_OP m.val) 2).set (MOT_AX_STAT_CMDERR m.val) 0).motOn m.val ∧ u.motState m.val ≠ mtHoming) ∧
    (∃ (s : State) (u : State) (m : Fin 6), s.restful = true ∧ s.motLive = true ∧ s.rst.barrierDown = false ∧
      (s.begin.set (MOT_AX_CMD_OP m.val) 3).motCheck m.val 3 = 0 ∧ s.flag (MOT_AX_CMD_STAMPED m.val) = false ∧
      u = ((s.begin.set (MOT_AX_CMD_OP m.val) 3).set (MOT_AX_STAT_CMDERR m.val) 0).motOn m.val ∧ u.motRest m.val = false) ∧
    (∃ (s : State) (u : State) (m : Fin 6), s.restful = true ∧ s.motLive = true ∧ s.rst.barrierDown = false ∧
      (s.begin.set (MOT_AX_CMD_OP m.val) 3).motCheck m.val 3 = 0 ∧ s.flag (MOT_AX_CMD_STAMPED m.val) = false ∧
      u = ((s.begin.set (MOT_AX_CMD_OP m.val) 3).set (MOT_AX_STAT_CMDERR m.val) 0).motOn m.val ∧ u.motRest m.val = true) ∧
    (∃ (s : State) (u : State) (m : Fin 6) (t : State), s.restful = true ∧ s.motLive = true ∧ s.rst.barrierDown = false ∧
      (s.begin.set (MOT_AX_CMD_OP m.val) 4).motCheck m.val 4 = 0 ∧ s.flag (MOT_AX_CMD_STAMPED m.val) = false ∧
      u = ((s.begin.set (MOT_AX_CMD_OP m.val) 4).set (MOT_AX_STAT_CMDERR m.val) 0).motOn m.val ∧
      u.flag (MOT_AX_CTL_IDXEN m.val) = false ∧ t = (u.setMotState m.val mtHoming).setMx m.val { u.mx m.val with hStart := u.beat }) ∧
    (∃ (s : State) (u : State) (m : Fin 6), s.restful = true ∧ s.motLive = true ∧ s.rst.barrierDown = false ∧
      (s.begin.set (MOT_AX_CMD_OP m.val) 5).motCheck m.val 5 = 0 ∧ s.flag (MOT_AX_CMD_STAMPED m.val) = false ∧
      u = ((s.begin.set (MOT_AX_CMD_OP m.val) 5).set (MOT_AX_STAT_CMDERR m.val) 0).motOn m.val) ∧
    (∃ (s : State) (m : Fin 6) (c : MotStamp), s.motLive = true ∧ (s.mx m.val).stamped = some c ∧ c.due ≤ s.beat ∧
      s.rst.barrierDown = false ∧ s.motCan m.val = true ∧ motFullMode s.modeCode = true) :=
  ⟨⟨((({ ready with rst.barrierDown := false }.set (MOT_AX_CMD_STAMPED 0) 0).set (MOT_AX_CTL_EN 0) 1) : State), _, (0 : Fin 6),
      by decide +kernel, by decide +kernel, by decide +kernel, by decide +kernel, by decide +kernel, rfl, by decide +kernel⟩,
    ⟨({ ready with rst.barrierDown := false } : State), (0 : Fin 6), _, by decide +kernel, by decide +kernel, by decide +kernel, rfl,
      by decide +kernel⟩,
    ⟨(((({ ready with rst.barrierDown := false }.set (MOT_AX_CMD_STAMPED 0) 1).set (MOT_AX_CTL_EN 0) 1).set (MOT_AX_STAMP_HI_STAMP 0) 1) : State),
      (0 : Fin 6), _, _, by decide +kernel, by decide +kernel, by decide +kernel, rfl, by decide +kernel, by decide +kernel, rfl,
      by decide +kernel⟩,
    ⟨((({ ready with rst.barrierDown := false }.set (MOT_AX_CMD_STAMPED 0) 0).set (MOT_AX_CTL_EN 0) 1) : State), _, (0 : Fin 6),
      by decide +kernel, by decide +kernel, by decide +kernel, by decide +kernel, by decide +kernel, rfl, by decide +kernel⟩,
    ⟨(((({ ready with rst.barrierDown := false }.set (MOT_AX_CMD_STAMPED 0) 0).set (MOT_AX_CTL_EN 0) 1).set (MOT_AX_STAT_STATE 0) 3) : State),
      _, (0 : Fin 6), by decide +kernel, by decide +kernel, by decide +kernel, by decide +kernel, by decide +kernel, rfl, by decide +kernel⟩,
    ⟨(((({ ready with rst.barrierDown := false }.set (MOT_AX_CMD_STAMPED 0) 0).set (MOT_AX_CTL_EN 0) 1).set (MOT_AX_STAT_STATE 0) 1) : State),
      _, (0 : Fin 6), by decide +kernel, by decide +kernel, by decide +kernel, by decide +kernel, by decide +kernel, rfl, by decide +kernel⟩,
    ⟨(((({ ready with rst.barrierDown := false }.set (MOT_AX_CMD_STAMPED 0) 0).set (MOT_AX_CTL_IDXEN 0) 0).set (MOT_AX_CTL_EN 0) 1) : State),
      _, (0 : Fin 6), _, by decide +kernel, by decide +kernel, by decide +kernel, by decide +kernel, by decide +kernel, rfl,
      by decide +kernel, rfl⟩,
    ⟨((({ ready with rst.barrierDown := false }.set (MOT_AX_CMD_STAMPED 0) 0).set (MOT_AX_CTL_EN 0) 1) : State), _, (0 : Fin 6),
      by decide +kernel, by decide +kernel, by decide +kernel, by decide +kernel, by decide +kernel, rfl⟩,
    ⟨((State.setMx ({ ready with rst.barrierDown := false }.set (MOT_AX_CTL_EN 0) 1) 0 { stamped := some ({ op := 0, tgt := 0, due := 0 } : MotStamp) }) : State),
      (0 : Fin 6), ({ op := 0, tgt := 0, due := 0 } : MotStamp), by decide +kernel, by decide +kernel, by decide +kernel,
      by decide +kernel, by decide +kernel, by decide +kernel⟩⟩
theorem witness_MotionUpdates :
    (∃ (s : State) (m : Fin 6), s.restful = true ∧ s.motLive = true ∧ (s.mx m.val).updAt + 400 ≤ s.beat ∧ s.motRest m.val = true) ∧
    (∃ (s : State) (t : State) (u : State) (m : Fin 6), s.motLive = true ∧ (s.mx m.val).updAt + 400 ≤ s.beat ∧ s.motRest m.val = false ∧
      t = ((s.begin.setMx m.val { s.mx m.val with updAt := s.beat }).motSoft m.val).motAdvance m.val ∧ (t.mx m.val).hEdge = none ∧
      u = t.motRes m.val (s.mx m.val).pos (t.mx m.val).pos ∧ (u.mx m.val).phases ≠ []) ∧
    (∃ (s : State) (m : Fin 6) (w : Bool), s.restful = true ∧ s.motLive = true ∧ s.motState m.val ≠ mtOff ∧
      (s.mx m.val).pwmAt + 10000 ≤ s.beat ∧
      (w = if s.flag (MOT_AX_STAT_CURMODE m.val) then !decide (absQ (s.mx m.val).v < 7 * s.speed16 (MOT_AX_QS_VSTRONG m.val) / 8) else decide (s.speed16 (MOT_AX_QS_VSTRONG m.val) < absQ (s.mx m.val).v))) ∧
    (∃ (s : State) (m : Fin 6), s.restful = true ∧ s.motLive = true ∧ s.motRest m.val = false ∧
      absQ (s.mx m.val).v < s.speed16 (MOT_AX_QS_VBEMF m.val)) ∧
    (∃ (s : State) (t : State) (m : Fin 6), s.motLive = true ∧ s.motRest m.val = false ∧
      max 1 (s.get (MOT_AX_LA_NSTALL m.val)) ≤ (s.mx m.val).stalls ∧
      t = (s.begin.setMx m.val { s.mx m.val with p := ((s.mx m.val).pos : Rat), v := 0, a := 0, phases := [], done := 0, next := none, stalls := 0, restAt := s.beat, hEdge := none, hIdx := none }).setMotState m.val mtStalled) ∧
    (∃ (s : State) (m : Fin 6) (side : Bool) (f : Fld), s.motLive = true ∧
      (f = if side then MOT_AX_STAT_LIMP m.val else MOT_AX_STAT_LIMN m.val) ∧ s.flag f = false ∧ s.motState m.val ≠ mtHoming ∧
      ((if side then 0 < (s.mx m.val).v else (s.mx m.val).v < 0)) ∧ s.motRest m.val = false) ∧
    (∃ (s : State) (m : Fin 6) (side : Bool) (f : Fld), s.restful = true ∧ s.motLive = true ∧
      (f = if side then MOT_AX_STAT_LIMP m.val else MOT_AX_STAT_LIMN m.val) ∧ s.flag f = true ∧ s.motState m.val ≠ mtHoming) ∧
    (∃ (s : State) (m : Fin 6), s.motLive = true ∧ s.get (MOT_AX_LIMCFG_CHWIN m.val) ≠ 0) ∧
    (∃ (s : State) (m : Fin 6), s.motLive = true ∧ s.motState m.val = mtHoming ∧ s.get (MOT_AX_HTO_HTO m.val) ≠ 0 ∧
      (s.mx m.val).hStart + s.get (MOT_AX_HTO_HTO m.val) * 10 * beatsPerMs ≤ s.beat) :=
  ⟨⟨(ready : State), (0 : Fin 6), by decide +kernel, by decide +kernel, by decide +kernel, by decide +kernel⟩,
    ⟨((State.setMx (ready.set (MOT_AX_STAT_STATE 0) 3) 0 { phases := [⟨1000, 0, 0⟩] }) : State), _, _, (0 : Fin 6), by decide +kernel,
      by decide +kernel, by decide +kernel, rfl, by decide +kernel, rfl, by decide +kernel⟩,
    ⟨((ready.set (MOT_AX_STAT_STATE 0) 3) : State), (0 : Fin 6), _, by decide +kernel, by decide +kernel, by decide +kernel,
      by decide +kernel, rfl⟩,
    ⟨((ready.set (MOT_AX_STAT_STATE 0) 3) : State), (0 : Fin 6), by decide +kernel, by decide +kernel, by decide +kernel, by decide +kernel⟩,
    ⟨((State.setMx (ready.set (MOT_AX_STAT_STATE 0) 3) 0 { stalls := 1000 }) : State), _, (0 : Fin 6), by decide +kernel,
      by decide +kernel, by decide +kernel, rfl⟩,
    ⟨((State.setMx ((ready.set (if (false : Bool) then MOT_AX_STAT_LIMP 0 else MOT_AX_STAT_LIMN 0 : Fld) 0).set (MOT_AX_STAT_STATE 0) 3) 0 { v := -1 }) : State),
      (0 : Fin 6), (false : Bool), _, by decide +kernel, rfl, by decide +kernel, by decide +kernel, by decide +kernel, by decide +kernel⟩,
    ⟨((ready.set (if (false : Bool) then MOT_AX_STAT_LIMP 0 else MOT_AX_STAT_LIMN 0 : Fld) 1) : State), (0 : Fin 6), (false : Bool), _,
      by decide +kernel, by decide +kernel, rfl, by decide +kernel, by decide +kernel⟩,
    ⟨((ready.set (MOT_AX_LIMCFG_CHWIN 0) 1) : State), (0 : Fin 6), by decide +kernel, by decide +kernel⟩,
    ⟨(((ready.set (MOT_AX_STAT_STATE 0) mtHoming).set (MOT_AX_HTO_HTO 0) 1) : State), (0 : Fin 6), by decide +kernel, by decide +kernel,
      by decide +kernel, by decide +kernel⟩⟩
theorem witness_DriverAndBarrierEvents :
    (∃ (s : State), s.motLive = true) ∧
    (∃ (s : State) (t : State) (vm : BitVec 16), s.motShown = true ∧
      (vm.toNat < 100 * (if s.get MOT_CTL_VMUV = 0 then 10 else s.get MOT_CTL_VMUV)) ∧ t = s.begin.setPin true MOT_VM_VM vm.toNat) ∧
    (∃ (s : State) (t : State) (vm : BitVec 16), s.restful = true ∧
      (100 * (if s.get MOT_CTL_VMUV = 0 then 10 else s.get MOT_CTL_VMUV) ≤ vm.toNat) ∧ t = s.begin.setPin s.motShown MOT_VM_VM vm.toNat) ∧
    (∃ (s : State), s.restful = true ∧ (∀ m, m < 6 → (s.mx m).stamped = none)) :=
  ⟨⟨(ready : State), by decide +kernel⟩,
    ⟨(ready : State), _, (0 : BitVec 16), by decide +kernel, by decide +kernel, rfl⟩,
    ⟨(ready : State), _, (60000 : BitVec 16), by decide +kernel, by decide +kernel, rfl⟩,
    ⟨(ready : State), by decide +kernel, by decide +kernel⟩⟩
theorem witness_HostInterfaceCommands :
    (∃ (s : State) (bar : Bool) (off : BitVec 32) (a : Nat), s.hostLive = true ∧ s.flag HP_STAT_LINKUP = true ∧
      (a = if bar then s.get HP_WIN_BASE * 2 ^ 32 + off.toNat else 0x2000000000 + off.toNat % 2 ^ 25) ∧ s.region a = .reg ∧ a % 4 = 0 ∧
      s.blockHeld a = false) ∧
    (∃ (s : State) (n : BitVec 3) (w : BitVec 5), s.restful = true ∧ s.hostLive = true ∧ s.rst.refbBad = false ∧ 1 ≤ n.toNat ∧
      n.toNat ≤ 4 ∧ (w.toNat = 1 ∨ w.toNat = 2 ∨ w.toNat = 4)) ∧
    (∃ (s : State), s.flag HP_STAT_LINKUP = true) ∧
    (∃ (s : State) (v : Fin 64), s.restful = true ∧ s.host.msixPend.testBit v.val = false) ∧
    (∃ (s : State) (v : Fin 64), s.restful = true ∧ s.host.msixPend.testBit v.val = true ∧
      (s.get (cipField v.val)).testBit (v.val % 32) = true) ∧
    (∃ (s : State) (t : State) (ch : Fin 4) (v : Word), s.restful = true ∧ s.hostLive = true ∧ s.flag (HP_DMA_STAT_BUSY ch.val) = false ∧
      t = s.begin.set (HP_DMA_CTL_DIR ch.val) (bits v.toNat 0 0) ∧ t.get (HP_DMA_LEN_VALUE ch.val) ≠ 0) ∧
    (∃ (s : State) (ch : Fin 4), s.restful = true ∧ s.hostLive = true ∧ s.flag (HP_DMA_STAT_BUSY ch.val) = true) ∧
    (∃ (s : State) (ch : Fin 4), s.restful = true ∧ s.hostLive = true ∧ s.flag (HP_DMA_STAT_BUSY ch.val) = true ∧
      s.flag (HP_DMA_CTL_DIR ch.val) = true) ∧
    (∃ (s : State) (u : State) (ch : Fin 4) (data : List Byte) (l : List Byte) (e : Ecc) (x : Nat), s.hostLive = true ∧
      s.flag (HP_DMA_STAT_BUSY ch.val) = true ∧ s.flag (HP_DMA_CTL_DIR ch.val) = false ∧ s.get (HP_DMA_LEN_VALUE ch.val) ≤ data.length ∧
      split8 (s.pair (HP_DMA_TADDR_LO_ADDR ch.val) (HP_DMA_TADDR_HI_ADDR ch.val)) (data.take (s.get (HP_DMA_LEN_VALUE ch.val))) = [(x,
      l)] ∧ s.begin.dmaPut e x l = (none, u) ∧ u.flag (HP_DMA_STAT_BUSY ch.val) = true) ∧
    (∃ (s : State) (ch : Fin 4), s.hostLive = true ∧ s.flag (HP_DMA_STAT_BUSY ch.val) = true ∧ s.flag (HP_DMA_CTL_DIR ch.val) = true) :=
  ⟨⟨((ready.set HP_STAT_LINKUP 1) : State), (false : Bool), (0 : BitVec 32), _, by decide +kernel, by decide +kernel, rfl,
      by decide +kernel, by decide +kernel, by decide +kernel⟩,
    ⟨({ ready with rst.refbBad := false } : State), (2 : BitVec 3), (4 : BitVec 5), by decide +kernel, by decide +kernel,
      by decide +kernel, by decide +kernel, by decide +kernel, by decide +kernel⟩,
    ⟨((ready.set HP_STAT_LINKUP 1) : State), by decide +kernel⟩,
    ⟨(ready : State), (0 : Fin 64), by decide +kernel, by decide +kernel⟩,
    ⟨(({ ready with host.msixPend := 1 }.set (cipField 0) 1) : State), (0 : Fin 64), by decide +kernel, by decide +kernel,
      by decide +kernel⟩,
    ⟨(((ready.set (HP_DMA_STAT_BUSY 0) 0).set (HP_DMA_LEN_VALUE 0) 1) : State), _, (0 : Fin 4), (0 : Word), by decide +kernel,
      by decide +kernel, by decide +kernel, rfl, by decide +kernel⟩,
    ⟨((ready.set (HP_DMA_STAT_BUSY 0) 1) : State), (0 : Fin 4), by decide +kernel, by decide +kernel, by decide +kernel⟩,
    ⟨(((ready.set (HP_DMA_STAT_BUSY 0) 1).set (HP_DMA_CTL_DIR 0) 1) : State), (0 : Fin 4), by decide +kernel, by decide +kernel,
      by decide +kernel, by decide +kernel⟩,
    ⟨((((((ready.set (HP_DMA_STAT_BUSY 0) 1).set (HP_DMA_CTL_DIR 0) 0).set (HP_DMA_LEN_VALUE 0) 4).set (HP_DMA_TADDR_HI_ADDR 0) 0x10).set (HP_DMA_TADDR_LO_ADDR 0) 0x2000000) : State),
      _, (0 : Fin 4), ([1, 2, 3, 4] : List Byte), ([1, 2, 3, 4] : List Byte), (.clean : Ecc), (0x1002000000 : Nat), by decide +kernel,
      by decide +kernel, by decide +kernel, by decide +kernel, by decide +kernel, Prod.ext rfl rfl, by decide +kernel⟩,
    ⟨(((ready.set (HP_DMA_STAT_BUSY 0) 1).set (HP_DMA_CTL_DIR 0) 1) : State), (0 : Fin 4), by decide +kernel, by decide +kernel,
      by decide +kernel⟩⟩
theorem witness_MemoryInitAndBoot :
    (∃ (s : State), s.heldInReset 140 = false ∧ s.rst.phase = .off ∧ s.flag DRC_STAT_INIT = false ∧ s.modeCode ≠ mLowPower) ∧
    (∃ (s : State) (t : State) (c : Fin 3) (d : Fin 3), s.restful = true ∧ s.heldInReset 140 = false ∧ s.rst.phase = .off ∧
      s.flag DRC_STAT_INIT = false ∧ s.modeCode ≠ mLowPower ∧ (s.rst.dramSr && s.rst.vddqOk && s.rst.keepCase) = true ∧
      t = (((s.begin.set DRC_STAT_CAP (min c.val d.val)).set DRC_STAT_INIT 1).set DRC_STAT_SR 0).set DRC_STAT_KEPT 1 ∧ t.modeCode ≠ 1) ∧
    (∃ (s : State) (f : FlashResult) (im : Image), s.restful = true ∧ s.host.boot = .flash ∧ s.modeCode = 1 ∧ s.sysLive = true ∧
      f.responds = true ∧ s.hdrCheck f.header = 0 ∧ im = hdrImage f.header s.host.copy f.offset.toNat ∧ im.len ≤ f.payload.length) ∧
    (∃ (s : State) (f : FlashResult), s.host.boot = .flash ∧ s.modeCode = 1 ∧ s.sysLive = true ∧ f.responds = false) ∧
    (∃ (s : State) (hdr : Nat) (im : Image), s.restful = true ∧ s.sysLive = true ∧ s.flag SYS_BOOT_STAT_WAITHOST = true ∧
      s.host.boot = .waitHost ∧ hdr = s.pair SYS_BOOT_HDR_LO_ADDR SYS_BOOT_HDR_HI_ADDR ∧ s.region hdr = .progMem ∧
      s.region (hdr + 64 - 1) = .progMem ∧ s.hdrCheck (s.bytesAt hdr 64) = 0 ∧ im = hdrImage (s.bytesAt hdr 64) 3 hdr ∧
      s.region (hdr + 64) = .progMem ∧ s.region (hdr + 64 + im.len - 1) = .progMem) ∧
    (∃ (s : State) (t : State) (im : Image), s.restful = true ∧ s.host.image = some im ∧ s.host.boot = .loading ∧ s.modeCode = 1 ∧
      s.sysLive = true ∧ crc32 (s.bytesAt im.load im.len) = im.crc ∧ bit im.flags 1 = false ∧
      t = ((s.begin.set SYS_BOOT_STAT_USED im.src).set SYS_BOOT_STAT_RUNNING 1).set SYS_BOOT_STAT_WAITHOST 0) ∧
    (∃ (s : State) (im : Image), s.host.image = some im ∧ s.host.boot = .loading ∧ s.modeCode = 1 ∧ s.sysLive = true ∧
      crc32 (s.bytesAt im.load im.len) ≠ im.crc) ∧
    (∃ (s : State) (v : Word), s.restful = true ∧ s.rst.phase = .off ∧ v.toNat % 16 / 2 = 1 ∧ s.host.coresRun.testBit 1 = false ∧
      s.host.nmiPend.testBit 1 = false) :=
  ⟨⟨(({ ready with rst.phase := .off }.set DRC_STAT_INIT 0) : State), by decide +kernel, by decide +kernel, by decide +kernel,
      by decide +kernel⟩,
    ⟨(({ ready with rst.phase := .off, rst.dramSr := true, rst.vddqOk := true, rst.keepCase := true }.set DRC_STAT_INIT 0) : State), _,
      (0 : Fin 3), (0 : Fin 3), by decide +kernel, by decide +kernel, by decide +kernel, by decide +kernel, by decide +kernel,
      by decide +kernel, rfl, by decide +kernel⟩,
    ⟨(({ ready with host.boot := .flash }.set SYS_MODE_STAT_MODE 1) : State), (⟨true, 0, hdr64, [1, 2, 3, 4, 5, 6, 7, 8]⟩ : FlashResult),
      _, by decide +kernel, by decide +kernel, by decide +kernel, by decide +kernel, by decide +kernel, by decide +kernel, rfl,
      by decide +kernel⟩,
    ⟨(({ ready with host.boot := .flash }.set SYS_MODE_STAT_MODE 1) : State),
      ({ responds := false, offset := 0, header := [], payload := [] } : FlashResult), by decide +kernel, by decide +kernel,
      by decide +kernel, by decide +kernel⟩,
    ⟨(((({ ready with host.boot := .waitHost, mem := cellsOf 0x1002000000 hdr64 }.set SYS_BOOT_STAT_WAITHOST 1).set SYS_BOOT_HDR_LO_ADDR 0x400000).set SYS_BOOT_HDR_HI_ADDR 0x10) : State),
      (0x1002000000 : Nat), _, by decide +kernel, by decide +kernel, by decide +kernel, by decide +kernel, by decide +kernel,
      by decide +kernel, by decide +kernel, by decide +kernel, rfl, by decide +kernel, by decide +kernel⟩,
    ⟨(({ ready with host.image := some ({ src := 0, at_ := 0, load := 0, entry := 0, len := 0, flags := 0, crc := 0 } : Image), host.boot := .loading }.set SYS_MODE_STAT_MODE 1) : State),
      _, ({ src := 0, at_ := 0, load := 0, entry := 0, len := 0, flags := 0, crc := 0 } : Image), by decide +kernel, by decide +kernel,
      by decide +kernel, by decide +kernel, by decide +kernel, by decide +kernel, by decide +kernel, rfl⟩,
    ⟨(({ ready with host.image := some ({ src := 1, at_ := 0, load := 0x1002000000, entry := 0x1002000000, len := 8, flags := 0, crc := 0 } : Image), host.boot := .loading }.set SYS_MODE_STAT_MODE 1) : State),
      ({ src := 1, at_ := 0, load := 0x1002000000, entry := 0x1002000000, len := 8, flags := 0, crc := 0 } : Image), by decide +kernel,
      by decide +kernel, by decide +kernel, by decide +kernel, by decide +kernel⟩,
    ⟨({ ready with rst.phase := .off } : State), (2 : Word), by decide +kernel, by decide +kernel, by decide +kernel, by decide +kernel,
      by decide +kernel⟩⟩
theorem witness_IlluminationDrive :
    (∃ (s : State) (t : State) (ch : Fin 32) (n : Nat), s.restful = true ∧ s.ill.globalDue = none ∧ s.heldInReset 133 = false ∧
      s.begin.pwmBoundary ch.val = true ∧ s.illMode ch.val = 1 ∧ t = (s.begin.illOff ch.val).illCommit ch.val ∧
      n = (roundUp (mkRat (t.live (ILL_DUTY_DUTY ch.val) * t.illPeriod) 65536)).toNat ∧ t.illMode ch.val = 1 ∧ t.illMay ch.val = true ∧
      n ≠ 0) ∧
    (∃ (s : State) (ch : Fin 32), s.restful = true ∧ s.ill.globalDue = none ∧ s.begin.pwmBoundary ch.val = false) ∧
    (∃ (s : State) (ch : Fin 32), s.restful = true ∧ s.flag (ILL_DIAG_ON ch.val) = true ∧ s.illMode ch.val = 1 ∧
      (s.illCh ch.val).until_ ≤ s.beat) ∧
    (∃ (s : State) (t : State) (ch : Fin 32) (b : Nat) (rest : List Nat), s.restful = true ∧ s.ill.globalDue = none ∧
      s.heldInReset 133 = false ∧ (s.illCh ch.val).due = b :: rest ∧ b ≤ s.beat ∧ s.flag (ILL_DIAG_ON ch.val) = false ∧
      t = ((s.begin.setIllCh ch.val { s.begin.illCh ch.val with due := rest }).illOff ch.val).illCommit ch.val ∧ t.illMode ch.val = 2 ∧
      t.illMay ch.val = true ∧ t.live (ILL_STRB_SWIDTH ch.val) ≠ 0) ∧
    (∃ (s : State) (t : State) (ch : Fin 32) (b : Nat) (rest : List Nat), s.restful = true ∧ s.ill.globalDue = none ∧
      s.heldInReset 133 = false ∧ (s.illCh ch.val).due = b :: rest ∧ b ≤ s.beat ∧
      t = s.begin.setIllCh ch.val { s.begin.illCh ch.val with due := rest } ∧ s.flag (ILL_DIAG_ON ch.val) = true ∧ s.illMode ch.val = 2) ∧
    (∃ (s : State) (ch : Fin 32), s.restful = true ∧ s.flag (ILL_DIAG_ON ch.val) = true ∧ s.illMode ch.val = 2 ∧
      (s.illCh ch.val).until_ ≤ s.beat) ∧
    (∃ (s : State) (ch : Fin 32), s.restful = true ∧ s.illMay ch.val = true ∧ s.illMode ch.val = 2 ∧
      s.liveFlag (ILL_CH_DIAGP ch.val) = true ∧ s.flag (ILL_DIAG_ON ch.val) = false ∧
      (s.illCh ch.val).measured + 100 * beatsPerMs ≤ s.beat ∧ (s.ctx (s.live (ILL_CH_SRC ch.val))).trigUntil + 4000 = s.beat ∧
      s.nextTrigger (s.live (ILL_CH_SRC ch.val)) s.beat = none) :=
  ⟨⟨(((((({ ready with ill.globalDue := none }.set (ILL_CH_MODE 0) 1).set (ILL_CH_MODE 0).copy 1).set ILL_CTL_EN 1).set (ILL_DUTY_DUTY 0) 500).set (ILL_DUTY_DUTY 0).copy 500) : State),
      _, (0 : Fin 32), _, by decide +kernel, by decide +kernel, by decide +kernel, by decide +kernel, by decide +kernel, rfl, rfl,
      by decide +kernel, by decide +kernel, by decide +kernel⟩,
    ⟨({ ready with ill.globalDue := none, beat := 4 * 10 ^ 9 + 1 } : State), (0 : Fin 32), by decide +kernel, by decide +kernel,
      by decide +kernel⟩,
    ⟨((((ready.set (ILL_DIAG_ON 0) 1).set (ILL_CH_MODE 0) 1).set (ILL_CH_MODE 0).copy 1) : State), (0 : Fin 32), by decide +kernel,
      by decide +kernel, by decide +kernel, by decide +kernel⟩,
    ⟨((State.setIllCh (((((({ ready with ill.globalDue := none }.set (ILL_DIAG_ON 0) 0).set (ILL_CH_MODE 0) 2).set (ILL_CH_MODE 0).copy 2).set ILL_CTL_EN 1).set (ILL_STRB_SWIDTH 0) 5).set (ILL_STRB_SWIDTH 0).copy 5) 0 { due := (0 : Nat) :: ([] : List Nat) }) : State),
      _, (0 : Fin 32), (0 : Nat), ([] : List Nat), by decide +kernel, by decide +kernel, by decide +kernel, by decide +kernel,
      by decide +kernel, by decide +kernel, rfl, by decide +kernel, by decide +kernel, by decide +kernel⟩,
    ⟨((State.setIllCh ((({ ready with ill.globalDue := none }.set (ILL_DIAG_ON 0) 1).set (ILL_CH_MODE 0) 2).set (ILL_CH_MODE 0).copy 2) 0 { due := (0 : Nat) :: ([] : List Nat) }) : State),
      _, (0 : Fin 32), (0 : Nat), ([] : List Nat), by decide +kernel, by decide +kernel, by decide +kernel, by decide +kernel,
      by decide +kernel, rfl, by decide +kernel, by decide +kernel⟩,
    ⟨((((ready.set (ILL_DIAG_ON 0) 1).set (ILL_CH_MODE 0) 2).set (ILL_CH_MODE 0).copy 2) : State), (0 : Fin 32), by decide +kernel,
      by decide +kernel, by decide +kernel, by decide +kernel⟩,
    ⟨((State.setCtx ((((((ready.set (ILL_CH_MODE 0) 2).set (ILL_CH_MODE 0).copy 2).set (ILL_DIAG_ON 0) 0).set ILL_CTL_EN 1).set (ILL_CH_DIAGP 0) 1).set (ILL_CH_DIAGP 0).copy 1) 0 { trigUntil := 4 * 10 ^ 9 - 4000 }) : State),
      (0 : Fin 32), by decide +kernel, by decide +kernel, by decide +kernel, by decide +kernel, by decide +kernel, by decide +kernel,
      by decide +kernel, by decide +kernel⟩⟩
theorem witness_IlluminationDiagnostics :
    (∃ (s : State) (u : State) (v : State) (w : State) (c : Fin 4) (o : BitVec 32) (x : Rat), s.restful = true ∧ s.ill.globalDue = none ∧
      s.heldInReset 133 = false ∧ s.rst.phase = .off ∧ (¬ (o.toNat < 100 ∨ 2000000 < o.toNat)) ∧
      x = ntcTemp (s.get (ILL_NTC_BETA c.val)) (s.get (ILL_NTC_RNOM c.val)) o.toNat ∧
      u = (s.begin.set (ILL_TEMP_T c.val) (enc 16 (roundFree (10 * x) s.begin.freeNext))).draw ∧
      v = { u with ill := { u.ill with kc := Sparse.put 0x4000 u.ill.kc c.val (s.begin.illK c.val x) } } ∧
      (w = (List.range 8).foldl (fun y g => if y.illMode (4 * g + c.val) = 3 then y.illCommit (4 * g + c.val) else y) v) ∧
      ¬ (((s.get (ILL_TCFG_TMAX c.val) : Nat) : Rat) < x) ∧ s.flag (ILL_CSTAT_OVT c.val) = false) ∧
    (∃ (s : State) (c : Fin 4) (o : BitVec 32), s.ill.globalDue = none ∧ s.heldInReset 133 = false ∧ s.rst.phase = .off ∧
      (o.toNat < 100 ∨ 2000000 < o.toNat) ∧ s.flag (ILL_CSTAT_SENSE c.val) = false) ∧
    (∃ (s : State), s.heldInReset 133 = false) ∧
    (∃ (s : State) (t : State) (ch : Fin 32), s.heldInReset 133 = false ∧ t = (s.begin.set (ILL_DIAG_SINKOT ch.val) 0).illHeat ∧
      t.illMode ch.val ≠ 3) ∧
    (∃ (s : State) (ch : Fin 32) (mv : BitVec 16), s.restful = true ∧ s.heldInReset 133 = false ∧ s.flag (ILL_DIAG_ON ch.val) = true ∧
      800 ≤ s.begin.illQual ch.val ∧ 150 ≤ mv.toNat) ∧
    (∃ (s : State) (u : State) (t : State) (ch : Fin 32) (mv : BitVec 16), s.heldInReset 133 = false ∧
      s.flag (ILL_DIAG_ON ch.val) = true ∧ 800 ≤ s.begin.illQual ch.val ∧ mv.toNat < 150 ∧
      u = (s.begin.setIllCh ch.val { s.begin.illCh ch.val with acc := 0, onAt := s.beat - 80, measured := s.beat }).set (ILL_DIAG_UNVER ch.val) 0 ∧
      t = (u.illOff ch.val).set (ILL_DIAG_OPEN ch.val) 1) ∧
    (∃ (s : State) (ch : Fin 32), s.heldInReset 133 = false ∧ s.flag (ILL_DIAG_ON ch.val) = false ∧ s.flag ILL_CTL_SUPOK = true ∧
      s.flag (ILL_DIAG_SHORT ch.val) = false ∧ (s.illCh ch.val).offAt + 800 ≤ s.beat) ∧
    (∃ (s : State) (ch : Fin 32), s.heldInReset 133 = false ∧ s.illMode ch.val ≠ 0 ∧ s.flag (ILL_DIAG_UNVER ch.val) = false ∧
      (s.illCh ch.val).measured + 1000 * beatsPerMs ≤ s.beat) ∧
    (∃ (s : State), s.restful = true ∧ s.heldInReset 133 = false ∧
      (s.modeCode = mConfigure ∨ s.modeCode = mIdle ∨ s.modeCode = mCalibrate) ∧
      ((List.range 32).all (fun ch => !s.flag (ILL_DIAG_ON ch)) = true) ∧ s.ill.ntest = none) ∧
    (∃ (s : State) (b : Nat), s.restful = true ∧ s.heldInReset 133 = false ∧ s.ill.ntest = some b) ∧
    (∃ (s : State) (b : Nat), s.restful = true ∧ s.ill.ntest = some b ∧ b + 620 * beatsPerUs ≤ s.beat) ∧
    (∃ (s : State) (x : BitVec 31) (b : Nat), s.ill.ntest = some b ∧ b + 620 * beatsPerUs ≤ s.beat ∧ x.toNat ≠ 0) :=
  ⟨⟨(({ ready with ill.globalDue := none, rst.phase := .off }.set (ILL_CSTAT_OVT 0) 0) : State), _, _, _, (0 : Fin 4),
      (100000 : BitVec 32), _, by decide +kernel, by decide +kernel, by decide +kernel, by decide +kernel, by decide +kernel, rfl, rfl,
      rfl, rfl, by decide +kernel, by decide +kernel⟩,
    ⟨(({ ready with ill.globalDue := none, rst.phase := .off }.set (ILL_CSTAT_SENSE 0) 0) : State), (0 : Fin 4), (0 : BitVec 32),
      by decide +kernel, by decide +kernel, by decide +kernel, by decide +kernel, by decide +kernel⟩,
    ⟨(ready : State), by decide +kernel⟩,
    ⟨(ready : State), _, (0 : Fin 32), by decide +kernel, rfl, by decide +kernel⟩,
    ⟨((ready.set (ILL_DIAG_ON 0) 1) : State), (0 : Fin 32), (500 : BitVec 16), by decide +kernel, by decide +kernel, by decide +kernel,
      by decide +kernel, by decide +kernel⟩,
    ⟨((ready.set (ILL_DIAG_ON 0) 1) : State), _, _, (0 : Fin 32), (0 : BitVec 16), by decide +kernel, by decide +kernel,
      by decide +kernel, by decide +kernel, rfl, rfl⟩,
    ⟨((((ready.set (ILL_DIAG_ON 0) 0).set ILL_CTL_SUPOK 1).set (ILL_DIAG_SHORT 0) 0) : State), (0 : Fin 32), by decide +kernel,
      by decide +kernel, by decide +kernel, by decide +kernel, by decide +kernel⟩,
    ⟨((((ready.set (ILL_DIAG_UNVER 0) 0).set (ILL_CH_MODE 0) 1).set (ILL_CH_MODE 0).copy 1) : State), (0 : Fin 32), by decide +kernel,
      by decide +kernel, by decide +kernel, by decide +kernel⟩,
    ⟨(({ ready with ill.ntest := none }.set SYS_MODE_STAT_MODE mConfigure) : State), by decide +kernel, by decide +kernel,
      by decide +kernel, by decide +kernel, by decide +kernel⟩,
    ⟨({ ready with ill.ntest := some (0 : Nat) } : State), (0 : Nat), by decide +kernel, by decide +kernel, by decide +kernel⟩,
    ⟨({ ready with ill.ntest := some (0 : Nat) } : State), (0 : Nat), by decide +kernel, by decide +kernel, by decide +kernel⟩,
    ⟨({ ready with ill.ntest := some (0 : Nat) } : State), (1 : BitVec 31), (0 : Nat), by decide +kernel, by decide +kernel,
      by decide +kernel⟩⟩
theorem witness_ImagingCommands :
    (∃ (s : State) (n : Unit24) (p : CamPacket) (w : Nat) (hh : Nat), s.restful = true ∧ s.hlLive n.val = true ∧ s.inL0 n.val = true ∧
      2 ≤ s.get (HL_STAT_VERSION n.val) ∧ p.overflow = false ∧ camOk p = true ∧ s.imgRuns = true ∧ s.flag (LPE_CTL_EN n.val) = true ∧
      p.typ = 0x4C ∧ p.flags.toNat.testBit 0 = false ∧ (s.lpe n.val).active = true ∧ (s.lpe n.val).frame = p.frame.toNat ∧
      s.lpeGeom n.val = (w, hh) ∧ p.line.toNat < hh ∧ p.count.toNat = w ∧ (s.lpe n.val).rows.isEmpty = false) ∧
    (∃ (s : State) (n : Unit24) (p : CamPacket), s.restful = true ∧ s.hlLive n.val = true ∧ s.inL0 n.val = true ∧
      2 ≤ s.get (HL_STAT_VERSION n.val) ∧ p.overflow = false ∧ camOk p = false) ∧
    (∃ (s : State) (n : Unit24) (p : CamPacket), s.hlLive n.val = true ∧ s.inL0 n.val = true ∧ 2 ≤ s.get (HL_STAT_VERSION n.val) ∧
      p.overflow = true) ∧
    (∃ (s : State) (t : State) (c : Fin 4) (u : State), s.imgRuns = true ∧ s.flag (IMG_CTX_CTL_EN c.val) = true ∧
      t = (s.begin.ctxFrameEnd c.val).incWrap (IMG_CTX_FRAME_FRAME c.val) ∧
      (t.get (IMG_CTX_SLOTS_FREE c.val)).testBit ((t.ctx c.val).next % t.ctxBufs c.val) = true ∧
      u = t.setCtx c.val { t.ctx c.val with port := true, portLines := 0, latched := false } ∧ u.ctxDecide c.val = some []) ∧
    (∃ (s : State) (t : State) (c : Fin 4), s.imgRuns = true ∧ s.flag (IMG_CTX_CTL_EN c.val) = true ∧
      t = (s.begin.ctxFrameEnd c.val).incWrap (IMG_CTX_FRAME_FRAME c.val) ∧
      (t.get (IMG_CTX_SLOTS_FREE c.val)).testBit ((t.ctx c.val).next % t.ctxBufs c.val) = false) ∧
    (∃ (s : State) (t : State) (c : Fin 4) (p : LinePacket) (f : ImgFrame), s.restful = true ∧ s.imgRuns = true ∧
      s.flag (IMG_CTX_CTL_EN c.val) = true ∧ p.headOk = true ∧ (s.ctx c.val).port = true ∧ p.vc.val = s.get (IMG_CTX_CTL_VC c.val) ∧
      p.dt.toNat = s.get (IMG_CTX_CTL_DT c.val) ∧ (s.ctx c.val).latched = true ∧ p.overflow = false ∧ p.crcOk = true ∧
      (s.ctx c.val).cur = some f ∧ f.lines.length < f.set.height ∧
      (t = s.begin.setCtx c.val { s.begin.ctx c.val with portLines := (s.ctx c.val).portLines + 1, lineFirst := if (s.ctx c.val).portLines = 0 then s.beat else (s.ctx c.val).lineFirst, lineLast := s.beat })) ∧
    (∃ (s : State) (t : State) (c : Fin 4) (f : ImgFrame) (r : Rat), s.restful = true ∧ s.imgRuns = true ∧ (s.ctx c.val).port = true ∧
      (s.ctx c.val).latched = true ∧ (s.ctx c.val).cur = some f ∧ f.set.height ≤ f.lines.length ∧ 2 ≤ (s.ctx c.val).portLines ∧
      (s.ctx c.val).lineFirst < (s.ctx c.val).lineLast ∧
      r = (f.set.width : Rat) * 400000000 * (((s.ctx c.val).portLines - 1 : Nat) : Rat) / (((s.ctx c.val).lineLast - (s.ctx c.val).lineFirst : Nat) : Rat) ∧
      t = (s.begin.set (IMG_CTX_MRATE_R_C c.val) (roundIn (r / 1000000) s.begin.freeNext 4095)).draw) ∧
    (∃ (s : State) (c : Fin 4), s.restful = true ∧ s.imgRuns = true ∧ (s.ctx c.val).port = true ∧ (s.ctx c.val).latched = true ∧
      (s.ctx c.val).cur = none) ∧
    (∃ (s : State) (c : Fin 4) (f : ImgFrame) (l : List ImgFrame) (a : Nat), s.imgRuns = true ∧ (s.ctx c.val).done = f :: l ∧
      a = s.pair (IMG_CTX_BASE_LO_ADDR c.val) (IMG_CTX_BASE_HI_ADDR c.val) + f.slot * (64 * s.get (IMG_CTX_STRIDE_VALUE c.val)) ∧
      f.set.disp = true ∧ f.set.code = false ∧ f.set.mv = false ∧ f.set.stat = false) ∧
    (∃ (s : State) (c : Fin 4), s.restful = true ∧ s.imgRuns = true ∧ s.flag (IMG_CTX_TRIG_TRIGEN c.val) = true ∧
      (s.ctx c.val).trigWait = false ∧ s.camDue c.val = true ∧ s.camReady c.val = true) ∧
    (∃ (s : State) (c : Fin 4), s.restful = true ∧ s.imgRuns = true ∧ s.flag (IMG_CTX_TRIG_TRIGEN c.val) = true ∧
      (s.ctx c.val).trigWait = false ∧ s.camDue c.val = true ∧ s.camReady c.val = false) ∧
    (∃ (s : State), s.restful = true ∧ s.imgRuns = true) ∧
    (∃ (s : State), s.restful = true ∧ s.heldInReset 132 = false) ∧
    (∃ (s : State) (u : State) (c : Fin 4) (v : Word), s.restful = true ∧ s.heldInReset 132 = false ∧
      s.flag (IMG_CTX_CTL_EN c.val) = false ∧
      u = ((s.begin.ctxCtlFields c.val (v.toNat ||| 2 ^ 31)).set (IMG_CTX_CTL_CFA c.val) (bits (v.toNat ||| 2 ^ 31) 5 4)).set (IMG_CTX_CTL_PHASE c.val) (bits (v.toNat ||| 2 ^ 31) 3 0) ∧
      u.get (IMG_CTX_CTL_CFA c.val) = s.get (IMG_CTX_CTL_CFA c.val) ∧ u.get (IMG_CTX_CTL_PHASE c.val) = s.get (IMG_CTX_CTL_PHASE c.val)) ∧
    (∃ (s : State) (u : State) (k : Nat) (a : Nat) (r : List Nat), s.restful = true ∧ s.heldInReset 132 = false ∧
      s.flag IMG_CTL_MPREN = true ∧ s.mprRoom ≠ 0 ∧ s.img.mprFar = false ∧ (s.skz.reqs.any (fun r => r.own == some 1) = false) ∧
      (((List.range 48).map (fun i => (s.img.rr + i) % 48)).find? (fun k => (s.mprSource k).isSome) = some k) ∧ s.mprSource k = some r ∧
      a = (s.pair IMG_MPR_BASE_LO_ADDR IMG_MPR_BASE_HI_ADDR + 32 * s.get IMG_MPR_WPTR_WPTR) % 2 ^ 40 ∧
      (s.begin.mprPop k).region a = .dram ∧ (s.begin.mprPop k).sysLive = true ∧ (s.begin.mprPop k).memSpan a (words32 r).length = true ∧
      u = ({ s.begin.mprPop k with img := { (s.begin.mprPop k).img with rr := (k + 1) % 48, mprFar := true }, req := some 6, rst := { (s.begin.mprPop k).rst with dramFresh := false } } : State).store a (words32 r)) :=
  ⟨⟨((State.setLpe ((((((((ready.set (HL_STAT_STATE 0) 5).set (HL_STAT_VERSION 0) 2).set SYS_MODE_STAT_MODE 3).set (LPE_CTL_EN 0) 1).set (LPE_GEOM_WIDTH 0) 1).set (LPE_GEOM_WIDTH 0).copy 1).set (LPE_GEOM_HEIGHT 0) 1).set (LPE_GEOM_HEIGHT 0).copy 1) 0 { active := true, frame := 0, rows := [(0, [])] }) : State),
      (0 : Unit24),
      (sealCam { crc := 0, overflow := false, typ := 0x4C, flags := 0, frame := 0, line := 0, count := 1, pixels := [5] } : CamPacket),
      (1 : Nat), (1 : Nat), by decide +kernel, by decide +kernel, by decide +kernel, by decide +kernel, by decide +kernel,
      by decide +kernel, by decide +kernel, by decide +kernel, by decide +kernel, by decide +kernel, by decide +kernel,
      by decide +kernel, by decide +kernel, by decide +kernel, by decide +kernel, by decide +kernel⟩,
    ⟨(((ready.set (HL_STAT_STATE 0) 5).set (HL_STAT_VERSION 0) 2) : State), (0 : Unit24),
      ({ crc := 0, overflow := false, typ := 0, flags := 0, frame := 0, line := 0, count := 0, pixels := [] } : CamPacket),
      by decide +kernel, by decide +kernel, by decide +kernel, by decide +kernel, by decide +kernel, by decide +kernel⟩,
    ⟨(((ready.set (HL_STAT_STATE 0) 5).set (HL_STAT_VERSION 0) 2) : State), (0 : Unit24),
      (sealCam { crc := 0, overflow := true, typ := 0, flags := 0, frame := 0, line := 0, count := 0, pixels := [] } : CamPacket),
      by decide +kernel, by decide +kernel, by decide +kernel, by decide +kernel⟩,
    ⟨((((ready.set SYS_MODE_STAT_MODE 3).set (IMG_CTX_CTL_EN 0) 1).set (IMG_CTX_SLOTS_FREE 0) 0xFFFF) : State), _, (0 : Fin 4), _,
      by decide +kernel, by decide +kernel, rfl, by decide +kernel, rfl, by decide +kernel⟩,
    ⟨(((ready.set SYS_MODE_STAT_MODE 3).set (IMG_CTX_CTL_EN 0) 1) : State), _, (0 : Fin 4), by decide +kernel, by decide +kernel, rfl,
      by decide +kernel⟩,
    ⟨((State.setCtx (((ready.set SYS_MODE_STAT_MODE 3).set (IMG_CTX_CTL_EN 0) 1).set (IMG_CTX_CTL_DT 0) 0x2B) 0 { port := true, latched := true, cur := some ({ frame := 0, gen := 0, fs := 0, slot := 0, set := { width := 0, height := 1, dt := 0, cfa := 0, phase := 0, strken := false, ds := 0, stat := false, mv := false, code := false, disp := false, black := 0, gain := [], ccm := [], kir := [], x0 := 0, y0 := 0, x1 := 0, y1 := 0, axis := false, band := 0, hw := 0, thr := 0 } } : ImgFrame) }) : State),
      _, (0 : Fin 4), ({ headOk := true, vc := 0, dt := 0x2B, crcOk := true, overflow := false, pixels := [] } : LinePacket),
      ({ frame := 0, gen := 0, fs := 0, slot := 0, set := { width := 0, height := 1, dt := 0, cfa := 0, phase := 0, strken := false, ds := 0, stat := false, mv := false, code := false, disp := false, black := 0, gain := [], ccm := [], kir := [], x0 := 0, y0 := 0, x1 := 0, y1 := 0, axis := false, band := 0, hw := 0, thr := 0 } } : ImgFrame),
      by decide +kernel, by decide +kernel, by decide +kernel, by decide +kernel, by decide +kernel, by decide +kernel,
      by decide +kernel, by decide +kernel, by decide +kernel, by decide +kernel, by decide +kernel, by decide +kernel, rfl⟩,
    ⟨((State.setCtx (ready.set SYS_MODE_STAT_MODE 3) 0 { port := true, latched := true, cur := some ({ frame := 0, gen := 0, fs := 0, slot := 0, set := { width := 0, height := 0, dt := 0, cfa := 0, phase := 0, strken := false, ds := 0, stat := false, mv := false, code := false, disp := false, black := 0, gain := [], ccm := [], kir := [], x0 := 0, y0 := 0, x1 := 0, y1 := 0, axis := false, band := 0, hw := 0, thr := 0 } } : ImgFrame), portLines := 4, lineLast := 4000 }) : State),
      _, (0 : Fin 4),
      ({ frame := 0, gen := 0, fs := 0, slot := 0, set := { width := 0, height := 0, dt := 0, cfa := 0, phase := 0, strken := false, ds := 0, stat := false, mv := false, code := false, disp := false, black := 0, gain := [], ccm := [], kir := [], x0 := 0, y0 := 0, x1 := 0, y1 := 0, axis := false, band := 0, hw := 0, thr := 0 } } : ImgFrame),
      _, by decide +kernel, by decide +kernel, by decide +kernel, by decide +kernel, by decide +kernel, by decide +kernel,
      by decide +kernel, by decide +kernel, rfl, rfl⟩,
    ⟨((State.setCtx (ready.set SYS_MODE_STAT_MODE 3) 0 { port := true, latched := true, cur := none }) : State), (0 : Fin 4),
      by decide +kernel, by decide +kernel, by decide +kernel, by decide +kernel, by decide +kernel⟩,
    ⟨((State.setCtx (ready.set SYS_MODE_STAT_MODE 3) 0 { done := ({ frame := 0, gen := 0, fs := 0, slot := 0, set := { width := 0, height := 0, dt := 0, cfa := 0, phase := 0, strken := false, ds := 0, stat := false, mv := false, code := false, disp := true, black := 0, gain := [], ccm := [], kir := [], x0 := 0, y0 := 0, x1 := 0, y1 := 0, axis := false, band := 0, hw := 0, thr := 0 } } : ImgFrame) :: ([] : List ImgFrame) }) : State),
      (0 : Fin 4),
      ({ frame := 0, gen := 0, fs := 0, slot := 0, set := { width := 0, height := 0, dt := 0, cfa := 0, phase := 0, strken := false, ds := 0, stat := false, mv := false, code := false, disp := true, black := 0, gain := [], ccm := [], kir := [], x0 := 0, y0 := 0, x1 := 0, y1 := 0, axis := false, band := 0, hw := 0, thr := 0 } } : ImgFrame),
      ([] : List ImgFrame), _, by decide +kernel, by decide +kernel, rfl, by decide +kernel, by decide +kernel, by decide +kernel,
      by decide +kernel⟩,
    ⟨((State.setCtx ((((ready.set SYS_MODE_STAT_MODE 3).set (IMG_CTX_TRIG_TRIGEN 0) 1).set (IMG_CTX_TRIG_PERIOD_VALUE 0) 1).set (IMG_CTX_TRIG_PERIOD_VALUE 0).copy 1) 0 { trigWait := false }) : State),
      (0 : Fin 4), by decide +kernel, by decide +kernel, by decide +kernel, by decide +kernel, by decide +kernel, by decide +kernel⟩,
    ⟨((State.setCtx ((((ready.set SYS_MODE_STAT_MODE 3).set (IMG_CTX_TRIG_TRIGEN 0) 1).set (IMG_CTX_TRIG_PERIOD_VALUE 0) 1).set (IMG_CTX_TRIG_PERIOD_VALUE 0).copy 1) 0 { trigWait := false, latched := false }) : State),
      (0 : Fin 4), by decide +kernel, by decide +kernel, by decide +kernel, by decide +kernel, by decide +kernel, by decide +kernel⟩,
    ⟨((ready.set SYS_MODE_STAT_MODE 3) : State), by decide +kernel, by decide +kernel⟩,
    ⟨(ready : State), by decide +kernel, by decide +kernel⟩,
    ⟨((ready.set (IMG_CTX_CTL_EN 0) 0) : State), _, (0 : Fin 4), (0 : Word), by decide +kernel, by decide +kernel, by decide +kernel,
      rfl, by decide +kernel, by decide +kernel⟩,
    ⟨(({ ready with img.mprFar := false, img.recs := [(0, [1, 2])] }.set IMG_CTL_MPREN 1) : State), _, (0 : Nat), _, ([1, 2] : List Nat),
      by decide +kernel, by decide +kernel, by decide +kernel, by decide +kernel, by decide +kernel, by decide +kernel,
      by decide +kernel, by decide +kernel, rfl, by decide +kernel, by decide +kernel, by decide +kernel, rfl⟩⟩
theorem witness_SplitWhileBusyIsMissed :
    (∃ (s : State) (b id : Nat) (l : List SplitDue), s.restful = true ∧ s.splLive = true ∧ s.flag SPL_CTL_EN = true ∧
      s.flag SPL_STAT_BUSY = true ∧ s.flag SPL_CTL_INEN = true ∧ s.flt.splits = ⟨b, id⟩ :: l ∧ b ≤ s.beat) ∧
    (∃ s : State, s.restful = true ∧ s.splLive = true ∧ s.flag SPL_CTL_EN = true ∧
      s.flag SPL_STAT_DONE = true ∧ s.flag SPL_CTL_HOLD = true) :=
  ⟨⟨(({ ready with flt.splits := [⟨ready.beat, 0⟩] }.set SPL_CTL_EN 1).set SPL_STAT_BUSY 1).set SPL_CTL_INEN 1, ready.beat, 0, [],
      by decide +kernel, by decide +kernel, by decide +kernel, by decide +kernel, by decide +kernel, rfl, by decide +kernel⟩,
    ⟨((ready.set SPL_CTL_EN 1).set SPL_STAT_DONE 1).set SPL_CTL_HOLD 1, by decide +kernel, by decide +kernel, by decide +kernel,
      by decide +kernel, by decide +kernel⟩⟩
/-- RET with one return address, with none, and with a reserved bit set. -/
theorem witness_ReturnPopsTheStack :
    (∃ (s : State) (n : Unit24) (b : BitVec 58), s.restful = true ∧
      s.goes n.val (instrWords 0x2A (wordOf b) 0) (dirty (wordOf b) 57 0) = true ∧ s.get (ESC_SW_DEPTH n.val) = 0 + 1) ∧
    (∃ (s : State) (n : Unit24) (b : BitVec 58), s.restful = true ∧
      s.goes n.val (instrWords 0x2A (wordOf b) 0) (dirty (wordOf b) 57 0) = true ∧ s.get (ESC_SW_DEPTH n.val) = 0) ∧
    (∃ (s : State) (n : Unit24) (b : BitVec 58), s.restful = true ∧
      s.fetched n.val (instrWords 0x2A (wordOf b) 0) = true ∧ dirty (wordOf b) 57 0 = true) :=
  ⟨⟨(at_ 23 (instrWords 0x2A (wordOf 0) 0) ready).set (ESC_SW_DEPTH 23) 1, 23, 0, by decide +kernel, by decide +kernel, by decide +kernel⟩,
    ⟨at_ 0 (instrWords 0x2A (wordOf 0) 0) ready, 0, 0, by decide +kernel, by decide +kernel, by decide +kernel⟩,
    ⟨at_ 0 (instrWords 0x2A (wordOf 1) 0) ready, 0, 1, by decide +kernel, by decide +kernel, by decide +kernel⟩⟩
theorem witness_ConfigurationRequestsRetryUntilLoadEnds :
    (∃ s : State, s.restful = true ∧ s.rst.phase = .loading) ∧ (∃ s : State, s.restful = true ∧ s.rst.phase = .locking) ∧
    (∃ s : State, s.restful = true ∧ s.rst.phase = .off ∧ s.heldInReset 139 = false) :=
  ⟨⟨State.reset, by decide +kernel, rfl⟩, ⟨{ ready with rst.phase := .locking }, by decide +kernel, rfl⟩,
    ⟨ready, by decide +kernel, rfl, by decide +kernel⟩⟩
/-- LDI into g and into f, and with a reserved bit set. -/
theorem witness_LdiWritesOneRegister :
    (∃ (s : State) (n : Unit24) (b : BitVec 58), s.restful = true ∧ bit (wordOf b) 56 = false ∧
      s.goes n.val (instrWords 0x30 (wordOf b) 0) (isLong (wordOf b) || dirty (wordOf b) 55 52 || dirty (wordOf b) 46 32 ||
        (bit (wordOf b) 56 && decide (8 ≤ bits (wordOf b) 51 47))) = true) ∧
    (∃ (s : State) (n : Unit24) (b : BitVec 58), s.restful = true ∧ bit (wordOf b) 56 = true ∧
      s.goes n.val (instrWords 0x30 (wordOf b) 0) (isLong (wordOf b) || dirty (wordOf b) 55 52 || dirty (wordOf b) 46 32 ||
        (bit (wordOf b) 56 && decide (8 ≤ bits (wordOf b) 51 47))) = true) ∧
    (∃ (s : State) (n : Unit24) (b : BitVec 58), s.restful = true ∧ s.fetched n.val (instrWords 0x30 (wordOf b) 0) = true ∧
      (isLong (wordOf b) || dirty (wordOf b) 55 52 || dirty (wordOf b) 46 32 ||
        (bit (wordOf b) 56 && decide (8 ≤ bits (wordOf b) 51 47))) = true) :=
  ⟨⟨at_ 0 (instrWords 0x30 (wordOf 0xF8000FFFFFFFF) 0) ready, 0, 0xF8000FFFFFFFF, by decide +kernel, by decide +kernel, by decide +kernel⟩,
    ⟨at_ 0 (instrWords 0x30 (wordOf 0x103800000000001) 0) ready, 0, 0x103800000000001, by decide +kernel, by decide +kernel, by decide +kernel⟩,
    ⟨at_ 0 (instrWords 0x30 (wordOf 0x104000000000001) 0) ready, 0, 0x104000000000001, by decide +kernel, by decide +kernel, by decide +kernel⟩⟩
/-- LOOP on g1, on g0, and with a reserved bit set. -/
theorem witness_LoopCountsDown :
    (∃ (s : State) (n : Unit24) (b : BitVec 58), s.restful = true ∧ bits (wordOf b) 46 42 ≠ 0 ∧
      s.goes n.val (instrWords 0x2B (wordOf b) 0) (isLong (wordOf b) || dirty (wordOf b) 56 47 || dirty (wordOf b) 41 32) = true) ∧
    (∃ (s : State) (n : Unit24) (b : BitVec 58), s.restful = true ∧ bits (wordOf b) 46 42 = 0 ∧
      s.goes n.val (instrWords 0x2B (wordOf b) 0) (isLong (wordOf b) || dirty (wordOf b) 56 47 || dirty (wordOf b) 41 32) = true) ∧
    (∃ (s : State) (n : Unit24) (b : BitVec 58), s.restful = true ∧ s.fetched n.val (instrWords 0x2B (wordOf b) 0) = true ∧
      (isLong (wordOf b) || dirty (wordOf b) 56 47 || dirty (wordOf b) 41 32) = true) :=
  ⟨⟨at_ 0 (instrWords 0x2B (wordOf 0x40000000000) 0) ready, 0, 0x40000000000, by decide +kernel, by decide +kernel, by decide +kernel⟩,
    ⟨at_ 0 (instrWords 0x2B (wordOf 0) 0) ready, 0, 0, by decide +kernel, by decide +kernel, by decide +kernel⟩,
    ⟨at_ 0 (instrWords 0x2B (wordOf 0x100000000) 0) ready, 0, 0x100000000, by decide +kernel, by decide +kernel, by decide +kernel⟩⟩
/-- TRAP with CONT, before and after ESC_INT.CONT is set. -/
theorem witness_ContinuingTrapReportsAndGoesOn :
    (∃ (s : State) (n : Unit24) (b : BitVec 58), s.restful = true ∧ bit (wordOf b) 56 = true ∧ s.flag (ESC_INT_CONT n.val) = false ∧
      s.goes n.val (instrWords 0x2D (wordOf b) 0) (isLong (wordOf b) || dirty (wordOf b) 55 16) = true) ∧
    (∃ (s : State) (n : Unit24) (b : BitVec 58), s.restful = true ∧ bit (wordOf b) 56 = true ∧ s.flag (ESC_INT_CONT n.val) = true ∧
      s.goes n.val (instrWords 0x2D (wordOf b) 0) (isLong (wordOf b) || dirty (wordOf b) 55 16) = true) :=
  ⟨⟨at_ 0 (instrWords 0x2D (wordOf 0x10000000000FFFF) 0) ready, 0, 0x10000000000FFFF, by decide +kernel, by decide +kernel,
      by decide +kernel, by decide +kernel⟩,
    ⟨(at_ 0 (instrWords 0x2D (wordOf 0x100000000000000) 0) ready).set (ESC_INT_CONT 0) 1, 0, 0x100000000000000, by decide +kernel,
      by decide +kernel, by decide +kernel, by decide +kernel⟩⟩
theorem witness_LaserPortControlLockedWhileArmed :
    (∃ s : State, s.restful = true ∧ s.sysLive = true ∧ s.modeCode = mArmed ∧ s.armedOrExpose = true ∧ s.heldInReset 141 = false) ∧
    (∃ s : State, s.restful = true ∧ s.sysLive = true ∧ s.modeCode = mExpose ∧ s.armedOrExpose = true ∧ s.heldInReset 141 = false) :=
  ⟨⟨ready.set SYS_MODE_STAT_MODE mArmed, by decide +kernel, by decide +kernel, by decide +kernel, by decide +kernel, by decide +kernel⟩,
    ⟨ready.set SYS_MODE_STAT_MODE mExpose, by decide +kernel, by decide +kernel, by decide +kernel, by decide +kernel, by decide +kernel⟩⟩
/-- A read of two bytes by a core, and a write of eight by the host. -/
theorem witness_MisalignedRegisterAccessFails :
    (∃ (s : State) (m : Master) (a : Addr) (acc : Access), s.restful = true ∧ s.region a.toNat = .reg ∧
      regAccessOk a.toNat (accLen acc) = false ∧ ¬ (m.toNat = 4 ∧ accWrites acc = true)) ∧
    (∃ (s : State) (m : Master) (a : Addr) (acc : Access), s.restful = true ∧ s.region a.toNat = .reg ∧
      regAccessOk a.toNat (accLen acc) = false ∧ (m.toNat = 4 ∧ accWrites acc = true)) :=
  ⟨⟨ready, 0, 0x2000000100, .read 2, by decide +kernel, by decide +kernel, by decide +kernel, by decide +kernel⟩,
    ⟨ready, 4, 0x2000000100, .write [1, 2, 3, 4, 5, 6, 7, 8], by decide +kernel, by decide +kernel, by decide +kernel, by decide +kernel⟩⟩
theorem witness_LineCodingRoundTrip : ∃ c : Coder, c.run = 24 ∧ c.run ≤ 24 := ⟨⟨0x7FFFFFFF, true, 24⟩, rfl, by decide⟩
/-- Halted due in Expose, in Halted during a transition, and in Halted at rest. -/
theorem witness_ForcedHaltedOnTheNextBeat :
    (∃ s : State, s.modeCode ≠ 0 ∧ s.modeCode ≠ mHalted) ∧
    (∃ (s : State) (l : List Nat), s.modeCode = mHalted ∧ s.mode.trans.isSome = true ∧ s.mode.haltDue = some l) ∧
    (∃ s : State, s.modeCode = mHalted ∧ s.mode.trans = none ∧ s.mode.pend = none) ∧
    (∃ (s : State) (l : List Nat), s.modeCode = mExpose ∧ s.mode.haltDue = some l) :=
  ⟨⟨ready, by decide +kernel, by decide +kernel⟩,
    ⟨{ ready with mode.trans := some (⟨mIdle, 0, 0⟩, 0), mode.haltDue := some [2] }.set SYS_MODE_STAT_MODE mHalted, [2], by decide +kernel,
      by decide +kernel, rfl⟩,
    ⟨ready.set SYS_MODE_STAT_MODE mHalted, by decide +kernel, rfl, rfl⟩,
    ⟨{ ready with mode.haltDue := some [2] }.set SYS_MODE_STAT_MODE mExpose, [2], by decide +kernel, rfl⟩⟩
theorem witness_SkeuzLineRoundTrip : ∃ (y : Nat) (l : List Nat), l ≠ [] ∧ y < 4 ∧ ∀ x ∈ l, x < 4 := ⟨3, [0, 3], by decide, by decide, by decide⟩
end Sys2Proof.Tests
end

section
/-! SUPPORT. What every instruction that goes ends in, and what the program registers' writes leave of ESC_SW. -/
namespace Sys2Proof.Machine

/-! ### Fields of ESC_SW -/

/-- The field lies in ESC_SW of escapement `n` (R72). -/
def Fld.inSw (f : Fld) (n : Nat) : Prop := f.addr = 0x200010000c + 0x10000 * n ∧ f.lo < 32

theorem inSw_depth (n : Nat) : (ESC_SW_DEPTH n).inSw n := ⟨rfl, by simp [ESC_SW_DEPTH]⟩
theorem inSw_z (n : Nat) : (ESC_SW_Z n).inSw n := ⟨rfl, by simp [ESC_SW_Z]⟩
theorem inSw_n (n : Nat) : (ESC_SW_N n).inSw n := ⟨rfl, by simp [ESC_SW_N]⟩
theorem inSw_c (n : Nat) : (ESC_SW_C n).inSw n := ⟨rfl, by simp [ESC_SW_C]⟩
theorem inSw_v (n : Nat) : (ESC_SW_V n).inSw n := ⟨rfl, by simp [ESC_SW_V]⟩

section
variable {n : Nat} {f : Fld} (hf : f.inSw n)
include hf

theorem Fld.inSw.key_ne_of_addr {g : Fld} (hg : 0x200010000c + 0x10000 * n < g.addr) : f.key ≠ g.key := by
  obtain ⟨ha, hl⟩ := hf
  unfold Fld.key
  omega

theorem State.setPc_get_sw (s : State) (v : Nat) : (s.setPc n v).get f = s.get f :=
  State.get_setPair_ne _ _ _ _ _ (hf.key_ne_of_addr (by simp [ESC_PC_LO_ADDR])) (hf.key_ne_of_addr (by simp [ESC_PC_HI_ADDR]))

theorem State.advanced_get_sw (s : State) (ws : List Nat) : (s.advanced n ws).get f = s.get f :=
  State.advanced_get _ _ _ _ (hf.key_ne_of_addr (by simp [ESC_PC_LO_ADDR])) (hf.key_ne_of_addr (by simp [ESC_PC_HI_ADDR]))

theorem State.setG_get_sw (s : State) (k v : Nat) : (s.setG n k v).get f = s.get f := by
  unfold State.setG
  split
  · rfl
  · exact State.get_set_ne _ _ _ _ (hf.key_ne_of_addr (by simp [ESC_G_VALUE]; omega))

theorem State.setF_get_sw (s : State) (k v : Nat) : (s.setF n k v).get f = s.get f :=
  State.get_set_ne _ _ _ _ (hf.key_ne_of_addr (by simp [ESC_F_VALUE]; omega))

end

/-- The flags Z, N, C and V of escapement `n` read the same in two states (R72). -/
def State.sameZNCV (s t : State) (n : Nat) : Prop :=
  t.get (ESC_SW_Z n) = s.get (ESC_SW_Z n) ∧ t.get (ESC_SW_N n) = s.get (ESC_SW_N n) ∧
  t.get (ESC_SW_C n) = s.get (ESC_SW_C n) ∧ t.get (ESC_SW_V n) = s.get (ESC_SW_V n)

/-- A state in which every field of ESC_SW reads as before has the flags of before. -/
theorem State.sameZNCV_of_sw {s t : State} {n : Nat} (h : ∀ f : Fld, f.inSw n → t.get f = s.get f) : s.sameZNCV t n :=
  ⟨h _ (inSw_z n), h _ (inSw_n n), h _ (inSw_c n), h _ (inSw_v n)⟩

/-! ### An instruction with its settling -/

/-- An instruction that goes from a rest ends in the state its body answers, where the body leaves the escapement's own state, the
collector and the mode controller as its advance gave them. -/
theorem State.instr_goes_settle (s t : State) (n op w w1 : Nat) (ill : Bool) (body : State → Iss) (hs : s.restful = true)
    (h : s.goes n (instrWords op w w1) ill = true) (hb : body (s.advanced n (instrWords op w w1)) = .ok t)
    (he : t.esc n = (s.advanced n (instrWords op w w1)).esc n) (hc : t.ctrl = (s.advanced n (instrWords op w w1)).ctrl) :
    (s.begin.issue n (instrWords op w w1) ill body).settle = t := by
  have hstep : (t.esc n).stepping = (s.esc n).stepping := by rw [he, State.advanced_esc]
  rw [State.instr_goes s t n op w w1 ill body h hb hstep]
  exact State.settle_ctrl s t hs (hc.trans (State.advanced_ctrl ..))

end Sys2Proof.Machine
end

section
/-! RET, LOOP and LDI: what each does at its issue (R113, R114, R118). -/
namespace Sys2Proof.Machine

/-! ### RET -/

/-- What a RET does once its PC has advanced (R113). -/
def retBody (n : Nat) (t : State) : Iss :=
  let d := t.get (ESC_SW_DEPTH n)
  if d = 0 then .exc exStack 0
  else
    let a := t.pair (ESC_RSTK_LO_VALUE n (d - 1)) (ESC_RSTK_HI_VALUE n (d - 1))
    .ok (((t.setPair (ESC_RSTK_LO_VALUE n (d - 1)) (ESC_RSTK_HI_VALUE n (d - 1)) 0).set (ESC_SW_DEPTH n) (d - 1)).setPc n a)

theorem exec_ret (n : Unit24) (b : BitVec 58) (s : State) : exec (.ret n b) s =
    .next (s.begin.issue n.val (instrWords 0x2A (wordOf b) 0) (dirty (wordOf b) 57 0) (retBody n.val)).settle := rfl

theorem retBody_empty {n : Nat} {t : State} (h : t.get (ESC_SW_DEPTH n) = 0) : retBody n t = .exc exStack 0 := by
  unfold retBody
  rw [h, if_pos rfl]

theorem retBody_pop {n d : Nat} {t : State} (h : t.get (ESC_SW_DEPTH n) = d + 1) : retBody n t =
    .ok (((t.setPair (ESC_RSTK_LO_VALUE n d) (ESC_RSTK_HI_VALUE n d) 0).set (ESC_SW_DEPTH n) d).setPc n
      (t.pair (ESC_RSTK_LO_VALUE n d) (ESC_RSTK_HI_VALUE n d))) := by
  unfold retBody
  rw [h, if_neg (Nat.succ_ne_zero d), Nat.add_sub_cancel]

/-- Settles O49: the body runs on the advanced state, whose DEPTH is that of the state before, and pops or faults by it. -/
theorem returnPopsTheStack : Obligations.ReturnPopsTheStack := by
  unfold Obligations.ReturnPopsTheStack
  intro s n b ws hs hws
  subst hws
  have hdepth := State.advanced_get_sw (inSw_depth n.val) s (instrWords 0x2A (wordOf b) 0)
  refine ⟨fun d hgo hd => ?_, fun hgo hd => ?_, fun hfetch hill => ?_⟩
  · rw [exec_ret, State.instr_goes_settle s _ _ _ _ _ _ _ hs hgo (retBody_pop (hdepth.trans hd))]
    · rw [State.setPc_esc, State.set_esc, State.setPair_esc]
    · rw [State.setPc_ctrl, State.set_ctrl, State.setPair_ctrl]
  · rw [exec_ret, State.instr_exc s _ _ _ _ _ _ _ _ hgo (retBody_empty (hdepth.trans hd))]
  · rw [exec_ret, State.instr_illegal s _ _ _ _ _ _ hfetch hill]

/-! ### LDI -/

/-- The register write of an LDI (R118): f[RD] with F set, g[RD] with F clear. -/
def State.ldiWrite (t : State) (n w : Nat) : State :=
  if bit w 56 then t.setF n (bits w 51 47) (bits w 31 0) else t.setG n (bits w 51 47) (bits w 31 0)

theorem exec_ldi (n : Unit24) (b : BitVec 58) (s : State) : exec (.ldi n b) s =
    .next (s.begin.issue n.val (instrWords 0x30 (wordOf b) 0)
      (isLong (wordOf b) || dirty (wordOf b) 55 52 || dirty (wordOf b) 46 32 ||
        (bit (wordOf b) 56 && decide (8 ≤ bits (wordOf b) 51 47)))
      (fun t => .ok (t.ldiWrite n.val (wordOf b)))).settle := rfl

theorem State.ldiWrite_g {w : Nat} (t : State) (n : Nat) (h : bit w 56 = false) :
    t.ldiWrite n w = t.setG n (bits w 51 47) (bits w 31 0) := by
  unfold State.ldiWrite; rw [h, if_neg Bool.false_ne_true]

theorem State.ldiWrite_f {w : Nat} (t : State) (n : Nat) (h : bit w 56 = true) :
    t.ldiWrite n w = t.setF n (bits w 51 47) (bits w 31 0) := by
  unfold State.ldiWrite; rw [if_pos h]

theorem State.ldiWrite_esc (t : State) (n w : Nat) : (t.ldiWrite n w).esc n = t.esc n := by
  cases h : bit w 56
  · rw [State.ldiWrite_g t n h, State.setG_esc]
  · rw [State.ldiWrite_f t n h, State.setF_esc]

theorem State.ldiWrite_ctrl (t : State) (n w : Nat) : (t.ldiWrite n w).ctrl = t.ctrl := by
  cases h : bit w 56
  · rw [State.ldiWrite_g t n h, State.setG_ctrl]
  · rw [State.ldiWrite_f t n h, State.setF_ctrl]

theorem State.ldiWrite_get_sw {n : Nat} {f : Fld} (hf : f.inSw n) (t : State) (w : Nat) : (t.ldiWrite n w).get f = t.get f := by
  cases h : bit w 56
  · rw [State.ldiWrite_g t n h, State.setG_get_sw hf]
  · rw [State.ldiWrite_f t n h, State.setF_get_sw hf]

/-- Settles O51: the step is the advance followed by one register write, and neither reaches ESC_SW. -/
theorem ldiWritesOneRegister : Obligations.LdiWritesOneRegister := by
  unfold Obligations.LdiWritesOneRegister
  intro s n b ws hs hws
  subst hws
  refine ⟨fun hgo => ⟨(s.advanced n.val (instrWords 0x30 (wordOf b) 0)).ldiWrite n.val (wordOf b), ?_,
    State.ldiWrite_g _ _, State.ldiWrite_f _ _, State.sameZNCV_of_sw fun f hf => ?_⟩, fun hfetch hill => ?_⟩
  · rw [exec_ldi]
    exact congrArg _ (State.instr_goes_settle s _ _ _ _ _ _ _ hs hgo rfl (State.ldiWrite_esc ..) (State.ldiWrite_ctrl ..))
  · rw [State.ldiWrite_get_sw hf, State.advanced_get_sw hf]
  · rw [exec_ldi, State.instr_illegal s _ _ _ _ _ _ hfetch hill]

/-! ### LOOP -/

/-- The count a LOOP leaves of the count `x` (R114). -/
def loopCount (x : Nat) : Nat := (x + 2 ^ 32 - 1) % 2 ^ 32

/-- The effect of a LOOP at `pc` that leaves the count `r` (R114). -/
def State.loopTo (t : State) (n pc w r : Nat) : State :=
  if r = 0 then t.setG n (bits w 46 42) r else (t.setG n (bits w 46 42) r).setPc n (branchTo pc (bits w 31 0))

/-- What a LOOP at `pc` does once its PC has advanced (R114). -/
def loopBody (n pc w : Nat) (t : State) : Iss :=
  if bits w 46 42 = 0 then .exc exOperand 0 else .ok (t.loopTo n pc w (loopCount (t.g n (bits w 46 42))))

theorem exec_loop (n : Unit24) (b : BitVec 58) (s : State) : exec (.loop n b) s =
    .next (s.begin.issue n.val (instrWords 0x2B (wordOf b) 0)
      (isLong (wordOf b) || dirty (wordOf b) 56 47 || dirty (wordOf b) 41 32) (loopBody n.val (s.pc n.val) (wordOf b))).settle := rfl

theorem loopBody_g0 {w : Nat} (n pc : Nat) (t : State) (h : bits w 46 42 = 0) : loopBody n pc w t = .exc exOperand 0 := if_pos h

/-- The counter that a LOOP reads after its advance is that of the state before. -/
theorem loopBody_advanced {w : Nat} (s : State) (n pc : Nat) (ws : List Nat) (h : bits w 46 42 ≠ 0) :
    loopBody n pc w (s.advanced n ws) = .ok ((s.advanced n ws).loopTo n pc w (loopCount (s.g n (bits w 46 42)))) := by
  unfold loopBody
  rw [if_neg h, State.advanced_g]

theorem State.loopTo_esc (t : State) (n pc w r : Nat) : (t.loopTo n pc w r).esc n = t.esc n := by
  unfold State.loopTo
  split
  · rw [State.setG_esc]
  · rw [State.setPc_esc, State.setG_esc]

theorem State.loopTo_ctrl (t : State) (n pc w r : Nat) : (t.loopTo n pc w r).ctrl = t.ctrl := by
  unfold State.loopTo
  split
  · rw [State.setG_ctrl]
  · rw [State.setPc_ctrl, State.setG_ctrl]

theorem State.loopTo_get_sw {n : Nat} {f : Fld} (hf : f.inSw n) (t : State) (pc w r : Nat) : (t.loopTo n pc w r).get f = t.get f := by
  unfold State.loopTo
  split
  · rw [State.setG_get_sw hf]
  · rw [State.setPc_get_sw hf, State.setG_get_sw hf]

/-- Settles O52: the advance leaves the counter, the loop's write and branch follow, and none of them reaches ESC_SW. -/
theorem loopCountsDown : Obligations.LoopCountsDown := by
  unfold Obligations.LoopCountsDown
  intro s n b ws hs hws
  subst hws
  refine ⟨fun hgo hc => ⟨(s.advanced n.val (instrWords 0x2B (wordOf b) 0)).loopTo n.val (s.pc n.val) (wordOf b)
      (loopCount (s.g n.val (bits (wordOf b) 46 42))), _, ?_, rfl, rfl, State.sameZNCV_of_sw fun f hf => ?_⟩,
    fun hgo hc => ?_, fun hfetch hill => ?_⟩
  · rw [exec_loop, State.instr_goes_settle s _ _ _ _ _ _ _ hs hgo (loopBody_advanced s _ _ _ hc) (State.loopTo_esc ..)
      (State.loopTo_ctrl ..)]
  · rw [State.loopTo_get_sw hf, State.advanced_get_sw hf]
  · rw [exec_loop, State.instr_exc s _ _ _ _ _ _ _ _ hgo (loopBody_g0 _ _ _ hc)]
  · rw [exec_loop, State.instr_illegal s _ _ _ _ _ _ hfetch hill]

end Sys2Proof.Machine
end

section
/-! TRAP with CONT: the code is reported at issue and issue goes on (R163). -/
namespace Sys2Proof.Machine

/-- The report of a TRAP with CONT that carries `code` (R163). -/
def State.trapReport (t : State) (n code : Nat) : State := ((t.set (ESC_TCODE_CODE n) code).set (ESC_INT_CONT n) 1).escLine n

/-- What a TRAP at `pc` does once its PC has advanced (R116). -/
def trapBody (n pc w : Nat) (t : State) : Iss :=
  if bit w 56 then
    .ok ((if t.flag (ESC_INT_CONT n) then t.set (ESC_TCODE_OVF n) 1 else t).trapReport n (bits w 15 0))
  else .ok (t.issueWait n pc (fullWord 0x2D w) 8 (.trap (bits w 15 0)))

theorem exec_trap (n : Unit24) (b : BitVec 58) (s : State) : exec (.trap n b) s =
    .next (s.begin.issue n.val (instrWords 0x2D (wordOf b) 0) (isLong (wordOf b) || dirty (wordOf b) 55 16)
      (trapBody n.val (s.pc n.val) (wordOf b))).settle := rfl

theorem trapBody_first {n w : Nat} {t : State} (pc : Nat) (hw : bit w 56 = true) (hc : t.flag (ESC_INT_CONT n) = false) :
    trapBody n pc w t = .ok (t.trapReport n (bits w 15 0)) := by
  unfold trapBody
  rw [if_pos hw, hc, if_neg Bool.false_ne_true]

theorem trapBody_again {n w : Nat} {t : State} (pc : Nat) (hw : bit w 56 = true) (hc : t.flag (ESC_INT_CONT n) = true) :
    trapBody n pc w t = .ok ((t.set (ESC_TCODE_OVF n) 1).trapReport n (bits w 15 0)) := by
  unfold trapBody
  rw [if_pos hw, if_pos hc]

theorem State.escLine_esc (t : State) (k n : Nat) : (t.escLine k).esc n = t.esc n := by
  unfold State.esc State.escLine
  rw [State.refreshLine_escs]

theorem State.trapReport_esc (t : State) (n code : Nat) : (t.trapReport n code).esc n = t.esc n := by
  unfold State.trapReport
  rw [State.escLine_esc, State.set_esc, State.set_esc]

theorem State.trapReport_ctrl (t : State) (n code : Nat) : (t.trapReport n code).ctrl = t.ctrl := by
  unfold State.trapReport
  rw [State.escLine_ctrl, State.set_ctrl, State.set_ctrl]

/-- The advance writes the PC alone, and so leaves ESC_INT.CONT. -/
theorem State.advanced_flag_cont (s : State) (n : Nat) (ws : List Nat) :
    (s.advanced n ws).flag (ESC_INT_CONT n) = s.flag (ESC_INT_CONT n) := by
  have hget : (s.advanced n ws).get (ESC_INT_CONT n) = s.get (ESC_INT_CONT n) :=
    State.advanced_get _ _ _ _ (by simp only [Fld.key, ESC_INT_CONT, ESC_PC_LO_ADDR]; omega)
      (by simp only [Fld.key, ESC_INT_CONT, ESC_PC_HI_ADDR]; omega)
  unfold State.flag
  rw [hget]

/-- Settles O53: the advance leaves ESC_INT.CONT, by which the body sets OVF or not before it reports; the report touches neither
the escapement's own state nor what settling looks at. -/
theorem continuingTrapReportsAndGoesOn : Obligations.ContinuingTrapReportsAndGoesOn := by
  unfold Obligations.ContinuingTrapReportsAndGoesOn
  intro s n b ws hs hws hgo hbit
  subst hws
  have hcont := State.advanced_flag_cont s n.val (instrWords 0x2D (wordOf b) 0)
  refine ⟨fun hc => ?_, fun hc => ?_⟩
  · rw [exec_trap]
    exact congrArg _ (State.instr_goes_settle s _ _ _ _ _ _ _ hs hgo (trapBody_first _ hbit (hcont.trans hc))
      (State.trapReport_esc ..) (State.trapReport_ctrl ..))
  · rw [exec_trap]
    exact congrArg _ (State.instr_goes_settle s _ _ _ _ _ _ _ hs hgo (trapBody_again _ hbit (hcont.trans hc))
      ((State.trapReport_esc ..).trans (State.set_esc ..)) ((State.trapReport_ctrl ..).trans (State.set_ctrl ..)))

end Sys2Proof.Machine
end

section
/-! SUPPORT. A split that is missed (R587): the trigger and the split beat both end in the miss, and the miss leaves nothing to settle. -/
namespace Sys2Proof.Machine

/-- R587's condition for a miss, said of the three fields. -/
theorem State.splitBusy_iff (s : State) : s.splitBusy = true ↔
    (s.flag SPL_STAT_BUSY = true ∨ (s.flag SPL_STAT_DONE = true ∧ s.flag SPL_CTL_HOLD = true)) := by
  unfold State.splitBusy
  rw [Bool.or_eq_true, Bool.and_eq_true]

/-- After a rest, a missed split leaves nothing to settle: it asserts no source and makes no record. -/
theorem State.splitMiss_settle (s : State) (hs : s.restful = true) : s.begin.splitMiss.settle = s.begin.splitMiss :=
  State.settle_ctrl s _ hs (State.splitMiss_ctrl _)

section
variable {s : State} (hlive : s.splLive = true) (hen : s.flag SPL_CTL_EN = true) (hbusy : s.splitBusy = true)
include hlive hen hbusy

/-- A trigger that the unit takes is missed while it is busy (R587, log entry 57). -/
theorem State.splitTrigger_of_busy (byPin : Bool) (hpin : byPin = true → s.flag SPL_CTL_INEN = true) :
    s.splitTrigger byPin = s.splitMiss := by
  have htaken : (!s.splLive || !s.flag SPL_CTL_EN || (byPin && !s.flag SPL_CTL_INEN)) = false := by
    cases byPin with
    | false => simp [hlive, hen]
    | true => simp [hlive, hen, hpin rfl]
  unfold State.splitTrigger
  rw [htaken, if_neg Bool.false_ne_true, if_pos hbusy]

/-- A split whose beat has come is missed while the unit is busy (R587). -/
theorem State.splitTake_of_busy (id : Nat) : s.splitTake id = s.splitMiss := by
  have htaken : (!s.splLive || !s.flag SPL_CTL_EN) = false := by simp [hlive, hen]
  unfold State.splitTake
  rw [htaken, if_neg Bool.false_ne_true, if_pos hbusy]

end

/-- The state with the list of the splits to come replaced (R584). -/
def State.withSplits (s : State) (l : List SplitDue) : State := { s with flt := { s.flt with splits := l } }

/-- The first split of the list, once its beat has come, leaves the list and is taken. -/
theorem State.splitDueNow_cons {s : State} {b id : Nat} {l : List SplitDue} (hl : s.flt.splits = ⟨b, id⟩ :: l) (hb : b ≤ s.beat) :
    s.splitDueNow = (s.withSplits l).splitTake id := by
  have hdue : s.flt.splits.find? (fun (d : SplitDue) => decide (d.at_ ≤ s.beat)) = some ⟨b, id⟩ := by
    rw [hl]
    exact List.find?_cons_of_pos (decide_eq_true hb)
  have hrest : s.flt.splits.erase ⟨b, id⟩ = l := by rw [hl, List.erase_cons_head]
  unfold State.splitDueNow
  rw [hdue]
  dsimp only
  rw [hrest]
  rfl

/-- A trigger while the split unit is busy ends in the miss alone: nothing of the trigger is left to settle. -/
theorem State.splitTrigger_settle_of_busy {s : State} (hs : s.restful = true) (hlive : s.splLive = true)
    (hen : s.flag SPL_CTL_EN = true) (hbusy : s.splitBusy = true) (byPin : Bool)
    (hpin : byPin = true → s.flag SPL_CTL_INEN = true) : (s.begin.splitTrigger byPin).settle = s.begin.splitMiss := by
  rw [State.splitTrigger_of_busy (s := s.begin) hlive hen hbusy byPin hpin, State.splitMiss_settle s hs]

/-- A due split while the split unit is busy leaves the list and ends in the miss alone. -/
theorem State.splitDueNow_settle_of_busy {s : State} {b id : Nat} {l : List SplitDue} (hs : s.restful = true)
    (hlive : s.splLive = true) (hen : s.flag SPL_CTL_EN = true) (hbusy : s.splitBusy = true)
    (hl : s.flt.splits = ⟨b, id⟩ :: l) (hb : b ≤ s.beat) :
    s.begin.splitDueNow.settle = (s.begin.withSplits l).splitMiss := by
  have hdue : s.begin.splitDueNow = (s.begin.withSplits l).splitTake id := State.splitDueNow_cons hl hb
  rw [hdue, State.splitTake_of_busy (s := s.begin.withSplits l) hlive hen hbusy]
  exact State.splitMiss_settle (s.withSplits l) hs

/-! ### The commands -/

theorem exec_fire (s : State) : exec .fire s = .next (s.begin.splitTrigger false).settle := rfl
theorem exec_splitInEdge (s : State) : exec .splitInEdge s = .next (s.begin.splitTrigger true).settle := rfl
theorem exec_split (s : State) : exec .split s = .next s.begin.splitDueNow.settle := rfl

/-- Settles O48: FIRE and the edge of SPLIT_IN are missed at the trigger, the due split on its beat after it has left the list, and
the miss writes SPL_STAT and SPL_MISSCNT alone. -/
theorem splitWhileBusyIsMissed : Obligations.SplitWhileBusyIsMissed := by
  unfold Obligations.SplitWhileBusyIsMissed
  intro s hs hlive hen hfields
  have hbusy : s.splitBusy = true := s.splitBusy_iff.mpr hfields
  refine ⟨?_, fun hin => ?_, fun b id l hl hb => ?_⟩
  · rw [exec_fire, State.splitTrigger_settle_of_busy hs hlive hen hbusy false nofun]
    rfl
  · rw [exec_splitInEdge, State.splitTrigger_settle_of_busy hs hlive hen hbusy true (fun _ => hin)]
    rfl
  · rw [exec_split, State.splitDueNow_settle_of_busy hs hlive hen hbusy hl hb]
    rfl

end Sys2Proof.Machine
end

section
/-! Configuration requests (R595): the answer by the phase of the reset, and that the request leaves nothing to settle. -/
namespace Sys2Proof.Machine

theorem exec_configRequest (s : State) : exec .configRequest s = .next s.begin.configRequest.settle := rfl

/-- From the end of the internal reset until the end of Load the answer is the retry status (R595). -/
theorem State.configRequest_of_loading {s : State} (h : s.rst.phase = .locking ∨ s.rst.phase = .loading) :
    s.configRequest = s.emit (.config true) := by
  unfold State.configRequest
  obtain h | h := h <;> rw [h]

/-- Once Load has ended, a host block that is not held in reset answers normally (R595). -/
theorem State.configRequest_of_loaded {s : State} (h : s.rst.phase = .off) (hlive : s.heldInReset 139 = false) :
    s.configRequest = s.emit (.config false) := by
  unfold State.configRequest
  rw [h]
  exact if_neg (Bool.eq_false_iff.mp hlive)

/-- After a rest, a configuration request leaves nothing to settle: it asserts no source and makes no record. -/
theorem State.configRequest_settle (s : State) (hs : s.restful = true) : s.begin.configRequest.settle = s.begin.configRequest :=
  State.settle_ctrl s _ hs (State.configRequest_ctrl _)

/-- Settles O50: the step is the endpoint's answer by the phase, which beginning the command keeps, with nothing left to settle. -/
theorem configurationRequestsRetryUntilLoadEnds : Obligations.ConfigurationRequestsRetryUntilLoadEnds := by
  unfold Obligations.ConfigurationRequestsRetryUntilLoadEnds
  intro s hs
  rw [exec_configRequest, State.configRequest_settle s hs]
  refine ⟨fun hloading => ?_, fun hoff hlive => ?_⟩
  · rw [State.configRequest_of_loading (s := s.begin) hloading]
  · rw [State.configRequest_of_loaded (s := s.begin) hoff hlive]

end Sys2Proof.Machine
end

section
/-! SUPPORT. The invariant of every command and every step: a next state, the queue, and memory and the NV array in canonical form. -/
namespace Sys2Proof.Machine

/-- Every command answers a next state whose queue and memory stand as `Form` says. -/
theorem exec_form {q : List Instr} : ∀ (c : Instr) (s : State), Form q s.kept → ∃ t, exec c s = .next t ∧ Form q t.kept
  | .registerWrite m a v, s, hs => execRegisterWrite_form m a v s hs
  | .rcRead m a, s, hs => execRcRead_form m a s hs
  | .loReadLatch m a, s, hs => execLoReadLatch_form m a s hs
  | .memoryAccess m a acc ecc, s, hs => execMemoryAccess_form m a acc ecc s hs
  | .fabricWindowAccess m a acc, s, hs => execFabricWindowAccess_form m a acc s hs
  | .remoteTimeout tag, s, hs => execRemoteTimeout_form tag s hs
  | .refaFault, s, hs => execRefaFault_form s hs
  | .refbFault, s, hs => execRefbFault_form s hs
  | .barrierLinkLoss, s, hs => execBarrierLinkLoss_form s hs
  | .barrierLinkRelock, s, hs => execBarrierLinkRelock_form s hs
  | .modeRequest m v, s, hs => execModeRequest_form m v s hs
  | .modeTransitionComplete, s, hs => execModeTransitionComplete_form s hs
  | .pendingRequestStart, s, hs => execPendingRequestStart_form s hs
  | .transitionTimeout, s, hs => execTransitionTimeout_form s hs
  | .armingBeat, s, hs => execArmingBeat_form s hs
  | .layerComplete, s, hs => execLayerComplete_form s hs
  | .mark nn b w1, s, hs => execMark_form nn b w1 s hs
  | .jump nn b w1, s, hs => execJump_form nn b w1 s hs
  | .arc nn b w1, s, hs => execArc_form nn b w1 s hs
  | .spln nn b w1, s, hs => execSpln_form nn b w1 s hs
  | .dwell nn b w1, s, hs => execDwell_form nn b w1 s hs
  | .sky nn b, s, hs => execSky_form nn b s hs
  | .power nn b, s, hs => execPower_form nn b s hs
  | .speed nn b, s, hs => execSpeed_form nn b s hs
  | .wobble nn b, s, hs => execWobble_form nn b s hs
  | .delays nn b, s, hs => execDelays_form nn b s hs
  | .waitt nn b w1, s, hs => execWaitt_form nn b w1 s hs
  | .waittEnd nn, s, hs => execWaittEnd_form nn s hs
  | .sync nn b, s, hs => execSync_form nn b s hs
  | .await nn b w1, s, hs => execAwait_form nn b w1 s hs
  | .awaitTimeout nn, s, hs => execAwaitTimeout_form nn s hs
  | .claim nn b, s, hs => execClaim_form nn b s hs
  | .claimTimeout nn, s, hs => execClaimTimeout_form nn s hs
  | .yield nn b, s, hs => execYield_form nn b s hs
  | .float nn b, s, hs => execFloat_form nn b s hs
  | .dialq nn b ecc, s, hs => execDialq_form nn b ecc s hs
  | .tag nn b, s, hs => execTag_form nn b s hs
  | .layer nn b, s, hs => execLayer_form nn b s hs
  | .br nn b, s, hs => execBr_form nn b s hs
  | .call nn b, s, hs => execCall_form nn b s hs
  | .ret nn b, s, hs => execRet_form nn b s hs
  | .loop nn b, s, hs => execLoop_form nn b s hs
  | .halt nn b, s, hs => execHalt_form nn b s hs
  | .haltComplete nn, s, hs => execHaltComplete_form nn s hs
  | .trap nn b, s, hs => execTrap_form nn b s hs
  | .ldi nn b, s, hs => execLdi_form nn b s hs
  | .ld nn b w1, s, hs => execLd_form nn b w1 s hs
  | .loadComplete nn ecc, s, hs => execLoadComplete_form nn ecc s hs
  | .st nn b w1, s, hs => execSt_form nn b w1 s hs
  | .storeComplete nn ecc, s, hs => execStoreComplete_form nn ecc s hs
  | .mov nn b, s, hs => execMov_form nn b s hs
  | .add nn b, s, hs => execAdd_form nn b s hs
  | .sub nn b, s, hs => execSub_form nn b s hs
  | .and nn b, s, hs => execAnd_form nn b s hs
  | .or nn b, s, hs => execOr_form nn b s hs
  | .xor nn b, s, hs => execXor_form nn b s hs
  | .shl nn b, s, hs => execShl_form nn b s hs
  | .shr nn b, s, hs => execShr_form nn b s hs
  | .sra nn b, s, hs => execSra_form nn b s hs
  | .mul nn b, s, hs => execMul_form nn b s hs
  | .mulh nn b, s, hs => execMulh_form nn b s hs
  | .min nn b, s, hs => execMin_form nn b s hs
  | .max nn b, s, hs => execMax_form nn b s hs
  | .cmp nn b, s, hs => execCmp_form nn b s hs
  | .tst nn b, s, hs => execTst_form nn b s hs
  | .fadd nn b, s, hs => execFadd_form nn b s hs
  | .faddSub nn b, s, hs => execFaddSub_form nn b s hs
  | .faddMin nn b, s, hs => execFaddMin_form nn b s hs
  | .faddMax nn b, s, hs => execFaddMax_form nn b s hs
  | .fmul nn b, s, hs => execFmul_form nn b s hs
  | .fma nn b, s, hs => execFma_form nn b s hs
  | .fmaSub nn b, s, hs => execFmaSub_form nn b s hs
  | .i2f nn b, s, hs => execI2f_form nn b s hs
  | .f2i nn b, s, hs => execF2i_form nn b s hs
  | .f2ir nn b, s, hs => execF2ir_form nn b s hs
  | .p2f nn b, s, hs => execP2f_form nn b s hs
  | .f2p nn b, s, hs => execF2p_form nn b s hs
  | .fetchLineReturn nn a ecc, s, hs => execFetchLineReturn_form nn a ecc s hs
  | .prefetchComplete nn, s, hs => execPrefetchComplete_form nn s hs
  | .segmentCommit nn, s, hs => execSegmentCommit_form nn s hs
  | .segmentEnd nn, s, hs => execSegmentEnd_form nn s hs
  | .drainEnd nn, s, hs => execDrainEnd_form nn s hs
  | .retargetStopEnd nn, s, hs => execRetargetStopEnd_form nn s hs
  | .returnEnd nn, s, hs => execReturnEnd_form nn s hs
  | .timelineRestart nn, s, hs => execTimelineRestart_form nn s hs
  | .startCommand, s, hs => execStartCommand_form s hs
  | .startBarrierRelease, s, hs => execStartBarrierRelease_form s hs
  | .deviceBarrierRelease g, s, hs => execDeviceBarrierRelease_form g s hs
  | .deviceBarrierTimeout g, s, hs => execDeviceBarrierTimeout_form g s hs
  | .fabricBarrierDecision g, s, hs => execFabricBarrierDecision_form g s hs
  | .fabricBarrierTimeout g, s, hs => execFabricBarrierTimeout_form g s hs
  | .fabricBarrierLocalTimeout g, s, hs => execFabricBarrierLocalTimeout_form g s hs
  | .evset nn v, s, hs => execEvset_form nn v s hs
  | .evfire v, s, hs => execEvfire_form v s hs
  | .alarmMatch nn, s, hs => execAlarmMatch_form nn s hs
  | .start nn, s, hs => execStart_form nn s hs
  | .stop nn, s, hs => execStop_form nn s hs
  | .resume nn, s, hs => execResume_form nn s hs
  | .step nn, s, hs => execStep_form nn s hs
  | .flush nn, s, hs => execFlush_form nn s hs
  | .gcmdStart mask, s, hs => execGcmdStart_form mask s hs
  | .gcmdStop mask, s, hs => execGcmdStop_form mask s hs
  | .gcmdResume mask, s, hs => execGcmdResume_form mask s hs
  | .enableWrite nn v, s, hs => execEnableWrite_form nn v s hs
  | .setpointTick nn ecc, s, hs => execSetpointTick_form nn ecc s hs
  | .regulatorFallback nn, s, hs => execRegulatorFallback_form nn s hs
  | .autoretHandback nn, s, hs => execAutoretHandback_form nn s hs
  | .eventMaxDuration nn ty, s, hs => execEventMaxDuration_form nn ty s hs
  | .evqPop nn, s, hs => execEvqPop_form nn s hs
  | .dacUpdate nn, s, hs => execDacUpdate_form nn s hs
  | .gateEdge nn, s, hs => execGateEdge_form nn s hs
  | .laserAlarm nn, s, hs => execLaserAlarm_form nn s hs
  | .laserNotReady nn, s, hs => execLaserNotReady_form nn s hs
  | .interlockChange ch level, s, hs => execInterlockChange_form ch level s hs
  | .interlockDiscrepancy, s, hs => execInterlockDiscrepancy_form s hs
  | .ilkClr, s, hs => execIlkClr_form s hs
  | .depositCommit ecc, s, hs => execDepositCommit_form ecc s hs
  | .sweepSlot tile ecc, s, hs => execSweepSlot_form tile ecc s hs
  | .clear, s, hs => execClear_form s hs
  | .clearComplete, s, hs => execClearComplete_form s hs
  | .rebase, s, hs => execRebase_form s hs
  | .rebaseComplete ecc, s, hs => execRebaseComplete_form ecc s hs
  | .dialPeek m ecc, s, hs => execDialPeek_form m ecc s hs
  | .peerCheckResult k answer, s, hs => execPeerCheckResult_form k answer s hs
  | .bridgeBeat, s, hs => execBridgeBeat_form s hs
  | .poolRecordArrive nn ecc, s, hs => execPoolRecordArrive_form nn ecc s hs
  | .holdTimeout nn, s, hs => execHoldTimeout_form nn s hs
  | .reservationExpire nn, s, hs => execReservationExpire_form nn s hs
  | .jobDispatch head, s, hs => execJobDispatch_form head s hs
  | .commandRelease head, s, hs => execCommandRelease_form head s hs
  | .balNop ax pc, s, hs => execBalNop_form ax pc s hs
  | .balFma ax pc, s, hs => execBalFma_form ax pc s hs
  | .balFms ax pc, s, hs => execBalFms_form ax pc s hs
  | .balMulr ax pc, s, hs => execBalMulr_form ax pc s hs
  | .balAdd ax pc, s, hs => execBalAdd_form ax pc s hs
  | .balSub ax pc, s, hs => execBalSub_form ax pc s hs
  | .balMin ax pc, s, hs => execBalMin_form ax pc s hs
  | .balMax ax pc, s, hs => execBalMax_form ax pc s hs
  | .balClmp ax pc, s, hs => execBalClmp_form ax pc s hs
  | .balSel ax pc, s, hs => execBalSel_form ax pc s hs
  | .balTbl ax pc, s, hs => execBalTbl_form ax pc s hs
  | .balSgn ax pc, s, hs => execBalSgn_form ax pc s hs
  | .telemetryLoss head, s, hs => execTelemetryLoss_form head s hs
  | .servoTracking ax, s, hs => execServoTracking_form ax s hs
  | .approachEnd ax, s, hs => execApproachEnd_form ax s hs
  | .axisClose ax, s, hs => execAxisClose_form ax s hs
  | .axisOpen ax, s, hs => execAxisOpen_form ax s hs
  | .swapRequest w v, s, hs => execSwapRequest_form w v s hs
  | .rateWrite v, s, hs => execRateWrite_form v s hs
  | .injectionRun g v, s, hs => execInjectionRun_form g v s hs
  | .injectionStop g, s, hs => execInjectionStop_form g s hs
  | .captureStart c v, s, hs => execCaptureStart_form c v s hs
  | .captureStop c, s, hs => execCaptureStop_form c s hs
  | .captureWriteComplete c ecc, s, hs => execCaptureWriteComplete_form c ecc s hs
  | .trnSlot nn slot, s, hs => execTrnSlot_form nn slot s hs
  | .rateSwitch nn, s, hs => execRateSwitch_form nn s hs
  | .equaliseDone nn, s, hs => execEqualiseDone_form nn s hs
  | .linkStateTimeout nn, s, hs => execLinkStateTimeout_form nn s hs
  | .tlmSlot nn slot, s, hs => execTlmSlot_form nn slot s hs
  | .pdSlot nn slot, s, hs => execPdSlot_form nn slot s hs
  | .cameraPacket nn pkt, s, hs => execCameraPacket_form nn pkt s hs
  | .resp nn slot, s, hs => execResp_form nn slot s hs
  | .hlTresp nn slot, s, hs => execHlTresp_form nn slot s hs
  | .pm nn slot, s, hs => execPm_form nn slot s hs
  | .lossOfFrame nn, s, hs => execLossOfFrame_form nn s hs
  | .timeTrackExchange nn, s, hs => execTimeTrackExchange_form nn s hs
  | .eqTrackStep nn peak, s, hs => execEqTrackStep_form nn peak s hs
  | .cfgResend nn, s, hs => execCfgResend_form nn s hs
  | .svcRetry nn, s, hs => execSvcRetry_form nn s hs
  | .l0sEntry nn, s, hs => execL0sEntry_form nn s hs
  | .linkWakeDetect nn, s, hs => execLinkWakeDetect_form nn s hs
  | .linkEnable nn, s, hs => execLinkEnable_form nn s hs
  | .retrain nn, s, hs => execRetrain_form nn s hs
  | .l1req nn, s, hs => execL1req_form nn s hs
  | .wake nn, s, hs => execWake_form nn s hs
  | .svcGo nn v, s, hs => execSvcGo_form nn v s hs
  | .portUp p, s, hs => execPortUp_form p s hs
  | .portTrainTimeout p, s, hs => execPortTrainTimeout_form p s hs
  | .portDown p, s, hs => execPortDown_form p s hs
  | .replay p, s, hs => execReplay_form p s hs
  | .portRetrain p, s, hs => execPortRetrain_form p s hs
  | .idle p h, s, hs => execIdle_form p h s hs
  | .hello p h f, s, hs => execHello_form p h f s hs
  | .helloSend, s, hs => execHelloSend_form s hs
  | .topo p h f, s, hs => execTopo_form p h f s hs
  | .topoSend, s, hs => execTopoSend_form s hs
  | .addressAssign, s, hs => execAddressAssign_form s hs
  | .assign p h f, s, hs => execAssign_form p h f s hs
  | .joinTimeout, s, hs => execJoinTimeout_form s hs
  | .rreq p h f ecc, s, hs => execRreq_form p h f ecc s hs
  | .wreq p h f ecc, s, hs => execWreq_form p h f ecc s hs
  | .rrsp p h f, s, hs => execRrsp_form p h f s hs
  | .wrsp p h f, s, hs => execWrsp_form p h f s hs
  | .tsync p h f, s, hs => execTsync_form p h f s hs
  | .tresp p h f, s, hs => execTresp_form p h f s hs
  | .timeSyncExchange, s, hs => execTimeSyncExchange_form s hs
  | .bcast p h f, s, hs => execBcast_form p h f s hs
  | .bcastStart, s, hs => execBcastStart_form s hs
  | .bcastMode, s, hs => execBcastMode_form s hs
  | .bcastSplit, s, hs => execBcastSplit_form s hs
  | .bcastReset, s, hs => execBcastReset_form s hs
  | .bcastRelease, s, hs => execBcastRelease_form s hs
  | .bcastAbort, s, hs => execBcastAbort_form s hs
  | .bcastJoined, s, hs => execBcastJoined_form s hs
  | .bcmdStart v, s, hs => execBcmdStart_form v s hs
  | .bcmdMode v, s, hs => execBcmdMode_form v s hs
  | .bcmdSplit v, s, hs => execBcmdSplit_form v s hs
  | .bcmdReset v, s, hs => execBcmdReset_form v s hs
  | .reportBarrierReady p h f, s, hs => execReportBarrierReady_form p h f s hs
  | .reportLayerJoined p h f, s, hs => execReportLayerJoined_form p h f s hs
  | .reportLayerDone p h f, s, hs => execReportLayerDone_form p h f s hs
  | .reportJoinReady p h f, s, hs => execReportJoinReady_form p h f s hs
  | .ddep p h f, s, hs => execDdep_form p h f s hs
  | .ddepFlush peer, s, hs => execDdepFlush_form peer s hs
  | .frameStart c, s, hs => execFrameStart_form c s hs
  | .linePacket c line, s, hs => execLinePacket_form c line s hs
  | .frameEnd c, s, hs => execFrameEnd_form c s hs
  | .frameComplete c ecc, s, hs => execFrameComplete_form c ecc s hs
  | .cameraTrigger c, s, hs => execCameraTrigger_form c s hs
  | .soft c, s, hs => execSoft_form c s hs
  | .slotRelease c v, s, hs => execSlotRelease_form c v s hs
  | .contextEnable c v, s, hs => execContextEnable_form c v s hs
  | .mprWriteComplete ecc, s, hs => execMprWriteComplete_form ecc s hs
  | .pwmPeriodStart ch, s, hs => execPwmPeriodStart_form ch s hs
  | .pwmDutyEnd ch, s, hs => execPwmDutyEnd_form ch s hs
  | .strobeStart ch, s, hs => execStrobeStart_form ch s hs
  | .strobeEnd ch, s, hs => execStrobeEnd_form ch s hs
  | .ntcConversion c ohms, s, hs => execNtcConversion_form c ohms s hs
  | .sinkOvertemp ch hot, s, hs => execSinkOvertemp_form ch hot s hs
  | .lampMeasurement ch mv, s, hs => execLampMeasurement_form ch mv s hs
  | .lampShort ch, s, hs => execLampShort_form ch s hs
  | .diagPulse ch, s, hs => execDiagPulse_form ch s hs
  | .lampUnverified ch, s, hs => execLampUnverified_form ch s hs
  | .ntest, s, hs => execNtest_form s hs
  | .neighbourTestDone shorts, s, hs => execNeighbourTestDone_form shorts s hs
  | .move ax, s, hs => execMove_form ax s hs
  | .vel ax, s, hs => execVel_form ax s hs
  | .axisStop ax, s, hs => execAxisStop_form ax s hs
  | .home ax, s, hs => execHome_form ax s hs
  | .setpos ax, s, hs => execSetpos_form ax s hs
  | .stampedStart ax, s, hs => execStampedStart_form ax s hs
  | .profileUpdate ax, s, hs => execProfileUpdate_form ax s hs
  | .coilPwmPeriod ax, s, hs => execCoilPwmPeriod_form ax s hs
  | .loadAngleMeasurement ax lam, s, hs => execLoadAngleMeasurement_form ax lam s hs
  | .stall ax, s, hs => execStall_form ax s hs
  | .limitInput ax side level, s, hs => execLimitInput_form ax side level s hs
  | .chatterWindow ax side, s, hs => execChatterWindow_form ax side s hs
  | .homingTimeout ax, s, hs => execHomingTimeout_form ax s hs
  | .driverFault ax, s, hs => execDriverFault_form ax s hs
  | .motorBusUv vm, s, hs => execMotorBusUv_form vm s hs
  | .encoderCount e a b, s, hs => execEncoderCount_form e a b s hs
  | .illegalWindow e, s, hs => execIllegalWindow_form e s hs
  | .indexEdge e, s, hs => execIndexEdge_form e s hs
  | .speedWindow e, s, hs => execSpeedWindow_form e s hs
  | .encPosWrite e v, s, hs => execEncPosWrite_form e v s hs
  | .rextMeasurement bad, s, hs => execRextMeasurement_form bad s hs
  | .calStepStart, s, hs => execCalStepStart_form s hs
  | .calStepComplete codes, s, hs => execCalStepComplete_form codes s hs
  | .calStepTimeout, s, hs => execCalStepTimeout_form s hs
  | .trimSave, s, hs => execTrimSave_form s hs
  | .trimSaveComplete verifyA verifyB, s, hs => execTrimSaveComplete_form verifyA verifyB s hs
  | .calRestart, s, hs => execCalRestart_form s hs
  | .powerOnReset level, s, hs => execPowerOnReset_form level s hs
  | .supplyReset rr level mv, s, hs => execSupplyReset_form rr level mv s hs
  | .resetNInput level, s, hs => execResetNInput_form level s hs
  | .watchdogExpiry, s, hs => execWatchdogExpiry_form s hs
  | .kick, s, hs => execKick_form s hs
  | .warm, s, hs => execWarm_form s hs
  | .cntclr, s, hs => execCntclr_form s hs
  | .pcieHotReset level, s, hs => execPcieHotReset_form level s hs
  | .functionLevelReset, s, hs => execFunctionLevelReset_form s hs
  | .backupDomainLoss level, s, hs => execBackupDomainLoss_form level s hs
  | .resetDriveRelease, s, hs => execResetDriveRelease_form s hs
  | .resetRelease, s, hs => execResetRelease_form s hs
  | .pllLocked, s, hs => execPllLocked_form s hs
  | .loadCommit, s, hs => execLoadCommit_form s hs
  | .blockReset r v, s, hs => execBlockReset_form r v s hs
  | .blockResetEnd blk, s, hs => execBlockResetEnd_form blk s hs
  | .faultMaskLift blk, s, hs => execFaultMaskLift_form blk s hs
  | .railBelowWarning rr mv, s, hs => execRailBelowWarning_form rr mv s hs
  | .supplyDip rr, s, hs => execSupplyDip_form rr s hs
  | .railAboveWarning rr mv, s, hs => execRailAboveWarning_form rr mv s hs
  | .supplyRecovered rr mv, s, hs => execSupplyRecovered_form rr mv s hs
  | .resumeSupply, s, hs => execResumeSupply_form s hs
  | .avsSlackReport slack, s, hs => execAvsSlackReport_form slack s hs
  | .avsResponse ok, s, hs => execAvsResponse_form ok s hs
  | .avsTimeout, s, hs => execAvsTimeout_form s hs
  | .lpEntryComplete, s, hs => execLpEntryComplete_form s hs
  | .wakeEvent src, s, hs => execWakeEvent_form src s hs
  | .wakeTimer, s, hs => execWakeTimer_form s hs
  | .wakeComplete, s, hs => execWakeComplete_form s hs
  | .pwrEnRaise, s, hs => execPwrEnRaise_form s hs
  | .powerSequenceTimeout, s, hs => execPowerSequenceTimeout_form s hs
  | .powerSequenceRestart, s, hs => execPowerSequenceRestart_form s hs
  | .faultSourceAssert src, s, hs => execFaultSourceAssert_form src s hs
  | .railFault src, s, hs => execRailFault_form src s hs
  | .chipResetHoldEnd, s, hs => execChipResetHoldEnd_form s hs
  | .escalationWindow blk, s, hs => execEscalationWindow_form blk s hs
  | .assert, s, hs => execAssert_form s hs
  | .release, s, hs => execRelease_form s hs
  | .captureClear, s, hs => execCaptureClear_form s hs
  | .injectionArm v, s, hs => execInjectionArm_form v s hs
  | .injectionDisarm, s, hs => execInjectionDisarm_form s hs
  | .injectionRecheck active, s, hs => execInjectionRecheck_form active s hs
  | .nvWrite m a v result, s, hs => execNvWrite_form m a v result s hs
  | .rowRemapComplete, s, hs => execRowRemapComplete_form s hs
  | .chronographRecordWrite result, s, hs => execChronographRecordWrite_form result s hs
  | .swrec v, s, hs => execSwrec_form v s hs
  | .splitInEdge, s, hs => execSplitInEdge_form s hs
  | .fire, s, hs => execFire_form s hs
  | .split, s, hs => execSplit_form s hs
  | .splitCollectionDone, s, hs => execSplitCollectionDone_form s hs
  | .doneclr, s, hs => execDoneclr_form s hs
  | .hostRequest bar off acc ecc, s, hs => execHostRequest_form bar off acc ecc s hs
  | .configRequest, s, hs => execConfigRequest_form s hs
  | .pcieLinkChange up speed width, s, hs => execPcieLinkChange_form up speed width s hs
  | .msixUnmask vec, s, hs => execMsixUnmask_form vec s hs
  | .dmaGo ch v, s, hs => execDmaGo_form ch v s hs
  | .dmaStop ch, s, hs => execDmaStop_form ch s hs
  | .dmaDone ch data ecc, s, hs => execDmaDone_form ch data ecc s hs
  | .dmaError ch hostSide a, s, hs => execDmaError_form ch hostSide a s hs
  | .dramInitComplete d0 ok d1, s, hs => execDramInitComplete_form d0 ok d1 s hs
  | .flashBoot flash, s, hs => execFlashBoot_form flash s hs
  | .bootGo, s, hs => execBootGo_form s hs
  | .imageLoaded, s, hs => execImageLoaded_form s hs
  | .coreRun v, s, hs => execCoreRun_form v s hs
  | .tempUpdate d t, s, hs => execTempUpdate_form d t s hs
  | .refaRestored, s, hs => execRefaRestored_form s hs
  | .refbRestored, s, hs => execRefbRestored_form s hs
  | .portEnable p v, s, hs => execPortEnable_form p v s hs
  | .backupDomainStart, s, hs => execBackupDomainStart_form s hs
  | .laserAlarmCleared nn, s, hs => execLaserAlarmCleared_form nn s hs
  | .laserReadyRegained nn, s, hs => execLaserReadyRegained_form nn s hs
  | .motorBusRestored vm, s, hs => execMotorBusRestored_form vm s hs
  | .hoursCounterTick, s, hs => execHoursCounterTick_form s hs

/-- `Form` of a state is its queue and `memWf`. -/
theorem Form.kept_iff {q : List Instr} {s : State} : Form q s.kept ↔ s.pending = q ∧ s.memWf = true := by
  unfold Form State.memWf State.kept
  rw [Bool.and_eq_true]

/-- Settles O3: a case per command, each by the law of that command. -/
theorem everyCommandAnswersAndKeepsForm : Obligations.EveryCommandAnswersAndKeepsForm := by
  unfold Obligations.EveryCommandAnswersAndKeepsForm
  intro c s hs
  obtain ⟨t, ht, hform⟩ := exec_form c s (Form.kept_iff.mpr ⟨rfl, hs⟩)
  exact ⟨t, ht, Form.kept_iff.mp hform⟩

theorem step_cons {s : State} {c : Instr} {l : List Instr} (h : s.pending = c :: l) : step s = exec c { s with pending := l } := by
  unfold step
  rw [h]

theorem step_nil {s : State} (h : s.pending = []) : step s = .next s.tick := by
  unfold step
  rw [h]

/-- Settles O4: the front command by O3 on the state with the queue's rest, and the beat where none waits. -/
theorem everyStepKeepsForm : Obligations.EveryStepKeepsForm := by
  unfold Obligations.EveryStepKeepsForm
  intro s hs
  cases hq : s.pending with
  | nil =>
    obtain ⟨hpend, hmem⟩ := Form.kept_iff.mp (s.tick_form (Form.kept_iff.mpr ⟨hq, hs⟩))
    exact ⟨s.tick, step_nil hq, hpend, hmem⟩
  | cons c l =>
    obtain ⟨t, ht, hpend, hmem⟩ := everyCommandAnswersAndKeepsForm c { s with pending := l } hs
    exact ⟨t, (step_cons hq).trans ht, hpend, hmem⟩

/-- Settles O1: the two branches of the step. -/
theorem stepRunsTheFrontCommand : Obligations.StepRunsTheFrontCommand := by
  unfold Obligations.StepRunsTheFrontCommand
  exact ⟨fun _ _ _ => step_cons rfl, fun _ => step_nil⟩

/-- In the state after reset a field reads its reset value unless the register file lists it. -/
theorem State.reset_get {f : Fld} (h : f.key ≠ DIAL_STAT_BUSY.key) : State.reset.get f = f.rst :=
  Sparse.get_insert_ne f.rst [] _ _ 1 h

theorem reset_gate (n : Nat) : State.reset.get (LP_STAT_GATE n) = 0 :=
  State.reset_get (by simp only [Fld.key, LP_STAT_GATE, DIAL_STAT_BUSY]; omega)

/-- Settles O2: the register file lists BUSY of the dial alone. -/
theorem resetStateHolds : Obligations.ResetStateHolds := by
  unfold Obligations.ResetStateHolds
  refine ⟨rfl, rfl, rfl, rfl, fun f => State.reset_get, rfl, rfl, rfl, ?_⟩
  unfold State.lasersOff
  rw [List.all_eq_true]
  intro n _
  rw [reset_gate]
  rfl

end Sys2Proof.Machine
end

section
/-! Bus accesses that end at the port: an access of register space that no register takes, and the locked registers of the laser ports. -/
namespace Sys2Proof.Machine

/-- A command whose effect is `t`, after a rest and with nothing for the collector or the mode controller to do, answers `t`. -/
theorem State.next_of_rest {s u t : State} (hs : s.restful = true) (hu : u = t) (hc : t.ctrl = s.begin.ctrl) :
    (Host.Outcome.next u.settle : Host.Outcome State Fault Refusal) = .next t := by
  rw [hu, State.settle_ctrl s t hs hc]

/-- A command whose effect is `t` answers `t` settled. -/
theorem State.next_settle {u t : State} (hu : u = t) : (Host.Outcome.next u.settle : Host.Outcome State Fault Refusal) = .next t.settle := by
  rw [hu]

theorem State.localRead_misaligned {t : State} {a n : Nat} (m : Nat) (e : Ecc) (hreg : t.region a = .reg) (hbad : regAccessOk a n = false) :
    t.localRead m a n e = (none, t) := by
  unfold State.localRead
  rw [hreg, hbad]
  exact ite_self _

theorem State.localWrite_misaligned {t : State} {a : Nat} {l : List Byte} (m : Nat) (e : Ecc) (hreg : t.region a = .reg)
    (hbad : regAccessOk a l.length = false) : t.localWrite m a l e = (false, t) := by
  unfold State.localWrite
  dsimp only
  rw [hreg, hbad]
  exact ite_self _

/-- An access that is not a register access is answered in register space with an error and changes nothing (R4, R24). -/
theorem State.access_misaligned {s : State} {a : Nat} (acc : Access) (m : Nat) (e : Ecc) (hreg : s.region a = .reg)
    (hbad : regAccessOk a (accLen acc) = false) : s.access m a acc e = (some (false, 0), { s with req := some m }) := by
  unfold State.access
  rw [hreg, if_pos (by decide)]
  unfold State.localAccess
  cases acc with
  | read n =>
    have hread := State.localRead_misaligned (t := { s with req := some m }) (n := n) m e hreg hbad
    dsimp only at hread ⊢
    rw [hread]
  | write l =>
    have hwrite := State.localWrite_misaligned (t := { s with req := some m }) (l := l) m e hreg hbad
    dsimp only at hwrite ⊢
    rw [hwrite]

/-- Settles O55: the access changes nothing; a write of the host is logged, any other answered as it stands. -/
theorem misalignedRegisterAccessFails : Obligations.MisalignedRegisterAccessFails := by
  unfold Obligations.MisalignedRegisterAccessFails
  intro s m a acc e hs hreg hbad
  have hacc := State.access_misaligned (s := s.begin) acc m.toNat e hreg hbad
  refine ⟨fun hm => ?_, fun hm => ?_⟩
  · refine State.next_of_rest hs ?_ (State.reply_ctrl (s.asks m.toNat) _ _ _)
    unfold State.busAccess
    rw [hacc]
    exact congrArg (fun t : State => t.reply m.toNat false 0) (if_neg fun h => hm ⟨h.1, h.2.1⟩)
  · refine State.next_settle ?_
    unfold State.busAccess
    rw [hacc, hm.1]
    exact congrArg (fun t : State => t.reply 4 false 0) (if_pos ⟨rfl, hm.2, rfl⟩)

/-- An aligned word written to the laser ports' block, while it runs, is taken by its register (R4, R6). -/
theorem State.localWrite_ports {t : State} {a : Nat} {l : List Byte} (m : Nat) (hlive : t.sysLive = true) (hrun : t.heldInReset 141 = false)
    (hl : l.length = 4) (ha : a % 4 = 0) (hlo : 0x2001300000 ≤ a) (hhi : a < 0x2001400000) :
    t.localWrite m a l .clean = (true, t.writePorts (a - 0x2001300000) (leNat l)) := by
  have hreg : t.region a = .reg := by
    unfold State.region
    rw [if_neg (by omega), if_neg (by omega), if_neg (by omega), if_neg (by omega), if_neg (by omega), if_neg (by omega), if_pos (by omega)]
  have hblock : blockOf a = some 141 := by
    unfold blockOf
    rw [if_neg (by omega), if_neg (by omega), if_neg (by omega), if_neg (by omega), if_neg (by omega), if_neg (by omega),
      if_neg (by omega), if_neg (by omega), if_neg (by omega), if_neg (by omega), if_neg (by omega), if_neg (by omega),
      if_neg (by omega), if_neg (by omega), if_neg (by omega), if_neg (by omega), if_pos (by omega)]
  have hok : (regAccessOk a l.length && !t.blockHeld a) = true := by
    unfold regAccessOk State.blockHeld
    rw [hblock, hl]
    simp [ha, hrun]
  have hwrite : t.regWrite m a (leNat l) = t.writePorts (a - 0x2001300000) (leNat l) := by
    unfold State.regWrite
    dsimp only
    rw [if_neg (by omega), if_neg (by omega), if_neg (by omega), if_neg (by omega), if_neg (by omega), if_neg (by omega),
      if_neg (by omega), if_neg (by omega), if_neg (by omega), if_neg (by omega), if_neg (by omega), if_neg (by omega),
      if_neg (by omega), if_neg (by omega), if_neg (by omega), if_neg (by omega), if_neg (by omega), if_neg (by omega),
      if_neg (by omega), if_pos (by omega)]
  unfold State.localWrite
  dsimp only
  rw [hlive, hreg, hok, hwrite]
  rfl

/-- The answer to such a write, at its master. -/
theorem State.busAccess_ports {s t : State} {a m : Nat} {l : List Byte} (ht : t = { s with req := some m }) (hlive : t.sysLive = true)
    (hrun : t.heldInReset 141 = false) (hl : l.length = 4) (ha : a % 4 = 0) (hlo : 0x2001300000 ≤ a) (hhi : a < 0x2001400000) :
    s.busAccess m a (.write l) .clean = (t.writePorts (a - 0x2001300000) (leNat l)).reply m true 0 := by
  have hfabric : s.region a ≠ .fabric := by
    unfold State.region
    rw [if_neg (by omega), if_neg (by omega), if_neg (by omega), if_neg (by omega), if_neg (by omega), if_neg (by omega), if_pos (by omega)]
    decide
  unfold State.busAccess State.access State.localAccess
  rw [if_pos hfabric, ← ht]
  dsimp only
  rw [State.localWrite_ports m hlive hrun hl ha hlo hhi]
  rw [if_neg fun h => Bool.false_ne_true h.2.2]

/-- While Armed or Expose, LP_CTL of a port keeps its value and WERR of the port is set (R246). -/
theorem State.writePorts_ctl_locked {s : State} (h : s.armedOrExpose = true) (n : Unit24) (v : Nat) :
    s.writePorts (0x10 * n.val) v = s.set (LP_STAT_WERR n.val) 1 := by
  have hn := n.isLt
  have hdiv : 0x10 * n.val / 0x10 = n.val := by omega
  unfold State.writePorts
  rw [if_pos (by omega), hdiv]
  unfold State.lpCtlWrite
  exact if_pos h

/-- While Armed or Expose, LP_ILKCFG keeps its value and WERR of port 00 is set (R246). -/
theorem State.writePorts_ilkcfg_locked {s : State} (h : s.armedOrExpose = true) (v : Nat) :
    s.writePorts 0x204 v = s.set (LP_STAT_WERR 0) 1 := by
  unfold State.writePorts
  rw [if_neg (by decide), if_pos ⟨rfl, h⟩]

/-- Settles O54: both writes reach the laser ports, whose lock answers them with WERR alone. -/
theorem laserPortControlLockedWhileArmed : Obligations.LaserPortControlLockedWhileArmed := by
  unfold Obligations.LaserPortControlLockedWhileArmed
  intro s m v hs hlive hmode hrun
  have hctrl : ∀ k : Nat, (((s.asks m.toNat).set (LP_STAT_WERR k) 1).reply m.toNat true 0).ctrl = s.begin.ctrl := fun k =>
    (State.reply_ctrl ..).trans (State.set_ctrl ..)
  refine ⟨fun n => State.next_of_rest hs ?_ (hctrl n.val), State.next_of_rest hs ?_ (hctrl 0)⟩
  · have hn := n.isLt
    have haddr : (BitVec.ofNat 40 (0x2001300000 + 0x10 * n.val)).toNat = 0x2001300000 + 0x10 * n.val := by
      rw [BitVec.toNat_ofNat]
      exact Nat.mod_eq_of_lt (by omega)
    rw [haddr, State.busAccess_ports (t := s.asks m.toNat) rfl hlive hrun rfl (by omega) (by omega) (by omega),
      Nat.add_sub_cancel_left, State.writePorts_ctl_locked (s := s.asks m.toNat) hmode n]
  · have haddr : (0x2001300204 : Addr).toNat = 0x2001300204 := rfl
    rw [haddr, State.busAccess_ports (t := s.asks m.toNat) rfl hlive hrun rfl (by decide) (by decide) (by decide)]
    rw [show 0x2001300204 - 0x2001300000 = 0x204 from rfl, State.writePorts_ilkcfg_locked (s := s.asks m.toNat) hmode]

end Sys2Proof.Machine
end

section
/-! The line codes (R359 to R363, R402): what is sent, the receiver takes. -/
namespace Sys2Proof.Machine

theorem bne_bne_self (a b : Bool) : ((a != b) != b) = a := by cases a <;> cases b <;> rfl

/-- A line bit that differs from the last starts a run of one. -/
theorem Coder.put_not_run (c : Coder) : (c.put (!c.last)).run = 1 := by
  unfold Coder.put
  exact if_neg (by cases c.last <;> decide)

/-- A line bit lengthens the run by one at most. -/
theorem Coder.put_run_le (c : Coder) (b : Bool) : (c.put b).run ≤ c.run + 1 := by
  unfold Coder.put
  split <;> simp

theorem List.headD_eq_getD_zero (d : List Bool) : d.headD false = d.getD 0 false := by cases d <;> rfl

theorem List.tail_getD (d : List Bool) (i : Nat) : d.tail.getD i false = d.getD (i + 1) false := by cases d <;> simp

/-- The marked payload bits of `k + 1` positions: the first, then those of the rest of the payload. -/
theorem markedBits_succ (d : List Bool) (bad : Bool) (k : Nat) :
    (List.range (k + 1)).map (fun i => (d.getD i false, bad)) =
      (d.headD false, bad) :: (List.range k).map (fun i => (d.tail.getD i false, bad)) := by
  rw [List.range_succ_eq_map, List.map_cons, List.map_map, List.headD_eq_getD_zero]
  simp only [List.tail_getD]
  rfl

/-- Settles O56: a position is a stuffed bit, which the receiver drops, or a payload bit, which the same keystream gives back. -/
theorem lineCodingRoundTrip : Obligations.LineCodingRoundTrip := by
  unfold Obligations.LineCodingRoundTrip
  intro n
  induction n with
  | zero => exact fun c d bad r hc => ⟨0, Nat.le_refl 0, rfl, hc, rfl, rfl⟩
  | succ n ih =>
    intro c d bad r hc
    by_cases hrun : c.run = 24
    · obtain ⟨k, hk, hlen, hle, hrest, htake⟩ := ih (c.put (!c.last)) d bad r (by rw [Coder.put_not_run]; decide)
      refine ⟨k, by omega, ?_, ?_, ?_, ?_⟩ <;> unfold Coder.send <;> rw [if_pos hrun] <;> dsimp only
      · rw [List.length_cons, hlen]
      · exact hle
      · exact hrest
      · have hbad : (bad || (!c.last) == c.last) = bad := by cases bad <;> cases c.last <;> rfl
        rw [List.cons_append, Coder.take, if_pos hrun, hbad, htake]
    · obtain ⟨k, hk, hlen, hle, hrest, htake⟩ := ih (c.advance.put (d.headD false != c.keyBit)) d.tail bad r
        (Nat.le_trans (Coder.put_run_le _ _) (by show c.run + 1 ≤ 24; omega))
      refine ⟨k + 1, by omega, ?_, ?_, ?_, ?_⟩ <;> unfold Coder.send <;> rw [if_neg hrun] <;> dsimp only
      · rw [List.length_cons, hlen]
      · exact hle
      · rw [hrest, ← List.drop_one, List.drop_drop, Nat.add_comm]
      · rw [List.cons_append, Coder.take, if_neg hrun, htake, bne_bne_self, markedBits_succ]

theorem scrambled_scrambled (c : Coder) (l : List Bool) : scrambled c (scrambled c l) = l := by
  induction l generalizing c with
  | nil => rfl
  | cons d t ih => rw [scrambled, scrambled, bne_bne_self, ih]

theorem alignment_length : (List.replicate 8 syncWord).flatten.length = 512 := by
  rw [List.length_flatten, List.map_replicate]
  rfl

/-- Precoding keeps to the four levels, and adding the level before undoes it. -/
theorem precoded_roundTrip (y : Nat) (l : List Nat) (hy : y < 4) (hl : ∀ x ∈ l, x < 4) :
    (∀ z ∈ precoded y l, z < 4) ∧ unprecoded y (precoded y l) = l := by
  induction l generalizing y with
  | nil => exact ⟨nofun, rfl⟩
  | cons x t ih =>
    have hx : x < 4 := hl x (List.mem_cons_self ..)
    have hz : (x + 4 - y) % 4 < 4 := Nat.mod_lt _ (by decide)
    have hback : ((x + 4 - y) % 4 + y) % 4 = x := by omega
    obtain ⟨hlevels, hround⟩ := ih _ hz fun w hw => hl w (List.mem_cons_of_mem _ hw)
    refine ⟨?_, ?_⟩
    · rw [precoded, List.forall_mem_cons]
      exact ⟨hz, hlevels⟩
    · rw [precoded, unprecoded, hback, hround]

/-- Settles O59: the sync words take the first 512 bits, scrambling is its own inverse, and so is precoding to its receiver. -/
theorem skeuzLineRoundTrip : Obligations.SkeuzLineRoundTrip := by
  unfold Obligations.SkeuzLineRoundTrip
  refine ⟨fun flits => ⟨?_, ?_⟩, scrambled_scrambled, precoded_roundTrip⟩
  · unfold skBlock
    exact List.take_left' alignment_length
  · unfold skBlock
    rw [List.drop_left' alignment_length, scrambled_scrambled]

end Sys2Proof.Machine
end

section
/-! Forced Halted (R49, R50) and the hack line (R564, R565). -/
namespace Sys2Proof.Machine

theorem State.dropPending_get {s : State} {f : Fld} (hp : f.key ≠ SYS_MODE_STAT_PENDING.key) (ht : f.key ≠ SYS_MODE_STAT_PEND_TARGET.key) :
    s.dropPending.get f = s.get f := by
  have h : s.dropPending.get f = ((s.set SYS_MODE_STAT_PENDING 0).set SYS_MODE_STAT_PEND_TARGET 0).get f := rfl
  rw [h, State.get_set_ne _ _ _ _ ht, State.get_set_ne _ _ _ _ hp]

theorem State.modeCode_preemptPending (s : State) : s.preemptPending.modeCode = s.modeCode := by
  unfold State.preemptPending
  split
  · unfold State.modeCode
    rw [State.get_set_ne _ _ _ _ (by decide), State.dropPending_get (by decide) (by decide)]
  · rfl

/-- An entry into a mode shows it in SYS_MODE_STAT.MODE. -/
theorem State.enterMode_modeCode (s : State) {new : Nat} (lp master : Nat) (hn : new < 16) : (s.enterMode new lp master).modeCode = new :=
  congrArg Prod.fst (State.enterMode_stand s new lp master hn)

/-- The state in which a forced entry into Halted that is due takes effect (R49). -/
def State.haltBegun (s : State) : State := ({ s with mode := { s.mode with haltDue := none } } : State).preemptPending

theorem State.haltBegun_modeCode (s : State) : s.haltBegun.modeCode = s.modeCode := State.modeCode_preemptPending _

theorem State.modeCode_withMode (s : State) (m : ModeSt) : ({ s with mode := m } : State).modeCode = s.modeCode := rfl

/-- The beat on which forced Halted is due, in Halted: what was under way ends, and the sources join those recorded. -/
theorem State.haltNow_halted {s : State} {l : List Nat} (hdue : s.mode.haltDue = some l) (hm : s.modeCode = mHalted) :
    s.haltNow = { s.haltBegun.set SYS_MODE_STAT_BUSY 0 with
      mode := { s.haltBegun.mode with trans := none, armed := false, forcers := s.haltBegun.mode.forcers ++ l } } := by
  unfold State.haltNow
  rw [hdue]
  exact if_pos (s.haltBegun_modeCode.trans hm)

/-- The beat on which forced Halted is due, in another mode: Halted is entered, and the sources due are recorded. -/
theorem State.haltNow_enters {s : State} {l : List Nat} (hdue : s.mode.haltDue = some l) (hm : s.modeCode ≠ mHalted) :
    s.haltNow = { s.haltBegun.enterMode mHalted 0 0xFE with
      mode := { (s.haltBegun.enterMode mHalted 0 0xFE).mode with forcers := l } } := by
  unfold State.haltNow
  rw [hdue]
  have hnot : ¬ s.haltBegun.modeCode = mHalted := fun h => hm (s.haltBegun_modeCode.symm.trans h)
  show (if s.haltBegun.modeCode = mHalted then _ else _) = _
  rw [if_neg hnot]
  unfold State.haltBegun
  rfl

/-- Settles O57: forcing makes Halted due, and the two cases of the beat on which it is due. -/
theorem forcedHaltedOnTheNextBeat : Obligations.ForcedHaltedOnTheNextBeat := by
  unfold Obligations.ForcedHaltedOnTheNextBeat
  refine ⟨fun s l hm hbusy => ?_, fun s l hm ht hp => ?_, fun s l hdue => ?_⟩
  · have hnot : ¬ (s.modeCode = 0 ∨ (s.modeCode = mHalted ∧ s.mode.trans.isNone ∧ s.mode.pend.isNone)) := by
      rintro (h | ⟨h, ht, hp⟩)
      · exact hm h
      · rw [Option.isNone_iff_eq_none] at ht hp
        simp [h, ht, hp] at hbusy
    unfold State.forceHalted
    exact if_neg hnot
  · unfold State.forceHalted
    exact if_pos (Or.inr ⟨hm, by rw [ht]; rfl, by rw [hp]; rfl⟩)
  · by_cases hm : s.modeCode = mHalted
    · have hbusy : (s.haltBegun.set SYS_MODE_STAT_BUSY 0).modeCode = mHalted := by
        rw [← s.haltBegun_modeCode.trans hm]
        exact State.get_set_ne _ _ _ _ (by decide)
      rw [State.haltNow_halted hdue hm, State.modeCode_withMode]
      exact ⟨hbusy, fun h => absurd hm h, fun _ => ⟨rfl, State.get_set_same s.haltBegun SYS_MODE_STAT_BUSY 0 (by decide)⟩⟩
    · rw [State.haltNow_enters hdue hm, State.modeCode_withMode]
      exact ⟨State.enterMode_modeCode _ _ _ (by decide), fun _ => rfl, fun h => absurd h hm⟩

/-- A table mapped entry by entry reads as its entries mapped, where the value of an unlisted key maps to itself. -/
theorem Sparse.get_map {α : Type} (d : α) (f : α → α) (hd : f d = d) (m : List (Nat × α)) (k : Nat) :
    Sparse.get d (m.map fun e => (e.1, f e.2)) k = f (Sparse.get d m k) := by
  induction m with
  | nil => exact hd.symm
  | cons c t ih =>
    obtain ⟨j, v⟩ := c
    by_cases hj : j = k
    · simp [Sparse.get, hj]
    · simp [Sparse.get, hj, ih]

/-- What each step of a fold leaves, the fold leaves. -/
theorem State.foldl_keeps {α β : Type} (π : State → β) (f : State → α → State) (h : ∀ s x, π (f s x) = π s) (l : List α) (s : State) :
    π (l.foldl f s) = π s := by
  induction l generalizing s with
  | nil => rfl
  | cons x l ih => rw [List.foldl_cons, ih, h]

/-- Gates cleared port by port stand at 0. -/
theorem State.gatesOff_get (l : List Nat) (s : State) (n : Nat) (h : n ∈ l ∨ s.get (LP_STAT_GATE n) = 0) :
    (l.foldl (fun t k => (t.set (LP_STAT_GATE k) 0).set (LP_STAT_DACZ k) 1) s).get (LP_STAT_GATE n) = 0 := by
  induction l generalizing s with
  | nil => exact h.resolve_left (by simp)
  | cons k t ih =>
    rw [List.foldl_cons]
    by_cases hn : n ∈ t
    · exact ih _ (.inl hn)
    refine ih _ (.inr ?_)
    rw [State.get_set_ne _ _ _ _ (by simp only [Fld.key, LP_STAT_GATE, LP_STAT_DACZ]; omega)]
    by_cases hk : n = k
    · rw [hk, State.get_set, Nat.zero_mod]
    · rw [State.get_set_ne _ _ _ _ (by simp only [Fld.key, LP_STAT_GATE]; omega)]
      exact h.resolve_left fun hmem => (List.mem_cons.mp hmem).elim hk hn

theorem State.lasersSafe_gate (s : State) {n : Nat} (h : n < 24) : s.lasersSafe.get (LP_STAT_GATE n) = 0 := by
  unfold State.lasersSafe
  exact State.gatesOff_get _ _ n (Or.inl (List.mem_range.mpr h))

theorem State.lasersSafe_dac (s : State) (n : Nat) : (s.lasersSafe.port n).dac = 0 := by
  have hports : s.lasersSafe.ports = s.ports.map fun e => (e.1, { e.2 with dac := 0, updates := [] }) := by
    unfold State.lasersSafe
    exact State.foldl_keeps State.ports (fun t n => (t.set (LP_STAT_GATE n) 0).set (LP_STAT_DACZ n) 1) (fun _ _ => rfl) _ _
  unfold State.port
  rw [hports]
  exact congrArg PortSt.dac (Sparse.get_map {} (fun p : PortSt => { p with dac := 0, updates := [] }) rfl s.ports n)

/-- The calibration controller's fields apart, an abort of its step changes no field. -/
theorem State.calAbort_get (s : State) (f : Fld) (h : ∀ g ∈ [CAL_CNT_ABORT, CAL_STAT_BUSY, CAL_STAT_UNIT, CAL_SEQ_KIND], f.key ≠ g.key) :
    s.calAbort.get f = s.get f := by
  simp only [List.forall_mem_cons] at h
  obtain ⟨habort, hbusy, hunit, hkind, -⟩ := h
  unfold State.calAbort
  split
  · rfl
  · rw [State.get_set_ne _ _ _ _ hkind, State.get_set_ne _ _ _ _ hunit, State.get_set_ne _ _ _ _ hbusy, State.get_incSat_ne _ _ _ habort]
    rfl

theorem State.calAbort_ports (s : State) : s.calAbort.ports = s.ports := by
  unfold State.calAbort State.incSat
  split
  · rfl
  · split <;> rfl

theorem State.lasersSafe_calAbort_off (s : State) : s.lasersSafe.calAbort.lasersOff = true := by
  unfold State.lasersOff
  rw [List.all_eq_true]
  intro n hn
  have hgate : s.lasersSafe.calAbort.get (LP_STAT_GATE n) = 0 := by
    rw [State.calAbort_get, State.lasersSafe_gate s (List.mem_range.mp hn)]
    simp only [List.forall_mem_cons, Fld.key, LP_STAT_GATE, CAL_CNT_ABORT, CAL_STAT_BUSY, CAL_STAT_UNIT, CAL_SEQ_KIND]
    exact ⟨by omega, by omega, by omega, by omega, nofun⟩
  have hdac : (s.lasersSafe.calAbort.port n).dac = 0 := by
    unfold State.port
    rw [State.calAbort_ports]
    exact State.lasersSafe_dac s n
  rw [hgate, hdac]
  rfl

/-- What the hack line does to the lasers and to calibration leaves its own state (R564). -/
theorem State.lasersSafe_calAbort_hackState (s : State) : s.lasersSafe.calAbort.get FLT_HACK_STATE = s.get FLT_HACK_STATE := by
  rw [State.calAbort_get _ _ (by decide)]
  unfold State.lasersSafe
  refine (State.foldl_keeps (fun t => t.get FLT_HACK_STATE) _ (fun t n => ?_) _ _).trans rfl
  rw [State.get_set_ne _ _ _ _ (by simp only [Fld.key, FLT_HACK_STATE, LP_STAT_DACZ]; omega),
    State.get_set_ne _ _ _ _ (by simp only [Fld.key, FLT_HACK_STATE, LP_STAT_GATE]; omega)]

/-- Settles O58: STATE is set before the lasers are made safe, which leaves it. -/
theorem hackLineTurnsEveryLaserOff : Obligations.HackLineTurnsEveryLaserOff := by
  unfold Obligations.HackLineTurnsEveryLaserOff
  intro s c
  have hoff : (s.hackAssert c).lasersOff = true := State.lasersSafe_calAbort_off _
  have hstate : (s.hackAssert c).flag FLT_HACK_STATE = true := by
    unfold State.flag State.hackAssert
    rw [State.lasersSafe_calAbort_hackState]
    split
    · assumption
    · rw [State.emit_get, State.get_set_ne _ _ _ _ (by decide), State.get_set_same _ _ _ (by decide)]
      rfl
  refine ⟨hstate, hoff, ?_⟩
  unfold State.hackHolds
  rw [hoff, Bool.or_true]

end Sys2Proof.Machine
end

section
/-! References and resets (R37, R528 to R540): what each operation does on the cases the statements name. -/
namespace Sys2Proof.Machine

/-- A command whose effect leaves the collector and the mode controller as they were, after a rest, answers that effect. -/
theorem State.next_of_ctrl {s u t : State} (hs : s.restful = true) (hc : u.ctrl = s.begin.ctrl) (hu : u = t) :
    (Host.Outcome.next u.settle : Host.Outcome State Fault Refusal) = .next t := by
  rw [State.settle_ctrl s u hs hc, hu]

/-! ### References (R37) -/

theorem State.refA_lost (s : State) : s.refA true = ({ s with rst := { s.rst with refaBad := true } } : State).raise 0 := rfl

theorem State.refA_back (s : State) : s.refA false = ({ s with rst := { s.rst with refaBad := false } } : State).lower 0 := rfl

/-- Fields of a port that its leaving UP writes. -/
def skDownFields (p : Nat) : List Fld := [SKZ_PSTAT_STATE p, SKZ_PSTAT_FECON p, SKZ_PSTAT_PRECON p, SKZ_PSTAT_INJOIN p]

section
variable {s : State} {p : Nat} (hdown : s.portUp p = false)
include hdown

/-- A port that is not UP goes down without a source: nothing of the collector or the mode controller moves. -/
theorem State.skPortDown_ctrl_of_down : (s.skPortDown p).ctrl = s.ctrl := by
  unfold State.skPortDown
  simp only [hdown, Bool.not_false, if_true, State.ctrl_mk, State.ctrl_eta, State.set_ctrl, State.setSkp_ctrl]

theorem State.skPortDown_get_of_down {f : Fld} (hf : ∀ g ∈ skDownFields p, f.key ≠ g.key) : (s.skPortDown p).get f = s.get f := by
  simp only [skDownFields, List.forall_mem_cons] at hf
  obtain ⟨hstate, hfec, hpre, hjoin, -⟩ := hf
  unfold State.skPortDown
  simp only [hdown, Bool.not_false, if_true, State.get_mk, State.get_eta]
  rw [State.get_set_ne _ _ _ _ hjoin, State.get_set_ne _ _ _ _ hpre, State.get_set_ne _ _ _ _ hfec, State.get_set_ne _ _ _ _ hstate,
    State.setSkp_get]

/-- It stands at DOWN or TRAIN. -/
theorem State.skPortDown_state_of_down : (s.skPortDown p).get (SKZ_PSTAT_STATE p) ≤ 1 := by
  have hkey : ∀ g ∈ [SKZ_PSTAT_FECON p, SKZ_PSTAT_PRECON p, SKZ_PSTAT_INJOIN p], (SKZ_PSTAT_STATE p).key ≠ g.key := by
    simp only [List.forall_mem_cons, Fld.key, SKZ_PSTAT_STATE, SKZ_PSTAT_FECON, SKZ_PSTAT_PRECON, SKZ_PSTAT_INJOIN]
    exact ⟨by omega, by omega, by omega, nofun⟩
  simp only [List.forall_mem_cons] at hkey
  obtain ⟨hfec, hpre, hjoin, -⟩ := hkey
  unfold State.skPortDown
  simp only [hdown, Bool.not_false, if_true, State.get_mk, State.get_eta]
  rw [State.get_set_ne _ _ _ _ hjoin, State.get_set_ne _ _ _ _ hpre, State.get_set_ne _ _ _ _ hfec, State.get_set]
  have hbit : ∀ c : Bool, (if c then 1 else 0) % 2 ^ 2 ≤ 1 := by decide
  exact hbit _

end

/-- Ports that are not UP stay so when one of them goes down. -/
theorem State.skPortDown_portUp {s : State} {p : Nat} (hdown : s.portUp p = false) (q : Nat) (hq : s.portUp q = false) :
    (s.skPortDown p).portUp q = false := by
  by_cases hpq : q = p
  · have := State.skPortDown_state_of_down hdown
    unfold State.portUp
    rw [hpq, beq_eq_false_iff_ne]
    omega
  · have hget : (s.skPortDown p).get (SKZ_PSTAT_STATE q) = s.get (SKZ_PSTAT_STATE q) := by
      refine State.skPortDown_get_of_down hdown ?_
      simp only [skDownFields, List.forall_mem_cons, Fld.key, SKZ_PSTAT_STATE, SKZ_PSTAT_FECON, SKZ_PSTAT_PRECON, SKZ_PSTAT_INJOIN]
      exact ⟨by omega, by omega, by omega, by omega, nofun⟩
    unfold State.portUp at hq ⊢
    rw [hget, hq]

/-- All four ports, none of them UP, go down without a source. -/
theorem State.skPortsDown_ctrl {s : State} (h : ∀ p, p < 4 → s.portUp p = false) :
    ((((s.skPortDown 0).skPortDown 1).skPortDown 2).skPortDown 3).ctrl = s.ctrl := by
  have h0 := h 0 (by decide)
  have h1 := fun p hp => State.skPortDown_portUp h0 p (h p hp)
  have h2 := fun p hp => State.skPortDown_portUp (h1 1 (by decide)) p (h1 p hp)
  have h3 := fun p hp => State.skPortDown_portUp (h2 2 (by decide)) p (h2 p hp)
  rw [State.skPortDown_ctrl_of_down (h3 3 (by decide)), State.skPortDown_ctrl_of_down (h2 2 (by decide)),
    State.skPortDown_ctrl_of_down (h1 1 (by decide)), State.skPortDown_ctrl_of_down h0]

theorem State.refB_lost {s : State} (h : s.flag HP_STAT_LINKUP = false) : s.refB true =
    (((((((({ s with rst := { s.rst with refbBad := true } } : State).raise 1).skPortDown 0).skPortDown 1).skPortDown 2).skPortDown
      3).set HP_STAT_LINKUP 0).set HP_STAT_SPEED 0).set HP_STAT_WIDTH 0 := by
  unfold State.refB
  rw [if_pos rfl, h, if_neg Bool.false_ne_true]
  rfl

/-- The ports' state is off the collector, so the assertion of a mild source leaves it. -/
theorem State.sameBut.portUp {s t : State} (h : s.sameBut t) {p : Nat} (hp : p < 4) : t.portUp p = s.portUp p := by
  have hoff : offCollector (SKZ_PSTAT_STATE p) = true := (by decide : ∀ q : Fin 4, offCollector (SKZ_PSTAT_STATE q) = true) ⟨p, hp⟩
  unfold State.portUp
  rw [h.2 _ hoff]

/-- A fold whose steps each leave the state leaves the state. -/
theorem State.foldl_fixed {α : Type} (f : State → α → State) (l : List α) (s : State) (h : ∀ x ∈ l, f s x = s) : l.foldl f s = s := by
  induction l with
  | nil => rfl
  | cons x l ih =>
    rw [List.foldl_cons, h x (List.mem_cons_self ..)]
    exact ih fun y hy => h y (List.mem_cons_of_mem _ hy)

theorem State.skEn_lower {s : State} {p : Nat} (hp : p < 4) (k : Nat) (hk : k < 512) : (s.lower k).flag (SKZ_PCTL_EN p) = s.flag (SKZ_PCTL_EN p) :=
  (State.lower_same s k hk).flag _ ((by decide : ∀ q : Fin 4, offCollector (SKZ_PCTL_EN q) = true) ⟨p, hp⟩)

/-- REFB is back while no port is enabled: none trains. -/
theorem State.refB_back {s : State} (h : ∀ p, p < 4 → s.flag (SKZ_PCTL_EN p) = false) :
    s.refB false = ({ s with rst := { s.rst with refbBad := false } } : State).lower 1 := by
  have hen : ∀ p, p < 4 → (({ s with rst := { s.rst with refbBad := false } } : State).lower 1).flag (SKZ_PCTL_EN p) = false :=
    fun p hp => (State.skEn_lower hp 1 (by decide)).trans (h p hp)
  unfold State.refB
  rw [if_neg Bool.false_ne_true]
  refine State.foldl_fixed _ _ _ fun p hp => if_neg ?_
  rw [hen p (List.mem_range.mp hp), Bool.false_and, Bool.false_and]
  exact Bool.false_ne_true

/-! ### Reset requests (R528 to R532, R540) -/

/-- With nothing recorded in the collector and no arming, settling changes nothing. -/
theorem State.settle_cleared {u : State} (h : u.ctrl = ({}, {}, [])) : u.settle = u := by
  have hflt : u.flt = {} := congrArg Prod.fst h
  have hmode : u.mode = {} := congrArg (fun c => c.2.1) h
  have hown : u.own = [] := congrArg (fun c => c.2.2) h
  refine State.settle_of_quiet u ?_ (by rw [hmode])
  unfold State.quiet
  rw [hflt, hown]
  rfl

/-- What the assertion of a reset source answers outside an episode: the drive of RESET_N, the cause and the reach (R529, R530). -/
theorem State.assertReset_next {u : State} {k : Nat} (hk : k < 10) (hp : u.rst.phase = .off) (ho : u.own = []) :
    ∃ t, (Host.Outcome.next (u.assertReset k).settle : Host.Outcome State Fault Refusal) = .next t ∧ t.rst.phase = .driven ∧
      t.get SYS_RST_CAUSE_CAUSE = 2 ^ k ∧ t.rst.reach = rstReach k := by
  obtain ⟨hphase, hcause, -, hreach, hctrl⟩ := State.assertReset_off u k hk hp
  rw [ho] at hctrl
  exact ⟨u.assertReset k, by rw [State.settle_cleared hctrl], hphase, hcause, hreach⟩

/-- The same of a source that asserts for one cycle. -/
theorem State.pulseReset_next {u : State} {k : Nat} (hk : k < 10) (hp : u.rst.phase = .off) (ho : u.own = []) :
    ∃ t, (Host.Outcome.next (u.pulseReset k).settle : Host.Outcome State Fault Refusal) = .next t ∧ t.rst.phase = .driven ∧
      t.get SYS_RST_CAUSE_CAUSE = 2 ^ k ∧ t.rst.reach = rstReach k := by
  obtain ⟨hphase, hcause, -, hreach, hctrl⟩ := State.assertReset_off u k hk hp
  rw [ho] at hctrl
  have hpulse : (u.pulseReset k).ctrl = ({}, {}, []) := (State.releaseReset_ctrl ..).trans hctrl
  exact ⟨u.pulseReset k, by rw [State.settle_cleared hpulse], hphase, hcause, hreach⟩

theorem State.flt_of_ctrl {u v : State} (h : u.ctrl = v.ctrl) : u.flt = v.flt := congrArg Prod.fst h
theorem State.mode_of_ctrl {u v : State} (h : u.ctrl = v.ctrl) : u.mode = v.mode := congrArg (fun c => c.2.1) h
theorem State.own_of_ctrl {u v : State} (h : u.ctrl = v.ctrl) : u.own = v.own := congrArg (fun c => c.2.2) h

/-- A rail that falls below its reset level asserts the supply-reset source (R528, R542). -/
theorem State.railReset_below {s : State} {r mv : Nat} (hr : r ≠ 7) (hsup : s.supervised r = true) (hmv : mv < s.rstLevel r) :
    ∃ u : State, s.railReset r true mv = u.assertReset 1 ∧ u.rst.phase = s.rst.phase ∧ u.ctrl = s.ctrl := by
  have hnot : ¬ (r = 7 ∨ (!s.supervised r) = true ∨ (if true = true then s.rstLevel r ≤ mv else mv < s.rstLevel r + s.get (supHyst r))) := by
    rintro (h | h | h)
    · exact hr h
    · rw [hsup] at h
      exact Bool.false_ne_true h
    · rw [if_pos rfl] at h
      omega
  have hrails : ∀ x, ((s.railMin r mv).setRail r x).ctrl = s.ctrl := fun x => (State.setRail_ctrl ..).trans (State.railMin_ctrl ..)
  unfold State.railReset
  dsimp only
  rw [if_neg hnot, if_pos rfl, if_pos rfl]
  split
  · exact ⟨_, rfl, rfl, hrails { s.rail r with reset := true }⟩
  · exact ⟨_, rfl, rfl, hrails { s.rail r with reset := true }⟩

/-- RESET_N goes low outside a reset episode and outside Low power (R530). -/
theorem State.resetNInput_low {s : State} (hm : s.modeCode ≠ mLowPower) (hp : s.rst.phase = .off) :
    s.resetNInput true = ({ s with rst := { s.rst with pinLow := true } } : State).assertReset 2 := by
  unfold State.resetNInput State.resetPin
  rw [if_neg fun h => hm h.1]
  dsimp only
  rw [hp]
  rfl

theorem State.wdtExpire_due {s : State} (hrun : s.wdtRuns = true) (hw : s.rst.wdt = 0) : s.wdtExpire = s.pulseReset 3 := by
  unfold State.wdtExpire
  rw [hrun, hw]
  rfl

theorem State.hotReset_on {s : State} (h : s.flag SYS_RST_CFG_HOTRST = true) : s.hotReset true = s.assertReset 6 := by
  unfold State.hotReset
  rw [if_pos h, if_pos rfl]

/-- Every PWR_EN drops: of the reset state only that changes. -/
theorem State.dropAll_rst (s : State) : s.dropAll.rst = { s.rst with pwrEn := 0 } := by
  unfold State.dropAll
  have h := State.foldl_keeps State.rst (fun t g => if s.rst.pwrEn.testBit g then t.emit (.pin (3 + g) 0) else t)
    (fun t g => by split <;> rfl) (List.range 4) s
  dsimp only
  rw [h]

theorem State.sysLive_of_off {s : State} (h : s.rst.phase = .off) : s.sysLive = true := by
  unfold State.sysLive
  rw [h]
  rfl

theorem State.sysCmd_live {s : State} (h : s.sysLive = true) (f : State → State) : s.sysCmd f = f s := if_pos h

/-- What a command of a mode controller at rest in Halted leaves of the mode, where it does no more than assert tame sources. -/
theorem State.settle_tame_modeCode {s u v : State} (hs : s.restful = true) (hm : s.modeCode = mHalted) (htr : s.mode.trans = none)
    (hpd : s.mode.pend = none) (hv : v.ctrl = s.begin.ctrl) (hvm : v.modeCode = s.modeCode) (hu : v.hackBut u) :
    u.settle.rst = v.rst ∧ u.settle.modeCode = mHalted := by
  obtain ⟨hrst, hget⟩ := State.settle_tame s u hs hm htr hpd v hv hvm hu
  exact ⟨hrst, (hget SYS_MODE_STAT_MODE (by decide)).trans (hvm.trans hm)⟩

/-- Settles O5: losses and returns of a reference by their lines, reset requests by what an assertion answers outside an episode. -/
theorem resetAndReferenceLoss : Obligations.ResetAndReferenceLoss := by
  unfold Obligations.ResetAndReferenceLoss
  refine ⟨fun s hs hm htr hpd htame => ?_, fun s hs => ?_, fun s hs hmild hdown hlink => ?_, fun s hs hen => ?_, fun s hp => ?_,
    fun s rr mv hr hsup hmv hp => ?_, fun s hm hp => ?_, fun s hhot hp => ?_, fun s hp => ?_⟩
  · obtain ⟨hrst, hmode⟩ := State.settle_tame_modeCode (v := { s.begin with rst := { s.rst with refaBad := true } }) hs hm htr hpd rfl rfl
      (State.raise_tame { s.begin with rst := { s.rst with refaBad := true } } 0 0 false (by decide) htame)
    exact ⟨_, rfl, congrArg RstSt.refaBad hrst, hmode⟩
  · exact State.next_of_rest hs (State.refA_back _) (State.lower_ctrl ..)
  · have hraise := State.raise_mild { s.begin with rst := { s.rst with refbBad := true } } 1 0 false (by decide) hmild
    refine State.next_of_rest hs (State.refB_lost (s := s.begin) hlink) ?_
    rw [State.set_ctrl, State.set_ctrl, State.set_ctrl, State.skPortsDown_ctrl fun p hp => (hraise.portUp hp).trans (hdown p hp), hraise.ctrl]
    rfl
  · exact State.next_of_rest hs (State.refB_back (s := s.begin) hen) (State.lower_ctrl ..)
  · exact State.assertReset_next (u := s.begin) (k := 0) (by decide) hp rfl
  · obtain ⟨u, hu, hphase, hctrl⟩ := State.railReset_below (s := s.begin) hr hsup hmv
    have hnext := State.assertReset_next (u := u) (k := 1) (by decide) (hphase.trans hp) (State.own_of_ctrl hctrl)
    rw [← hu] at hnext
    exact hnext
  · have hnext := State.assertReset_next (u := { s.begin with rst := { s.rst with pinLow := true } }) (k := 2) (by decide) hp rfl
    rw [show ({ s.begin with rst := { s.rst with pinLow := true } } : State).assertReset 2 = s.begin.resetNInput true from
      (State.resetNInput_low (s := s.begin) hm hp).symm] at hnext
    exact hnext
  · have hnext := State.assertReset_next (u := s.begin) (k := 6) (by decide) hp rfl
    rw [← State.hotReset_on (s := s.begin) hhot] at hnext
    exact hnext
  · have hown : ({ s.begin.dropAll with rst := { s.begin.dropAll.rst with pwrSeq := none } } : State).own = [] :=
      State.own_of_ctrl (State.dropAll_ctrl s.begin)
    have hphase : s.begin.dropAll.rst.phase = .off := (congrArg RstSt.phase s.begin.dropAll_rst).trans hp
    exact State.assertReset_next (k := 8) (by decide) hphase hown

end Sys2Proof.Machine
end

section
/-! Reset release, PLL lock and block resets (R528 to R535, R572, R573, R632). -/
namespace Sys2Proof.Machine

/-! ### The release of a reset (R530, R531) -/

theorem State.releaseDrive_due {s : State} (hp : s.rst.phase = .driven) (ha : s.rst.active = [])
    (ht : s.rst.since + max 5 (min 1000 (s.get SYS_RST_CFG_STRETCH)) * 4000 ≤ s.rst.clk) :
    s.releaseDrive = ({ s with rst := { s.rst with phase := .released, freeAt := s.rst.clk } } : State).emit (.pin 2 1) :=
  if_pos ⟨hp, ha, ht⟩

theorem State.endReset_core {s : State} (hp : s.rst.phase = .released) (hpin : s.rst.pinLow = false) (ht : s.rst.freeAt + 400 ≤ s.rst.clk)
    (hreach : s.rst.reach = 1) (hcnt : s.flag SYS_OPT_RSTCNT = false) : s.endReset = s.startLoad := by
  unfold State.endReset
  rw [if_pos ⟨hp, by rw [hpin]; rfl, ht⟩, hcnt]
  exact if_pos hreach

theorem State.pllLock_up {s : State} (hp : s.rst.phase = .locking) (hup : s.railsUp = true) :
    s.pllLock = (({ s with rst := { s.rst with avsBase := 30, avsRise := [] } } : State).set AVS_STAT_VSET 30).startLoad :=
  if_pos ⟨hp, hup⟩

theorem State.backupStart_cold {s : State} (hen : s.rst.pwrEn = 0) (hseq : s.rst.pwrSeq = none) (hm : s.modeCode ≠ mLowPower) :
    s.backupStart = ((((s.assertReset 8).releaseReset 8).assertReset 0).assertReset 1).raiseGroup 3 := by
  unfold State.backupStart
  rw [if_neg]
  rintro (h | h | h)
  · exact h hen
  · rw [hseq] at h
    exact Bool.false_ne_true h
  · exact hm h

/-! ### Block resets (R533 to R535) -/

/-- A block reset holds its block and masks its sources from then on, for the lengths of R534 and R572. -/
theorem State.blockReset_holds {s : State} {code : Nat} (hlive : s.sysLive = true) (hblock : isBlock code = true) :
    (s.blockReset code).heldInReset code = true ∧
      (code, s.rst.clk + (blockBeats code).1 + (blockBeats code).2) ∈ (s.blockReset code).flt.masked := by
  have hflt : ∀ t : State, t.portsFollow.flt = t.flt := fun t => State.flt_of_ctrl (State.portsFollow_ctrl t)
  unfold State.blockReset
  rw [hlive, hblock, if_neg (by decide)]
  dsimp only
  generalize (if s.heldInReset code = true then s else _) = t
  refine ⟨?_, ?_⟩
  · unfold State.heldInReset
    rw [hflt]
    simp
  · rw [hflt]
    simp

/-- A fold over a range that acts on one index alone acts once. -/
theorem foldl_range_single {α : Type} (f : α → Nat → α) (a : α) (i n : Nat) (h : i < n) :
    (List.range n).foldl (fun t j => if i = j then f t j else t) a = f a i := by
  have hbefore : ∀ m, m ≤ i → (List.range m).foldl (fun t j => if i = j then f t j else t) a = a := by
    intro m
    induction m with
    | zero => exact fun _ => rfl
    | succ m ih =>
      intro hm
      rw [List.range_succ, List.foldl_append, ih (by omega)]
      exact if_neg (by omega)
  induction n with
  | zero => omega
  | succ n ih =>
    rw [List.range_succ, List.foldl_append]
    by_cases hn : i = n
    · rw [← hn, hbefore i (Nat.le_refl i)]
      exact if_pos rfl
    · rw [ih (by omega)]
      exact if_neg hn

/-- A write of SYS_BRST_r with one bit set resets that block. -/
theorem State.brstWrite_single (s : State) {r i : Nat} (hi : i < if r = 4 then 15 else 24) :
    s.brstWrite r (2 ^ i) = s.blockReset (32 * r + i) := by
  unfold State.brstWrite
  simp only [Nat.testBit_two_pow, decide_eq_true_eq]
  exact foldl_range_single (fun t j => t.blockReset (32 * r + j)) s i _ hi

theorem isBlock_brst {r i : Nat} (hr : r < 5) (hi : i < if r = 4 then 15 else 24) : isBlock (32 * r + i) = true := by
  unfold isBlock
  simp only [Bool.or_eq_true, Bool.and_eq_true, decide_eq_true_eq]
  split at hi <;> omega

theorem State.blockEnd_due {s : State} {code e : Nat} (hin : (code, e) ∈ s.flt.inReset) (he : e ≤ s.rst.clk) :
    s.blockEnd code = (({ s with flt := { s.flt with inReset := s.flt.inReset.filter (fun (x : Nat × Nat) => x.1 != code) } } : State).showPins
      (fun a => blockOf a == some code)).portsFollow := by
  unfold State.blockEnd
  exact if_pos (List.any_eq_true.mpr ⟨(code, e), hin, by simp [he]⟩)

/-- The state with the mask of a block lifted, and the window of R573 begun (R572). -/
def State.maskLifted (s : State) (code : Nat) : State :=
  { s with flt := { s.flt with
      masked := s.flt.masked.filter (fun (x : Nat × Nat) => x.1 != code)
      fails := s.flt.fails.map (fun (x : Nat × BrstFail) => if x.1 = code ∧ x.2.until_.isNone then (x.1, { x.2 with until_ := some (s.rst.clk + s.escWindow) }) else x) } }

theorem State.maskLift_quiet {s : State} {code e : Nat} (hheld : s.heldInReset code = false) (hin : (code, e) ∈ s.flt.masked)
    (he : e ≤ s.rst.clk) (hcol : s.collecting = false) : s.maskLift code = s.maskLifted code := by
  have hdue : (s.heldInReset code || !s.flt.masked.any (fun (x : Nat × Nat) => x.1 == code && decide (x.2 ≤ s.rst.clk))) = false := by
    rw [hheld, List.any_eq_true.mpr ⟨(code, e), hin, by simp [he]⟩]
    rfl
  have hcol' : (s.maskLifted code).collecting = false := hcol
  unfold State.maskLift
  rw [if_neg (Bool.eq_false_iff.mp hdue)]
  exact if_neg (Bool.eq_false_iff.mp hcol')

theorem State.escOver_first {s : State} {code u n : Nat} {l : List (Nat × BrstFail)} (hf : s.flt.fails = (code, ⟨n, some u⟩) :: l)
    (hu : u < s.rst.clk) (hlast : s.get FLT_BRLAST_BLOCK ≠ code) :
    s.escOver code = { s with flt := { s.flt with fails := l.filter (fun (x : Nat × BrstFail) => x.1 != code) } } := by
  have hfind : s.flt.fails.find? (fun (x : Nat × BrstFail) => x.1 == code) = some (code, ⟨n, some u⟩) := by
    rw [hf]
    exact List.find?_cons_of_pos (beq_self_eq_true code)
  have hrest : s.flt.fails.filter (fun (x : Nat × BrstFail) => x.1 != code) = l.filter (fun (x : Nat × BrstFail) => x.1 != code) := by
    rw [hf]
    exact List.filter_cons_of_neg (by simp)
  unfold State.escOver
  rw [hfind]
  dsimp only
  rw [if_pos hu, hrest]
  exact if_neg hlast

/-- Settles O6: each command by its operation; the block resets by what every block reset holds and masks. -/
theorem resetReleaseAndBlockResets : Obligations.ResetReleaseAndBlockResets := by
  unfold Obligations.ResetReleaseAndBlockResets
  refine ⟨fun s hs hp ha ht => ?_, fun s hs hp hpin ht hreach hcnt => ?_, fun s hs hp hup => ?_, fun s hlive => ?_,
    fun s hen hseq hm => ?_, fun s blk e hin he => ?_, fun s blk e hheld hin he hcol => ?_, fun s blk l u n hf hu hlast => ?_,
    fun s r i hi hlive => ?_⟩
  · exact State.next_of_ctrl hs (State.releaseDrive_ctrl _) (State.releaseDrive_due (s := s.begin) hp ha ht)
  · exact State.next_of_ctrl hs (State.endReset_ctrl _) (State.endReset_core (s := s.begin) hp hpin ht hreach hcnt)
  · exact State.next_of_ctrl hs (State.pllLock_ctrl _) (State.pllLock_up (s := s.begin) hp hup)
  · obtain ⟨hheld, hmask⟩ := State.blockReset_holds (s := s.begin) (code := 139) hlive (by decide)
    exact ⟨s.begin.blockReset 139, rfl, hheld, hmask⟩
  · exact State.next_settle (State.backupStart_cold (s := s.begin) hen hseq hm)
  · exact State.next_settle (State.blockEnd_due (s := s.begin) hin he)
  · exact State.next_settle (State.maskLift_quiet (s := s.begin) hheld hin he hcol)
  · exact State.next_settle (State.escOver_first (s := s.begin) hf hu hlast)
  · obtain ⟨hheld, hmask⟩ := State.blockReset_holds (s := s.begin) (code := 32 * r.val + i) hlive (isBlock_brst r.isLt hi)
    have hi' : i < 24 := by split at hi <;> omega
    have hv : (BitVec.ofNat 32 (2 ^ i)).toNat = 2 ^ i := by
      rw [BitVec.toNat_ofNat]
      exact Nat.mod_eq_of_lt (Nat.pow_lt_pow_right (by decide) (by omega))
    have hwrite : s.begin.sysCmd (fun t => t.brstWrite r.val (BitVec.ofNat 32 (2 ^ i)).toNat) = s.begin.blockReset (32 * r.val + i) := by
      rw [State.sysCmd_live (s := s.begin) hlive, hv, State.brstWrite_single _ hi]
    exact ⟨s.begin.blockReset (32 * r.val + i), State.next_settle hwrite, hheld, hmask⟩

end Sys2Proof.Machine
end

section
/-! The watchdog, the reset counters, the hours and temperature readings and the adaptive core voltage (R540, R545 to R547, R553,
R556, R631). -/
namespace Sys2Proof.Machine

theorem State.wdtKick_enabled {s : State} (h : s.flag SYS_WDT_CTL_EN = true) : s.wdtKick = s.wdtStart := if_pos h

theorem State.rstCmd_warm (s : State) : s.rstCmd 1 = s.pulseReset 7 := rfl

theorem State.rstCmd_cntclr (s : State) : s.rstCmd 2 = (List.range 10).foldl (fun t k => t.set (SYS_RST_CNT_COUNT k) 0) s := rfl

theorem State.hoursTick_runs {s : State} (h : ¬ (s.modeCode = mLowPower ∧ s.get SYS_MODE_STAT_LPSTATE = 5)) :
    s.hoursTick = if s.get SYS_HSEC_SECONDS + 1 < 3600 then s.set SYS_HSEC_SECONDS (s.get SYS_HSEC_SECONDS + 1)
      else (s.set SYS_HSEC_SECONDS 0).incWrap SYS_HOURS_OPERATING := if_neg h

theorem State.dieTemp_read {s : State} {d : Nat} (t : Nat) (hlive : s.sysLive = true) (hd : d = 2 → s.rst.barrierDown = false) :
    s.dieTemp d t = (s.set (SYS_TEMP_T d) t).set (SYS_TEMP_PEAK d)
      (if sgn 16 (s.get (SYS_TEMP_PEAK d)) < sgn 16 t then t else s.get (SYS_TEMP_PEAK d)) := by
  unfold State.dieTemp
  rw [if_neg]
  rintro (⟨h2, hdown⟩ | hdead)
  · rw [hd h2] at hdown
    exact Bool.false_ne_true hdown
  · rw [hlive] at hdead
    exact Bool.false_ne_true hdead

theorem State.avsAnswer_ok {s : State} {v b : Nat} (h : s.rst.avsWrite = some (v, b)) : s.avsAnswer true = s.avsConfirm v := by
  unfold State.avsAnswer
  rw [h]
  rfl

theorem State.avsTimeout_due {s : State} {v b : Nat} (h : s.rst.avsWrite = some (v, b)) (hb : b + 4000 ≤ s.rst.clk) : s.avsTimeout = s.avsFail := by
  unfold State.avsTimeout
  rw [h]
  exact if_pos hb

/-- The loop raises VSET by one step where the slack is low or VSET lies below its range (R546). -/
theorem State.avsSlack_up {s : State} {k : Nat} (hen : s.flag AVS_CTL_EN = true) (hp : s.rst.phase = .off) (hstop : s.rst.avsStop = false)
    (hwrite : s.rst.avsWrite = none) (hlow : sgn 16 k < (s.get AVS_SLK_SLKLO : Int) ∨ s.get AVS_STAT_VSET < min (min 40 (s.get AVS_CTL_VMAX)) (s.get AVS_CTL_VMIN))
    (hroom : s.get AVS_STAT_VSET < min 40 (s.get AVS_CTL_VMAX)) :
    s.avsSlack k = ({ s.set AVS_SLACK_LAST k with rst := { s.rst with avsHigh := none } } : State).avsSend (s.get AVS_STAT_VSET + 1) := by
  have hrun : (!s.flag AVS_CTL_EN || s.rst.phase != .off) = false := by rw [hen, hp]; rfl
  have hfree : (!(s.set AVS_SLACK_LAST k).rst.avsStop && (s.set AVS_SLACK_LAST k).rst.avsWrite.isNone) = true := by
    rw [State.set_rst, hstop, hwrite]
    rfl
  unfold State.avsSlack
  rw [if_neg (Bool.eq_false_iff.mp hrun)]
  dsimp only
  rw [if_pos (hlow.imp_left fun h => ⟨h, Nat.le_of_lt hroom⟩), if_pos ⟨hroom, hfree⟩]
  rfl

/-- Settles O7: one case of each operation; the resets by what an assertion answers outside an episode. -/
theorem watchdogAndWarmReset : Obligations.WatchdogAndWarmReset := by
  unfold Obligations.WatchdogAndWarmReset
  refine ⟨fun s hs hlive hen => ?_, fun s hrun hw hp => ?_, fun s hp => ?_, fun s hs hlive => ?_, fun s hs hm => ?_,
    fun s d t hs hlive hd => ?_, fun s v b hs hw => ?_, fun s v b hs hmild hw hb => ?_, fun s k hs hen hp hstop hw hlow hroom => ?_⟩
  · refine State.next_of_ctrl hs (State.sysCmd_ctrl _ _ (State.wdtKick_ctrl _)) ?_
    rw [State.sysCmd_live (s := s.begin) hlive, State.wdtKick_enabled (s := s.begin) hen]
    rfl
  · have hnext := State.pulseReset_next (u := s.begin) (k := 3) (by decide) hp rfl
    rw [← State.wdtExpire_due (s := s.begin) hrun hw] at hnext
    exact hnext
  · have hnext := State.pulseReset_next (u := s.begin) (k := 7) (by decide) hp rfl
    rw [← State.rstCmd_warm, ← State.sysCmd_live (s := s.begin) (State.sysLive_of_off hp) (fun t => t.rstCmd 1)] at hnext
    exact hnext
  · refine State.next_of_rest hs ((State.sysCmd_live (s := s.begin) hlive _).trans (State.rstCmd_cntclr _)) ?_
    exact State.ctrl_foldl _ (fun _ _ => State.set_ctrl ..) _ _
  · exact State.next_of_ctrl hs (State.hoursTick_ctrl _) (State.hoursTick_runs (s := s.begin) hm)
  · exact State.next_of_ctrl hs (State.dieTemp_ctrl ..) (State.dieTemp_read (s := s.begin) _ hlive fun h => hd (Fin.ext h))
  · refine State.next_of_rest hs (State.avsAnswer_ok (s := s.begin) hw) ?_
    exact State.set_ctrl ..
  · have hmild' : (({ s.begin with rst := { s.rst with avsWrite := none, avsStop := true } } : State).set AVS_STAT_AVSERR 1).mild 9 = true :=
      (State.mild_set _ _ _ _ (by decide) (by decide)).trans hmild
    refine State.next_of_rest hs (State.avsTimeout_due (s := s.begin) hw hb) ?_
    exact (State.pulse_mild_ctrl _ _ _ (by decide) hmild').trans (State.set_ctrl ..)
  · exact State.next_of_ctrl hs (State.avsSlack_ctrl ..) (State.avsSlack_up (s := s.begin) hen hp hstop hw hlow hroom)

end Sys2Proof.Machine
end

section
/-! Supplies, their sequencing and the power states (R541 to R544, R548 to R551, R632 to R634). -/
namespace Sys2Proof.Machine

/-! ### Rails (R542) -/

theorem State.railBelow_supervised {s : State} {r : Nat} (mv : Nat) (h : s.supervised r = true) : s.railBelow r mv =
    let u := s.set (SUP_MIN_MIN r) (min mv (s.get (SUP_MIN_MIN r)))
    if s.warnLevel r ≤ mv then u else if r = 7 then u.set SUP_STAT_VBAKLOW 1 else if !(s.rail r).armed || (s.rail r).belowSince.isSome then u
    else
      let p := u.setPin s.sysLive SUP_STAT_BELOW (putBit (u.pinLevel SUP_STAT_BELOW) r true)
      let w := p.setRail r { p.rail r with belowSince := some s.rst.clk, aboveSince := none }
      if r = 4 then { w with rst := { w.rst with vddqOk := false } } else w := by
  unfold State.railBelow
  rw [h]
  rfl

theorem State.railAbove_fresh {s : State} {r mv : Nat} (h : s.supervised r = true) (hmv : s.warnLevel r ≤ mv)
    (hbelow : (s.rail r).belowSince = none) : s.railAbove r mv =
      ((s.setPin s.sysLive SUP_STAT_BELOW (putBit (s.pinLevel SUP_STAT_BELOW) r false)).setRail r
        { s.rail r with belowSince := none, aboveSince := some s.rst.clk, armed := true }).seqCheck := by
  have hgo : (!s.supervised r || decide (mv < s.warnLevel r)) = false := by
    rw [h, decide_eq_false (by omega)]
    rfl
  unfold State.railAbove
  rw [if_neg (Bool.eq_false_iff.mp hgo)]
  dsimp only
  rw [hbelow]

theorem State.railDip_due {s : State} {r b : Nat} (hr : r < 7) (h : s.supervised r = true) (hbelow : (s.rail r).belowSince = some b)
    (hb : b + 800 ≤ s.rst.clk) : s.railDip r =
      ((s.set SUP_STAT_DIP (putBit (s.get SUP_STAT_DIP) r true)).set SUP_STAT_RECOV (putBit (s.get SUP_STAT_RECOV) r false)).raise 5 := by
  unfold State.railDip
  rw [hbelow]
  exact if_pos ⟨hr, h, hb⟩

theorem State.railRecovered_due {s : State} {r mv a : Nat} (hdip : (s.get SUP_STAT_DIP).testBit r = true)
    (habove : (s.rail r).aboveSince = some a) (ha : a + 20000 ≤ s.rst.clk) (hmv : s.warnLevel r + s.get (supHyst r) ≤ mv) :
    s.railRecovered r mv = s.set SUP_STAT_RECOV (putBit (s.get SUP_STAT_RECOV) r true) := by
  unfold State.railRecovered
  rw [habove]
  exact if_pos ⟨hdip, ha, hmv⟩

/-! ### Sequencing (R632, R634) -/

theorem State.pwrRaise_due {s : State} {t g : Nat} (hseq : s.rst.pwrSeq = some (t, false)) (hlast : s.lastGroup = some (g + 1))
    (hok : ((groupRails (g + 1)).all (fun r => s.railUp r && (match (s.rail r).aboveSince with
      | some b => decide (b + 40000 ≤ s.rst.clk) | none => true)) = true)) : s.pwrRaise = (s.assertReset 1).raiseGroup g := by
  unfold State.pwrRaise
  rw [hseq, hlast]
  exact if_pos hok

theorem State.pwrTimeout_due {s : State} {t g : Nat} (hseq : s.rst.pwrSeq = some (t, false)) (hlast : s.lastGroup = some g)
    (ht : t + 4000000 ≤ s.rst.clk) (hup : (groupRails g).all s.railUp = false) : s.pwrTimeout =
      ({ s.dropAll with rst := { s.dropAll.rst with pwrSeq := some (s.rst.clk, true) } } : State).assertReset 1 := by
  unfold State.pwrTimeout
  rw [hseq, hlast]
  exact if_pos ⟨ht, by rw [hup]; rfl⟩

theorem State.pwrRestart_due {s : State} {t : Nat} (hseq : s.rst.pwrSeq = some (t, true)) (ht : t + 40000000 ≤ s.rst.clk) :
    s.pwrRestart = s.raiseGroup 3 := by
  unfold State.pwrRestart
  rw [hseq]
  exact if_pos ht

/-! ### Low power (R548 to R551) -/

theorem State.dropAll_get (s : State) (f : Fld) : s.dropAll.get f = s.get f :=
  State.foldl_keeps (fun t => t.get f) (fun t g => if s.rst.pwrEn.testBit g then t.emit (.pin (3 + g) 0) else t)
    (fun t g => by split <;> rfl) (List.range 4) s

theorem State.modeCode_of_stand {s t : State} (h : s.stand = t.stand) : s.modeCode = t.modeCode := congrArg Prod.fst h

/-- The loss of the segment queues on the way into Wound and below leaves the mode. -/
theorem State.queuesLost_modeCode (s : State) :
    ((List.range 24).foldl (fun (u : State) n => u.setQueue n []) s).modeCode = s.modeCode :=
  State.foldl_keeps State.modeCode _ (fun u n => State.modeCode_of_stand (State.setQueue_stand u n [])) _ _

/-- The entry into a Low power sub-state completes: the mode shows it, and its time and sub-state are recorded (R549). -/
theorem State.lpEnter_done {s : State} {r : ModeReq} {n : Nat} (htrans : s.mode.trans = some (r, n)) (hdue : s.mode.haltDue = none)
    (htarget : r.target = mLowPower) (hposted : s.escs.any (fun e => e.2.stores.any (fun q => s.region q.addr == .dram)) = false) :
    ∃ u : State, u.modeCode = mLowPower ∧
      s.lpEnter = ({ u with rst := { u.rst with lpSince := s.rst.clk, waking := none } } : State).set SYS_LP_STAT_LASTSTATE r.lpstate := by
  unfold State.lpEnter
  rw [htrans]
  dsimp only
  rw [if_neg (by rw [htarget, hposted, hdue]; decide)]
  refine ⟨_, ?_, rfl⟩
  generalize (if r.lpstate = 3 ∨ r.lpstate = 4 then _ else _ : State) = s3
  have hentered : (s3.enterMode mLowPower r.lpstate r.master).modeCode = mLowPower := State.enterMode_modeCode _ _ _ (by decide)
  generalize s3.enterMode mLowPower r.lpstate r.master = s4 at hentered ⊢
  have hqueues : (if 3 ≤ r.lpstate then
      (List.range 24).foldl (fun (u : State) n => u.setQueue n [])
        { s4.zeroMem 0x1002800000 0x1002C00000 with
          escs := (s4.zeroMem 0x1002800000 0x1002C00000).escs.map (fun e => (e.1, { e.2 with buf := [], window := [], line := .idle })) }
      else s4).modeCode = mLowPower := by
    split
    · exact (State.queuesLost_modeCode _).trans hentered
    · exact hentered
  generalize (if 3 ≤ r.lpstate then _ else s4 : State) = s5 at hqueues ⊢
  split
  · exact (State.dropAll_get s5 SYS_MODE_STAT_MODE).trans hqueues
  · split
    · exact hqueues
    · exact hqueues

theorem State.lpTarget_entered {s : State} (h : s.modeCode = mLowPower) : s.lpTarget = some (s.get SYS_MODE_STAT_LPSTATE, true) := if_pos h

/-- A wake from a shallow sub-state is noted with its source and begins (R550, R551). -/
theorem State.wake_shallow {s : State} {code : Nat} (hm : s.modeCode = mLowPower) (hlp : s.get SYS_MODE_STAT_LPSTATE ≤ 3)
    (hallow : s.wakeAllowed (s.get SYS_MODE_STAT_LPSTATE) code = true) (hwaking : s.rst.waking = none) (hcode : code ≠ 7) :
    s.wake code = { s.set SYS_LP_STAT_WAKESRC code with rst := { s.rst with waking := some 1 } } := by
  have hgo : (!s.wakeAllowed (s.get SYS_MODE_STAT_LPSTATE) code || s.rst.waking.isSome) = false := by rw [hallow, hwaking]; rfl
  unfold State.wake
  rw [State.lpTarget_entered hm]
  dsimp only
  rw [if_neg (Bool.eq_false_iff.mp hgo), if_neg fun h => hcode h.1, if_neg (by decide), if_pos hlp]
  rfl

theorem State.withRst_ctrl (s : State) (r : RstSt) : ({ s with rst := r } : State).ctrl = s.ctrl := rfl

theorem wakeCode_ne_resetN {w : WakeSrc} (h : w ≠ .resetN) : wakeCode w ≠ 7 := by
  cases w with
  | resetN => exact absurd rfl h
  | wakeN => decide
  | pcie => decide
  | skeuz => decide
  | headLink => decide
  | interrupt => decide

theorem State.wakeTimer_due {s : State} (hm : s.modeCode = mLowPower) (hn : s.get SYS_LP_TIMER_AON ≠ 0)
    (ht : s.get SYS_LP_TIMER_AON * 400000000 ≤ (s.rst.clk - s.rst.lpSince) * 32768) : s.wakeTimer = s.wake 2 := if_pos ⟨hm, hn, ht⟩

/-- The start of the watchdog leaves the mode and all of the reset state but its own count. -/
theorem State.wdtStart_modeCode (s : State) : s.wdtStart.modeCode = s.modeCode := by
  unfold State.modeCode State.wdtStart
  rw [State.get_set_ne _ _ _ _ (by decide)]
  rfl

/-- A wake from Idle or Doze completes in the mode Idle with every supply group on (R548, R551). -/
theorem State.wakeDone_shallow {s : State} (hw : s.rst.waking = some 1) (hlp : s.get SYS_MODE_STAT_LPSTATE ≤ 1) :
    s.wakeDone.modeCode = mIdle ∧ s.wakeDone.rst.waking = none ∧ s.wakeDone.rst.pwrEn = 15 := by
  have hstand := State.enterMode_stand { s with rst := { s.rst with waking := none, pwrEn := 15 } } mIdle 0 0xFF (by decide)
  unfold State.wakeDone
  simp only [hw]
  generalize ({ s with rst := { s.rst with waking := none, pwrEn := 15 } } : State).enterMode mIdle 0 0xFF = u at hstand ⊢
  have hmode : u.modeCode = mIdle := congrArg Prod.fst hstand
  have hwaking : u.rst.waking = none := congrArg (fun p => p.2.waking) hstand
  have hpwr : u.rst.pwrEn = 15 := congrArg (fun p => p.2.pwrEn) hstand
  have h2 : ¬ 2 ≤ s.get SYS_MODE_STAT_LPSTATE := by omega
  have heq2 : ¬ s.get SYS_MODE_STAT_LPSTATE = 2 := by omega
  have h3 : ¬ 3 ≤ s.get SYS_MODE_STAT_LPSTATE := by omega
  have heq3 : ¬ s.get SYS_MODE_STAT_LPSTATE = 3 := by omega
  rw [if_neg h2, if_neg heq2, if_neg h3, if_neg heq3]
  split
  · exact ⟨u.wdtStart_modeCode.trans hmode, hwaking, hpwr⟩
  · exact ⟨hmode, hwaking, hpwr⟩

/-- Settles O8: each rail, sequence and power command by the case of its operation that the conditions name. -/
theorem supplyRailsAndPowerStates : Obligations.SupplyRailsAndPowerStates := by
  unfold Obligations.SupplyRailsAndPowerStates
  refine ⟨fun s rr mv hs hsup => ?_, fun s rr mv hs hsup hmv hbelow => ?_, fun s rr b hr hsup hbelow hb => ?_,
    fun s rr mv a hs hdip habove ha hmv => ?_, fun s hs hlive => ?_, fun s t g hseq hlast hok => ?_, fun s t g hseq hlast ht hup => ?_,
    fun s t hs hseq ht => ?_, fun s r n htrans hdue htarget hposted => ?_, fun s w hs hm hlp hallow hwaking hw => ?_,
    fun s hs hm hlp hallow hwaking hn ht => ?_, fun s hw hlp => ?_⟩
  · exact State.next_of_ctrl hs (State.railBelow_ctrl ..) (State.railBelow_supervised (s := s.begin) _ hsup)
  · exact State.next_of_ctrl hs (State.railAbove_ctrl ..) (State.railAbove_fresh (s := s.begin) hsup hmv hbelow)
  · exact State.next_settle (State.railDip_due (s := s.begin) hr hsup hbelow hb)
  · exact State.next_of_ctrl hs (State.railRecovered_ctrl ..) (State.railRecovered_due (s := s.begin) hdip habove ha hmv)
  · exact State.next_of_ctrl hs (State.sysCmd_ctrl _ _ (State.supResume_ctrl _)) (State.sysCmd_live (s := s.begin) hlive _)
  · exact State.next_settle (State.pwrRaise_due (s := s.begin) hseq hlast hok)
  · exact State.next_settle (State.pwrTimeout_due (s := s.begin) hseq hlast ht hup)
  · exact State.next_of_ctrl hs (State.pwrRestart_ctrl _) (State.pwrRestart_due (s := s.begin) hseq ht)
  · obtain ⟨u, hmode, hu⟩ := State.lpEnter_done (s := s.begin) htrans hdue htarget hposted
    refine ⟨_, State.next_settle hu, ?_, State.get_set .., rfl, rfl⟩
    exact (State.get_set_ne _ SYS_LP_STAT_LASTSTATE SYS_MODE_STAT_MODE _ (by decide)).trans hmode
  · exact State.next_of_rest hs (State.wake_shallow (s := s.begin) hm hlp hallow hwaking (wakeCode_ne_resetN hw)) (State.withRst_ctrl _ _ |>.trans (State.set_ctrl ..))
  · exact State.next_of_rest hs ((State.wakeTimer_due (s := s.begin) hm hn ht).trans
      (State.wake_shallow (s := s.begin) hm hlp hallow hwaking (by decide))) (State.withRst_ctrl _ _ |>.trans (State.set_ctrl ..))
  · obtain ⟨hmode, hwaking, hpwr⟩ := State.wakeDone_shallow (s := s.begin) hw hlp
    exact ⟨s.begin.wakeDone, rfl, hmode, hwaking, hpwr⟩

end Sys2Proof.Machine
end

section
/-! PROOF (O9, O10). The laser family: what each operation does in the case the statements name (R182, R212 to R239). -/
namespace Sys2Proof.Machine

/-! ### Regulators and ports -/

theorem State.fallNow_due {s : State} {n k : Nat} (h : (s.reg n).fallDue = some k) : s.fallNow n = s.fallback n k := by
  unfold State.fallNow
  rw [h]

theorem State.handBack_due {s : State} {n m : Nat} (h : (s.reg n).handDue = some m) : s.handBack n =
    (s.setReg n { s.reg n with loop := 1, fell := false, handDue := none, holds := 0 }).showLoop n none := by
  unfold State.handBack
  exact if_pos (by rw [h]; rfl)

theorem State.closeEvent_open {s : State} {n ty : Nat} {e : OpenEvent} (h : (s.reg n).open? ty = some e) :
    s.closeEvent n ty = (s.setReg n ((s.reg n).setOpen ty none)).pushEvent n ty e := by
  unfold State.closeEvent
  rw [h]

theorem State.popEvent_cons {s : State} {n : Nat} {e : List Nat} {q : List (List Nat)} (h : (s.reg n).queue = e :: q) :
    s.popEvent n = (s.setReg n { s.reg n with queue := q }).showQueue n := by
  unfold State.popEvent
  dsimp only
  rw [h]

theorem State.dacUpdate_due {s : State} {n b c : Nat} {l : List (Nat × Nat)} (h : (s.port n).updates = (b, c) :: l) (hb : b ≤ s.beat) :
    s.dacUpdate n = (s.setPort n { s.port n with updates := l }).setDac n c := by
  unfold State.dacUpdate
  dsimp only
  rw [h]
  exact if_pos hb

/-- The timeline's edge goes first where no edge of the field comes earlier. -/
theorem State.gateEdge_own {s : State} {n b : Nat} {w : Bool} {l : List (Nat × Bool)} (h : (s.port n).edges = (b, w) :: l)
    (hb : b ≤ 64 * s.beat + 63) (hf : ((s.port n).fieldEdges.all fun e => decide (b ≤ e.1)) = true) :
    s.gateEdge n = (s.setPort n { s.port n with edges := l, want := w }).portRefresh n := by
  unfold State.gateEdge
  dsimp only
  rw [h]
  cases hfe : (s.port n).fieldEdges with
  | nil => exact if_pos (decide_eq_true hb)
  | cons e more =>
    rw [hfe, List.all_cons, Bool.and_eq_true, decide_eq_true_eq] at hf
    have hnot : ¬ e.1 < b := by omega
    dsimp only
    rw [if_neg hnot]
    exact if_pos (decide_eq_true hb)

/-- The field's edge goes first where every edge of the timeline comes later. -/
theorem State.gateEdge_field {s : State} {n b : Nat} {w : Bool} {l : List (Nat × Bool)} (h : (s.port n).fieldEdges = (b, w) :: l)
    (hb : b ≤ 64 * s.beat + 63) (he : ((s.port n).edges.all fun e => decide (b < e.1)) = true) :
    s.gateEdge n = (s.setPort n { s.port n with fieldEdges := l, fieldHeld := !w }).portRefresh n := by
  unfold State.gateEdge
  dsimp only
  rw [h]
  cases hed : (s.port n).edges with
  | nil => exact if_pos (decide_eq_true hb)
  | cons e more =>
    rw [hed, List.all_cons, Bool.and_eq_true, decide_eq_true_eq] at he
    dsimp only
    rw [if_pos he.1]
    exact if_pos (decide_eq_true hb)

/-- Settles O9: each regulator and port command by the case of its operation that the conditions name. -/
theorem setpointAndRegulatorCommands : Obligations.SetpointAndRegulatorCommands := by
  unfold Obligations.SetpointAndRegulatorCommands
  refine ⟨fun s n ecc hbeat hsam hdry hheld hoff => ?_, fun s n k hk => ?_, fun s n m hs hm => ?_, fun s n ty e he hdur => ?_,
    fun s n e q hs hheld hq => ?_, fun s n b c l hs hl hb => ?_, fun s n b w l hs hl hb hf => ?_, fun s n b w l hs hl hb he => ?_⟩
  · have hgo : (decide (s.beat % 200 = 0) && s.sampled n.val && !s.dry && !s.heldInReset (32 + n.val) && s.rst.phase == .off) = true := by
      rw [hsam, hdry, hheld, hoff, decide_eq_true hbeat]
      rfl
    exact State.next_settle (if_pos hgo)
  · exact State.next_settle (State.fallNow_due (s := s.begin) hk)
  · exact State.next_of_ctrl hs (State.handBack_ctrl ..) (State.handBack_due (s := s.begin) hm)
  · have hev : (s.begin.reg n.val).open? (ty.val + 1) = some e := he
    unfold exec execEventMaxDuration
    dsimp only
    rw [hev]
    exact State.next_settle ((if_pos hdur).trans (State.closeEvent_open hev))
  · refine State.next_of_rest hs ((if_neg (Bool.eq_false_iff.mp hheld)).trans (State.popEvent_cons (s := s.begin) hq)) ?_
    exact (congrArg State.ctrl (State.popEvent_cons (s := s.begin) hq)).symm.trans (State.popEvent_ctrl ..)
  · exact State.next_of_ctrl hs (State.dacUpdate_ctrl ..) (State.dacUpdate_due (s := s.begin) hl hb)
  · exact State.next_of_ctrl hs (State.gateEdge_ctrl ..) (State.gateEdge_own (s := s.begin) hl hb hf)
  · exact State.next_of_ctrl hs (State.gateEdge_ctrl ..) (State.gateEdge_field (s := s.begin) hl hb he)

/-! ### The interlock inputs -/

theorem State.setPin_beat (s : State) (live : Bool) (f : Fld) (v : Nat) : (s.setPin live f v).beat = s.beat := by
  unfold State.setPin
  split <;> rfl

theorem State.setPin_pinLevel_same (s : State) (live : Bool) (f : Fld) (v : Nat) : (s.setPin live f v).pinLevel f = v % 2 ^ f.width := by
  have h : ({ s with pins := Sparse.put 0 s.pins f.key (v % 2 ^ f.width) } : State).pinLevel f = v % 2 ^ f.width := Sparse.get_put_same ..
  unfold State.setPin
  cases live <;> exact h

theorem State.setPin_pinLevel_ne (s : State) (live : Bool) (f g : Fld) (v : Nat) (hne : g.key ≠ f.key) :
    (s.setPin live f v).pinLevel g = s.pinLevel g := by
  have h : ({ s with pins := Sparse.put 0 s.pins f.key (v % 2 ^ f.width) } : State).pinLevel g = s.pinLevel g := Sparse.get_put_ne _ _ _ _ _ hne
  unfold State.setPin
  cases live <;> exact h

theorem State.lower_beat (s : State) (k : Nat) : (s.lower k).beat = s.beat := by
  unfold State.lower State.clearSrcBit
  split <;> rfl

theorem State.lower_pinLevel (s : State) (k : Nat) (f : Fld) : (s.lower k).pinLevel f = s.pinLevel f := by
  unfold State.lower State.clearSrcBit
  split <;> rfl

/-- A channel that rises ends its source; the discrepancy's clock stops where the levels agree again (R239). -/
theorem State.interlock_up {s : State} {b : Bool} (h : s.pinLevel (if b then LP_ILK_LEVB else LP_ILK_LEVA) ≠ 1) : s.interlock b true =
    (let u := (s.setPin s.sysLive (if b then LP_ILK_LEVB else LP_ILK_LEVA) 1).lower (if b then 3 else 2)
     if u.pinLevel LP_ILK_LEVA == u.pinLevel LP_ILK_LEVB then ({ u with ilkDiff := none }).lower 4 else { u with ilkDiff := some u.beat }) := by
  have hbeat : ((s.setPin s.sysLive (if b then LP_ILK_LEVB else LP_ILK_LEVA) 1).lower (if b then 3 else 2)).beat = s.beat :=
    (State.lower_beat ..).trans (State.setPin_beat ..)
  have hsame : (s.pinLevel (if b then LP_ILK_LEVB else LP_ILK_LEVA) == b2n true) = false := beq_eq_false_iff_ne.mpr h
  unfold State.interlock
  dsimp only
  rw [if_neg (Bool.eq_false_iff.mp hsame), if_pos rfl, show b2n true = 1 from rfl]
  generalize (s.setPin s.sysLive (if b then LP_ILK_LEVB else LP_ILK_LEVA) 1).lower (if b then 3 else 2) = u at hbeat ⊢
  exact congrArg (fun t => if u.pinLevel LP_ILK_LEVA == u.pinLevel LP_ILK_LEVB then ({ u with ilkDiff := none }).lower 4
    else { u with ilkDiff := some t }) hbeat.symm

/-- The first channel that drops is latched; outside Armed it is no fault. The other channel still stands, so the
discrepancy's clock starts (R239). -/
theorem State.interlock_first_down {s : State} {b : Bool} (h : s.pinLevel (if b then LP_ILK_LEVB else LP_ILK_LEVA) = 1)
    (harm : s.armingOrArmed = false) (hlive : s.sysLive = true) (hfirst : s.get LP_ILK_FIRST = 0)
    (hother : s.pinLevel (if b then LP_ILK_LEVA else LP_ILK_LEVB) = 1) : s.interlock b false =
    { (s.setPin true (if b then LP_ILK_LEVB else LP_ILK_LEVA) 0).set LP_ILK_FIRST (if b then 2 else 1) with
      ilkFirst := some s.beat, ilkDiff := some s.beat } := by
  have hsame : (s.pinLevel (if b then LP_ILK_LEVB else LP_ILK_LEVA) == b2n false) = false := by rw [h]; rfl
  have hdiffer : ((s.setPin true (if b then LP_ILK_LEVB else LP_ILK_LEVA) 0).pinLevel LP_ILK_LEVA ==
      (s.setPin true (if b then LP_ILK_LEVB else LP_ILK_LEVA) 0).pinLevel LP_ILK_LEVB) = false := by
    cases b with
    | false =>
      rw [if_neg Bool.false_ne_true] at hother ⊢
      rw [State.setPin_pinLevel_same, State.setPin_pinLevel_ne _ _ _ _ _ (by decide), hother]
      rfl
    | true =>
      rw [if_pos rfl] at hother ⊢
      rw [State.setPin_pinLevel_same, State.setPin_pinLevel_ne _ _ _ _ _ (by decide), hother]
      rfl
  have hnlive : ¬ (!s.sysLive) = true := by rw [hlive]; decide
  unfold State.interlock
  dsimp only
  rw [if_neg (Bool.eq_false_iff.mp hsame), if_neg Bool.false_ne_true, if_neg (Bool.eq_false_iff.mp harm), if_neg hnlive, if_pos hfirst, hlive]
  exact if_neg (Bool.eq_false_iff.mp hdiffer)

theorem State.ilkClear_closed {s : State} (ha : s.flag LP_ILK_LEVA = true) (hb : s.flag LP_ILK_LEVB = true) :
    s.ilkClear = s.set LP_ILK_FIRST 0 := if_pos (by rw [ha, hb]; rfl)

theorem State.setPin_flag_ne (s : State) (live : Bool) (f g : Fld) (v : Nat) (h : g.key ≠ f.key) : (s.setPin live f v).flag g = s.flag g := by
  unfold State.setPin
  cases live with
  | false => rfl
  | true => exact State.flag_set_ne _ _ _ _ h

theorem State.setPin_modeCode (s : State) (live : Bool) (f : Fld) (v : Nat) (h : SYS_MODE_STAT_MODE.key ≠ f.key) :
    (s.setPin live f v).modeCode = s.modeCode := by
  unfold State.setPin
  cases live with
  | false => rfl
  | true => exact State.get_set_ne _ _ _ _ h

/-- The clause's field of a port differs from the port's LP_CTL.EN and from the mode. -/
theorem alm_key (n : Nat) : (LP_CTL_EN n).key ≠ (LP_STAT_ALM n).key := by
  simp only [Fld.key, LP_CTL_EN, LP_STAT_ALM]; omega

theorem rdy_key (n : Nat) : (LP_CTL_EN n).key ≠ (LP_STAT_RDY n).key := by
  simp only [Fld.key, LP_CTL_EN, LP_STAT_RDY]; omega

theorem mode_key_rdy (n : Nat) : SYS_MODE_STAT_MODE.key ≠ (LP_STAT_RDY n).key := by
  simp only [Fld.key, SYS_MODE_STAT_MODE, LP_STAT_RDY]; omega

/-- Settles O10: the inputs of the laser ports and of the interlock, by what each does to its pin, its field and its source. -/
theorem laserPortInputs : Obligations.LaserPortInputs := by
  unfold Obligations.LaserPortInputs
  refine ⟨fun s n => ?_, fun s n hs => ?_, fun s n => ?_, fun s n hs => ?_, fun s ch h => ?_,
    fun s ch hs h harm hlive hfirst hother => ?_, fun s b hb hd hlate => ?_, fun s hs ha hb => ?_⟩
  · have hen := State.setPin_flag_ne s.begin s.sysLive (LP_STAT_ALM n.val) (LP_CTL_EN n.val) 1 (alm_key n.val)
    unfold exec execLaserAlarm
    dsimp only
    rw [hen]
    rfl
  · exact State.next_of_ctrl hs ((State.lower_ctrl ..).trans (State.setPin_ctrl ..)) rfl
  · have hen := State.setPin_flag_ne s.begin s.sysLive (LP_STAT_RDY n.val) (LP_CTL_EN n.val) 0 (rdy_key n.val)
    have hmode := State.setPin_modeCode s.begin s.sysLive (LP_STAT_RDY n.val) 0 (mode_key_rdy n.val)
    unfold exec execLaserNotReady
    dsimp only
    rw [hen, hmode]
    rfl
  · exact State.next_of_ctrl hs ((State.lower_ctrl ..).trans (State.setPin_ctrl ..)) rfl
  · exact State.next_settle (State.interlock_up (s := s.begin) h)
  · refine State.next_of_rest hs (State.interlock_first_down (s := s.begin) h harm hlive hfirst hother) ?_
    simp only [State.ctrl_mk, State.ctrl_eta, State.set_ctrl, State.setPin_ctrl]
  · unfold exec execInterlockDiscrepancy
    dsimp only
    have hb' : s.begin.ilkDiff = some b := hb
    rw [hb']
    exact State.next_settle (if_pos ⟨hd, hlate⟩)
  · exact State.next_of_ctrl hs (State.ilkClear_ctrl ..) (State.ilkClear_closed (s := s.begin) ha hb)

end Sys2Proof.Machine
end

section
/-! PROOF (O11). The mode controller: what each operation does in the case the statement names (R45 to R58, R146). -/
namespace Sys2Proof.Machine

/-! ### Requests -/

/-- A request is answered by its cause against the mode in force where no transition and no forced entry is under way (R45). -/
theorem State.submit_rest {s : State} (r : ModeReq) (hdue : s.mode.haltDue = none) (htrans : s.mode.trans = none) : s.submit r =
    match s.requestCause s.modeCode (s.get SYS_MODE_STAT_LPSTATE) r with
    | some c => s.reject r s.modeCode c
    | none => s.acceptRequest r := by
  unfold State.submit
  rw [hdue, htrans]
  rfl

theorem State.submit_haltDue {s : State} {l : List Nat} (r : ModeReq) (hdue : s.mode.haltDue = some l) : s.submit r = s.reject r mHalted 4 := by
  unfold State.submit
  rw [hdue]
  rfl

theorem State.acceptRequest_new {s : State} {r : ModeReq} (h : r.target ≠ s.modeCode) : s.acceptRequest r =
    { (s.set SYS_MODE_STAT_REQ_MASTER r.master).set SYS_MODE_STAT_BUSY 1 with mode := { s.mode with trans := some (r, s.beat), armed := false } } :=
  if_neg h

/-- A rejection that is no broadcast's is recorded and nothing more (R64). -/
theorem State.reject_local {s : State} {r : ModeReq} (h : r.master ≠ 0xFD) (m c : Nat) : s.reject r m c =
    ((((s.set SYS_MODE_ERR_REJ_MASTER r.master).set SYS_MODE_ERR_REJ_CAUSE c).set SYS_MODE_ERR_REJ_FROM m).set
      SYS_MODE_ERR_REJ_TARGET r.target).set SYS_MODE_ERR_REJECT 1 := if_neg h

theorem State.modeRequest_go {s : State} (h : s.sysLive = true) (m v : Nat) : s.modeRequest m (v ||| 2 ^ 31) =
    ((s.set SYS_MODE_REQ_TARGET (bits (v ||| 2 ^ 31) 3 0)).set SYS_MODE_REQ_LPSTATE (bits (v ||| 2 ^ 31) 7 4)).submit
      ⟨bits (v ||| 2 ^ 31) 3 0, bits (v ||| 2 ^ 31) 7 4, m⟩ := by
  have hgo : bit (v ||| 2 ^ 31) 31 = true := by
    unfold bit
    rw [Nat.testBit_or, Nat.testBit_two_pow_self, Bool.or_true]
  have hlive : ¬ (!s.sysLive) = true := by rw [h]; decide
  unfold State.modeRequest
  rw [if_neg hlive]
  exact if_pos hgo

/-! ### Transitions -/

theorem State.transComplete_done {s : State} {r : ModeReq} {b : Nat} (hdue : s.mode.haltDue = none) (htrans : s.mode.trans = some (r, b))
    (hdone : s.transDone r.target = true) : s.transComplete = s.enterMode r.target r.lpstate r.master := by
  unfold State.transComplete
  rw [hdue, htrans]
  exact if_pos hdone

theorem State.pendingStart_legal {s : State} {r : ModeReq} (hdue : s.mode.haltDue = none) (hpend : s.mode.pend = some r)
    (htrans : s.mode.trans = none) (hsince : s.mode.since < s.beat)
    (hcause : s.dropPending.requestCause s.dropPending.modeCode (s.dropPending.get SYS_MODE_STAT_LPSTATE) r = none) :
    s.pendingStart = s.dropPending.acceptRequest r := by
  have hwait : ¬ (s.beat ≤ s.mode.since ∨ s.mode.haltDue.isSome = true) := by
    rw [hdue]
    rintro (h | h)
    · omega
    · exact absurd h (by decide)
  unfold State.pendingStart
  rw [hpend, htrans]
  dsimp only
  rw [if_neg hwait, hcause]

theorem State.transTimeout_late {s : State} {r : ModeReq} {b : Nat} (htrans : s.mode.trans = some (r, b)) (hlate : b + s.transLimit ≤ s.beat) :
    s.transTimeout = (((s.set SYS_MODE_ERR_TIMEOUT 1).pulse 7).preemptPending).enterMode mHalted 0 0xFE := by
  have hnot : ¬ (!decide (b + s.transLimit ≤ s.beat)) = true := by rw [decide_eq_true hlate]; decide
  unfold State.transTimeout
  rw [htrans]
  exact if_neg hnot

/-- The arming beat of R55: from Idle at once, from Recoat once axes and calibration rest. -/
theorem State.armingBeat_due {s : State} {r : ModeReq} {b : Nat} (hdue : s.mode.haltDue = none) (htrans : s.mode.trans = some (r, b))
    (ht : r.target = mArmed) (harmed : s.mode.armed = false)
    (hrest : s.modeCode = mIdle ∨ (b < s.beat ∧ s.stepperMoves = false ∧ s.cal.running = none)) :
    s.armingBeat = { s.armAll with mode := { s.armAll.mode with armed := true, armAt := s.beat } } := by
  have hgo : r.target = mArmed ∧ (!s.mode.armed) = true ∧ s.mode.haltDue.isNone = true ∧
      (s.modeCode = mIdle ∨ (decide (b < s.beat) && !s.stepperMoves && s.cal.running.isNone) = true) := by
    refine ⟨ht, by rw [harmed]; rfl, by rw [hdue]; rfl, hrest.imp_right ?_⟩
    rintro ⟨hb, hmoves, hcal⟩
    rw [hmoves, hcal, decide_eq_true hb]
    rfl
  unfold State.armingBeat
  rw [htrans]
  exact if_pos hgo

/-! ### Expose -/

theorem State.haltsPast_noted (s : State) (m : ModeSt) : ({ s.set SYS_MODE_EVT_LAYER 1 with mode := m } : State).haltsPast = s.haltsPast := by
  have hen (n : Nat) : ({ s.set SYS_MODE_EVT_LAYER 1 with mode := m } : State).flag (ESC_CTL_ENABLE n) = s.flag (ESC_CTL_ENABLE n) :=
    State.flag_set_ne s SYS_MODE_EVT_LAYER (ESC_CTL_ENABLE n) 1 (by simp only [Fld.key, ESC_CTL_ENABLE, SYS_MODE_EVT_LAYER]; omega)
  unfold State.haltsPast
  simp only [hen]
  rfl

theorem State.layerComplete_local {s : State} (hm : s.modeCode = mExpose) (htrans : s.mode.trans = none) (hover : s.layerOver = true)
    (htold : s.mode.layerTold = false) (hfab : s.flag SYS_MODE_CTL_FAB_LAYER = false) : s.layerComplete =
    (let u := { s.set SYS_MODE_EVT_LAYER 1 with mode := { s.mode with layerTold := true } }
     if s.haltsPast then u.enterMode mRecoat 0 0xFF else { u with mode := { u.mode with recoatDue := true } }) := by
  have hgo : ¬ (s.modeCode ≠ mExpose ∨ s.mode.trans.isSome = true ∨ (!s.layerOver) = true ∨ s.mode.layerTold = true) := by
    rw [htrans, hover, htold]
    rintro (h | h | h | h)
    · exact h hm
    all_goals exact absurd h (by decide)
  unfold State.layerComplete
  rw [if_neg hgo]
  dsimp only
  rw [if_neg (Bool.eq_false_iff.mp hfab), State.haltsPast_noted]

theorem State.startDueNow_cons {s : State} {b : Nat} {l : List Nat} (hl : s.starts = b :: l) (hb : b ≤ s.beat) :
    s.startDueNow = ({ s with starts := l }).startRelease := by
  have hfind : s.starts.find? (fun b => decide (b ≤ s.beat)) = some b := by
    rw [hl]
    exact List.find?_cons_of_pos (decide_eq_true hb)
  have hrest : s.starts.erase b = l := by rw [hl, List.erase_cons_head]
  unfold State.startDueNow
  rw [hfind]
  dsimp only
  rw [hrest]

/-- Settles O11: each command of the mode controller by the case of its operation that the conditions name. -/
theorem modeMachineCommands : Obligations.ModeMachineCommands := by
  unfold Obligations.ModeMachineCommands
  refine ⟨fun s m v hlive => ?_, fun s r hdue htrans hcause hnew => ?_, fun s r c hdue htrans hcause hm => ?_, fun s r l hdue hm => ?_,
    fun s r b hdue htrans hdone ht => ?_, fun s r hdue hpend htrans hsince hcause => ?_, fun s r b htrans hlate => ⟨?_, ?_⟩,
    fun s r b hdue htrans ht harmed hrest => ?_, fun s hm htrans hover htold hfab => ⟨?_, ?_⟩, fun s b l hl hb => ?_⟩
  · exact State.next_settle (State.modeRequest_go (s := s.begin) hlive _ _)
  · rw [State.submit_rest r hdue htrans, hcause]
    exact State.acceptRequest_new hnew
  · rw [State.submit_rest r hdue htrans, hcause]
    exact State.reject_local hm _ _
  · exact (State.submit_haltDue r hdue).trans (State.reject_local hm _ _)
  · have hstand := State.enterMode_stand s.begin r.target r.lpstate r.master ht
    exact ⟨_, State.next_settle (State.transComplete_done (s := s.begin) hdue htrans hdone), congrArg Prod.fst hstand, congrArg Prod.snd hstand⟩
  · exact State.next_settle (State.pendingStart_legal (s := s.begin) hdue hpend htrans hsince hcause)
  · exact State.next_settle (State.transTimeout_late (s := s.begin) htrans hlate)
  · exact State.enterMode_modeCode _ _ _ (by decide)
  · exact State.next_settle (State.armingBeat_due (s := s.begin) hdue htrans ht harmed hrest)
  · exact State.next_settle (State.layerComplete_local (s := s.begin) hm htrans hover htold hfab)
  · exact State.enterMode_modeCode _ _ _ (by decide)
  · exact State.next_settle (State.startDueNow_cons (s := s.begin) hl hb)

end Sys2Proof.Machine
end

section
/-! PROOF (O12, O13). The fault collector, the chronograph and the split: what each operation does in the case the statements
name (R557 to R592). -/
namespace Sys2Proof.Machine

/-! ### The collector -/

theorem State.srcAssert_assigned {s : State} {src : Nat} (h : srcAssigned src = true) : s.srcAssert src =
    if srcLevel src then s.draw.raise src (s.freeNext % 2 ^ 32) else s.draw.pulse src (s.freeNext % 2 ^ 32) := by
  have hnot : ¬ (!srcAssigned src) = true := by rw [h]; decide
  exact if_neg hnot

theorem State.railFault_new {s : State} {src : Nat} (h : srcAssigned src = true) (hact : s.srcActive src = false) (hinj : s.flt.inj = none) :
    s.railFault src = (s.draw.raise src (s.freeNext % 2 ^ 32) true).lower src := by
  have hnot : ¬ (!srcAssigned src || s.srcActive src) = true := by rw [h, hact]; decide
  unfold State.railFault
  rw [if_neg hnot, hinj]
  rfl

theorem State.chipHoldEnd_due {s : State} {d n : Nat} (h : s.flt.hold = some (d, n)) (hdue : n = 0 ∨ d ≤ s.rst.clk) :
    s.chipHoldEnd = (({ s with flt := { s.flt with hold := none } }).haltNow).pulseReset 4 := by
  unfold State.chipHoldEnd
  rw [h]
  exact if_pos hdue

theorem State.hackAssert_first {s : State} (h : s.flag FLT_HACK_STATE = false) (cause : Nat) : s.hackAssert cause =
    (((s.set FLT_HACK_STATE 1).set FLT_HACK_CAUSE cause).emit (.pin 0 0)).lasersSafe.calAbort := by
  unfold State.hackAssert
  rw [if_neg (Bool.eq_false_iff.mp h)]

/-- A release that no mode and no source refuses: with the chronograph off nothing is recorded (R566). -/
theorem State.hackRelease_clear {s : State} (hlive : s.sysLive = true) (hm : ¬ (s.modeCode = 0 ∨ s.modeCode = 1 ∨ s.modeCode = mLowPower))
    (hbusy : s.hackBusy = false) (hset : s.flag FLT_HACK_STATE = true) (hchr : s.flag CHR_CTL_EN = false) :
    s.hackRelease = (s.set FLT_HACK_STATE 0).emit (.pin 0 1) := by
  have hnlive : ¬ (!s.sysLive) = true := by rw [hlive]; decide
  have hok : ¬ (s.modeCode = 0 ∨ s.modeCode = 1 ∨ s.modeCode = mLowPower ∨ s.hackBusy = true) := by
    rw [hbusy]
    rintro (h | h | h | h)
    · exact hm (.inl h)
    · exact hm (.inr (.inl h))
    · exact hm (.inr (.inr h))
    · exact absurd h (by decide)
  have hon : ¬ (!s.flag FLT_HACK_STATE) = true := by rw [hset]; decide
  have hrec : s.record 0x0204 1 (s.peekReg 0x2000E00008) 64 false false false [] = s := if_pos (by rw [hchr]; rfl)
  unfold State.hackRelease
  rw [if_neg hnlive, if_neg hok, if_neg hon, hrec]

theorem State.captureClear_live {s : State} (h : s.sysLive = true) : s.captureClear =
    { [FLT_CAP_SRC_VALID, FLT_CAP_SRC_RAIL, FLT_CAP_SRC_INJ, FLT_CAP_SRC_PERSIST, FLT_CAP_SRC_SOURCE, FLT_CAP_BEAT_LO_BEAT,
      FLT_CAP_BEAT_HI_BEAT, FLT_CAP_DETAIL_DETAIL, FLT_CAP_CNT_COUNT, FLT_STAT_OVF, FLT_STAT_CAPVALID].foldl (fun t f => t.set f 0) s with
      capMaster := none } := by
  have hnot : ¬ (!s.sysLive) = true := by rw [h]; decide
  exact if_neg hnot

/-! ### Injection -/

theorem State.injArm_legal {s : State} {v : Nat} (hlive : s.sysLive = true) (hm : injMode s.modeCode = true)
    (hsrc : srcAssigned (bits v 8 0) = true) (hinj : s.flt.inj = none) : s.injArm v =
    (let u := (((s.set FLT_INJ_SOURCE (bits v 8 0)).set FLT_INJ_MODE (bits v 25 24)).set FLT_INJ_REACT (bits v 20 20)).set FLT_INJ_STAT_ARMED 1
     { u with flt := { s.flt with
        inj := some { source := bits v 8 0, mode := if bits v 25 24 = 0 then 1 else bits v 25 24, react := bit v 20 } } }) := by
  have hnlive : ¬ (!s.sysLive) = true := by rw [hlive]; decide
  have hok : ¬ (!injMode s.modeCode || !srcAssigned (bits v 8 0) || s.flt.inj.isSome) = true := by
    rw [hm, hsrc, hinj]
    decide
  unfold State.injArm
  rw [if_neg hnlive]
  exact if_neg hok

theorem State.injArm_refused {s : State} {v : Nat} (hlive : s.sysLive = true)
    (h : injMode s.modeCode = false ∨ srcAssigned (bits v 8 0) = false ∨ s.flt.inj ≠ none) : s.injArm v = s.set FLT_INJ_STAT_REFUSED 1 := by
  have hnlive : ¬ (!s.sysLive) = true := by rw [hlive]; decide
  have hbad : (!injMode s.modeCode || !srcAssigned (bits v 8 0) || s.flt.inj.isSome) = true := by
    rcases h with h | h | h
    · rw [h]
      rfl
    · rw [h, Bool.not_false, Bool.or_true, Bool.true_or]
    · rw [Option.isSome_iff_ne_none.mpr h, Bool.or_true]
  unfold State.injArm
  rw [if_neg hnlive]
  exact if_pos hbad

theorem State.injDisarm_armed {s : State} {i : Injection} (h : s.flt.inj = some i) : s.injDisarm =
    ({ s with flt := { s.flt with inj := none, rechecks := s.flt.rechecks ++ [i] } }).set FLT_INJ_STAT_ARMED 0 := by
  unfold State.injDisarm
  rw [h]

theorem State.injRecheck_inactive {s : State} {i : Injection} {l : List Injection} (h : s.flt.rechecks = i :: l) : s.injRecheck false =
    ({ s with flt := { s.flt with rechecks := l } }).lower i.source := by
  unfold State.injRecheck
  rw [h]
  rfl

/-- Settles O12: each command of the collector by the case of its operation that the conditions name. -/
theorem faultCollectorCommands : Obligations.FaultCollectorCommands := by
  unfold Obligations.FaultCollectorCommands
  refine ⟨fun s src h => ?_, fun s src h hact hinj => ?_, fun s d n h hdue => ?_, fun s hs hlive hoff => ?_,
    fun s hs hlive hm hbusy hset hchr => ?_, fun s hs hlive => ?_, fun s v hlive hm hsrc hinj => ?_, fun s v hs hlive hbad => ?_,
    fun s i hi => ?_, fun s i l hl => ?_⟩
  · exact State.next_settle (State.srcAssert_assigned (s := s.begin) h)
  · exact State.next_settle (State.railFault_new (s := s.begin) h hact hinj)
  · exact State.next_settle (State.chipHoldEnd_due (s := s.begin) h hdue)
  · exact State.next_of_ctrl hs (State.hackCmd_ctrl ..) ((if_pos hlive).trans (State.hackAssert_first (s := s.begin) hoff 0x200))
  · have heq := State.hackRelease_clear (s := s.begin) hlive hm hbusy hset hchr
    exact State.next_of_rest hs heq ((State.emit_ctrl ..).trans (State.set_ctrl ..))
  · exact State.next_of_ctrl hs (State.captureClear_ctrl ..) (State.captureClear_live (s := s.begin) hlive)
  · exact State.next_settle (State.injArm_legal (s := s.begin) hlive hm hsrc hinj)
  · exact State.next_of_rest hs (State.injArm_refused (s := s.begin) hlive hbad) (State.set_ctrl ..)
  · exact State.next_settle (State.injDisarm_armed (s := s.begin) hi)
  · exact State.next_settle (State.injRecheck_inactive (s := s.begin) hl)

/-! ### The NV store and the chronograph -/

theorem State.nvReply_ok (s : State) (m a : Nat) : s.nvReply m a true = s.reply m true 0 := by
  have hnot : ¬ (m = 4 ∧ (!true) = true) := by rintro ⟨-, h⟩; exact absurd h (by decide)
  unfold State.nvReply
  rw [if_neg hnot]

theorem State.nvWrite_verified {s : State} {a : Nat} (m v : Nat) (hlive : s.nvLive = true)
    (hcopy : s.remapping (s.nvOfs a / 8 * 8 / 256) = false) (hworn : s.nvWorn (s.nvOfs a / 8 * 8 / 2 ^ 20) = false) :
    s.nvWrite m a v .verified = (s.nvStore (s.nvOfs a / 8 * 8) (leBytes v 8)).reply m true 0 := by
  have hnlive : ¬ (!s.nvLive) = true := by rw [hlive]; decide
  have hok : ¬ (s.remapping (s.nvOfs a / 8 * 8 / 256) || s.nvWorn (s.nvOfs a / 8 * 8 / 2 ^ 20)) = true := by rw [hcopy, hworn]; decide
  unfold State.nvWrite
  rw [if_neg hnlive]
  dsimp only
  rw [if_neg hok]
  exact State.nvReply_ok ..

theorem State.remapDone_write {s : State} {row m o v : Nat} {l : List Remap} (h : s.flt.remaps = ⟨row, some (m, o, v)⟩ :: l) :
    s.remapDone = (({ s with flt := { s.flt with remaps := l } }).nvStore o (leBytes v 8)).reply m true 0 := by
  unfold State.remapDone
  rw [h]

theorem State.chrPut_verified {s : State} {k : Nat} (q : ChrRec) (h : s.remapping (s.chrSlotOfs k / 256) = false) : s.chrPut q k .verified =
    (((s.nvStore (s.chrSlotOfs k) (q.bytes (s.get NV_PWRCYC_COUNT) ((s.get CHR_SEQ_SEQ + 1) % 2 ^ 32))).set CHR_SEQ_SEQ
      ((s.get CHR_SEQ_SEQ + 1) % 2 ^ 32)).chrPop).chrAdvance k := if_neg (Bool.eq_false_iff.mp h)

/-- Before the ring has wrapped the head of the queue is put in the next usable slot (R581). -/
theorem State.chrWrite_unwrapped {s : State} {q : ChrRec} {l : List ChrRec} {k : Nat} {w : Bool} (r : NvResult) (hq : s.flt.queue = q :: l)
    (hlive : s.chrLive = true) (hk : s.chrNext (s.get CHR_WPTR_SLOT) 5 = some (k, w)) (hw : s.flag CHR_STAT_WRAPPED = false) :
    s.chrWrite r = s.chrPut q k r := by
  have hnlive : ¬ (!s.chrLive) = true := by rw [hlive]; decide
  have hfree : ¬ (s.flag CHR_STAT_WRAPPED && s.flag CHR_CTL_PROTECT) = true := by rw [hw]; exact Bool.false_ne_true
  unfold State.chrWrite
  rw [hq]
  dsimp only
  rw [if_neg hnlive, hk]
  exact if_neg hfree

theorem State.swRec_go {s : State} (v : Nat) (hheld : s.heldInReset 137 = false) (hoff : s.rst.phase = .off) : s.swRec (v ||| 2 ^ 31) =
    ((s.set CHR_SWREC_SEV (bits (v ||| 2 ^ 31) 9 8)).set CHR_SWREC_CODE (bits (v ||| 2 ^ 31) 7 0)).record (0x300 + bits (v ||| 2 ^ 31) 7 0)
      (bits (v ||| 2 ^ 31) 9 8) 0 (s.get CHR_TSET_SW) false false false [] := by
  have hgo : bit (v ||| 2 ^ 31) 31 = true := by
    unfold bit
    rw [Nat.testBit_or, Nat.testBit_two_pow_self, Bool.or_true]
  have hlive : ¬ (s.heldInReset 137 || s.rst.phase != .off) = true := by rw [hheld, hoff]; decide
  unfold State.swRec
  rw [if_neg hlive]
  exact if_pos hgo

/-! ### The split -/

/-- A trigger the unit takes: with FAB clear, or from the pin, the split follows 128 beats later (R584). -/
theorem State.splitTrigger_local {s : State} {byPin : Bool} (hlive : s.splLive = true) (hen : s.flag SPL_CTL_EN = true)
    (hpin : byPin = true → s.flag SPL_CTL_INEN = true) (hfab : byPin = false → s.flag SPL_CTL_FAB = false) (hbusy : s.splitBusy = false) :
    s.splitTrigger byPin = { s with flt := { s.flt with
      splitId := (s.flt.splitId + 1) % 256
      splits := s.flt.splits ++ [(⟨s.beat + 128, (s.flt.splitId + 1) % 256⟩ : SplitDue)] } } := by
  have htaken : ¬ (!s.splLive || !s.flag SPL_CTL_EN || (byPin && !s.flag SPL_CTL_INEN)) = true := by
    cases byPin with
    | false => simp [hlive, hen]
    | true => simp [hlive, hen, hpin rfl]
  have hhere : ¬ (s.flag SPL_CTL_FAB && !byPin) = true := by
    cases byPin with
    | false => simp [hfab rfl]
    | true => simp
  unfold State.splitTrigger
  rw [if_neg htaken, if_neg (Bool.eq_false_iff.mp hbusy)]
  exact if_neg hhere

theorem State.splitDone_busy {s : State} (hlive : s.splLive = true) (hbusy : s.flag SPL_STAT_BUSY = true) : s.splitDone =
    (((List.range (min 4096 (s.get SPL_CTL_LEN))).foldl State.splCollect s).set SPL_STAT_BUSY 0).set SPL_STAT_DONE 1 := by
  have hnot : ¬ (!s.splLive || !s.flag SPL_STAT_BUSY) = true := by rw [hlive, hbusy]; decide
  exact if_neg hnot

theorem State.splitClear_live {s : State} (h : s.splLive = true) : s.splitClear = s.set SPL_STAT_DONE 0 := if_pos h

/-- Settles O13: each NV, chronograph and split command by the case of its operation that the conditions name. -/
theorem chronographAndSplitCommands : Obligations.ChronographAndSplitCommands := by
  unfold Obligations.ChronographAndSplitCommands
  refine ⟨fun s m a v hs hreg hlive hcopy hworn => ?_, fun s row m o v l hl => ?_, fun s q l k w hq hlive hk hw hcopy => ?_,
    fun s v hheld hoff => ?_, fun s hlive hen hin hbusy => ?_, fun s hlive hen hfab hbusy => ?_, fun s hs hlive hen hbusy => ?_,
    fun s b id l hl hb => ?_, fun s hlive hbusy => ?_, fun s hs hlive => ?_⟩
  · have hgo : s.begin.region a.toNat = .nvData := hreg
    exact State.next_of_rest hs ((if_pos hgo).trans (State.nvWrite_verified (s := s.begin) _ _ hlive hcopy hworn))
      ((State.reply_ctrl ..).trans (State.nvStore_ctrl ..))
  · exact State.next_settle (State.remapDone_write (s := s.begin) hl)
  · exact State.next_settle ((State.chrWrite_unwrapped (s := s.begin) _ hq hlive hk hw).trans (State.chrPut_verified (s := s.begin) q hcopy))
  · exact State.next_settle (State.swRec_go (s := s.begin) _ hheld hoff)
  · exact State.next_settle (State.splitTrigger_local (s := s.begin) hlive hen (fun _ => hin) (fun h => Bool.noConfusion h) hbusy)
  · exact State.next_settle (State.splitTrigger_local (s := s.begin) hlive hen (fun h => Bool.noConfusion h) (fun _ => hfab) hbusy)
  · exact congrArg Host.Outcome.next (State.splitTrigger_settle_of_busy hs hlive hen hbusy false (fun h => Bool.noConfusion h))
  · exact State.next_settle (State.splitDueNow_cons (s := s.begin) hl hb)
  · exact State.next_settle (State.splitDone_busy (s := s.begin) hlive hbusy)
  · exact State.next_of_ctrl hs (State.splitClear_ctrl ..) (State.splitClear_live (s := s.begin) hlive)

end Sys2Proof.Machine
end

section
/-! PROOF (O14). The encoder commands: what each does in the case the statement names (R499 to R503). -/
namespace Sys2Proof.Machine

/-- A step forward along the sequence of the two lines counts up (R499). -/
theorem State.encCount_forward {s : State} {e : Nat} {a b : Bool} (hlive : s.encLive e = true)
    (hstep : (quadIx a b + 4 - quadIx (s.en e).lineA (s.en e).lineB) % 4 = 1) (hdir : s.flag (ENC_CTL_DIRINV e) = false) :
    s.encCount e a b = ((((((s.setEn e { s.en e with lineA := a, lineB := b }).set (ENC_POS_VALUE e) (enc 32 (s.encPos e + 1))).setEn e
      { s.en e with lineA := a, lineB := b, c1 := (s.en e).c0, c0 := some s.beat, up := true, net := (s.en e).net + 1 }).encMissing
      e).homeIndexCheck e).encPass e a b) := by
  have hnlive : ¬ (!s.encLive e) = true := by rw [hlive]; decide
  unfold State.encCount
  rw [if_neg hnlive]
  dsimp only
  rw [hstep, hdir, if_neg (by decide), if_neg (by decide)]
  rfl

/-- The end of a window of illegal transitions, on its beat (R500). -/
theorem State.encIllegal_due {s : State} (e : Nat) (hheld : s.heldInReset 135 = false) (hbeat : s.beat % 400000 = 0) : s.encIllegal e =
    if s.get (ENC_CTL_ILLTHR e) < (s.en e).ill then ((s.setEn e { s.en e with ill := 0 }).set (ENC_STAT_ILLEGAL e) 1).pulse (0x068 + e)
    else s.setEn e { s.en e with ill := 0 } := by
  have hnot : ¬ (s.heldInReset 135 || s.beat % 400000 != 0) = true := by rw [hheld, hbeat]; decide
  exact if_neg hnot

section
variable {s : State} {e : Nat} (hlive : s.encLive e = true) (hwait : s.homeWaiting e = []) (hcpr : s.get (ENC_CPR_VALUE e) ≠ 0)
include hlive hwait hcpr

/-- The first index, with no homing waiting, becomes the reference (R501). -/
theorem State.encIndex_first (href : s.flag (ENC_STAT_IDXREFOK e) = false) : s.encIndex e =
    (s.setEn e { s.en e with ref := (s.encPos e % (s.get (ENC_CPR_VALUE e) : Int)).toNat, last := s.encPos e }).set (ENC_STAT_IDXREFOK e) 1 := by
  have hnlive : ¬ (!s.encLive e) = true := by rw [hlive]; decide
  unfold State.encIndex
  rw [if_neg hnlive]
  dsimp only
  rw [hwait, if_neg hcpr, href]
  rfl

/-- A later index within the tolerance is latched with its distance from the reference (R501). -/
theorem State.encIndex_within {d : Int} (href : s.flag (ENC_STAT_IDXREFOK e) = true)
    (hd : d = (s.encPos e - (s.en e).ref + (s.get (ENC_CPR_VALUE e) / 2 : Nat)) % (s.get (ENC_CPR_VALUE e) : Int) -
      (s.get (ENC_CPR_VALUE e) / 2 : Nat)) (htol : d.natAbs ≤ s.get (ENC_ITOL_VALUE e)) : s.encIndex e =
    ((s.set (ENC_IDXLAT_VALUE e) (enc 32 (s.encPos e))).set (ENC_IDXDELTA_D e) (enc 32 d)).setEn e { s.en e with last := s.encPos e } := by
  have hnlive : ¬ (!s.encLive e) = true := by rw [hlive]; decide
  have hnref : ¬ (!s.flag (ENC_STAT_IDXREFOK e)) = true := by rw [href]; decide
  unfold State.encIndex
  rw [if_neg hnlive]
  dsimp only
  rw [hwait, if_neg hcpr, if_neg hnref, ← hd]
  exact if_pos htol

end

/-- The end of a speed window in which the period method stays in force and nothing is blended (R503). -/
theorem State.encSpeed_period {s : State} {e : Nat} (hlive : s.encLive e = true)
    (hwin : (s.en e).winAt + max 1 (s.get (ENC_SPDCFG_SPDWIN e)) * 400 ≤ s.beat) (hmethod : s.flag (ENC_STAT_METHOD e) = false)
    (hslow : absQ (laneQ (s.encPeriod e)) ≤ laneQ (s.get (ENC_VHI_VALUE e))) (hblend : (s.en e).blend = none) : s.encSpeed e =
    (((s.setEn e { s.en e with net := 0, winAt := s.beat, blend := none }).set (ENC_SPEED_VALUE e) (s.encPeriod e)).set
      (ENC_STAT_METHOD e) 0).set (ENC_STAT_BLENDING e) 0 := by
  have hover : ¬ s.beat < (s.en e).winAt + max 1 (s.get (ENC_SPDCFG_SPDWIN e)) * beatsPerUs := Nat.not_lt.mpr hwin
  have hdue : ¬ (!s.encLive e || decide (s.beat < (s.en e).winAt + max 1 (s.get (ENC_SPDCFG_SPDWIN e)) * beatsPerUs)) = true := by
    rw [hlive, decide_eq_false hover]
    decide
  have hperiod : decide (laneQ (s.get (ENC_VHI_VALUE e)) < absQ (laneQ (s.encPeriod e))) = false := decide_eq_false (Rat.not_lt.mpr hslow)
  unfold State.encSpeed
  dsimp only
  rw [if_neg hdue, hmethod, if_neg Bool.false_ne_true, hperiod, hblend]
  rfl

theorem State.encWrite_live {s : State} (e v : Nat) (hheld : s.heldInReset 135 = false) : s.encWrite e v =
    ((s.set (ENC_POS_VALUE e) v).setEn e { s.en e with last := sgn 32 v }).set (ENC_STAT_IDXREFOK e) 0 := if_neg (Bool.eq_false_iff.mp hheld)

/-- Settles O14: each encoder command by the case of its operation that the conditions name. -/
theorem encoderCommands : Obligations.EncoderCommands := by
  unfold Obligations.EncoderCommands
  refine ⟨fun s e a b hlive hstep hdir => ?_, fun s e hheld hbeat hill => ?_, fun s e hs hheld hbeat hill => ?_,
    fun s e hs hlive hwait hcpr href => ?_, fun s e d hs hlive hwait hcpr href hd htol => ?_,
    fun s e hs hlive hwin hmethod hslow hblend => ?_, fun s e v hs hheld => ?_⟩
  · exact State.next_settle (State.encCount_forward (s := s.begin) hlive hstep hdir)
  · exact State.next_settle ((State.encIllegal_due (s := s.begin) _ hheld hbeat).trans (if_pos hill))
  · exact State.next_of_rest hs ((State.encIllegal_due (s := s.begin) _ hheld hbeat).trans (if_neg (Nat.not_lt.mpr hill))) (State.setEn_ctrl ..)
  · exact State.next_of_rest hs (State.encIndex_first (s := s.begin) hlive hwait hcpr href) ((State.set_ctrl ..).trans (State.setEn_ctrl ..))
  · exact State.next_of_rest hs (State.encIndex_within (s := s.begin) hlive hwait hcpr href hd htol)
      ((State.setEn_ctrl ..).trans ((State.set_ctrl ..).trans (State.set_ctrl ..)))
  · exact State.next_of_ctrl hs (State.encSpeed_ctrl ..) (State.encSpeed_period (s := s.begin) hlive hwin hmethod hslow hblend)
  · exact State.next_of_ctrl hs (State.encWrite_ctrl ..) (State.encWrite_live (s := s.begin) _ _ hheld)

end Sys2Proof.Machine
end

section
/-! PROOF (O15). Bus accesses: the answer at the master is the register's, the memory's or the fabric's (R4 to R9, R24 to R31, R417). -/
namespace Sys2Proof.Machine

theorem leNat_leBytes (n : Nat) : ∀ v, v < 256 ^ n → leNat (leBytes v n) = v := by
  induction n with
  | zero => intro v hv; exact (Nat.lt_one_iff.mp hv).symm
  | succ n ih =>
    intro v hv
    have hdiv : v / 256 < 256 ^ n := Nat.div_lt_of_lt_mul (by rwa [Nat.pow_succ, Nat.mul_comm] at hv)
    have hlow : (BitVec.ofNat 8 v).toNat = v % 256 := BitVec.toNat_ofNat ..
    unfold leBytes leNat
    rw [ih _ hdiv, hlow]
    omega

theorem leBytes_length (n : Nat) : ∀ v, (leBytes v n).length = n := by
  induction n with
  | zero => intro v; rfl
  | succ n ih => intro v; exact congrArg (· + 1) (ih _)

/-! ### From an access to its answer -/

section
variable {s : State} {a m n v : Nat} {e : Ecc} {l : List Byte} {t : State} (hfabric : s.region a ≠ .fabric)
include hfabric

theorem State.busAccess_read (h : ({ s with req := some m } : State).localRead m a n e = (some v, t)) :
    s.busAccess m a (.read n) e = t.reply m true v := by
  have hnoWrite : ¬ (m = 4 ∧ accWrites (.read n) = true ∧ (!true) = true) := fun hw => Bool.false_ne_true hw.2.2
  unfold State.busAccess State.access State.localAccess
  rw [if_pos hfabric]
  dsimp only
  rw [h]
  exact congrArg (fun u : State => u.reply m true v) (if_neg hnoWrite)

theorem State.busAccess_read_failed (h : ({ s with req := some m } : State).localRead m a n e = (none, t)) :
    s.busAccess m a (.read n) e = t.reply m false 0 := by
  have hnoWrite : ¬ (m = 4 ∧ accWrites (.read n) = true ∧ (!false) = true) := fun hw => Bool.false_ne_true hw.2.1
  unfold State.busAccess State.access State.localAccess
  rw [if_pos hfabric]
  dsimp only
  rw [h]
  exact congrArg (fun u : State => u.reply m false 0) (if_neg hnoWrite)

theorem State.busAccess_write (h : ({ s with req := some m } : State).localWrite m a l e = (true, t)) :
    s.busAccess m a (.write l) e = t.reply m true 0 := by
  have hok : ¬ (m = 4 ∧ accWrites (.write l) = true ∧ (!true) = true) := fun hw => Bool.false_ne_true hw.2.2
  unfold State.busAccess State.access State.localAccess
  rw [if_pos hfabric]
  dsimp only
  rw [h]
  exact congrArg (fun u : State => u.reply m true 0) (if_neg hok)

end

/-! ### Registers and memories -/

section
variable {s : State} {a : Nat} (hlive : s.sysLive = true) (hreg : s.region a = .reg) (ha : a % 4 = 0) (hheld : s.blockHeld a = false)
include hlive hreg ha hheld

theorem State.localRead_reg (m : Nat) (e : Ecc) : s.localRead m a 4 e = (some (s.regRead m a).1, (s.regRead m a).2) := by
  have hnlive : ¬ (!s.sysLive) = true := by rw [hlive]; decide
  have hok : (regAccessOk a 4 && !s.blockHeld a) = true := by
    unfold regAccessOk
    rw [ha, hheld]
    rfl
  unfold State.localRead
  rw [if_neg hnlive, hreg]
  exact if_pos hok

theorem State.localWrite_reg (m : Nat) {v : Nat} (hv : v < 256 ^ 4) (e : Ecc) : s.localWrite m a (leBytes v 4) e = (true, s.regWrite m a v) := by
  have hnlive : ¬ (!s.sysLive) = true := by rw [hlive]; decide
  have hok : (regAccessOk a 4 && !s.blockHeld a) = true := by
    unfold regAccessOk
    rw [ha, hheld]
    rfl
  unfold State.localWrite
  dsimp only
  rw [leBytes_length, leNat_leBytes 4 v hv, if_neg hnlive, hreg]
  exact if_pos hok

end

/-- A low word read gives its value, latches the high word for the master and clears what the read clears (R5, R7). -/
theorem State.regRead_lo {s : State} {a : Nat} (m : Nat) (hlo : isLo a = true) (hhi : isHi a = false)
    (hclear : ¬ (s.dial.clear.isSome ∧ 0x2000410000 ≤ a ∧ a < 0x2000418000)) (hpeek : a ≠ 0x200040020C) (herr : a ≠ 0x2001100010) :
    s.regRead m a = (s.peekReg a, ({ s with hiLatch := Sparse.insert s.hiLatch (m * 2 ^ 40 + a) (s.peekReg (a + 4)) } : State).clearRc a) := by
  unfold State.regRead
  dsimp only
  rw [if_neg hpeek, if_neg hclear, hlo, hhi, if_neg herr]
  rfl

theorem State.eccBlind_clean (s : State) (a : Nat) : s.eccBlind a .clean = false := by
  unfold State.eccBlind
  exact Bool.and_false _

section
variable {s : State} {a n : Nat} (hlive : s.sysLive = true)
  (hmem : s.region a = .dialMem ∨ s.region a = .progMem ∨ s.region a = .lineBuf) (hspan : s.memSpan a n = true) (hclear : s.dial.clear = none)

include hmem

/-- Of an access to an on-die memory DRAM learns nothing. -/
theorem State.dramTouched_onDie : s.dramTouched a = s := by
  have hne : s.region a ≠ .dram := by rcases hmem with h | h | h <;> rw [h] <;> decide
  exact if_neg hne

include hlive hspan hclear

theorem State.localRead_onDie (m : Nat) : s.localRead m a n .clean = (some (s.load a n), s) := by
  have hnlive : ¬ (!s.sysLive) = true := by rw [hlive]; decide
  have hnspan : ¬ (!s.memSpan a n) = true := by rw [hspan]; decide
  have hnclear (r : Region) : ¬ (s.dial.clear.isSome && r == .dialMem) = true := by rw [hclear]; exact Bool.false_ne_true
  have hread : (if (!s.memSpan a n) = true then ((none, s) : Option Nat × State)
      else if (s.dial.clear.isSome && s.region a == .dialMem) = true then (some 0, s)
      else if s.eccBad a .clean = true then (none, (s.dramTouched a).eccEvent a .clean)
      else if s.eccBlind a .clean = true then
        (some (((s.dramTouched a).eccEvent a .clean).freeLoad n).1, (((s.dramTouched a).eccEvent a .clean).freeLoad n).2)
      else (some (s.load a n), (s.dramTouched a).eccEvent a .clean)) = (some (s.load a n), s) := by
    rw [if_neg hnspan, if_neg (hnclear _), State.eccBlind_clean, State.dramTouched_onDie hmem]
    rfl
  unfold State.localRead
  rw [if_neg hnlive]
  rcases hmem with h | h | h
  all_goals
    rw [h] at hread ⊢
    exact hread

/-- A clean write of on-die memory stores its bytes (R28). -/
theorem State.localWrite_onDie (m : Nat) {l : List Byte} (hl : l.length = n) : s.localWrite m a l .clean = (true, s.store a l) := by
  have hnlive : ¬ (!s.sysLive) = true := by rw [hlive]; decide
  have hnspan : ¬ (!s.memSpan a n) = true := by rw [hspan]; decide
  have hnclear (r : Region) : ¬ (s.dial.clear.isSome && r == .dialMem) = true := by rw [hclear]; exact Bool.false_ne_true
  have hevent : (if narrow a n = true then (s.dramTouched a).eccEvent a .clean else s.dramTouched a) = s := by
    rw [State.dramTouched_onDie hmem]
    exact ite_self _
  have hgood : ¬ (narrow a n && s.eccBad a .clean) = true := by
    have hbad : s.eccBad a .clean = false := rfl
    rw [hbad, Bool.and_false]
    exact Bool.false_ne_true
  have hwrite : (if (!s.memSpan a n) = true then ((false, s) : Bool × State)
      else if (s.dial.clear.isSome && s.region a == .dialMem) = true then (true, s)
      else if (narrow a n && s.eccBad a .clean) = true then
        (false, (if narrow a n = true then (s.dramTouched a).eccEvent a .clean else s.dramTouched a).storeWhole a l)
      else (true, (if narrow a n = true then (s.dramTouched a).eccEvent a .clean else s.dramTouched a).store a l)) = (true, s.store a l) := by
    rw [if_neg hnspan, if_neg (hnclear _), if_neg hgood, hevent]
  unfold State.localWrite
  dsimp only
  rw [hl, if_neg hnlive]
  rcases hmem with h | h | h
  all_goals
    rw [h] at hwrite ⊢
    exact hwrite

end

/-- What memory reads is a matter of memory alone. -/
theorem State.load_of_mem {s t : State} (h : t.mem = s.mem) (n : Nat) : ∀ a, t.load a n = s.load a n := by
  induction n with
  | zero => intro a; rfl
  | succ n ih =>
    intro a
    have hbyte : t.byte a = s.byte a := by
      unfold State.byte
      rw [h]
    unfold State.load
    rw [hbyte, ih]

theorem State.localRead_unmapped {s : State} {a : Nat} (m n : Nat) (e : Ecc) (h : s.region a = .unmapped) : s.localRead m a n e = (none, s) := by
  unfold State.localRead
  rw [h]
  exact ite_self _

/-! ### The fabric window and the completions -/

/-- A read of another device's slot leaves as requests and has no answer yet (R417). -/
theorem State.busAccess_fabric {s : State} {a n : Nat} (m : Nat) (e : Ecc) (hreg : s.region a = .fabric) (hown : s.ownSlot a = false)
    (hn : n ≠ 0) (hslot : s.slotAssigned a = true) (hlive : s.skLive = true) :
    s.busAccess m a (.read n) e = ({ s with req := some m } : State).remoteStart m a false n [] := by
  have hnreg : ¬ s.region a ≠ .fabric := fun h => h hreg
  have hgo : ¬ (accLen (.read n) = 0 ∨ (!s.slotAssigned a) = true ∨ (!s.skLive) = true) := by
    rw [hslot, hlive]
    rintro (h | h | h)
    · exact hn h
    all_goals exact absurd h (by decide)
  unfold State.busAccess State.access
  rw [if_neg hnreg, if_neg (Bool.eq_false_iff.mp hown), if_neg hgo]

/-- The data of a load that no store of its target delays is written, and issue goes on (R120). -/
theorem State.loadDone_answered {s : State} {n v : Nat} {m : MemReq} (e : Ecc) (hload : (s.esc n).load = some m) (hrun : s.escState n = 3)
    (hheld : s.heldInReset n = false) (hans : m.answer = some (true, v)) (hstep : (s.esc n).stepping = false)
    (hstores : ((s.esc n).stores.any fun q => s.target q.addr == s.target m.addr) = false) : s.loadDone n e =
    ((if m.toF then s.setF n m.data v else s.setG n m.data v).modEsc n fun x => { x with load := none }).setPc n (m.pc + m.len) := by
  have hgo : ¬ (s.escState n ≠ 3 ∨ s.heldInReset n = true ∨ ((s.esc n).stores.any fun q => s.target q.addr == s.target m.addr) = true) := by
    rw [hheld, hstores]
    rintro (h | h | h)
    · exact h hrun
    all_goals exact absurd h (by decide)
  have hanswer : s.escAnswer n m false e = some ((true, v), s) := by
    unfold State.escAnswer
    rw [hans]
  have hwaits : ¬ (s.esc n).load.isNone = true := by rw [hload]; exact Bool.false_ne_true
  have hesc : ((((if m.toF then s.setF n m.data v else s.setG n m.data v).modEsc n fun x => { x with load := none }).setPc n
      (m.pc + m.len)).esc n).stepping = false := by
    rw [State.setPc_esc, State.modEsc_esc]
    split
    · rw [State.setF_esc]
      exact hstep
    · rw [State.setG_esc]
      exact hstep
  unfold State.loadDone
  rw [hload]
  dsimp only
  rw [if_neg hgo, hanswer]
  dsimp only
  rw [if_neg hwaits]
  exact (if_neg (by decide)).trans (if_neg (Bool.eq_false_iff.mp hesc))

/-- The oldest store leaves the list with its answer (R120). -/
theorem State.storeDone_answered {s : State} {n v : Nat} {m : MemReq} {l : List MemReq} (e : Ecc) (hstores : (s.esc n).stores = m :: l)
    (hans : m.answer = some (true, v)) : s.storeDone n e = s.modEsc n fun x => { x with stores := l } := by
  have hready : s.storeReady n 0 = true := by
    unfold State.storeReady State.escAnswer
    rw [hstores]
    simp [hans]
  have hfind : (List.range (s.esc n).stores.length).find? (s.storeReady n) = some 0 := by
    rw [hstores, List.length_cons, List.range_succ_eq_map]
    exact List.find?_cons_of_pos hready
  have hrest : s.modEsc n (fun x => { x with stores := x.stores.eraseIdx 0 }) = s.modEsc n fun x => { x with stores := l } := by
    unfold State.modEsc
    dsimp only
    rw [hstores]
    rfl
  have hanswer (t : State) : t.escAnswer n m true e = some ((true, v), t) := by
    unfold State.escAnswer
    rw [hans]
  have hat : (s.esc n).stores[0]? = some m := by rw [hstores]; rfl
  unfold State.storeDone
  rw [hfind]
  dsimp only
  rw [hat]
  dsimp only
  rw [hanswer, hrest]
  rfl

/-- Settles O15: each access by its region's answer, carried to the master. -/
theorem registerAndMemoryAccess : Obligations.RegisterAndMemoryAccess := by
  unfold Obligations.RegisterAndMemoryAccess
  refine ⟨fun s m a v hlive hreg ha hheld => ?_, fun s m a hlive hreg ha hheld => ?_, fun s m a hlive hreg ha hheld hlo hhi hclear hpeek herr => ?_,
    fun s m a l hlive hmem hspan hclear => ?_, fun s m a n hlive hmem hspan hclear => ?_, fun s m a n hs hreg => ?_,
    fun s m a n hreg hown hn hslot hlive => ?_, fun s tag hlate => ?_, fun s n m v hload hrun hheld hans hstep hstores => ?_,
    fun s n m l v hstores hans => ?_⟩
  · have hnf : s.begin.region a.toNat ≠ .fabric := by rw [show s.begin.region a.toNat = .reg from hreg]; decide
    exact State.next_settle (State.busAccess_write hnf (State.localWrite_reg (s := s.asks m.toNat) hlive hreg ha hheld _ v.isLt _))
  · have hnf : s.begin.region a.toNat ≠ .fabric := by rw [show s.begin.region a.toNat = .reg from hreg]; decide
    exact State.next_settle (State.busAccess_read hnf (State.localRead_reg (s := s.asks m.toNat) hlive hreg ha hheld _ _))
  · have hnf : s.begin.region a.toNat ≠ .fabric := by rw [show s.begin.region a.toNat = .reg from hreg]; decide
    have hread := State.localRead_reg (s := s.asks m.toNat) hlive hreg ha hheld m.toNat .clean
    rw [State.regRead_lo (s := s.asks m.toNat) m.toNat hlo hhi hclear hpeek herr] at hread
    exact State.next_settle (State.busAccess_read hnf hread)
  · have hnf : s.begin.region a.toNat ≠ .fabric := by
      rcases hmem with h | h | h <;> rw [show s.begin.region a.toNat = _ from h] <;> decide
    exact State.next_settle (State.busAccess_write hnf (State.localWrite_onDie (s := s.asks m.toNat) hlive hmem hspan hclear _ rfl))
  · have hnf : s.begin.region a.toNat ≠ .fabric := by
      rcases hmem with h | h | h <;> rw [show s.begin.region a.toNat = _ from h] <;> decide
    have hread := State.localRead_onDie (s := s.asks m.toNat) hlive hmem hspan hclear m.toNat
    rw [State.load_of_mem (s := s) (t := s.asks m.toNat) rfl] at hread
    exact State.next_settle (State.busAccess_read hnf hread)
  · have hnf : s.begin.region a.toNat ≠ .fabric := by rw [show s.begin.region a.toNat = .unmapped from hreg]; decide
    exact State.next_of_rest hs (State.busAccess_read_failed hnf (State.localRead_unmapped (s := s.asks m.toNat) _ _ _ hreg)) (State.reply_ctrl ..)
  · exact State.next_settle (State.busAccess_fabric (s := s.begin) _ _ hreg hown hn hslot hlive)
  · exact State.next_settle (if_pos hlate)
  · exact State.next_settle (State.loadDone_answered (s := s.begin) _ hload hrun hheld hans hstep hstores)
  · exact State.next_settle (State.storeDone_answered (s := s.begin) _ hstores hans)

end Sys2Proof.Machine
end

section
/-! PROOF (O16). The dial's commands: what each does in the case the statement names (R253 to R270). -/
namespace Sys2Proof.Machine

/-! ### Commits and sweeps -/

/-- The one deposit that waits is due and no forwarded record has come: it commits (R253). -/
theorem State.depositCommit_one {s : State} {d : Deposit} (hw : s.dial.waiting = [d]) (hd : d.beat + 120 ≤ s.beat) (hr : s.dial.recv = []) :
    s.depositCommit .clean = ({ s with dial := { s.dial with
      waiting := [], recv := [], slot := (s.beat + 80) / 200, slotUsed := 48 - s.fwdRoom } }).commitBegin.commitLocal d := by
  have hdue : [d].filter (fun d => decide (d.beat + 120 ≤ s.beat)) = [d] := List.filter_cons_of_pos (decide_eq_true hd)
  have hrest : [d].filter (fun d => !decide (d.beat + 120 ≤ s.beat)) = [] := by
    refine List.filter_cons_of_neg ?_
    rw [decide_eq_true hd]
    decide
  have hsome : ¬ (([d] : List Deposit).isEmpty && ([] : List (Nat × Deposit)).isEmpty) = true := Bool.false_ne_true
  have hclean (u : State) : (if u.dialDeaf = true then u else u.dialEcc .clean) = u := ite_self _
  unfold State.depositCommit
  dsimp only
  rw [hw, hr, hdue, hrest, List.filter_nil, List.take_nil, if_neg hsome, hclean]
  rfl

/-- Nothing is due: nothing commits. -/
theorem State.depositCommit_none {s : State} (ecc : Ecc) (hw : (s.dial.waiting.all fun d => !decide (d.beat + 120 ≤ s.beat)) = true)
    (hr : s.dial.recv = []) : s.depositCommit ecc = s := by
  have hdue : s.dial.waiting.filter (fun d => decide (d.beat + 120 ≤ s.beat)) = [] := by
    refine List.filter_eq_nil_iff.mpr fun d hd hbeat => ?_
    have hnot := List.all_eq_true.mp hw d hd
    rw [hbeat] at hnot
    exact absurd hnot (by decide)
  unfold State.depositCommit
  dsimp only
  rw [hdue, hr, List.filter_nil, List.take_nil]
  exact if_pos rfl

section
variable {s : State} {tile t : Nat} (hslot : s.beat / 32 % 4096 = tile) (hruns : s.sweepRuns = true) (hnew : s.dial.swept ≠ s.beat / 32 + 1)
  (hpass : s.beat ≤ s.dial.passAt + 2 ^ 46) (htile : tile ≠ 4095) (htau : s.tau = some t)
include hslot hruns hnew

theorem State.sweepSlot_serve (ecc : Ecc) : s.sweepSlot tile ecc = s.sweepServe ecc := by
  have hgo : ¬ (s.beat / 32 % 4096 ≠ tile ∨ (!s.sweepRuns) = true) := by
    rw [hruns]
    rintro (h | h)
    · exact h hslot
    · exact absurd h (by decide)
  unfold State.sweepSlot
  rw [if_neg hgo, if_neg hnew]

include hpass htile htau

/-- A tile older than a sixteenth of the time constant is rebased to its slot (R257). -/
theorem State.sweepSlot_old (hage : (t : Rat) / 16 ≤ (ageOf (s.beat / 32 * 32 % 2 ^ 48) (s.stamp tile) : Rat)) : s.sweepSlot tile .clean =
    ({ s with dial := { s.dial with swept := s.beat / 32 + 1, sweptHit := true } }).rebaseTile tile (s.beat / 32 * 32) := by
  have hnoClear : ¬ (s.beat / 32 % 4096 = 0 ∧ s.dial.passAt + 2 ^ 46 < s.beat) := fun h => absurd h.2 (Nat.not_lt.mpr hpass)
  rw [State.sweepSlot_serve hslot hruns hnew]
  unfold State.sweepServe
  dsimp only
  rw [if_neg hnoClear, hslot, show ({ s with dial := { s.dial with swept := s.beat / 32 + 1, sweptHit := false } } : State).tau = some t from htau]
  exact (if_pos hage).trans (if_neg htile)

/-- A younger tile keeps its cells (R257). -/
theorem State.sweepSlot_young (ecc : Ecc) (hage : ¬ (t : Rat) / 16 ≤ (ageOf (s.beat / 32 * 32 % 2 ^ 48) (s.stamp tile) : Rat)) :
    s.sweepSlot tile ecc = { s with dial := { s.dial with swept := s.beat / 32 + 1, sweptHit := false } } := by
  have hnoClear : ¬ (s.beat / 32 % 4096 = 0 ∧ s.dial.passAt + 2 ^ 46 < s.beat) := fun h => absurd h.2 (Nat.not_lt.mpr hpass)
  rw [State.sweepSlot_serve hslot hruns hnew]
  unfold State.sweepServe
  dsimp only
  rw [if_neg hnoClear, hslot, show ({ s with dial := { s.dial with swept := s.beat / 32 + 1, sweptHit := false } } : State).tau = some t from htau]
  exact (if_neg hage).trans (if_neg htile)

end

/-! ### Commands and peers -/

theorem State.rebaseDone_clean {s : State} {b : Nat} (h : s.dial.rebase = some b) (hb : b ≤ s.beat) : s.rebaseDone .clean =
    (let u := dialTiles.foldl (fun (u : State) t => u.rebaseTile t b) s
     ({ u with dial := { u.dial with rebase := none, old := some (b, dialTiles.map fun t => (t, s.stamp t)) } }).set DIAL_STAT_REBASING 0) := by
  unfold State.rebaseDone
  have hread : s.dialEcc .clean = s := rfl
  rw [h]
  dsimp only
  rw [if_neg (Nat.not_lt.mpr hb), if_neg (by decide), hread]

theorem State.rebaseDone_uncorrectable {s : State} {b : Nat} (h : s.dial.rebase = some b) (hb : b ≤ s.beat) : s.rebaseDone .uncorrectable =
    (({ s with dial := { s.dial with rebase := none } }).set DIAL_STAT_REBASING 0).dialStop.pulse 0x00B := by
  unfold State.rebaseDone
  rw [h]
  dsimp only
  rw [if_neg (Nat.not_lt.mpr hb), if_pos rfl]
  rfl

/-- A peer whose origin is where DIAL_POFS puts it is checked and stays in use (R270). -/
theorem State.peerResult_agrees {s : State} {k : Nat} {o : Origin} (hk : s.dial.checking.testBit k = true)
    (hx : sgn 32 o.x.toNat = sgn 32 (s.get DIAL_ORG_X_ORG) + 4000 * sgn 16 (s.live (DIAL_POFS_DX k)))
    (hy : sgn 32 o.y.toNat = sgn 32 (s.get DIAL_ORG_Y_ORG) + 4000 * sgn 16 (s.live (DIAL_POFS_DY k))) :
    s.peerResult k (some o) = { s with dial := { s.dial with checking := putBit s.dial.checking k false } } := by
  have hcheck : ¬ (!s.dial.checking.testBit k) = true := by rw [hk]; decide
  have hok : (decide (sgn 32 o.x.toNat = sgn 32 (s.get DIAL_ORG_X_ORG) + 4000 * sgn 16 (s.live (DIAL_POFS_DX k))) &&
      decide (sgn 32 o.y.toNat = sgn 32 (s.get DIAL_ORG_Y_ORG) + 4000 * sgn 16 (s.live (DIAL_POFS_DY k)))) = true := by
    rw [decide_eq_true hx, decide_eq_true hy]
    rfl
  unfold State.peerResult
  rw [if_neg hcheck]
  exact if_pos hok

/-- A peer that does not answer is left out (R270). -/
theorem State.peerResult_silent {s : State} {k : Nat} (hk : s.dial.checking.testBit k = true) : s.peerResult k none =
    (({ s with dial := { s.dial with
      checking := putBit s.dial.checking k false, excluded := putBit s.dial.excluded k true } }).set DIAL_STAT_PEERERR 1).pulse 0x012 := by
  have hcheck : ¬ (!s.dial.checking.testBit k) = true := by rw [hk]; decide
  unfold State.peerResult
  rw [if_neg hcheck]
  rfl

/-- Settles O16: each dial command by the case of its operation that the conditions name. -/
theorem dialCommands : Obligations.DialCommands := by
  unfold Obligations.DialCommands
  refine ⟨fun s d hw hd hr => ?_, fun s hs hw hr ecc => ?_, fun s tile t hslot hruns hnew hpass htile htau hage => ?_,
    fun s tile ecc t hs hslot hruns hnew hpass htile htau hage => ?_, fun s hs hheld => ?_, fun s b hs hb hdue => ?_,
    fun s hs hheld => ?_, fun s b hb hdue => ?_, fun s b hb hdue => ?_, fun s m ecc hheld => ?_, fun s k hs hk o hx hy => ?_,
    fun s k hk => ?_⟩
  · exact State.next_settle (State.depositCommit_one (s := s.begin) hw hd hr)
  · exact State.next_of_rest hs (State.depositCommit_none (s := s.begin) ecc hw hr) rfl
  · exact State.next_settle (State.sweepSlot_old (s := s.begin) hslot hruns hnew hpass htile htau hage)
  · exact State.next_of_rest hs (State.sweepSlot_young (s := s.begin) hslot hruns hnew hpass htile htau ecc hage) rfl
  · exact State.next_of_rest hs (if_neg (Bool.eq_false_iff.mp hheld)) (State.clearCmd_ctrl s.begin)
  · have hclear : s.begin.dial.clear = some b := hb
    unfold exec execClearComplete
    dsimp only
    rw [hclear]
    exact State.next_of_rest hs (if_pos hdue) (State.dialClearDone_ctrl ..)
  · exact State.next_of_rest hs (if_neg (Bool.eq_false_iff.mp hheld)) (State.rebaseCmd_ctrl s.begin)
  · exact State.next_settle (State.rebaseDone_clean (s := s.begin) hb hdue)
  · exact State.next_settle (State.rebaseDone_uncorrectable (s := s.begin) hb hdue)
  · exact State.next_settle (if_neg (Bool.eq_false_iff.mp hheld))
  · exact State.next_of_rest hs (State.peerResult_agrees (s := s.begin) hk hx hy) rfl
  · exact State.next_settle (State.peerResult_silent (s := s.begin) hk)

end Sys2Proof.Machine
end

section
/-! PROOF (O17). The bridge's commands: what each does in the case the statement names (R283 to R308). -/
namespace Sys2Proof.Machine

theorem State.bridgeBeat_expose {s : State} (hm : s.modeCode = mExpose) (hheld : s.heldInReset 128 = false) : s.bridgeBeat =
    (rrOrder (s.get BRG_RRPTR_PTR)).foldl State.bridgeHold ((rrOrder (s.get BRG_RRPTR_PTR)).foldl State.bridgeDraw
      (s.bridgeReleases.bridgeGrants (rrOrder (s.get BRG_RRPTR_PTR)))) := by
  have hgo : ¬ (s.modeCode ≠ mExpose ∨ s.heldInReset 128 = true) := by
    rw [hheld]
    rintro (h | h)
    · exact h hm
    · exact Bool.false_ne_true h
  exact if_neg hgo

/-- A record of program memory that reads clean is used (R293, R301). -/
theorem State.recordArrive_clean {s : State} {n i j a : Nat} {f : FloatSt} (hf : (s.esc n).float = some f) (hfetch : f.fetch = some (i, j))
    (ha : a = s.pair (BRG_PBASE_LO_ADDR f.pool).copy (BRG_PBASE_HI_ADDR f.pool).copy + 32 * i) (hreg : s.region a = .progMem) :
    s.recordArrive n .clean =
      s.recordUse n f i ((List.range 8).map fun k => s.load (a + 4 * k) 4) (s.live (BRG_PCFG_KIND f.pool) == 1) false := by
  unfold State.recordArrive
  rw [hf]
  dsimp only
  rw [hfetch]
  dsimp only
  rw [← ha, hreg]
  rfl

/-- A hold that has lasted HOLDTO is reported once (R286). -/
theorem State.holdTimeout_due {s : State} {n : Nat} {x : HoldSt} (hx : (s.esc n).hold = some x)
    (hlasts : ∀ g, x.g = some g → x.h + s.live BRG_HOLDTO_HOLDTO * 400 ≤ g + 16) (hnew : x.timedOut = false)
    (hto : s.live BRG_HOLDTO_HOLDTO ≠ 0) (hdue : x.h + s.live BRG_HOLDTO_HOLDTO * 400 ≤ s.beat) (hm : s.modeCode = mExpose) :
    s.holdTimeout n = ((s.setEsc n { s.esc n with hold := some { x with timedOut := true } }).set BRG_STAT_HOLDTO 1).pulse 0x014 := by
  have hnew' : (!x.timedOut) = true := by rw [hnew]; rfl
  have hus : beatsPerUs = 400 := rfl
  unfold State.holdTimeout
  dsimp only
  rw [hx, hus]
  cases hg : x.g with
  | none =>
    simp only [hg]
    rw [if_pos ⟨trivial, hnew', hto, hdue, hm⟩]
  | some g =>
    simp only [hg]
    rw [if_pos ⟨decide_eq_true (hlasts g hg), hnew', hto, hdue, hm⟩]

theorem State.expireResv_due {s : State} {n b : Nat} (hm : s.modeCode = mExpose) (hb : (s.esc n).resvEnd = some b) (hdue : b ≤ s.beat) :
    s.expireResv n = s.setEsc n { s.esc n with
      linger := (s.esc n).linger.filter (fun x => decide (s.beat < x.2)), resv := none, resvEnd := none } := by
  have hnm : ¬ s.modeCode ≠ mExpose := fun h => h hm
  unfold State.expireResv
  rw [if_neg hnm]
  dsimp only
  rw [hb]
  exact if_pos hdue

/-- Settles O17: each bridge command by the case of its operation that the conditions name. -/
theorem bridgeCommands : Obligations.BridgeCommands := by
  unfold Obligations.BridgeCommands
  refine ⟨fun s hm hheld => ?_, fun s hs hm => ?_, fun s n f i j a hf hfetch ha hreg => ?_,
    fun s n x hx hlasts hnew hto hdue hm => ?_, fun s n b hs hm hb hdue => ?_⟩
  · exact State.next_settle (State.bridgeBeat_expose (s := s.begin) hm hheld)
  · exact State.next_of_rest hs (if_pos (Or.inl hm)) rfl
  · exact State.next_settle (State.recordArrive_clean (s := s.begin) hf hfetch ha hreg)
  · exact State.next_settle (State.holdTimeout_due (s := s.begin) hx hlasts hnew hto hdue hm)
  · exact State.next_of_rest hs (State.expireResv_due (s := s.begin) hm hb hdue) (State.setEsc_ctrl ..)

end Sys2Proof.Machine
end

section
/-! PROOF (O18). Fetch, start commands and barriers: what each operation does in the case the statement names (R134 to R153). -/
namespace Sys2Proof.Machine

/-! ### Fetch and starts -/

/-- A line of program memory that an escapement past its prefetch asks for enters its buffer (R133 to R136). -/
theorem State.fetchLine_sound {s : State} {n a : Nat} (hst : s.escState n = 2 ∨ s.escState n = 3 ∨ s.escState n = 4)
    (hheld : s.heldInReset n = false) (hnew : ((s.esc n).buf.any fun l => l.addr == a / 64 * 64) = false) (hlen : (s.esc n).buf.length < 64)
    (hreg : s.region (a / 64 * 64) = .progMem) : s.fetchLine n a .clean =
    (({ s with req := some (0x10 + n) } : State).setEsc n { s.esc n with
      buf := (s.esc n).buf ++ [⟨a / 64 * 64, false, s.lineWords (a / 64 * 64)⟩], lineAt := s.beat }).set (ESC_STAT_BUFVALID n) 1 := by
  have hwanted : (if s.escState n = 1 then (s.prefetched n).1 == a / 64 * 64 && decide ((s.prefetched n).2 < s.pfDepth n)
      else s.escState n == 2 || s.escState n == 3 || s.escState n == 4) = true := by
    rcases hst with h | h | h <;> rw [h] <;> rfl
  have hroom : ¬ 64 < ((s.esc n).buf ++ [(⟨a / 64 * 64, false, s.lineWords (a / 64 * 64)⟩ : FetchLine)]).length := by
    rw [List.length_append, List.length_singleton]
    omega
  have hwords : ({ s with req := some (0x10 + n) } : State).lineWords (a / 64 * 64) = s.lineWords (a / 64 * 64) :=
    List.map_congr_left fun i _ => State.load_of_mem rfl 8 _
  have hgood : s.eccBad (a / 64 * 64) .clean = false := rfl
  have hevent : ({ s with req := some (0x10 + n) } : State).eccEvent (a / 64 * 64) .clean = { s with req := some (0x10 + n) } := rfl
  unfold State.fetchLine
  dsimp only
  rw [hwanted, hheld, hnew, if_neg (by decide), hreg, hgood]
  simp only [beq_self_eq_true, Bool.true_or, Bool.not_true, Bool.or_self, if_true, Bool.false_eq_true, if_false]
  rw [hevent, hwords, if_neg hroom]
  rfl

theorem State.prefetchDone_due {s : State} {n : Nat} (hst : s.escState n = 1) (hline : (s.esc n).lineAt < s.beat)
    (hdone : s.prefetchStopped n = true ∨ s.pfDepth n ≤ (s.prefetched n).2) : s.prefetchDone n = s.setEscState n 2 := if_pos ⟨hst, hline, hdone⟩

theorem State.startCommand_armed {s : State} (h : s.modeCode = mArmed) :
    s.startCommand = State.startEnter (s.startDue (s.pair ESC_GOSTAMP_LO_STAMP ESC_GOSTAMP_HI_STAMP)) := if_neg fun hne => hne h

/-! ### Barriers -/

theorem State.devRelease_due {s : State} {g : Nat} (hfull : s.barFull g = true) (hready : (s.bar g).ready ≤ s.beat) :
    s.devRelease g = (s.bar g).arrived.foldl (fun t e => t.endWait e.1) (s.setBar g { s.bar g with arrived := [], reported := none }) :=
  if_pos (by rw [hfull, decide_eq_true hready]; rfl)

/-- With one arrival DEV_TO runs from its beat (R152). -/
theorem State.devTimeout_single {s : State} {g a b c : Nat} (harr : (s.bar g).arrived = [(a, b, c)]) (hto : s.get ESC_SYNCTO_DEV_TO ≠ 0)
    (hlate : b + usBeats (s.get ESC_SYNCTO_DEV_TO) ≤ s.beat) : s.devTimeout g = s.barFail g := by
  unfold State.devTimeout
  dsimp only
  rw [harr]
  exact if_pos ⟨hto, hlate⟩

section
variable {s : State} {g : Nat} (htk : s.flag SKZ_STAT_TK = true) (hreports : (s.bar (16 + g)).reports ≠ [])
include htk hreports

theorem State.fabDecision_all
    (hall : ((List.range 16).all fun d => !(s.bar (16 + g)).devices.testBit d || (s.bar (16 + g)).reports.any fun r => r.1 == d) = true) :
    s.fabDecision g = (s.setBar (16 + g) { s.bar (16 + g) with reports := [] }).skBroadcast 8 g
      (max ((s.bar (16 + g)).reports.foldl (fun t r => max t r.2) 0) (s.beat + s.get ESC_FLEAD_LEAD)) := by
  unfold State.fabDecision
  dsimp only
  rw [htk, hall, List.isEmpty_eq_false_iff.mpr hreports]
  exact if_pos rfl

theorem State.fabTimeout_late (hto : s.get ESC_SYNCTO_FAB_TO ≠ 0)
    (hlate : (s.bar (16 + g)).firstReport + usBeats (s.get ESC_SYNCTO_FAB_TO) ≤ s.beat) :
    s.fabTimeout g = (s.setBar (16 + g) { s.bar (16 + g) with reports := [] }).skBroadcast 9 g (s.beat + s.get ESC_FLEAD_LEAD) := by
  unfold State.fabTimeout
  dsimp only
  rw [htk, List.isEmpty_eq_false_iff.mpr hreports, bne_iff_ne.mpr hto, decide_eq_true hlate]
  exact if_pos rfl

end

theorem State.fabLocalTimeout_late {s : State} {g r : Nat} (hrep : (s.bar (16 + g)).reported = some r) (hto : s.get ESC_SYNCTO_FAB_TO ≠ 0)
    (hlate : r + usBeats (s.get ESC_SYNCTO_FAB_TO + 10) ≤ s.beat) (htold : s.fabTold g = false) : s.fabLocalTimeout g = s.barFail (16 + g) := by
  have hntold : (!s.fabTold g) = true := by rw [htold]; rfl
  unfold State.fabLocalTimeout
  dsimp only
  rw [hrep]
  exact if_pos ⟨hto, hlate, hntold⟩

/-- Settles O18: each command by the case of its operation that the conditions name. -/
theorem escapementStartAndBarriers : Obligations.EscapementStartAndBarriers := by
  unfold Obligations.EscapementStartAndBarriers
  refine ⟨fun s n a hst hheld hnew hlen hreg hs => ?_, fun s n hs hst hline hdone => ?_, fun s hs hm => ?_, fun s hs hm => ?_,
    fun s g hs hfull hready => ?_, fun s g a b c harr hto hlate => ?_, fun s g htk hreports hall => ?_,
    fun s g htk hreports hto hlate => ?_, fun s g r hrep hto hlate htold => ?_⟩
  · exact State.next_of_rest hs (State.fetchLine_sound (s := s.begin) hst hheld hnew hlen hreg) ((State.set_ctrl ..).trans (State.setEsc_ctrl ..))
  · exact State.next_of_ctrl hs (State.prefetchDone_ctrl ..) (State.prefetchDone_due (s := s.begin) hst hline hdone)
  · exact State.next_of_ctrl hs (State.startCommand_ctrl ..) (State.startCommand_armed (s := s.begin) hm)
  · exact State.next_of_ctrl hs (State.startCommand_ctrl ..) (if_pos hm)
  · exact State.next_of_ctrl hs (State.devRelease_ctrl ..) (State.devRelease_due (s := s.begin) hfull hready)
  · exact State.next_settle (State.devTimeout_single (s := s.begin) harr hto hlate)
  · exact State.next_settle (State.fabDecision_all (s := s.begin) htk hreports hall)
  · exact State.next_settle (State.fabTimeout_late (s := s.begin) htk hreports hto hlate)
  · exact State.next_settle (State.fabLocalTimeout_late (s := s.begin) hrep hto hlate htold)

end Sys2Proof.Machine
end

section
/-! PROOF (O19). A master's commands to escapements: what each does in the case the statement names (R155 to R165). -/
namespace Sys2Proof.Machine

/-- A command reaches an escapement that is not held in block reset. -/
theorem State.escDo_live {s : State} {n : Nat} (h : s.heldInReset n = false) (f : State → Nat → State) : s.escDo n f = f s n :=
  if_neg (Bool.eq_false_iff.mp h)

theorem State.startCmd_taken {s : State} {n : Nat} (hst : stoppedCode (s.escState n) = true) (hm : startMode s.modeCode = true) :
    s.startCmd n = ((((((s.closeEvents n).cutGate n).stopMotion n false).endStretch n).orphanAll n).flushBuf n).startEsc n := by
  have hok : ¬ (!(stoppedCode (s.escState n) && startMode s.modeCode)) = true := by rw [hst, hm]; decide
  exact if_neg hok

theorem State.startCmd_refused {s : State} {n : Nat} (h : stoppedCode (s.escState n) = false ∨ startMode s.modeCode = false) :
    s.startCmd n = s.cmdErr n := by
  have hbad : (!(stoppedCode (s.escState n) && startMode s.modeCode)) = true := by
    rcases h with h | h
    · rw [h]
      rfl
    · rw [h, Bool.and_false]
      rfl
  exact if_pos hbad

theorem State.resumeCmd_taken {s : State} {n : Nat} (hst : s.escState n = 5 ∨ s.escState n = 6) (hm : startMode s.modeCode = true) :
    s.resumeCmd n = s.reissue n := by
  have hok : ¬ (!((s.escState n == 5 || s.escState n == 6) && startMode s.modeCode)) = true := by
    rw [hm]
    rcases hst with h | h <;> rw [h] <;> decide
  exact if_neg hok

/-- A step from a stop or a trap issues again, for one instruction (R164). -/
theorem State.stepCmd_stopped {s : State} {n : Nat} (hst : s.escState n = 5 ∨ s.escState n = 6) (hm : stepMode s.modeCode = true) :
    s.stepCmd n = (s.reissue n).modEsc n fun e => { e with stepping := true } := by
  have hok : ¬ (!(stoppedCode (s.escState n) && stepMode s.modeCode)) = true := by
    rw [hm]
    rcases hst with h | h <;> rw [h] <;> decide
  have hne0 : ¬ s.escState n = 0 := by omega
  have hne7 : ¬ s.escState n = 7 := by omega
  unfold State.stepCmd
  dsimp only
  rw [if_neg hok, if_neg hne0, if_neg hne7]

theorem State.stepCmd_idle {s : State} {n : Nat} (hst : s.escState n = 0) (hm : stepMode s.modeCode = true) :
    s.stepCmd n = (s.startEsc n).modEsc n fun e => { e with stepping := true } := by
  have hok : ¬ (!(stoppedCode (s.escState n) && stepMode s.modeCode)) = true := by rw [hm, hst]; decide
  unfold State.stepCmd
  dsimp only
  rw [if_neg hok, if_pos hst]

/-- ENABLE changes in a stopped state; only in TRAPPED does more follow (R165). -/
theorem State.enableWrite_changed {s : State} {n v : Nat} (hst : stoppedCode (s.escState n) = true) (htrap : s.escState n ≠ 6)
    (hnew : s.flag (ESC_CTL_ENABLE n) ≠ bit v 0) : s.enableWrite n v =
    (s.set (ESC_CTL_PFDEPTH n) (bits v 15 8)).set (ESC_CTL_ENABLE n) (b2n (bit v 0)) := by
  have hne : ¬ (s.flag (ESC_CTL_ENABLE n) == bit v 0) = true := fun h => hnew (eq_of_beq h)
  have hok : ¬ (!stoppedCode (s.escState n)) = true := by rw [hst]; decide
  have hquiet : ¬ (s.flag (ESC_CTL_ENABLE n) && s.escState n == 6) = true := by
    rw [beq_eq_false_iff_ne.mpr htrap, Bool.and_false]
    exact Bool.false_ne_true
  unfold State.enableWrite
  dsimp only
  rw [if_neg hne, if_neg hok, if_neg hquiet]

/-- Settles O19: each command to an escapement by the case of its operation that the conditions name. -/
theorem escapementControlCommands : Obligations.EscapementControlCommands := by
  unfold Obligations.EscapementControlCommands
  refine ⟨fun s n v hs hheld => ?_, fun s v hs => ?_, fun s n hs hbeat hheld => ?_, fun s n hheld hst hm => ?_, fun s n hheld h => ?_,
    fun s n hheld hst => ?_, fun s n hs hheld hst hm => ?_, fun s n hs hheld hst hm => ?_, fun s n hheld hst hm => ?_,
    fun s n hs hheld hst => ?_, fun s mask => rfl, fun s mask => rfl, fun s mask => rfl, fun s n v hs hheld hst htrap hnew => ?_⟩
  · exact State.next_of_rest hs (if_neg (Bool.eq_false_iff.mp hheld)) (State.setEvents_ctrl ..)
  · exact State.next_of_ctrl hs (State.evFire_ctrl ..) rfl
  · have hgo : s.begin.lbeat = s.begin.pair (ESC_ALARM_LO_VALUE n.val) (ESC_ALARM_HI_VALUE n.val) ∧ (!s.begin.heldInReset n.val) = true :=
      ⟨hbeat, by rw [show s.begin.heldInReset n.val = false from hheld]; rfl⟩
    exact State.next_of_rest hs (if_pos hgo) (State.setEvents_ctrl s.begin n.val 0x1000)
  · exact State.next_settle ((State.escDo_live (s := s.begin) hheld _).trans (State.startCmd_taken (s := s.begin) hst hm))
  · exact State.next_settle ((State.escDo_live (s := s.begin) hheld _).trans (State.startCmd_refused (s := s.begin) h))
  · exact State.next_settle ((State.escDo_live (s := s.begin) hheld _).trans (if_neg hst))
  · exact State.next_of_rest hs ((State.escDo_live (s := s.begin) hheld _).trans (State.resumeCmd_taken (s := s.begin) hst hm))
      (State.reissue_ctrl s.begin n.val)
  · exact State.next_of_rest hs ((State.escDo_live (s := s.begin) hheld _).trans (State.stepCmd_stopped (s := s.begin) hst hm))
      ((State.modEsc_ctrl ..).trans (State.reissue_ctrl s.begin n.val))
  · exact State.next_settle ((State.escDo_live (s := s.begin) hheld _).trans (State.stepCmd_idle (s := s.begin) hst hm))
  · exact State.next_of_rest hs ((State.escDo_live (s := s.begin) hheld _).trans (if_pos hst)) (State.flushBuf_ctrl ..)
  · exact State.next_of_rest hs ((State.escDo_live (s := s.begin) hheld _).trans (State.enableWrite_changed (s := s.begin) hst htrap hnew))
      ((State.set_ctrl ..).trans (State.set_ctrl ..))

end Sys2Proof.Machine
end

section
/-! PROOF (O20). The timeline of an escapement: what each end and start does in the case the statement names (R76, R140 to R142,
R189 to R197). -/
namespace Sys2Proof.Machine

/-- A laser-off segment outside a stretch, with its power unchanged and unclamped, only starts (R189). -/
theorem State.segmentCommit_off {s : State} {n : Nat} {g : Seg} {l : List Seg} (hq : (s.esc n).queue = g :: l)
    (hmay : s.mayCommit n g = true) (hon : g.kind.on = false) (hstretch : (s.esc n).stretch = none) (hpow : g.set.powNew = false)
    (hclamp : ((s.esc n).planSeg (s.limits n) s.beat g l ((s.esc n).zeroPower g) (s.esc n).wait.isSome).2 = false) :
    s.segmentCommit n = s.setEsc n { s.esc n with
      line := .seg ((s.esc n).planSeg (s.limits n) s.beat g l ((s.esc n).zeroPower g) (s.esc n).wait.isSome).1
      restart := none, fresh := false, junction := none } := by
  have hgo : ¬ (!s.mayCommit n g) = true := by rw [hmay]; decide
  unfold State.segmentCommit
  rw [hq]
  dsimp only
  rw [if_neg hgo]
  simp only [hon, hstretch, hpow, hclamp, Option.isSome_none, Bool.not_false, Bool.and_false, Bool.false_and, Bool.or_self,
    Bool.false_eq_true, if_false, if_true]

/-- A laser-off segment ends with another behind it that goes on, or with the spot at rest (R140). -/
theorem State.segmentEnd_off {s : State} {n : Nat} {p : Plan} {g x : Seg} {l : List Seg} (hline : (s.esc n).line = .seg p)
    (hq : (s.esc n).queue = g :: x :: l) (hdue : p.start + p.beats ≤ s.beat) (hst : s.escState n = 3) (hon : g.kind.on = false)
    (hexit : p.vExit ≤ 0 ∨ continues (s.limits n) g x p.vExit = true) (hpiece : g.piece = none) : s.segmentEnd n =
    (let q := p.sample (p.start + p.beats) { x := (s.esc n).px, y := (s.esc n).py, z := (s.esc n).pz }
     let u := (s.setEsc n { s.esc n with
      px := q.x, py := q.y, pz := q.z, v := p.vExit, dirX := p.dirX, dirY := p.dirY, dirZ := p.dirZ, line := .idle
      idleAt := p.start + p.beats, prev := 0, wobX := 0, wobY := 0, wobT := 0, env := 0 }).setQueue n (x :: l)
     (({ u with yieldDue := s.yieldDue ++ g.yields.map (fun z => (n, z)) }).floatCheck n).storeCheck n) := by
  have hgo : ¬ (s.beat < p.start + p.beats ∨ (!(s.escState n == 3 || s.escState n == 4 || s.escState n == 6)) = true) := by
    rw [hst]
    rintro (h | h)
    · omega
    · exact absurd h (by decide)
  have hstops : (decide (0 < p.vExit) && !continues (s.limits n) g x p.vExit) = false := by
    rcases hexit with h | h
    · rw [decide_eq_false (Rat.not_lt.mpr h), Bool.false_and]
    · rw [h, Bool.not_true, Bool.and_false]
  unfold State.segmentEnd
  dsimp only
  rw [hline, hq]
  dsimp only
  rw [if_neg hgo]
  simp only [List.head?_cons, hstops, hon, hpiece, Bool.false_and, Bool.false_eq_true, if_false, Rat.add_zero, Option.isNone_some]
  rfl

/-- The wait of WAITT for a beat begins with the end of its drain (R76). -/
theorem State.drainDone_waitt {s : State} {n k : Nat} {w : Wait} (hw : (s.esc n).wait = some w) (hk : k ≠ 0) (hkind : w.kind = .waitt false k) :
    s.drainDone n = (s.breakStretch n).modEsc n fun e => { e with prev := 0, wait := some { w with drained := true, since := s.beat } } := by
  unfold State.drainDone
  rw [hw]
  dsimp only
  rw [hkind]
  exact if_neg hk

/-- The stop of a retarget is followed by the return to the segment at the front (R196, R197). -/
theorem State.stopMotionEnd_return {s : State} {n : Nat} {p : Plan} {g : Seg} {l : List Seg} (hline : (s.esc n).line = .stop p true)
    (hdue : p.start + p.beats ≤ s.beat) (hq : (s.esc n).queue = g :: l) : s.stopMotionEnd n =
    (let q := p.sample (p.start + p.beats) { x := (s.esc n).px, y := (s.esc n).py, z := (s.esc n).pz }
     s.setEsc n { s.esc n with
      px := q.x + (s.esc n).wobX, py := q.y + (s.esc n).wobY, pz := q.z, wobX := 0, wobY := 0, v := 0, idleAt := p.start + p.beats
      line := .ret (returnPlan (s.limits n) (p.start + p.beats) g.set.vJump (q.x + (s.esc n).wobX) (q.y + (s.esc n).wobY) q.z g.x0 g.y0 g.z0) }) := by
  unfold State.stopMotionEnd
  dsimp only
  rw [hline]
  dsimp only
  rw [if_neg (Nat.not_lt.mpr hdue), hq]
  rfl

theorem State.returnEnd_due {s : State} {n : Nat} {p : Plan} (hline : (s.esc n).line = .ret p) (hdue : p.start + p.beats ≤ s.beat) :
    s.returnEnd n = (let q := p.sample (p.start + p.beats) { x := (s.esc n).px, y := (s.esc n).py, z := (s.esc n).pz }
      ((s.setEsc n { s.esc n with px := q.x, py := q.y, pz := q.z, line := .idle, idleAt := p.start + p.beats }).floatCheck n).storeCheck n) := by
  unfold State.returnEnd
  dsimp only
  rw [hline]
  dsimp only
  rw [if_neg (Nat.not_lt.mpr hdue)]

/-- A drain ends where the wait has none behind it and the queue has run out (R76). -/
theorem exec_drainEnd_due {s : State} {n : Unit24} {w : Wait} (hw : (s.esc n.val).wait = some w) (hnew : w.drained = false)
    (hdrained : (s.esc n.val).drainedNow = true) (hst : s.escState n.val = 4) : exec (.drainEnd n) s = .next (s.begin.drainDone n.val).settle := by
  have hwait : (s.begin.esc n.val).wait = some w := hw
  have hgo : (!w.drained && (s.begin.esc n.val).drainedNow && s.begin.escState n.val == 4) = true := by
    rw [hnew, show (s.begin.esc n.val).drainedNow = true from hdrained, show s.begin.escState n.val = 4 from hst]
    rfl
  unfold exec execDrainEnd
  dsimp only
  rw [hwait]
  exact State.next_settle (if_pos hgo)

/-- Settles O20: each step of the timeline by the case of its operation that the conditions name. -/
theorem timelineCommands : Obligations.TimelineCommands := by
  unfold Obligations.TimelineCommands
  refine ⟨fun s n g l hs hq hmay hon hstretch hpow hclamp => ?_, fun s n p g x l hline hq hdue hst hon hexit hpiece => ?_,
    fun s n w hw hnew hdrained hst => ?_, fun s n w hs hw hnew hdrained hst k hk hkind => ?_, fun s n p hs hline hdue g l hq => ?_,
    fun s n p hline hdue => ?_, fun s n r hs hr hdue => ?_⟩
  · exact State.next_of_rest hs (State.segmentCommit_off (s := s.begin) hq hmay hon hstretch hpow hclamp) (State.setEsc_ctrl ..)
  · exact State.next_settle (State.segmentEnd_off (s := s.begin) hline hq hdue hst hon hexit hpiece)
  · exact exec_drainEnd_due hw hnew hdrained hst
  · rw [exec_drainEnd_due hw hnew hdrained hst]
    exact State.next_of_rest hs (State.drainDone_waitt (s := s.begin) hw hk hkind) ((State.modEsc_ctrl ..).trans (State.breakStretch_ctrl ..))
  · exact State.next_of_rest hs (State.stopMotionEnd_return (s := s.begin) hline hdue hq) (State.setEsc_ctrl ..)
  · exact State.next_settle (State.returnEnd_due (s := s.begin) hline hdue)
  · have hrestart : (s.begin.esc n.val).restart = some r := hr
    unfold exec execTimelineRestart
    dsimp only
    rw [hrestart]
    exact State.next_of_rest hs (if_pos hdue) (State.modEsc_ctrl s.begin n.val fun e => { e with restart := none })

end Sys2Proof.Machine
end

section
/-! PROOF (O21, O22). Calibre's arithmetic: an instruction that goes writes its destination and its flags (R123 to R125). -/
namespace Sys2Proof.Machine

/-! ### Integer instructions -/

/-- The operand B that an instruction reads after its advance is that of the state before. -/
theorem State.advanced_aluB (s : State) (n w : Nat) (ws : List Nat) : (s.advanced n ws).aluB n w = s.aluB n w := by
  unfold State.aluB
  rw [State.advanced_g]

/-- A word whose FN is the row's names no other instruction. -/
theorem fnOther_of_eq {w fn : Nat} (used : Nat) (h : (bits w 55 52 != fn) = false) : fnOther w fn used = false := by
  unfold fnOther
  rw [h, Bool.false_and]

theorem fnOther_of_alu {w fn : Nat} {noRd : Bool} (used : Nat) (h : aluIllegal w fn noRd = false) : fnOther w fn used = false := by
  unfold aluIllegal at h
  simp only [Bool.or_eq_false_iff] at h
  obtain ⟨⟨⟨-, hfn⟩, -⟩, -⟩ := h
  exact fnOther_of_eq used hfn

/-- The operands of an ALU instruction, and its result with C and V. -/
def State.aluOut (s : State) (n w : Nat) (f : Nat → Nat → Nat × Bool × Bool) : Nat × Bool × Bool := f (s.g n (bits w 46 42)) (s.aluB n w)

section
variable {s : State} {n fn : Nat} {b : BitVec 58} (hs : s.restful = true) (f : Nat → Nat → Nat × Bool × Bool)
include hs

/-- An ALU instruction with a destination writes it and the flags of its result (R123). -/
theorem State.alu_writes (h : s.goes n (instrWords 0x34 (wordOf b) 0) (aluIllegal (wordOf b) fn false) = true) :
    (s.begin.alu n b fn false f).settle = ((s.advanced n (instrWords 0x34 (wordOf b) 0)).setG n (bits (wordOf b) 51 47)
      (s.aluOut n (wordOf b) f).1).intFlags n (s.aluOut n (wordOf b) f).1 (s.aluOut n (wordOf b) f).2.1 (s.aluOut n (wordOf b) f).2.2 := by
  unfold State.alu
  dsimp only
  rw [fnOther_of_alu 14 (State.goes_legal h), if_neg Bool.false_ne_true]
  refine State.instr_goes_settle s _ n 0x34 (wordOf b) 0 _ _ hs h ?_ ?_ ?_
  · unfold State.aluOut
    rw [State.advanced_g, State.advanced_aluB]
    rfl
  · rw [State.intFlags_esc, State.setG_esc]
  · rw [State.intFlags_ctrl, State.setG_ctrl]

/-- A comparison writes the flags alone (R123). -/
theorem State.alu_compares (h : s.goes n (instrWords 0x34 (wordOf b) 0) (aluIllegal (wordOf b) fn true) = true) :
    (s.begin.alu n b fn true f).settle = (s.advanced n (instrWords 0x34 (wordOf b) 0)).intFlags n (s.aluOut n (wordOf b) f).1
      (s.aluOut n (wordOf b) f).2.1 (s.aluOut n (wordOf b) f).2.2 := by
  unfold State.alu
  dsimp only
  rw [fnOther_of_alu 14 (State.goes_legal h), if_neg Bool.false_ne_true]
  refine State.instr_goes_settle s _ n 0x34 (wordOf b) 0 _ _ hs h ?_ ?_ ?_
  · unfold State.aluOut
    rw [State.advanced_g, State.advanced_aluB]
    rfl
  · rw [State.intFlags_esc]
  · rw [State.intFlags_ctrl]

end

/-- Settles O21: every instruction of the ALU is one of the two forms, with its own function. -/
theorem calibreIntegerInstructions : Obligations.CalibreIntegerInstructions := by
  unfold Obligations.CalibreIntegerInstructions
  refine ⟨fun s n b hs h => ?_, fun s n b hs h => ?_, fun s n b hs h => ?_, fun s n b hs h => ?_, fun s n b hs h => ?_, fun s n b hs h => ?_,
    fun s n b hs h => ?_, fun s n b hs h => ?_, fun s n b hs h => ?_, fun s n b hs h => ?_, fun s n b hs h => ?_, fun s n b hs h => ?_,
    fun s n b hs h => ?_, fun s n b hs h => ?_⟩
  · exact congrArg Host.Outcome.next (State.alu_writes hs addC h)
  · exact congrArg Host.Outcome.next (State.alu_writes hs subC h)
  · exact congrArg Host.Outcome.next (State.alu_writes hs (fun x y => plain (x &&& y)) h)
  · exact congrArg Host.Outcome.next (State.alu_writes hs (fun x y => plain (x ||| y)) h)
  · exact congrArg Host.Outcome.next (State.alu_writes hs (fun x y => plain (x ^^^ y)) h)
  · exact congrArg Host.Outcome.next (State.alu_writes hs (fun x y => ((shlC x (y % 32)).1, (shlC x (y % 32)).2, false)) h)
  · exact congrArg Host.Outcome.next (State.alu_writes hs (fun x y => ((shrC x (y % 32)).1, (shrC x (y % 32)).2, false)) h)
  · exact congrArg Host.Outcome.next (State.alu_writes hs (fun x y => ((sraC x (y % 32)).1, (sraC x (y % 32)).2, false)) h)
  · exact congrArg Host.Outcome.next (State.alu_writes hs (fun x y => plain (x * y % 2 ^ 32)) h)
  · exact congrArg Host.Outcome.next
      (State.alu_writes hs (fun x y => plain (enc 32 ((sgn 32 x * sgn 32 y).fdiv ((2 ^ 32 : Nat) : Int)))) h)
  · exact congrArg Host.Outcome.next (State.alu_writes hs (fun x y => plain (if sgn 32 y < sgn 32 x then y else x)) h)
  · exact congrArg Host.Outcome.next (State.alu_writes hs (fun x y => plain (if sgn 32 x < sgn 32 y then y else x)) h)
  · exact congrArg Host.Outcome.next (State.alu_compares hs subC h)
  · exact congrArg Host.Outcome.next (State.alu_compares hs (fun x y => plain (x &&& y)) h)

/-! ### Floating point -/

theorem fnOther_of_fp {w fn : Nat} (used : Nat) (h : fpIllegal w fn = false) : fnOther w fn used = false := by
  unfold fpIllegal at h
  simp only [Bool.or_eq_false_iff] at h
  obtain ⟨⟨⟨halu, -⟩, -⟩, -⟩ := h
  exact fnOther_of_alu used halu

theorem fnOther_of_fma {w fn : Nat} (used : Nat) (h : fmaIllegal w fn = false) : fnOther w fn used = false := by
  unfold fmaIllegal at h
  simp only [Bool.or_eq_false_iff] at h
  obtain ⟨⟨⟨⟨⟨⟨-, hfn⟩, -⟩, -⟩, -⟩, -⟩, -⟩ := h
  exact fnOther_of_eq used hfn

theorem fnOther_of_cvt {w fn : Nat} {fd fs : Bool} (used : Nat) (h : cvtIllegal w fn fd fs = false) : fnOther w fn used = false := by
  unfold cvtIllegal at h
  simp only [Bool.or_eq_false_iff] at h
  obtain ⟨⟨⟨-, hfn⟩, -⟩, -⟩ := h
  exact fnOther_of_eq used hfn

/-- What FADD and FMUL compute: no value where they raise FPE (R124). -/
def State.fpOut (s : State) (n w : Nat) (f : Nat → Nat → Option Nat) : Option Nat :=
  f (s.f n (bits w 46 42)) (if bit w 56 then bits w 31 0 else s.f n (bits w 41 37))

section
variable {s : State} {n op fn r : Nat} {b : BitVec 58} {f : Nat → Nat → Option Nat}

theorem State.fp_writes (hs : s.restful = true) (h : s.goes n (instrWords op (wordOf b) 0) (fpIllegal (wordOf b) fn) = true)
    (hr : s.fpOut n (wordOf b) f = some r) : (s.begin.fp n b op fn f).settle =
      ((s.advanced n (instrWords op (wordOf b) 0)).setF n (bits (wordOf b) 51 47) r).floatFlags n r := by
  unfold State.fp
  dsimp only
  rw [fnOther_of_fp _ (State.goes_legal h), if_neg Bool.false_ne_true]
  refine State.instr_goes_settle s _ n op (wordOf b) 0 _ _ hs h ?_ ?_ ?_
  · unfold State.fpOut at hr
    rw [State.advanced_f, State.advanced_f, hr]
  · rw [State.floatFlags_esc, State.setF_esc]
  · rw [State.floatFlags_ctrl, State.setF_ctrl]

theorem State.fp_traps (h : s.goes n (instrWords op (wordOf b) 0) (fpIllegal (wordOf b) fn) = true) (hr : s.fpOut n (wordOf b) f = none) :
    s.begin.fp n b op fn f = s.begin.trap n exFpe 0 (s.pc n) 0 (fullWord op (wordOf b)) := by
  unfold State.fp
  dsimp only
  rw [fnOther_of_fp _ (State.goes_legal h), if_neg Bool.false_ne_true]
  refine State.instr_exc s n op (wordOf b) 0 exFpe 0 _ _ h ?_
  unfold State.fpOut at hr
  rw [State.advanced_f, State.advanced_f, hr]

theorem State.fmaOp_writes {negate : Bool} (hs : s.restful = true)
    (h : s.goes n (instrWords 0x37 (wordOf b) 0) (fmaIllegal (wordOf b) fn) = true)
    (hr : f32Fma (if negate then f32Flip (s.f n (bits (wordOf b) 46 42)) else s.f n (bits (wordOf b) 46 42)) (s.f n (bits (wordOf b) 41 37))
      (s.f n (bits (wordOf b) 36 32)) = some r) : (s.begin.fmaOp n b fn negate).settle =
      ((s.advanced n (instrWords 0x37 (wordOf b) 0)).setF n (bits (wordOf b) 51 47) r).floatFlags n r := by
  unfold State.fmaOp
  dsimp only
  rw [fnOther_of_fma _ (State.goes_legal h), if_neg Bool.false_ne_true]
  refine State.instr_goes_settle s _ n 0x37 (wordOf b) 0 _ _ hs h ?_ ?_ ?_
  · rw [State.advanced_f, State.advanced_f, State.advanced_f, hr]
  · rw [State.floatFlags_esc, State.setF_esc]
  · rw [State.floatFlags_ctrl, State.setF_ctrl]

end

/-! ### Conversions -/

section
variable {s : State} {n fn : Nat} {b : BitVec 58} (hs : s.restful = true)
include hs

theorem State.cvtToF_writes (f : Int → Rat) (v : Int → Bool)
    (h : s.goes n (instrWords 0x38 (wordOf b) 0) (cvtIllegal (wordOf b) fn true false) = true) : (s.begin.cvtToF n b fn f v).settle =
    (let x := sgn 32 (s.g n (bits (wordOf b) 46 42))
     let r := f32Of (f x)
     ((s.advanced n (instrWords 0x38 (wordOf b) 0)).setF n (bits (wordOf b) 51 47) r).setZNCV n (r % 2 ^ 31 == 0) (bit r 31) false (v x)) := by
  unfold State.cvtToF
  dsimp only
  rw [fnOther_of_cvt _ (State.goes_legal h), if_neg Bool.false_ne_true]
  refine State.instr_goes_settle s _ n 0x38 (wordOf b) 0 _ _ hs h ?_ ?_ ?_
  · rw [State.advanced_g]
  · rw [State.setZNCV_esc, State.setF_esc]
  · rw [State.setZNCV_ctrl, State.setF_ctrl]

theorem State.cvtToG_writes {q : Rat} (f : Rat → Int) (lo hi : Int)
    (h : s.goes n (instrWords 0x38 (wordOf b) 0) (cvtIllegal (wordOf b) fn false true) = true)
    (hq : f32Val (s.f n (bits (wordOf b) 46 42)) = some q) : (s.begin.cvtToG n b fn f lo hi).settle =
    (let z := f q
     let r := enc 32 (clampI lo hi z)
     ((s.advanced n (instrWords 0x38 (wordOf b) 0)).setG n (bits (wordOf b) 51 47) r).setZNCV n (r == 0) (bit r 31) false
      (decide (z < lo) || decide (hi < z))) := by
  unfold State.cvtToG
  dsimp only
  rw [fnOther_of_cvt _ (State.goes_legal h), if_neg Bool.false_ne_true]
  refine State.instr_goes_settle s _ n 0x38 (wordOf b) 0 _ _ hs h ?_ ?_ ?_
  · rw [State.advanced_f, hq]
  · rw [State.setZNCV_esc, State.setG_esc]
  · rw [State.setZNCV_ctrl, State.setG_ctrl]

end

/-- Settles O22: every form is one of the four, with its own function. -/
theorem calibreFloatInstructions : Obligations.CalibreFloatInstructions := by
  unfold Obligations.CalibreFloatInstructions
  refine ⟨fun s n b r hs h hr => ?_, fun s n b r hs h hr => ?_, fun s n b r hs h hr => ?_, fun s n b r hs h hr => ?_,
    fun s n b r hs h hr => ?_, fun s n b h hr => ?_, fun s n b r hs h hr => ?_, fun s n b r hs h hr => ?_, fun s n b hs h => ?_,
    fun s n b hs h => ?_, fun s n b q hs h hq => ?_, fun s n b q hs h hq => ?_, fun s n b q hs h hq => ?_⟩
  · exact congrArg Host.Outcome.next (State.fp_writes hs h hr)
  · exact congrArg Host.Outcome.next (State.fp_writes hs h hr)
  · exact congrArg Host.Outcome.next (State.fp_writes hs h hr)
  · exact congrArg Host.Outcome.next (State.fp_writes hs h hr)
  · exact congrArg Host.Outcome.next (State.fp_writes hs h hr)
  · exact State.next_settle (State.fp_traps h hr)
  · exact congrArg Host.Outcome.next (State.fmaOp_writes (negate := false) hs h hr)
  · exact congrArg Host.Outcome.next (State.fmaOp_writes (negate := true) hs h hr)
  · exact congrArg Host.Outcome.next (State.cvtToF_writes hs (fun x => (x : Rat)) (fun _ => false) h)
  · exact congrArg Host.Outcome.next (State.cvtToF_writes hs (fun x => (x : Rat) / 20) (fun x => !inPc24 x) h)
  · exact congrArg Host.Outcome.next (State.cvtToG_writes hs truncQ _ _ h hq)
  · exact congrArg Host.Outcome.next (State.cvtToG_writes hs roundEven _ _ h hq)
  · exact congrArg Host.Outcome.next (State.cvtToG_writes hs (fun q => roundEven (q * 20)) _ _ h hq)

end Sys2Proof.Machine
end

section
/-! PROOF (O23, O24). Calibre's moves, memory and control instructions: what each does at its issue (R108, R111 to R114, R118 to R122). -/
namespace Sys2Proof.Machine

/-- An instruction that goes from a rest ends in the state its body answers, where the body leaves STEP, the collector and the mode
controller alone. -/
theorem State.instr_goes_rest (s t : State) (n op w w1 : Nat) (ill : Bool) (body : State → Iss) (hs : s.restful = true)
    (h : s.goes n (instrWords op w w1) ill = true) (hb : body (s.advanced n (instrWords op w w1)) = .ok t)
    (he : (t.esc n).stepping = (s.esc n).stepping) (hc : t.ctrl = (s.advanced n (instrWords op w w1)).ctrl) :
    (s.begin.issue n (instrWords op w w1) ill body).settle = t := by
  rw [State.instr_goes s t n op w w1 ill body h hb he]
  exact State.settle_ctrl s t hs (hc.trans (State.advanced_ctrl ..))

theorem State.advanced_stepping (s : State) (n : Nat) (ws : List Nat) : ((s.advanced n ws).esc n).stepping = (s.esc n).stepping := by
  rw [State.advanced_esc]

/-! ### MOV, DIALQ, LD and ST -/

theorem State.movRead_g (t : State) (n : Nat) {sel : Nat} (h : sel < 0x20) : t.movRead n sel = some (t.g n sel, t) := if_pos h

theorem State.movWrite_g (t : State) (n v : Nat) {sel : Nat} (h : sel < 0x20) : t.movWrite n sel v = some (t.setG n sel v) := if_pos h

/-- A query whose check bits are clean leaves the dial as it is (R259). -/
theorem State.dialRead_clean (t : State) (x y : Int) (q : Nat) : t.dialRead x y q .clean = (t.dialQuery x y q, t) := by
  have hecc : t.dialEcc .clean = t := rfl
  unfold State.dialRead
  dsimp only
  rw [hecc]
  exact ite_self _

theorem State.dialStall_stepping (t : State) (n : Nat) : ((t.dialStall n).esc n).stepping = (t.esc n).stepping := by
  unfold State.dialStall
  rw [State.modEsc_esc]

theorem State.postLoad_stepping (t : State) (n a rd : Nat) (toF : Bool) (pc word len : Nat) :
    ((t.postLoad n a rd toF pc word len).esc n).stepping = (t.esc n).stepping := by
  unfold State.postLoad
  dsimp only
  rw [State.emit_esc, State.modEsc_esc, State.setPc_esc, State.esc_of_escs (State.winIssue_escs ..)]

theorem State.postStore_stepping (t : State) (n a v pc word len : Nat) :
    ((t.postStore n a v pc word len).esc n).stepping = (t.esc n).stepping := by
  unfold State.postStore
  dsimp only
  rw [State.emit_esc, State.modEsc_esc, State.esc_of_escs (State.winIssue_escs ..)]

/-- What DIALQ answers for a point in range: the θ of the launch beat, RANGE outside the region (R108). -/
def State.dialqEnd (t : State) (n w beat : Nat) (x y : Int) : State :=
  let q := (t.dialStall n).dialQuery x y beat
  let u := (t.dialStall n).draw.setF n (bits w 52 48) (f32Of ((q.1 : Rat) / 16))
  if q.2 then u.set (ESC_SW_RANGE n) 1 else u

theorem State.dialqEnd_stepping (t : State) (n w beat : Nat) (x y : Int) : ((t.dialqEnd n w beat x y).esc n).stepping = (t.esc n).stepping := by
  unfold State.dialqEnd
  dsimp only
  split
  · rw [State.set_esc, State.setF_esc, State.draw_esc, State.dialStall_stepping]
  · rw [State.setF_esc, State.draw_esc, State.dialStall_stepping]

theorem State.dialqEnd_ctrl (t : State) (n w beat : Nat) (x y : Int) : (t.dialqEnd n w beat x y).ctrl = t.ctrl := by
  unfold State.dialqEnd
  dsimp only
  split
  · rw [State.set_ctrl, State.setF_ctrl, State.draw_ctrl, State.dialStall_ctrl]
  · rw [State.setF_ctrl, State.draw_ctrl, State.dialStall_ctrl]

/-- What a MOV does once its PC has advanced (R122). -/
def movBody (n w : Nat) (t : State) : Iss :=
  match t.movRead n (bits w 47 40) with
  | some (v, t1) => (match t1.movWrite n (bits w 55 48) v with | some t2 => .ok t2 | none => .exc exIllegal 0)
  | none => .exc exIllegal 0

theorem exec_mov (n : Unit24) (b : BitVec 58) (s : State) : exec (.mov n b) s =
    .next (s.begin.issue n.val (instrWords 0x33 (wordOf b) 0)
      (isLong (wordOf b) || bit (wordOf b) 56 || dirty (wordOf b) 39 0 || !movSource (bits (wordOf b) 47 40) ||
        !movDest (bits (wordOf b) 55 48)) (movBody n.val (wordOf b))).settle := rfl

theorem movBody_moves {n w v : Nat} {t t1 u : State} (hread : t.movRead n (bits w 47 40) = some (v, t1))
    (hwrite : t1.movWrite n (bits w 55 48) v = some u) : movBody n w t = .ok u := by
  unfold movBody
  rw [hread]
  dsimp only
  rw [hwrite]

/-- What a DIALQ does once its PC has advanced (R108). -/
def dialqBody (n w : Nat) (ecc : Ecc) (t : State) : Iss :=
  let x := sgn 32 (t.g n (bits w 46 42))
  let y := sgn 32 (t.g n (bits w 41 37))
  if !(inPc24 x && inPc24 y) then .exc exCoord 0
  else
    let ((th, rng), u) := (t.dialStall n).dialRead x y t.beat ecc
    let t1 := u.draw.setF n (bits w 52 48) (f32Of ((th : Rat) / 16))
    .ok (if rng then t1.set (ESC_SW_RANGE n) 1 else t1)

theorem exec_dialq (n : Unit24) (b : BitVec 58) (ecc : Ecc) (s : State) : exec (.dialq n b ecc) s =
    .next (s.begin.issue n.val (instrWords 0x20 (wordOf b) 0)
      (isLong (wordOf b) || dirty (wordOf b) 56 53 || decide (8 ≤ bits (wordOf b) 52 48) || dirty (wordOf b) 47 47 ||
        dirty (wordOf b) 36 0) (dialqBody n.val (wordOf b) ecc)).settle := rfl

theorem dialqBody_clean {n w : Nat} {t : State} {x y : Int} (hx : sgn 32 (t.g n (bits w 46 42)) = x) (hy : sgn 32 (t.g n (bits w 41 37)) = y)
    (hinx : inPc24 x = true) (hiny : inPc24 y = true) : dialqBody n w .clean t = .ok (t.dialqEnd n w t.beat x y) := by
  have hin : ¬ (!(inPc24 x && inPc24 y)) = true := by rw [hinx, hiny]; decide
  unfold dialqBody
  dsimp only
  rw [hx, hy, if_neg hin, State.dialRead_clean]
  rfl

/-- What an LD at `pc` does once its PC has advanced (R119). -/
def ldBody (n pc w w1 : Nat) (t : State) : Iss :=
  if t.dataAddr n w w1 % 4 ≠ 0 then .exc exAlign (t.dataAddr n w w1)
  else .ok (t.postLoad n (t.dataAddr n w w1) (bits w 51 47) (bit w 56) pc (fullWord 0x31 w) (wordLen w))

theorem exec_ld (n : Unit24) (b : BitVec 58) (w1 : BitVec 64) (s : State) : exec (.ld n b w1) s =
    .next (s.begin.issue n.val (instrWords 0x31 (wordOf b) w1.toNat) (memIllegal (wordOf b) w1.toNat)
      (ldBody n.val (s.pc n.val) (wordOf b) w1.toNat)).settle := rfl

/-- What an ST at `pc` does once its PC has advanced (R119, R139). -/
def stBody (n pc w w1 : Nat) (t : State) : Iss :=
  if t.dataAddr n w w1 % 4 ≠ 0 then .exc exAlign (t.dataAddr n w w1)
  else if 8 ≤ (t.esc n).stores.length then .stall
  else .ok (t.postStore n (t.dataAddr n w w1) (if bit w 56 then t.f n (bits w 51 47) else t.g n (bits w 51 47)) pc (fullWord 0x32 w) (wordLen w))

theorem exec_st (n : Unit24) (b : BitVec 58) (w1 : BitVec 64) (s : State) : exec (.st n b w1) s =
    .next (s.begin.issue n.val (instrWords 0x32 (wordOf b) w1.toNat) (memIllegal (wordOf b) w1.toNat)
      (stBody n.val (s.pc n.val) (wordOf b) w1.toNat)).settle := rfl

/-- The value a store posts after the advance is that of the state before. -/
theorem stBody_advanced {s : State} {n w w1 : Nat} (pc : Nat) (ws : List Nat) (ha : (s.advanced n ws).dataAddr n w w1 % 4 = 0)
    (hlen : (s.esc n).stores.length < 8) : stBody n pc w w1 (s.advanced n ws) =
    .ok ((s.advanced n ws).postStore n ((s.advanced n ws).dataAddr n w w1) (if bit w 56 then s.f n (bits w 51 47) else s.g n (bits w 51 47)) pc
      (fullWord 0x32 w) (wordLen w)) := by
  have hroom : ¬ 8 ≤ ((s.advanced n ws).esc n).stores.length := by
    rw [State.advanced_esc]
    exact Nat.not_le.mpr hlen
  unfold stBody
  rw [if_neg (fun hne => hne ha), if_neg hroom, State.advanced_f, State.advanced_g]

/-- Settles O23: each instruction's body, on the state its advance gives. -/
theorem calibreMoveAndMemoryInstructions : Obligations.CalibreMoveAndMemoryInstructions := by
  unfold Obligations.CalibreMoveAndMemoryInstructions
  refine ⟨fun s n b hs h => ?_, fun s n b v t u h hread hwrite hstep => ?_, fun s n b hs h hsrc hdst => ?_,
    fun s n b hs h hx hy => ?_, fun s n b w1 h ha => ?_, fun s n b w1 h ha hlen => ?_, fun s n b w1 h ha => ?_⟩
  · rw [exec_ldi]
    exact congrArg _ (State.instr_goes_settle s _ _ _ _ _ _ _ hs h rfl (State.ldiWrite_esc ..) (State.ldiWrite_ctrl ..))
  · have hquiet : (s.esc n.val).stepping = false := (State.goes_spec (instrWords_cons 0x33 (wordOf b) 0 ▸ h)).2.2.2.2.2.2
    rw [exec_mov, State.instr_goes s u _ _ _ _ _ _ h (movBody_moves hread hwrite) (hstep.trans hquiet.symm)]
  · rw [exec_mov, State.instr_goes_settle s _ _ _ _ _ _ _ hs h
      (movBody_moves (State.movRead_g _ _ hsrc) (State.movWrite_g _ _ _ hdst)) (State.setG_esc ..) (State.setG_ctrl ..), State.advanced_g]
  · have hbody := dialqBody_clean (t := s.advanced n.val (instrWords 0x20 (wordOf b) 0)) (congrArg (sgn 32) (State.advanced_g ..))
      (congrArg (sgn 32) (State.advanced_g ..)) hx hy
    rw [exec_dialq, State.instr_goes_rest s _ _ _ _ _ _ _ hs h hbody
      ((State.dialqEnd_stepping ..).trans (State.advanced_stepping ..)) (State.dialqEnd_ctrl ..)]
    rfl
  · rw [exec_ld, State.instr_goes s _ _ _ _ _ _ _ h (if_neg fun hne => hne ha) ((State.postLoad_stepping ..).trans (State.advanced_stepping ..))]
  · rw [exec_st, State.instr_goes s _ _ _ _ _ _ _ h (stBody_advanced _ _ ha hlen)
      ((State.postStore_stepping ..).trans (State.advanced_stepping ..))]
  · rw [exec_ld, State.instr_exc s _ _ _ _ _ _ _ _ h (if_pos ha)]

/-! ### Control -/

/-- What a BR at `pc` does once its PC has advanced (R111, R112). -/
def brBody (n pc w : Nat) (t : State) : Iss :=
  match t.branchTarget n pc w with
  | .error a => .exc exAlign a
  | .ok a => .ok (if t.condHolds n (bits w 55 52) then t.setPc n a else t)

theorem exec_br (n : Unit24) (b : BitVec 58) (s : State) : exec (.br n b) s =
    .next (s.begin.issue n.val (instrWords 0x28 (wordOf b) 0) (branchIllegal (wordOf b) false) (brBody n.val (s.pc n.val) (wordOf b))).settle := rfl

theorem brBody_aligned {n pc w a : Nat} {t : State} (h : t.branchTarget n pc w = .ok a) :
    brBody n pc w t = .ok (if t.condHolds n (bits w 55 52) then t.setPc n a else t) := by
  unfold brBody
  rw [h]

theorem State.ite_setPc_esc (t : State) (c : Prop) [Decidable c] (n a k : Nat) : (if c then t.setPc n a else t).esc k = t.esc k := by
  split <;> rfl

theorem State.ite_setPc_ctrl (t : State) (c : Prop) [Decidable c] (n a : Nat) : (if c then t.setPc n a else t).ctrl = t.ctrl := by
  split
  · exact State.setPc_ctrl ..
  · rfl

/-- What a CALL at `pc` does once its PC has advanced (R111, R113). -/
def callBody (n pc w : Nat) (t : State) : Iss :=
  match t.branchTarget n pc w with
  | .error a => .exc exAlign a
  | .ok a =>
    let d := t.get (ESC_SW_DEPTH n)
    if 16 ≤ d then .exc exStack 0
    else .ok (((t.setPair (ESC_RSTK_LO_VALUE n d) (ESC_RSTK_HI_VALUE n d) ((pc + 8) % 2 ^ 40)).set (ESC_SW_DEPTH n) (d + 1)).setPc n a)

theorem exec_call (n : Unit24) (b : BitVec 58) (s : State) : exec (.call n b) s =
    .next (s.begin.issue n.val (instrWords 0x29 (wordOf b) 0) (branchIllegal (wordOf b) true) (callBody n.val (s.pc n.val) (wordOf b))).settle := rfl

section
variable {n pc w a d : Nat} {t : State} (h : t.branchTarget n pc w = .ok a) (hd : t.get (ESC_SW_DEPTH n) = d)
include h hd

theorem callBody_pushes (hroom : d < 16) : callBody n pc w t =
    .ok (((t.setPair (ESC_RSTK_LO_VALUE n d) (ESC_RSTK_HI_VALUE n d) ((pc + 8) % 2 ^ 40)).set (ESC_SW_DEPTH n) (d + 1)).setPc n a) := by
  unfold callBody
  rw [h]
  dsimp only
  rw [hd, if_neg (Nat.not_le.mpr hroom)]

theorem callBody_full (hfull : 16 ≤ d) : callBody n pc w t = .exc exStack 0 := by
  unfold callBody
  rw [h]
  dsimp only
  rw [hd, if_pos hfull]

end

/-- Settles O24: each instruction's body, on the state its advance gives. -/
theorem calibreControlInstructions : Obligations.CalibreControlInstructions := by
  unfold Obligations.CalibreControlInstructions
  refine ⟨fun s n b a hs h ha => ?_, fun s n pc w hw => ?_, fun s n b a hs h ha hd => ?_, fun s n b a h ha hd => ?_,
    fun s n b hs h d hd => ?_, fun s n b hs h hc => ?_⟩
  · rw [exec_br, State.instr_goes_settle s _ _ _ _ _ _ _ hs h (brBody_aligned ha) (State.ite_setPc_esc ..) (State.ite_setPc_ctrl ..)]
  · exact if_neg (Bool.eq_false_iff.mp hw)
  · have hdepth := State.advanced_get_sw (inSw_depth n.val) s (instrWords 0x29 (wordOf b) 0)
    rw [exec_call, State.instr_goes_settle s _ _ _ _ _ _ _ hs h (callBody_pushes ha hdepth hd)]
    · rw [State.setPc_esc, State.set_esc, State.setPair_esc]
    · rw [State.setPc_ctrl, State.set_ctrl, State.setPair_ctrl]
  · have hdepth := State.advanced_get_sw (inSw_depth n.val) s (instrWords 0x29 (wordOf b) 0)
    rw [exec_call, State.instr_exc s _ _ _ _ _ _ _ _ h (callBody_full ha hdepth hd)]
  · have hdepth := State.advanced_get_sw (inSw_depth n.val) s (instrWords 0x2A (wordOf b) 0)
    rw [exec_ret, State.instr_goes_settle s _ _ _ _ _ _ _ hs h (retBody_pop (hdepth.trans hd))]
    · rw [State.setPc_esc, State.set_esc, State.setPair_esc]
    · rw [State.setPc_ctrl, State.set_ctrl, State.setPair_ctrl]
  · rw [exec_loop, State.instr_goes_settle s _ _ _ _ _ _ _ hs h (loopBody_advanced s _ _ _ hc) (State.loopTo_esc ..) (State.loopTo_ctrl ..)]
    rfl

end Sys2Proof.Machine
end

section
/-! PROOF (O25). Calibre's motion and queued-state instructions: what each does at its issue (R83 to R110). -/
namespace Sys2Proof.Machine

/-! ### What the advance leaves -/

theorem State.advanced_pv (s : State) (n : Nat) (ws : List Nat) : (s.advanced n ws).flag (ESC_SW_PV n) = s.flag (ESC_SW_PV n) := by
  unfold State.flag
  rw [State.advanced_get_sw (⟨rfl, by simp [ESC_SW_PV]⟩ : (ESC_SW_PV n).inSw n)]

theorem State.advanced_set (s : State) (n : Nat) (ws : List Nat) : ((s.advanced n ws).esc n).set = (s.esc n).set := by rw [State.advanced_esc]

theorem State.advanced_lastP2 (s : State) (n : Nat) (ws : List Nat) : ((s.advanced n ws).esc n).lastP2 = (s.esc n).lastP2 := by
  rw [State.advanced_esc]

theorem State.advanced_queueFull {s : State} {n : Nat} (ws : List Nat) (h : (s.esc n).queue.length < 64) :
    (s.advanced n ws).queueFull n = false := by
  unfold State.queueFull
  rw [State.advanced_esc]
  exact decide_eq_false (Nat.not_le.mpr h)

/-- A segment enqueued at a new commanded end point leaves STEP alone. -/
theorem State.enqueue_setPxyz_stepping (t : State) (n : Nat) (g : Seg) (tagged : Bool) (x y z : Int) :
    (((t.enqueue n g tagged).setPxyz n x y z).esc n).stepping = (t.esc n).stepping := by
  rw [State.setPxyz_esc, State.enqueue_stepping]

/-! ### MARK and JUMP -/

/-- The segment of a MARK or JUMP to a target (R83 to R86). -/
def moveSeg (mark : Bool) (w w1 : Nat) (p : Int × Int × Int) (x y z : Int) : Seg :=
  { newSeg (if mark then .mark else .jump) p x y z with
    ns := bit w 54, nw := bit w 53, pw := if bit w 51 then some (bits w1 39 24) else none
    speed := if bit w 50 then some (bits w1 23 0) else none }

/-- What a MARK or JUMP does once its PC has advanced (R84 to R86). -/
def moveBody (n : Nat) (mark : Bool) (w w1 : Nat) (t : State) : Iss :=
  let pv := t.flag (ESC_SW_PV n)
  let sp : Option Nat := if bit w 50 then some (bits w1 23 0) else none
  let e := t.esc n
  if (mark && !pv) || (!mark && (bit w 56 || bit w 55) && !pv) then .exc exOperand 0
  else if mark && sp.getD e.set.vMark == 0 then .exc exOperand 0
  else match t.moveTarget n w w1 with
    | none => .exc exCoord 0
    | some (x, y, z) =>
      if pv && decide ((x, y, z) = t.pxyz n) then .ok t
      else if t.queueFull n then .stall
      else
        let t1 := (t.enqueue n (moveSeg mark w w1 (t.pxyz n) x y z) mark).setPxyz n x y z
        .ok (if !mark && !bit w 56 && !bit w 55 then t1.set (ESC_SW_PV n) 1 else t1)

theorem State.moveInstr_eq (s : State) (n : Nat) (mark : Bool) (b : BitVec 58) (b1 : BitVec 64) : s.moveInstr n mark b b1 =
    s.issue n (instrWords (if mark then 0x01 else 0x02) (wordOf b) b1.toNat) (moveIllegal mark (wordOf b) b1.toNat)
      (moveBody n mark (wordOf b) b1.toNat) := rfl

section
variable {n w w1 : Nat} {t : State} {x y z : Int} (hpv : t.flag (ESC_SW_PV n) = true)
  (htgt : t.moveTarget n w w1 = some (x, y, z)) (hnew : (x, y, z) ≠ t.pxyz n) (hroom : t.queueFull n = false)
include hpv htgt hnew hroom

theorem moveBody_mark (hv : (if bit w 50 then bits w1 23 0 else (t.esc n).set.vMark) ≠ 0) : moveBody n true w w1 t =
    .ok ((t.enqueue n (moveSeg true w w1 (t.pxyz n) x y z) true).setPxyz n x y z) := by
  have hspeed : (true && (if bit w 50 then some (bits w1 23 0) else none : Option Nat).getD (t.esc n).set.vMark == 0) = false := by
    cases h50 : bit w 50 with
    | false =>
      rw [h50, if_neg Bool.false_ne_true] at hv
      exact beq_eq_false_iff_ne.mpr hv
    | true =>
      rw [h50, if_pos rfl] at hv
      exact beq_eq_false_iff_ne.mpr hv
  unfold moveBody
  dsimp only
  rw [hpv, hspeed, htgt, hroom]
  simp only [hnew, decide_false]
  rfl

theorem moveBody_jump : moveBody n false w w1 t =
    (let u := (t.enqueue n (moveSeg false w w1 (t.pxyz n) x y z) false).setPxyz n x y z
     .ok (if !bit w 56 && !bit w 55 then u.set (ESC_SW_PV n) 1 else u)) := by
  unfold moveBody
  dsimp only
  rw [hpv, htgt, hroom]
  simp [hnew]

end

/-! ### Queued state -/

/-- A queued-state instruction whose operands are legal changes the settings of the next segment alone (R75). -/
theorem State.queued_sets {s : State} {n op : Nat} {b : BitVec 58} {illegal operand : Bool} (f : Settings → Settings) (hs : s.restful = true)
    (h : s.goes n (instrWords op (wordOf b) 0) (isLong (wordOf b) || illegal) = true) (hop : operand = false) :
    (s.begin.queued n op b illegal operand f).settle =
      (s.advanced n (instrWords op (wordOf b) 0)).modEsc n fun e => { e with set := f e.set } := by
  unfold State.queued
  rw [hop]
  refine State.instr_goes_rest s _ n op (wordOf b) 0 _ _ hs h (if_neg Bool.false_ne_true) ?_ (State.modEsc_ctrl ..)
  rw [State.modEsc_esc, State.advanced_esc]

/-- What a POWER does once its PC has advanced (R96). -/
def powerBody (n w : Nat) (t : State) : Iss :=
  let v := if bit w 56 then t.g n (bits w 28 24) else bits w 47 32
  if 65536 ≤ v then .exc exOperand 0
  else .ok (t.modEsc n (fun e => { e with set := e.set.withPower v (bits w 23 0) (bits w 55 54) }))

theorem exec_power (n : Unit24) (b : BitVec 58) (s : State) : exec (.power n b) s =
    .next (s.begin.issue n.val (instrWords 0x10 (wordOf b) 0)
      (isLong (wordOf b) || bits (wordOf b) 55 54 == 3 || dirty (wordOf b) 53 48 || dirty (wordOf b) 31 29 ||
        (if bit (wordOf b) 56 then dirty (wordOf b) 47 32 else dirty (wordOf b) 28 24)) (powerBody n.val (wordOf b))).settle := rfl

theorem powerBody_advanced {s : State} {n w v : Nat} (ws : List Nat) (hv : (if bit w 56 then s.g n (bits w 28 24) else bits w 47 32) = v)
    (hlt : v < 65536) : powerBody n w (s.advanced n ws) =
    .ok ((s.advanced n ws).modEsc n fun e => { e with set := e.set.withPower v (bits w 23 0) (bits w 55 54) }) := by
  unfold powerBody
  dsimp only
  rw [State.advanced_g, hv, if_neg (Nat.not_le.mpr hlt)]

theorem exec_speed (n : Unit24) (b : BitVec 58) (s : State) : exec (.speed n b) s =
    .next (s.begin.issue n.val (instrWords 0x11 (wordOf b) 0) (isLong (wordOf b) || dirty (wordOf b) 56 48)
      (fun t => .ok (t.setSpeed n.val (bits (wordOf b) 47 24) (bits (wordOf b) 23 0)))).settle := rfl

theorem State.setSpeed_stepping (t : State) (n vm vj : Nat) : ((t.setSpeed n vm vj).esc n).stepping = (t.esc n).stepping := by
  unfold State.setSpeed
  dsimp only
  split
  · rw [State.set_esc, State.modEsc_esc]
  · rw [State.modEsc_esc]

/-- Speeds within the limits are taken as they are (R99). -/
theorem State.setSpeed_within {t : State} {n vm vj : Nat} (hm : vm ≤ max 1 (t.live (TRJ_VMARK_VMAX n)))
    (hj : vj ≤ max 1 (t.live (TRJ_VJUMP_VMAX n))) (hm0 : vm ≠ 0) (hj0 : vj ≠ 0) : t.setSpeed n vm vj =
    t.modEsc n fun e => { e with set := { e.set with vMark := vm, vJump := vj } } := by
  have hnocut : ¬ (max 1 (t.live (TRJ_VMARK_VMAX n)) < vm ∨ max 1 (t.live (TRJ_VJUMP_VMAX n)) < vj) := by omega
  unfold State.setSpeed
  dsimp only
  rw [if_neg hnocut, Nat.min_eq_left hm, Nat.min_eq_left hj]
  simp only [if_neg hm0, if_neg hj0]

/-! ### ARC, SPLN and DWELL -/

/-- What an ARC does once its PC has advanced (R88, R89). -/
def arcBody (n w w1 : Nat) (t : State) : Iss :=
  let (px, py, pz) := t.pxyz n
  let c0 := if bit w 55 then sgn 32 (t.g n (bits w 28 24)) else pc24 w 47 24
  let d0 := if bit w 55 then sgn 32 (t.g n (bits w 4 0)) else pc24 w 23 0
  let cx := if bit w 56 then px + c0 else c0
  let cy := if bit w 56 then py + d0 else d0
  let sweep := sgn 32 (bits w1 63 32)
  let sp : Option Nat := if bit w 50 then some (bits w1 31 8) else none
  let r2 := (px - cx) * (px - cx) + (py - cy) * (py - cy)
  if !t.flag (ESC_SW_PV n) || sweep == 0 || decide (r2 < 400) || sp.getD (t.esc n).set.vMark == 0 then .exc exOperand 0
  else
    let (qx, qy) := arcEnd px py cx cy sweep
    let ex := roundAway qx
    let ey := roundAway qy
    if !(inPc24 c0 && inPc24 d0 && inPc24 cx && inPc24 cy && arcInside px py cx cy sweep ex ey) then .exc exCoord 0
    else if t.queueFull n then .stall
    else
      let g := { newSeg .arc (px, py, pz) ex ey pz with ax := cx, ay := cy, sweep, ns := bit w 54, nw := bit w 53, speed := sp }
      .ok ((t.enqueue n g true).setPxyz n ex ey pz)

theorem exec_arc (n : Unit24) (b : BitVec 58) (b1 : BitVec 64) (s : State) : exec (.arc n b b1) s =
    .next (s.begin.issue n.val (instrWords 0x03 (wordOf b) b1.toNat) (arcIllegal (wordOf b) b1.toNat)
      (arcBody n.val (wordOf b) b1.toNat)).settle := rfl

/-- The segment of an arc about a centre, and where it ends (R88). -/
def arcSeg (w w1 : Nat) (px py pz cx cy : Int) : Seg :=
  let q := arcEnd px py cx cy (sgn 32 (bits w1 63 32))
  { newSeg .arc (px, py, pz) (roundAway q.1) (roundAway q.2) pz with
    ax := cx, ay := cy, sweep := sgn 32 (bits w1 63 32), ns := bit w 54, nw := bit w 53
    speed := if bit w 50 then some (bits w1 31 8) else none }

theorem arcBody_enqueues {n w w1 : Nat} {t : State} {px py pz c0 d0 cx cy : Int} (hpv : t.flag (ESC_SW_PV n) = true)
    (hp : t.pxyz n = (px, py, pz)) (hc0 : c0 = if bit w 55 then sgn 32 (t.g n (bits w 28 24)) else pc24 w 47 24)
    (hd0 : d0 = if bit w 55 then sgn 32 (t.g n (bits w 4 0)) else pc24 w 23 0) (hcx : cx = if bit w 56 then px + c0 else c0)
    (hcy : cy = if bit w 56 then py + d0 else d0) (hsweep : sgn 32 (bits w1 63 32) ≠ 0)
    (hr : 400 ≤ (px - cx) * (px - cx) + (py - cy) * (py - cy))
    (hv : (if bit w 50 then some (bits w1 31 8) else none : Option Nat).getD (t.esc n).set.vMark ≠ 0) (hroom : t.queueFull n = false)
    (hin : (inPc24 c0 && inPc24 d0 && inPc24 cx && inPc24 cy && arcInside px py cx cy (sgn 32 (bits w1 63 32))
      (roundAway (arcEnd px py cx cy (sgn 32 (bits w1 63 32))).1) (roundAway (arcEnd px py cx cy (sgn 32 (bits w1 63 32))).2)) = true) :
    arcBody n w w1 t = .ok ((t.enqueue n (arcSeg w w1 px py pz cx cy) true).setPxyz n
      (roundAway (arcEnd px py cx cy (sgn 32 (bits w1 63 32))).1) (roundAway (arcEnd px py cx cy (sgn 32 (bits w1 63 32))).2) pz) := by
  have hlegal : ¬ (!t.flag (ESC_SW_PV n) || sgn 32 (bits w1 63 32) == 0 ||
      decide ((px - cx) * (px - cx) + (py - cy) * (py - cy) < 400) ||
      (if bit w 50 then some (bits w1 31 8) else none : Option Nat).getD (t.esc n).set.vMark == 0) = true := by
    rw [hpv, beq_eq_false_iff_ne.mpr hsweep, decide_eq_false (Int.not_lt.mpr hr), beq_eq_false_iff_ne.mpr hv]
    decide
  unfold arcBody
  rw [hp]
  dsimp only
  rw [← hc0, ← hd0, ← hcx, ← hcy, if_neg hlegal, hin, hroom]
  rfl

/-- What a SPLN does once its PC has advanced (R90 to R92). -/
def splnBody (n w w1 : Nat) (t : State) : Iss :=
  let (px, py, pz) := t.pxyz n
  let rel := bit w 56
  let e := t.esc n
  let ax (v : Int) : Int := if rel then px + v else v
  let ay (v : Int) : Int := if rel then py + v else v
  let (p1x, p1y) : Int × Int :=
    if bit w 55 then (match e.lastP2 with | some (x, y) => (2 * px - x, 2 * py - y) | none => (px, py))
    else (ax (sgn 32 (t.g n (bits w1 15 11))), ay (sgn 32 (t.g n (bits w1 10 6))))
  let p2x := ax (pc24 w1 63 40)
  let p2y := ay (pc24 w1 39 16)
  let p3x := ax (pc24 w 47 24)
  let p3y := ay (pc24 w 23 0)
  if !t.flag (ESC_SW_PV n) || e.set.vMark == 0 then .exc exOperand 0
  else if !(inPc24 p1x && inPc24 p1y && inPc24 p2x && inPc24 p2y && inPc24 p3x && inPc24 p3y) then .exc exCoord 0
  else if t.queueFull n then .stall
  else
    let g := { newSeg .spln (px, py, pz) p3x p3y pz with
      ax := p1x, ay := p1y, bx := p2x, by_ := p2y, ns := bit w 54, nw := bit w 53 }
    .ok ((t.enqueue n g true).setPxyz n p3x p3y pz)

theorem exec_spln (n : Unit24) (b : BitVec 58) (b1 : BitVec 64) (s : State) : exec (.spln n b b1) s =
    .next (s.begin.issue n.val (instrWords 0x04 (wordOf b) b1.toNat) (splnIllegal (wordOf b) b1.toNat)
      (splnBody n.val (wordOf b) b1.toNat)).settle := rfl

/-- The segment of a spline with its first control point (R90). -/
def splnSeg (w w1 : Nat) (px py pz ox oy p1x p1y : Int) : Seg :=
  { newSeg .spln (px, py, pz) (ox + pc24 w 47 24) (oy + pc24 w 23 0) pz with
    ax := p1x, ay := p1y, bx := ox + pc24 w1 63 40, by_ := oy + pc24 w1 39 16, ns := bit w 54, nw := bit w 53 }

/-- A coordinate that REL counts from the commanded end point. -/
theorem ite_add_origin {c : Bool} {p o : Int} (v : Int) (ho : o = if c then p else 0) : (if c then p + v else v) = o + v := by
  cases c with
  | false => rw [ho, if_neg Bool.false_ne_true, if_neg Bool.false_ne_true, Int.zero_add]
  | true => rw [ho, if_pos rfl, if_pos rfl]

theorem splnBody_enqueues {n w w1 : Nat} {t : State} {px py pz ox oy p1x p1y : Int} (hpv : t.flag (ESC_SW_PV n) = true)
    (hp : t.pxyz n = (px, py, pz)) (hox : ox = if bit w 56 then px else 0) (hoy : oy = if bit w 56 then py else 0)
    (hp1 : (bit w 55 = true ∧ ∃ x y, (t.esc n).lastP2 = some (x, y) ∧ p1x = 2 * px - x ∧ p1y = 2 * py - y) ∨
      (bit w 55 = true ∧ (t.esc n).lastP2 = none ∧ p1x = px ∧ p1y = py) ∨
      (bit w 55 = false ∧ p1x = ox + sgn 32 (t.g n (bits w1 15 11)) ∧ p1y = oy + sgn 32 (t.g n (bits w1 10 6))))
    (hv : (t.esc n).set.vMark ≠ 0) (hroom : t.queueFull n = false)
    (hin : (inPc24 p1x && inPc24 p1y && inPc24 (ox + pc24 w1 63 40) && inPc24 (oy + pc24 w1 39 16) && inPc24 (ox + pc24 w 47 24) &&
      inPc24 (oy + pc24 w 23 0)) = true) : splnBody n w w1 t =
    .ok ((t.enqueue n (splnSeg w w1 px py pz ox oy p1x p1y) true).setPxyz n (ox + pc24 w 47 24) (oy + pc24 w 23 0) pz) := by
  have hfirst : (if bit w 55 then (match (t.esc n).lastP2 with | some (x, y) => (2 * px - x, 2 * py - y) | none => (px, py))
      else (ox + sgn 32 (t.g n (bits w1 15 11)), oy + sgn 32 (t.g n (bits w1 10 6))) : Int × Int) = (p1x, p1y) := by
    rcases hp1 with ⟨hc, x, y, hl, hx, hy⟩ | ⟨hc, hl, hx, hy⟩ | ⟨hc, hx, hy⟩
    · rw [if_pos hc, hl, hx, hy]
    · rw [if_pos hc, hl, hx, hy]
    · rw [if_neg (Bool.eq_false_iff.mp hc), hx, hy]
  have hlegal : ¬ (!t.flag (ESC_SW_PV n) || (t.esc n).set.vMark == 0) = true := by
    rw [hpv, beq_eq_false_iff_ne.mpr hv]
    decide
  unfold splnBody
  rw [hp]
  dsimp only
  simp only [ite_add_origin _ hox, ite_add_origin _ hoy]
  rw [hfirst]
  dsimp only
  rw [if_neg hlegal, hin, hroom]
  rfl

/-- What a DWELL does once its PC has advanced (R93). -/
def dwellBody (n w w1 : Nat) (t : State) : Iss :=
  let k := if isLong w then bits w1 47 0 else bits w 23 0
  if !t.flag (ESC_SW_PV n) then .exc exOperand 0
  else if k = 0 then .ok t
  else if t.queueFull n then .stall
  else
    let p := t.pxyz n
    .ok (t.enqueue n { newSeg (.dwell (bit w 56)) p p.1 p.2.1 p.2.2 with beats := k } true)

theorem exec_dwell (n : Unit24) (b : BitVec 58) (b1 : BitVec 64) (s : State) : exec (.dwell n b b1) s =
    .next (s.begin.issue n.val (instrWords 0x05 (wordOf b) b1.toNat)
      (dirty (wordOf b) 55 24 || (isLong (wordOf b) && (dirty (wordOf b) 23 0 || dirty b1.toNat 63 48)))
      (dwellBody n.val (wordOf b) b1.toNat)).settle := rfl

theorem dwellBody_enqueues {n w w1 k : Nat} {t : State} (hk : k = if isLong w then bits w1 47 0 else bits w 23 0)
    (hpv : t.flag (ESC_SW_PV n) = true) (hk0 : k ≠ 0) (hroom : t.queueFull n = false) : dwellBody n w w1 t =
    .ok (t.enqueue n { newSeg (.dwell (bit w 56)) (t.pxyz n) (t.pxyz n).1 (t.pxyz n).2.1 (t.pxyz n).2.2 with beats := k } true) := by
  unfold dwellBody
  dsimp only
  rw [← hk, hpv, if_neg (by decide), if_neg hk0, hroom]
  rfl

/-! ### YIELD -/

theorem exec_yield (n : Unit24) (b : BitVec 58) (s : State) : exec (.yield n b) s =
    .next (s.begin.issue n.val (instrWords 0x1D (wordOf b) 0)
      (isLong (wordOf b) || dirty (wordOf b) 55 48 || dirty (wordOf b) 35 0 || (bit (wordOf b) 56 && bits (wordOf b) 47 36 != 0))
      (fun t => t.yieldIss n.val (bit (wordOf b) 56) (bits (wordOf b) 47 36))).settle := rfl

/-- A zone of one's own leaves with the last segment enqueued (R106). -/
theorem State.yieldIss_own {t : State} {n z : Nat} (hdef : t.zoneDefined z n = true) (hdry : t.dry = false) (hown : t.zoneOwner z = some n) :
    t.yieldIss n false z = .ok (t.yieldZones n [z]) := by
  unfold State.yieldIss
  rw [if_neg Bool.false_ne_true, hdef, if_neg (by decide), hdry, if_neg Bool.false_ne_true, if_pos hown]

theorem State.yieldZones_stepping (t : State) (n : Nat) (zs : List Nat) : ((t.yieldZones n zs).esc n).stepping = (t.esc n).stepping := by
  unfold State.yieldZones
  dsimp only
  split
  · rw [State.setEsc_same]
  · rfl

/-- Settles O25: each instruction's body, on the state its advance gives. -/
theorem calibreMotionInstructions : Obligations.CalibreMotionInstructions := by
  unfold Obligations.CalibreMotionInstructions
  refine ⟨fun s n b w1 x y z h hpv hv htgt hnew hq => ?_, fun s n b w1 x y z h hpv htgt hnew hq => ?_, fun s n b hs h hangle => ?_,
    fun s n b hs h hop => ?_, fun s n b hs h => ?_, fun s n b hs h => ?_, fun s n b hs h => ?_, fun s n b hs h hv => ?_,
    fun s n b w1 px py pz c0 d0 cx cy h hpv hp hc0 hd0 hcx hcy hsweep hr hv hq hin => ?_,
    fun s n b w1 px py pz ox oy p1x p1y h hpv hp hox hoy hp1 hv hq hin => ?_, fun s n b w1 k h hk hpv hk0 hq => ?_,
    fun s n b hs h => ?_, fun t n vm vj hm hj hm0 hj0 => ?_, fun s n b hs h hall hdef hdry hown => ?_⟩
  · have hbody := moveBody_mark ((State.advanced_pv ..).trans hpv) htgt hnew (State.advanced_queueFull _ hq)
      (by rw [State.advanced_set]; exact hv)
    refine State.next_settle ((State.moveInstr_eq ..).trans (State.instr_goes s _ _ _ _ _ _ _ h hbody ?_))
    rw [State.enqueue_setPxyz_stepping, State.advanced_stepping]
  · have hbody := moveBody_jump ((State.advanced_pv ..).trans hpv) htgt hnew (State.advanced_queueFull _ hq)
    refine State.next_settle ((State.moveInstr_eq ..).trans (State.instr_goes s _ _ _ _ _ _ _ h hbody ?_))
    dsimp only
    split
    · rw [State.set_esc]
      exact (State.enqueue_setPxyz_stepping ..).trans (State.advanced_stepping ..)
    · exact (State.enqueue_setPxyz_stepping ..).trans (State.advanced_stepping ..)
  · exact congrArg Host.Outcome.next (State.queued_sets _ hs h (decide_eq_false (Nat.not_lt.mpr hangle)))
  · refine congrArg Host.Outcome.next (State.queued_sets _ hs h ?_)
    rcases hop with h0 | ⟨ham, hfr, hle⟩
    · rw [h0]
      rfl
    · rw [beq_eq_false_iff_ne.mpr ham, beq_eq_false_iff_ne.mpr hfr, decide_eq_false (Nat.not_lt.mpr hle)]
      exact Bool.and_false _
  · exact congrArg Host.Outcome.next (State.queued_sets _ hs h rfl)
  · exact congrArg Host.Outcome.next (State.queued_sets _ hs h rfl)
  · exact congrArg Host.Outcome.next (State.queued_sets _ hs h rfl)
  · rw [exec_power, State.instr_goes_rest s _ _ _ _ _ _ _ hs h (powerBody_advanced _ rfl hv)]
    · rw [State.modEsc_esc, State.advanced_esc]
    · exact State.modEsc_ctrl ..
  · have hbody := arcBody_enqueues ((State.advanced_pv ..).trans hpv) hp (by rw [State.advanced_g]; exact hc0)
      (by rw [State.advanced_g]; exact hd0) hcx hcy hsweep hr (by rw [State.advanced_set]; exact hv) (State.advanced_queueFull _ hq) hin
    rw [exec_arc, State.instr_goes s _ _ _ _ _ _ _ h hbody]
    · rfl
    · rw [State.enqueue_setPxyz_stepping, State.advanced_stepping]
  · have hbody := splnBody_enqueues ((State.advanced_pv ..).trans hpv) hp hox hoy (by rw [State.advanced_lastP2, State.advanced_g, State.advanced_g]; exact hp1)
      (by rw [State.advanced_set]; exact hv) (State.advanced_queueFull _ hq) hin
    rw [exec_spln, State.instr_goes s _ _ _ _ _ _ _ h hbody]
    · rfl
    · rw [State.enqueue_setPxyz_stepping, State.advanced_stepping]
  · rw [exec_dwell, State.instr_goes s _ _ _ _ _ _ _ h (dwellBody_enqueues hk ((State.advanced_pv ..).trans hpv) hk0 (State.advanced_queueFull _ hq))]
    rw [State.enqueue_stepping, State.advanced_stepping]
  · rw [exec_speed, State.instr_goes_rest s ((s.advanced n.val (instrWords 0x11 (wordOf b) 0)).setSpeed n.val (bits (wordOf b) 47 24)
      (bits (wordOf b) 23 0)) n.val 0x11 (wordOf b) 0 _ _ hs h rfl ((State.setSpeed_stepping ..).trans (State.advanced_stepping ..))
      (State.setSpeed_ctrl ..)]
  · exact State.setSpeed_within hm hj hm0 hj0
  · have hbody := State.yieldIss_own hdef hdry hown
    rw [exec_yield, hall, State.instr_goes_rest s _ _ _ _ _ _ _ hs (hall ▸ h) hbody
      ((State.yieldZones_stepping ..).trans (State.advanced_stepping ..)) (State.yieldZones_ctrl ..)]

end Sys2Proof.Machine
end

section
/-! PROOF (O26). Calibre's wait instructions: their issue, and how their waits end (R102 to R107, R115, R116, R289). -/
namespace Sys2Proof.Machine

/-! ### Entering a wait -/

theorem State.setEscState_wait_esc (t : State) (n : Nat) : (t.setEscState n 4).esc n = t.esc n := by
  unfold State.setEscState
  dsimp only
  rw [if_neg (by decide), State.set_esc, State.set_esc, State.set_esc]

theorem State.issueWait_stepping (t : State) (n pc w0 len : Nat) (k : WaitKind) :
    ((t.issueWait n pc w0 len k).esc n).stepping = (t.esc n).stepping := by
  unfold State.issueWait
  rw [State.setEscState_wait_esc, State.modEsc_esc, State.setPc_esc]

/-- A wait instruction that its check admits stands at its own PC, waiting. -/
theorem State.waitInstr_enters {s : State} {n op w1 : Nat} {b : BitVec 58} {illegal : Bool} {check : State → Option Nat}
    (k : WaitKind) (hs : s.restful = true) (h : s.goes n (instrWords op (wordOf b) w1) illegal = true)
    (hcheck : check (s.advanced n (instrWords op (wordOf b) w1)) = none) : (s.begin.waitInstr n op b w1 illegal check k).settle =
    (s.advanced n (instrWords op (wordOf b) w1)).issueWait n (s.pc n) (fullWord op (wordOf b)) (wordLen (wordOf b)) k := by
  unfold State.waitInstr
  refine State.instr_goes_rest s _ n op (wordOf b) w1 _ _ hs h ?_
    ((State.issueWait_stepping ..).trans (State.advanced_stepping ..)) (State.issueWait_ctrl ..)
  rw [hcheck]
  rfl

theorem trapBody_waits {n w : Nat} (t : State) (pc : Nat) (hw : bit w 56 = false) :
    trapBody n pc w t = .ok (t.issueWait n pc (fullWord 0x2D w) 8 (.trap (bits w 15 0))) := by
  unfold trapBody
  rw [hw, if_neg Bool.false_ne_true]

/-! ### The end of a wait -/

section
variable {s : State} {n : Unit24} {w : Wait} (hwait : (s.esc n.val).wait = some w) (hdrained : w.drained = true)
  (hstate : s.escState n.val = 4)
include hwait hdrained hstate

theorem exec_waittEnd {a : Bool} {k : Nat} (hkind : w.kind = .waitt a k) (hdue : if a then k ≤ s.lbeat else w.since + k ≤ s.beat) :
    exec (.waittEnd n) s = .next (s.begin.endWait n.val).settle := by
  have hwait' : (s.begin.esc n.val).wait = some w := hwait
  have hdue' : (if a then decide (k ≤ s.begin.lbeat) else decide (w.since + k ≤ s.begin.beat)) = true := by
    cases a with
    | false => exact decide_eq_true hdue
    | true => exact decide_eq_true hdue
  have hstate' : s.begin.escState n.val = 4 := hstate
  unfold exec execWaittEnd
  dsimp only
  rw [hwait']
  dsimp only
  rw [hkind]
  dsimp only
  rw [hdrained, hstate', hdue']
  rfl

theorem exec_awaitTimeout {a c : Bool} {m k : Nat} (hkind : w.kind = .await a c m k) (hk : k ≠ 0) (hdue : w.since + k ≤ s.beat) :
    exec (.awaitTimeout n) s = .next ((s.begin.set (ESC_SW_TO n.val) 1).endWait n.val).settle := by
  have hwait' : (s.begin.esc n.val).wait = some w := hwait
  have hdue' : decide (w.since + k ≤ s.begin.beat) = true := decide_eq_true hdue
  have hstate' : s.begin.escState n.val = 4 := hstate
  unfold exec execAwaitTimeout
  dsimp only
  rw [hwait']
  dsimp only
  rw [hkind]
  dsimp only
  rw [hdrained, hstate', hdue', bne_iff_ne.mpr hk]
  rfl

theorem exec_claimTimeout {z k : Nat} (hkind : w.kind = .claim true z k) (hk : k ≠ 0) (hdue : w.since + k ≤ s.beat) :
    exec (.claimTimeout n) s =
      .next ((((s.begin.leaveClaims n.val).set (ESC_SW_GR n.val) 0).set (ESC_SW_TO n.val) 1).endWait n.val).settle := by
  have hwait' : (s.begin.esc n.val).wait = some w := hwait
  have hdue' : decide (w.since + k ≤ s.begin.beat) = true := decide_eq_true hdue
  have hstate' : s.begin.escState n.val = 4 := hstate
  unfold exec execClaimTimeout
  dsimp only
  rw [hwait']
  dsimp only
  rw [hkind]
  dsimp only
  rw [hdrained, hstate', hdue', bne_iff_ne.mpr hk]
  rfl

end

/-- An escapement that has halted: HALTED with cause 0x00 and its code, the PC after the HALT, its zones released (R162, R291). -/
def State.haltedAt (s : State) (n : Nat) (w : Wait) (code : Nat) : State :=
  let u := (((s.modEsc n (fun e =>
    { e with wait := none, stepping := false, layerDone := true, haltAt := s.beat })).set (ESC_TRAP_CAUSE n) 0).set (ESC_TRAP_CODE n)
    code).setPc n (w.pc + w.len)
  (((u.set (ESC_INT_HALT n) 1).setEscState n 5).releaseZones n).escLine n

theorem exec_haltComplete {s : State} {n : Unit24} {w : Wait} {c : Nat} (hwait : (s.esc n.val).wait = some w)
    (hkind : w.kind = .halt c) (hdrained : w.drained = true) (hstate : s.escState n.val = 4) (hstores : (s.esc n.val).stores = []) :
    exec (.haltComplete n) s = .next (s.begin.haltedAt n.val w c).settle := by
  have hwait' : (s.begin.esc n.val).wait = some w := hwait
  have hstate' : s.begin.escState n.val = 4 := hstate
  have hstores' : (s.begin.esc n.val).stores.isEmpty = true := by
    rw [show (s.begin.esc n.val).stores = [] from hstores]
    rfl
  unfold exec execHaltComplete
  dsimp only
  rw [hwait']
  dsimp only
  rw [hkind]
  dsimp only
  rw [hdrained, hstate', hstores']
  rfl

/-- Settles O26: each wait is entered at the state the advance gives, and ends where its own condition stands. -/
theorem calibreWaitInstructions : Obligations.CalibreWaitInstructions := by
  unfold Obligations.CalibreWaitInstructions
  refine ⟨fun s n b w1 hs h => ?_, fun s n b hs h hmember => ?_, fun s n b w1 hs h hmask => ?_, fun s n b hs h hzone => ?_,
    fun s n b hs h hpv hpool => ?_, fun s n b hs h => ?_, fun s n b hs h hw => ?_, fun s n w a k hs hwait hkind hdr hst hdue => ?_,
    fun s n w a c m k hs hwait hkind hdr hst hk hdue => ?_, fun s n w z k hs hwait hkind hdr hst hk hdue => ?_,
    fun s n w c hwait hkind hdr hst hstores => ?_⟩
  · exact congrArg Host.Outcome.next (State.waitInstr_enters _ hs h rfl)
  · exact congrArg Host.Outcome.next (State.waitInstr_enters _ hs h (if_pos hmember))
  · exact congrArg Host.Outcome.next (State.waitInstr_enters _ hs h (if_neg hmask))
  · exact congrArg Host.Outcome.next (State.waitInstr_enters _ hs h (if_pos hzone))
  · refine congrArg Host.Outcome.next (State.waitInstr_enters _ hs h ?_)
    rw [hpv]
    exact if_pos hpool
  · exact congrArg Host.Outcome.next (State.waitInstr_enters _ hs h rfl)
  · rw [exec_trap, State.instr_goes_rest s _ _ _ _ _ _ _ hs h (trapBody_waits _ _ hw)
      ((State.issueWait_stepping ..).trans (State.advanced_stepping ..)) (State.issueWait_ctrl ..)]
  · rw [exec_waittEnd hwait hdr hst hkind hdue]
    exact State.next_of_rest hs rfl (State.endWait_ctrl ..)
  · rw [exec_awaitTimeout hwait hdr hst hkind hk hdue]
    exact State.next_of_rest hs rfl ((State.endWait_ctrl ..).trans (State.set_ctrl ..))
  · rw [exec_claimTimeout hwait hdr hst hkind hk hdue]
    refine State.next_of_rest hs rfl ?_
    rw [State.endWait_ctrl, State.set_ctrl, State.set_ctrl, State.leaveClaims_ctrl]
  · exact exec_haltComplete hwait hkind hdr hst hstores

end Sys2Proof.Machine
end

section
/-! PROOF (O27, O28). The calibration commands and the end of Load (R513 to R527). -/
namespace Sys2Proof.Machine

/-! ### The calibrator's operations -/

section
variable {s : State} (hlive : s.calLive = true)
include hlive

theorem State.rextMeasure_good : s.rextMeasure false = ({ s with cal := { s.cal with rextBad := 0 } } : State).lower 6 := by
  unfold State.rextMeasure
  rw [hlive]
  rfl

/-- The third bad measurement in a row, or a later one, reports (R513). -/
theorem State.rextMeasure_third_bad (hbad : 2 ≤ s.cal.rextBad) :
    s.rextMeasure true = (({ s with cal := { s.cal with rextBad := 3 } } : State).set CAL_STAT_REXTERR 1).raise 6 := by
  have hmin : min (s.cal.rextBad + 1) 3 = 3 := Nat.min_eq_right (by omega)
  unfold State.rextMeasure
  dsimp only
  rw [hlive, hmin, if_neg (by decide), if_pos rfl]
  exact if_pos (Nat.succ_le_succ hbad)

theorem State.calStart_first {k u : Nat} (hidle : s.cal.running = none) (htrans : s.mode.trans = none)
    (hfirst : firstStep (s.modeCode == mExpose) ((s.calGap.calPass.cal.pass.getD []).filter fun c =>
      s.calGap.calPass.stepAllowed c.1 c.2 && !s.calGap.calPass.cal.tried.contains c) = some (k, u)) :
    s.calStart = ((({ s.calGap.calPass with cal := { s.calGap.calPass.cal with
      running := some (k, u, s.beat), tried := s.calGap.calPass.cal.tried ++ [(k, u)] } } : State).set CAL_STAT_BUSY 1).set
      CAL_STAT_UNIT u).set CAL_SEQ_KIND k := by
  unfold State.calStart
  dsimp only
  rw [hlive, hidle, htrans, if_neg (by decide), hfirst]

theorem State.calTimeout_due {k u b : Nat} (hrun : s.cal.running = some (k, u, b))
    (hdue : b + max 1 (s.get CAL_CTL_TOMUL) * stepBeats_ k < s.beat) : s.calTimeout = s.calOver.incSat CAL_CNT_TIMEOUT := by
  unfold State.calTimeout
  rw [hrun]
  dsimp only
  rw [hlive, decide_eq_true hdue]
  rfl

theorem State.trimSave_starts (hfree : s.cal.save = none) : s.trimSave =
    if s.get CAL_NVLOC_BANKA = s.get CAL_NVLOC_BANKB then s.set CAL_STAT_CFGERR 1
    else ({ s with cal := { s.cal with save := some ((s.get CAL_GEN_GEN + 1) % 2 ^ 32, s.trimRecord ((s.get CAL_GEN_GEN + 1) % 2 ^ 32)) } } :
      State).set CAL_STAT_SAVING 1 := by
  unfold State.trimSave
  rw [hlive, hfree]
  exact if_neg Bool.false_ne_true

/-- The trim codes of a step's result, in the order of R514. -/
def State.setStepTrims (s : State) (k u : Nat) (codes : List Int) : State :=
  ((stepTrims k u).zip codes).foldl (fun t p => t.setTrim p.1 p.2.toNat) s

/-- A step's codes in range are set; with steps left, the pass goes on (R520). -/
theorem State.calComplete_left {k u b : Nat} {codes : List Int} (hrun : s.cal.running = some (k, u, b)) (hk : k ≠ 3)
    (hlen : codes.length = (stepTrims k u).length) (hrange : (codes.any fun c => decide (c < 0) || decide (255 < c)) = false)
    (hleft : (((s.setStepTrims k u codes).cal.pass.getD []).filter fun c => c != (k, u)).isEmpty = false) : s.calComplete codes =
    ({ s.setStepTrims k u codes with cal := { (s.setStepTrims k u codes).cal with
      pass := some (((s.setStepTrims k u codes).cal.pass.getD []).filter fun c => c != (k, u)) } } : State).calOver.incSat CAL_CNT_DONE := by
  have hform : ¬ (!s.calLive || codes.length != (stepTrims k u).length) = true := by
    rw [hlive, hlen, bne_self_eq_false]
    decide
  unfold State.calComplete
  rw [hrun]
  dsimp only
  rw [if_neg hk, if_neg hk, if_neg hk]
  dsimp only
  rw [if_neg hform, hrange, if_neg Bool.false_ne_true]
  exact if_neg (Bool.eq_false_iff.mp hleft)

/-- A save ends: copy A is written, then copy B, and the generation is set where one of them holds (R522, R523). -/
theorem State.trimSaveDone_writes {g : Nat} {r : List Byte} (va vb : Bool) (hsave : s.cal.save = some (g, r)) : s.trimSaveDone va vb =
    (let p := (({ s with cal := { s.cal with save := none } } : State).set CAL_STAT_SAVING 0).trimCopy false va r
     let q := p.1.trimCopy true vb r
     if p.2 || q.2 then q.1.set CAL_GEN_GEN g else q.1) := by
  unfold State.trimSaveDone
  rw [hsave]
  dsimp only
  rw [hlive]
  rfl

theorem State.calRestart_live : s.calRestart = { s with cal := { s.cal with
    pass := some (passOf (s.get CAL_SEQ_MASK)), tried := [], gap := s.mode.since, ended := false } } := by
  unfold State.calRestart
  rw [hlive]
  rfl

end

/-- Settles O27: each command is one operation of the calibrator, in the case the statement names. -/
theorem calibrationCommands : Obligations.CalibrationCommands := by
  unfold Obligations.CalibrationCommands
  refine ⟨fun s hs hlive => ?_, fun s hlive hbad => ?_, fun s k u hs hlive hidle htrans hfirst => ?_,
    fun s k u b codes hlive hrun hk hlen hrange hleft => ?_, fun s k u b hs hlive hrun hdue => ?_, fun s hs hlive hfree => ?_,
    fun s g r va vb hlive hsave => ?_, fun s hs hlive => ?_⟩
  · exact State.next_of_rest hs (State.rextMeasure_good (s := s.begin) hlive) (State.lower_ctrl ..)
  · exact State.next_settle (State.rextMeasure_third_bad (s := s.begin) hlive hbad)
  · exact State.next_of_ctrl hs (State.calStart_ctrl ..) (State.calStart_first (s := s.begin) hlive hidle htrans hfirst)
  · exact State.next_settle (State.calComplete_left (s := s.begin) hlive hrun hk hlen hrange hleft)
  · exact State.next_of_ctrl hs (State.calTimeout_ctrl ..) (State.calTimeout_due (s := s.begin) hlive hrun hdue)
  · exact State.next_of_ctrl hs (State.trimSave_ctrl ..) (State.trimSave_starts (s := s.begin) hlive hfree)
  · exact State.next_settle (State.trimSaveDone_writes (s := s.begin) hlive va vb hsave)
  · exact State.next_of_ctrl hs (State.calRestart_ctrl ..) (State.calRestart_live (s := s.begin) hlive)

/-! ### The end of Load -/

/-- Load commits on a state whose watchdog option is clear and whose trims were found (R524). -/
theorem State.commitLoad_found {s t u v : State} {sev : Nat} (hload : s.rst.phase = .loading)
    (ht : t = if 2 ≤ s.rst.reach then s.trimCommit.chrUsable.incWrap NV_PWRCYC_COUNT else s.trimCommit.chrUsable)
    (hwdt : t.flag SYS_OPT_WDTON = false)
    (hu : u = (({ t with
      rst := { t.rst with phase := .off, ballsIn := true, ballsFree := 0 }
      host := { t.host with boot := .rom, copy := 1, image := none, coresRun := 1 } } : State).enterMode 1 0 0xFF).emit
      (.coreStart 0 0x20000F0000 0))
    (hsev : (if s.rst.reach = 3 then 3 else 2) = sev)
    (hv : v = (u.record 0x0202 sev (u.peekReg 0x2000000208) (u.get CHR_TSET_RESET) false false false []).assertActive)
    (hfound : v.cal.missing = false) : s.commitLoad = v := by
  unfold State.commitLoad
  rw [if_neg (not_not_intro hload)]
  dsimp only
  rw [← ht, hwdt, if_neg Bool.false_ne_true, ← hu, hsev, ← hv, hfound]
  exact if_neg Bool.false_ne_true

/-- Settles O28: the commit of Load, for a reset that was no power-on and for one from the supplies. -/
theorem loadCommit : Obligations.LoadCommit := by
  unfold Obligations.LoadCommit
  refine ⟨fun s t u hload hreach ht hwdt hu v hv hfound => ?_, fun s t u hload hreach ht hwdt hu v hv hfound => ?_⟩
  · have hlow : ¬ 2 ≤ s.begin.rst.reach := Nat.not_le.mpr hreach
    have hne : s.begin.rst.reach ≠ 3 := by
      have := hreach
      change s.rst.reach ≠ 3
      omega
    exact State.next_settle (State.commitLoad_found (s := s.begin) hload (ht.trans (if_neg hlow).symm) hwdt hu (if_neg hne) hv hfound)
  · have hhigh : 2 ≤ s.begin.rst.reach := by
      change 2 ≤ s.rst.reach
      omega
    exact State.next_settle (State.commitLoad_found (s := s.begin) hload (ht.trans (if_pos hhigh).symm) hwdt hu (if_pos hreach) hv hfound)

end Sys2Proof.Machine
end

section
/-! PROOF (O29). The ports of the Skeuz fabric: training, loss, replay, IDLE and HELLO (R404 to R411). -/
namespace Sys2Proof.Machine

/-! ### What a flit's arrival does at its receiver (R407) -/

theorem State.fecCount_skp (s : State) (p k : Nat) (h : LinkHead) : (s.fecCount p h).skp k = s.skp k := by
  unfold State.fecCount
  split
  · exact (State.set_skp ..).trans (State.set_skp ..)
  · rfl

theorem State.fecCount_skLive (s : State) (p : Nat) (h : LinkHead) : (s.fecCount p h).skLive = s.skLive := by
  unfold State.fecCount
  split
  · rfl
  · rfl

theorem State.addSat_portUp (s : State) (f : Fld) (n : Nat) {p : Nat} (hf : (SKZ_PSTAT_STATE p).key ≠ f.key) :
    (s.addSat f n).portUp p = s.portUp p := by
  unfold State.portUp State.addSat
  rw [State.get_set_ne _ _ _ _ hf]

theorem State.fecCount_portUp (s : State) (p : Nat) (h : LinkHead) : (s.fecCount p h).portUp p = s.portUp p := by
  unfold State.fecCount
  split
  · rw [State.addSat_portUp _ _ _ (by simp only [Fld.key, SKZ_PSTAT_STATE, SKZ_PFEC_UNCORR]; omega),
      State.addSat_portUp _ _ _ (by simp only [Fld.key, SKZ_PSTAT_STATE, SKZ_PFEC_CORR]; omega)]
  · rfl

/-- What leaves by a port changes nothing of the flits that came by it. -/
theorem State.skPump_rxSeq (s : State) (p : Nat) : ((s.skPump p).skp p).rxSeq = (s.skp p).rxSeq := by
  unfold State.skPump
  dsimp only
  rw [State.foldl_keeps (fun u => (u.skp p).rxSeq) _ ?_ _ _, State.setSkp_same]
  intro u f
  split
  · unfold State.sendFlit
    rw [State.emit_skp, State.setSkp_same]
  · rw [State.setSkp_same]

/-- A flit received passes its CRC, and the next number of its link is as it was. -/
theorem State.skArrive_spec {s : State} {p : Nat} {h : LinkHead} (hrec : s.receives p h = true) :
    (s.skArrive p h).2 = true ∧ ((s.skArrive p h).1.skp p).rxSeq = (s.skp p).rxSeq := by
  unfold State.receives at hrec
  obtain ⟨hlink, hcrc⟩ := Bool.and_eq_true_iff.mp hrec
  obtain ⟨hlive, hup⟩ := Bool.and_eq_true_iff.mp hlink
  have hrx : ((s.fecCount p h).skp p).rxSeq = (s.skp p).rxSeq := congrArg SkPort.rxSeq (State.fecCount_skp ..)
  unfold State.skArrive
  dsimp only
  rw [hup, hlive]
  simp only [Bool.and_self, if_true, State.fecCount_portUp, State.fecCount_skLive, hup, hlive, hcrc]
  rw [Bool.not_true, Bool.or_self, if_neg Bool.false_ne_true, if_neg Bool.false_ne_true]
  split
  · refine ⟨rfl, ?_⟩
    dsimp only
    rw [State.skPump_rxSeq, State.setSkp_same]
    exact hrx
  · exact ⟨rfl, hrx⟩

theorem State.skArrive_received {s t : State} {p : Nat} {h : LinkHead} (hrec : s.receives p h = true) (ht : t = (s.skArrive p h).1) :
    s.skArrive p h = (t, true) := Prod.ext ht.symm (State.skArrive_spec hrec).1

theorem State.skAccept_taken {s t : State} {p cls : Nat} {h : LinkHead} (htake : s.takes p h = true) (ht : t = (s.skAccept p h cls).1) :
    s.skAccept p h cls = (t, true) := by
  obtain ⟨hrec, hseq⟩ := Bool.and_eq_true_iff.mp htake
  obtain ⟨hok, hrx⟩ := State.skArrive_spec hrec
  refine Prod.ext ht.symm ?_
  unfold State.skAccept
  dsimp only
  rw [hok, hrx, hseq]
  rfl

/-! ### Ports -/

theorem State.skPortUp_trained {s : State} {p : Nat} (hlive : s.skLive = true) (htrain : s.get (SKZ_PSTAT_STATE p) = 1)
    (href : s.rst.refbBad = false) : s.skPortUp p =
    ((((s.setSkp p { hello := (s.skp p).hello, since := s.beat }).draw.set (SKZ_PSTAT_STATE p) 2).set (SKZ_PSTAT_FECON p)
      (b2n (s.flag (SKZ_PCTL_FEC p) || bit s.freeNext 0))).set (SKZ_PSTAT_PRECON p)
      (b2n (s.flag (SKZ_PCTL_PRECODE p) || bit s.freeNext 1))) := by
  unfold State.skPortUp
  rw [hlive, htrain, href]
  rfl

theorem State.skTrainTimeout_due {s : State} {p : Nat} (hlive : s.skLive = true) (htrain : s.get (SKZ_PSTAT_STATE p) = 1)
    (hdue : (s.skp p).since + 50 * beatsPerMs ≤ s.beat) : s.skTrainTimeout p =
    if (s.skp p).restarts < 4 then s.setSkp p { s.skp p with restarts := (s.skp p).restarts + 1, since := s.beat }
    else s.set (SKZ_PSTAT_STATE p) 3 := by
  unfold State.skTrainTimeout
  dsimp only
  rw [hlive, htrain, decide_eq_false (Nat.not_lt.mpr hdue)]
  exact if_neg Bool.false_ne_true

theorem State.skLoseLock_up {s : State} {p : Nat} (hlive : s.skLive = true) (hup : s.portUp p = true) : s.skLoseLock p = s.skPortDown p := by
  unfold State.skLoseLock
  rw [hlive, hup]
  rfl

/-- An UP port whose EN stays set trains again; its DOWNEV and its source report it, and a parent port is replaced (R404, R416). -/
theorem State.skPortDown_up {s : State} {p : Nat} (hup : s.portUp p = true) (hen : s.flag (SKZ_PCTL_EN p) = true)
    (href : s.rst.refbBad = false) : s.skPortDown p =
    (let u := ((((s.setSkp p { hello := (s.skp p).hello, since := s.beat }).set (SKZ_PSTAT_STATE p) 1).set (SKZ_PSTAT_FECON p) 0).set
       (SKZ_PSTAT_PRECON p) 0).set (SKZ_PSTAT_INJOIN p) 0
     let w := (({ u with skz := { u.skz with kids := putBit u.skz.kids p false } } : State).set (SKZ_PSTAT_DOWNEV p) 1).pulse (0x01C + p)
     if w.flag SKZ_STAT_JOINED && w.parent == some p then w.reparent else w) := by
  unfold State.skPortDown
  dsimp only
  rw [hup, hen, href, if_neg (by decide)]
  rfl

/-- Training begins on a port with EN set and REFB present. -/
theorem State.skTrain_enabled {s : State} {p : Nat} (hen : s.flag (SKZ_PCTL_EN p) = true) (href : s.rst.refbBad = false) :
    s.skTrain p = (s.setSkp p { hello := (s.skp p).hello, since := s.beat }).set (SKZ_PSTAT_STATE p) 1 := by
  unfold State.skTrain
  rw [hen, href]
  rfl

theorem State.skRetrain_down {s : State} {p : Nat} (hlive : s.skLive = true) (hup : s.portUp p = false)
    (hen : s.flag (SKZ_PCTL_EN p) = true) : s.skRetrain p = s.skTrain p := by
  unfold State.skRetrain
  rw [hlive, hen, hup]
  rfl

/-- A write that sets EN starts the training of its port (R404, R434). -/
theorem State.skCtlWrite_enables {s : State} {p v : Nat} (hlive : s.skLive = true) (hwas : s.flag (SKZ_PCTL_EN p) = false)
    (href : s.rst.refbBad = false) (hen : bit v 0 = true) (hretrain : bit v 3 = false) : s.skCtlWrite p v =
    ((((s.set (SKZ_PCTL_PRECODE p) (b2n (bit v 2))).set (SKZ_PCTL_FEC p) (b2n (bit v 1))).set (SKZ_PCTL_EN p) 1).setSkp p
      { hello := (s.skp p).hello, since := s.beat }).set (SKZ_PSTAT_STATE p) 1 := by
  have hset : (((s.set (SKZ_PCTL_PRECODE p) (b2n (bit v 2))).set (SKZ_PCTL_FEC p) (b2n (bit v 1))).set (SKZ_PCTL_EN p) 1).flag
      (SKZ_PCTL_EN p) = true := by
    unfold State.flag
    rw [State.get_set]
    rfl
  unfold State.skCtlWrite
  dsimp only
  rw [hlive, hwas, hen, hretrain, if_neg (by decide), if_neg (by decide), if_pos (by decide)]
  exact State.skTrain_enabled hset href

/-- Every unacknowledged flit goes again (R407). -/
theorem State.skReplay_again {s : State} {p : Nat} (hlive : s.skLive = true) (hup : s.portUp p = true) (hsome : (s.skp p).unacked ≠ [])
    (hfew : (s.skp p).replays + 1 < 16) : s.skReplay p =
    (s.skp p).unacked.foldl (fun (t : State) (e : Nat × Flit) => t.sendFlit p e.2 e.1 (s.skp p).rxSeq)
      ((s.setSkp p { s.skp p with replays := (s.skp p).replays + 1 }).incSat (SKZ_PERR_REPLAY p)) := by
  have hempty : (s.skp p).unacked.isEmpty = false := Bool.eq_false_iff.mpr fun h => hsome (List.isEmpty_iff.mp h)
  unfold State.skReplay
  dsimp only
  rw [hlive, hup, hempty, if_neg (by decide)]
  exact if_neg (Nat.not_le.mpr hfew)

theorem State.skIdleArrive_received {s t : State} {p : Nat} {f : LinkHead} (hrec : s.receives p f = true) (ht : t = (s.skArrive p f).1) :
    s.skIdleArrive p f = (t.setSkp p { t.skp p with
      credit := (List.range 3).map fun k => min 32 (nth0 (t.skp p).credit k + f.arg.toNat / 16 ^ k % 16) }).skPump p := by
  unfold State.skIdleArrive
  rw [State.skArrive_received hrec ht]
  rfl

theorem State.skHello_received {s t : State} {p : Nat} {h : LinkHead} (f : HelloFlit) (hrec : s.receives p h = true)
    (ht : t = (s.skArrive p h).1) (hjoin : t.modeCode = mJoin) : s.skHello p h f =
    ((((t.setSkp p { t.skp p with hello := some ⟨f.uid.toNat, f.root.toNat, f.dist.toNat, f.port.val, f.inJoin, t.beat⟩ }).set
      (SKZ_PPEER_LO_PEER p) (f.uid.toNat % 2 ^ 32)).set (SKZ_PPEER_HI_PEER p) (f.uid.toNat / 2 ^ 32)).showInJoin).elect := by
  unfold State.skHello
  rw [State.skArrive_received hrec ht]
  dsimp only
  rw [hjoin, bne_self_eq_false]
  rfl

theorem State.helloSend_joining {s : State} (hjoin : s.modeCode = mJoin) (hlive : s.skLive = true) : s.helloSend =
    (List.range 4).foldl (fun (u : State) (p : Nat) => if u.portUp p then u.skSend p
      { cls := 3, typ := 1, dst := 0, src := u.skAddr, hops := 0, tag := 0, arg := 0
        data := [u.uid, u.skz.root, u.skz.dist, p + 128] } else u) s.showInJoin.elect := by
  have hgo : ¬ (s.modeCode ≠ mJoin ∨ (!s.skLive) = true) := by
    rw [hlive]
    rintro (h | h)
    · exact h hjoin
    · exact absurd h (by decide)
  unfold State.helloSend
  rw [if_neg hgo]

/-- A value with bit 0 set by the command has it set. -/
theorem bit_zero_or_one (v : Nat) : bit (v ||| 1) 0 = true := by
  unfold bit
  simp [Nat.testBit_or]

/-- Settles O29: each port command in the case the statement names. -/
theorem fabricPortCommands : Obligations.FabricPortCommands := by
  unfold Obligations.FabricPortCommands
  refine ⟨fun s p hs hlive htrain href => ?_, fun s p hs hlive htrain hdue => ?_, fun s p hlive hup hen href => ?_,
    fun s p hs hlive hup hen href => ?_, fun s p v hs hlive hwas href hretrain => ?_, fun s p hs hlive hup hsome hfew => ?_,
    fun s t p f hs hrec ht => ?_, fun s t p h f hs hrec ht hjoin => ?_, fun s hs hjoin hlive => ?_⟩
  · exact State.next_of_ctrl hs (State.skPortUp_ctrl ..) (State.skPortUp_trained (s := s.begin) hlive htrain href)
  · exact State.next_of_ctrl hs (State.skTrainTimeout_ctrl ..) (State.skTrainTimeout_due (s := s.begin) hlive htrain hdue)
  · exact State.next_settle ((State.skLoseLock_up (s := s.begin) hlive hup).trans (State.skPortDown_up (s := s.begin) hup hen href))
  · have hdo := (State.skRetrain_down (s := s.begin) hlive hup hen).trans (State.skTrain_enabled (s := s.begin) hen href)
    exact State.next_of_rest hs hdo ((State.set_ctrl ..).trans (State.setSkp_ctrl ..))
  · have hdo := State.skCtlWrite_enables (s := s.begin) hlive hwas href (bit_zero_or_one v.toNat) hretrain
    refine State.next_of_rest hs hdo ?_
    rw [State.set_ctrl, State.setSkp_ctrl, State.set_ctrl, State.set_ctrl, State.set_ctrl]
  · refine State.next_of_rest hs (State.skReplay_again (s := s.begin) hlive hup hsome hfew) ?_
    exact (State.ctrl_foldl _ (fun _ _ => State.sendFlit_ctrl ..) _ _).trans ((State.incSat_ctrl ..).trans (State.setSkp_ctrl ..))
  · exact State.next_of_ctrl hs (State.skIdleArrive_ctrl ..) (State.skIdleArrive_received (s := s.begin) hrec ht)
  · exact State.next_of_ctrl hs (State.skHello_ctrl ..) (State.skHello_received (s := s.begin) f hrec ht hjoin)
  · exact State.next_of_ctrl hs (State.helloSend_ctrl ..) (State.helloSend_joining (s := s.begin) hjoin hlive)

end Sys2Proof.Machine
end

section
/-! PROOF (O30). Joining the fabric: topology, addresses, and the time a Join may take (R412 to R414). -/
namespace Sys2Proof.Machine

section
variable {s t : State} {p : Nat} {h : LinkHead} (htake : s.takes p h = true) (ht : t = (s.skAccept p h 2).1) (hjoin : t.modeCode = mJoin)
include htake ht hjoin

/-- A TOPO in time is taken: its port leads to a child (R412). -/
theorem State.skTopo_taken (f : TopoFlit) (hstate : t.get SKZ_STAT_JSTATE ≤ 2) : s.skTopo p h f =
    (let t1 := { t with skz := { t.skz with kids := putBit t.skz.kids p true } }
     let peers := [f.peers.1.toNat, f.peers.2.1.toNat, f.peers.2.2.1.toNat, f.peers.2.2.2.toNat]
     if t1.skz.root = t1.uid then t1.collect f.uid.toNat f.pref.val f.prefEn peers
     else match t1.parent with
       | some q => t1.skSend q
           { cls := 2, typ := 2, dst := h.dst.val, src := h.src.val, hops := (h.hops.val + 1) % 16, tag := h.tag.toNat, arg := h.arg.toNat
             data := [f.uid.toNat, f.pref.val + 128 * b2n f.prefEn] ++ peers }
       | none => t1) := by
  unfold State.skTopo
  rw [State.skAccept_taken htake ht]
  dsimp only
  rw [hjoin, bne_self_eq_false, decide_eq_false (Nat.not_lt.mpr hstate)]
  rfl

theorem State.skTopo_root (f : TopoFlit) (hstate : t.get SKZ_STAT_JSTATE ≤ 2) (hroot : t.skz.root = t.uid) : s.skTopo p h f =
    ({ t with skz := { t.skz with kids := putBit t.skz.kids p true } } : State).collect f.uid.toNat f.pref.val f.prefEn
      [f.peers.1.toNat, f.peers.2.1.toNat, f.peers.2.2.1.toNat, f.peers.2.2.2.toNat] :=
  (State.skTopo_taken htake ht hjoin f hstate).trans (if_pos hroot)

theorem State.skTopo_child {q : Nat} (f : TopoFlit) (hstate : t.get SKZ_STAT_JSTATE ≤ 2) (hroot : t.skz.root ≠ t.uid)
    (hparent : t.parent = some q) : s.skTopo p h f =
    ({ t with skz := { t.skz with kids := putBit t.skz.kids p true } } : State).skSend q
      { cls := 2, typ := 2, dst := h.dst.val, src := h.src.val, hops := (h.hops.val + 1) % 16, tag := h.tag.toNat, arg := h.arg.toNat
        data := [f.uid.toNat, f.pref.val + 128 * b2n f.prefEn] ++
          [f.peers.1.toNat, f.peers.2.1.toNat, f.peers.2.2.1.toNat, f.peers.2.2.2.toNat] } := by
  have hparent' : ({ t with skz := { t.skz with kids := putBit t.skz.kids p true } } : State).parent = some q := hparent
  refine (State.skTopo_taken htake ht hjoin f hstate).trans ((if_neg hroot).trans ?_)
  rw [hparent']

theorem State.skAssign_taken (f : AssignFlit) : s.skAssign p h f =
    (let peers := (List.range 4).map (fun k => if f.peerValid.toNat.testBit k then some (f.peers.toNat / 16 ^ k % 16) else none)
     (t.skTree (some p)
       { cls := 2, typ := 3, dst := 15, src := h.src.val, hops := (h.hops.val + 1) % 16, tag := h.tag.toNat, arg := h.arg.toNat
         data := assignWords f.uid.toNat f.addr.val f.valid f.ndev.toNat peers }).assignAct f.uid.toNat f.addr.val f.valid f.ndev.toNat
       peers) := by
  unfold State.skAssign
  rw [State.skAccept_taken htake ht]
  dsimp only
  rw [hjoin, bne_self_eq_false]
  rfl

end

section
variable {s : State} (hjoin : s.modeCode = mJoin) (hlive : s.skLive = true)
include hjoin hlive

theorem State.topoSend_due (hstate : s.get SKZ_STAT_JSTATE = 1) (hstable : s.skz.stable + 40000 ≤ s.beat) : s.topoSend =
    (let t := s.set SKZ_STAT_JSTATE 2
     if s.skz.root = s.uid then t.collect s.uid (s.get SKZ_CTL_PREF) (s.flag SKZ_CTL_PREFEN) s.peerUids
     else match s.parent with
       | some q => t.skSend q
           { cls := 2, typ := 2, dst := 0, src := s.skAddr, hops := 0, tag := 0, arg := 0
             data := [s.uid, s.get SKZ_CTL_PREF + 128 * s.get SKZ_CTL_PREFEN] ++ s.peerUids }
       | none => t) := by
  have hgo : ¬ (s.modeCode ≠ mJoin ∨ (!s.skLive) = true ∨ s.get SKZ_STAT_JSTATE ≠ 1 ∨ s.beat < s.skz.stable + 40000) := by
    rw [hlive]
    simp [hjoin, hstate, hstable]
  unfold State.topoSend
  exact if_neg hgo

theorem State.addressAssign_due (hstate : s.get SKZ_STAT_JSTATE = 2) (hroot : s.skz.root = s.uid) (hwait : s.skz.topoAt + 40000 ≤ s.beat)
    (hmany : min 16 (s.get SKZ_CTL_EXPECT) ≤ s.skz.topos.length) : s.addressAssign =
    (s.skz.topos.foldr insertUid []).foldl (fun (t : State) (e : Nat × (Nat × (Bool × List Nat))) =>
      let addrs := assignAddrs s.skz.topos
      let a := (addrs.find? (fun x => x.1 == e.1)).map (·.2)
      let peers := e.2.2.2.map (fun u => if u = 0 then none else (addrs.find? (fun x => x.1 == u)).map (·.2))
      (t.skTree none { cls := 2, typ := 3, dst := 15, src := a.getD 0, hops := 0, tag := 0, arg := 0
                       data := assignWords e.1 (a.getD 0) a.isSome addrs.length peers }).assignAct e.1 (a.getD 0) a.isSome addrs.length
        peers) (s.set SKZ_STAT_JSTATE 3) := by
  have hgo : ¬ (s.modeCode ≠ mJoin ∨ (!s.skLive) = true ∨ s.get SKZ_STAT_JSTATE ≠ 2 ∨ s.skz.root ≠ s.uid ∨
      s.beat < s.skz.topoAt + 40000 ∨ s.skz.topos.length < min 16 (s.get SKZ_CTL_EXPECT)) := by
    rw [hlive]
    simp only [hjoin, hstate, hroot, ne_eq, not_true_eq_false, Bool.not_true, Bool.false_eq_true, false_or, not_or, Nat.not_lt]
    exact ⟨hwait, hmany⟩
  unfold State.addressAssign
  exact if_neg hgo

end

/-- A device that leaves the fabric with its source reported stands in the mode it stood in. -/
theorem State.unjoined_modeCode (s : State) (k : Nat) : ((s.unjoin.set SKZ_STAT_JOINERR 1).pulse k).modeCode = s.modeCode :=
  State.modeCode_of_stand ((State.pulse_stand ..).trans ((State.set_stand _ _ _ rfl).trans (State.unjoin_stand ..)))

theorem State.joinTimeout_due {s : State} (hjoin : s.modeCode = mJoin)
    (hdue : s.mode.since + max 1 (s.get SKZ_CTL_JOINTO) * beatsPerMs ≤ s.beat) :
    s.joinTimeout = ((s.unjoin.set SKZ_STAT_JOINERR 1).pulse 0x020).enterMode mIdle 0 0xFF := by
  unfold State.joinTimeout
  rw [if_pos ⟨hjoin, hdue⟩]
  exact if_pos ((State.unjoined_modeCode ..).trans hjoin)

/-- Settles O30: each command of the Join in the case the statement names. -/
theorem fabricJoinCommands : Obligations.FabricJoinCommands := by
  unfold Obligations.FabricJoinCommands
  refine ⟨fun s t p h f hs htake ht hjoin hstate hroot => ?_, fun s t p h f q hs htake ht hjoin hstate hroot hparent => ?_,
    fun s hs hjoin hlive hstate hstable hroot => ?_, fun s q hs hjoin hlive hstate hstable hroot hparent => ?_,
    fun s hjoin hlive hstate hroot hwait hmany => ?_, fun s t p h f htake ht hjoin => ?_, fun s hjoin hdue => ?_⟩
  · exact State.next_of_ctrl hs (State.skTopo_ctrl ..) (State.skTopo_root (s := s.begin) htake ht hjoin f hstate hroot)
  · exact State.next_of_ctrl hs (State.skTopo_ctrl ..) (State.skTopo_child (s := s.begin) htake ht hjoin f hstate hroot hparent)
  · exact State.next_of_ctrl hs (State.topoSend_ctrl ..)
      ((State.topoSend_due (s := s.begin) hjoin hlive hstate hstable).trans (if_pos hroot))
  · have hparent' : s.begin.parent = some q := hparent
    refine State.next_of_ctrl hs (State.topoSend_ctrl ..)
      ((State.topoSend_due (s := s.begin) hjoin hlive hstate hstable).trans ((if_neg hroot).trans ?_))
    rw [hparent']
    rfl
  · exact State.next_settle (State.addressAssign_due (s := s.begin) hjoin hlive hstate hroot hwait hmany)
  · exact State.next_settle (State.skAssign_taken (s := s.begin) htake ht hjoin f)
  · exact ⟨_, State.next_settle (State.joinTimeout_due (s := s.begin) hjoin hdue), rfl, State.enterMode_modeCode _ _ _ (by decide)⟩

end Sys2Proof.Machine
end

section
/-! PROOF (O31). Accesses of other devices, their responses, and the exchange of time (R417 to R423). -/
namespace Sys2Proof.Machine

section
variable {s t : State} {p : Nat} {h : LinkHead}

/-- A request for this device is served, and answered while the fabric block runs (R417). -/
theorem State.skRequest_read {u : State} {f : ReqFlit} {e : Ecc} {r : Bool × Nat} (htake : s.takes p h = true)
    (ht : t = (s.skAccept p h 0).1) (hdst : h.dst.val = t.skAddr) (hpos : 0 < h.arg.toNat) (hle : h.arg.toNat ≤ 32)
    (hacc : t.localAccess 5 f.addr.toNat (.read h.arg.toNat) e = (r, u)) (hlive : u.skLive = true) : s.skRequest false p h f e =
    u.skUnicast 1 0x12 h.src.val h.tag.toNat 0 (if r.1 then 0 :: (leBytes r.2 h.arg.toNat).map BitVec.toNat else [1]) := by
  have hsize : ¬ (h.arg.toNat = 0 ∨ 32 < h.arg.toNat) := by omega
  unfold State.skRequest
  rw [State.skAccept_taken htake ht]
  dsimp only
  rw [Bool.not_true, if_neg Bool.false_ne_true, if_pos hdst, if_neg hsize, if_neg Bool.false_ne_true, hacc]
  dsimp only
  rw [if_pos hlive, if_neg Bool.false_ne_true]
  cases r.1 with
  | false => rfl
  | true => rfl

theorem State.skRequest_write {u : State} {f : ReqFlit} {e : Ecc} {r : Bool × Nat} (htake : s.takes p h = true)
    (ht : t = (s.skAccept p h 0).1) (hdst : h.dst.val = t.skAddr) (hpos : 0 < h.arg.toNat) (hle : h.arg.toNat ≤ 32)
    (hacc : t.localAccess 5 f.addr.toNat (.write ((f.data ++ List.replicate 32 0).take h.arg.toNat)) e = (r, u))
    (hlive : u.skLive = true) : s.skRequest true p h f e =
    u.skUnicast 1 0x13 h.src.val h.tag.toNat 0 [if r.1 then 0 else 1] := by
  have hsize : ¬ (h.arg.toNat = 0 ∨ 32 < h.arg.toNat) := by omega
  unfold State.skRequest
  rw [State.skAccept_taken htake ht]
  dsimp only
  rw [Bool.not_true, if_neg Bool.false_ne_true, if_pos hdst, if_neg hsize, if_pos rfl, hacc]
  dsimp only
  rw [if_pos hlive, if_pos rfl]
  rfl

/-- The pieces of an access with the answer to one tag entered. -/
def answerPieces (tag : Nat) (data : List Byte) (l : List SkPiece) : List SkPiece :=
  l.map fun q => if q.tag == some tag && !q.answered then { q with answered := true, data } else q

/-- The last answer of an access completes it (R417, R418). -/
theorem State.pieceDone_last {tag i : Nat} {ok : Bool} {data : List Byte} {r : SkReq}
    (hfind : t.skz.reqs.findIdx? (fun r => r.pieces.any fun q => q.tag == some tag && !q.answered) = some i)
    (hreq : t.skz.reqs[i]? = some r) (hall : ((answerPieces tag data r.pieces).all fun q => q.answered) = true) :
    t.pieceDone tag ok data = (({ t with skz := { t.skz with reqs := t.skz.reqs.eraseIdx i } } : State).remoteDone
      { r with ok := r.ok && ok, pieces := answerPieces tag data r.pieces }).tagRequests := by
  unfold State.pieceDone
  rw [hfind]
  dsimp only
  rw [hreq]
  exact if_pos hall

theorem State.skResponse_own {f : RspFlit} (typ : Nat) (htake : s.takes p h = true) (ht : t = (s.skAccept p h 1).1)
    (hdst : h.dst.val = t.skAddr) : s.skResponse typ p h f = t.pieceDone h.tag.toNat (f.status.toNat == 0) f.data := by
  unfold State.skResponse
  rw [State.skAccept_taken htake ht]
  exact if_pos hdst

/-- A child's request for the time is answered with its arrival and its departure (R421). -/
theorem State.skTsync_received (f : TimeFlit) (hrec : s.receives p h = true) (ht : t = (s.skArrive p h).1) : s.skTsync p h f =
    t.draw.skSend p
      { cls := 3, typ := 0x21, dst := 0, src := t.skAddr, hops := 0, tag := 0, arg := 0
        data := [t.arrivalTs h, t.freeNext % 2 ^ 54, b2n (t.flag SKZ_STAT_TK || t.skz.aligned)] } := by
  unfold State.skTsync
  rw [State.skArrive_received hrec ht]
  rfl

/-- The parent's answer closes the exchange, and outside Join its offset moves the phase (R421 to R423). -/
theorem State.skTresp_tracks {f : TimeFlit} {t1 : Nat} {e : Int × Int} (hrec : s.receives p h = true) (ht : t = (s.skArrive p h).1)
    (hopen : t.skz.t1 = some t1) (hparent : t.parent = some p) (hsynced : f.synced = true)
    (hex : exchange t1 f.ta.toNat f.tb.toNat (t.arrivalTs h) = e) (hmode : t.modeCode ≠ mJoin) : s.skTresp p h f =
    ((({ t with skz := { t.skz with t1 := none, fails := 0 } } : State).set SKZ_TSTAT_THETA (enc 16 (satInt 16 e.1))).set
      SKZ_TDELAY_DELAY (enc 24 e.2)).trackCorrect e.1 := by
  have hmode' : ((({ t with skz := { t.skz with t1 := none, fails := 0 } } : State).set SKZ_TSTAT_THETA (enc 16 (satInt 16 e.1))).set
      SKZ_TDELAY_DELAY (enc 24 e.2)).modeCode ≠ mJoin := by
    rw [State.modeCode_of_stand ((State.set_stand _ _ _ rfl).trans (State.set_stand _ _ _ rfl))]
    exact hmode
  unfold State.skTresp
  rw [State.skArrive_received hrec ht]
  dsimp only
  rw [hopen]
  dsimp only
  rw [hparent, hsynced, bne_self_eq_false, hex]
  exact if_neg hmode'

end

/-- Outside Join a joined device other than the timekeeper asks its parent for the time, period by period (R423). -/
theorem State.timeExchange_tracks {s : State} {q : Nat} (hlive : s.skLive = true) (hjoined : s.flag SKZ_STAT_JOINED = true)
    (hmode : s.modeCode ≠ mJoin) (htk : s.flag SKZ_STAT_TK = false) (hper : s.get SKZ_TSYNC_PERIOD ≠ 0) (hdue : s.skz.syncAt ≤ s.beat)
    (hclosed : s.skz.t1 = none) (hparent : s.parent = some q) : s.timeExchange =
    ({ s with skz := { s.skz with
      t1 := some (s.freeNext % 2 ^ 54), syncAt := s.beat + s.get SKZ_TSYNC_PERIOD * beatsPerUs } } : State).draw.skSend q
      { cls := 3, typ := 0x20, dst := 0, src := s.skAddr, hops := 0, tag := 0, arg := 0, data := [s.freeNext % 2 ^ 54] } := by
  have hjoin : (s.modeCode == mJoin) = false := beq_eq_false_iff_ne.mpr hmode
  have htrack : (s.modeCode != mJoin) = true := bne_iff_ne.mpr hmode
  unfold State.timeExchange
  dsimp only
  rw [hlive, hjoined, hjoin, htrack, htk, bne_iff_ne.mpr hper, decide_eq_false (Nat.not_lt.mpr hdue), hclosed, hparent]
  rfl

/-- Settles O31: each access, response and exchange in the case the statement names. -/
theorem fabricRequestCommands : Obligations.FabricRequestCommands := by
  unfold Obligations.FabricRequestCommands
  refine ⟨fun s t u p h f e r htake ht hdst hpos hle hacc hlive => ?_, fun s t u p h f e r htake ht hdst hpos hle hacc hlive => ?_,
    fun s t p h f i r htake ht hdst hfind hreq hall => ?_, fun s t p h f i r htake ht hdst hfind hreq hall => ?_,
    fun s t p h f hs hrec ht => ?_, fun s t p h f t1 e hrec ht hopen hparent hsynced hex hmode => ?_,
    fun s q hs hlive hjoined hmode htk hper hdue hclosed hparent => ?_⟩
  · exact State.next_settle (State.skRequest_read (s := s.begin) htake ht hdst hpos hle hacc hlive)
  · exact State.next_settle (State.skRequest_write (s := s.begin) htake ht hdst hpos hle hacc hlive)
  · exact State.next_settle ((State.skResponse_own (s := s.begin) 0x12 htake ht hdst).trans (State.pieceDone_last hfind hreq hall))
  · exact State.next_settle ((State.skResponse_own (s := s.begin) 0x13 htake ht hdst).trans (State.pieceDone_last hfind hreq hall))
  · exact State.next_of_ctrl hs (State.skTsync_ctrl ..) (State.skTsync_received (s := s.begin) f hrec ht)
  · exact State.next_settle (State.skTresp_tracks (s := s.begin) hrec ht hopen hparent hsynced hex hmode)
  · refine State.next_of_rest hs (State.timeExchange_tracks (s := s.begin) hlive hjoined hmode htk hper hdue hclosed hparent) ?_
    exact (State.skSend_ctrl ..).trans (State.draw_ctrl ..)

end Sys2Proof.Machine
end

section
/-! PROOF (O32). Broadcasts of the fabric on their stamps, and the master's own commands (R51, R425 to R427, R433). -/
namespace Sys2Proof.Machine

theorem State.skBcast_taken {s t : State} {p : Nat} {h : LinkHead} (f : BcastFlit) (htake : s.takes p h = true)
    (ht : t = (s.skAccept p h 2).1) : s.skBcast p h f =
    (t.skTree (some p)
      { cls := 2, typ := 0x30, dst := 15, src := h.src.val, hops := (h.hops.val + 1) % 16, tag := h.tag.toNat, arg := h.arg.toNat
        data := [f.stamp.toNat, f.cmd.toNat, f.carg.toNat] }).skSchedule f.cmd.toNat f.carg.toNat f.stamp.toNat := by
  unfold State.skBcast
  rw [State.skAccept_taken htake ht]
  exact if_neg Bool.false_ne_true

/-- The state whose schedule has lost its first command. -/
def State.schedRest (s : State) (l : List Sched) : State := { s with skz := { s.skz with sched := l } }

/-- The first command of the schedule acts once its beat has come (R427). -/
theorem State.bcast_due {s : State} {c : Sched} {l : List Sched} {cmd : Nat} (act : State → Nat → State) (hsched : s.skz.sched = c :: l)
    (hcmd : c.cmd = cmd) (hdue : c.due ≤ s.beat) : s.bcast cmd act = act (s.schedRest l) c.carg := by
  unfold State.bcast State.skDue
  rw [hsched]
  dsimp only
  rw [if_pos ⟨hcmd, hdue⟩]
  rfl

theorem State.startRelease_ready {s : State} (harmed : s.modeCode = mArmed) (htrans : s.mode.trans = none)
    (hready : ((List.range 24).all fun n => !s.flag (ESC_CTL_ENABLE n) || s.flag (ESC_STAT_READY n)) = true) : s.startRelease =
    (List.range 24).foldl (fun (t : State) (n : Nat) => if s.flag (ESC_STAT_READY n) then t.startEsc n else t)
      ((({ s with lbRun := true } : State).setPair ESC_LBEAT_LO_BEAT ESC_LBEAT_HI_BEAT 0).enterMode mExpose 0 0xFF) := by
  have hgo : ¬ (s.modeCode ≠ mArmed ∨ s.mode.trans.isSome = true) := by
    rw [htrans]
    rintro (h | h)
    · exact h harmed
    · exact absurd h (by decide)
  unfold State.startRelease
  rw [if_neg hgo, if_pos hready]

/-- A broadcast for Recoat takes a device in Expose there at once (R51, R53). -/
theorem State.bcastMode_recoat {s : State} {carg : Nat} (htarget : carg % 16 = mRecoat) (hm : s.modeCode = mExpose)
    (htrans : s.mode.trans = none) : s.bcastMode carg = s.enterMode mRecoat 0 0xFD := by
  have hgo : carg % 16 = mRecoat ∧ s.modeCode = mExpose ∧ s.mode.trans.isNone = true := ⟨htarget, hm, by rw [htrans]; rfl⟩
  unfold State.bcastMode
  exact if_pos hgo

theorem State.joined_addressed {s : State} (ndev : Nat) (hjoin : s.modeCode = mJoin) (hvalid : s.skz.turnedAway = false)
    (hstate : 4 ≤ s.get SKZ_STAT_JSTATE) : s.joined ndev =
    (((s.set SKZ_STAT_JOINED 1).set SKZ_STAT_NDEV ndev).set SKZ_STAT_JSTATE 0).enterMode mIdle 0 0xFF := by
  have hgo : ¬ (s.skz.turnedAway = true ∨ s.get SKZ_STAT_JSTATE < 4) := by
    rw [hvalid]
    rintro (h | h)
    · exact absurd h (by decide)
    · omega
  unfold State.joined
  rw [if_neg (not_not_intro hjoin), if_neg hgo]

/-- The word of a command row carries its CMD. -/
theorem bcmd_cmd (q : Nat) {c : Nat} (hc : c < 256) : bits (q * 256 + c + 2 ^ 31) 7 0 = c := by
  have hmod : (q * 256 + c + 2 ^ 31) % 256 = c := by omega
  exact hmod

/-- The word of a command row has GO set. -/
theorem bcmd_go {q c : Nat} (hc : c < 256) (hq : q < 2 ^ 23) : bit (q * 256 + c + 2 ^ 31) 31 = true := by
  have hlow : q * 256 + c < 2 ^ 31 := by omega
  unfold bit
  rw [Nat.add_comm, Nat.testBit_two_pow_add_eq, Nat.testBit_lt_two_pow hlow]
  rfl

/-- A legal command of the master goes out by the tree and enters its own schedule (R426, R433). -/
theorem State.bcmdWrite_go {s : State} {w c : Nat} (hlive : s.skLive = true) (hcmd : bits w 7 0 = c) (hgo : bit w 31 = true) (hc : 0 < c)
    (hc4 : c ≤ 4) (hstate : s.get SKZ_STAT_JSTATE = 0) (hmode : c = 2 → bits w 23 8 % 16 ≠ 5 ∧ bits w 23 8 % 16 ≠ 6) : s.bcmdWrite w =
    (((s.set SKZ_BCMD_AUTO (bits w 30 30)).set SKZ_BCMD_CARG (bits w 23 8)).set SKZ_BCMD_CMD c).skBroadcast c (bits w 23 8)
      (if bit w 30 then s.beat + s.get SKZ_CMDLEAD_LEAD else s.pair SKZ_BSTAMP_LO_STAMP SKZ_BSTAMP_HI_STAMP) := by
  have hlegal : ¬ (c = 0 ∨ 4 < c ∨ s.get SKZ_STAT_JSTATE ≠ 0 ∨ (c = 2 ∧ (bits w 23 8 % 16 = 5 ∨ bits w 23 8 % 16 = 6))) := by
    rw [hstate]
    omega
  unfold State.bcmdWrite
  dsimp only
  rw [hlive, hgo, hcmd, if_neg (by decide), if_neg (by decide)]
  exact if_neg hlegal

theorem State.bcmdRow_go {s : State} {v w c : Nat} (hlive : s.skLive = true) (hw : w = v % 2 ^ 31 / 256 * 256 + c + 2 ^ 31) (hc : 0 < c)
    (hc4 : c ≤ 4) (hstate : s.get SKZ_STAT_JSTATE = 0) (hmode : c = 2 → bits w 23 8 % 16 ≠ 5 ∧ bits w 23 8 % 16 ≠ 6) : s.bcmdRow c v =
    (((s.set SKZ_BCMD_AUTO (bits w 30 30)).set SKZ_BCMD_CARG (bits w 23 8)).set SKZ_BCMD_CMD c).skBroadcast c (bits w 23 8)
      (if bit w 30 then s.beat + s.get SKZ_CMDLEAD_LEAD else s.pair SKZ_BSTAMP_LO_STAMP SKZ_BSTAMP_HI_STAMP) := by
  have hsmall : c < 256 := Nat.lt_of_le_of_lt hc4 (by decide)
  have hq : v % 2 ^ 31 / 256 < 2 ^ 23 := Nat.div_lt_of_lt_mul (Nat.mod_lt _ (Nat.two_pow_pos 31))
  have hrow : s.bcmdRow c v = s.bcmdWrite w := congrArg s.bcmdWrite hw.symm
  rw [hrow]
  exact State.bcmdWrite_go hlive (hw ▸ bcmd_cmd _ hsmall) (hw ▸ bcmd_go hsmall hq) hc hc4 hstate hmode

/-- Settles O32: each broadcast on its stamp, and each command of the master. -/
theorem fabricBroadcastCommands : Obligations.FabricBroadcastCommands := by
  unfold Obligations.FabricBroadcastCommands
  refine ⟨fun s t p h f htake ht => ?_, fun s c l hsched hcmd hdue harmed htrans hready => ?_,
    fun s c l hsched hcmd hdue htarget hm htrans => ?_, fun s c l hsched hcmd hdue => ?_,
    fun s c l hsched hcmd hdue hen hnamed hphase => ?_, fun s c l hsched hcmd hdue => ?_, fun s c l hsched hcmd hdue => ?_,
    fun s c l hsched hcmd hdue hjoin hvalid hstate => ?_, fun s v w hlive hw hstate => ?_, fun s v w hlive hw hstate hmode => ?_,
    fun s v w hlive hw hstate => ?_, fun s v w hlive hw hstate => ?_⟩
  · exact State.next_settle (State.skBcast_taken (s := s.begin) f htake ht)
  · exact State.next_settle ((State.bcast_due (s := s.begin) _ hsched hcmd hdue).trans
      (State.startRelease_ready (s := s.begin.schedRest l) harmed htrans hready))
  · exact ⟨_, State.next_settle ((State.bcast_due (s := s.begin) _ hsched hcmd hdue).trans
      (State.bcastMode_recoat (s := s.begin.schedRest l) htarget hm htrans)), rfl, State.enterMode_modeCode _ _ _ (by decide)⟩
  · exact State.next_settle (State.bcast_due (s := s.begin) _ hsched hcmd hdue)
  · have hgo : (if (s.begin.schedRest l).flag SYS_RST_CFG_SKZEN && c.carg.testBit (s.begin.schedRest l).skAddr
        then (s.begin.schedRest l).pulseReset 5 else s.begin.schedRest l) = (s.begin.schedRest l).pulseReset 5 :=
      if_pos (Bool.and_eq_true_iff.mpr ⟨hen, hnamed⟩)
    have hnext := State.pulseReset_next (u := s.begin.schedRest l) (k := 5) (by decide) hphase rfl
    rw [← hgo, ← State.bcast_due (s := s.begin)
      (fun t k => if t.flag SYS_RST_CFG_SKZEN && k.testBit t.skAddr then t.pulseReset 5 else t) hsched hcmd hdue] at hnext
    exact hnext
  · exact State.next_settle (State.bcast_due (s := s.begin) _ hsched hcmd hdue)
  · exact State.next_settle (State.bcast_due (s := s.begin) _ hsched hcmd hdue)
  · exact ⟨_, State.next_settle ((State.bcast_due (s := s.begin) _ hsched hcmd hdue).trans
      (State.joined_addressed (s := s.begin.schedRest l) c.carg hjoin hvalid hstate)), rfl, State.enterMode_modeCode _ _ _ (by decide)⟩
  · exact State.next_settle (State.bcmdRow_go (s := s.begin) hlive hw (by decide) (by decide) hstate nofun)
  · exact State.next_settle (State.bcmdRow_go (s := s.begin) hlive hw (by decide) (by decide) hstate fun _ => hmode)
  · exact State.next_settle (State.bcmdRow_go (s := s.begin) hlive hw (by decide) (by decide) hstate nofun)
  · exact State.next_settle (State.bcmdRow_go (s := s.begin) hlive hw (by decide) (by decide) hstate nofun)

end Sys2Proof.Machine
end

section
/-! PROOF (O33). Reports to the timekeeper and the flits of deposits (R269, R428, R429). -/
namespace Sys2Proof.Machine

section
variable {s t : State} {p : Nat} {h : LinkHead} (htake : s.takes p h = true) (ht : t = (s.skAccept p h 2).1) (hdst : h.dst.val = t.skAddr)
include htake ht hdst

/-- A report for this device is acted on by the timekeeper (R428). -/
theorem State.skReportArrive_own {kind : Nat} {f : ReportFlit} {u : State} (htk : t.flag SKZ_STAT_TK = true)
    (hact : t.reportAct kind f.group.toNat h.src.val f.beat.toNat = u) : s.skReportArrive kind p h f = u := by
  unfold State.skReportArrive
  rw [State.skAccept_taken htake ht]
  exact (if_pos hdst).trans hact

theorem State.skDdep_own (f : DdepFlit) : s.skDdep p h f = ((f.recs.take 3).take h.arg.toNat).foldl State.ddepRecord t := by
  unfold State.skDdep
  rw [State.skAccept_taken htake ht]
  exact if_pos hdst

end

section
variable {t : State} (htk : t.flag SKZ_STAT_TK = true)
include htk

theorem State.reportAct_barrier {group dev beat d : Nat} (hahead : aheadBy beat t.beat = some d) : t.reportAct 1 group dev beat =
    { t with bars := Sparse.put {} t.bars (16 + group % 16) { t.bar (16 + group % 16) with
      reports := (t.bar (16 + group % 16)).reports.filter (fun (r : Nat × Nat) => r.1 != dev) ++ [(dev, t.beat + d)]
      firstReport := if (t.bar (16 + group % 16)).reports.isEmpty then t.beat else (t.bar (16 + group % 16)).firstReport
      devices := if (t.bar (16 + group % 16)).reports.isEmpty then t.get (ESC_FDEV_DEVICES (group % 16))
        else (t.bar (16 + group % 16)).devices } } := by
  unfold State.reportAct
  rw [htk]
  dsimp only
  unfold State.barReport
  rw [hahead]
  rfl

theorem State.reportAct_joined (group dev beat : Nat) :
    t.reportAct 2 group dev beat = t.set SKZ_LAYSTAT_SET (t.get SKZ_LAYSTAT_SET ||| 2 ^ dev) := by
  unfold State.reportAct
  rw [htk]
  rfl

theorem State.reportAct_done (group dev beat : Nat) : t.reportAct 3 group dev beat =
    ((t.set SKZ_LAYSTAT_SET (t.get SKZ_LAYSTAT_SET ||| 2 ^ dev)).set SKZ_LAYSTAT_DONE (t.get SKZ_LAYSTAT_DONE ||| 2 ^ dev)).layerCheck := by
  unfold State.reportAct
  rw [htk]
  rfl

theorem State.reportAct_ready (group dev beat : Nat) : t.reportAct 4 group dev beat = t.joinReport dev := by
  unfold State.reportAct
  rw [htk]
  rfl

end

/-- Three records for a peer, or the oldest 20 beats old, leave in one flit where the route has a credit (R429). -/
theorem State.ddepFlush_due {s : State} {k q : Nat} {e : Nat × Nat × Deposit} {l : List (Nat × Nat × Deposit)}
    (hmine : s.dial.send.filter (fun e => e.1 == k) = e :: l) (hdue : 3 ≤ (e :: l).length ∨ e.2.1 + 20 ≤ s.beat)
    (hroute : s.upPort (s.get (SKZ_ROUTE_MASK (s.live (DIAL_PEER_DEV k)))) = some q) (hcredit : nth0 (s.skp q).credit 2 ≠ 0) :
    s.ddepFlush k = (({ s with dial := { s.dial with
        send := ((e :: l).take 3).foldl (fun (l : List (Nat × Nat × Deposit)) r => l.erase r) s.dial.send } } : State).skUnicast 2 0x40
      (s.live (DIAL_PEER_DEV k)) 0 ((e :: l).take 3).length
      (((e :: l).take 3).flatMap fun (r : Nat × Nat × Deposit) => r.2.2.words)).set DIAL_FWDTX_COUNT
      (s.get DIAL_FWDTX_COUNT + ((e :: l).take 3).length) := by
  have hgo : ¬ ((e :: l).length < 3 ∧ s.beat < e.2.1 + 20) := by omega
  unfold State.ddepFlush
  dsimp only
  rw [hmine]
  dsimp only
  rw [if_neg hgo, hroute]
  exact if_neg hcredit

/-- Settles O33: each report by the timekeeper's act on it, and the deposit flits of this device. -/
theorem fabricReportsAndDeposits : Obligations.FabricReportsAndDeposits := by
  unfold Obligations.FabricReportsAndDeposits
  refine ⟨fun s t p h f htake ht hdst htk d hahead => ?_, fun s t p h f htake ht hdst htk => ?_, fun s t p h f htake ht hdst htk => ?_,
    fun s t p h f htake ht hdst htk => ?_, fun s t p h f htake ht hdst => ?_, fun s k q e l hs hmine hdue hroute hcredit => ?_⟩
  · exact State.next_settle (State.skReportArrive_own (s := s.begin) htake ht hdst htk (State.reportAct_barrier htk hahead))
  · exact State.next_settle (State.skReportArrive_own (s := s.begin) htake ht hdst htk (State.reportAct_joined htk ..))
  · exact State.next_settle (State.skReportArrive_own (s := s.begin) htake ht hdst htk (State.reportAct_done htk ..))
  · exact State.next_settle (State.skReportArrive_own (s := s.begin) htake ht hdst htk (State.reportAct_ready htk ..))
  · exact State.next_settle (State.skDdep_own (s := s.begin) htake ht hdst f)
  · exact State.next_of_ctrl hs (State.ddepFlush_ctrl ..) (State.ddepFlush_due (s := s.begin) hmine hdue hroute hcredit)

end Sys2Proof.Machine
end

section
/-! PROOF (O34). The instructions of a balance job (R327, R337). -/
namespace Sys2Proof.Machine

/-- The value that an instruction of this OP delivers (R327). -/
def State.balValueOf (op : Nat) (s : State) (fr bank : Nat) (x : AxSt) (j : Job) (w : Nat) : Nat :=
  let a := jobReg x j (bits w 21 16)
  let b := bits w 15 8
  let c := jobReg x j (bits w 7 2)
  let k := s.get (BAL_K_K bank b)
  match op with
  | 1 => laneFma fr a k c
  | 2 => laneFma fr (f32Flip a) k c
  | 3 => laneMul fr a c
  | 4 => laneAdd fr a c
  | 5 => laneSub fr a c
  | 6 => laneMin fr a c
  | 7 => laneMax fr a c
  | 8 => laneMin fr (laneMax fr a (f32Flip k)) k
  | 9 => if j.flags.testBit b then a else c
  | 0xA => s.tbl fr bank b a
  | 0xB =>
    if isNaN32 a then nanWord fr
    else laneMul fr (if laneQ a = 0 then 0 else if f32Neg a then f32OfInt (-1) else f32OfInt 1) c
  | _ => 0

theorem State.balValue_eq (s : State) (fr bank : Nat) (x : AxSt) (j : Job) (w : Nat) :
    s.balValue fr bank x j w = State.balValueOf (bits w 31 28) s fr bank x j w := rfl

section
variable {s : State} {op ax pc w : Nat} {j : Job} (hjob : (s.ax ax).job = some j) (hlive : s.balLive = true) (hleft : j.left ≠ 0)
  (hpc : j.pc = pc) (hw : s.get (BAL_PSTORE_WORD pc) = w) (hop : bits w 31 28 = op)
include hjob hlive hleft hpc hw hop

/-- The axis's next word executes on its own OP (R327). -/
theorem State.balOp_next : s.balOp op ax pc = s.balWord ax (s.ax ax) j := by
  have hgo : (s.balLive && j.left != 0 && j.pc == pc && bits (s.get (BAL_PSTORE_WORD pc)) 31 28 == op) = true := by
    rw [hlive, bne_iff_ne.mpr hleft, hpc, hw, hop, beq_self_eq_true, beq_self_eq_true]
    rfl
  unfold State.balOp
  rw [hjob]
  exact if_pos hgo

/-- NOP passes to the next word. -/
theorem State.balOp_nop (hop0 : op = 0) : s.balOp op ax pc =
    s.setAx ax { s.ax ax with job := some { j with pc := j.pc + 1, left := j.left - 1 } } := by
  have hword : bits (s.get (BAL_PSTORE_WORD j.pc)) 31 28 = 0 := by rw [hpc, hw, hop, hop0]
  rw [State.balOp_next hjob hlive hleft hpc hw hop]
  unfold State.balWord
  exact if_pos hword

/-- Every other OP writes its value to rD. -/
theorem State.balOp_writes {v : Nat} {r : AxSt × Job} (hop0 : op ≠ 0)
    (hv : v = State.balValueOf op s s.freeNext (bankIx ax j.bank) (s.ax ax) j w)
    (hr : r = jobWrite (s.ax ax) { j with pc := j.pc + 1, left := j.left - 1 } (bits w 27 22) v) :
    s.balOp op ax pc = (s.setAx ax { r.1 with job := some r.2 }).draw := by
  have hword : s.get (BAL_PSTORE_WORD j.pc) = w := by rw [hpc, hw]
  have hvalue : s.balValue s.freeNext (bankIx ax j.bank) (s.ax ax) j w = v := by rw [State.balValue_eq, hop, hv]
  rw [State.balOp_next hjob hlive hleft hpc hw hop]
  unfold State.balWord
  dsimp only
  rw [hword, hop, if_neg hop0, hvalue, ← hr]

end

/-- Settles O34: each instruction delivers the value of its OP. -/
theorem balanceInstructions : Obligations.BalanceInstructions := by
  unfold Obligations.BalanceInstructions
  refine ⟨fun s ax pc j w hs hjob hlive hleft hpc hw hop => ?_, fun s ax pc j w hs hjob hlive hleft hpc hw v r hop hv hr => ?_,
    fun s ax pc j w hs hjob hlive hleft hpc hw v r hop hv hr => ?_, fun s ax pc j w hs hjob hlive hleft hpc hw v r hop hv hr => ?_,
    fun s ax pc j w hs hjob hlive hleft hpc hw v r hop hv hr => ?_, fun s ax pc j w hs hjob hlive hleft hpc hw v r hop hv hr => ?_,
    fun s ax pc j w hs hjob hlive hleft hpc hw v r hop hv hr => ?_, fun s ax pc j w hs hjob hlive hleft hpc hw v r hop hv hr => ?_,
    fun s ax pc j w hs hjob hlive hleft hpc hw v r hop hv hr => ?_, fun s ax pc j w hs hjob hlive hleft hpc hw v r hop hv hr => ?_,
    fun s ax pc j w hs hjob hlive hleft hpc hw v r hop hv hr => ?_, fun s ax pc j w hs hjob hlive hleft hpc hw v r hop hv hr => ?_⟩
  · exact State.next_of_ctrl hs (State.balOp_ctrl ..) (State.balOp_nop (s := s.begin) hjob hlive hleft hpc hw hop rfl)
  · exact State.next_of_ctrl hs (State.balOp_ctrl ..) (State.balOp_writes (s := s.begin) hjob hlive hleft hpc hw hop (by decide) hv hr)
  · exact State.next_of_ctrl hs (State.balOp_ctrl ..) (State.balOp_writes (s := s.begin) hjob hlive hleft hpc hw hop (by decide) hv hr)
  · exact State.next_of_ctrl hs (State.balOp_ctrl ..) (State.balOp_writes (s := s.begin) hjob hlive hleft hpc hw hop (by decide) hv hr)
  · exact State.next_of_ctrl hs (State.balOp_ctrl ..) (State.balOp_writes (s := s.begin) hjob hlive hleft hpc hw hop (by decide) hv hr)
  · exact State.next_of_ctrl hs (State.balOp_ctrl ..) (State.balOp_writes (s := s.begin) hjob hlive hleft hpc hw hop (by decide) hv hr)
  · exact State.next_of_ctrl hs (State.balOp_ctrl ..) (State.balOp_writes (s := s.begin) hjob hlive hleft hpc hw hop (by decide) hv hr)
  · exact State.next_of_ctrl hs (State.balOp_ctrl ..) (State.balOp_writes (s := s.begin) hjob hlive hleft hpc hw hop (by decide) hv hr)
  · exact State.next_of_ctrl hs (State.balOp_ctrl ..) (State.balOp_writes (s := s.begin) hjob hlive hleft hpc hw hop (by decide) hv hr)
  · exact State.next_of_ctrl hs (State.balOp_ctrl ..) (State.balOp_writes (s := s.begin) hjob hlive hleft hpc hw hop (by decide) hv hr)
  · exact State.next_of_ctrl hs (State.balOp_ctrl ..) (State.balOp_writes (s := s.begin) hjob hlive hleft hpc hw hop (by decide) hv hr)
  · exact State.next_of_ctrl hs (State.balOp_ctrl ..) (State.balOp_writes (s := s.begin) hjob hlive hleft hpc hw hop (by decide) hv hr)

end Sys2Proof.Machine
end

section
/-! PROOF (O35). The axes of the balance engine: dispatch, release, faults and commands (R321 to R341). -/
namespace Sys2Proof.Machine

/-- The state after the dispatch of a head's axes for a sample (R322, R323). -/
def State.dispatched (s : State) (n bs disp : Nat) (heads : Bool) : State :=
  let t : State := (List.range 3).foldl (fun (t : State) (k : Nat) => t.axDispatch n (3 * n + k) bs disp heads) s
  { t with bal := { t.bal with open_ := Sparse.insert t.bal.open_ n bs } }

section
variable {s : State} (hlive : s.balLive = true)
include hlive

theorem State.jobDispatch_sample {n bs : Nat} (hnow : s.sampleNow n = some bs) : s.jobDispatch n =
    s.dispatched n bs s.beat ((List.range 3).any fun k => s.axClosed (3 * n + k)) := by
  unfold State.jobDispatch
  rw [hlive, hnow]
  rfl

/-- The commands of a sample leave by a link in L0 once its jobs have had their time (R323). -/
theorem State.commandRelease_due {t : State} {n bs : Nat} (hopen : s.bal.open_.find? (fun e => e.1 == n) = some (n, bs))
    (hdue : bs + s.headUp n + s.servoC ≤ s.beat)
    (ht : t = (List.range 3).foldl (fun (t : State) (k : Nat) => t.axOutput n (3 * n + k))
      { s with bal := { s.bal with open_ := Sparse.erase s.bal.open_ n } }) (hl0 : t.inL0 n = true) : s.commandRelease n =
    t.sendSlot n slotCmd ([(((bs + t.headA n) / 1000 % 256 : Nat) : Int), 1] ++
      (List.range 3).map (fun k => sgn 16 (t.get (BAL_OUT_CODE (3 * n + k))))) := by
  unfold State.commandRelease
  rw [hopen]
  dsimp only
  rw [hlive, decide_eq_false (Nat.not_lt.mpr hdue), if_neg (by decide), ← ht]
  exact if_pos hl0

/-- Three samples missing in a row on a head with a closed axis are a fault of the head (R324, R341). -/
theorem State.telemetryLoss_missed {n : Nat} (hclosed : [3 * n, 3 * n + 1, 3 * n + 2].filter (fun a => s.axClosed a) ≠ [])
    (hmiss : ([3 * n, 3 * n + 1, 3 * n + 2].any fun a => decide (3 ≤ (s.ax a).missRun)) = true) : s.telemetryLoss n =
    ([3 * n, 3 * n + 1, 3 * n + 2].filter (fun a => s.axClosed a)).foldl (fun (t : State) (a : Nat) => t.capTrigger 3 (· == a))
      ((s.pulse (laserSrc n 9)).headFault n) := by
  have haxes : (List.range 3).map (3 * n + ·) = [3 * n, 3 * n + 1, 3 * n + 2] := rfl
  have hsome : ([3 * n, 3 * n + 1, 3 * n + 2].filter fun a => s.axClosed a).isEmpty = false :=
    Bool.eq_false_iff.mpr fun h => hclosed (List.isEmpty_iff.mp h)
  unfold State.telemetryLoss
  dsimp only
  rw [haxes, hlive, hsome, hmiss]
  rfl

theorem State.servoTracking_beyond {a : Nat} (hclosed : s.axClosed a = true)
    (hrun : max 1 (s.axUse a (BAL_AXCTL_TRKN a)) ≤ (s.ax a).trkRun) : s.servoTracking a =
    (((s.setAx a { s.ax a with trkRun := 0 }).set (BAL_AXSTAT_TRK a) 1).pulse (laserSrc (a / 3) 7)).capTrigger 3 (· == a) := by
  unfold State.servoTracking
  dsimp only
  rw [hlive, hclosed, decide_eq_true hrun]
  rfl

theorem State.approachEnd_over {a : Nat} {m : AxMove} (hmove : (s.ax a).move = some m) (hdue : m.start + moveBeats ≤ s.beat) :
    s.approachEnd a = (s.setAx a { s.ax a with move := none }).set (BAL_AXSTAT_APPROACH a) 0 := by
  unfold State.approachEnd
  rw [hmove]
  dsimp only
  rw [hlive, decide_eq_true hdue]
  rfl

theorem State.axClose_accepted {a : Nat} (hmode : axCmdMode s.modeCode = true) (hen : s.flag (BAL_AXCTL_EN a) = true)
    (hl0 : s.inL0 (a / 3) = true) (hbank : s.bankValid a (s.actBank a) = true) (hstate : s.axState a ≠ 4 ∨ (s.ax a).openDue = true) :
    s.axClose a = s.setAx a { s.ax a with closeDue := some (s.beat + 2000) } := by
  have hopen : (s.axState a != 4 || (s.ax a).openDue) = true := Bool.or_eq_true_iff.mpr (hstate.imp bne_iff_ne.mpr id)
  unfold State.axClose
  rw [hlive, hmode, hen, hl0, hbank, hopen]
  rfl

theorem State.axClose_refused {a : Nat} (hmode : axCmdMode s.modeCode = false) : s.axClose a = s.set (BAL_AXSTAT_CMDERR a) 1 := by
  unfold State.axClose
  rw [hlive, hmode]
  rfl

theorem State.axOpen_live (a : Nat) : s.axOpen a =
    if axCmdMode s.modeCode then s.setAx a { s.ax a with openDue := true } else s.set (BAL_AXSTAT_CMDERR a) 1 := by
  unfold State.axOpen
  rw [hlive]
  rfl

theorem State.swapRequest_live (w v : Nat) : s.swapRequest w v =
    (List.range 32).foldl (fun (t : State) (j : Nat) => if bit v j && decide (32 * w + j < 72) then t.swapAxis (32 * w + j) else t) s := by
  unfold State.swapRequest
  rw [hlive]
  rfl

theorem State.rateWrite_taken {v : Nat} (hrate : bits v 1 0 ≠ 3) (hopen : s.flag BAL_STAT_CLOSED = false) : s.rateWrite v =
    (List.range 24).foldl (fun (t : State) (n : Nat) => if t.inL0 n then t.hlTime n else t) (s.set BAL_CTL_RATE (bits v 1 0)) := by
  have hgo : ¬ (bits v 1 0 = 3 ∨ s.flag BAL_STAT_CLOSED = true) := by
    rw [hopen]
    rintro (h | h)
    · exact hrate h
    · exact absurd h (by decide)
  unfold State.rateWrite
  dsimp only
  rw [hlive, if_neg (by decide), if_neg hgo]

theorem State.rateWrite_refused {v : Nat} (h : bits v 1 0 = 3 ∨ s.flag BAL_STAT_CLOSED = true) :
    s.rateWrite v = s.set BAL_STAT_RATEERR 1 := by
  unfold State.rateWrite
  dsimp only
  rw [hlive, if_neg (by decide), if_pos h]

end

/-- Settles O35: each command of the axes in the case the statement names. -/
theorem axisCommands : Obligations.AxisCommands := by
  unfold Obligations.AxisCommands
  refine ⟨fun s n bs hs hlive hnow => ?_, fun s t n bs hopen hlive hdue ht hl0 => ?_, fun s n hlive hclosed hmiss => ?_,
    fun s a hlive hclosed hrun => ?_, fun s a m hs hlive hmove hdue => ?_, fun s a hs hlive hmode hen hl0 hbank hstate => ?_,
    fun s a hs hlive hmode => ?_, fun s a hs hlive => ?_, fun s w v hs hlive => ?_, fun s v hs hlive hrate hopen => ?_,
    fun s v hs hlive h => ?_⟩
  · have hdo : s.begin.jobDispatch n.val = s.begin.dispatched n.val bs s.beat ((List.range 3).any fun k => s.axClosed (3 * n.val + k)) :=
      State.jobDispatch_sample (s := s.begin) hlive hnow
    refine State.next_of_ctrl (u := (s.begin.jobDispatch n.val).hlPmUpdate n.val) hs
      ((State.hlPmUpdate_ctrl ..).trans (State.jobDispatch_ctrl ..)) ?_
    rw [hdo]
    rfl
  · exact State.next_settle (State.commandRelease_due (s := s.begin) hlive hopen hdue ht hl0)
  · exact State.next_settle (State.telemetryLoss_missed (s := s.begin) hlive hclosed hmiss)
  · exact State.next_settle (State.servoTracking_beyond (s := s.begin) hlive hclosed hrun)
  · exact State.next_of_ctrl hs (State.approachEnd_ctrl ..) (State.approachEnd_over (s := s.begin) hlive hmove hdue)
  · exact State.next_of_ctrl hs (State.axClose_ctrl ..) (State.axClose_accepted (s := s.begin) hlive hmode hen hl0 hbank hstate)
  · exact State.next_of_ctrl hs (State.axClose_ctrl ..) (State.axClose_refused (s := s.begin) hlive hmode)
  · exact State.next_of_ctrl hs (State.axOpen_ctrl ..) (State.axOpen_live (s := s.begin) hlive a.val)
  · exact State.next_of_ctrl hs (State.swapRequest_ctrl ..) (State.swapRequest_live (s := s.begin) hlive ..)
  · exact State.next_of_ctrl hs (State.rateWrite_ctrl ..) (State.rateWrite_taken (s := s.begin) hlive hrate hopen)
  · exact State.next_of_ctrl hs (State.rateWrite_ctrl ..) (State.rateWrite_refused (s := s.begin) hlive h)

end Sys2Proof.Machine
end

section
/-! PROOF (O36). The injections and the captures of the balance engine (R342 to R345). -/
namespace Sys2Proof.Machine

/-! ### The writes of capture and imaging (R18) -/

/-- What a store changes is memory: what no byte changes, it leaves. -/
theorem State.store_keeps {β : Type} (π : State → β) (h : ∀ s a v, π (State.setByte s a v) = π s) (l : List Byte) :
    ∀ (s : State) (a : Nat), π (s.store a l) = π s := by
  induction l with
  | nil => intro s a; rfl
  | cons b l ih => intro s a; exact (ih _ _).trans (h ..)

section
variable {s : State} {a : Nat} {l : List Byte} (hlive : s.sysLive = true) (hdram : s.region a = .dram) (hspan : s.memSpan a l.length = true)
include hlive hdram hspan

/-- A clean write of DRAM stores its bytes (R28, R600). -/
theorem State.localWrite_dram (m : Nat) :
    s.localWrite m a l .clean = (true, ({ s with rst := { s.rst with dramFresh := false } } : State).store a l) := by
  have hnclear : ¬ (s.dial.clear.isSome && s.region a == .dialMem) = true := by
    rw [hdram]
    exact Bool.eq_false_iff.mp (Bool.and_false _)
  have htouched : s.dramTouched a = { s with rst := { s.rst with dramFresh := false } } := if_pos hdram
  have hevent : (if narrow a l.length = true then (s.dramTouched a).eccEvent a .clean else s.dramTouched a) = s.dramTouched a := ite_self _
  have hgood : ¬ (narrow a l.length && s.eccBad a .clean) = true := by
    have hbad : s.eccBad a .clean = false := rfl
    rw [hbad, Bool.and_false]
    exact Bool.false_ne_true
  have hwrite : (if (!s.memSpan a l.length) = true then ((false, s) : Bool × State)
      else if (s.dial.clear.isSome && s.region a == .dialMem) = true then (true, s)
      else if (narrow a l.length && s.eccBad a .clean) = true then
        (false, (if narrow a l.length = true then (s.dramTouched a).eccEvent a .clean else s.dramTouched a).storeWhole a l)
      else (true, (if narrow a l.length = true then (s.dramTouched a).eccEvent a .clean else s.dramTouched a).store a l)) =
      (true, ({ s with rst := { s.rst with dramFresh := false } } : State).store a l) := by
    rw [hspan, if_neg (by decide), if_neg hnclear, if_neg hgood, hevent, htouched]
  unfold State.localWrite
  dsimp only
  rw [hlive, if_neg (by decide)]
  rw [hdram] at hwrite ⊢
  exact hwrite

/-- A block's own clean write of DRAM ends without error (R18, R24). -/
theorem State.ownWrite_dram {k m : Nat} (hm : (if k < 2 then 6 else 7) = m) : s.ownWrite (.issue k a l .clean) =
    (({ s with req := some m, rst := { s.rst with dramFresh := false } } : State).store a l).ownEnded k true := by
  have hne : s.region a ≠ .fabric := by
    rw [hdram]
    decide
  have hwrite := State.localWrite_dram (s := { s with req := some m }) hlive hdram hspan m
  unfold State.ownWrite
  dsimp only
  unfold State.access
  dsimp only
  rw [hm, if_pos hne]
  unfold State.localAccess
  dsimp only
  rw [hwrite]

end

/-! ### Injection and capture -/

theorem State.injRun_legal {s t : State} {g v : Nat} (hlive : t.balLive = true) (ht : t = s.injCtl g v) (hmode : t.modeCode = mTune)
    (hok : t.genOk g = true) : s.injRun g v =
    (((t.setGen g { active := true, lfsr := t.get (BAL_INJPRBS_SEED g) }).set (BAL_INJSTAT_ACTIVE g) 1).set (BAL_INJSTAT_STEP g) 0).capTrigger
      1 (· == t.get (BAL_INJCTL_AXIS g)) := by
  unfold State.injRun
  dsimp only
  rw [← ht, hlive, hmode, hok]
  rfl

/-- A legal START with a trigger to wait for arms its channel (R345). -/
theorem State.capStart_armed {s t : State} {c v : Nat} (hlive : t.balLive = true) (ht : t = s.capCtl c v)
    (haxis : t.get (BAL_CAPCTL_AXIS c) ≤ 71) (hlen : t.get (BAL_CAPLEN_LEN c) ≠ 0) (htrig : t.get (BAL_CAPCTL_TRIG c) ≠ 0) :
    s.capStart c v = ((((t.setCap c {}).set (BAL_CAPSTAT_WPTR c) 0).set (BAL_CAPSTAT_TRIGD c) 0).set (BAL_CAPSTAT_DONE c) 0).set
      (BAL_CAPSTAT_ARMED c) 1 := by
  have hgo : ¬ (71 < t.get (BAL_CAPCTL_AXIS c) || t.get (BAL_CAPLEN_LEN c) = 0) = true := by
    rw [decide_eq_false (Nat.not_lt.mpr haxis), decide_eq_false hlen]
    decide
  unfold State.capStart
  dsimp only
  rw [← ht, hlive, if_neg (by decide), if_neg hgo, if_neg htrig]
  rfl

/-- The oldest record goes out as a write of the channel's own (R18, R344). -/
theorem State.capWrite_issues {s : State} {c i : Nat} {ws : List Nat} {q : List (Nat × List Nat)} (ecc : Ecc) (hlive : s.balLive = true)
    (hqueue : (s.cap c).queue = (i, ws) :: q) (hfar : (s.cap c).far = false)
    (hreqs : (s.skz.reqs.any fun r => r.own == some (2 + c)) = false) : s.capWrite c ecc =
    ({ s.setCap c { s.cap c with far := true } with own := (s.setCap c { s.cap c with far := true }).own ++
      [.issue (2 + c) ((s.pair (BAL_CAPBASE_LO_ADDR c) (BAL_CAPBASE_HI_ADDR c) + 32 * i) % 2 ^ 40) (ws.flatMap fun w => leBytes w 4) ecc] } :
      State) := by
  unfold State.capWrite
  rw [hqueue]
  dsimp only
  rw [hlive, hfar, hreqs]
  rfl

/-- A record written without error makes place for the next (R345). -/
theorem State.capEnded_ok {u : State} {c i : Nat} {ws : List Nat} {q : List (Nat × List Nat)} (hqueue : (u.cap c).queue = (i, ws) :: q)
    (hfar : (u.cap c).far = true) : u.capEnded c true =
    ((u.setCap c { u.cap c with queue := q, far := false }).set (BAL_CAPSTAT_WPTR c) ((i + 1) % u.get (BAL_CAPLEN_LEN c))).capCheck c := by
  unfold State.capEnded
  rw [hqueue]
  dsimp only
  rw [hfar]
  rfl

/-- Settles O36: each command in the case the statement names; the record's write is what settling does. -/
theorem injectionAndCaptureCommands : Obligations.InjectionAndCaptureCommands := by
  unfold Obligations.InjectionAndCaptureCommands
  refine ⟨fun s t g v hs hlive ht hmode hok => ?_, fun s g hs hactive => ?_, fun s t c v hs hlive ht haxis hlen htrig => ?_,
    fun s c hs => ?_, fun s u c i a ws q hs hlive hqueue hfar hreqs ha hdram hsys hspan hu => ?_⟩
  · have hlive' : t.balLive = true := by
      rw [ht]
      exact hlive
    exact State.next_of_ctrl hs (State.injRun_ctrl ..) (State.injRun_legal hlive' ht hmode hok)
  · have hstop : s.begin.genStop g.val = (s.begin.setGen g.val {}).set (BAL_INJSTAT_ACTIVE g.val) 0 := if_pos hactive
    exact State.next_of_ctrl hs (State.genStop_ctrl ..) hstop
  · have hlive' : t.balLive = true := by
      rw [ht]
      exact hlive
    exact State.next_of_ctrl hs (State.capStart_ctrl ..) (State.capStart_armed hlive' ht haxis hlen htrig)
  · exact State.next_of_ctrl hs (State.capStop_ctrl ..) rfl
  · have hkind : (if 2 + c.val < 2 then 6 else 7) = 7 := if_neg (by omega)
    have hissue : s.begin.capWrite c.val .clean = { s.begin.setCap c.val { s.cap c.val with far := true } with
        own := [.issue (2 + c.val) a (ws.flatMap fun (w : Nat) => leBytes w 4) .clean] } := by
      rw [ha]
      exact State.capWrite_issues (s := s.begin) .clean hlive hqueue hfar hreqs
    have hcap : u.cap c.val = { s.cap c.val with far := true } := by
      rw [hu, State.store_keeps (fun t => t.cap c.val) (fun _ _ _ => rfl)]
      exact State.setCap_same ..
    have hlen : u.get (BAL_CAPLEN_LEN c.val) = s.get (BAL_CAPLEN_LEN c.val) := by
      rw [hu]
      exact State.store_keeps (fun t => t.get (BAL_CAPLEN_LEN c.val)) (fun _ _ _ => rfl) ..
    have hended : u.ownEnded (2 + c.val) true = ((u.setCap c.val { s.cap c.val with queue := q, far := false }).set (BAL_CAPSTAT_WPTR c.val)
        ((i + 1) % s.get (BAL_CAPLEN_LEN c.val))).capCheck c.val := by
      unfold State.ownEnded
      rw [if_neg (by omega), if_neg (by omega), Nat.add_sub_cancel_left, State.capEnded_ok (by rw [hcap]; exact hqueue) (by rw [hcap]),
        hcap, hlen]
    have hwrite := (State.ownWrite_dram (s := s.begin.setCap c.val { s.cap c.val with far := true })
      (l := ws.flatMap fun (w : Nat) => leBytes w 4) hsys hdram hspan hkind).trans
      ((congrArg (fun t : State => t.ownEnded (2 + c.val) true) hu.symm).trans hended)
    have hctrl : u.ctrl = s.begin.ctrl := by
      rw [hu]
      exact State.store_ctrl ..
    refine (State.next_settle hissue).trans (congrArg Host.Outcome.next ((State.own_settle s _ _ hs (State.setCap_ctrl ..) ?_).trans hwrite))
    rw [hwrite, State.capCheck_ctrl, State.set_ctrl, State.setCap_ctrl]
    exact hctrl

end Sys2Proof.Machine
end

section
/-! PROOF (O37). The slots of a head link and its exchange of time (R365, R366, R373, R374, R394). -/
namespace Sys2Proof.Machine

/-- A TLM slot is taken in TIME and in L0 (R365). -/
theorem tlm_state {st : Nat} (hst : st = 4 ∨ st = 5) {live asleep : Bool} (hl : live = true) :
    ¬ (!live || decide (st < 4) || decide (7 < st) || (st == 7 && asleep)) = true := by
  rw [hl]
  rcases hst with h | h <;> rw [h] <;> exact Bool.false_ne_true

section
variable {s : State} {n : Nat} (hlive : s.hlLive n = true)
include hlive

/-- What a good TRN slot tells of the head, and its count (R365, R380). -/
def State.trnHeard (s : State) (n : Nat) (t : TrnSlot) : State :=
  ((((s.set (HL_TRAIN_HVMIN n) t.vmin.val).set (HL_TRAIN_HVMAX n) t.vmax.val).set (HL_TRAIN_HRATES n) t.rates.toNat).set
    (HL_HEADMODEL_MODEL n) t.model.toNat).modHl n fun (x : HlSt) => { x with ack := true, good := x.good + 1, headEq := t.eqok }

/-- In NEGOTIATE a slot that agrees counts down (R380, R381). -/
theorem State.hlTrnSlot_negotiating {u : State} {t : TrnSlot} (hstate : s.hlState n = 2) (hok : trnOk t = true) (hu : u = s.trnHeard n t) :
    s.hlTrnSlot n t = (u.setHl n { u.hl n with
      cd := if t.ack && t.chv.val == (u.hl n).chv && t.chr.val == (u.hl n).chr then (u.hl n).cd - 1 else 7 }).hlSendTrn n := by
  unfold State.hlTrnSlot
  dsimp only
  rw [hlive, hstate, hok, hu]
  rfl

/-- A bad slot in training begins the count again (R365, R388). -/
theorem State.hlTrnSlot_bad {t : TrnSlot} (hstate : s.hlState n = 1 ∨ s.hlState n = 2 ∨ s.hlState n = 3) (hok : trnOk t = false) :
    s.hlTrnSlot n t =
    ((s.hlSlotBad n t.stuf).modHl n fun (x : HlSt) => { x with ack := false, good := 0, cd := 7 }).hlSendTrn n := by
  have hgo : ¬ (!s.hlLive n || s.hlState n == 0 || decide (3 < s.hlState n)) = true := by
    rw [hlive]
    rcases hstate with h | h | h <;> rw [h] <;> decide
  unfold State.hlTrnSlot
  dsimp only
  rw [if_neg hgo, hok]
  rfl

theorem State.hlTlmSlot_time {t : TlmSlot} (hstate : s.hlState n = 4) (hplace : t.overflow = false) (hok : tlmOk t = true) :
    s.hlTlmSlot n t = ((s.modHl n fun (x : HlSt) =>
      { x with good := if t.seq.toNat == s.hlUpStart n / 1000 % 256 && t.onTime then x.good + 1 else 0 }).hlCfgAck n t.cfgack.toNat).hlL0Check
      n := by
  unfold State.hlTlmSlot
  dsimp only
  rw [if_neg (tlm_state (Or.inl hstate) hlive), hplace, hok, if_neg Bool.false_ne_true, if_neg (by decide)]
  exact if_pos hstate

theorem State.hlTlmSlot_overflow {t : TlmSlot} (hstate : s.hlState n = 5) (hplace : t.overflow = true) :
    s.hlTlmSlot n t = s.pulse (laserSrc n 9) := by
  unfold State.hlTlmSlot
  dsimp only
  rw [if_neg (tlm_state (Or.inr hstate) hlive)]
  exact if_pos hplace

/-- A TLM slot in L0 on its sequence number, with nothing to report, delivers its sample (R365, R388 to R390). -/
theorem State.hlTlmSlot_quiet {u : State} {t : TlmSlot} (hstate : s.hlState n = 5) (hplace : t.overflow = false) (hok : tlmOk t = true)
    (hseq : t.seq.toNat = s.hlUpStart n / 1000 % 256) (hmiss : t.miss = false) (hdrop : t.camdrop = false) (hhot : t.hot = false)
    (hfault : t.hfault = false)
    (hu : u = ((s.modHl n fun (x : HlSt) => { x with good := if t.onTime then x.good + 1 else 0 }).hlCfgAck n t.cfgack.toNat).modHl n
      fun (x : HlSt) => { x with seqBad := 0 }) (hclear : u.flag (HL_STAT_HFAULT n) = false) (hbal : u.balLive = true) :
    s.hlTlmSlot n t = { u with bal := { u.bal with tlm := Sparse.insert u.bal.tlm n ⟨s.hlUpStart n - 16,
      [posCode t.posX, posCode t.posY, posCode t.posZ], [sgn 16 t.ix.toNat, sgn 16 t.iy.toNat, sgn 16 t.iz.toNat]⟩ } } := by
  have hfclr (r : BalSt) : ({ u with bal := r } : State).hlFclr n = { u with bal := r } := by
    have hflag : ({ u with bal := r } : State).flag (HL_STAT_HFAULT n) = false := hclear
    unfold State.hlFclr
    rw [hflag]
    rfl
  have hquiet : u.hlHfault n false = u := by
    unfold State.hlHfault
    rw [hclear]
    rfl
  have h4 : s.hlState n ≠ 4 := by omega
  have h7 : s.hlState n ≠ 7 := by omega
  have hnone : ¬ (2 : Nat) ≤ 0 := by decide
  unfold State.hlTlmSlot
  dsimp only
  rw [if_neg (tlm_state (Or.inr hstate) hlive), hplace, hok, if_neg Bool.false_ne_true, if_neg (by decide), if_neg h4, if_neg h7,
    hmiss, hdrop, hhot, hfault, hseq]
  simp only [beq_self_eq_true, Bool.true_and, if_true, Bool.false_eq_true, if_false, hnone, ← hu, hquiet, hbal]
  exact hfclr _

theorem State.hlPdSlot_good {p : PdSlot} (hl0 : s.inL0 n = true) (hplace : p.overflow = false) (hok : pdOk p = true)
    (hreg : s.heldInReset (64 + n) = false) : s.hlPdSlot n p = s.pdTriple n p.pd0.toNat p.pd1.toNat p.pd2.toNat := by
  unfold State.hlPdSlot
  rw [hlive, hl0, hplace, hok, hreg]
  rfl

theorem State.hlPdSlot_bad {p : PdSlot} (hl0 : s.inL0 n = true) (hplace : p.overflow = false) (hok : pdOk p = false) :
    s.hlPdSlot n p = s.hlSlotBad n p.stuf := by
  unfold State.hlPdSlot
  rw [hlive, hl0, hplace, hok]
  rfl

theorem State.hlPdSlot_overflow {p : PdSlot} (hl0 : s.inL0 n = true) (hplace : p.overflow = true) :
    s.hlPdSlot n p = s.pulse (laserSrc n 6) := by
  unfold State.hlPdSlot
  rw [hlive, hl0, hplace]
  rfl

/-- The answer to a mailbox write ends it with its status (R366, R401). -/
theorem State.hlResp_write {r : SvcSlot} {m : SvcTx} (hstate : 4 ≤ s.hlState n ∧ s.hlState n ≤ 7) (hok : svcOk 3 r = true)
    (hsvc : (s.hl n).svc = some m) (htyp : m.typ = 2) (htag : m.tag = r.tag.toNat) : s.hlResp n r =
    ((((s.set (HL_SVCSTAT_RSTAT n) r.status.toNat).set (HL_SVCSTAT_BUSY n) 0).set (HL_SVCSTAT_DONE n) 1)).hlSvcEnd n := by
  have hmine : (m.typ = 1 ∨ m.typ = 2) ∧ m.tag = r.tag.toNat := ⟨Or.inr htyp, htag⟩
  have hread : ¬ (m.typ = 1 ∧ r.status = 0) := fun h => absurd (htyp.symm.trans h.1) (by decide)
  unfold State.hlResp
  rw [hlive, decide_eq_false (Nat.not_lt.mpr hstate.1), decide_eq_false (Nat.not_lt.mpr hstate.2), hok, hsvc]
  dsimp only
  rw [if_neg (by decide), if_neg (by decide), if_pos hmine, if_neg hread]

/-- In L0 an answered exchange within two units corrects nothing (R373, R374). -/
theorem State.hlTresp_aligned {r : TrespSlot} {t1 : Nat} {m : SvcTx} {th : Rat} {up dn : Int} (hstate : s.hlState n = 5)
    (hok : svcOk 0x11 r.svc = true) (hopen : (s.hl n).t1 = some t1) (hsvc : (s.hl n).svc = some m) (htyp : m.typ = 0x10)
    (htag : m.tag = r.svc.tag.toNat) (hup : up = sgn 64 ((dword r.svc.d0 r.svc.d1) + 2 ^ 64 - t1))
    (hdn : dn = sgn 64 (r.t4.toNat + 2 ^ 64 - (dword r.svc.d2 r.svc.d3))) (hth : th = mkRat (up - dn) 2) (hsmall : absQ th < 2) :
    s.hlTresp n r = ((s.set (HL_TIME_DELAY n) (enc 16 (roundEven (mkRat (up + dn) 2)))).modHl n fun (x : HlSt) =>
      { x with t1 := none }).hlSvcEnd n := by
  subst hup hdn hth
  have hmine : ¬ (m.typ ≠ 0x10 ∨ m.tag ≠ r.svc.tag.toNat) := by
    rintro (h | h)
    · exact h htyp
    · exact h htag
  have hadj := Rat.not_le.mpr hsmall
  have herr := Rat.not_lt.mpr (Rat.le_trans (Rat.le_of_lt hsmall) (by decide : (2 : Rat) ≤ 4))
  unfold State.hlTresp
  dsimp only
  rw [hlive, hstate, hok, hopen, hsvc]
  dsimp only
  rw [if_neg (by decide), if_neg (by decide), if_neg hmine, if_neg (by decide), if_neg hadj, if_neg herr]

/-- A sleep message that the link's state allows takes the uplink into L0s (R393, R394). -/
theorem State.hlPm_sleeps {x : SvcSlot} (hstate : s.hlState n = 5) (hok : svcOk 0x18 x = true) (hcode : x.d0.toNat % 16 = 1)
    (hver : 2 ≤ s.get (HL_STAT_VERSION n)) (hpm : (s.hl n).pm = true) (hmay : s.hlMaySleep n = true) :
    s.hlPm n x = (s.hlTo n 6).set (HL_STAT_UPPS n) 1 := by
  unfold State.hlPm
  dsimp only
  rw [hlive, hstate, hok, hcode, decide_eq_true hver, hpm, hmay]
  rfl

theorem State.hlTrackTime_due (hl0 : s.inL0 n = true) (hver : s.get (HL_STAT_VERSION n) = 3)
    (hdue : (s.hl n).syncAt + 4096 * frameBeats ≤ s.beat) (hclosed : (s.hl n).t1 = none) : s.hlTrackTime n =
    (s.modHl n fun (x : HlSt) => { x with syncAt := s.beat }).hlSvcQueue n { typ := 0x10 } := by
  unfold State.hlTrackTime
  dsimp only
  rw [hlive, hl0, hver, decide_eq_true hdue, hclosed]
  rfl

end

/-- Settles O37: each slot of the link, in the state the statement names. -/
theorem headLinkSlots : Obligations.HeadLinkSlots := by
  unfold Obligations.HeadLinkSlots
  refine ⟨fun s u n t hs hlive hstate hok hu => ?_, fun s n t hs hlive hstate hok => ?_, fun s n t hs hlive hstate hplace hok => ?_,
    fun s u n t hs hlive hstate hplace hok hseq hmiss hdrop hhot hfault hu hclear hbal => ?_, fun s n t hlive hstate hplace => ?_,
    fun s n p hs hlive hl0 hplace hok hreg => ?_, fun s n p hs hlive hl0 hplace hok => ?_, fun s n p hlive hl0 hplace => ?_,
    fun s n r m hs hlive hstate hok hsvc htyp htag => ?_,
    fun s n r t1 m th up dn hs hlive hstate hok hopen hsvc htyp htag hup hdn hth hsmall => ?_,
    fun s n x hs hlive hstate hok hcode hver hpm hmay => ?_, fun s n hs hlive hl0 hver hdue hclosed => ?_⟩
  · have hctrl : u.ctrl = s.begin.ctrl := by
      rw [hu, State.modHl_ctrl, State.set_ctrl, State.set_ctrl, State.set_ctrl, State.set_ctrl]
    exact State.next_of_rest hs (State.hlTrnSlot_negotiating (s := s.begin) hlive hstate hok hu)
      ((State.hlSendTrn_ctrl ..).trans ((State.setHl_ctrl ..).trans hctrl))
  · refine State.next_of_rest hs (State.hlTrnSlot_bad (s := s.begin) hlive hstate hok) ?_
    rw [State.hlSendTrn_ctrl, State.modHl_ctrl, State.hlSlotBad_ctrl]
  · refine State.next_of_rest hs (State.hlTlmSlot_time (s := s.begin) hlive hstate hplace hok) ?_
    rw [State.hlL0Check_ctrl, State.hlCfgAck_ctrl, State.modHl_ctrl]
  · have hctrl : u.ctrl = s.begin.ctrl := by rw [hu, State.modHl_ctrl, State.hlCfgAck_ctrl, State.modHl_ctrl]
    exact State.next_of_rest hs
      (State.hlTlmSlot_quiet (s := s.begin) hlive hstate hplace hok hseq hmiss hdrop hhot hfault hu hclear hbal) hctrl
  · exact State.next_settle (State.hlTlmSlot_overflow (s := s.begin) hlive hstate hplace)
  · exact State.next_of_rest hs (State.hlPdSlot_good (s := s.begin) hlive hl0 hplace hok hreg) (State.pdTriple_ctrl ..)
  · exact State.next_of_rest hs (State.hlPdSlot_bad (s := s.begin) hlive hl0 hplace hok) (State.hlSlotBad_ctrl ..)
  · exact State.next_settle (State.hlPdSlot_overflow (s := s.begin) hlive hl0 hplace)
  · exact State.next_of_ctrl hs (State.hlResp_ctrl ..) (State.hlResp_write (s := s.begin) hlive hstate hok hsvc htyp htag)
  · refine State.next_of_rest hs
      (State.hlTresp_aligned (s := s.begin) hlive hstate hok hopen hsvc htyp htag hup hdn hth hsmall) ?_
    rw [State.hlSvcEnd_ctrl, State.modHl_ctrl, State.set_ctrl]
  · exact State.next_of_ctrl hs (State.hlPm_ctrl ..) (State.hlPm_sleeps (s := s.begin) hlive hstate hok hcode hver hpm hmay)
  · exact State.next_of_ctrl hs (State.hlTrackTime_ctrl ..) (State.hlTrackTime_due (s := s.begin) hlive hl0 hver hdue hclosed)

end Sys2Proof.Machine
end

section
/-! PROOF (O38). Training, equalising and losing a head link (R377 to R387). -/
namespace Sys2Proof.Machine

section
variable {s : State} {n : Nat} (hlive : s.hlLive n = true)
include hlive

theorem State.hlEnable_rises (hen : s.flag (HL_CTL_EN n) = false) : s.hlEnable n =
    if (s.set (HL_CTL_EN n) 1).hlPowered then (s.set (HL_CTL_EN n) 1).hlTrain n else s.set (HL_CTL_EN n) 1 := by
  unfold State.hlEnable
  rw [hlive, hen]
  rfl

theorem State.hlRetrain_enabled (hen : s.flag (HL_CTL_EN n) = true) (hpow : s.hlPowered = true) : s.hlRetrain n = s.hlTrain n := by
  unfold State.hlRetrain
  rw [hlive, hen, hpow]
  rfl

theorem State.hlRateSwitch_due (hstate : s.hlState n = 2) (hcd : (s.hl n).cd = 0) : s.hlRateSwitch n =
    ((s.hlTo n 3).set (HL_STAT_RATE n) (s.hl n).chr).set (HL_STAT_VERSION n) (s.hl n).chv := by
  unfold State.hlRateSwitch
  rw [hlive, hstate, hcd]
  rfl

theorem State.hlEqDone_due (hstate : s.hlState n = 3) (hok : s.hlEqOk n = true) (hhead : (s.hl n).headEq = true) : s.hlEqDone n =
    ((s.hlTrnOut n 4 true).draw.set (HL_EQ_PEAK n)
      (if s.flag (HL_CTL_EQFIX n) then s.get (HL_EQ_PEAKFIX n) else s.freeNext % 16)).hlTime n := by
  unfold State.hlEqDone
  rw [hlive, hstate, hok, hhead]
  exact if_pos rfl

/-- EQUALISE that runs out fails its rate and negotiates again (R382, R385). -/
theorem State.hlTimeout_equalise (hstate : s.hlState n = 3) (hdue : (s.hl n).since + 4 * beatsPerMs ≤ s.beat) : s.hlTimeout n =
    (s.set (HL_TRAIN_RATEFAIL n) (s.get (HL_TRAIN_RATEFAIL n) ||| 2 ^ s.get (HL_STAT_RATE n))).hlNegotiate n true := by
  have hgo : ¬ (!s.hlLive n || !(s.hlState n == 2 || s.hlState n == 3 || s.hlState n == 4) ||
      decide (s.beat < (s.hl n).since + 4 * beatsPerMs)) = true := by
    rw [hlive, hstate, decide_eq_false (Nat.not_lt.mpr hdue)]
    decide
  unfold State.hlTimeout
  dsimp only
  rw [if_pos hstate, if_neg hgo, if_pos hstate]

/-- Another training state that runs out is tried again from DETECT while tries are left (R385). -/
theorem State.hlTimeout_again (hstate : s.hlState n = 2 ∨ s.hlState n = 4) (hdue : (s.hl n).since + beatsPerMs ≤ s.beat)
    (htries : (s.hl n).tries + 1 < max 1 (s.get (HL_CTL_MAXTRY n))) : s.hlTimeout n =
    ((s.incSat (HL_TRAIN_ATTEMPTS n)).modHl n fun (y : HlSt) => { y with tries := y.tries + 1 }).hlDetect n := by
  have hne : s.hlState n ≠ 3 := by omega
  have hgo : ¬ (!s.hlLive n || !(s.hlState n == 2 || s.hlState n == 3 || s.hlState n == 4) ||
      decide (s.beat < (s.hl n).since + beatsPerMs)) = true := by
    rw [hlive, decide_eq_false (Nat.not_lt.mpr hdue)]
    rcases hstate with h | h <;> rw [h] <;> decide
  unfold State.hlTimeout
  dsimp only
  rw [if_neg hne, if_neg hgo, if_neg hne]
  exact if_neg (Nat.not_le.mpr htries)

/-- A link that trains again, or is disabled, by AUTORT (R387). -/
theorem State.hlLoss_up (hlo : 4 ≤ s.hlState n) (hhi : s.hlState n ≤ 6) (hactive : s.get (HL_STAT_UPPS n) = 0) : s.hlLoss n =
    (let t : State := ((s.set (HL_STAT_LOF n) 1).set (HL_STAT_DOWN n) 1).pulse (laserSrc n 0xA)
     if t.flag (HL_CTL_AUTORT n) then t.hlDetect n else t.hlIdle n 0) := by
  have hgo : ¬ (!s.hlLive n || decide (s.hlState n < 2) || decide (6 < s.hlState n) || decide (s.get (HL_STAT_UPPS n) ≠ 0)) = true := by
    rw [hlive, decide_eq_false (show ¬ s.hlState n < 2 by omega), decide_eq_false (Nat.not_lt.mpr hhi),
      decide_eq_false (not_not_intro hactive)]
    decide
  unfold State.hlLoss
  dsimp only
  rw [if_neg hgo, if_pos hlo]

theorem State.hlEqStep_due {peak : Nat} (hl0 : s.inL0 n = true) (hfix : s.flag (HL_CTL_EQFIX n) = false)
    (hdue : (s.hl n).eqAt + 4096 * frameBeats ≤ s.beat) (hup : peak ≤ s.get (HL_EQ_PEAK n) + 1) (hdown : s.get (HL_EQ_PEAK n) ≤ peak + 1) :
    s.hlEqStep n peak = (s.set (HL_EQ_PEAK n) peak).modHl n fun (x : HlSt) => { x with eqAt := s.beat } := by
  unfold State.hlEqStep
  dsimp only
  rw [hlive, hl0, hfix, decide_eq_true hdue, decide_eq_true hup, decide_eq_true hdown]
  rfl

end

/-- Settles O38: each step of the training in the state the statement names. -/
theorem headLinkTraining : Obligations.HeadLinkTraining := by
  unfold Obligations.HeadLinkTraining
  refine ⟨fun s n hs hlive hen => ?_, fun s n hs hlive hen hpow => ?_, fun s n hs hlive hstate hcd => ?_,
    fun s n hs hlive hstate hok hhead => ?_, fun s n hlive hstate hdue => ?_, fun s n hlive hstate hdue htries => ?_,
    fun s n hlive hlo hhi hactive => ?_, fun s n p hs hlive hl0 hfix hdue hup hdown => ?_⟩
  · exact State.next_of_ctrl hs (State.hlEnable_ctrl ..) (State.hlEnable_rises (s := s.begin) hlive hen)
  · exact State.next_of_ctrl hs (State.hlRetrain_ctrl ..) (State.hlRetrain_enabled (s := s.begin) hlive hen hpow)
  · exact State.next_of_ctrl hs (State.hlRateSwitch_ctrl ..) (State.hlRateSwitch_due (s := s.begin) hlive hstate hcd)
  · exact State.next_of_ctrl hs (State.hlEqDone_ctrl ..) (State.hlEqDone_due (s := s.begin) hlive hstate hok hhead)
  · exact State.next_settle (State.hlTimeout_equalise (s := s.begin) hlive hstate hdue)
  · exact State.next_settle (State.hlTimeout_again (s := s.begin) hlive hstate hdue htries)
  · exact State.next_settle (State.hlLoss_up (s := s.begin) hlive hlo hhi hactive)
  · exact State.next_of_ctrl hs (State.hlEqStep_ctrl ..) (State.hlEqStep_due (s := s.begin) hlive hl0 hfix hdue hup hdown)

end Sys2Proof.Machine
end

section
/-! PROOF (O39). The power states of a head link, its service requests and the resend of its configuration (R391 to R394, R401). -/
namespace Sys2Proof.Machine

section
variable {s : State} {n : Nat} (hlive : s.hlLive n = true)
include hlive

/-- A downlink quiet for 16 superframes goes idle (R393). -/
theorem State.hlL0s_quiet (hstate : s.hlState n = 5) (hactive : s.get (HL_STAT_DNPS n) = 0) (hen : s.flag (HL_CTL_L0SDNEN n) = true)
    (hver : 2 ≤ s.get (HL_STAT_VERSION n)) (hmay : s.hlMaySleep n = true) (hcfg : (s.hl n).cfg = []) (hwait : (s.hl n).cfgWait = [])
    (hsvc : (s.hl n).svc = none) (hqueue : (s.hl n).svcQueue = []) (htraffic : (s.hl n).traffic + 16 * frameBeats ≤ s.beat)
    (hsince : (s.hl n).since + 16 * frameBeats ≤ s.beat) :
    s.hlL0s n = ((s.hlSvcSlot n { typ := 0x18, data := [1] }).hlTo n 6).set (HL_STAT_DNPS n) 1 := by
  unfold State.hlL0s
  dsimp only
  rw [hlive, hstate, hactive, hen, decide_eq_true hver, hmay, hcfg, hwait, hsvc, hqueue, decide_eq_true htraffic, decide_eq_true hsince]
  rfl

/-- From L0s the link is in L0 once both directions are active (R393, R394). -/
theorem State.hlWakeDetect_up (hstate : s.hlState n = 6) (hactive : s.get (HL_STAT_DNPS n) = 0) :
    s.hlWakeDetect n = (s.set (HL_STAT_UPPS n) 0).hlTo n 5 := by
  have hdown : (s.set (HL_STAT_UPPS n) 0).get (HL_STAT_DNPS n) = 0 := by
    rw [State.get_set_ne _ _ _ _ (by simp [Fld.key, HL_STAT_DNPS, HL_STAT_UPPS])]
    exact hactive
  unfold State.hlWakeDetect
  rw [hlive, if_neg (by decide), if_pos hstate]
  exact if_pos hdown

theorem State.hlL1Req_allowed (hen : s.flag (HL_CTL_L1EN n) = true) (hstate : s.hlState n = 5) (hver : s.get (HL_STAT_VERSION n) = 3)
    (hmay : s.hlMaySleep n = true) (hnot : (s.hl n).l1Req = false) : s.hlL1Req n =
    (s.modHl n fun (x : HlSt) => { x with l1Req := true }).hlSvcQueue n { typ := 0x18, data := [2] } := by
  have hask : s.hlAskL1 n = (s.modHl n fun (x : HlSt) => { x with l1Req := true }).hlSvcQueue n { typ := 0x18, data := [2] } := by
    unfold State.hlAskL1
    rw [hlive, hstate, hver, hmay, hnot]
    rfl
  unfold State.hlL1Req
  rw [if_pos hen, hask]

theorem State.hlWake_l1 (hstate : s.hlState n = 7) (hnot : (s.hl n).waking = false) : s.hlWake n =
    ((s.set (HL_STAT_UPPS n) 0).set (HL_STAT_DNPS n) 0).modHl n fun (x : HlSt) => { x with waking := true, good := 0 } := by
  unfold State.hlWake
  rw [hlive, hstate, hnot]
  rfl

/-- GO on a free mailbox of a link in L0 (R401). -/
theorem State.hlSvcGo_free {v l0 len : Nat} (hbusy : s.flag (HL_SVCSTAT_BUSY n) = false) (hl0 : s.inL0 n = true) (hl : l0 = bits v 2 0)
    (hlen : len = if l0 = 0 then 1 else min l0 4) : s.hlSvcGo n v =
    (((s.set (HL_SVCCMD_WRITE n) (b2n (bit v 8))).set (HL_SVCCMD_LEN n) l0).set (HL_SVCSTAT_BUSY n) 1).hlSvcQueue n
      { typ := if bit v 8 then 2 else 1, len, addr := s.get (HL_SVCADDR_ADDR n)
        data := if bit v 8 then (List.range len).map (fun k => s.get (HL_SVCDATA_DATA n k)) else [] } := by
  unfold State.hlSvcGo
  dsimp only
  rw [hlive, hbusy, hl0, hlen, hl]
  rfl

theorem State.hlSvcGo_refused (v : Nat) (h : s.flag (HL_SVCSTAT_BUSY n) = true ∨ s.inL0 n = false) :
    s.hlSvcGo n v = s.set (HL_SVCSTAT_ERR n) 1 := by
  have hgo : (s.flag (HL_SVCSTAT_BUSY n) || !s.inL0 n) = true := by
    rcases h with h | h <;> rw [h]
    · rfl
    · exact Bool.or_true _
  unfold State.hlSvcGo
  rw [hlive, hgo]
  rfl

section
variable {m : SvcTx} (hsvc : (s.hl n).svc = some m) (hdue : m.sentAt + 8 * frameBeats ≤ s.beat)
include hsvc hdue

theorem State.hlSvcRetry_again (htries : m.tries < 3) : s.hlSvcRetry n = s.hlSvcSend n { m with tries := m.tries + 1 } := by
  unfold State.hlSvcRetry
  rw [hsvc]
  dsimp only
  rw [hlive, decide_eq_false (Nat.not_lt.mpr hdue), if_neg (by decide), if_pos htries]

/-- A mailbox request without an answer after its resends ends with an error (R391, R401). -/
theorem State.hlSvcRetry_over (htries : 3 ≤ m.tries) (htyp : m.typ = 1 ∨ m.typ = 2) : s.hlSvcRetry n =
    (((s.set (HL_SVCSTAT_ERR n) 1).set (HL_SVCSTAT_RSTAT n) 0xFF).set (HL_SVCSTAT_BUSY n) 0).hlSvcEnd n := by
  unfold State.hlSvcRetry
  rw [hsvc]
  dsimp only
  rw [hlive, decide_eq_false (Nat.not_lt.mpr hdue), if_neg (by decide), if_neg (Nat.not_lt.mpr htries), if_pos htyp]

end

theorem State.hlCfgResend_due (hcfg : (s.hl n).cfg ≠ []) (hdue : (s.hl n).ackAt + 8 * frameBeats ≤ s.beat) : s.hlCfgResend n =
    (s.hl n).cfg.foldl (fun (t : State) e => t.hlCfgSlot n e) (s.setHl n { s.hl n with ackAt := s.beat }) := by
  have hsome : (s.hl n).cfg.isEmpty = false := Bool.eq_false_iff.mpr fun h => hcfg (List.isEmpty_iff.mp h)
  unfold State.hlCfgResend
  dsimp only
  rw [hlive, hsome, decide_eq_true hdue]
  rfl

end

/-- Settles O39: each power state and service in the case the statement names. -/
theorem headLinkPowerAndServices : Obligations.HeadLinkPowerAndServices := by
  unfold Obligations.HeadLinkPowerAndServices
  refine ⟨fun s n hs hlive hstate hactive hen hver hmay hcfg hwait hsvc hqueue htraffic hsince => ?_, fun s n hs hlive hstate hactive => ?_,
    fun s n hs hen hlive hstate hver hmay hnot => ?_, fun s n hs hlive hstate hnot => ?_,
    fun s n v l0 len hs hlive hbusy hl0 hl hlen => ?_, fun s n v hs hlive h => ?_, fun s n m hs hlive hsvc hdue htries => ?_,
    fun s n m hs hlive hsvc hdue htries htyp => ?_, fun s n hs hlive hcfg hdue => ?_⟩
  · exact State.next_of_ctrl hs (State.hlL0s_ctrl ..)
      (State.hlL0s_quiet (s := s.begin) hlive hstate hactive hen hver hmay hcfg hwait hsvc hqueue htraffic hsince)
  · exact State.next_of_ctrl hs (State.hlWakeDetect_ctrl ..) (State.hlWakeDetect_up (s := s.begin) hlive hstate hactive)
  · exact State.next_of_ctrl hs (State.hlL1Req_ctrl ..) (State.hlL1Req_allowed (s := s.begin) hlive hen hstate hver hmay hnot)
  · exact State.next_of_ctrl hs (State.hlWake_ctrl ..) (State.hlWake_l1 (s := s.begin) hlive hstate hnot)
  · exact State.next_of_ctrl hs (State.hlSvcGo_ctrl ..) (State.hlSvcGo_free (s := s.begin) hlive hbusy hl0 hl hlen)
  · exact State.next_of_ctrl hs (State.hlSvcGo_ctrl ..) (State.hlSvcGo_refused (s := s.begin) hlive v.toNat h)
  · exact State.next_of_ctrl hs (State.hlSvcRetry_ctrl ..) (State.hlSvcRetry_again (s := s.begin) hlive hsvc hdue htries)
  · exact State.next_of_ctrl hs (State.hlSvcRetry_ctrl ..) (State.hlSvcRetry_over (s := s.begin) hlive hsvc hdue htries htyp)
  · exact State.next_of_ctrl hs (State.hlCfgResend_ctrl ..) (State.hlCfgResend_due (s := s.begin) hlive hcfg hdue)

end Sys2Proof.Machine
end

section
/-! PROOF (O40). The commands of an axis (R483 to R487, R495). -/
namespace Sys2Proof.Machine

/-- The command's word as a row of R483 writes it. -/
def State.motOp (s : State) (m op : Nat) : State := s.set (MOT_AX_CMD_OP m) op

theorem State.motOp_tgt (s : State) (m op : Nat) : (s.motOp m op).get (MOT_AX_TGT_VALUE m) = s.get (MOT_AX_TGT_VALUE m) :=
  State.get_set_ne _ _ _ _ (by simp only [Fld.key, MOT_AX_TGT_VALUE, MOT_AX_CMD_OP]; omega)

section
variable {s : State} {m op : Nat} (hlive : s.motLive = true) (hlink : s.rst.barrierDown = false)
include hlive hlink

theorem State.motRow_eq : s.motRow m op = (let u := s.motOp m op
    if u.motCheck m op ≠ 0 then (u.set (MOT_AX_STAT_CMDERR m) (u.motCheck m op)).set (MOT_AX_STAT_CMDREJ m) 1
    else if s.flag (MOT_AX_CMD_STAMPED m) then (u.set (MOT_AX_STAT_CMDERR m) 0).motStamp m op (u.get (MOT_AX_TGT_VALUE m))
      (motDue u.beat (aheadBy (u.pair (MOT_AX_STAMP_LO_STAMP m) (MOT_AX_STAMP_HI_STAMP m)) u.beat))
    else (u.set (MOT_AX_STAT_CMDERR m) 0).motDo m op (sgn 32 (u.get (MOT_AX_TGT_VALUE m)))) := by
  have hgo : ¬ (!(s.motOp m op).motLive || (s.motOp m op).rst.barrierDown) = true := by
    have hu : (s.motOp m op).motLive = true := hlive
    have hd : (s.motOp m op).rst.barrierDown = false := hlink
    rw [hu, hd]
    decide
  unfold State.motRow
  rw [hlive, if_neg (by decide)]
  unfold State.motCmd
  exact if_neg hgo

theorem State.motRow_rejected {c : Nat} (hcheck : (s.set (MOT_AX_CMD_OP m) op).motCheck m op = c) (hc : c ≠ 0) :
    s.motRow m op = ((s.set (MOT_AX_CMD_OP m) op).set (MOT_AX_STAT_CMDERR m) c).set (MOT_AX_STAT_CMDREJ m) 1 := by
  have hu : (s.motOp m op).motCheck m op = c := hcheck
  rw [State.motRow_eq hlive hlink]
  dsimp only
  rw [hu]
  exact if_pos hc

section
variable (hcheck : (s.set (MOT_AX_CMD_OP m) op).motCheck m op = 0)
include hcheck

theorem State.motRow_runs (hnow : s.flag (MOT_AX_CMD_STAMPED m) = false) : s.motRow m op =
    ((s.set (MOT_AX_CMD_OP m) op).set (MOT_AX_STAT_CMDERR m) 0).motDo m op (sgn 32 (s.get (MOT_AX_TGT_VALUE m))) := by
  have hu : ¬ (s.motOp m op).motCheck m op ≠ 0 := not_not_intro hcheck
  rw [State.motRow_eq hlive hlink]
  dsimp only
  rw [if_neg hu, hnow, if_neg Bool.false_ne_true, State.motOp_tgt]
  rfl

/-- A stamped command in time waits for its beat (R484). -/
theorem State.motRow_stamped {q : Bool × Nat} (hstamped : s.flag (MOT_AX_CMD_STAMPED m) = true)
    (hq : q = motDue s.beat (aheadBy ((s.set (MOT_AX_CMD_OP m) op).pair (MOT_AX_STAMP_LO_STAMP m) (MOT_AX_STAMP_HI_STAMP m)) s.beat))
    (htime : q.1 = false) : s.motRow m op = ((s.set (MOT_AX_CMD_OP m) op).set (MOT_AX_STAT_CMDERR m) 0).setMx m
      { s.mx m with stamped := some ⟨op, (s.set (MOT_AX_CMD_OP m) op).get (MOT_AX_TGT_VALUE m), q.2⟩ } := by
  have hu : ¬ (s.motOp m op).motCheck m op ≠ 0 := not_not_intro hcheck
  have hdue : motDue (s.motOp m op).beat (aheadBy ((s.motOp m op).pair (MOT_AX_STAMP_LO_STAMP m) (MOT_AX_STAMP_HI_STAMP m))
      (s.motOp m op).beat) = q := hq.symm
  rw [State.motRow_eq hlive hlink]
  dsimp only
  rw [if_neg hu, if_pos hstamped, hdue]
  unfold State.motStamp
  rw [htime]
  rfl

end

end

/-! ### What an accepted command does -/

/-- Drivers that come on for a command change nothing of the collector or the mode controller. -/
theorem State.motAccepted_ctrl {s u : State} {m op : Nat} (hu : u = ((s.set (MOT_AX_CMD_OP m) op).set (MOT_AX_STAT_CMDERR m) 0).motOn m) :
    u.ctrl = s.ctrl := by
  rw [hu, State.motOn_ctrl, State.set_ctrl, State.set_ctrl]

section
variable {s u : State} {m : Nat} (tgt : Int) (hu : u = s.motOn m)
include hu

theorem State.motDo_move (hmoving : u.motState m ≠ mtHoming) : s.motDo m 1 tgt = (u.motRetarget m tgt).setMotState m mtMove := by
  unfold State.motDo
  rw [← hu]
  exact if_neg hmoving

theorem State.motDo_vel (hmoving : u.motState m ≠ mtHoming) : s.motDo m 2 tgt = (u.motGo m (.run tgt)).setMotState m mtVel := by
  unfold State.motDo
  rw [← hu]
  exact if_neg hmoving

theorem State.motDo_stop : s.motDo m 3 tgt = u.motStop m := by
  rw [hu]
  rfl

theorem State.motDo_home : s.motDo m 4 tgt = u.homeStart m := by
  rw [hu]
  rfl

theorem State.motDo_setpos : s.motDo m 5 tgt =
    (((u.setMx m { u.mx m with p := (tgt : Rat), stalls := 0 }).set (MOT_AX_STAT_POSVALID m) 1).setMotState m mtHold).motShow m := by
  rw [hu]
  rfl

end

theorem State.motStop_moving {u : State} {m : Nat} (hmoving : u.motRest m = false) : u.motStop m =
    ((u.setMx m { u.mx m with phases := u.stopPhases m, done := 0, next := none }).setMotState m mtStopping).set (MOT_AX_STAT_HPHASE m) 0 := by
  unfold State.motStop
  rw [hmoving]
  rfl

theorem State.motStop_rest {u : State} {m : Nat} (hrest : u.motRest m = true) : u.motStop m = u := if_pos hrest

/-- Homing without an index search begins at the switch, or in search of it (R495). -/
theorem State.homeStart_switch {u t : State} {m : Nat} (hidx : u.flag (MOT_AX_CTL_IDXEN m) = false)
    (ht : t = (u.setMotState m mtHoming).setMx m { u.mx m with hStart := u.beat }) :
    u.homeStart m = t.homePhase m (if u.homeOn m then 2 else 1) := by
  unfold State.homeStart
  rw [hidx, ht]
  rfl

/-- A stamped command runs on its beat (R484). -/
theorem State.motStamped_due {s : State} {m : Nat} {c : MotStamp} (hlive : s.motLive = true) (hstamped : (s.mx m).stamped = some c)
    (hdue : c.due ≤ s.beat) (hlink : s.rst.barrierDown = false) (hcan : s.motCan m = true) (hmode : motFullMode s.modeCode = true) :
    s.motStamped m = (s.setMx m { s.mx m with stamped := none }).motDo m c.op (sgn 32 c.tgt) := by
  unfold State.motStamped
  dsimp only
  rw [hstamped]
  dsimp only
  rw [hlive, decide_eq_false (Nat.not_lt.mpr hdue), hlink, hcan, hmode]
  rfl

/-- Settles O40: each command of an axis, refused, stamped or run. -/
theorem motionCommands : Obligations.MotionCommands := by
  unfold Obligations.MotionCommands
  refine ⟨fun s u m hs hlive hlink hcheck hnow hu hmoving => ?_, fun s m c hs hlive hlink hcheck hc => ?_,
    fun s m q u hs hlive hlink hu hcheck hstamped hq htime => ?_, fun s u m hs hlive hlink hcheck hnow hu hmoving => ?_,
    fun s u m hs hlive hlink hcheck hnow hu hmoving => ?_, fun s u m hs hlive hlink hcheck hnow hu hrest => ?_,
    fun s u m hs hlive hlink hcheck hnow hu hidx t ht => ?_, fun s u m hs hlive hlink hcheck hnow hu => ?_,
    fun s m c hlive hstamped hdue hlink hcan hmode => ?_⟩
  · have hctrl := State.motAccepted_ctrl hu
    exact State.next_of_rest hs ((State.motRow_runs (s := s.begin) hlive hlink hcheck hnow).trans (State.motDo_move _ hu hmoving))
      ((State.setMotState_ctrl ..).trans ((State.motRetarget_ctrl ..).trans hctrl))
  · refine State.next_of_rest hs (State.motRow_rejected (s := s.begin) hlive hlink hcheck hc) ?_
    rw [State.set_ctrl, State.set_ctrl, State.set_ctrl]
  · subst hu
    refine State.next_of_rest hs (State.motRow_stamped (s := s.begin) hlive hlink hcheck hstamped hq htime) ?_
    rw [State.setMx_ctrl, State.set_ctrl, State.set_ctrl]
  · have hctrl := State.motAccepted_ctrl hu
    exact State.next_of_rest hs ((State.motRow_runs (s := s.begin) hlive hlink hcheck hnow).trans (State.motDo_vel _ hu hmoving))
      ((State.setMotState_ctrl ..).trans ((State.motGo_ctrl ..).trans hctrl))
  · have hctrl := State.motAccepted_ctrl hu
    refine State.next_of_rest hs ((State.motRow_runs (s := s.begin) hlive hlink hcheck hnow).trans
      ((State.motDo_stop _ hu).trans (State.motStop_moving hmoving))) ?_
    rw [State.set_ctrl, State.setMotState_ctrl, State.setMx_ctrl, hctrl]
  · have hctrl := State.motAccepted_ctrl hu
    exact State.next_of_rest hs ((State.motRow_runs (s := s.begin) hlive hlink hcheck hnow).trans
      ((State.motDo_stop _ hu).trans (State.motStop_rest hrest))) hctrl
  · have hctrl := State.motAccepted_ctrl hu
    refine State.next_of_rest hs ((State.motRow_runs (s := s.begin) hlive hlink hcheck hnow).trans
      ((State.motDo_home _ hu).trans (State.homeStart_switch hidx ht))) ?_
    rw [State.homePhase_ctrl, ht, State.setMx_ctrl, State.setMotState_ctrl, hctrl]
  · have hctrl := State.motAccepted_ctrl hu
    refine State.next_of_rest hs ((State.motRow_runs (s := s.begin) hlive hlink hcheck hnow).trans (State.motDo_setpos _ hu)) ?_
    rw [State.motShow_ctrl, State.setMotState_ctrl, State.set_ctrl, State.setMx_ctrl, hctrl]
  · exact State.next_settle (State.motStamped_due (s := s.begin) hlive hstamped hdue hlink hcan hmode)

end Sys2Proof.Machine
end

section
/-! PROOF (O41). The updates of an axis: profile, current, load angle, stall, limits and homing's bounds (R482 to R496). -/
namespace Sys2Proof.Machine

section
variable {s : State} {m : Nat} (hlive : s.motLive = true)
include hlive

/-- At rest the update of a microsecond concerns the current alone (R482, R491). -/
theorem State.motUpdate_rest (hdue : (s.mx m).updAt + 400 ≤ s.beat) (hrest : s.motRest m = true) :
    s.motUpdate m = (s.setMx m { s.mx m with updAt := s.beat }).motCurrent m := by
  unfold State.motUpdate
  dsimp only
  rw [hlive, decide_eq_false (Nat.not_lt.mpr hdue), hrest]
  rfl

/-- In the midst of a plan, with no back-off edge behind it, the axis advances by one microsecond (R482, R488). -/
theorem State.motUpdate_moving {t u : State} (hdue : (s.mx m).updAt + 400 ≤ s.beat) (hrest : s.motRest m = false)
    (ht : t = ((s.setMx m { s.mx m with updAt := s.beat }).motSoft m).motAdvance m) (hedge : (t.mx m).hEdge = none)
    (hu : u = t.motRes m (s.mx m).pos (t.mx m).pos) (hplan : (u.mx m).phases ≠ []) :
    s.motUpdate m = (u.motCurrent m).motShow m := by
  have hgoes (p : Prop) [Decidable p] (a : State) : (if (u.mx m).phases.isEmpty = true ∧ p then a else u) = u :=
    if_neg fun h => hplan (List.isEmpty_iff.mp h.1)
  unfold State.motUpdate
  dsimp only
  rw [hlive, decide_eq_false (Nat.not_lt.mpr hdue), hrest, if_neg (by decide), if_neg Bool.false_ne_true, ← ht, hedge, ← hu]
  dsimp only
  rw [hgoes]

theorem State.coilPeriod_due {w : Bool} (hon : s.motState m ≠ mtOff) (hdue : (s.mx m).pwmAt + 10000 ≤ s.beat)
    (hw : w = if s.flag (MOT_AX_STAT_CURMODE m) then !decide (absQ (s.mx m).v < 7 * s.speed16 (MOT_AX_QS_VSTRONG m) / 8)
      else decide (s.speed16 (MOT_AX_QS_VSTRONG m) < absQ (s.mx m).v)) : s.coilPeriod m =
    if w != s.flag (MOT_AX_STAT_CURMODE m) then
      ((s.setMx m { s.mx m with pwmAt := s.beat, hov := some (0, s.freeNext % 65536) }).set (MOT_AX_STAT_CURMODE m) (b2n w)).draw
    else s.setMx m { s.mx m with
      pwmAt := s.beat
      hov := (s.mx m).hov.bind fun (q : Nat × Nat) => if q.1 + 1 < max 1 (s.get (MOT_AX_CTL_HOV m)) then some (q.1 + 1, q.2) else none } := by
  unfold State.coilPeriod
  dsimp only
  rw [hlive, beq_eq_false_iff_ne.mpr hon, decide_eq_false (Nat.not_lt.mpr hdue), ← hw]
  exact if_neg (by decide)

/-- Below VBEMF a measurement leaves the amplitude (R491). -/
theorem State.loadAngle_slow {lam : Nat} (hrest : s.motRest m = false) (hslow : absQ (s.mx m).v < s.speed16 (MOT_AX_QS_VBEMF m)) :
    s.loadAngle m lam = ((s.set (MOT_AX_LOAD_LOAD m) lam).setMx m { s.mx m with
      amp := (s.mx m).amp
      stalls := if decide ((s.mx m).amp = (s.get (MOT_AX_CUR_IMAX m) : Rat)) && decide (lam < s.get (MOT_AX_LA_LASTALL m)) then
        (s.mx m).stalls + 1 else 0 }).set (MOT_AX_LOAD_I m) (roundUp (s.mx m).amp).toNat := by
  unfold State.loadAngle
  dsimp only
  rw [hlive, hrest, if_neg (by decide), if_pos hslow]

theorem State.motStall_due {t : State} (hrest : s.motRest m = false) (hstalls : max 1 (s.get (MOT_AX_LA_NSTALL m)) ≤ (s.mx m).stalls)
    (ht : t = (s.setMx m { s.mx m with
      p := ((s.mx m).pos : Rat), v := 0, a := 0, phases := [], done := 0, next := none, stalls := 0, restAt := s.beat
      hEdge := none, hIdx := none }).setMotState m mtStalled) : s.motStall m =
    (((((((t.incSat (MOT_AX_CNT_STALLCNT m)).motCurrent m).set (MOT_AX_STAT_STALL m) 1).set (MOT_AX_STAT_POSVALID m) 0).set
      (MOT_AX_STAT_HOMED m) 0).set (MOT_AX_STAT_HPHASE m) 0).motShow m).pulse (0x040 + m) := by
  unfold State.motStall
  dsimp only
  rw [hlive, hrest, decide_eq_false (Nat.not_lt.mpr hstalls), if_neg (by decide), ← ht]
  rfl

/-- A limit that the axis moves towards stops it (R494). -/
theorem State.limitInput_trips {side : Bool} {f : Fld} (hf : f = if side then MOT_AX_STAT_LIMP m else MOT_AX_STAT_LIMN m)
    (hwas : s.flag f = false) (hmoving : s.motState m ≠ mtHoming) (htowards : if side then 0 < (s.mx m).v else (s.mx m).v < 0)
    (hrest : s.motRest m = false) : s.limitInput m side true =
    ((((s.setPin s.motShown f 1).motStop m).set (MOT_AX_STAT_LIMTRIP m) 1).incSat (MOT_AX_CNT_TRIPCNT m)).pulse (0x048 + m) := by
  have hdir : (if side then decide (0 < (s.mx m).v) else decide ((s.mx m).v < 0)) = true := by
    cases side with
    | false => exact decide_eq_true htowards
    | true => exact decide_eq_true htowards
  unfold State.limitInput
  dsimp only
  rw [← hf, hlive, hwas, hdir, hrest, if_neg (by decide), if_neg (by decide), if_neg hmoving]
  rfl

/-- A limit that goes stops nothing (R494). -/
theorem State.limitInput_clears {side : Bool} {f : Fld} (hf : f = if side then MOT_AX_STAT_LIMP m else MOT_AX_STAT_LIMN m)
    (hwas : s.flag f = true) (hmoving : s.motState m ≠ mtHoming) : s.limitInput m side false = s.setPin s.motShown f 0 := by
  unfold State.limitInput
  dsimp only
  rw [← hf, hlive, hwas, if_neg (by decide), if_neg (by decide), if_neg hmoving]
  rfl

theorem State.chatterWindow_enabled (hwin : s.get (MOT_AX_LIMCFG_CHWIN m) ≠ 0) :
    s.chatterWindow m = ((s.set (MOT_AX_STAT_CHATTER m) 1).pulse (0x050 + m)).homeFail m := by
  unfold State.chatterWindow
  rw [hlive, beq_eq_false_iff_ne.mpr hwin]
  rfl

theorem State.homeTimeout_due (hhoming : s.motState m = mtHoming) (hto : s.get (MOT_AX_HTO_HTO m) ≠ 0)
    (hdue : (s.mx m).hStart + s.get (MOT_AX_HTO_HTO m) * 10 * beatsPerMs ≤ s.beat) : s.homeTimeout m = s.homeFail m := by
  unfold State.homeTimeout
  dsimp only
  rw [hlive, hhoming, bne_iff_ne.mpr hto, decide_eq_true hdue]
  rfl

end

/-- Settles O41: each update in the case the statement names. -/
theorem motionUpdates : Obligations.MotionUpdates := by
  unfold Obligations.MotionUpdates
  refine ⟨fun s m hs hlive hdue hrest => ?_, fun s t u m hlive hdue hrest ht hedge hu hplan => ?_, fun s m w hs hlive hon hdue hw => ?_,
    fun s m lam hs hlive hrest hslow => ?_, fun s t m hlive hrest hstalls ht => ?_,
    fun s m side f hlive hf hwas hmoving htowards hrest => ?_, fun s m side f hs hlive hf hwas hmoving => ?_,
    fun s m side hlive hwin => ?_, fun s m hlive hhoming hto hdue => ?_⟩
  · refine State.next_of_rest hs (State.motUpdate_rest (s := s.begin) hlive hdue hrest) ?_
    rw [State.motCurrent_ctrl, State.setMx_ctrl]
  · exact State.next_settle (State.motUpdate_moving (s := s.begin) hlive hdue hrest ht hedge hu hplan)
  · exact State.next_of_ctrl hs (State.coilPeriod_ctrl ..) (State.coilPeriod_due (s := s.begin) hlive hon hdue hw)
  · exact State.next_of_ctrl hs (State.loadAngle_ctrl ..) (State.loadAngle_slow (s := s.begin) hlive hrest hslow)
  · exact State.next_settle (State.motStall_due (s := s.begin) hlive hrest hstalls ht)
  · exact State.next_settle (State.limitInput_trips (s := s.begin) hlive hf hwas hmoving htowards hrest)
  · exact State.next_of_rest hs (State.limitInput_clears (s := s.begin) hlive hf hwas hmoving) (State.setPin_ctrl ..)
  · exact State.next_settle (State.chatterWindow_enabled (s := s.begin) hlive hwin)
  · exact State.next_settle (State.homeTimeout_due (s := s.begin) hlive hhoming hto hdue)

end Sys2Proof.Machine
end

section
/-! PROOF (O42). Faults of the drive die, the motor bus and the barrier link (R34, R497, R498). -/
namespace Sys2Proof.Machine

theorem State.driverFault_live {s : State} {m : Nat} (hlive : s.motLive = true) : s.driverFault m =
    ((((s.motOff m).set (MOT_AX_STAT_POSVALID m) 0).set (MOT_AX_STAT_HOMED m) 0).set (MOT_AX_STAT_DRVFLT m) 1).pulse (0x060 + m) := by
  unfold State.driverFault
  rw [hlive]
  rfl

/-- Below VMUV every driver goes off (R497). -/
theorem State.motorBus_low {s t : State} {vm : Nat} (hshown : s.motShown = true)
    (hlow : vm < 100 * (if s.get MOT_CTL_VMUV = 0 then 10 else s.get MOT_CTL_VMUV)) (ht : t = s.setPin true MOT_VM_VM vm) :
    s.motorBus vm = ((({ t with mot := { t.mot with vmBad := true } } : State).setPin true MOT_STAT_VMOK 0).motAllOff.set
      MOT_STAT_VMUV 1).raise 0x046 := by
  unfold State.motorBus
  dsimp only
  rw [if_pos hlow, hshown, ht]
  rfl

theorem State.motorBus_good {s t : State} {vm : Nat} (hgood : 100 * (if s.get MOT_CTL_VMUV = 0 then 10 else s.get MOT_CTL_VMUV) ≤ vm)
    (ht : t = s.setPin s.motShown MOT_VM_VM vm) : s.motorBus vm =
    (({ t with mot := { t.mot with vmBad := false } } : State).setPin s.motShown MOT_STAT_VMOK 1).lower 0x046 := by
  unfold State.motorBus
  dsimp only
  rw [if_neg (Nat.not_lt.mpr hgood), ht]

/-- With no stamped command waiting the relock brings the link back alone (R498). -/
theorem State.barrierRelock_idle {s : State} (hidle : ∀ m, m < 6 → (s.mx m).stamped = none) :
    s.barrierRelock = ({ s with rst := { s.rst with barrierDown := false } } : State).lower 0x00D := by
  unfold State.barrierRelock
  dsimp only
  rw [State.foldl_fixed]
  intro m hm
  have hnone : (({ s with rst := { s.rst with barrierDown := false } } : State).mx m).stamped = none := hidle m (List.mem_range.mp hm)
  rw [hnone]

/-- Settles O42: each event in the case the statement names. -/
theorem driverAndBarrierEvents : Obligations.DriverAndBarrierEvents := by
  unfold Obligations.DriverAndBarrierEvents
  refine ⟨fun s m hlive => ?_, fun s t vm hshown hlow ht => ?_, fun s t vm hs hgood ht => ?_, fun s => rfl, fun s hs hidle => ?_⟩
  · exact State.next_settle (State.driverFault_live (s := s.begin) hlive)
  · exact State.next_settle (State.motorBus_low (s := s.begin) hshown hlow ht)
  · have hctrl : t.ctrl = s.begin.ctrl := by rw [ht, State.setPin_ctrl]
    exact State.next_of_rest hs (State.motorBus_good (s := s.begin) hgood ht)
      ((State.lower_ctrl ..).trans ((State.setPin_ctrl ..).trans hctrl))
  · exact State.next_of_rest hs (State.barrierRelock_idle (s := s.begin) hidle) (State.lower_ctrl ..)

end Sys2Proof.Machine
end

section
/-! PROOF (O43). Host requests, the PCIe link, MSI-X and the DMA channels. -/
namespace Sys2Proof.Machine

section
variable {s : State}

theorem State.sysLive_of_hostLive (h : s.hostLive = true) : s.sysLive = true := by
  have hparts : (!s.heldInReset 139 && s.rst.phase == .off) = true := h
  exact State.sysLive_of_off (eq_of_beq ((Bool.and_eq_true _ _).mp hparts).2)

/-- A request of the host goes out as master 0x04 at the address its BAR gives (R594). -/
theorem State.hostRequest_live {a : Nat} {bar : Bool} {off : Nat} (acc : Access) (e : Ecc) (hlive : s.hostLive = true)
    (hup : s.flag HP_STAT_LINKUP = true)
    (ha : a = if bar then s.get HP_WIN_BASE * 2 ^ 32 + off else 0x2000000000 + off % 2 ^ 25) :
    s.hostRequest bar off acc e = s.busAccess 4 a acc e := by
  have hgo : ¬ (!s.hostLive || !s.flag HP_STAT_LINKUP) = true := by rw [hlive, hup]; decide
  rw [ha]
  exact if_neg hgo

theorem State.pcieLink_up {n w : Nat} (hlive : s.hostLive = true) (href : s.rst.refbBad = false) (hmin : 1 ≤ n) (hmax : n ≤ 4)
    (hw : w = 1 ∨ w = 2 ∨ w = 4) :
    s.pcieLink true n w = ((s.set HP_STAT_LINKUP 1).set HP_STAT_SPEED n).set HP_STAT_WIDTH w := by
  have hwidth : (w == 1 || w == 2 || w == 4) = true := by rcases hw with rfl | rfl | rfl <;> decide
  have hgo : (s.hostLive && !s.rst.refbBad && decide (1 ≤ n) && decide (n ≤ 4) && (w == 1 || w == 2 || w == 4)) = true := by
    rw [hlive, href, decide_eq_true hmin, decide_eq_true hmax, hwidth]
    rfl
  exact if_pos hgo

theorem State.pcieLink_down (n w : Nat) (hup : s.flag HP_STAT_LINKUP = true) :
    s.pcieLink false n w = (((s.set HP_STAT_LINKUP 0).set HP_STAT_SPEED 0).set HP_STAT_WIDTH 0).pulse 0x078 := if_pos hup

/-- The state in which vector `v` is unmasked and its pending bit taken. -/
def State.msixOpen (s : State) (v : Nat) : State :=
  { s with host := { s.host with msixMask := putBit s.host.msixMask v false, msixPend := putBit s.host.msixPend v false } }

theorem State.msixUnmask_quiet {v : Nat} (hpend : s.host.msixPend.testBit v = false) : s.msixUnmask v = s.msixOpen v := by
  have hno : ¬ (s.host.msixPend.testBit v && (s.get (cipField v)).testBit (v % 32)) = true := by
    rw [hpend]
    exact Bool.false_ne_true
  exact if_neg hno

theorem State.msixUnmask_pending {v : Nat} (hpend : s.host.msixPend.testBit v = true)
    (hline : (s.get (cipField v)).testBit (v % 32) = true) : s.msixUnmask v = (s.msixOpen v).emit (.msix v) := by
  have hgo : (s.host.msixPend.testBit v && (s.get (cipField v)).testBit (v % 32)) = true := by
    rw [hpend, hline]
    rfl
  exact if_pos hgo

theorem State.dmaGo_busy {ch : Nat} (v : Nat) (hlive : s.hostLive = true) (hbusy : s.flag (HP_DMA_STAT_BUSY ch) = true) :
    s.dmaGo ch v = s.set (HP_DMA_STAT_CMDERR ch) 1 := by
  have hnlive : ¬ (!s.hostLive) = true := by rw [hlive]; decide
  exact (if_neg hnlive).trans (if_pos hbusy)

theorem State.dmaGo_idle {ch v : Nat} (hlive : s.hostLive = true) (hbusy : s.flag (HP_DMA_STAT_BUSY ch) = false)
    (hlen : (s.set (HP_DMA_CTL_DIR ch) (bits v 0 0)).get (HP_DMA_LEN_VALUE ch) ≠ 0) :
    s.dmaGo ch v = (s.set (HP_DMA_CTL_DIR ch) (bits v 0 0)).set (HP_DMA_STAT_BUSY ch) 1 := by
  have hnlive : ¬ (!s.hostLive) = true := by rw [hlive]; decide
  have hidle : ¬ s.flag (HP_DMA_STAT_BUSY ch) = true := by rw [hbusy]; decide
  exact (if_neg hnlive).trans ((if_neg hidle).trans (if_neg hlen))

/-- A transfer towards the host is cut off with nothing left open in memory (R598). -/
theorem State.dmaCut_out {ch : Nat} (hbusy : s.flag (HP_DMA_STAT_BUSY ch) = true) (hdir : s.flag (HP_DMA_CTL_DIR ch) = true) :
    s.dmaCut ch = (s.set (HP_DMA_STAT_BUSY ch) 0).set (HP_DMA_STAT_ABORT ch) 1 := by
  have hnidle : ¬ (!s.flag (HP_DMA_STAT_BUSY ch)) = true := by rw [hbusy]; decide
  unfold State.dmaCut
  dsimp only
  rw [if_neg hnidle, if_pos hdir]

theorem State.dmaError_out {ch : Nat} (g : Bool) (a : Nat) (hlive : s.hostLive = true) (hbusy : s.flag (HP_DMA_STAT_BUSY ch) = true)
    (hdir : s.flag (HP_DMA_CTL_DIR ch) = true) : s.dmaError ch g a = s.dmaFail ch g a := by
  have hgo : ¬ (!s.hostLive || !s.flag (HP_DMA_STAT_BUSY ch)) = true := by rw [hlive, hbusy]; decide
  unfold State.dmaError
  dsimp only
  rw [if_neg hgo, if_pos hdir]

/-- A transfer into the T24 in one piece, written without error (R597). -/
theorem State.dmaDone_in {u : State} {ch x : Nat} {data l : List Byte} {e : Ecc} (hlive : s.hostLive = true)
    (hbusy : s.flag (HP_DMA_STAT_BUSY ch) = true) (hdir : s.flag (HP_DMA_CTL_DIR ch) = false)
    (hlen : s.get (HP_DMA_LEN_VALUE ch) ≤ data.length)
    (hone : split8 (s.pair (HP_DMA_TADDR_LO_ADDR ch) (HP_DMA_TADDR_HI_ADDR ch)) (data.take (s.get (HP_DMA_LEN_VALUE ch))) = [(x, l)])
    (hput : s.dmaPut e x l = (none, u)) (hstill : u.flag (HP_DMA_STAT_BUSY ch) = true) :
    s.dmaDone ch data e = ((u.set (HP_DMA_STAT_BUSY ch) 0).set (HP_DMA_STAT_DONE ch) 1).refreshLine (30 + ch) := by
  have hgo : ¬ (!s.hostLive || !s.flag (HP_DMA_STAT_BUSY ch) || (!false && decide (data.length < s.get (HP_DMA_LEN_VALUE ch)))) = true := by
    rw [hlive, hbusy, decide_eq_false (Nat.not_lt.mpr hlen)]
    decide
  have hnidle : ¬ (!u.flag (HP_DMA_STAT_BUSY ch)) = true := by rw [hstill]; decide
  unfold State.dmaDone
  dsimp only
  rw [hdir, if_neg hgo]
  simp only [Bool.false_eq_true, if_false, hone, List.foldl, hput]
  exact if_neg hnidle

end

/-- Settles O43: each command comes down to the clause of its operation that its conditions select; the host's write is a
register write by master 0x04. -/
theorem hostInterfaceCommands : Obligations.HostInterfaceCommands := by
  unfold Obligations.HostInterfaceCommands
  refine ⟨fun s bar off v a hlive hup haddr hreg ha hheld => ?_, fun s n w hs hlive href hmin hmax hw => ?_, fun s n w hup => ?_,
    fun s v hs hpend => ?_, fun s v hs hpend hline => ?_, fun s t ch v hs hlive hbusy ht hlen => ?_, fun s ch v hs hlive hbusy => ?_,
    fun s ch hs hlive hbusy hdir => ?_, fun s u ch data l e x hlive hbusy hdir hlen hone hput hstill => ?_,
    fun s ch g a hlive hbusy hdir => ?_⟩
  · have hnf : s.begin.region a ≠ .fabric := by rw [show s.begin.region a = .reg from hreg]; decide
    have hwrite := State.localWrite_reg (s := s.asks 4) (State.sysLive_of_hostLive hlive) hreg ha hheld 4 v.isLt .clean
    exact State.next_settle ((State.hostRequest_live (s := s.begin) _ _ hlive hup haddr).trans (State.busAccess_write hnf hwrite))
  · exact State.next_of_rest hs (State.pcieLink_up (s := s.begin) hlive href hmin hmax hw)
      (by rw [State.set_ctrl, State.set_ctrl, State.set_ctrl])
  · exact State.next_settle (State.pcieLink_down (s := s.begin) _ _ hup)
  · exact State.next_of_ctrl hs (State.msixUnmask_ctrl ..) (State.msixUnmask_quiet (s := s.begin) hpend)
  · exact State.next_of_ctrl hs (State.msixUnmask_ctrl ..) (State.msixUnmask_pending (s := s.begin) hpend hline)
  · subst ht
    exact State.next_of_ctrl hs (State.dmaGo_ctrl ..) (State.dmaGo_idle (s := s.begin) hlive hbusy hlen)
  · exact State.next_of_ctrl hs (State.dmaGo_ctrl ..) (State.dmaGo_busy (s := s.begin) _ hlive hbusy)
  · have hstop : (if s.begin.hostLive then s.begin.dmaCut ch.val else s.begin) = s.begin.dmaCut ch.val := if_pos hlive
    exact State.next_of_ctrl hs ((congrArg State.ctrl hstop).trans (State.dmaCut_ctrl ..))
      (hstop.trans (State.dmaCut_out (s := s.begin) hbusy hdir))
  · exact State.next_settle (State.dmaDone_in (s := s.begin) hlive hbusy hdir hlen hone hput hstill)
  · exact State.next_settle (State.dmaError_out (s := s.begin) _ _ hlive hbusy hdir)

end Sys2Proof.Machine
end

section
/-! PROOF (O44). DRAM initialisation, the boot from flash and from the host, and the start of the cores. -/
namespace Sys2Proof.Machine

section
variable {s : State}

/-! ### DRAM initialisation (R601) -/

section
variable (hheld : s.heldInReset 140 = false) (hoff : s.rst.phase = .off) (hinit : s.flag DRC_STAT_INIT = false)
  (hmode : s.modeCode ≠ mLowPower)
include hheld hoff hinit hmode

theorem State.dramInit_due :
    ¬ (s.heldInReset 140 || s.rst.phase != .off || s.flag DRC_STAT_INIT ||
      (s.modeCode == mLowPower && decide (2 ≤ s.get SYS_MODE_STAT_LPSTATE))) = true := by
  rw [hheld, hoff, hinit, beq_false_of_ne hmode]
  exact Bool.false_ne_true

theorem State.dramInit_failed (cap : Nat) : s.dramInit cap false = (s.set DRC_STAT_TRAINERR 1).pulse 0x07D :=
  if_neg (State.dramInit_due hheld hoff hinit hmode)

/-- The fields DRAM initialisation writes when the contents are kept (R601). -/
def State.dramKept (s : State) (cap : Nat) : State :=
  (((s.set DRC_STAT_CAP cap).set DRC_STAT_INIT 1).set DRC_STAT_SR 0).set DRC_STAT_KEPT 1

theorem State.dramInit_kept {cap : Nat} (hkeep : (s.rst.dramSr && s.rst.vddqOk && s.rst.keepCase) = true)
    (hboot : (s.dramKept cap).modeCode ≠ 1) :
    s.dramInit cap true =
      { s.dramKept cap with rst := { (s.dramKept cap).rst with dramFresh := true, dramSr := false, keepCase := false } } := by
  have hdue := State.dramInit_due hheld hoff hinit hmode
  unfold State.dramInit
  dsimp only
  rw [if_neg hdue, if_neg (by decide), hkeep, if_pos rfl]
  exact if_neg (fun h => hboot h.1)

end

theorem State.dramInit_kept_ctrl (cap : Nat) :
    ({ s.dramKept cap with rst := { (s.dramKept cap).rst with dramFresh := true, dramSr := false, keepCase := false } } : State).ctrl =
      s.ctrl := by
  rw [State.ctrl_mk]
  exact (((State.set_ctrl ..).trans (State.set_ctrl ..)).trans (State.set_ctrl ..)).trans (State.set_ctrl ..)

/-! ### The image (R603 to R606) -/

/-- The header's checks give the same for a state changed in a way that leaves the addresses, and commutes with setting
IECC. -/
theorem State.hdrCheck_of_commutes (g : State → State) (hregion : ∀ t a, (g t).region a = t.region a)
    (hiecc : (g s).setIecc 1 = g (s.setIecc 1)) (h : List Byte) : (g s).hdrCheck h = s.hdrCheck h := by
  have hset : (if bit (hdrNum h 12 4) 0 = true then (g s).setIecc 1 else g s) =
      g (if bit (hdrNum h 12 4) 0 = true then s.setIecc 1 else s) := by
    rw [hiecc, apply_ite g]
  unfold State.hdrCheck
  dsimp only
  rw [hset]
  simp only [hregion]

theorem State.hdrCheck_ballUse (k : Nat) (h : List Byte) : (s.ballUse k).hdrCheck h = s.hdrCheck h := by
  refine State.hdrCheck_of_commutes (fun t => t.ballUse k) (fun _ _ => rfl) ?_ h
  unfold State.setIecc
  rw [apply_ite (fun t : State => t.ballUse k), apply_ite (fun t : State => t.ballUse k)]
  rfl

theorem State.hdrCheck_begin (h : List Byte) : s.begin.hdrCheck h = s.hdrCheck h := by
  refine State.hdrCheck_of_commutes State.begin (fun _ _ => rfl) ?_ h
  unfold State.setIecc
  rw [apply_ite State.begin, apply_ite State.begin]
  rfl

theorem State.flashRead_failed {f : FlashResult} (h : f.responds = false) : s.flashRead f = s.bootFail 4 s.host.copy := by
  have hno : (!f.responds) = true := by rw [h]; rfl
  exact if_pos hno

theorem State.flashRead_good {f : FlashResult} (hresp : f.responds = true) (hcheck : s.hdrCheck f.header = 0)
    (hlen : (hdrImage f.header s.host.copy f.offset.toNat).len ≤ f.payload.length) :
    s.flashRead f = s.bootLoad (hdrImage f.header s.host.copy f.offset.toNat)
      (f.payload.take (hdrImage f.header s.host.copy f.offset.toNat).len) := by
  have hgo : ¬ (!f.responds) = true := by rw [hresp]; decide
  have hok : ¬ s.hdrCheck f.header ≠ 0 := fun h => h hcheck
  exact (if_neg hgo).trans ((if_neg hok).trans (if_neg (Nat.not_lt.mpr hlen)))

theorem State.flashBoot_due (f : FlashResult) (hboot : s.host.boot = .flash) (hmode : s.modeCode = 1) (hlive : s.sysLive = true) :
    s.flashBoot f = ((s.ballUse 9).ballUse 10).flashRead f := by
  have hgo : ¬ (s.host.boot ≠ .flash ∨ s.modeCode ≠ 1 ∨ (!s.sysLive) = true) := by
    rw [hboot, hmode, hlive]
    decide
  exact if_neg hgo

/-- `n` bytes from an address lie in the memory an image may stand in (R605). -/
def State.imageFits (s : State) (a n : Nat) : Bool :=
  (s.region a == .progMem || s.region a == .dram) && s.region (a + n - 1) == s.region a

theorem State.imageFits_progMem {a n : Nat} (hfirst : s.region a = .progMem) (hlast : s.region (a + n - 1) = .progMem) :
    ¬ (!s.imageFits a n) = true := by
  unfold State.imageFits
  rw [hfirst, hlast]
  decide

/-- The host's header and payload lie in the program memory: the image is loaded (R605). -/
theorem State.bootGo_progMem {hdr : Nat} (hwait : s.flag SYS_BOOT_STAT_WAITHOST = true) (hboot : s.host.boot = .waitHost)
    (hhdr : hdr = s.pair SYS_BOOT_HDR_LO_ADDR SYS_BOOT_HDR_HI_ADDR) (hfirst : s.region hdr = .progMem)
    (hlast : s.region (hdr + 64 - 1) = .progMem) (hcheck : s.hdrCheck (s.bytesAt hdr 64) = 0)
    (hdata : s.region (hdr + 64) = .progMem)
    (hend : s.region (hdr + 64 + (hdrImage (s.bytesAt hdr 64) 3 hdr).len - 1) = .progMem) :
    s.bootGo = (s.dramTouched hdr).bootLoad (hdrImage (s.bytesAt hdr 64) 3 hdr)
      (s.bytesAt (hdr + 64) (hdrImage (s.bytesAt hdr 64) 3 hdr).len) := by
  have hgo : ¬ (!s.flag SYS_BOOT_STAT_WAITHOST || s.host.boot != .waitHost) = true := by rw [hwait, hboot]; decide
  have hok : ¬ s.hdrCheck (s.bytesAt hdr 64) ≠ 0 := fun h => h hcheck
  subst hhdr
  exact (if_neg hgo).trans ((if_neg (State.imageFits_progMem hfirst hlast)).trans
    ((if_neg hok).trans (if_neg (State.imageFits_progMem hdata hend))))

section
variable {im : Image} (himage : s.host.image = some im) (hboot : s.host.boot = .loading) (hmode : s.modeCode = 1)
  (hlive : s.sysLive = true)
include hboot hmode hlive

theorem State.imageLoaded_due : ¬ (s.host.boot ≠ .loading ∨ s.modeCode ≠ 1 ∨ (!s.sysLive) = true) := by
  rw [hboot, hmode, hlive]
  decide

include himage

theorem State.imageLoaded_bad (hcrc : crc32 (s.bytesAt im.load im.len) ≠ im.crc) : s.imageLoaded = s.bootFail 2 im.src := by
  unfold State.imageLoaded
  rw [himage]
  exact (if_neg (State.imageLoaded_due hboot hmode hlive)).trans (if_pos hcrc)

/-- The boot fields once an image runs (R606). -/
def State.imageRuns (s : State) (im : Image) : State :=
  ((s.set SYS_BOOT_STAT_USED im.src).set SYS_BOOT_STAT_RUNNING 1).set SYS_BOOT_STAT_WAITHOST 0

theorem State.imageLoaded_good (hcrc : crc32 (s.bytesAt im.load im.len) = im.crc) (hone : bit im.flags 1 = false) :
    s.imageLoaded = ({ s.imageRuns im with host := { (s.imageRuns im).host with boot := .running, image := none } } : State).emit
      (.coreStart 0 im.entry im.at_) := by
  have hok : ¬ crc32 (s.bytesAt im.load im.len) ≠ im.crc := fun h => h hcrc
  have halone : ¬ bit im.flags 1 = true := by rw [hone]; decide
  unfold State.imageLoaded
  rw [himage]
  exact (if_neg (State.imageLoaded_due hboot hmode hlive)).trans ((if_neg hok).trans (if_neg halone))

end

theorem State.imageRuns_ctrl (im : Image) : (s.imageRuns im).ctrl = s.ctrl :=
  ((State.set_ctrl ..).trans (State.set_ctrl ..)).trans (State.set_ctrl ..)

/-! ### The cores (R608) -/

/-- Core `c` leaves reset, and takes an NMI that waits for it. -/
def State.startCore (s : State) (c entry a0 : Nat) : State :=
  if !s.host.coresRun.testBit c then
    let u := ({ s with host := { s.host with
      coresRun := putBit s.host.coresRun c true, nmiPend := putBit s.host.nmiPend c false } }).emit (.coreStart c entry a0)
    if s.host.nmiPend.testBit c then u.emit .nmi else u
  else s

/-- A mask of one core starts that core. -/
theorem State.startCores_single {c : Nat} (hc : c < 4) (entry a0 : Nat) : s.startCores (2 ^ c) entry a0 = s.startCore c entry a0 := by
  have hstep : (fun (t : State) i => if (2 ^ c).testBit i && !t.host.coresRun.testBit i then
        let u := ({ t with host := { t.host with
          coresRun := putBit t.host.coresRun i true, nmiPend := putBit t.host.nmiPend i false } }).emit (.coreStart i entry a0)
        if t.host.nmiPend.testBit i then u.emit .nmi else u
      else t) = fun t i => if c = i then t.startCore i entry a0 else t := by
    funext t i
    by_cases h : c = i
    · subst h
      rw [Nat.testBit_two_pow_self, if_pos rfl]
      rfl
    · rw [Nat.testBit_two_pow_of_ne h, if_neg h]
      exact if_neg Bool.false_ne_true
  unfold State.startCores
  rw [hstep]
  exact foldl_range_single (fun t i => t.startCore i entry a0) s c 4 hc

theorem State.startCore_stopped {c : Nat} (entry a0 : Nat) (hstop : s.host.coresRun.testBit c = false)
    (hnmi : s.host.nmiPend.testBit c = false) :
    s.startCore c entry a0 = ({ s with host := { s.host with
      coresRun := putBit s.host.coresRun c true, nmiPend := putBit s.host.nmiPend c false } } : State).emit (.coreStart c entry a0) := by
  have hgo : (!s.host.coresRun.testBit c) = true := by rw [hstop]; rfl
  have hquiet : ¬ s.host.nmiPend.testBit c = true := by rw [hnmi]; decide
  exact (if_pos hgo).trans (if_neg hquiet)

theorem State.coreRun_one {v : Nat} (hoff : s.rst.phase = .off) (hv : v % 16 / 2 = 1) (hstop : s.host.coresRun.testBit 1 = false)
    (hnmi : s.host.nmiPend.testBit 1 = false) :
    s.coreRun v = ({ s with host := { s.host with
      coresRun := putBit s.host.coresRun 1 true, nmiPend := putBit s.host.nmiPend 1 false } } : State).emit
        (.coreStart 1 (s.pair SYS_CORE_ENTRY_LO_ADDR SYS_CORE_ENTRY_HI_ADDR) 0) := by
  have hgo : ¬ s.rst.phase ≠ .off := fun h => h hoff
  unfold State.coreRun
  rw [if_neg hgo, hv]
  exact (State.startCores_single (c := 1) (by decide) _ _).trans (State.startCore_stopped _ _ hstop hnmi)

end

/-- Settles O44: each command takes the branch its conditions select; the checks of an image's header do not look at the
balls of the flash, and a mask of one core starts that core alone. -/
theorem memoryInitAndBoot : Obligations.MemoryInitAndBoot := by
  unfold Obligations.MemoryInitAndBoot
  refine ⟨fun s c d hheld hoff hinit hmode => ?_, fun s t c d hs hheld hoff hinit hmode hkeep ht hboot => ?_,
    fun s f im hs hboot hmode hlive hresp hcheck him hlen => ?_, fun s f hboot hmode hlive hresp => ?_,
    fun s hdr im hs hlive hwait hboot hhdr hfirst hlast hcheck him hdata hend => ?_,
    fun s t im hs himage hboot hmode hlive hcrc hone ht => ?_, fun s im himage hboot hmode hlive hcrc => ?_,
    fun s v hs hoff hv hstop hnmi => ?_⟩
  · exact State.next_settle (State.dramInit_failed (s := s.begin) hheld hoff hinit hmode _)
  · subst ht
    exact State.next_of_rest hs (State.dramInit_kept (s := s.begin) hheld hoff hinit hmode hkeep hboot) (State.dramInit_kept_ctrl _)
  · subst him
    have hballs : ((s.begin.ballUse 9).ballUse 10).hdrCheck f.header = 0 := by
      rw [State.hdrCheck_ballUse, State.hdrCheck_ballUse, State.hdrCheck_begin, hcheck]
    exact State.next_of_rest hs ((State.flashBoot_due (s := s.begin) f hboot hmode hlive).trans (State.flashRead_good hresp hballs hlen))
      (by rw [State.bootLoad_ctrl, State.ballUse_ctrl, State.ballUse_ctrl])
  · exact State.next_settle ((State.flashBoot_due (s := s.begin) f hboot hmode hlive).trans (State.flashRead_failed hresp))
  · subst him
    have hgo : (if s.begin.sysLive then s.begin.bootGo else s.begin) = s.begin.bootGo := if_pos hlive
    exact State.next_of_rest hs (hgo.trans (State.bootGo_progMem (s := s.begin) hwait hboot hhdr hfirst hlast
      ((State.hdrCheck_begin _).trans hcheck) hdata hend))
      (by rw [State.bootLoad_ctrl, State.dramTouched_ctrl])
  · subst ht
    exact State.next_of_rest hs (State.imageLoaded_good (s := s.begin) himage hboot hmode hlive hcrc hone) (State.imageRuns_ctrl im)
  · exact State.next_settle (State.imageLoaded_bad (s := s.begin) himage hboot hmode hlive hcrc)
  · exact State.next_of_ctrl hs (State.coreRun_ctrl ..) (State.coreRun_one (s := s.begin) hoff hv hstop hnmi)

end Sys2Proof.Machine
end

section
/-! PROOF (O45). PWM periods, strobes and diagnostic pulses of the illumination sinks. -/
namespace Sys2Proof.Machine

section
variable {s : State}

/-- With no written GSCALE or PERIOD waiting, the global values stay (R470). -/
theorem State.illSync_none (h : s.ill.globalDue = none) : s.illSync = s := by
  unfold State.illSync
  rw [h]

/-- A PWM period on its boundary, with a duty of at least one beat (R468). -/
theorem State.pwmStart_on {ch n : Nat} (hsync : s.ill.globalDue = none) (hheld : s.heldInReset 133 = false)
    (hbound : s.pwmBoundary ch = true) (hmode : s.illMode ch = 1)
    (hn : n = (roundUp (mkRat (((s.illOff ch).illCommit ch).live (ILL_DUTY_DUTY ch) * ((s.illOff ch).illCommit ch).illPeriod) 65536)).toNat)
    (hstill : ((s.illOff ch).illCommit ch).illMode ch = 1) (hmay : ((s.illOff ch).illCommit ch).illMay ch = true) (hpos : n ≠ 0) :
    s.pwmStart ch = ((s.illOff ch).illCommit ch).illOn ch (((s.illOff ch).illCommit ch).beat + n) false := by
  have hgo : ¬ (s.heldInReset 133 || !s.pwmBoundary ch || (s.illMode ch != 1 && s.get (ILL_CH_MODE ch) != 1)) = true := by
    rw [hheld, hbound, hmode]
    exact Bool.false_ne_true
  unfold State.pwmStart
  dsimp only
  rw [State.illSync_none hsync, if_neg hgo, ← hn]
  exact if_pos ⟨hstill, hmay, hpos⟩

theorem State.pwmStart_off {ch : Nat} (hsync : s.ill.globalDue = none) (hbound : s.pwmBoundary ch = false) : s.pwmStart ch = s := by
  have hno : (s.heldInReset 133 || !s.pwmBoundary ch || (s.illMode ch != 1 && s.get (ILL_CH_MODE ch) != 1)) = true := by
    rw [hbound, Bool.not_false, Bool.or_true, Bool.true_or]
  unfold State.pwmStart
  rw [State.illSync_none hsync]
  exact if_pos hno

theorem State.illDone {ch k : Nat} (hon : s.flag (ILL_DIAG_ON ch) = true) (hmode : s.illMode ch = k)
    (hdue : (s.illCh ch).until_ ≤ s.beat) :
    (s.flag (ILL_DIAG_ON ch) && s.illMode ch == k && decide ((s.illCh ch).until_ ≤ s.beat)) = true := by
  rw [hon, hmode, decide_eq_true hdue, beq_self_eq_true]
  rfl

section
variable {ch b : Nat} {rest : List Nat} (hsync : s.ill.globalDue = none) (hheld : s.heldInReset 133 = false)
  (hdue : (s.illCh ch).due = b :: rest) (hb : b ≤ s.beat)
include hsync hheld hdue hb

/-- A due strobe is taken off the channel's list, and starts where the previous one is over (R469). -/
theorem State.strobeStart_due :
    s.strobeStart ch =
      let s1 := s.setIllCh ch { s.illCh ch with due := rest }
      if s.flag (ILL_DIAG_ON ch) && s.illMode ch == 2 then s1.set (ILL_DIAG_STRBOVL ch) 1
      else
        let s2 := (s1.illOff ch).illCommit ch
        let n := s2.live (ILL_STRB_SWIDTH ch)
        if s2.illMode ch = 2 ∧ s2.illMay ch ∧ n ≠ 0 then s2.illOn ch (s2.beat + n) false else s2 := by
  have hgo : ¬ (s.heldInReset 133 || decide (s.beat < b)) = true := by
    rw [hheld, decide_eq_false (Nat.not_lt.mpr hb)]
    decide
  unfold State.strobeStart
  dsimp only
  rw [State.illSync_none hsync, hdue]
  exact if_neg hgo

theorem State.strobeStart_on {t : State} (ht : t = ((s.setIllCh ch { s.illCh ch with due := rest }).illOff ch).illCommit ch)
    (hoff : s.flag (ILL_DIAG_ON ch) = false) (hmode : t.illMode ch = 2) (hmay : t.illMay ch = true)
    (hwidth : t.live (ILL_STRB_SWIDTH ch) ≠ 0) :
    s.strobeStart ch = t.illOn ch (t.beat + t.live (ILL_STRB_SWIDTH ch)) false := by
  have hfree : ¬ (s.flag (ILL_DIAG_ON ch) && s.illMode ch == 2) = true := by
    rw [hoff]
    exact Bool.false_ne_true
  subst ht
  rw [State.strobeStart_due hsync hheld hdue hb]
  exact (if_neg hfree).trans (if_pos ⟨hmode, hmay, hwidth⟩)

theorem State.strobeStart_overlap (hon : s.flag (ILL_DIAG_ON ch) = true) (hmode : s.illMode ch = 2) :
    s.strobeStart ch = (s.setIllCh ch { s.illCh ch with due := rest }).set (ILL_DIAG_STRBOVL ch) 1 := by
  have hover : (s.flag (ILL_DIAG_ON ch) && s.illMode ch == 2) = true := by rw [hon, hmode]; decide
  rw [State.strobeStart_due hsync hheld hdue hb]
  exact if_pos hover

end

theorem State.diagPulse_on {ch : Nat} (hmay : s.illMay ch = true) (hmode : s.illMode ch = 2)
    (hdiag : s.liveFlag (ILL_CH_DIAGP ch) = true) (hoff : s.flag (ILL_DIAG_ON ch) = false)
    (hold : (s.illCh ch).measured + 100 * beatsPerMs ≤ s.beat) (hcam : (s.ctx (s.live (ILL_CH_SRC ch))).trigUntil + 4000 = s.beat)
    (hnext : s.nextTrigger (s.live (ILL_CH_SRC ch)) s.beat = none) : s.diagPulse ch = s.illOn ch (s.beat + 960) true := by
  unfold State.diagPulse
  dsimp only
  rw [hmay, hmode, hdiag, hoff, decide_eq_true hold, hcam, hnext, beq_self_eq_true, beq_self_eq_true]
  exact if_pos rfl

end

/-- Settles O45: with no global value waiting, each command takes the branch its conditions select, and none touches the
collector, the mode or the own writes. -/
theorem illuminationDrive : Obligations.IlluminationDrive := by
  unfold Obligations.IlluminationDrive
  refine ⟨fun s t ch n hs hsync hheld hbound hmode ht hn hstill hmay hpos => ?_, fun s ch hs hsync hbound => ?_,
    fun s ch hs hon hmode hdue => ?_, fun s t ch b rest hs hsync hheld hdue hb hoff ht hmode hmay hwidth => ?_,
    fun s t ch b rest hs hsync hheld hdue hb ht hon hmode => ?_, fun s ch hs hon hmode hdue => ?_,
    fun s ch hs hmay hmode hdiag hoff hold hcam hnext => ?_⟩
  · subst ht
    exact State.next_of_ctrl hs (State.pwmStart_ctrl ..) (State.pwmStart_on (s := s.begin) hsync hheld hbound hmode hn hstill hmay hpos)
  · exact State.next_of_ctrl hs (State.pwmStart_ctrl ..) (State.pwmStart_off (s := s.begin) hsync hbound)
  · exact State.next_of_ctrl hs (State.pwmEnd_ctrl ..) (if_pos (State.illDone (s := s.begin) hon hmode hdue))
  · exact State.next_of_ctrl hs (State.strobeStart_ctrl ..)
      (State.strobeStart_on (s := s.begin) hsync hheld hdue hb ht hoff hmode hmay hwidth)
  · subst ht
    exact State.next_of_ctrl hs (State.strobeStart_ctrl ..) (State.strobeStart_overlap (s := s.begin) hsync hheld hdue hb hon hmode)
  · exact State.next_of_ctrl hs (State.strobeEnd_ctrl ..) (if_pos (State.illDone (s := s.begin) hon hmode hdue))
  · exact State.next_of_ctrl hs (State.diagPulse_ctrl ..) (State.diagPulse_on (s := s.begin) hmay hmode hdiag hoff hold hcam hnext)

end Sys2Proof.Machine
end

section
/-! PROOF (O46). The temperatures of the illumination, the measurements of the lamps and the neighbour test. -/
namespace Sys2Proof.Machine

section
variable {s : State}

/-! ### The NTCs (R471 to R473) -/

section
variable {c o : Nat} (hsync : s.ill.globalDue = none) (hheld : s.heldInReset 133 = false) (hoff : s.rst.phase = .off)
include hsync hheld hoff

theorem State.ntcConvert_open (hrange : o < 100 ∨ 2000000 < o) (hsense : s.flag (ILL_CSTAT_SENSE c) = false) :
    s.ntcConvert c o = (s.set (ILL_CSTAT_SENSE c) 1).pulse 0x033 (2 ^ c) := by
  have hgo : ¬ (s.heldInReset 133 || s.rst.phase != .off) = true := by rw [hheld, hoff]; decide
  have hnew : ¬ s.flag (ILL_CSTAT_SENSE c) = true := by rw [hsense]; decide
  unfold State.ntcConvert
  dsimp only
  rw [State.illSync_none hsync, if_neg hgo, if_pos hrange]
  exact if_neg hnew

omit hsync hheld hoff

/-- The temperature of colour `c` recorded, and its K with it (R471, R472). -/
def State.ntcTake (s : State) (c : Nat) (x : Rat) : State :=
  let u := (s.set (ILL_TEMP_T c) (enc 16 (roundFree (10 * x) s.freeNext))).draw
  { u with ill := { u.ill with kc := Sparse.put 0x4000 u.ill.kc c (s.illK c x) } }

/-- The continuous channels of colour `c` take its new K (R470, R472). -/
def State.commitContinuous (s : State) (c : Nat) : State :=
  (List.range 8).foldl (fun y g => if y.illMode (4 * g + c) = 3 then y.illCommit (4 * g + c) else y) s

theorem State.commitContinuous_ctrl (c : Nat) : (s.commitContinuous c).ctrl = s.ctrl := by
  refine State.ctrl_foldl _ (fun t g => ?_) _ _
  rw [apply_ite State.ctrl, State.illCommit_ctrl, ite_self]

theorem State.ntcTake_ctrl (c : Nat) (x : Rat) : (s.ntcTake c x).ctrl = s.ctrl := by
  unfold State.ntcTake
  rw [State.ctrl_mk]
  exact (State.draw_ctrl _).trans (State.set_ctrl ..)

include hsync hheld hoff

theorem State.ntcConvert_cool {x : Rat} (hrange : ¬ (o < 100 ∨ 2000000 < o))
    (hx : x = ntcTemp (s.get (ILL_NTC_BETA c)) (s.get (ILL_NTC_RNOM c)) o)
    (hcool : ¬ ((s.get (ILL_TCFG_TMAX c) : Nat) : Rat) < x) (hovt : s.flag (ILL_CSTAT_OVT c) = false) :
    s.ntcConvert c o = (s.ntcTake c x).commitContinuous c := by
  have hgo : ¬ (s.heldInReset 133 || s.rst.phase != .off) = true := by rw [hheld, hoff]; decide
  have hnovt : ¬ s.flag (ILL_CSTAT_OVT c) = true := by rw [hovt]; decide
  unfold State.ntcConvert
  dsimp only
  rw [State.illSync_none hsync, if_neg hgo, if_neg hrange, ← hx, if_neg (fun h => hcool h.1), if_neg (fun h => hnovt h.2)]
  rfl

end

/-! ### The sinks and lamps (R473 to R475) -/

section
variable {ch : Nat} (hheld : s.heldInReset 133 = false)
include hheld

theorem State.sinkTemp_hot : s.sinkTemp ch true = ((s.illOff ch).set (ILL_DIAG_SINKOT ch) 1).illHeat := by
  have hgo : ¬ s.heldInReset 133 = true := by rw [hheld]; decide
  exact (if_neg hgo).trans (if_pos rfl)

theorem State.sinkTemp_cool (hmode : ((s.set (ILL_DIAG_SINKOT ch) 0).illHeat).illMode ch ≠ 3) :
    s.sinkTemp ch false = (s.set (ILL_DIAG_SINKOT ch) 0).illHeat := by
  have hgo : ¬ s.heldInReset 133 = true := by rw [hheld]; decide
  exact (if_neg hgo).trans ((if_neg Bool.false_ne_true).trans (if_neg (fun h => hmode h.1)))

/-- The channel's record after a valid measurement (R474). -/
def State.lampSeen (s : State) (ch : Nat) : State :=
  (s.setIllCh ch { s.illCh ch with acc := 0, onAt := s.beat - 80, measured := s.beat }).set (ILL_DIAG_UNVER ch) 0

section
variable (hon : s.flag (ILL_DIAG_ON ch) = true) (hqual : 800 ≤ s.illQual ch)
include hon hqual

theorem State.lampMeasure_due : ¬ (s.heldInReset 133 || !s.flag (ILL_DIAG_ON ch) || decide (s.illQual ch < 800)) = true := by
  rw [hheld, hon, decide_eq_false (Nat.not_lt.mpr hqual)]
  decide

theorem State.lampMeasure_good {mv : Nat} (hmv : 150 ≤ mv) : s.lampMeasure ch mv = s.lampSeen ch :=
  (if_neg (State.lampMeasure_due hheld hon hqual)).trans (if_neg (Nat.not_lt.mpr hmv))

theorem State.lampMeasure_open {mv : Nat} {t : State} (hmv : mv < 150) (ht : t = ((s.lampSeen ch).illOff ch).set (ILL_DIAG_OPEN ch) 1) :
    s.lampMeasure ch mv = (t.setIllCh ch { t.illCh ch with stopped := true, acc := 0 }).pulse 0x030 (2 ^ ch) := by
  subst ht
  exact (if_neg (State.lampMeasure_due hheld hon hqual)).trans (if_pos hmv)

end

theorem State.lampShort_found (hoff : s.flag (ILL_DIAG_ON ch) = false) (hsup : s.flag ILL_CTL_SUPOK = true)
    (hnew : s.flag (ILL_DIAG_SHORT ch) = false) (hage : (s.illCh ch).offAt + 800 ≤ s.beat) :
    s.lampShort ch = (s.set (ILL_DIAG_SHORT ch) 1).pulse 0x030 (2 ^ ch) := by
  have hgo : ¬ (s.heldInReset 133 || s.flag (ILL_DIAG_ON ch) || !s.flag ILL_CTL_SUPOK || s.flag (ILL_DIAG_SHORT ch) ||
      decide (s.beat < (s.illCh ch).offAt + 800)) = true := by
    rw [hheld, hoff, hsup, hnew, decide_eq_false (Nat.not_lt.mpr hage)]
    decide
  exact if_neg hgo

theorem State.lampUnverified_due (hmode : s.illMode ch ≠ 0) (hnew : s.flag (ILL_DIAG_UNVER ch) = false)
    (hage : (s.illCh ch).measured + 1000 * beatsPerMs ≤ s.beat) :
    s.lampUnverified ch = (s.set (ILL_DIAG_UNVER ch) 1).pulse 0x031 (2 ^ ch) := by
  have hgo : (!s.heldInReset 133 && s.illMode ch != 0 && !s.flag (ILL_DIAG_UNVER ch) &&
      decide ((s.illCh ch).measured + 1000 * beatsPerMs ≤ s.beat)) = true := by
    rw [hheld, bne_iff_ne.mpr hmode, hnew, decide_eq_true hage]
    rfl
  exact if_pos hgo

end

/-! ### The neighbour test (R476) -/

theorem State.neighbourTest_starts (hheld : s.heldInReset 133 = false)
    (hmode : s.modeCode = mConfigure ∨ s.modeCode = mIdle ∨ s.modeCode = mCalibrate)
    (hdark : ((List.range 32).all (fun ch => !s.flag (ILL_DIAG_ON ch))) = true) (hnone : s.ill.ntest = none) :
    s.neighbourTest = ({ s with ill := { s.ill with ntest := some s.beat } } : State).set ILL_STAT_NBUSY 1 := by
  have hgo : ¬ s.heldInReset 133 = true := by rw [hheld]; decide
  have hmodes : (s.modeCode == mConfigure || s.modeCode == mIdle || s.modeCode == mCalibrate) = true := by
    rcases hmode with h | h | h <;> rw [h] <;> decide
  have hstart : ((s.modeCode == mConfigure || s.modeCode == mIdle || s.modeCode == mCalibrate) &&
      (List.range 32).all (fun ch => !s.flag (ILL_DIAG_ON ch)) && s.ill.ntest.isNone) = true := by
    rw [hmodes, hdark, hnone]
    rfl
  exact (if_neg hgo).trans (if_pos hstart)

theorem State.neighbourTest_running {b : Nat} (hheld : s.heldInReset 133 = false) (hrun : s.ill.ntest = some b) :
    s.neighbourTest = s.set ILL_STAT_CMDERR 1 := by
  have hgo : ¬ s.heldInReset 133 = true := by rw [hheld]; decide
  have hno : ¬ ((s.modeCode == mConfigure || s.modeCode == mIdle || s.modeCode == mCalibrate) &&
      (List.range 32).all (fun ch => !s.flag (ILL_DIAG_ON ch)) && s.ill.ntest.isNone) = true := by
    rw [hrun, Option.isNone_some, Bool.and_false]
    exact Bool.false_ne_true
  exact (if_neg hgo).trans (if_neg hno)

/-- The neighbour test over, with the shorts it found (R476). -/
def State.neighbourEnds (s : State) (shorts : Nat) : State :=
  ((({ s with ill := { s.ill with ntest := none } } : State).set ILL_STAT_NBUSY 0).set ILL_STAT_NDONE 1).set ILL_NBR_SHORTED shorts

theorem State.neighbourEnds_ctrl (shorts : Nat) : (s.neighbourEnds shorts).ctrl = s.ctrl :=
  ((State.set_ctrl ..).trans (State.set_ctrl ..)).trans (State.set_ctrl ..)

theorem State.neighbourDone_due {b : Nat} (shorts : Nat) (hrun : s.ill.ntest = some b) (hdue : b + 620 * beatsPerUs ≤ s.beat) :
    s.neighbourDone shorts =
      if shorts = 0 then (s.neighbourEnds shorts).illResume else ((s.neighbourEnds shorts).pulse 0x034).illResume := by
  unfold State.neighbourDone
  rw [hrun]
  exact if_neg (Nat.not_lt.mpr hdue)

end

/-- Settles O46: each command takes the branch its conditions select; a conversion within range and below TMAX changes the
temperature, the K and the continuous channels alone. -/
theorem illuminationDiagnostics : Obligations.IlluminationDiagnostics := by
  unfold Obligations.IlluminationDiagnostics
  refine ⟨fun s u v w c o x hs hsync hheld hoff hrange hx hu hv hw hcool hovt => ?_, fun s c o hsync hheld hoff hrange hsense => ?_,
    fun s ch hheld => ?_, fun s t ch hheld ht hmode => ?_, fun s ch mv hs hheld hon hqual hmv => ?_,
    fun s u t ch mv hheld hon hqual hmv hu ht => ?_, fun s ch hheld hoff hsup hnew hage => ?_, fun s ch hheld hmode hnew hage => ?_,
    fun s hs hheld hmode hdark hnone => ?_, fun s b hs hheld hrun => ?_, fun s b hs hrun hdue => ?_, fun s x b hrun hdue hx => ?_⟩
  · have htake : v = s.begin.ntcTake c.val x := by rw [hv, hu]; rfl
    have hpass : w = (s.begin.ntcTake c.val x).commitContinuous c.val := by rw [hw, htake]; rfl
    have hkeeps : w.ctrl = s.begin.ctrl := by rw [hpass, State.commitContinuous_ctrl, State.ntcTake_ctrl]
    have hconv := State.ntcConvert_cool (s := s.begin) hsync hheld hoff hrange hx hcool hovt
    exact State.next_of_rest hs (hconv.trans hpass.symm) hkeeps
  · exact State.next_settle (State.ntcConvert_open (s := s.begin) hsync hheld hoff hrange hsense)
  · exact State.next_settle (State.sinkTemp_hot (s := s.begin) hheld)
  · subst ht
    exact State.next_settle (State.sinkTemp_cool (s := s.begin) hheld hmode)
  · exact State.next_of_rest hs (State.lampMeasure_good (s := s.begin) hheld hon hqual hmv)
      ((State.set_ctrl ..).trans (State.setIllCh_ctrl ..))
  · subst hu
    exact State.next_settle (State.lampMeasure_open (s := s.begin) hheld hon hqual hmv ht)
  · exact State.next_settle (State.lampShort_found (s := s.begin) hheld hoff hsup hnew hage)
  · exact State.next_settle (State.lampUnverified_due (s := s.begin) hheld hmode hnew hage)
  · exact State.next_of_ctrl hs (State.neighbourTest_ctrl ..) (State.neighbourTest_starts (s := s.begin) hheld hmode hdark hnone)
  · exact State.next_of_ctrl hs (State.neighbourTest_ctrl ..) (State.neighbourTest_running (s := s.begin) hheld hrun)
  · exact State.next_of_rest hs ((State.neighbourDone_due (s := s.begin) 0 hrun hdue).trans (if_pos rfl))
      ((State.illResume_ctrl _).trans (State.neighbourEnds_ctrl 0))
  · exact State.next_settle ((State.neighbourDone_due (s := s.begin) _ hrun hdue).trans (if_neg hx))

end Sys2Proof.Machine
end

section
/-! PROOF (O47). Camera packets, the frames and lines of the contexts, triggers, slots and the record stream. -/
namespace Sys2Proof.Machine

section
variable {s : State}

/-! ### The camera stream of a head (R368, R451) -/

section
variable {n : Nat} {p : CamPacket} (hlive : s.hlLive n = true) (hl0 : s.inL0 n = true) (hver : 2 ≤ s.get (HL_STAT_VERSION n))
include hlive hl0 hver

theorem State.lpePacket_heard : ¬ (!s.hlLive n || !s.inL0 n || decide (s.get (HL_STAT_VERSION n) < 2)) = true := by
  rw [hlive, hl0, decide_eq_false (Nat.not_lt.mpr hver)]
  decide

theorem State.lpePacket_lost (hlost : p.overflow = true) : s.lpePacket n p = s.pulse 0x02D :=
  (if_neg (State.lpePacket_heard hlive hl0 hver)).trans (if_pos hlost)

variable (htaken : p.overflow = false)
include htaken

theorem State.lpePacket_bad (hbad : camOk p = false) : s.lpePacket n p = s.incSat (HL_ERRCNT_CAMCRC n) := by
  have hkept : ¬ p.overflow = true := by rw [htaken]; decide
  have hnok : (!camOk p) = true := by rw [hbad]; rfl
  exact (if_neg (State.lpePacket_heard hlive hl0 hver)).trans ((if_neg hkept).trans (if_pos hnok))

/-- A further line of the loupe frame under way replaces the line of its number (R451). -/
theorem State.lpePacket_line {w hh : Nat} (hok : camOk p = true) (hruns : s.imgRuns = true) (hen : s.flag (LPE_CTL_EN n) = true)
    (htyp : p.typ = 0x4C) (hfirst : p.flags.toNat.testBit 0 = false) (hactive : (s.lpe n).active = true)
    (hframe : (s.lpe n).frame = p.frame.toNat) (hgeom : s.lpeGeom n = (w, hh)) (hline : p.line.toNat < hh) (hcount : p.count.toNat = w)
    (hrows : (s.lpe n).rows.isEmpty = false) :
    s.lpePacket n p = s.setLpe n { s.lpe n with
      last := (p.line.toNat, s.beat),
      rows := (s.lpe n).rows.filter (fun r => r.1 != p.line.toNat) ++ [(p.line.toNat, p.pixels.map BitVec.toNat)] } := by
  have hkept : ¬ p.overflow = true := by rw [htaken]; decide
  have hnbad : ¬ (!camOk p) = true := by rw [hok]; decide
  have hon : ¬ (!s.imgRuns || !s.flag (LPE_CTL_EN n)) = true := by rw [hruns, hen]; decide
  have hnend : ¬ p.typ = 0x46 := by rw [htyp]; decide
  have hnother : ¬ p.typ ≠ 0x4C := fun h => h htyp
  have hsame : ¬ (p.flags.toNat.testBit 0 || !(s.lpe n).active || (s.lpe n).frame != p.frame.toNat) = true := by
    rw [hfirst, hactive, hframe, bne_self_eq_false]
    decide
  have hfits : ¬ (hh ≤ p.line.toNat ∨ p.count.toNat ≠ w) := by omega
  have hmore : ¬ (s.lpe n).rows.isEmpty = true := by rw [hrows]; decide
  unfold State.lpePacket
  dsimp only
  rw [if_neg (State.lpePacket_heard hlive hl0 hver), if_neg hkept, if_neg hnbad, if_neg hon, if_neg hnend, if_neg hnother,
    if_neg hsame, hgeom]
  dsimp only
  rw [if_neg hfits, if_neg hmore]

end

/-! ### Frames and lines of a context (R437, R441) -/

section
variable {c : Nat} {t : State} (hruns : s.imgRuns = true) (hen : s.flag (IMG_CTX_CTL_EN c) = true)
include hruns hen

theorem State.ctxEnabled : ¬ (!s.imgRuns || !s.flag (IMG_CTX_CTL_EN c)) = true := by
  rw [hruns, hen]
  decide

/-- The state in which a Frame Start opens the port's frame (R438). -/
def State.ctxOpen (t : State) (c : Nat) : State := t.setCtx c { t.ctx c with port := true, portLines := 0, latched := false }

/-- The frame record a Frame Start opens in the next slot (R441). -/
def State.ctxNewFrame (t : State) (c : Nat) : ImgFrame :=
  { frame := t.get (IMG_CTX_FRAME_FRAME c), gen := t.get (IMG_CTX_STAT_GEN c), fs := t.beat48, slot := (t.ctx c).next % t.ctxBufs c,
    set := t.ctxSet c }

theorem State.ctxFrameStart_drop (ht : t = (s.ctxFrameEnd c).incWrap (IMG_CTX_FRAME_FRAME c))
    (hslot : (t.get (IMG_CTX_SLOTS_FREE c)).testBit ((t.ctx c).next % t.ctxBufs c) = false) :
    s.ctxFrameStart c = (t.ctxOpen c).incSat (IMG_CTX_DROP_BUFDROP c) := by
  have hfull : (!(t.get (IMG_CTX_SLOTS_FREE c)).testBit ((t.ctx c).next % t.ctxBufs c)) = true := by rw [hslot]; rfl
  subst ht
  exact (if_neg (State.ctxEnabled hruns hen)).trans (if_pos hfull)

theorem State.ctxFrameStart_admit (ht : t = (s.ctxFrameEnd c).incWrap (IMG_CTX_FRAME_FRAME c))
    (hslot : (t.get (IMG_CTX_SLOTS_FREE c)).testBit ((t.ctx c).next % t.ctxBufs c) = true)
    (hdecide : (t.ctxOpen c).ctxDecide c = some []) :
    s.ctxFrameStart c =
      ((((t.ctxOpen c).setCtx c { (t.ctxOpen c).ctx c with
        cur := some (t.ctxNewFrame c), next := ((t.ctx c).next % t.ctxBufs c + 1) % t.ctxBufs c, lineFirst := 0, lineLast := 0 }).set
        (IMG_CTX_SLOTS_FREE c) (putBit (t.get (IMG_CTX_SLOTS_FREE c)) ((t.ctx c).next % t.ctxBufs c) false)).set
        (IMG_CTX_STAT_ACTIVE c) 1) := by
  have hfree : ¬ (!(t.get (IMG_CTX_SLOTS_FREE c)).testBit ((t.ctx c).next % t.ctxBufs c)) = true := by rw [hslot]; decide
  unfold State.ctxOpen at hdecide
  unfold State.ctxFrameStart
  dsimp only
  rw [if_neg (State.ctxEnabled hruns hen), ← ht, if_neg hfree, hdecide]
  rfl

/-- A good line of the frame at the port is added to it (R437). -/
theorem State.ctxLine_good {p : LinePacket} {f : ImgFrame} (hhead : p.headOk = true) (hport : (s.ctx c).port = true)
    (hvc : p.vc.val = s.get (IMG_CTX_CTL_VC c)) (hdt : p.dt.toNat = s.get (IMG_CTX_CTL_DT c)) (hlatched : (s.ctx c).latched = true)
    (htaken : p.overflow = false) (hcrc : p.crcOk = true) (hcur : (s.ctx c).cur = some f) (hroom : f.lines.length < f.set.height)
    (ht : t = s.setCtx c { s.ctx c with
      portLines := (s.ctx c).portLines + 1,
      lineFirst := if (s.ctx c).portLines = 0 then s.beat else (s.ctx c).lineFirst,
      lineLast := s.beat }) :
    s.ctxLine c p = t.setCtx c
      { t.ctx c with cur := some { f with lines := f.lines ++ [some (p.pixels.map BitVec.toNat)], bad := f.bad } } := by
  have hgo : ¬ (!s.imgRuns || !s.flag (IMG_CTX_CTL_EN c) || !p.headOk || !(s.ctx c).port || p.vc.val != s.get (IMG_CTX_CTL_VC c) ||
      p.dt.toNat != s.get (IMG_CTX_CTL_DT c)) = true := by
    rw [hruns, hen, hhead, hport, hvc, hdt, bne_self_eq_false, bne_self_eq_false]
    decide
  have hstays : ∀ (k : Nat), ¬ (!(s.ctx c).latched && decide (k ≤ (s.ctx c).portLines)) = true := by
    intro k
    rw [hlatched]
    exact Bool.false_ne_true
  have hkept : ¬ p.overflow = true := by rw [htaken]; decide
  subst ht
  unfold State.ctxLine
  dsimp only
  rw [if_neg hgo, if_neg (hstays _), if_neg hkept, hcur]
  dsimp only
  rw [if_neg (Nat.not_le.mpr hroom), hcrc]
  rfl

end

section
variable {c : Nat} (hport : (s.ctx c).port = true) (hlatched : (s.ctx c).latched = true)
include hport hlatched

theorem State.ctxFrameEnd_none (hcur : (s.ctx c).cur = none) : s.ctxFrameEnd c = s.setCtx c { s.ctx c with port := false } := by
  have hgo : ¬ (!(s.ctx c).port) = true := by rw [hport]; decide
  unfold State.ctxFrameEnd
  dsimp only
  rw [if_neg hgo, if_pos hlatched, hcur]

/-- A frame with all its lines and a measured rate ends (R437, R440). -/
theorem State.ctxFrameEnd_full {f : ImgFrame} {r : Rat} (hcur : (s.ctx c).cur = some f) (hfull : f.set.height ≤ f.lines.length)
    (hlines : 2 ≤ (s.ctx c).portLines) (hspan : (s.ctx c).lineFirst < (s.ctx c).lineLast)
    (hr : r = (f.set.width : Rat) * 400000000 * (((s.ctx c).portLines - 1 : Nat) : Rat) /
      (((s.ctx c).lineLast - (s.ctx c).lineFirst : Nat) : Rat)) :
    s.ctxFrameEnd c = (((s.set (IMG_CTX_MRATE_R_C c) (roundIn (r / 1000000) s.freeNext 4095)).draw.setCtx c { s.ctx c with
      port := false, cur := none, done := (s.ctx c).done ++ [{ f with short := false }], rate := some r }).set (IMG_CTX_STAT_ACTIVE c) 0) := by
  have hgo : ¬ (!(s.ctx c).port) = true := by rw [hport]; decide
  unfold State.ctxFrameEnd
  dsimp only
  rw [if_neg hgo, if_pos hlatched, hcur]
  dsimp only
  rw [decide_eq_false (Nat.not_lt.mpr hfull), if_neg Bool.false_ne_true, if_pos ⟨hlines, hspan⟩, ← hr]

end

/-- An ended frame with the display output alone is written (R447, R448). -/
theorem State.ctxComplete_display {c a : Nat} {f : ImgFrame} {l : List ImgFrame} (e : Ecc) (hruns : s.imgRuns = true)
    (hdone : (s.ctx c).done = f :: l)
    (ha : a = s.pair (IMG_CTX_BASE_LO_ADDR c) (IMG_CTX_BASE_HI_ADDR c) + f.slot * (64 * s.get (IMG_CTX_STRIDE_VALUE c)))
    (hdisp : f.set.disp = true) (hcode : f.set.code = false) (hmv : f.set.mv = false) (hstat : f.set.stat = false) :
    s.ctxComplete c e =
      ((({ s.setCtx c { s.ctx c with done := l } with free := s.free + pixDraws } : State).imgWrite e
        (f.display s.pixFree (a + 64 * s.get (IMG_CTX_DISPOFS_VALUE c)))).set (IMG_CTX_SLOTS_LASTSLOT c) f.slot).pulseLine (26 + c) := by
  have hgo : ¬ (!s.imgRuns) = true := by rw [hruns]; decide
  unfold State.ctxComplete
  dsimp only
  rw [hdone]
  dsimp only
  rw [if_neg hgo, ← ha, hdisp, hcode, hmv, hstat, if_pos rfl, if_neg Bool.false_ne_true, if_neg Bool.false_ne_true,
    if_neg Bool.false_ne_true, List.append_nil, List.append_nil, List.append_nil]

/-! ### Triggers, slots and the enable of a context (R439, R450, R462) -/

section
variable {c : Nat} (hruns : s.imgRuns = true)
include hruns

theorem State.camera_soft : s.camera c true = (s.camPulse c (s.beat + 1)).illTrigger c (s.beat + 1) := by
  have hsoft : s.camSoft c = (true, s.camPulse c (s.beat + 1)) := if_pos hruns
  unfold State.camera
  rw [if_pos rfl, hsoft]
  rfl

section
variable (hen : s.flag (IMG_CTX_TRIG_TRIGEN c) = true) (hwait : (s.ctx c).trigWait = false) (hdue : s.camDue c = true)
include hen hwait hdue

theorem State.camTrigger_due :
    s.camTrigger c =
      if s.camReady c then (true, s.camPulse c s.beat) else (false, s.setCtx c { s.ctx c with trigWait := true }) := by
  have hgo : ¬ (!s.imgRuns || !s.flag (IMG_CTX_TRIG_TRIGEN c)) = true := by rw [hruns, hen]; decide
  have hnew : ¬ ((s.ctx c).trigWait && s.camReady c) = true := by
    rw [hwait]
    exact Bool.false_ne_true
  exact (if_neg hgo).trans ((if_neg hnew).trans (if_pos hdue))

theorem State.camera_starts (hready : s.camReady c = true) : s.camera c false = (s.camPulse c s.beat).illTrigger c s.beat := by
  unfold State.camera
  rw [if_neg Bool.false_ne_true, State.camTrigger_due hruns hen hwait hdue, if_pos hready]
  rfl

theorem State.camera_waits (hready : s.camReady c = false) : s.camera c false = s.setCtx c { s.ctx c with trigWait := true } := by
  have hnot : ¬ s.camReady c = true := by rw [hready]; decide
  unfold State.camera
  rw [if_neg Bool.false_ne_true, State.camTrigger_due hruns hen hwait hdue, if_neg hnot]
  rfl

end

end

theorem bit_or_two_pow_self (v i : Nat) : bit (v ||| 2 ^ i) i = true := by
  unfold bit
  rw [Nat.testBit_or, Nat.testBit_two_pow_self, Bool.or_true]

theorem State.ctxCtlWrite_enable {c v : Nat} {u : State} (hheld : s.heldInReset 132 = false) (hoff : s.flag (IMG_CTX_CTL_EN c) = false)
    (hv : bit v 31 = true)
    (hu : u = ((s.ctxCtlFields c v).set (IMG_CTX_CTL_CFA c) (bits v 5 4)).set (IMG_CTX_CTL_PHASE c) (bits v 3 0))
    (hcfa : u.get (IMG_CTX_CTL_CFA c) = s.get (IMG_CTX_CTL_CFA c)) (hphase : u.get (IMG_CTX_CTL_PHASE c) = s.get (IMG_CTX_CTL_PHASE c)) :
    s.ctxCtlWrite c v = ((((((u.ctxCommit c).setCtx c {}).set (IMG_CTX_CTL_EN c) 1).set (IMG_CTX_SLOTS_FREE c) (2 ^ u.ctxBufs c - 1)).set
      (IMG_CTX_FRAME_FRAME c) 0).ctxShowRate c) := by
  have hgo : ¬ s.heldInReset 132 = true := by rw [hheld]; decide
  have hsets : (bit v 31 && !s.flag (IMG_CTX_CTL_EN c)) = true := by rw [hv, hoff]; rfl
  unfold State.ctxCtlWrite
  dsimp only
  rw [if_neg hgo, if_pos hsets, ← hu, if_pos ⟨hcfa, hphase⟩]

/-! ### The record stream (R458) -/

/-- The state in which the record of source `k` is on its way to the ring. -/
def State.mprSent (s : State) (k : Nat) : State :=
  { s.mprPop k with img := { (s.mprPop k).img with rr := (k + 1) % 48, mprFar := true } }

theorem State.mprSent_ctrl (k : Nat) : (s.mprSent k).ctrl = s.ctrl := by
  unfold State.mprSent
  rw [State.ctrl_mk]
  exact State.mprPop_ctrl ..

theorem State.mprWrite_issues {k a : Nat} {r : List Nat} (e : Ecc) (hown : (s.mprPop k).own = []) (hheld : s.heldInReset 132 = false)
    (hen : s.flag IMG_CTL_MPREN = true) (hroom : s.mprRoom ≠ 0) (hfar : s.img.mprFar = false)
    (hreqs : s.skz.reqs.any (fun r => r.own == some 1) = false)
    (hturn : ((List.range 48).map (fun i => (s.img.rr + i) % 48)).find? (fun k => (s.mprSource k).isSome) = some k)
    (hrec : s.mprSource k = some r)
    (ha : a = (s.pair IMG_MPR_BASE_LO_ADDR IMG_MPR_BASE_HI_ADDR + 32 * s.get IMG_MPR_WPTR_WPTR) % 2 ^ 40) :
    s.mprWrite e = { s.mprSent k with own := [.issue 1 a (words32 r) e] } := by
  have hgo : ¬ (s.heldInReset 132 || !s.flag IMG_CTL_MPREN || s.mprRoom == 0 || s.img.mprFar ||
      s.skz.reqs.any (fun r => r.own == some 1)) = true := by
    rw [hheld, hen, beq_false_of_ne hroom, hfar, hreqs]
    decide
  unfold State.mprWrite
  dsimp only
  rw [if_neg hgo, hturn]
  dsimp only
  rw [hown, hrec, ← ha]
  rfl

theorem State.mprEnded_ok (hfar : s.img.mprFar = true) :
    s.mprEnded true = ({ s with img := { s.img with mprFar := false } } : State).set IMG_MPR_WPTR_WPTR
      ((s.get IMG_MPR_WPTR_WPTR + 1) % s.mprSize) := by
  have hgo : ¬ (!s.img.mprFar) = true := by rw [hfar]; decide
  exact (if_neg hgo).trans (if_pos rfl)

end

/-- Settles O47: each command takes the branch its conditions select; the record of the stream is stored by the block's own
write, whose end moves the write pointer on. -/
theorem imagingCommands : Obligations.ImagingCommands := by
  unfold Obligations.ImagingCommands
  refine ⟨fun s n p w hh hs hlive hl0 hver htaken hok hruns hen htyp hfirst hactive hframe hgeom hline hcount hrows => ?_,
    fun s n p hs hlive hl0 hver htaken hbad => ?_, fun s n p hlive hl0 hver hlost => ?_,
    fun s t c hruns hen ht hslot u hu hdecide => ?_, fun s t c hruns hen ht hslot => ?_,
    fun s t c p f hs hruns hen hhead hport hvc hdt hlatched htaken hcrc hcur hroom ht => ?_,
    fun s t c f r hs hruns hport hlatched hcur hfull hlines hspan hr ht => ?_, fun s c hs hruns hport hlatched hcur => ?_,
    fun s c e f l a hruns hdone ha hdisp hcode hmv hstat => ?_, fun s c hs hruns hen hwait hdue hready => ?_,
    fun s c hs hruns hen hwait hdue hready => ?_, fun s c hs hruns => ?_, fun s c v hs hheld => ?_,
    fun s u c v hs hheld hoff hu hcfa hphase => ?_,
    fun s u k a r hs hheld hen hroom hfar hreqs hturn hrec ha hdram hsys hspan hu => ?_⟩
  · exact State.next_of_rest hs (State.lpePacket_line (s := s.begin) hlive hl0 hver htaken hok hruns hen htyp hfirst hactive hframe hgeom
      hline hcount hrows) (State.setLpe_ctrl ..)
  · exact State.next_of_rest hs (State.lpePacket_bad (s := s.begin) hlive hl0 hver htaken hbad) (State.incSat_ctrl ..)
  · exact State.next_settle (State.lpePacket_lost (s := s.begin) hlive hl0 hver hlost)
  · subst hu
    exact State.next_settle (State.ctxFrameStart_admit (s := s.begin) hruns hen ht hslot hdecide)
  · exact State.next_settle (State.ctxFrameStart_drop (s := s.begin) hruns hen ht hslot)
  · have hline := State.ctxLine_good (s := s.begin) hruns hen hhead hport hvc hdt hlatched htaken hcrc hcur hroom ht
    exact State.next_of_rest hs hline (by rw [State.setCtx_ctrl, ht, State.setCtx_ctrl])
  · subst ht
    have hend : (if s.begin.imgRuns then s.begin.ctxFrameEnd c.val else s.begin) = s.begin.ctxFrameEnd c.val := if_pos hruns
    exact State.next_of_ctrl hs ((congrArg State.ctrl hend).trans (State.ctxFrameEnd_ctrl ..))
      (hend.trans (State.ctxFrameEnd_full (s := s.begin) hport hlatched hcur hfull hlines hspan hr))
  · have hend : (if s.begin.imgRuns then s.begin.ctxFrameEnd c.val else s.begin) = s.begin.ctxFrameEnd c.val := if_pos hruns
    exact State.next_of_ctrl hs ((congrArg State.ctrl hend).trans (State.ctxFrameEnd_ctrl ..))
      (hend.trans (State.ctxFrameEnd_none (s := s.begin) hport hlatched hcur))
  · exact State.next_settle (State.ctxComplete_display (s := s.begin) e hruns hdone ha hdisp hcode hmv hstat)
  · exact State.next_of_ctrl hs (State.camera_ctrl ..) (State.camera_starts (s := s.begin) hruns hen hwait hdue hready)
  · exact State.next_of_ctrl hs (State.camera_ctrl ..) (State.camera_waits (s := s.begin) hruns hen hwait hdue hready)
  · exact State.next_of_ctrl hs (State.camera_ctrl ..) (State.camera_soft (s := s.begin) hruns)
  · have hgo : ¬ s.begin.heldInReset 132 = true := by rw [show s.begin.heldInReset 132 = false from hheld]; decide
    exact State.next_of_ctrl hs (State.ctxRelease_ctrl ..) (if_neg hgo)
  · exact State.next_of_ctrl hs (State.ctxCtlWrite_ctrl ..)
      (State.ctxCtlWrite_enable (s := s.begin) hheld hoff (bit_or_two_pow_self v.toNat 31) hu hcfa hphase)
  · have hown : (s.begin.mprPop k).own = [] := congrArg (fun x => x.2.2) (State.mprPop_ctrl s.begin k)
    have hissue := State.mprWrite_issues (s := s.begin) .clean hown hheld hen hroom hfar hreqs hturn hrec ha
    have hflag : u.img.mprFar = true := by
      rw [hu]
      exact State.store_keeps (fun t => t.img.mprFar) (fun _ _ _ => rfl) ..
    have hwrite := (State.ownWrite_dram (s := s.begin.mprSent k) (k := 1) (m := 6) hsys hdram hspan rfl).trans
      ((congrArg (fun t : State => t.ownEnded 1 true) hu.symm).trans (State.mprEnded_ok hflag))
    have hctrl : u.ctrl = s.begin.ctrl := by
      rw [hu]
      exact (State.store_ctrl ..).trans (State.mprSent_ctrl k)
    refine (State.next_settle hissue).trans (congrArg Host.Outcome.next ((State.own_settle s _ _ hs (State.mprSent_ctrl k) ?_).trans hwrite))
    rw [hwrite, State.set_ctrl]
    exact hctrl

end Sys2Proof.Machine
end
